-- ==== Sys2Proof/Word.lean ====
section
/-! DEFINITION. The word types of the part and their plainest arithmetic: bytes, words, register field values
(a field is a number below 2 to its width), signed readings of fields, and exact non-negative fractions for powers. -/

namespace Sys2Proof

/-- A byte, as host memory, Cask buffers, Tun memories and the boot flash hold it. -/
abbrev Byte := BitVec 8

/-- A 32-bit word, as a Tun register holds it. -/
abbrev Word := BitVec 32

/-- An exact non-negative fraction: a power relative to full scale, a correlation ratio. Never normalised. -/
structure Frac where
  num : Nat
  den : Nat
deriving DecidableEq, Repr, Inhabited

/-- The fraction 0. -/
def Frac.zero : Frac := ⟨0, 1⟩

/-- Addition of fractions. -/
def Frac.add (a b : Frac) : Frac := ⟨a.num * b.den + b.num * a.den, a.den * b.den⟩

/-- A fraction times a natural number over another. -/
def Frac.scale (a : Frac) (n d : Nat) : Frac := ⟨a.num * n, a.den * d⟩

/-- Product of fractions. -/
def Frac.mul (a b : Frac) : Frac := ⟨a.num * b.num, a.den * b.den⟩

/-- Order of fractions with non-zero denominators, by cross multiplication. -/
def Frac.le (a b : Frac) : Bool := a.num * b.den ≤ b.num * a.den

/-- Strict order of fractions with non-zero denominators. -/
def Frac.lt (a b : Frac) : Bool := a.num * b.den < b.num * a.den

/-- Bits lo to lo + w - 1 of a natural number. -/
def bitsAt (n lo w : Nat) : Nat := n / 2 ^ lo % 2 ^ w

/-- The number n with bits lo to lo + w - 1 replaced by v. -/
def putBits (n lo w v : Nat) : Nat :=
  n / 2 ^ (lo + w) * 2 ^ (lo + w) + v % 2 ^ w * 2 ^ lo + n % 2 ^ lo

/-- Two's-complement reading of a w-bit field. -/
def signedOf (w n : Nat) : Int := if n < 2 ^ (w - 1) then (n : Int) else (n : Int) - (2 ^ w : Nat)

/-- The w-bit field that two's complement gives an integer. -/
def fieldOf (w : Nat) (i : Int) : Nat := (i % ((2 ^ w : Nat) : Int)).toNat

/-- One as 1, otherwise 0. -/
def bit (b : Bool) : Nat := if b then 1 else 0

end Sys2Proof
end

