-- ==== Sys2Proof/Machine/Maps.lean ====
section
/-! DEFINITION. Sparse tables: lists of (key, value) pairs in strictly rising key order, the form in which the state
keeps register fields, node entries, queues and every other large array; and byte memories in the same form with no
entry equal to 0, what an unlisted byte reads as. -/

namespace Sys2Proof.Machine

/-- A sparse table: pairs in strictly rising key order. -/
abbrev Tbl (α : Type) := List (Nat × α)

/-- The value a table holds at a key. -/
def Tbl.find? {α : Type} : Tbl α → Nat → Option α
  | [], _ => none
  | (k, v) :: m, i => if k = i then some v else Tbl.find? m i

/-- The value a table holds at a key, or a default. -/
def Tbl.getD {α : Type} (m : Tbl α) (i : Nat) (d : α) : α := (Tbl.find? m i).getD d

/-- Puts a value at a key, keeping the order. -/
def Tbl.put {α : Type} : Tbl α → Nat → α → Tbl α
  | [], i, a => [(i, a)]
  | (k, v) :: m, i, a =>
    if i < k then (i, a) :: (k, v) :: m
    else if i = k then (i, a) :: m
    else (k, v) :: Tbl.put m i a

/-- Removes a key. -/
def Tbl.erase {α : Type} (m : Tbl α) (i : Nat) : Tbl α := m.filter fun p => p.1 ≠ i

/-- Whether a table holds a key. -/
def Tbl.has {α : Type} (m : Tbl α) (i : Nat) : Bool := (Tbl.find? m i).isSome

/-- Strictly rising keys. -/
def Tbl.wf {α : Type} : Tbl α → Bool
  | [] => true
  | [_] => true
  | (k, _) :: (k', v') :: m => decide (k < k') && Tbl.wf ((k', v') :: m)

/-- The lowest natural number from `i` on, `fuel` tried, that the table does not hold. -/
def Tbl.lowestFree {α : Type} (m : Tbl α) : Nat → Nat → Option Nat
  | 0, _ => none
  | fuel + 1, i => if Tbl.has m i then Tbl.lowestFree m fuel (i + 1) else some i

/-- A byte memory: Host.Cell pairs in strictly rising address order, no entry 0; an unlisted byte reads 0. -/
abbrev Memory := List Host.Cell

/-- One byte of a memory. [DESIGN CHOICE, log entry 4] -/
def Memory.read (m : Memory) (a : Nat) : Byte := Tbl.getD m a 0

/-- Writes one byte, keeping the canonical form. -/
def Memory.write (m : Memory) (a : Nat) (b : Byte) : Memory :=
  if b = 0 then Tbl.erase m a else Tbl.put m a b

/-- The canonical form: strictly rising addresses, no byte 0 listed. -/
def Memory.wf (m : Memory) : Bool := Tbl.wf m && m.all fun c => c.2 ≠ 0

/-- The n bytes from an address on. -/
def Memory.readBytes (m : Memory) (a : Nat) : Nat → List Byte
  | 0 => []
  | n + 1 => Memory.read m a :: Memory.readBytes m (a + 1) n

/-- Writes bytes from an address on. -/
def Memory.writeBytes (m : Memory) (a : Nat) : List Byte → Memory
  | [] => m
  | b :: bs => Memory.writeBytes (Memory.write m a b) (a + 1) bs

/-- Inserts into a sorted list, after its equals. -/
def insertBy {α : Type} (le : α → α → Bool) (x : α) : List α → List α
  | [] => [x]
  | y :: l => if le y x then y :: insertBy le x l else x :: y :: l

/-- Sorts a list, keeping the order of equals. -/
def sortBy {α : Type} (le : α → α → Bool) (l : List α) : List α := l.foldl (fun acc x => insertBy le x acc) []

/-- Little-endian value of bytes (R236). -/
def leVal : List Byte → Nat
  | [] => 0
  | b :: bs => b.toNat + 256 * leVal bs

/-- The n little-endian bytes of a number (R236). -/
def leBytes : Nat → Nat → List Byte
  | 0, _ => []
  | n + 1, v => BitVec.ofNat 8 v :: leBytes n (v / 256)

/-- Big-endian value of bytes. -/
def beVal (bs : List Byte) : Nat := bs.foldl (fun acc b => acc * 256 + b.toNat) 0

/-- The n big-endian bytes of a number. -/
def beBytes (n v : Nat) : List Byte := (leBytes n v).reverse

/-- Bytes i to i + n − 1 of a list, 0 beyond its end. -/
def sliceB (bs : List Byte) (i n : Nat) : List Byte := ((bs.drop i).take n) ++ List.replicate (n - (bs.length - i)) 0

/-- Little-endian value of n bytes at i. -/
def leAt (bs : List Byte) (i n : Nat) : Nat := leVal (sliceB bs i n)

/-- Big-endian value of n bytes at i. -/
def beAt (bs : List Byte) (i n : Nat) : Nat := beVal (sliceB bs i n)

/-! ### CRC-32 -/

/-- One step of the reflected CRC-32 over a byte. -/
def crcByte (c : Nat) (b : Byte) : Nat :=
  (List.range 8).foldl (fun c _ => if c % 2 = 1 then c / 2 ^^^ 0xEDB88320 else c / 2) (c ^^^ b.toNat)

/-- The CRC-32 of bytes. [PRESUMED, log entry 201] -/
def crc32 (l : List Byte) : Nat := l.foldl crcByte (2 ^ 32 - 1) ^^^ (2 ^ 32 - 1)

end Sys2Proof.Machine
end

