-- ==== Sys2Proof/Syntax.lean ====
section
/-! DEFINITION. The commands of the part: one constructor of `Instr` per row of spec/opcode_table.json, with the
operands the spec gives the step, and the operand types. Every row is a host access, a pin or supply event, a tick,
the end of an operation, an on-air or network event, one word of a SEQ program or one instruction of a Tun core.
An operand is what comes from outside the part's digital state: a written value, a pin, a measured quantity. -/

namespace Sys2Proof

/-- A peak of a 128 µs gain window against the two limits of R87: above −6 dBFS, between them, below −24 dBFS. -/
inductive PeakClass where
  | high
  | mid
  | low
deriving DecidableEq, Repr

/-- A preamble crossing as the ladder measures it (R130): channel k of context ctx, N or W, rate code, code set,
ρ = |C| / A and |C| / L as fractions (the latter a power relative to full scale, input referred), the offset in Hz, the
sample phase with the largest |C|, and whether the candidate before it arose in the same FCLK cycle (R132). -/
structure Candidate where
  ctx : Fin 512
  w : Bool
  chan : Fin 256
  rate : Fin 5
  codeSet : Fin 4
  rho : Frac
  power : Frac
  offsetHz : Int
  phase : Fin 8
  sameCycle : Bool
deriving DecidableEq, Repr

/-- A channel's mean power over a window, referred to the context input and relative to full scale (R137, R140). -/
structure ChanPower where
  w : Bool
  chan : Fin 256
  power : Frac
deriving DecidableEq, Repr

/-- One symbol as the samples give it (R144 to R146): the index in the stream of its first sample; of each chip the
matched filter's output, de-rotated by the frozen offset and with the MSK quarter turn removed, and whether its samples
were erased; and the symbol energies that the earlier and the later sample phase gave. -/
structure SymbolIn where
  first : Nat
  chips : List (Int × Int)
  erased : List Bool
  early : Nat
  late : Nat
deriving DecidableEq, Repr

/-- Where a tracker's sync word may end (R134): how many symbols it has decided since its freeze, the last one's located end
in sixteenths of a channel sample, and the correlated power. -/
structure SyncEnd where
  since : Nat
  pos : Nat
  power : Frac
deriving DecidableEq, Repr

/-- A tracker whose sync word may match (R134), with its last 32 decisions. -/
structure SyncHit where
  t : Fin 2048
  decided : BitVec 32
  peak : SyncEnd
deriving DecidableEq, Repr

/-- An RDS block as demodulated (R186): its 26 bits, the first received the most significant, whether it stands right after
the block before, and the ns since its first bit. -/
structure RdsIn where
  bits : BitVec 26
  follows : Bool
  backNs : Nat
deriving DecidableEq, Repr

/-- What a tamper source of R295 measures: TAMPER_N[k] low for so many ns; VDD_H or VSTBY at so many µV for so many ns; the
reference at so many Hz, 0 for absent, for so many ns; a head die's temperature in tenths of a degree Celsius. -/
inductive TamperSource where
  | pin (k : Fin 4) (ns : Nat)
  | vddH (uv ns : Nat)
  | vstby (uv ns : Nat)
  | clock (hz ns : Nat)
  | temperature (head : Fin 2) (tenths : Int)
deriving DecidableEq, Repr

/-- A Tun core (R340): core k of the head dies, which run in lockstep, or core k of field die f. -/
inductive TunCore where
  | head (k : Fin 8)
  | field (f : Fin 6) (k : Fin 4)
deriving DecidableEq, Repr

/-- The four addressing modes of R347. -/
inductive AddrMode where
  | offset (simm12 : BitVec 12)
  | postInc
  | preDec
  | indexed (s : Fin 4) (i : Fin 16)
deriving DecidableEq, Repr

/-- The register fields and element size of a BLK (R345 format K, R348). -/
structure BlkArgs where
  d : Fin 16
  s : Fin 16
  n : Fin 16
  v : Fin 16
  size : Fin 4
deriving DecidableEq, Repr

/-- What a host access addresses in a head's function: its BAR0, its BAR2, or its configuration space (R12, R359). -/
inductive BusSpace where
  | bar0
  | bar2
  | config
deriving DecidableEq, Repr

/-- A host access: its space, offset and size in bytes (R364). -/
structure BusAccess where
  space : BusSpace
  offset : Nat
  size : Nat
deriving DecidableEq, Repr

/-- An access to BAR2. -/
abbrev BusAccess.bar2 (a : BusAccess) : Bool := a.space = .bar2

/-- A hardware error as the detecting unit reports it (R220, R310, R342). -/
inductive HwError where
  /-- Any unit of the table of R310: corrected or uncorrectable, with the address and detail it logs. -/
  | ofUnit (die : Fin 8) (unit : BitVec 12) (uncorrectable : Bool) (addr : BitVec 64) (detail : BitVec 32)
  /-- A corrected error in the state of queue q (R220). -/
  | caskStateCorrected (q : Fin 1048576)
  /-- A corrected error in Cask buffer b (R220). -/
  | caskBufferCorrected (b : Fin 67108864)
  /-- An uncorrectable header or payload word met at the take of queue q's item (R220). -/
  | caskItem (q : Fin 1048576)
  /-- One copy of a link word of queue q lost; the other is used (R220). -/
  | caskLinkOne (q : Fin 1048576)
  /-- Both copies of a link word of queue q lost (R220). -/
  | caskLinkBoth (q : Fin 1048576)
  /-- The state of queue q uncorrectable (R220). -/
  | caskState (q : Fin 1048576)
  /-- Stored bits of node-table entry ix have flipped: its word, its parity bits. The next lookup detects it (R204). -/
  | nodeBits (ix : Fin 1114112) (word : BitVec 128) (par : BitVec 4)
  /-- A word of a Tun core's TCM or shared memory: corrected, or uncorrectable on an access (R342). -/
  | tunWord (c : TunCore) (uncorrectable : Bool) (addr : BitVec 32)
deriving DecidableEq, Repr

/-- What a data walk of R238 meets in host memory: the bytes it reads (unlisted bytes read 0), and the address at
which a read completes with an error status, if one does. -/
structure WalkIn where
  mem : List (Nat × Byte)
  errAt : Option Nat
deriving DecidableEq, Repr

/-- The commands of the part, one constructor per row of spec/opcode_table.json, in the table's order. An operand with a
default has it in a command that is written without that operand. -/
inductive Instr where
  /-- COLD_START (R326). VSTBY rising through 1.62 V begins the start-up order at step 1. -/
  | coldStart (ws1 ws0 : Bool)
  /-- PGOOD_RISE (R326). PGOOD[n] rising completes the rail-enable step and lets the next step begin. -/
  | pgoodRise (n : Fin 4) (refSel : Bool := false)
  /-- PGOOD_FALL (R326). PGOOD[n] low for 10 µs after its step has passed drops PWR_EN and returns the part to Night with code 0x18 + n. -/
  | pgoodFall (n : Fin 4)
  /-- START_UP_TIMEOUT (R326). A start-up step misses its timeout, so the part drops PWR_EN in descending order and returns to Night with the step's fault code. -/
  | startUpTimeout
  /-- OSC_RDY (R326). The reference oscillator is stable, so memory repair and initialisation begin. -/
  | oscRdy
  /-- MEM_RDY (R326). Memories are initialised, so the PLLs lock at Noon and reset is released. -/
  | memRdy
  /-- LOGIC_RDY (R326). Logic is out of reset: the time counter loads the epoch, Kiln enters SELFTEST and the boot ROM starts. -/
  | logicRdy (tamper : List TamperSource := [])
  /-- BOOT_RDY (R327). The boot ROM finishes, releases the PCI Express functions and raises source 0 after a wake. -/
  | bootRdy (pulses : Nat := 0)
  /-- RESET_N_ASSERT (R37). RESET_N low holds everything except the watch domain in reset. -/
  | resetNAssert
  /-- RESET_N_RELEASE (R326). RESET_N release runs start-up steps 3 to 5 and leaves WAKE_CAUSE unchanged. -/
  | resetNRelease
  /-- NIGHT_CTL_WRITE (R323). A write of WATCH.NIGHT_CTL with KEY 0x4E and GO begins quiescing for Night, or is rejected. -/
  | nightCtlWrite (v : BitVec 32)
  /-- NIGHT_COMMIT (R323). Once in-flight writes have drained, NIGHT_CNT increments and ENTRY is set. -/
  | nightCommit
  /-- WAKE_ARM (R323). 4 µs after commit the wake detectors are armed and the power-down begins. -/
  | wakeArm (wakeNLow : Bool)
  /-- PWR_EN_DROP (R323). The next PWR_EN output drops, 1 ms after the one before, in descending order. -/
  | pwrEnDrop
  /-- ADDRESS_MATCH (R324). An address byte matching the watch slave is acknowledged and wakes the part. -/
  | addressMatch (byte : BitVec 8) (first : Bool := true)
  /-- WAKE_N (R324). WAKE_N held low for at least 10 µs wakes the part, subject to R325. -/
  | wakeN
  /-- THERMAL_TRIP (R35). A die reaches 125 °C: the watch domain drops PWR_EN, records the cause, drives FAULT_N low and enters Night. -/
  | thermalTrip (die : Fin 8)
  /-- TEMP_SAMPLE (R33). The 128 µs temperature sample updates die temperatures and applies the warning and drop thresholds. -/
  | tempSample (readings : List (List Int))
  /-- THERMAL_DROP (R320). A called-for drop sets the die's level request to Afternoon and sheds load before FCLK is lowered. -/
  | thermalDrop (die : Fin 8)
  /-- DROP_RELEASE (R33). After 16 consecutive mesh cycles below 105 °C the drop is released and source 6 is raised. -/
  | dropRelease (die : Fin 8)
  /-- LEVEL_REQ_WRITE (R317). A write of PWR.LEVEL_REQ is judged as a whole and accepted, rejected with BAD_FIELD or dropped as BUSY. -/
  | levelReqWrite (v : BitVec 32)
  /-- LEVEL_CHANGE_START (R318). At the next slot start an accepted level change begins, voltage first to raise and clock first to lower. -/
  | levelChangeStart
  /-- PMIC_WRITE_DONE (R318). A PM I2C rail write ends, and the next rail write or the settle wait follows. -/
  | pmicWriteDone (acked : Bool)
  /-- VSETTLE_EXPIRY (R318). The VSETTLE_US wait after the rail writes ends, and the clock step follows when the level is being raised. -/
  | vsettleExpiry
  /-- PLL_GLIDE_DONE (R318). The 64 µs HPLL or FPLL glide to the new rate ends. -/
  | pllGlideDone
  /-- DUSK_REQ_WRITE (R321). A write of PWR.DUSK.REQ requests entry to or exit from Dusk, or is rejected with BAD_FIELD. -/
  | duskReqWrite (v : BitVec 32)
  /-- DUSK_ENTRY (R321). At the cycle boundary the part moves every die to Evening, halts the policy cores and disables the links not marked DUSK. -/
  | duskEntry
  /-- DUSK_EXIT (R321). At the cycle boundary the remembered links are re-enabled and the policy cores resume. -/
  | duskExit
  /-- PM_I2C_ENABLE (R328). Writing PM_I2C.EN from 0 to 1 runs the bus check and recovery pulses, or sets BUS_STUCK. -/
  | pmI2cEnable (v : BitVec 32) (pulses : Nat)
  /-- PM_SCL_TIMEOUT (R328). PM_SCL held low for more than 25 ms fails the transaction and starts bus recovery. -/
  | pmSclTimeout (pulses : Nat)
  /-- TIME_TICK (R47). Each reference cycle adds TIME.ADDEND to the time counter, with carries into seconds. -/
  | timeTick (cycles : Nat)
  /-- TIME_SET (R48). A TIME.SET write with GO loads the counter while quality is 0b11, or is rejected with BAD_FIELD. -/
  | timeSet (v : BitVec 128)
  /-- MESH_OFFSET_WRITE (R54). A TIME.MESH_OFFSET write is accepted only while quality is 0b11 and the value lies in range. -/
  | meshOffsetWrite (v : BitVec 32)
  /-- SLOT_TICK (R51). A mesh slot starts on every die at the same nanosecond. -/
  | slotTick (failed : List (Fin 6)) (trips : List (Fin 6 × Nat) := [])
  /-- CYCLE_TICK (R51). A mesh cycle boundary passes, at the start of a slot with MSC mod 48 equal to 0. -/
  | cycleTick (pilots : List (Fin 6 × Int))
  /-- SWITCH_COMPLETE (R58). The settle window ends, quality returns to 0b00 and source 35 is raised. -/
  | switchComplete
  /-- FORCE_SLEW (R58). Setting TIME.CTL.FORCE_SLEW makes the part slew to a FAR reference at 200 ppm. -/
  | forceSlew
  /-- PPS_EDGE (R56). A PPS_IN rising edge is measured against the expected second and consumes TIME.PPS_TOD. -/
  | ppsEdge (rising : Bool)
  /-- CALIBRATION_FAULT (R63). A third consecutive calibration failure raises source 39 and marks that die's timestamps with quality 0b01. -/
  | calibrationFault (f : Fin 6)
  /-- HCLK_SS_WRITE (R42). A CLK.HCLK_SS write is checked, and the new spread takes effect at the next cycle boundary. -/
  | hclkSsWrite (v : BitVec 32)
  /-- CPLL_LOSS_OF_LOCK (R44). A CPLL loss of lock stops every CLKOUT and SYSREF of the die cleanly and raises source 2. -/
  | cpllLossOfLock (f : Fin 6)
  /-- CLKOUT_CTL_WRITE (R43). A write of CLKOUT_CTL enables or disables CLKOUT and SYSREF, or is rejected under R46. -/
  | clkoutCtlWrite (f : Fin 6) (n : Fin 8) (v : BitVec 32)
  /-- PHASE_WRITE (R45). A write of PHASE starts the phase walk and sets MOVING. -/
  | phaseWrite (f : Fin 6) (n : Fin 8) (v : BitVec 32)
  /-- TIME_NOW_READ (R47). A read of the low word of TIME.NOW latches the upper bits for the following reads. -/
  | timeNowRead (func : Fin 2)
  /-- MSC_READ (R51). A read of the low word of TIME.MSC latches bits [63:32]. -/
  | mscRead (func : Fin 2)
  /-- TIMERS_GO (R68). A TIMERS.GO write sets RUN on every channel named, in one HCLK cycle. -/
  | timersGo (v : BitVec 32)
  /-- TIMER_MATCH (R66). COUNT reaches COMPARE: MATCH is set and INTERVAL is added to COMPARE. -/
  | timerMatch (k : Fin 32)
  /-- TIMER_OVERFLOW (R65). A timer channel wraps: OVF is set, and a cascaded odd channel counts the wrap. -/
  | timerOverflow (k : Fin 32)
  /-- TIMER_CAPTURE (R67). The selected edge stores COUNT in CAPTURE, setting CAP_VALID or OVERRUN. -/
  | timerCapture (k : Fin 32) (edge : Fin 8)
  /-- CAPTURE_READ (R67). A read of CAPTURE returns the value and clears CAP_VALID. -/
  | captureRead (func : Fin 2) (k : Fin 32) (edgeNow : Bool)
  /-- CASCADE_COUNT_READ (R65). A read of COUNT of an even cascaded channel latches COUNT of its odd partner. -/
  | cascadeCountRead (func : Fin 2) (k : Fin 32)
  /-- LINK_CFG_WRITE (R70). A LINK.CFG write that leaves or sets EN at 1 is checked against the lane-rate, lane and sample limits. -/
  | linkCfgWrite (f : Fin 6) (k : Fin 48) (v : BitVec 32)
  /-- LINK_DISABLE (R371). Clearing EN of a link ends its detections and demodulator contexts with SOURCE_LOST and zeroes its streams. -/
  | linkDisable (f : Fin 6) (k : Fin 48) (v : BitVec 32)
  /-- STREAM_CFG_WRITE (R72). A LINK.STREAM write enables a stream context on a slot, a half-slot or a chain, subject to its checks. -/
  | streamCfgWrite (f : Fin 6) (i : Fin 512) (v : BitVec 32)
  /-- STREAM_DISABLE (R371). Disabling a context or changing its source ends its detections with SOURCE_LOST and resets its floors. -/
  | streamDisable (f : Fin 6) (i : Fin 512) (v : BitVec 32)
  /-- LINK_SYNC_LOCK (R73). Every lane shows 64 consecutive valid sync headers, so the link moves from SEARCH to EMB_LOCK. -/
  | linkSyncLock (f : Fin 6) (k : Fin 48)
  /-- LINK_EMB_LOCK (R73). Four end-of-extended-multiblock markers at the expected spacing move the link to ALIGN. -/
  | linkEmbLock (f : Fin 6) (k : Fin 48)
  /-- LINK_ALIGN (R73). The first SYSREF edge after EMB_LOCK deskews the lanes, and the link enters DATA at the next LEMC boundary. -/
  | linkAlign (f : Fin 6) (k : Fin 48)
  /-- LINK_RESTART (R74). Too many invalid sync headers or CRC mismatches return the link to SEARCH and run the restart actions. -/
  | linkRestart (f : Fin 6) (k : Fin 48)
  /-- SEARCH_RESUME (R74). Two multiblocks after DATA is entered, the Steep search resumes on the link's streams. -/
  | searchResume (f : Fin 6) (k : Fin 48)
  /-- CRC_MISMATCH (R75). A CRC-12 mismatch in DATA erases that lane's samples of the multiblock and counts in CRC_ERR. -/
  | crcMismatch (f : Fin 6) (k : Fin 48) (lane : Fin 8)
  /-- SYSREF_ERROR (R76). A SYSREF edge off the LEMC boundary in DATA sets SYSREF_ERR and raises source 321 + 32f. -/
  | sysrefError (f : Fin 6) (k : Fin 48)
  /-- TX_LINK_ALIGN (R78). A transmit link enters DATA at the first LEMC boundary after a SYSREF edge that follows EN. -/
  | txLinkAlign (f : Fin 6) (k : Fin 48)
  /-- RX_CHAIN_ENABLE (R80). Setting EN of an integrated receive chain runs all four calibrations before any sample is delivered. -/
  | rxChainEnable (f : Fin 6) (c : Fin 4) (v : BitVec 32)
  /-- CALIBRATION_DUE (R81). A chain calibration falls due on its interval timer. -/
  | calibrationDue (f : Fin 6) (c : Fin 4) (cal : Fin 3)
  /-- CALIBRATION_DONE (R80). A calibration ends, and its values take effect or CAL_FAIL is set. -/
  | calibrationDone (f : Fin 6) (c : Fin 4) (cal : Fin 3) (ok : Bool) (imageDb : BitVec 8)
  /-- CALIBRATION_FORCED (R81). A calibration still waiting 600 s after falling due raises source 323 + 32f and runs in the next slot regardless. -/
  | calibrationForced (f : Fin 6) (c : Fin 4) (cal : Fin 3)
  /-- CAL_REQ (R81). Writing CAL_REQ makes every calibration of the chain due at once. -/
  | calReq (f : Fin 6) (c : Fin 4) (v : BitVec 32)
  /-- TX_MISMATCH (R85). A match worse than 3:1 for 0.5 µs aborts the transmission with a fast ramp-down and faults the port. -/
  | txMismatch (f : Fin 6) (c : Fin 2)
  /-- TX_PROBE (R86). A probe timer fires on a faulted port, and the probe ramps to 0 dBm to test the match. -/
  | txProbe (f : Fin 6) (c : Fin 2) (forward reflected : Nat) (granted : Bool)
  /-- TX_FAULT_WRITE (R86). Writing 1 to FAULT schedules a probe in the next slot. -/
  | txFaultWrite (f : Fin 6) (c : Fin 2)
  /-- GAIN_WINDOW (R87). A 128 µs peak-measurement window ends and the automatic gain counts are updated. -/
  | gainWindow (f : Fin 6) (src : Fin 44) (peak : PeakClass) (clamped : List (Fin 512)) (sample : Nat := 0)
  /-- GAIN_STEP_UP_APPLY (R88). A deferred step up is applied when no frame is in progress, or after 16 further windows with a marker. -/
  | gainStepUpApply (f : Fin 6) (src : Fin 44) (sample : Nat := 0)
  /-- GAIN_SETTLE (R89). SETTLE_US after the HCB write the converter step takes effect on the streams. -/
  | gainSettle (f : Fin 6) (k : Fin 40) (sample : Nat := 0)
  /-- BLANK_ASSERT (R90). A BLANK input becoming active zeroes its contexts and suppresses their detections. -/
  | blankAssert (f : Fin 6) (n : Fin 8)
  /-- BLANK_DEASSERT (R90). A BLANK input becoming inactive lets samples flow again. -/
  | blankDeassert (f : Fin 6) (n : Fin 8)
  /-- CXGNT_DROP (R92). CXGNT dropping during a transmission ramps the output down and fails the attempt as busy. -/
  | cxgntDrop (f : Fin 6) (n : Fin 4)
  /-- CXREQ_CHANGE (R93). In the granting role, a change of CXREQ asserts or releases CXGNT. -/
  | cxreqChange (f : Fin 6) (n : Fin 4) (active : Bool)
  /-- CX_HOLD_EXPIRY (R93). A grant held for HOLD_MS is dropped and source 325 + 32f is raised. -/
  | cxHoldExpiry (f : Fin 6) (n : Fin 4)
  /-- IDLE (R94). SEQ reaches IDLE, ending the slot's program and making any pending bank swap. -/
  | seqIdle (f : Fin 6)
  /-- WAIT (R94). SEQ waits until the given offset in the slot. -/
  | seqWait (f : Fin 6)
  /-- WAIT_REACHED (R94). The WAIT offset is reached and the program continues. -/
  | seqWaitReached (f : Fin 6)
  /-- HOP (R94). SEQ retunes a chain and stalls until lock. -/
  | seqHop (f : Fin 6)
  /-- HOP_LOCK (R94). A retuned chain locks and the program continues. -/
  | seqHopLock (f : Fin 6)
  /-- HOP_LOCK_TIMEOUT (R94). A HOP that fails to lock in 200 µs sets FAULT and leaves the chain off. -/
  | seqHopLockTimeout (f : Fin 6)
  /-- HCB (R94). SEQ writes over an HCB master, stalling while the master is busy. -/
  | seqHcb (f : Fin 6)
  /-- GAIN (R94). SEQ sets and holds a source's gain, or releases it to automatic control. -/
  | seqGain (f : Fin 6) (sample : Nat := 0)
  /-- CAL (R94). SEQ makes a named calibration due. -/
  | seqCal (f : Fin 6)
  /-- EVENT (R94). SEQ raises source 327 + 32f with its code in SEQ.STATUS. -/
  | seqEvent (f : Fin 6)
  /-- BRANCH (R94). SEQ jumps when MSC mod modulus equals the residue. -/
  | seqBranch (f : Fin 6)
  /-- SEQ_ILLEGAL (R95). An illegal SEQ word sets FAULT and sends SEQ to IDLE. -/
  | seqIllegal (f : Fin 6)
  /-- SEQ_PROG_WRITE (R96). A SEQ.PROG write lands in the shadow bank, or is dropped with BUSY while a swap is pending. -/
  | seqProgWrite (f : Fin 6) (p : Fin 1024) (v : BitVec 64)
  /-- SEQ_SWAP (R96). Setting SWAP requests a bank swap at the next idle point. -/
  | seqSwap (f : Fin 6) (v : BitVec 32)
  /-- HCB_HOST_GO (R99). A host HCB transaction is queued on a master behind at most one SEQ transaction. -/
  | hcbHostGo (f : Fin 6) (v : BitVec 64)
  /-- HCB_DONE (R98). An HCB SPI transaction completes, returning MISO data for a read. -/
  | hcbDone (f : Fin 6) (m : Fin 4) (miso : BitVec 32)
  /-- STEEP_CANDIDATE (R130). A preamble crossing on a channel and rung raises a candidate that takes a tracker. -/
  | steepCandidate (f : Fin 6) (cand : Candidate) (rhos : List (Fin 2048 × Frac) := [])
  /-- TRACKER_FREEZE (R133). A tracker freezes its offset at the first symbol decided against the preamble pattern. -/
  | trackerFreeze (f : Fin 6) (t : Fin 2048) (offset10Hz : Int) (rho : Frac) (phase : Fin 8 := 0) (before : List (Int × Int) := [])
  /-- SYNC_MATCH (R134). A tracker matches a network's sync word, stamps the time and requests a demodulator context. -/
  | syncMatch (f : Fin 6) (t : Fin 2048) (decided : BitVec 32) (fclk : Nat) (peak : SyncEnd) (others : List SyncHit)
  /-- SYNC_TIMEOUT (R134). No sync match within the rate's timeout frees the tracker. -/
  | syncTimeout (f : Fin 6) (t : Fin 2048)
  /-- FLOOR_WINDOW (R137). A 128 µs noise window ends and updates each channel's floor when the window was idle. -/
  | floorWindow (f : Fin 6) (ctx : Fin 512) (powers : List ChanPower)
  /-- RST_FLOORS (R139). Writing RST_FLOORS returns every floor of the die to 0x8000. -/
  | rstFloors (f : Fin 6) (v : BitVec 32)
  /-- CHANNEL_POWER_UPDATE (R140). Every 10 µs the running 128 µs mean power of each channel is updated for listen-before-talk. -/
  | channelPowerUpdate (f : Fin 6) (ctx : Fin 512) (powers : List ChanPower)
  /-- W_EN_WRITE (R127). A W_EN write is checked against the die's W-context limit for its level. -/
  | wEnWrite (f : Fin 6) (i : Fin 512) (v : BitVec 32)
  /-- TRACK_READ (R141). A read of STEEP.TRACK reloads PEAK and re-arms the TRACK_FULL event. -/
  | trackRead (func : Fin 2) (f : Fin 6)
  /-- DEMOD_CTX_READ (R142). A read of DEMOD.CTX reloads PEAK and re-arms source 331 + 32f. -/
  | demodCtxRead (func : Fin 2) (f : Fin 6)
  /-- DEMOD_SYMBOL (R144). A context despreads and decides a symbol and forms its LLRs. -/
  | demodSymbol (f : Fin 6) (d : Fin 4096) (sym : SymbolIn)
  /-- TRELLIS_STEP (R147). A trellis decoder advances a context by one 8-bit step, saving its path metrics. -/
  | trellisStep (f : Fin 6) (d : Fin 4096)
  /-- TRACEBACK (R147). The traceback unit decides a segment's or a check group's bits. -/
  | traceback (f : Fin 6) (d : Fin 4096) (tailLate : Bool)
  /-- SEGMENT_ARRIVAL (R151). A copy's segment reaches the active head, and its first segment places the copy in a group. -/
  | segmentArrival (f : Fin 6)
  /-- FRAME_RECORD_ARRIVAL (R152). A frame record reaches the active head, opening the group's window or joining it, or counting as late. -/
  | frameRecordArrival (f : Fin 6)
  /-- END_NOTICE_ARRIVAL (R152). An END notice removes its copy from the group and discards its segments. -/
  | endNoticeArrival (f : Fin 6)
  /-- SEGMENT_CLOSE (R153). Segment s of a group closes and is decoded by a Blend decoder. -/
  | segmentClose (g : Nat) (seg : Nat)
  /-- WINDOW_CLOSE (R154). The combining window closes, and the results to verify and their order are chosen. -/
  | windowClose (g : Nat)
  /-- BLEND_DECODE_DONE (R155). A Blend decoder finishes a segment and streams its bits to Kiln. -/
  | blendDecodeDone (g : Nat) (seg : Nat)
  /-- BLEND_OVERLOAD (R155). A last segment not done within 1,536 HCLK cycles of its close is counted in OVERLOAD and raises source 184. -/
  | blendOverload (g : Nat)
  /-- GROUP_HOLD_END (R151). The 1,000 µs hold of a closed group ends. -/
  | groupHoldEnd (g : Nat)
  /-- ELK_DEADLINE (R158). 3.9 µs after a provisional record with no follow-up, a WITHDRAW with DEADLINE is written. -/
  | elkDeadline (g : Nat)
  /-- CHECK_ADMIT (R273). A request enters the check-engine queue, and its slot checks and class S count are applied. -/
  | checkAdmit (id : Nat)
  /-- CHECK_DONE (R279). The check engine finishes a CMAC generation or verification. -/
  | checkDone (id : Nat)
  /-- REPLAY_FILTER (R177). A verified result passes the duplicate and replay tests in order and is confirmed, or ends. -/
  | replayFilter (g : Nat)
  /-- FRAME_DELIVERY (R246). A new confirmed frame is written to its RXF ring once any hook call has ended. -/
  | frameDelivery (g : Nat)
  /-- DUPLICATE_HOLD_EXPIRY (R177). A held sequence and counter pair expires 2 s after its confirmation. -/
  | duplicateHoldExpiry (src : BitVec 32) (seq : BitVec 8) (ctr : BitVec 32)
  /-- DECISION_RECORD_ARRIVAL (R15). A decision record from the active head reaches a field die, or is discarded if already held. -/
  | decisionRecordArrival (f : Fin 6)
  /-- ACK_CHECK (R169). At its check instant the ack is committed, or dropped as ACK_BUSY or ACK_LATE. -/
  | ackCheck (id : Nat) (spanPower : Frac) (granted : Bool)
  /-- PIGGYBACK_CHECK (R171). The prefetched item gets one check after an ack with PENDING, and is sent or stays queued. -/
  | piggybackCheck (id : Nat) (granted : Bool)
  /-- LBT_CHECK (R167). A downlink or wake-burst attempt is checked at C, then transmits, backs off or ends CHANNEL_BUSY_TIMEOUT. -/
  | lbtCheck (id : Nat) (granted : Bool)
  /-- MEETING_CHECK (R175). The downlink after a wake burst gets one check at its meeting T0, and a busy check repeats the wake. -/
  | meetingCheck (id : Nat) (granted : Bool)
  /-- TX_START (R160). At T0 − 20 µs − L_tx the synthesiser starts producing the frame's samples. -/
  | txStart (id : Nat)
  /-- TX_END (R160). A frame's last chip and ramp-down end, and its transmit context is freed. -/
  | txEnd (id : Nat) (clamped : Bool) (forward : Nat := 0) (reflected : Nat := 0)
  /-- ACK_TIMEOUT (R180). No node ack in its window: the frame is rewound for a re-send, or completes with NO_ACK. -/
  | ackTimeout (id : Nat)
  /-- CONTACT_WINDOW_OPEN (R172). A contact's receive window opens at T − G and holds back transmissions on the node's outputs. -/
  | contactWindowOpen (id : Nat)
  /-- CONTACT_MISSED (R172). No provisional frame by T + G + WINDOW_US + 100 µs: the contact is missed and completes with NOT_FOUND. -/
  | contactMissed (id : Nat)
  /-- PROFILE_WRITE (R8). A MAC.PROFILE.SEL write is accepted, or rejected with BAD_FIELD in LAST_WR. -/
  | profileWrite (v : BitVec 32)
  /-- NET_CFG_WRITE (R109). A NET_CFG write is checked for sync-word distance and legality, and held until the boundary. -/
  | netCfgWrite (n : Fin 4) (v : BitVec 32)
  /-- BCAST_TUNE (R184). A write of BCAST.TUNE or MODE retunes the chain, clears what it has acquired and ends any dwell. -/
  | bcastTune (f : Fin 6) (ctl : Bool) (v : BitVec 32)
  /-- BCAST_RETUNE_DONE (R184). The chain finishes retuning, within 2 ms, and begins to re-acquire. -/
  | bcastRetuneDone (f : Fin 6)
  /-- RDS_BLOCK (R186). An RDS block is received, corrected or flagged, and block sync is tracked. -/
  | rdsBlock (f : Fin 6) (blk : RdsIn)
  /-- PCM_RECORD (R188). Twelve stereo sample pairs are delivered to the stream ring. -/
  | pcmRecord (f : Fin 6) (us50 us75 : List (BitVec 16 × BitVec 16)) (backNs : Nat)
  /-- DAB_NULL (R191). A DAB null end is timestamped, and the phase error of the cycle is formed. -/
  | dabNull (f : Fin 6) (found : Bool) (backNs : Nat)
  /-- FIB_RECEIVED (R189). A FIB is decoded: delivered and its FIGs parsed if the CRC passes, counted otherwise. -/
  | fibReceived (f : Fin 6) (bytes : List Byte)
  /-- SUBCH_RECORD (R190). 48 decoded subchannel bytes are delivered to the stream ring. -/
  | subchRecord (f : Fin 6) (j : Fin 4) (bytes : List Byte) (backNs : Nat)
  /-- AF_CHECK (R193). Every INTERVAL cycles a 10 ms dwell measures the next alternative frequency. -/
  | afCheck (f : Fin 6)
  /-- AF_DWELL_END (R193). A check dwell ends and may make the alternative a candidate. -/
  | afDwellEnd (f : Fin 6) (level tuned : Int)
  /-- TUNED_LOSS (R193). The tuned frequency is lost, and the best recent alternative becomes a candidate. -/
  | tunedLoss (f : Fin 6)
  /-- AF_VERIFY (R194). A verification dwell checks a candidate's identity and ends in a switch or a skip. -/
  | afVerify (f : Fin 6) (identity : Option (BitVec 16))
  /-- NODE_READ (R209). NODE.CMD READ copies an entry to NODE.DATA. -/
  | nodeRead
  /-- NODE_WRITE (R373). NODE.CMD WRITE replaces or clears an entry after the tests of R373. -/
  | nodeWrite
  /-- NODE_INSERT (R373). NODE.CMD INSERT places an entry in its table after the tests of R373. -/
  | nodeInsert
  /-- NODE_DELETE (R209). NODE.CMD DELETE clears the entry of an address, or completes with NOT_FOUND. -/
  | nodeDelete
  /-- NODE_SEARCH (R209). NODE.CMD SEARCH returns the entry and index of an address. -/
  | nodeSearch
  /-- AGE_SCAN (R209). NODE.CMD AGE_SCAN starts deleting every learned entry of at least the given age. -/
  | ageScan
  /-- AGE_SCAN_DONE (R209). An AGE_SCAN ends, sets SCAN_DEL and raises source 162. -/
  | ageScanDone
  /-- NODE_BAD_OPCODE (R209). NODE.CMD with OP 6 or 7 completes with BAD_OPCODE. -/
  | nodeBadOpcode (op : Fin 8)
  /-- AGING_VISIT (R205). The aging walker visits a learned entry, rebases it and deletes it when it is old enough. -/
  | agingVisit (ix : Nat)
  /-- HEAR_SEARCH (R211). HEAR_CMD SEARCH looks up an address in the die's hearing table. -/
  | hearSearch (f : Fin 6)
  /-- HEAR_READ (R211). HEAR_CMD READ returns the hearing-table entry at INDEX. -/
  | hearRead (f : Fin 6)
  /-- HEAR_CLEAR (R211). HEAR_CMD CLEAR starts emptying the die's hearing table. -/
  | hearClear (f : Fin 6)
  /-- HEAR_CLEAR_DONE (R211). The hearing table has been emptied. -/
  | hearClearDone (f : Fin 6)
  /-- HEAR_BAD_OPCODE (R211). HEAR_CMD with OP 3 completes with BAD_OPCODE. -/
  | hearBadOpcode (f : Fin 6)
  /-- CASK_BIND (R212). CASK.CMD BIND binds a queue to an address and a class. -/
  | caskBind
  /-- CASK_UNBIND (R212). CASK.CMD UNBIND releases a queue's binding, or fails with BUSY. -/
  | caskUnbind
  /-- CASK_READ (R213). CASK.CMD READ returns a queue's state and binding. -/
  | caskRead
  /-- PEEK (R217). CASK.CMD PEEK returns the head item header, or the IDLE item. -/
  | caskPeek
  /-- FLUSH (R229). CASK.CMD FLUSH completes every unsent item of a queue with WITHDRAWN. -/
  | caskFlush
  /-- CASK_BAD_OPCODE (R212). CASK.CMD with OP 5 to 7 completes with BAD_OPCODE. -/
  | caskBadOpcode (op : Fin 8)
  /-- POOL_ENABLE (R218). Writing CASK.CFG.EN initialises the buffer pool, subject to its floor and emptiness checks. -/
  | poolEnable (v : BitVec 32)
  /-- SCHED_DECISION (R225). A group's scheduler takes one item from its first eligible list and gives it an air instant. -/
  | schedDecision (g : Fin 64)
  /-- GATE_COMMIT (R223). COMMIT of a group's shadow gate list is checked and sets PENDING, or is refused with BAD_FIELD. -/
  | gateCommit (g : Fin 64) (v : BitVec 32)
  /-- GATE_CANCEL (R223). CANCEL clears a pending gate takeover. -/
  | gateCancel (g : Fin 64) (v : BitVec 32)
  /-- GATE_TAKEOVER (R223). At the takeover slot the shadow list becomes active from entry 0 and source 129 is raised. -/
  | gateTakeover (g : Fin 64)
  /-- GATE_ENTRY_CHANGE (R222). A gate entry's duration ends and the next entry comes into force. -/
  | gateEntryChange (g : Fin 64)
  /-- RING_CTL_WRITE (R232). A RING.CTL write enables or disables a ring after its range and window checks. -/
  | ringCtlWrite (n : Fin 4096) (v : BitVec 32)
  /-- RING_RESUME (R239). Writing RESUME clears HALTED, and the ring continues. -/
  | ringResume (n : Fin 4096) (v : BitVec 32)
  /-- POLL_ROUND (R234). A poll round reads the doorbell lines of the enabled rings. -/
  | pollRound
  /-- POLL_READ_DONE (R234). A doorbell read returns, and each host index is judged, taken or found invalid. -/
  | pollReadDone (line : Nat) (result : Option (List (BitVec 32))) (kicks : List (Fin 2 × Fin 8 × BitVec 32) := [])
  /-- KICK (R234). A BAR2 kick delivers a ring's host index at once. -/
  | kick (func : Fin 2) (n : Fin 4096) (v : BitVec 32)
  /-- CMD_VISIT (R240). The ring controller visits the next CMD ring with pending commands and starts up to 8 that have a CPL slot. -/
  | cmdVisit (failed : Option (Fin 8) := none)
  /-- CMD_NOP (R241). NOP completes at once with DONE. -/
  | cmdNop (n : Fin 4096) (desc : List Byte)
  /-- SEND (R242). A SEND descriptor is checked, and its data is read for enqueue. -/
  | send (n : Fin 4096) (desc : List Byte)
  /-- SEND_DATA_READ (R243). A SEND's data has been read into Cask buffers, and the consumer index passes the descriptor. -/
  | sendDataRead (n : Fin 4096) (walk : WalkIn)
  /-- CONTACT (R244). A CONTACT descriptor places a scheduled contact, or is refused. -/
  | contact (n : Fin 4096) (desc : List Byte)
  /-- CONTACT_CANCEL (R244). CONTACT_CANCEL withdraws a pending contact named by its TAG. -/
  | contactCancel (n : Fin 4096) (desc : List Byte)
  /-- BAD_OPCODE (R241). A CMD descriptor with an unimplemented opcode completes with BAD_OPCODE. -/
  | badOpcode (n : Fin 4096) (desc : List Byte)
  /-- MSIX_HOLDOFF_END (R253). A vector's holdoff ends and one message covers the signals that arrived during it. -/
  | msixHoldoffEnd (v : Fin 256)
  /-- EVT_PEND_CLEAR (R253). A W1C write to EVT.PEND clears pending bits, except those firing in the same cycle. -/
  | evtPendClear (j : Fin 16) (v : BitVec 32) (firing : BitVec 32)
  /-- ETH_FRAME_RX (R256). An Ethernet frame received on a port is accepted, answered or discarded, and mirrored to the other head. -/
  | ethFrameRx (h : Fin 2) (p : Fin 2) (bytes : List Byte) (stampPs : Nat)
  /-- PTP_EGRESS (R263). As a PTP frame leaves the MAC, its one-step timestamp or correction is written. -/
  | ptpEgress (h : Fin 2) (p : Fin 2) (stampPs : Nat)
  /-- ANNOUNCE_TIMEOUT (R261). A master whose Announce messages stop for ANN_TIMEOUT intervals is dropped. -/
  | announceTimeout (lan : Fin 2)
  /-- PRP_SUPERVISION (R260). A PRP supervision frame is sent every LIFE_MS on each LAN. -/
  | prpSupervision
  /-- ETH_LINK_CHANGE (R265). A port link comes up or goes down, and source 192 is raised. -/
  | ethLinkChange (h : Fin 2) (p : Fin 2) (up : Bool) (txPhyPs : Nat) (rxPhyPs : Nat)
  /-- FP_TPL_COMMIT (R259). COMMIT of a fast-path template checks the header image and marks it valid. -/
  | fpTplCommit (t : Fin 32) (v : BitVec 32)
  /-- APPROVED_WRITE (R267). A KILN.CTL.APPROVED write sets approved mode, or clears it and regenerates the CSPs, or is rejected. -/
  | approvedWrite (v : BitVec 32)
  /-- SELFTEST_DONE (R269). Kiln's known-answer and entropy start-up tests end, entering ROOT or ERROR. -/
  | selftestDone (kat : Bool) (run same : Nat := 0)
  /-- ROOT_REGEN (R270). The root and device keys are regenerated and Kiln enters READY, or ERROR on failure. -/
  | rootRegen (wrong : Nat) (helper : Bool := true)
  /-- DRBG_SEEDED (R289). The DRBG's first seed is ready, SEEDED is set and transmission is allowed. -/
  | drbgSeeded
  /-- DL_FLOOR_WRITE (R283). The first write of KILN.DL_FLOOR sets FLOOR_SET and lets the scheduler decide. -/
  | dlFloorWrite (v : BitVec 32)
  /-- KEY_LOAD_BLOBS (R284). A blob set is checked and replaces every class N slot. -/
  | keyLoadBlobs (n : Fin 4096) (desc : List Byte) (data : Option (List Byte))
  /-- KEY_UPDATE (R286). A key-update message is checked and becomes the pending update, with its blob set written. -/
  | keyUpdate (n : Fin 4096) (desc : List Byte) (data : Option (List Byte))
  /-- KEY_COMMIT (R286). The pending update's counter is written to OTP and its records installed. -/
  | keyCommit (n : Fin 4096) (desc : List Byte)
  /-- KEY_UNWRAP (R287). A key is unwrapped into an empty slot as class S. -/
  | keyUnwrap (n : Fin 4096) (desc : List Byte) (data : Option (List Byte))
  /-- KEY_DERIVE (R287). A class S key is derived into an empty slot with label WXS1. -/
  | keyDerive (n : Fin 4096) (desc : List Byte)
  /-- KEY_CLEAR (R298). A slot not named by an enabled KEYMAP entry is cleared. -/
  | keyClear (n : Fin 4096) (desc : List Byte)
  /-- KEY_INFO (R298). A slot's ATTR is written to the output. -/
  | keyInfo (n : Fin 4096) (desc : List Byte)
  /-- CHECK_GEN (R280). A host CMAC is generated under a slot and written to the output. -/
  | checkGen (n : Fin 4096) (desc : List Byte) (data : Option (List Byte))
  /-- CHECK_VERIFY (R280). A host check value is verified in constant time. -/
  | checkVerify (n : Fin 4096) (desc : List Byte) (data : Option (List Byte))
  /-- RANDOM (R290). 1 to 4,096 DRBG bytes are written to the output, or ENTROPY_FAULT is returned. -/
  | random (n : Fin 4096) (desc : List Byte)
  /-- ATTEST (R292). A 512-byte attestation statement is returned, signed only in READY. -/
  | attest (n : Fin 4096) (desc : List Byte)
  /-- PUBKEYS (R271). The attestation and update public keys are returned. -/
  | pubkeys (n : Fin 4096) (desc : List Byte)
  /-- ENROL (R294). With presence, the operator key digest is written into the next OTP enrolment record. -/
  | enrol (n : Fin 4096) (desc : List Byte) (data : Option (List Byte))
  /-- ZEROISE_REENROL (R294). With presence, the part zeroises, draws new helper data, deactivates the record and resets. -/
  | zeroiseReenrol (n : Fin 4096) (desc : List Byte)
  /-- DEBUG_UNLOCK (R294). With presence, the part zeroises, enters ZEROISED and opens debug. -/
  | debugUnlock (n : Fin 4096) (desc : List Byte)
  /-- TAMPER_ACK (R294). With presence, the tamper latches are cleared and a reset is triggered. -/
  | tamperAck (n : Fin 4096) (desc : List Byte)
  /-- CACHE_FLUSH (R298). Key cache entries of a network, or of one address, are emptied. -/
  | cacheFlush (n : Fin 4096) (desc : List Byte)
  /-- KILN_BAD_OPCODE (R298). Kiln opcodes 0x31 to 0x3F complete with BAD_OPCODE. -/
  | kilnBadOpcode (n : Fin 4096) (desc : List Byte)
  /-- TAMPER (R296). A tamper source fires and the part holds, latches or zeroises according to when it fires. -/
  | tamper (src : TamperSource)
  /-- ENTROPY_FAULT (R290). A health test fails: waiting random requests fail and the fallback generator takes over. -/
  | entropyFault (run same : Nat)
  /-- RNG_RESTART (R291). Writing RNG.CTL.RESTART runs the entropy restart test. -/
  | rngRestart (v : BitVec 32)
  /-- RNG_RESTART_DONE (R291). The restart test ends, reseeding and clearing the fault on a pass. -/
  | rngRestartDone (run : Nat) (same : Nat := 0)
  /-- DRBG_RESEED (R288). After 65,536 generate requests the DRBG reseeds from fresh samples. -/
  | drbgReseed
  /-- PRESENCE_SAMPLE (R293). The 1 ms sample of PRESENT_N updates KILN.STATUS.PRESENT. -/
  | presenceSample (low : Bool)
  /-- SIGNATURE_EXCHANGE (R300). At the end of each 64-cycle window the heads exchange output signatures. -/
  | signatureExchange (sig0 : BitVec 32) (sig1 : BitVec 32)
  /-- HEAD_SELFCHECK_DONE (R301). The head self-checks end, a head is fenced and the survivor takes the active role. -/
  | headSelfcheckDone (pass0 : Bool) (pass1 : Bool)
  /-- BULK_RESUME (R302). After any reissue of unconfirmed outputs, bulk outputs resume and source 257 is raised. -/
  | bulkResume
  /-- HEAD_REJOIN (R304). Writing REJOIN releases the fenced head into self-test and state copy. -/
  | headRejoin (v : BitVec 32)
  /-- HEAD_REJOIN_DONE (R304). The rejoining head becomes checker, or returns to fenced. -/
  | headRejoinDone (ok : Bool)
  /-- FIELD_CORE_MISMATCH (R305). A field Tun pair mismatch fences the die, or self-tests it if it is the last one. -/
  | fieldCoreMismatch (f : Fin 6)
  /-- PATROL (R306). In its random slot a field die runs the patrol vector and sends its signature. -/
  | patrol (f : Fin 6) (signature : BitVec 64)
  /-- FIELD_SELFTEST_DONE (R306). A field die's self-test ends, and the die is fenced if it failed. -/
  | fieldSelftestDone (f : Fin 6) (pass : Bool)
  /-- FDIE_REJOIN (R309). Writing FDIE REJOIN resets and self-tests a fenced field die. -/
  | fdieRejoin (f : Fin 6) (v : BitVec 32)
  /-- FDIE_REJOIN_DONE (R309). The die reloads firmware, replays its register writes and rejoins. -/
  | fdieRejoinDone (f : Fin 6)
  /-- ERROR_LOG (R310). A detected hardware error writes a log entry and may fence or degrade its unit. -/
  | errorLog (es : List HwError)
  /-- LOG_ACK (R311). Writing an entry's sequence number to SAFE.LOG_ACK frees that entry. -/
  | logAck (v : BitVec 32)
  /-- FAULT_CAUSE_CLEAR (R314). Writing 1 to a CAUSE bit clears it once its condition has ended. -/
  | faultCauseClear (v : BitVec 32)
  /-- STAGE_ERASE (R334). Opens a staging session and erases the slot not in force. -/
  | stageErase (n : Fin 4096) (desc : List Byte)
  /-- STAGE_WRITE (R334). Writes host data into the staged slot. -/
  | stageWrite (n : Fin 4096) (desc : List Byte) (data : Option (List Byte))
  /-- STAGE_READ (R334). Reads the staged slot back to host memory. -/
  | stageRead (n : Fin 4096) (desc : List Byte)
  /-- ACTIVATE (R335). Closes the session and writes a selector record naming the staged slot PENDING. -/
  | activate (n : Fin 4096) (desc : List Byte)
  /-- HEALTH_CONFIRM (R337). Stops the watchdog, writes CONFIRMED and raises the rollback floor when asked. -/
  | healthConfirm (n : Fin 4096) (desc : List Byte) (expiryNow : Bool)
  /-- ABORT (R334). Closes the staging session and leaves the slot as written. -/
  | abort (n : Fin 4096) (desc : List Byte)
  /-- UPDATE_BAD_OPCODE (R334). Update opcodes 0x46 to 0x4F complete with BAD_OPCODE. -/
  | updateBadOpcode (n : Fin 4096) (desc : List Byte)
  /-- BOOT_RESTART (R335). BOOT.CTL RESTART with KEY 0x52 resets the part as for RESET_N. -/
  | bootRestart (v : BitVec 32)
  /-- HEALTH_WINDOW_EXPIRY (R337). The trial watchdog expires and the part resets to fall back. -/
  | healthWindowExpiry
  /-- JOIN_REQUEST (R356). A policy call decides whether a join frame from an unknown node is accepted. -/
  | joinRequest (g : Nat)
  /-- ROUTE_CHOICE (R356). A policy call chooses the aerial slot for a queue joining a list. -/
  | routeChoice (q : Nat)
  /-- FRAME_CLASSIFY (R356). A policy call chooses the RXF ring for a confirmed new frame. -/
  | frameClassify (g : Nat)
  /-- HOOK_QUEUE_TIMEOUT (R354). A call waiting 2,000 HCLK cycles without a core takes its default action and counts NO_CORE. -/
  | hookQueueTimeout (call : Nat)
  /-- HOOK_BUDGET_EXPIRY (R355). A call without DONE by cycle 2,000 is stopped and takes its default action. -/
  | hookBudgetExpiry (k : Fin 4)
  /-- INTERRUPT (R352). An interrupt line is taken in mode F while IE is 1. -/
  | tunInterrupt (c : TunCore) (line : Fin 16)
  /-- ADDI (R346). Adds a sign-extended immediate. -/
  | tunAddi (c : TunCore) (d a : Fin 16) (imm : BitVec 18)
  /-- ANDI (R346). ANDs a zero-extended immediate. -/
  | tunAndi (c : TunCore) (d a : Fin 16) (imm : BitVec 18)
  /-- ORI (R346). ORs a zero-extended immediate. -/
  | tunOri (c : TunCore) (d a : Fin 16) (imm : BitVec 18)
  /-- XORI (R346). XORs a zero-extended immediate. -/
  | tunXori (c : TunCore) (d a : Fin 16) (imm : BitVec 18)
  /-- SHI (R346). Shifts by an immediate amount. -/
  | tunShi (c : TunCore) (d a : Fin 16) (imm : BitVec 18)
  /-- LUI (R346). Loads the field shifted left by 10. -/
  | tunLui (c : TunCore) (d : Fin 16) (imm : BitVec 22)
  /-- LB (R347). Loads a sign-extended byte. -/
  | tunLb (c : TunCore) (d b : Fin 16) (m : AddrMode)
  /-- LBU (R347). Loads a zero-extended byte. -/
  | tunLbu (c : TunCore) (d b : Fin 16) (m : AddrMode)
  /-- LH (R347). Loads a sign-extended half-word. -/
  | tunLh (c : TunCore) (d b : Fin 16) (m : AddrMode)
  /-- LHU (R347). Loads a zero-extended half-word. -/
  | tunLhu (c : TunCore) (d b : Fin 16) (m : AddrMode)
  /-- LW (R347). Loads a word. -/
  | tunLw (c : TunCore) (d b : Fin 16) (m : AddrMode)
  /-- SB (R347). Stores a byte. -/
  | tunSb (c : TunCore) (d b : Fin 16) (m : AddrMode)
  /-- SH (R347). Stores a half-word. -/
  | tunSh (c : TunCore) (d b : Fin 16) (m : AddrMode)
  /-- SW (R347). Stores a word. -/
  | tunSw (c : TunCore) (d b : Fin 16) (m : AddrMode)
  /-- BZ (R346). Branches if the register is zero. -/
  | tunBz (c : TunCore) (a : Fin 16) (off : BitVec 22)
  /-- BNZ (R346). Branches if the register is non-zero. -/
  | tunBnz (c : TunCore) (a : Fin 16) (off : BitVec 22)
  /-- JAL (R346). Jumps and links. -/
  | tunJal (c : TunCore) (d : Fin 16) (off : BitVec 22)
  /-- JALR (R346). Jumps to a register plus offset and links. -/
  | tunJalr (c : TunCore) (d a : Fin 16) (imm : BitVec 18)
  /-- BLK_MOV (R348). Block copy of elements. -/
  | tunBlkMov (c : TunCore) (b : BlkArgs) (limit : Nat)
  /-- BLK_SET (R348). Block fill with a value. -/
  | tunBlkSet (c : TunCore) (b : BlkArgs) (limit : Nat)
  /-- BLK_SCAN_EQ (R348). Block scan for an element equal to a value. -/
  | tunBlkScanEq (c : TunCore) (b : BlkArgs) (limit : Nat)
  /-- BLK_SCAN_NE (R348). Block scan for an element differing from a value. -/
  | tunBlkScanNe (c : TunCore) (b : BlkArgs) (limit : Nat)
  /-- BLK_CMP (R348). Block compare of two areas. -/
  | tunBlkCmp (c : TunCore) (b : BlkArgs) (limit : Nat)
  /-- BLK_CRC (R348). Block CRC-32 step over elements. -/
  | tunBlkCrc (c : TunCore) (b : BlkArgs) (limit : Nat)
  /-- ADD (R346). Register add. -/
  | tunAdd (c : TunCore) (d a b : Fin 16)
  /-- SUB (R346). Register subtract. -/
  | tunSub (c : TunCore) (d a b : Fin 16)
  /-- AND (R346). Register AND. -/
  | tunAnd (c : TunCore) (d a b : Fin 16)
  /-- OR (R346). Register OR. -/
  | tunOr (c : TunCore) (d a b : Fin 16)
  /-- XOR (R346). Register XOR. -/
  | tunXor (c : TunCore) (d a b : Fin 16)
  /-- SLL (R346). Shift left logical. -/
  | tunSll (c : TunCore) (d a b : Fin 16)
  /-- SRL (R346). Shift right logical. -/
  | tunSrl (c : TunCore) (d a b : Fin 16)
  /-- SRA (R346). Shift right arithmetic. -/
  | tunSra (c : TunCore) (d a b : Fin 16)
  /-- MUL (R346). Low 32 bits of a product. -/
  | tunMul (c : TunCore) (d a b : Fin 16)
  /-- MULHU (R346). High 32 bits of an unsigned product. -/
  | tunMulhu (c : TunCore) (d a b : Fin 16)
  /-- DIVU (R346). Unsigned divide. -/
  | tunDivu (c : TunCore) (d a b : Fin 16)
  /-- REMU (R346). Unsigned remainder. -/
  | tunRemu (c : TunCore) (d a b : Fin 16)
  /-- CEQ (R346). Sets 1 if equal. -/
  | tunCeq (c : TunCore) (d a b : Fin 16)
  /-- CNE (R346). Sets 1 if not equal. -/
  | tunCne (c : TunCore) (d a b : Fin 16)
  /-- CLT (R346). Sets 1 if less than, signed. -/
  | tunClt (c : TunCore) (d a b : Fin 16)
  /-- CLTU (R346). Sets 1 if less than, unsigned. -/
  | tunCltu (c : TunCore) (d a b : Fin 16)
  /-- CLE (R346). Sets 1 if less or equal, signed. -/
  | tunCle (c : TunCore) (d a b : Fin 16)
  /-- CLEU (R346). Sets 1 if less or equal, unsigned. -/
  | tunCleu (c : TunCore) (d a b : Fin 16)
  /-- NOP (R346). Does nothing. -/
  | tunNop (c : TunCore)
  /-- DONE (R355). Ends a hook call, and the part reads the mailbox result. -/
  | tunDone (c : TunCore)
  /-- BRK (R346). Raises BREAK. -/
  | tunBrk (c : TunCore)
  /-- WFE (R346). Waits for an interrupt, in mode F. -/
  | tunWfe (c : TunCore)
  /-- FENCE (R346). Completes earlier stores before later accesses. -/
  | tunFence (c : TunCore)
  /-- ERET (R352). Returns from an exception, restoring IE from PIE. -/
  | tunEret (c : TunCore)
  /-- MFC (R344). Reads a control register. -/
  | tunMfc (c : TunCore) (d a : Fin 16)
  /-- MTC (R344). Writes a control register. -/
  | tunMtc (c : TunCore) (d a : Fin 16)
  /-- TUN_ILLEGAL (R346). An unlisted opcode, function or non-zero must-be-zero field raises ILLEGAL. -/
  | tunIllegal (c : TunCore) (word : BitVec 32)
  /-- REGISTER_WRITE (R313). A write to a register without a row of its own is applied, rejected as illegal, or dropped. -/
  | registerWrite (func : Fin 2) (acc : BusAccess) (data : BitVec 64)
  /-- UNSUPPORTED_READ (R366). A read of an unimplemented offset or a fenced die's window completes with Unsupported Request and is reported. -/
  | unsupportedRead (func : Fin 2) (acc : BusAccess)
  /-- HEAD_REJOIN_SELFTEST (R304). The rejoining head's full self-test ends; on a pass the state copy from the active head begins and REJOIN_STATE moves from self-test to state copy. -/
  | headRejoinSelftest (pass : Bool)
  /-- VSTBY_LOSS (R324). VSTBY falls away, the watch domain resets and releases WS_SDA at once, and the part goes to the unpowered state with no retained state. -/
  | vstbyLoss
  /-- WAKE_N_HIGH (R325). WAKE_N is seen high for at least 10 µs, re-arming it as a wake source after three consecutive start-up faults. -/
  | wakeNHigh
  /-- CX_LISTEN_LEAD (R92). TIMEOUT_US before the listen window of an attempt on a guarded output, the part asserts CXREQ in the requester role or withholds CXGNT in the granting role. -/
  | cxListenLead (f : Fin 6) (n : Fin 4) (probe : Bool := false) (id : Nat := 0)
  /-- STATISTIC_READ (R312). A read of a statistic, of LOST, of SAFE.ACCESS_FAULT or of a PEAK field re-arms its event source, clears LOST or reloads PEAK. -/
  | statisticRead (func : Fin 2) (acc : BusAccess)
  /-- BOOT_FLASH_DONE (R334). A boot-flash erase, program or selector write started by an update command ends, up to 120 s later, and the command's completion is written. -/
  | bootFlashDone
deriving DecidableEq, Repr

end Sys2Proof
end

