-- ==== Sys2Proof/WellFormed.lean ====
section
/-! DEFINITION. The shapes the operands of a command must have: a descriptor is 64 bytes and carries its row's opcode
(R241, R298, R334), a block has the length its rule gives it. A command of another shape does not exist; its meaning
refuses it as ill-formed. -/

namespace Sys2Proof

open Machine

/-- An opcode that R241 does not list. -/
abbrev badCmdOpcode (op : Nat) : Prop := 4 ≤ op ∧ ¬ (0x20 ≤ op ∧ op ≤ 0x4F)

/-- The register fields of a BLK word name registers as its KIND requires (R348). -/
def blkWordLegal (w : Nat) : Bool :=
  let k := w % 8
  let d := bitsAt w 22 4
  let s := bitsAt w 18 4
  let n := bitsAt w 14 4
  let v := bitsAt w 8 4
  let usesD := k = 0 || k = 1 || k = 4
  let usesS := k ≠ 1
  let usesV := k ≠ 0
  let named := (if usesD then [d] else []) ++ (if usesS then [s] else []) ++ [n]
  let zeroV := k = 1 || k = 2 || k = 3
  bitsAt w 3 5 = 0 && k ≤ 5 && named.all (· ≠ 0) && (!usesV || zeroV || v ≠ 0)
  && decide (if usesV then named ++ [v] else named).Nodup && (usesD || d = 0) && (usesS || s = 0)

/-- A word that R345 to R348 give an instruction, whatever the mode it executes in. -/
def tunWordLegal (w : Nat) : Bool :=
  let op := bitsAt w 26 6
  let fn := w % 1024
  let mode := bitsAt w 16 2
  let memOk := if mode = 0 then bitsAt w 12 4 = 0 else if mode = 3 then bitsAt w 12 2 = 0 && w % 256 = 0 else w % 65536 = 0
  if op = 0 then bitsAt w 10 4 = 0 && (fn ≤ 0x00B || (0x010 ≤ fn && fn ≤ 0x015))
  else if op = 0x30 then bitsAt w 10 4 = 0 && (fn ≤ 4 || (0x010 ≤ fn && fn ≤ 0x012))
  else if op = 5 then bitsAt w 7 11 = 0 && bitsAt w 5 2 ≠ 3
  else if 8 ≤ op ∧ op ≤ 0x0C then memOk && (mode = 0 || mode = 3 || bitsAt w 22 4 ≠ bitsAt w 18 4)
  else if 0x10 ≤ op ∧ op ≤ 0x12 then memOk
  else if op = 0x20 then blkWordLegal w
  else decide (op ∈ [1, 2, 3, 4, 6, 0x18, 0x19, 0x1A, 0x1B])

/-- Well-formed commands. [DESIGN CHOICE, log entry 11] -/
def Instr.wf : Instr → Bool
  | .coldStart .. => true
  | .pgoodRise .. => true
  | .pgoodFall .. => true
  | .startUpTimeout => true
  | .oscRdy => true
  | .memRdy => true
  | .logicRdy .. => true
  | .bootRdy pulses => decide (pulses ≤ 10)
  | .resetNAssert => true
  | .resetNRelease => true
  | .nightCtlWrite .. => true
  | .nightCommit => true
  | .wakeArm .. => true
  | .pwrEnDrop => true
  | .addressMatch .. => true
  | .wakeN => true
  | .thermalTrip .. => true
  | .tempSample readings => decide (readings.length ≤ 8 ∧ readings.all (fun l => decide (0 < l.length ∧ l.length ≤ 12)) = true)
  | .thermalDrop .. => true
  | .dropRelease .. => true
  | .levelReqWrite .. => true
  | .levelChangeStart => true
  | .pmicWriteDone .. => true
  | .vsettleExpiry => true
  | .pllGlideDone => true
  | .duskReqWrite .. => true
  | .duskEntry => true
  | .duskExit => true
  | .pmI2cEnable _ pulses => decide (pulses ≤ 10)
  | .pmSclTimeout pulses => decide (pulses ≤ 10)
  | .timeTick .. => true
  | .timeSet .. => true
  | .meshOffsetWrite .. => true
  | .slotTick .. => true
  | .cycleTick .. => true
  | .switchComplete => true
  | .forceSlew => true
  | .ppsEdge .. => true
  | .calibrationFault .. => true
  | .hclkSsWrite .. => true
  | .cpllLossOfLock .. => true
  | .clkoutCtlWrite .. => true
  | .phaseWrite .. => true
  | .timeNowRead .. => true
  | .mscRead .. => true
  | .timersGo .. => true
  | .timerMatch .. => true
  | .timerOverflow .. => true
  | .timerCapture .. => true
  | .captureRead .. => true
  | .cascadeCountRead .. => true
  | .linkCfgWrite .. => true
  | .linkDisable .. => true
  | .streamCfgWrite .. => true
  | .streamDisable .. => true
  | .linkSyncLock .. => true
  | .linkEmbLock .. => true
  | .linkAlign .. => true
  | .linkRestart .. => true
  | .searchResume .. => true
  | .crcMismatch .. => true
  | .sysrefError .. => true
  | .txLinkAlign .. => true
  | .rxChainEnable .. => true
  | .calibrationDue .. => true
  | .calibrationDone .. => true
  | .calibrationForced .. => true
  | .calReq .. => true
  | .txMismatch .. => true
  | .txProbe .. => true
  | .txFaultWrite .. => true
  | .gainWindow .. => true
  | .gainStepUpApply .. => true
  | .gainSettle .. => true
  | .blankAssert .. => true
  | .blankDeassert .. => true
  | .cxgntDrop .. => true
  | .cxreqChange .. => true
  | .cxHoldExpiry .. => true
  | .seqIdle .. => true
  | .seqWait .. => true
  | .seqWaitReached .. => true
  | .seqHop .. => true
  | .seqHopLock .. => true
  | .seqHopLockTimeout .. => true
  | .seqHcb .. => true
  | .seqGain .. => true
  | .seqCal .. => true
  | .seqEvent .. => true
  | .seqBranch .. => true
  | .seqIllegal .. => true
  | .seqProgWrite .. => true
  | .seqSwap .. => true
  | .hcbHostGo .. => true
  | .hcbDone .. => true
  | .steepCandidate .. => true
  | .trackerFreeze .. => true
  | .syncMatch .. => true
  | .syncTimeout .. => true
  | .floorWindow .. => true
  | .rstFloors .. => true
  | .channelPowerUpdate .. => true
  | .wEnWrite .. => true
  | .trackRead .. => true
  | .demodCtxRead .. => true
  | .demodSymbol _ _ sym => decide (sym.chips.length = sym.erased.length)
  | .trellisStep .. => true
  | .traceback .. => true
  | .segmentArrival .. => true
  | .frameRecordArrival .. => true
  | .endNoticeArrival .. => true
  | .segmentClose .. => true
  | .windowClose .. => true
  | .blendDecodeDone .. => true
  | .blendOverload .. => true
  | .groupHoldEnd .. => true
  | .elkDeadline .. => true
  | .checkAdmit .. => true
  | .checkDone .. => true
  | .replayFilter .. => true
  | .frameDelivery .. => true
  | .duplicateHoldExpiry .. => true
  | .decisionRecordArrival .. => true
  | .ackCheck .. => true
  | .piggybackCheck .. => true
  | .lbtCheck .. => true
  | .meetingCheck .. => true
  | .txStart .. => true
  | .txEnd .. => true
  | .ackTimeout .. => true
  | .contactWindowOpen .. => true
  | .contactMissed .. => true
  | .profileWrite .. => true
  | .netCfgWrite .. => true
  | .bcastTune .. => true
  | .bcastRetuneDone .. => true
  | .rdsBlock .. => true
  | .pcmRecord _ us50 us75 _ => decide (us50.length = 12 ∧ us75.length = 12)
  | .dabNull .. => true
  | .fibReceived _ bytes => decide (bytes.length = 32)
  | .subchRecord _ _ bytes _ => decide (bytes.length = 48)
  | .afCheck .. => true
  | .afDwellEnd .. => true
  | .tunedLoss .. => true
  | .afVerify .. => true
  | .nodeRead => true
  | .nodeWrite => true
  | .nodeInsert => true
  | .nodeDelete => true
  | .nodeSearch => true
  | .ageScan => true
  | .ageScanDone => true
  | .nodeBadOpcode op => decide (6 ≤ op.val)
  | .agingVisit .. => true
  | .hearSearch .. => true
  | .hearRead .. => true
  | .hearClear .. => true
  | .hearClearDone .. => true
  | .hearBadOpcode .. => true
  | .caskBind => true
  | .caskUnbind => true
  | .caskRead => true
  | .caskPeek => true
  | .caskFlush => true
  | .caskBadOpcode op => decide (5 ≤ op.val)
  | .poolEnable .. => true
  | .schedDecision .. => true
  | .gateCommit .. => true
  | .gateCancel .. => true
  | .gateTakeover .. => true
  | .gateEntryChange .. => true
  | .ringCtlWrite .. => true
  | .ringResume .. => true
  | .pollRound => true
  | .pollReadDone line result _ => decide (line < 512 ∧ result.all (fun ws => decide (ws.length = 8)) = true)
  | .kick .. => true
  | .cmdVisit .. => true
  | .cmdNop _ desc => decide (desc.length = 64 ∧ leAt desc 0 1 = 0x00)
  | .send _ desc => decide (desc.length = 64 ∧ leAt desc 0 1 = 0x01)
  | .sendDataRead .. => true
  | .contact _ desc => decide (desc.length = 64 ∧ leAt desc 0 1 = 0x02)
  | .contactCancel _ desc => decide (desc.length = 64 ∧ leAt desc 0 1 = 0x03)
  | .badOpcode _ desc => decide (desc.length = 64 ∧ badCmdOpcode (leAt desc 0 1))
  | .msixHoldoffEnd .. => true
  | .evtPendClear .. => true
  | .ethFrameRx _ _ bytes _ => decide (60 ≤ bytes.length)
  | .ptpEgress .. => true
  | .announceTimeout .. => true
  | .prpSupervision => true
  | .ethLinkChange .. => true
  | .fpTplCommit .. => true
  | .approvedWrite .. => true
  | .selftestDone _ run same => decide (run ≤ 1024 ∧ same ≤ 1024)
  | .rootRegen wrong _ => decide (wrong ≤ 32768)
  | .drbgSeeded => true
  | .dlFloorWrite .. => true
  | .keyLoadBlobs _ desc _ => decide (desc.length = 64 ∧ leAt desc 0 1 = 0x20)
  | .keyUpdate _ desc _ => decide (desc.length = 64 ∧ leAt desc 0 1 = 0x21)
  | .keyCommit _ desc => decide (desc.length = 64 ∧ leAt desc 0 1 = 0x22)
  | .keyUnwrap _ desc _ => decide (desc.length = 64 ∧ leAt desc 0 1 = 0x23)
  | .keyDerive _ desc => decide (desc.length = 64 ∧ leAt desc 0 1 = 0x24)
  | .keyClear _ desc => decide (desc.length = 64 ∧ leAt desc 0 1 = 0x25)
  | .keyInfo _ desc => decide (desc.length = 64 ∧ leAt desc 0 1 = 0x26)
  | .checkGen _ desc _ => decide (desc.length = 64 ∧ leAt desc 0 1 = 0x27)
  | .checkVerify _ desc _ => decide (desc.length = 64 ∧ leAt desc 0 1 = 0x28)
  | .random _ desc => decide (desc.length = 64 ∧ leAt desc 0 1 = 0x29)
  | .attest _ desc => decide (desc.length = 64 ∧ leAt desc 0 1 = 0x2A)
  | .pubkeys _ desc => decide (desc.length = 64 ∧ leAt desc 0 1 = 0x2B)
  | .enrol _ desc _ => decide (desc.length = 64 ∧ leAt desc 0 1 = 0x2C)
  | .zeroiseReenrol _ desc => decide (desc.length = 64 ∧ leAt desc 0 1 = 0x2D)
  | .debugUnlock _ desc => decide (desc.length = 64 ∧ leAt desc 0 1 = 0x2E)
  | .tamperAck _ desc => decide (desc.length = 64 ∧ leAt desc 0 1 = 0x2F)
  | .cacheFlush _ desc => decide (desc.length = 64 ∧ leAt desc 0 1 = 0x30)
  | .kilnBadOpcode _ desc => decide (desc.length = 64 ∧ 0x31 ≤ leAt desc 0 1 ∧ leAt desc 0 1 ≤ 0x3F)
  | .tamper .. => true
  | .entropyFault _ same => decide (same ≤ 1024)
  | .rngRestart .. => true
  | .rngRestartDone run same => decide (run ≤ 1024 ∧ same ≤ 1024)
  | .drbgReseed => true
  | .presenceSample .. => true
  | .signatureExchange .. => true
  | .headSelfcheckDone .. => true
  | .bulkResume => true
  | .headRejoin .. => true
  | .headRejoinDone .. => true
  | .fieldCoreMismatch .. => true
  | .patrol .. => true
  | .fieldSelftestDone .. => true
  | .fdieRejoin .. => true
  | .fdieRejoinDone .. => true
  | .errorLog es => decide (es ≠ [])
  | .logAck .. => true
  | .faultCauseClear .. => true
  | .stageErase _ desc => decide (desc.length = 64 ∧ leAt desc 0 1 = 0x40)
  | .stageWrite _ desc _ => decide (desc.length = 64 ∧ leAt desc 0 1 = 0x41)
  | .stageRead _ desc => decide (desc.length = 64 ∧ leAt desc 0 1 = 0x42)
  | .activate _ desc => decide (desc.length = 64 ∧ leAt desc 0 1 = 0x43)
  | .healthConfirm _ desc _ => decide (desc.length = 64 ∧ leAt desc 0 1 = 0x44)
  | .abort _ desc => decide (desc.length = 64 ∧ leAt desc 0 1 = 0x45)
  | .updateBadOpcode _ desc => decide (desc.length = 64 ∧ 0x46 ≤ leAt desc 0 1 ∧ leAt desc 0 1 ≤ 0x4F)
  | .bootRestart .. => true
  | .healthWindowExpiry => true
  | .joinRequest .. => true
  | .routeChoice .. => true
  | .frameClassify .. => true
  | .hookQueueTimeout .. => true
  | .hookBudgetExpiry .. => true
  | .tunInterrupt .. => true
  | .tunAddi .. => true
  | .tunAndi .. => true
  | .tunOri .. => true
  | .tunXori .. => true
  | .tunShi .. => true
  | .tunLui .. => true
  | .tunLb .. => true
  | .tunLbu .. => true
  | .tunLh .. => true
  | .tunLhu .. => true
  | .tunLw .. => true
  | .tunSb .. => true
  | .tunSh .. => true
  | .tunSw .. => true
  | .tunBz .. => true
  | .tunBnz .. => true
  | .tunJal .. => true
  | .tunJalr .. => true
  | .tunBlkMov .. => true
  | .tunBlkSet .. => true
  | .tunBlkScanEq .. => true
  | .tunBlkScanNe .. => true
  | .tunBlkCmp .. => true
  | .tunBlkCrc .. => true
  | .tunAdd .. => true
  | .tunSub .. => true
  | .tunAnd .. => true
  | .tunOr .. => true
  | .tunXor .. => true
  | .tunSll .. => true
  | .tunSrl .. => true
  | .tunSra .. => true
  | .tunMul .. => true
  | .tunMulhu .. => true
  | .tunDivu .. => true
  | .tunRemu .. => true
  | .tunCeq .. => true
  | .tunCne .. => true
  | .tunClt .. => true
  | .tunCltu .. => true
  | .tunCle .. => true
  | .tunCleu .. => true
  | .tunNop .. => true
  | .tunDone .. => true
  | .tunBrk .. => true
  | .tunWfe .. => true
  | .tunFence .. => true
  | .tunEret .. => true
  | .tunMfc .. => true
  | .tunMtc .. => true
  | .tunIllegal _ word => decide (tunWordLegal word.toNat = false)
  | .registerWrite .. => true
  | .unsupportedRead .. => true
  | .headRejoinSelftest .. => true
  | .vstbyLoss => true
  | .wakeNHigh => true
  | .cxListenLead .. => true
  | .statisticRead .. => true
  | .bootFlashDone => true

end Sys2Proof
end

