-- ==== Sys2Proof/Decode.lean ====
section
/-! DEFINITION. The decoder the host asks for: the command a word spells by the table's bits. No row of
spec/opcode_table.json gives a command any bits, so no word spells one. -/

namespace Sys2Proof

/-- The command spelt by a word of nbits bits, for the rows of the table that give bits: none does.
[DESIGN CHOICE, log entry 1] -/
def decodeTableWord (_nbits _w : Nat) : Option Instr := none

end Sys2Proof
end

