-- ==== Sys2Proof/Config.lean ====
section
/-! DEFINITION. The free values: what the spec leaves open where the machine goes on. Each is a constant with no
body, applied to the state's counter `free` or to the operands it depends on, so that a claim holds whatever it is.
The assumption log names every one. -/

namespace Sys2Proof.Config

/-- The addend the servo takes for a reference's frequency, 2^-32 ns (R57, R58, R60: the frequency is taken, how finely is open).
[DESIGN CHOICE, log entry 14] -/
opaque servoAddend : Nat → Nat

/-- A rounding direction the spec leaves open. [DESIGN CHOICE, log entry 23] -/
opaque roundUp : Nat → Bool

/-- HCLK cycles, in quarters, that so many reference cycles give under spread spectrum (R42, R64).
[DESIGN CHOICE, log entry 25] -/
opaque spreadQuarters : Nat → Nat → Nat → Nat → Nat

/-- The receive lane latency of a link configuration in ps above 150 ns (R77: within 150 to 900 ns, the value open).
[DEDUCED, log entry 29] -/
opaque rxLatency : Nat → Nat

/-- The transmit lane latency of a configuration in ps above 150 ns (R77, R162). [DEDUCED, log entry 29] -/
opaque txLatency : Nat → Nat

/-- Whether a decibel factor that is not a multiple of 2^-128 is held rounded up: 10^(a/k) by k and a (R138, R139, R146: how
finely the part holds it is open). [DESIGN CHOICE, log entry 38] -/
opaque factorUp : Nat → Int → Bool

/-- A chip's noise variance per real dimension, in the units of the chip values squared, for a channel noise power of
full scale, N or W (R145: the scale of the matched filter's output is open). [DESIGN CHOICE, log entry 156] -/
opaque chipNoise : Bool → Frac

/-- The setting an aerial tuner wants after a transmission, from its setting and the forward and reflected power (R84, the
law open). [DESIGN CHOICE, log entry 174] -/
opaque tunerMove : Int → Nat → Nat → Int

/-- The end of an aerial tuner's range on either side (R84, open). [DESIGN CHOICE, log entry 174] -/
opaque tunerReach : Nat

/-- Which of two equal path metrics an add-compare-select keeps (R147, open). [DESIGN CHOICE, log entry 46] -/
opaque trellisTie : Nat → Bool

/-- Which of several best states a traceback starts from (R147, open). [DESIGN CHOICE, log entry 46] -/
opaque bestTie : Nat → Nat

/-- What HEAD holds when the queue has no next item (R213, R216: it differs from MARK, the value open).
[DESIGN CHOICE, log entry 64] -/
opaque nullHead : Nat → Nat

/-- The time, in mesh cycles, since a node was last heard that the node table does not hold (R173, R174: it has no value).
[DESIGN CHOICE, log entry 61] -/
opaque unheardCycles : Nat → Nat

/-- A byte of eight samples of the entropy source (R288). [DESIGN CHOICE, log entry 95] -/
opaque entropyByte : Nat → Byte

/-- The next state of the 64-bit fallback generator (R290, its law open). [DESIGN CHOICE, log entry 95] -/
opaque fallbackNext : Nat → Nat

/-- Whether Farram's release key signed a manifest's first 352 bytes with a signature (R333: only the key's digest is given).
[DESIGN CHOICE, log entry 112] -/
opaque farramSigned : List Byte → List Byte → Bool

/-- Whether the operator key of an enrolment record (its digest) signed a manifest's first 448 bytes (R333: the record
holds the digest alone). [DESIGN CHOICE, log entry 112] -/
opaque operatorSigned : List Byte → List Byte → List Byte → Bool

/-- Whether the image a part is delivered with carries the countersignature of an enrolled key.
[DESIGN CHOICE, log entry 112] -/
opaque factoryCountersigned : List Byte → Bool

/-- Bytes of the image a part is delivered with in slot A. [DESIGN CHOICE, log entry 112] -/
opaque factoryByte : Nat → Byte

/-- Bytes of the component digests of the image a part is delivered with. [DESIGN CHOICE, log entry 112] -/
opaque factoryDigest : Nat → Byte

/-- The health window in seconds that a boot configuration component carries (R332: where in it is open).
[DESIGN CHOICE, log entry 113] -/
opaque healthSeconds : List Byte → Nat

/-- The corrected codeword that a code offset in the helper data gives with the SRAM of this die (R270: SRAM and code are
open). [DESIGN CHOICE, log entry 94] -/
opaque codeword : Nat → List Byte

/-- Bytes 6 to 13 of the KDF input of a device key, by its label (R271: they are open). [DESIGN CHOICE, log entry 94] -/
opaque deviceContext : List Byte → Nat → Byte

/-- Die ids of H0, H1, F0 to F5 (R292). [DESIGN CHOICE, log entry 94] -/
opaque dieId : Nat → Nat

/-- The boot ROM version (R292). [DESIGN CHOICE, log entry 94] -/
opaque bootRomVersion : Nat

/-- The per-message secret of a signature, from the DRBG output drawn for it (R292: how is open).
[DESIGN CHOICE, log entry 95] -/
opaque signSecret : List Byte → Nat

/-- Bytes of an attestation nonce past the 27 that a descriptor's inline data holds (R292, R298 disagree).
[DEDUCED, log entry 106] -/
opaque nonceByte : Nat → Byte

/-- Whether an exception in mode F counts as raised inside the handler, from the handler's address and EPC (R352).
[DEDUCED, log entry 138] -/
opaque inHandler : Word → Word → Bool

/-- UNIT of a log entry whose unit R310 does not name, by its code: lockstep mismatch, patrol, self-test.
[DESIGN CHOICE, log entry 130] -/
opaque logUnit : Nat → Nat

/-- The patrol signature that a sound die sends (R306). [DESIGN CHOICE, log entry 131] -/
opaque patrolSignature : BitVec 64

/-- Whether ALIGN is reported for an address that is both misaligned and refused (R341, R347: the order is open).
[DESIGN CHOICE, log entry 139] -/
opaque alignFirst : Nat → Bool

/-- A control register c8 to c15, which R344 does not list, as read. [DEDUCED, log entry 141] -/
opaque openControl : Nat → Nat → Word

/-- The cycle counter that a Tun core reads (R344). [DEDUCED, log entry 141] -/
opaque cycleCount : Nat → Nat

/-- Whether a higher CLK.XTAL_TRIM raises the crystal's frequency (R82: the sign is open).
[DESIGN CHOICE, log entry 24] -/
opaque trimRaises : Bool

end Sys2Proof.Config
end

