-- ==== Sys2Proof/Machine/Operands.lean ====
section
/-! DEFINITION. The operand forms the families share: rates and airtimes (R101, R113), the PHY header (R110), the MAC
frame's fields (R114, R115), the wake address (R123), the convolutional code (R112) and the fields of SEND. -/

namespace Sys2Proof.Machine

/-! ### Rates (R101, R107, R113) -/

/-- Spreading factor of a rate code. -/
def spreadOf (r : Nat) : Nat := [1, 1, 4, 16, 64].getD r 1

/-- Largest MAC frame of a rate code in bytes. -/
def maxFrame (r : Nat) : Nat := [1280, 1280, 640, 255, 127].getD r 0

/-- Chip time of a rate code in ns. -/
def chipNs (r : Nat) : Nat := if r = 0 then 1250 else 5000

/-- Preamble length of a rate code in chips (R107). -/
def preambleChips (r : Nat) : Nat := [128, 128, 128, 512, 2048].getD r 0

/-- Chips up to the end of the sync word. -/
def syncChips (r : Nat) : Nat := preambleChips r + 32 * spreadOf r

/-- Information bits of the coded block of a MAC frame of len bytes. -/
def codedBits (len : Nat) : Nat := 24 + 8 * len + 6

/-- Chips of a frame (R113). -/
def frameChips (r len : Nat) : Nat := syncChips r + 2 * codedBits len * spreadOf r

/-- Airtime of a frame in ns. -/
def frameNs (r len : Nat) : Nat := frameChips r len * chipNs r

/-- Airtime from the start of the frame to the end of its sync word in ns. -/
def syncNs (r : Nat) : Nat := syncChips r * chipNs r

/-! ### Decibels -/

/-- p^n ≥ 10^q: that p lies at q / n tenths of a decade or above, exactly. -/
def powGe (n : Nat) (p : Frac) (q : Int) : Bool :=
  if 0 ≤ q then p.den ^ n * 10 ^ q.toNat ≤ p.num ^ n else p.den ^ n ≤ p.num ^ n * 10 ^ (-q).toNat

/-- A quotient of fractions. -/
def fracOver (a b : Frac) : Frac := ⟨a.num * b.den, a.den * b.num⟩

/-- x units of 2^-128 are no more than 10^(a/k). -/
def decadeLe (k : Nat) (a : Int) (x : Nat) : Bool := x ^ k * 10 ^ (-a).toNat ≤ 10 ^ a.toNat * 2 ^ (128 * k)

/-- The largest x from lo on, by bisection over 2^fuel values, with x units of 2^-128 no more than 10^(a/k). -/
def decadeRoot (k : Nat) (a : Int) : Nat → Nat → Nat
  | 0, lo => lo
  | fuel + 1, lo => if decadeLe k a (lo + 2 ^ fuel) then decadeRoot k a fuel (lo + 2 ^ fuel) else decadeRoot k a fuel lo

/-- 10^(a/k) as the part holds it, here to 2^-128. [DESIGN CHOICE, log entry 38] -/
def decade (k : Nat) (a : Int) : Frac :=
  let x := decadeRoot k a 168 0
  ⟨x + bit (Config.factorUp k a && x ^ k * 10 ^ (-a).toNat ≠ 10 ^ a.toNat * 2 ^ (128 * k)), 2 ^ 128⟩

/-! ### Bits -/

/-- The n bits of a number, most significant first. -/
def bitsOf : Nat → Nat → List Bool
  | 0, _ => []
  | n + 1, v => (v / 2 ^ n % 2 = 1) :: bitsOf n (v % 2 ^ n)

/-- The number of a list of bits, most significant first. -/
def ofBits (l : List Bool) : Nat := l.foldl (fun acc b => 2 * acc + bit b) 0

/-- The bytes of a list of bits, whole bytes only. -/
def bytesOfBits : Nat → List Bool → List Byte
  | 0, _ => []
  | n + 1, l => BitVec.ofNat 8 (ofBits (l.take 8)) :: bytesOfBits n (l.drop 8)

/-- The bits of bytes, in order. -/
def bitsOfBytes (l : List Byte) : List Bool := l.flatMap fun b => bitsOf 8 b.toNat

/-- Set bits of a number below 2^n. -/
def popCount : Nat → Nat → Nat
  | 0, _ => 0
  | n + 1, v => v % 2 + popCount n (v / 2)

/-- Bits in which two 32-bit words differ. -/
def hamming32 (a b : Nat) : Nat := popCount 32 (a ^^^ b)

/-- CRC-8 with polynomial x^8 + x^2 + x + 1 over bits, most significant first (R110, R122). -/
def crc8 (init : Nat) (l : List Bool) : Nat :=
  l.foldl (fun c b => let x := c / 128 % 2 ^^^ bit b; (2 * c % 256) ^^^ (7 * x)) init

/-- The whole square root of a number below 4^fuel, from lo on. -/
def rootFrom (n : Nat) : Nat → Nat → Nat
  | 0, lo => lo
  | fuel + 1, lo => if (lo + 2 ^ fuel) ^ 2 ≤ n then rootFrom n fuel (lo + 2 ^ fuel) else rootFrom n fuel lo

/-- The real part of a value turned by a phase reference, a vector at that phase (R145). A reference of length 0 turns
nothing. [DESIGN CHOICE, log entry 42] -/
def turned (y r : Int × Int) : Int :=
  if r = (0, 0) then y.1
  else (y.1 * r.1 + y.2 * r.2) * 2 ^ 32 / ((rootFrom ((r.1 * r.1 + r.2 * r.2).toNat * 2 ^ 64) 128 0 : Nat) : Int)

/-! ### PHY header (R110) -/

/-- The 24 bits of a PHY header. -/
def phyHeader (len ver : Nat) (relayed sleepy : Bool) : Nat :=
  let hi := len % 2048 * 32 + ver % 4 * 8 + bit relayed * 4 + bit sleepy * 2
  hi * 256 + crc8 0xFF (bitsOf 16 hi)

/-- LEN of a PHY header. -/
def phyLen (h : Nat) : Nat := bitsAt h 13 11

/-- SLEEPY of a PHY header. -/
def phySleepy (h : Nat) : Bool := bitsAt h 9 1 = 1

/-! ### MAC frame (R114, R115) -/

/-- TYPE of a MAC frame. -/
def macType (h : List Byte) : Nat := beAt h 0 2 / 2 ^ 13
/-- CVLEN of a MAC frame. -/
def macCvlen (h : List Byte) : Nat := bitsAt (beAt h 0 2) 11 2
/-- KEYCLASS of a MAC frame. -/
def macClass (h : List Byte) : Nat := bitsAt (beAt h 0 2) 8 3
/-- ACKREQ of a MAC frame. -/
def macAckReq (h : List Byte) : Bool := bitsAt (beAt h 0 2) 7 1 = 1
/-- Per-neighbour sequence number of a MAC frame. -/
def macSeq (h : List Byte) : Nat := beAt h 2 1
/-- Network id of a MAC frame. -/
def macNet (h : List Byte) : Nat := beAt h 3 2
/-- Destination address of a MAC frame. -/
def macDst (h : List Byte) : Nat := beAt h 5 4
/-- Source address of a MAC frame. -/
def macSrc (h : List Byte) : Nat := beAt h 9 4
/-- Frame counter of a MAC frame. -/
def macCtr (h : List Byte) : Nat := beAt h 13 4
/-- Key index of a MAC frame. -/
def macIndex (h : List Byte) : Nat := beAt h 17 1

/-- Check-value bytes of a CVLEN code. -/
def cvBytes (c : Nat) : Nat := [0, 4, 8, 16].getD c 0

/-- The 18 header bytes of a MAC frame. -/
def macHeader (typ cvlen cls : Nat) (ackReq pending : Bool) (seq net dst src ctr index : Nat) : List Byte :=
  beBytes 2 (typ * 2 ^ 13 + cvlen * 2 ^ 11 + cls * 2 ^ 8 + bit ackReq * 128 + bit pending * 64) ++ beBytes 1 seq
    ++ beBytes 2 net ++ beBytes 4 dst ++ beBytes 4 src ++ beBytes 4 ctr ++ beBytes 1 index

/-- The broadcast address (R116). -/
def broadcast : Nat := 0xFFFFFFFF

/-- The wake address of a node (R123). -/
def wakeAddr (a salt : Nat) : Nat := (a * 0x9E3779B1 % 2 ^ 32 / 256) ^^^ (salt % 2 ^ 24)

/-! ### The convolutional code (R112) -/

/-- The two coded bits that a 7-bit register (current input on top) gives: generators 133 and 171 octal. -/
def convOut (reg : Nat) : Bool × Bool := (popCount 7 (reg &&& 0o133) % 2 = 1, popCount 7 (reg &&& 0o171) % 2 = 1)

/-- The coded bits of information bits from an encoder state. -/
def convEncode : Nat → List Bool → List Bool
  | _, [] => []
  | st, b :: l =>
    let reg := bit b * 64 + st
    (convOut reg).1 :: (convOut reg).2 :: convEncode (reg / 2) l

end Sys2Proof.Machine
end

