-- ==== Sys2Proof/Machine/Kinds.lean ====
section
/-! DEFINITION. The names the units share: variants (R1), status codes (R251), access-fault kinds (R313), the part's
outputs as the outside sees them, and the fixed identity of a package. -/

namespace Sys2Proof.Machine

/-- The ordering codes of R1. -/
inductive Variant where
  | wxb2
  | wxb4
  | wxb8
deriving DecidableEq, Repr

/-- Field dies of a variant (R1). -/
def Variant.fieldDies : Variant → Nat
  | .wxb2 => 1
  | .wxb4 => 2
  | .wxb8 => 6

/-- Head dies of a variant (R1). -/
def Variant.headDies : Variant → Nat
  | .wxb2 => 1
  | .wxb4 => 2
  | .wxb8 => 2

/-- PCI device id of a variant (R1). -/
def Variant.deviceId : Variant → Nat
  | .wxb2 => 0x7A02
  | .wxb4 => 0x7A04
  | .wxb8 => 0x7A08

/-- The status codes of R251. -/
inductive Status where
  | done | doneProvisional | withdrawn | badOpcode | badField | badLength | badAddress | badKeyUse | keyExpired
  | noBuffer | queueFull | tableFull | entryStatic | notFound | busy | presenceRequired | entropyFault | tamperHeld
  | authFail | replay | duplicate | sourceLost | lengthBeyondBuffer | decodeFail | channelBusyTimeout | noAck
  | abortMismatch | walkFault | dieFenced | switchoverReplayed | internal
deriving DecidableEq, Repr

/-- The 8-bit code of a status (R251). -/
def Status.code : Status → Nat
  | .done => 0x00
  | .doneProvisional => 0x01
  | .withdrawn => 0x02
  | .badOpcode => 0x10
  | .badField => 0x11
  | .badLength => 0x12
  | .badAddress => 0x13
  | .badKeyUse => 0x14
  | .keyExpired => 0x15
  | .noBuffer => 0x16
  | .queueFull => 0x17
  | .tableFull => 0x18
  | .entryStatic => 0x19
  | .notFound => 0x1A
  | .busy => 0x1B
  | .presenceRequired => 0x1C
  | .entropyFault => 0x20
  | .tamperHeld => 0x21
  | .authFail => 0x22
  | .replay => 0x23
  | .duplicate => 0x24
  | .sourceLost => 0x30
  | .lengthBeyondBuffer => 0x31
  | .decodeFail => 0x32
  | .channelBusyTimeout => 0x33
  | .noAck => 0x34
  | .abortMismatch => 0x35
  | .walkFault => 0x36
  | .dieFenced => 0x40
  | .switchoverReplayed => 0x41
  | .internal => 0xFF

/-- The kinds of SAFE.ACCESS_FAULT (R313). -/
inductive AccessKind where
  | illegalValue
  | unimplemented
  | locked
deriving DecidableEq, Repr

/-- The encoding of KIND in SAFE.ACCESS_FAULT. -/
def AccessKind.code : AccessKind → Nat
  | .illegalValue => 0
  | .unimplemented => 1
  | .locked => 2

/-- The waveform of a transmission: MSK chips (+1 or −1) by arm, I the even and Q the odd chips, each a half-sine pulse
two chips long, with the tone deviation in Hz (R102); or on-off keying by half bits of 62.5 µs (R122), with the length
of its raised-cosine edges and how far below the on level the output is while off. -/
inductive Wave where
  | msk (i q : List Int) (toneHz : Nat)
  | ook (halves : List Bool) (edgeNs offDb : Nat)
deriving DecidableEq, Repr

/-- What the part sends out, in the order it sends it: the outside of the block. -/
inductive Output where
  /-- A PCI Express memory write of the part by a head's function (R235, R236). -/
  | hostWrite (func addr : Nat) (bytes : List Byte)
  /-- A PCI Express memory read the part issues by a head's function: a doorbell line, a descriptor, data (R234, R235,
  R240, R243). -/
  | hostRead (func addr len : Nat)
  /-- An MSI-X message of a vector (R253): the message address and data of the table of the function it leaves by. -/
  | msix (func vector addr data : Nat)
  /-- The completion of a host read of a BAR or of configuration space (R12, R359). -/
  | readDone (func : Nat) (space : BusSpace) (offset data : Nat)
  /-- An Unsupported Request completion (R313). -/
  | unsupported (func : Nat) (space : BusSpace) (offset : Nat)
  /-- An Ethernet frame out of port p of head h, without its FCS. -/
  | ethFrame (h p : Nat) (bytes : List Byte)
  /-- An HCB SPI transaction (R98): die, master, chip select, bits sent (most significant first). -/
  | hcb (f m cs len : Nat) (data : Nat)
  /-- A PM I2C level write (R328). -/
  | pmic (addr reg code : Nat)
  /-- Recovery pulses and a STOP of the PM I2C master (R328). -/
  | pmRecovery (pulses : Nat) (stop : Bool)
  /-- The reply of the watch slave to an address byte (R324). -/
  | watchReply (ack : Bool)
  /-- The start of a transmission on an output: die, output, grid channel, rate, T0 in ns of mesh time, level (dB below
  full scale on a lane, dBm on a chain), the MAC frame or the bytes of the wake burst, and the waveform sent. -/
  | air (f o grid rate t0 : Nat) (level : Int) (frame : List Byte) (wave : Wave)
  /-- A transmission cut short or ramped down early (R85, R92, R307). -/
  | airCut (f o : Nat) (frame : List Byte)
  /-- A probe ramp to 0 dBm of an integrated transmit chain (R86). -/
  | probe (f c : Nat)
  /-- CXREQ or CXGNT of input-output pair n of die f driven to its active or inactive level (R92, R93). -/
  | coex (f n : Nat) (active : Bool)
  /-- CLKOUT and SYSREF n of die f as they run from now on, started or stopped cleanly (R43, R44): CLKOUT at 4,915.2 MHz
  / div, a SYSREF pulse every 2^srLog2 CLKOUT periods. -/
  | clkout (f n : Nat) (ck sr : Bool) (div srLog2 : Nat)
  /-- The retune of a chain of die f (R79, R94, R184): 0 to 3 receive, 4 and 5 transmit, 6 broadcast. -/
  | retune (f chain freq : Nat)
  /-- A boot-flash erase, program or record write started (R334). -/
  | flash (op addr len : Nat)
deriving DecidableEq, Repr

/-- A bulk output that a switch-over holds and may send again (R301, R302). [DEDUCED, log entry 129] -/
def Output.bulk : Output → Bool
  | .hostWrite .. => true
  | .hostRead .. => true
  | .msix .. => true
  | .ethFrame .. => true
  | _ => false

/-- A completion that the part returns to a host read (R12). -/
def Output.isCompletion : Output → Bool
  | .readDone .. => true
  | .unsupported .. => true
  | _ => false

/-- The fixed identity of a package (R1, R2, R360). -/
structure Part where
  variant : Variant
  gradeE : Bool
  silicon : BitVec 8
  serial : BitVec 128
  /-- Bulk memory installed per head die, in GiB: 4 to 32 (chapter 1). -/
  memGiB : Nat
deriving DecidableEq, Repr

/-- A range of bus addresses a function's BAR is programmed to (R237). -/
structure BarRange where
  base : Nat
  size : Nat
deriving DecidableEq, Repr

end Sys2Proof.Machine
end

