-- ==== Sys2Proof/Machine/PlatformUnits.lean ====
section
/-! DEFINITION. The state of the platform units that the register store does not hold: power and watch domain, time
unit, clock outputs, timer channels, events, rings, Ethernet and redundancy. Dies are numbered as PKG.THERM.HOT_DIE
numbers them: 0 H0, 1 H1, 2 + f field die f. -/

namespace Sys2Proof.Machine

/-- Where the part stands between no supply and running (R322, R323, R326, R37). -/
inductive Phase where
  /-- No VSTBY. -/
  | noVstby
  /-- Night: only the watch domain runs. -/
  | night
  /-- Start-up step 1: PWR_EN[n] high, PGOOD[n] awaited. -/
  | railUp (n : Nat)
  /-- Start-up step 2: OSC_RDY awaited. -/
  | osc
  /-- Start-up step 3: MEM_RDY awaited. -/
  | mem
  /-- Start-up step 4: LOGIC_RDY awaited. -/
  | pll
  /-- Start-up step 5: the boot ROM runs, BOOT_RDY awaited. -/
  | boot
  /-- After BOOT_RDY. -/
  | running
  /-- RESET_N low. -/
  | resetHeld
  /-- Night entry, step 1 of R323. -/
  | quiescing
  /-- Night entry between commit and arming (R323). -/
  | committed
  /-- Rails dropping, PWR_EN[n] the next. -/
  | powerDown (n : Nat)
deriving DecidableEq, Repr

/-- The stages of a level change (R318): raising rails, their settle wait, the glide, lowering rails, their wait. -/
inductive LevelStage where
  | railsUp
  | settleUp
  | glide
  | railsDown
  | settleDown
deriving DecidableEq, Repr

/-- A level change under way (R318): the levels aimed at in the layout of LEVEL_REQ, the rails still to be written
(rail, level) with the one on the bus in front, and the attempts made at it (R319). -/
structure LevelChange where
  target : Nat
  stage : LevelStage
  up : List (Nat × Nat)
  down : List (Nat × Nat)
  attempts : Nat
deriving DecidableEq, Repr

/-- Power unit and thermal state (R33, R316 to R321). -/
structure Power where
  phase : Phase
  /-- PWR_EN[3:0]. -/
  pwrEn : BitVec 4
  /-- Each die's temperature in 0.25 °C. -/
  temps : Tbl Int
  /-- Dies at or above 105 °C and not yet below 100 °C. -/
  warn : List Nat
  /-- Dies with a thermal drop in force. -/
  drop : List Nat
  /-- Drops called for by a sample and not yet started (R320). -/
  called : List Nat
  /-- Dies that read 105 °C or more since the last cycle boundary. -/
  hot : List Nat
  /-- Consecutive whole mesh cycles below 105 °C of a die under drop (R33). -/
  cool : Tbl Nat
  /-- An accepted level request waits for a slot start (R318). -/
  reqPending : Bool
  change : Option LevelChange
  /-- Dies whose drop waits for the change under way to end. -/
  dropNext : List Nat
  /-- RESET_N is low. -/
  resetN : Bool
  /-- Receive links disabled at Dusk entry and remembered (R321): (die, link). -/
  duskLinks : List (Nat × Nat)
deriving DecidableEq, Repr

/-- The watch domain (R322 to R325, R35, R296): WAKE_CAUSE, NIGHT_CNT, CFG, the tamper latch and the wake logic. -/
structure Watch where
  entry : Nat
  wake : Nat
  fromNight : Bool
  tamperNight : Bool
  /-- Consecutive start-up faults, up to 3. -/
  faults : Nat
  nightCnt : Nat
  wakeNEn : Bool
  wsEn : Bool
  /-- WATCH.CFG as captured at commit. -/
  capWakeN : Bool
  capWs : Bool
  /-- The wake latched before the power-down ends: 1 address match, 2 WAKE_N. -/
  latched : Option Nat
  /-- WAKE_N seen high for 10 µs since the third consecutive fault (R325). -/
  seenHigh : Bool
  /-- REF_SEL as sampled at step 2 of the last start (R40, R326). -/
  refSel : Bool
  /-- WS_ADDR[1:0] as sampled at VSTBY power-on (R324). -/
  wsAddr : BitVec 2
  /-- The tamper latch that KILN.TAMPER mirrors: PIN[3:0], VOLT, CLOCK, TEMP, NIGHT. -/
  tamper : BitVec 8
  /-- FAULT_N held low by a thermal trip until the next wake (R35). -/
  tripLow : Bool
  /-- The last entry into Night was a thermal trip that the next LOGIC_RDY reports (R314). -/
  tripReport : Bool
deriving DecidableEq, Repr

/-- A time reference as the selector sees it (R56): the last cycle's verdict, the runs of good and bad cycles, and what
was measured of it last. -/
structure RefState where
  good : Bool
  goodRun : Nat
  badRun : Nat
  qualified : Bool
  far : Bool
  /-- Counter minus reference, ns, without the part's own slew: what it leads by now is this and the slew since. -/
  phase : Option Int
  /-- What this cycle's measurements say so far: none when there was none. -/
  cycleOk : Option Bool
  /-- The phase at the cycle before and its change in that cycle, which the servo expects again (R56). -/
  prevPhase : Option Int
  prevStep : Option Int
  /-- 10^9 times the addend that the frequency last measured gives (R187). -/
  freq : Option Nat
deriving DecidableEq, Repr

/-- A reference never seen. -/
def RefState.init : RefState := ⟨false, 0, 0, false, false, none, none, none, none, none⟩

/-- The time unit (R47 to R63). -/
structure TimeUnit where
  sec : Nat
  ns : Nat
  /-- Fraction of a nanosecond, 2^-32 ns. -/
  frac : Nat
  /-- The addend in force, 2^-32 ns, slew included. -/
  addend : Nat
  /-- The addend without slew. -/
  base : Nat
  /-- Slew applied since LOGIC_RDY, 2^-32 ns, signed. -/
  slewAcc : Int
  /-- The current mesh slot count. -/
  msc : Nat
  nowLatch : Option Nat
  mscLatch : Option Nat
  pps : RefState
  ptp : RefState
  dab : RefState
  fm : RefState
  /-- The ranking in force, PPS, PTP, DAB, FM (a new one takes effect at a cycle boundary). -/
  ranks : List Nat
  /-- Total slew the switch in progress has to apply, 2^-32 ns, and where slewAcc stood at its start. -/
  slewGoal : Int
  slewFrom : Int
  /-- The switch in progress is a forced slew (R58). -/
  forced : Bool
  /-- Addends of the last 66 cycles, newest first (R60). -/
  history : List Nat
  /-- TIME.PPS_TOD has been written and not consumed, with the counter ns of the write. -/
  ppsTod : Option (Nat × Nat)
  /-- The last PPS edge and the last DAB null end, counter time in ns without slew. -/
  lastPps : Option Int
  lastNull : Option Int
  /-- MSC of the last cycle tick, or of the last load that moved the grid. -/
  lastCycle : Option Nat
  /-- Path delays the PTP slave reported in the last 16 cycles, ns, newest first. -/
  ptpDelays : List Int
  /-- Consecutive calibration failures of each field die, and the dies marked by R63. -/
  calFails : Tbl Nat
  calMarked : List Nat
  /-- Round trip in ps of each field die's link at its last calibration that succeeded; half of it is what the die's copy
  of the counter is set with (R62). -/
  trips : Tbl Nat
  /-- A new TIMING has moved the phase of the selected DAB reference, and the slew of that is still to begin (R192). -/
  dabMoved : Bool
deriving DecidableEq, Repr

/-- Clock outputs (R41 to R45): the spread in force, the outputs running (8f + n), each walking phase, and the 4,915.2 MHz
cycles until a gapped or one-shot SYSREF stops. -/
structure Clocks where
  ssMode : Nat
  ssDepth : Nat
  ckRun : List Nat
  srRun : List Nat
  phaseNow : Tbl Nat
  srLeft : Tbl Nat
deriving DecidableEq, Repr

/-- What a timer channel needs beside its registers (R64 to R67). -/
structure TimerRun where
  /-- Counts made and not yet judged against COMPARE, at most the counter's span. -/
  fresh : Nat
  /-- Wraps made and not yet reported. -/
  wraps : Nat
  /-- Quarter HCLK cycles toward the next count, or the fraction of a nanosecond carried. -/
  pre : Nat
  /-- COUNT of the odd partner latched by a read of the even channel (R65). -/
  latch : Option Nat
deriving DecidableEq, Repr

/-- The event controller (R253). -/
structure Events where
  pend : BitVec 512
  again : BitVec 512
  /-- Vectors within their holdoff. -/
  holding : List Nat
  /-- Vectors signalled within their holdoff. -/
  waiting : List Nat
  /-- Sources that fire at most once until a read re-arms them (R141, R142, R259, R312, R313). -/
  disarmed : List Nat
  /-- MSI-X tables: word w of function h at 1024h + w (vector control words mask when their bit 0 is 1). -/
  msixTable : Tbl Nat
  /-- Pending bits: vector v of function h at 256h + v. -/
  pba : List Nat
deriving DecidableEq, Repr

/-- A started command: its CMD ring, the CPL ring whose slot it claimed, its opcode and its tag. -/
structure CmdRef where
  ring : Nat
  cpl : Nat
  op : Nat
  tag : Nat
deriving DecidableEq, Repr

/-- A SEND whose data is being read (R243): its descriptor. -/
structure SendJob where
  desc : List Byte
deriving DecidableEq, Repr

/-- The running state of a ring (R233, R239, R240, R247). -/
structure RingRun where
  /-- The host index last taken. -/
  host : Nat
  /-- The part's index. -/
  part : Nat
  halted : Bool
  faultStatus : Nat
  dropped : Nat
  /-- CPL slots claimed by commands started and uncompleted. -/
  claimed : Nat
  /-- ELK slots reserved for follow-ups. -/
  reserved : Nat
  /-- Commands started at a visit and not yet executed, in ring order: the CPL ring whose slot each has claimed. -/
  started : List Nat
  /-- How many of these were started before the ring was last enabled: they no longer move its index (R232). -/
  stale : Nat
  /-- The SEND whose data is being read. -/
  sending : Option SendJob
deriving DecidableEq, Repr

/-- A ring just enabled. -/
def RingRun.init : RingRun := ⟨0, 0, false, 0, 0, 0, 0, [], 0, none⟩

/-- The ring controller: the rings, the fault latch (R239), polling (R234) and the visit order (R240). -/
structure Rings where
  runs : Tbl RingRun
  faultValid : Bool
  faultRing : Nat
  faultStatus : Nat
  faultMore : Nat
  faultAddr : Nat
  /-- Doorbell lines read and not yet answered. -/
  polling : List Nat
  /-- The ring visited last. -/
  lastVisit : Nat
  /-- Configuration space of the functions as written since cold start (R237): word w of function h at 1024h + w. -/
  cfg : Tbl Nat
  /-- The function of the head that took over had not been set up: no ring makes progress (R235). -/
  stalled : Bool
deriving DecidableEq, Repr

/-- A master a LAN's slave follows (R261): the Announce fields of the dataset comparison, as one list of bytes in
comparison order, the identity of its port, and its announce interval exponent. -/
structure PtpMaster where
  /-- grandmasterPriority1, clockClass, clockAccuracy, offsetScaledLogVariance, priority2, identity (14 bytes), then
  stepsRemoved (2 bytes) and the sender's port identity (10 bytes). -/
  dataset : List Byte
  gmId : Nat
  port : List Byte
  announceIntervals : Nat
  /-- Counter ns of its last Announce. -/
  heardAt : Nat
deriving DecidableEq, Repr

/-- The slave of one LAN (R261 to R264). Instants are counter time at the MDI in 2^-16 ps. -/
structure PtpLan where
  master : Option PtpMaster
  /-- A two-step Sync waiting for its Follow_Up: sequenceId, ingress, correction. -/
  sync : Option (Nat × Int × Int)
  /-- The last complete Sync: master send instant and receive instant, both corrected. -/
  lastSync : Option (Int × Int)
  /-- A Delay_Req sent: sequenceId and egress instant. -/
  req : Option (Nat × Int)
  nextSeq : Nat
  /-- Mean path delay. -/
  delay : Option Int
  /-- Sync messages complete in this cycle, with the offsets and path delays they gave. -/
  syncs : Nat
  offsets : List Int
  delays : List Int
deriving DecidableEq, Repr

/-- A LAN with no master. -/
def PtpLan.init : PtpLan := ⟨none, none, none, none, 0, none, 0, [], []⟩

/-- A PTP frame waiting to leave a port (R263). -/
structure EgressFrame where
  bytes : List Byte
  /-- A frame the part originates: the LAN whose slave sends it, and its PRP sequence number where it is sent on a LAN. -/
  own : Option (Nat × Option Nat)
  /-- The MDI ingress instant of the frame forwarded, or of the request answered. -/
  ingress : Option Int
  /-- Added to the correction of a forwarded message: the ingress port's link delay and asymmetry. -/
  adjust : Int
deriving DecidableEq, Repr

/-- Pdelay of one port (R263): a request sent, with its sequenceId and egress instant, a two-step response waiting for its
Follow_Up (sequenceId, t2, t4 and corrections), the next sequenceId, when the last request was made, counter ns, and the
link delay measured. -/
structure PeerPort where
  req : Option (Nat × Int)
  presp : Option (Nat × Int × Int × Int)
  nextSeq : Nat
  askedAt : Option Nat
  delay : Option Int
deriving DecidableEq, Repr

/-- A port that has measured nothing. -/
def PeerPort.init : PeerPort := ⟨none, none, 0, none, none⟩

/-- The transmitter of a port (R255, R259): from when and for how many ns a received PAUSE stops it, the frames that wait for
that, oldest first, each bulk or privileged, and of those given to the line the lengths, with when and for how many ns each
stays in the queue. -/
structure TxPort where
  pause : Nat × Nat
  waiting : List (Bool × List Byte)
  leaving : List (Nat × Nat × Nat)
deriving DecidableEq, Repr

/-- A transmitter that holds nothing. -/
def TxPort.init : TxPort := ⟨(0, 0), [], []⟩

/-- Ethernet state (R255 to R264). Ports are numbered 2h + p. -/
structure Eth where
  lanA : PtpLan
  lanB : PtpLan
  lanUsed : Nat
  /-- PRP sequence number of the next privileged frame. -/
  prpSeq : Nat
  /-- Frames accepted on a LAN: source, sequence number, LAN and counter time in ms. -/
  prpSeen : List (Nat × Nat × Nat × Nat)
  /-- PTP frames waiting for their egress stamp, per port. -/
  egress : Tbl (List EgressFrame)
  peers : Tbl PeerPort
  tx : Tbl TxPort
  /-- Counter ns of the last supervision frames. -/
  lifeAt : Option Nat
deriving DecidableEq, Repr

/-- An error-log entry (R249, R310). -/
structure LogEntry where
  seq : Nat
  code : Nat
  unit : Nat
  nested : Bool
  uncorrectable : Bool
  fenced : Bool
  stamp : Nat
  addr : Nat
  detail : Nat
deriving DecidableEq, Repr

/-- Why a field die runs its self-test (R305, R306, R309). -/
inductive SelftestWhy where
  | coreMismatch
  | patrolPair
  | patrolSingle
  | rejoin
deriving DecidableEq, Repr

/-- The access-fault latch (R313). -/
structure AccessFault where
  valid : Bool
  offset : Nat
  kind : AccessKind
  write : Bool
  bar2 : Bool
  more : Nat
deriving DecidableEq, Repr

/-- Redundancy and error state (R300 to R314). -/
structure Safe where
  /-- The 64 entries of the on-die log. -/
  log : Tbl LogEntry
  nextSeq : Nat
  /-- Uncorrectable errors of a unit since reset or rejoin (R311), by unit id. -/
  uncorrectable : Tbl Nat
  /-- Units marked DEGRADED, by unit id. -/
  degraded : List Nat
  fault : AccessFault
  /-- Bulk outputs are held (R301). -/
  hold : Bool
  held : List Output
  /-- Bulk outputs sent whose signature window has not matched yet, oldest first (R300, R302). -/
  unconfirmed : List Output
  /-- The first transmission handed to a field die since the last match. -/
  unconfirmedJob : Nat
  /-- The first transmission that the hold keeps at the heads (R301). -/
  holdJob : Nat
  /-- Field-die self-tests in progress. -/
  selftests : Tbl SelftestWhy
  /-- Dies whose self-test follows the one in progress (R306, lower f first). -/
  selftestNext : List Nat
  /-- Dies of a differing pair that passed (R306). -/
  pairPassed : List Nat
  /-- The slot of this cycle drawn for each die's patrol, while it has not been run (R306). -/
  patrolAt : Tbl Nat
  /-- Dies whose patrol found no idle demodulator context since its slot. -/
  patrolWait : List Nat
  /-- Patrol signatures of this cycle. -/
  patrol : Tbl (BitVec 64)
  /-- Units whose errors of the HCLK cycle under way have been logged (R312). -/
  thisCycle : List Nat
  /-- Register writes made to each die's window since cold start, oldest first: (die, BAR0 offset, word) (R309). -/
  dieWrites : List (Nat × Nat × Nat)
deriving DecidableEq, Repr

end Sys2Proof.Machine
end

