-- ==== Sys2Proof/Machine/AirUnits.lean ====
section
/-! DEFINITION. The state of the field dies' units that the register store does not hold: links, integrated chains,
gain, blanking, coexistence, SEQ and the HCB masters, trackers, noise floors, demodulator contexts, and what a die has
sent up to the heads. Keys: link 48f + k, chain 4f + c, transmit chain 2f + c, gain source 44f + src, HCB master 4f + m, tracker 2048f + t,
context 4096f + d, channel ((512f + i) · 2 + W) · 256 + k. -/

namespace Sys2Proof.Machine

/-- An integrated receive chain's calibrations (R80, R81): 0 image rejection, 1 filter bandwidth, 2 DC offset. -/
structure ChainRun where
  due : List Nat
  /-- Due ones waiting 600 s, to be run in the next slot whatever is open. -/
  forced : List Nat
  running : List Nat
  /-- Those completed since EN. -/
  done : List Nat
deriving DecidableEq, Repr

/-- A chain that is off. -/
def ChainRun.init : ChainRun := ⟨[], [], [], []⟩

/-- A faulted transmit port's probing (R86): seconds to the next probe, and whether the next slot probes. -/
structure ProbeRun where
  interval : Nat
  nextSlot : Bool
deriving DecidableEq, Repr

/-- A converter step written or being written (R89): its serial, the index it leads to, whether its write has ended. -/
structure GainStep where
  serial : Nat
  idx : Nat
  written : Bool
deriving DecidableEq, Repr

/-- Automatic gain of a source (R87 to R89). -/
structure GainRun where
  idx : Nat
  /-- Consecutive windows above −6 dBFS and below −24 dBFS. -/
  high : Nat
  low : Nat
  /-- A step up that waits, with the windows it has waited (R88). -/
  waitUp : Option Nat
  /-- Converter steps not yet in effect, oldest first, and the serial of the next one (R89). -/
  steps : List GainStep
  next : Nat
  /-- Held by a SEQ GAIN instruction. -/
  held : Bool
deriving DecidableEq, Repr

/-- A coexistence pair (R92, R93): CXREQ asserted by a requester; CXREQ seen active at the pin and CXGNT given by a
granting side, and whether it ignores CXREQ after a hold expiry; and the attempts on guarded outputs whose listen
window has begun or is within TIMEOUT_US: (true, chain) for a probe, (false, job) otherwise. -/
structure CxRun where
  req : Bool
  pin : Bool
  gnt : Bool
  ignore : Bool
  lead : List (Bool × Nat)
deriving DecidableEq, Repr

/-- Why an HCB transaction is made (R94, R89, R99). -/
inductive HcbWhy where
  | program
  | gain (src serial : Nat)
  | host (read : Bool)
deriving DecidableEq, Repr

/-- An HCB transaction: chip select, length in bits, data. -/
structure HcbTx where
  cs : Nat
  len : Nat
  data : Nat
  why : HcbWhy
deriving DecidableEq, Repr

/-- An HCB master (R99): the transaction on the bus, those SEQ and host software wait with, whose the last one was. -/
structure HcbMaster where
  cur : Option HcbTx
  seqWait : List HcbTx
  hostWait : Option HcbTx
  lastSeq : Bool
deriving DecidableEq, Repr

/-- A free master. -/
def HcbMaster.init : HcbMaster := ⟨none, [], none, false⟩

/-- What SEQ is doing (R94). -/
inductive SeqState where
  | idle
  | running
  | waiting (offset : Nat)
  | hopping (chain : Nat)
  | hcb
deriving DecidableEq, Repr

/-- SEQ of a die (R94 to R97): its two banks and its state. -/
structure SeqRun where
  bank0 : Tbl Nat
  bank1 : Tbl Nat
  st : SeqState
  /-- The mesh slot whose program runs. -/
  slot : Nat
deriving DecidableEq, Repr

/-- A tracker (R132 to R135). -/
structure Tracker where
  ctx : Nat
  w : Bool
  chan : Nat
  rate : Nat
  codeSet : Nat
  /-- ρ as last computed, and |C| / L at the crossing. -/
  rho : Frac
  power : Frac
  offsetHz : Int
  phase : Nat
  /-- The FCLK cycle in which its candidate was raised, numbered in order. -/
  born : Nat
  frozen : Bool
  /-- Frozen offset, 10 Hz units, and a vector at the phase reference, both from the freeze on. -/
  frozen10Hz : Int
  phaseRef : Int × Int
deriving DecidableEq, Repr

/-- A channel's noise floor (R137 to R139). -/
structure Floor where
  valid : Bool
  /-- The floor P, relative to full scale. -/
  power : Frac
  /-- Idle windows counted, up to 256. -/
  idle : Nat
  /-- Their powers, held toward the first value. -/
  held : List Frac
deriving DecidableEq, Repr

/-- A floor at 0x8000. -/
def Floor.init : Floor := ⟨false, Frac.zero, 0, []⟩

/-- What spoils the 128 µs window of a context for its noise floors (R137): the whole context, a tracker's channel, a
frame's channel with those it covers, or a transmission of the die on a grid channel, wide or not.
[DEDUCED, log entry 176] -/
inductive Spoil where
  | whole
  | tracker (w : Bool) (k : Nat)
  | frame (w : Bool) (k : Nat)
  | sent (grid : Nat) (wide : Bool)
deriving DecidableEq, Repr

/-- What identifies a copy to the heads (R149 to R151). -/
structure CopyInfo where
  /-- Unique among all copies. -/
  serial : Nat
  f : Nat
  ctx : Nat
  chan : Nat
  grid : Nat
  rate : Nat
  net : Nat
  len : Nat
  /-- The sync-end instant in counter ns, and the record timestamp. -/
  syncNs : Int
  stamp : Nat
  ofs10Hz : Int
deriving DecidableEq, Repr

/-- A frame record (R149). -/
structure FrameRecord where
  info : CopyInfo
  lqi : Nat
  done : Bool
  disagree : Nat
  /-- The PHY header, 24 bits, and MAC header bytes 0 to 17. -/
  phy : Nat
  head : List Byte
  segments : Nat
deriving DecidableEq, Repr

/-- What a field die sends up (R143, R149). -/
inductive UpMsg where
  | segment (info : CopyInfo) (seg : Nat) (head : List Byte) (phy : Nat) (bits : List Bool) (llrs : List Int)
  | record (r : FrameRecord)
  | endNotice (serial : Nat) (blanked : Bool)
deriving DecidableEq, Repr

/-- A demodulator context (R142 to R149). -/
structure DemodCtx where
  serial : Nat
  rate : Nat
  net : Nat
  /-- Code set and network id of the network matched, as in force at the match. -/
  codeSet : Nat
  netId : Nat
  ctx : Nat
  w : Bool
  chan : Nat
  phase : Nat
  ofs10Hz : Int
  /-- A vector at the phase reference in force (R144). -/
  phaseRef : Int × Int
  /-- Correlated power and reference (quarter dB) that the tracker passed (R134, R142). -/
  power : Frac
  noiseRef : Int
  /-- The sync-end instant in counter ns, and the record timestamp. -/
  syncNs : Int
  stamp : Nat
  grid : Nat
  /-- Gain markers of the stream placed before the context began, which do not concern it. -/
  marks : Nat
  /-- The first sample of the last symbol taken. -/
  last : Nat
  /-- LLRs of the coded bits demodulated so far; of the last 8 symbols, newest first, the values with their hard signs
  removed (from the restart of R146 on) and the |Re|, in 2^-16. -/
  llrs : List Int
  recent : List (Int × Int)
  reals : List Nat
  symbols : Nat
  /-- Symbol energies of the tracking interval at the earlier, own and later sample phase (R144). -/
  energy : Nat × Nat × Nat
  /-- Sum over symbols of a² / (2σ²), for the LQI. -/
  snrSum : Frac
  /-- The 64 path metrics, and per information bit the survivor decisions (64 bits), newest first. -/
  metrics : List Int
  decisions : List Nat
  /-- The best state at each number of information bits from which a traceback starts (R111, R147), newest first. -/
  best : List (Nat × Nat)
  /-- Information bits advanced. -/
  steps : Nat
  /-- Information bits decided. -/
  bits : List Bool
  /-- Receive-check groups passed, 0 to 3 (R111). -/
  checks : Nat
  /-- Segments sent. -/
  sent : Nat
deriving DecidableEq, Repr

/-- A HEAR_CMD operation as it stood at GO (R211); a CLEAR has begun to empty the table. -/
structure HearOp where
  op : Nat
  index : Nat
  addr : Nat
  begun : Bool
deriving DecidableEq, Repr

/-- The field dies' units. -/
structure Air where
  /-- Links that reached EMB_LOCK since their last restart or enable (R74). -/
  reached : List Nat
  /-- Receive links on whose streams the search runs (R74). -/
  searching : List Nat
  /-- CRC-12 mismatches since LINK.STATUS was last read (R100). -/
  crcSince : Tbl Nat
  chains : Tbl ChainRun
  probes : Tbl ProbeRun
  /-- Aerial tuner setting of transmit chain 2f + c (R84). -/
  tuners : Tbl Int
  gains : Tbl GainRun
  /-- BLANK inputs active: 8f + n. -/
  blank : List Nat
  cx : Tbl CxRun
  seqs : Tbl SeqRun
  hcb : Tbl HcbMaster
  trackers : Tbl Tracker
  born : Nat
  floors : Tbl Floor
  /-- Mean power over the latest 128 µs (R140). -/
  powers : Tbl Frac
  /-- Gain markers of stream 512f + i, oldest first: sample index and change in dB (R88, R128). -/
  markers : Tbl (List (Nat × Int))
  /-- What has spoiled the running window of stream 512f + i (R137). -/
  spoilt : Tbl (List Spoil)
  /-- Thresholds before a write, newest first, with the counter ns of the write: 16f + r for RHO_MIN + 256 × ABOVE of
  rate r, 16f + 8 for START_THR (R141). -/
  thrWas : Tbl (List (Nat × Nat))
  /-- Dies whose FLOORS_VALID event has been raised (R140). -/
  floorsTold : List Nat
  /-- Dies that clamped in this slot (R129). -/
  clampTold : List Nat
  /-- Digital gain in force per context 512f + i (R128). -/
  dgain : Tbl Nat
  /-- Transmissions under way: (die, output, grid channel, wide). -/
  sending : List (Nat × Nat × Nat × Bool)
  ctxs : Tbl DemodCtx
  nextSerial : Nat
  /-- Messages on their way to the heads, oldest first, per die. -/
  up : Tbl (List UpMsg)
  /-- HEAR_CMD operations in progress, per die (R211). -/
  hearOps : Tbl HearOp
deriving DecidableEq, Repr

/-- The field dies' units at reset. [DESIGN CHOICE, log entries 8, 174] -/
def Air.init : Air :=
  { reached := [], searching := [], crcSince := [], chains := [], probes := [], tuners := [], gains := [], blank := [], cx := [],
    seqs := [], hcb := [], trackers := [], born := 0, floors := [], powers := [], markers := [], spoilt := [],
    thrWas := [], floorsTold := [], clampTold := [],
    dgain := [], sending := [], ctxs := [], nextSerial := 1, up := [], hearOps := [] }

end Sys2Proof.Machine
end

