-- ==== Sys2Proof/Machine/Crypto.lean ====
section
/-! DEFINITION. The approved algorithms of R267 as their standards give them, on lists of bytes: AES (FIPS 197), CMAC
(SP 800-38B, R280), KW (SP 800-38F), the node-key KDF (SP 800-108, R276) and SHA-384 (FIPS 180-4). -/

namespace Sys2Proof.Machine

/-! ### AES -/

/-- Multiplication by x in GF(2^8). -/
def xtime (a : Nat) : Nat := if 128 ≤ a then (2 * a - 256) ^^^ 0x1B else 2 * a

/-- Multiplication in GF(2^8), over the low n bits of b. -/
def gmul : Nat → Nat → Nat → Nat
  | 0, _, _ => 0
  | n + 1, a, b => (if b % 2 = 1 then a else 0) ^^^ gmul n (xtime a) (b / 2)

/-- a^(2^(n+1) − 2) by repeated squaring and multiplying; n = 7 gives the inverse in GF(2^8), 0 for 0. -/
def gpow : Nat → Nat → Nat
  | 0, _ => 1
  | n + 1, a => let s := gmul 8 a a; gmul 8 s (gpow n s)

/-- Rotation of an 8-bit value to the left. -/
def rol8 (a n : Nat) : Nat := a * 2 ^ n % 256 + a / 2 ^ (8 - n)

/-- The S-box by its definition: the inverse and the affine map. -/
def sboxOf (a : Nat) : Nat := let b := gpow 7 a; b ^^^ rol8 b 1 ^^^ rol8 b 2 ^^^ rol8 b 3 ^^^ rol8 b 4 ^^^ 0x63

/-- The S-box as a table. -/
def sboxTable : List Nat := (List.range 256).map sboxOf

/-- The inverse S-box as a table. -/
def invTable : List Nat := (List.range 256).map fun v => (List.range 256).foldl (fun a i => if sboxTable.getD i 0 = v then i else a) 0

/-- S-box of a byte. -/
def sbox (a : Nat) : Nat := sboxTable.getD a 0

/-- Inverse S-box of a byte. -/
def isbox (a : Nat) : Nat := invTable.getD a 0

/-- Exclusive or of two lists of bytes. -/
def xorL (a b : List Nat) : List Nat := List.zipWith (· ^^^ ·) a b

/-- The key schedule, newest word first: words still to make, words made, nk, and the round constant. -/
def expandKey (nk : Nat) : Nat → Nat → List (List Nat) → Nat → List (List Nat)
  | 0, _, ws, _ => ws
  | n + 1, i, ws, rcon =>
    let prev := ws.headD []
    let t := if i % nk = 0 then xorL ((prev.drop 1 ++ prev.take 1).map sbox) [rcon, 0, 0, 0]
      else if 6 < nk ∧ i % nk = 4 then prev.map sbox else prev
    expandKey nk n (i + 1) (xorL (ws.getD (nk - 1) []) t :: ws) (if i % nk = 0 then xtime rcon else rcon)

/-- The four-byte words of a key, oldest first. -/
def keyWords : Nat → List Nat → List (List Nat)
  | 0, _ => []
  | n + 1, k => k.take 4 :: keyWords n (k.drop 4)

/-- Joins words, four to a round key. -/
def roundKeys : Nat → List (List Nat) → List (List Nat)
  | 0, _ => []
  | n + 1, ws => (ws.take 4).flatten :: roundKeys n (ws.drop 4)

/-- The round keys of a key of 16 or 32 bytes. -/
def aesKeys (key : List Nat) : List (List Nat) :=
  let nk := key.length / 4
  let rounds := nk + 7
  roundKeys rounds (expandKey nk (4 * rounds - nk) nk (keyWords nk key).reverse 1).reverse

/-- ShiftRows on 16 bytes in column order. -/
def shiftRows (b : List Nat) : List Nat := (List.range 16).map fun i => b.getD ((i + 4 * (i % 4)) % 16) 0

/-- InvShiftRows. -/
def unshiftRows (b : List Nat) : List Nat := (List.range 16).map fun i => b.getD ((i + 16 - 4 * (i % 4)) % 16) 0

/-- MixColumns with the coefficients of its first row. -/
def mixCols (m : List Nat) (b : List Nat) : List Nat :=
  (List.range 16).map fun i =>
    (List.range 4).foldl (fun a j => a ^^^ gmul 8 (b.getD (i / 4 * 4 + j) 0) (m.getD ((j + 4 - i % 4) % 4) 0)) 0

/-- The rounds of AES after the first key addition. -/
def aesRounds : List (List Nat) → List Nat → List Nat
  | [], b => b
  | [k], b => xorL (shiftRows (b.map sbox)) k
  | k :: ks, b => aesRounds ks (xorL (mixCols [2, 3, 1, 1] (shiftRows (b.map sbox))) k)

/-- The rounds of inverse AES, on reversed round keys. -/
def aesUnrounds : List (List Nat) → List Nat → List Nat
  | [], b => b
  | [k], b => xorL ((unshiftRows b).map isbox) k
  | k :: ks, b => aesUnrounds ks (mixCols [14, 11, 13, 9] (xorL ((unshiftRows b).map isbox) k))

/-- AES encryption of a block. [PRESUMED, log entry 93] -/
def aesEnc (key block : List Byte) : List Byte :=
  let ks := aesKeys (key.map (·.toNat))
  (aesRounds (ks.drop 1) (xorL (block.map (·.toNat)) (ks.headD []))).map (BitVec.ofNat 8)

/-- AES decryption of a block. [PRESUMED, log entry 93] -/
def aesDec (key block : List Byte) : List Byte :=
  let ks := (aesKeys (key.map (·.toNat))).reverse
  (aesUnrounds (ks.drop 1) (xorL (block.map (·.toNat)) (ks.headD []))).map (BitVec.ofNat 8)

/-! ### CMAC (R280) -/

/-- Doubling in GF(2^128), of a big-endian block. -/
def dbl128 (n : Nat) : Nat := if 2 ^ 127 ≤ n then (2 * n - 2 ^ 128) ^^^ 0x87 else 2 * n

/-- Exclusive or of two lists of bytes. -/
def xorB (a b : List Byte) : List Byte := List.zipWith (· ^^^ ·) a b

/-- The chain of whole blocks. -/
def cbcChain (key : List Byte) : Nat → List Byte → List Byte → List Byte
  | 0, x, _ => x
  | n + 1, x, m => cbcChain key n (aesEnc key (xorB x (m.take 16))) (m.drop 16)

/-- AES-CMAC of a message, 16 bytes. [PRESUMED, log entry 93] -/
def cmac (key msg : List Byte) : List Byte :=
  let l := beVal (aesEnc key (List.replicate 16 0))
  let k1 := dbl128 l
  let n := if msg.isEmpty then 1 else (msg.length + 15) / 16
  let last := msg.drop (16 * (n - 1))
  let final := if last.length = 16 then xorB last (beBytes 16 k1)
    else xorB (last ++ 0x80 :: List.replicate (15 - last.length) 0) (beBytes 16 (dbl128 k1))
  let x := cbcChain key (n - 1) (List.replicate 16 0) msg
  aesEnc key (xorB x final)

/-- n blocks of the KDF of R276: label, bytes 6 to 13, and the length in bits. [PRESUMED, log entry 93] -/
def kdfBlocks (ki label ctx : List Byte) (bits n : Nat) : List Byte :=
  (List.range n).flatMap fun i => cmac ki (beBytes 1 (i + 1) ++ label ++ [0] ++ ctx ++ beBytes 2 bits)

/-- The node key of R276, or the class S key of KEY_DERIVE. [PRESUMED, log entry 93] -/
def kdfKey (ki label ctx : List Byte) (len256 : Bool) : List Byte :=
  if len256 then kdfBlocks ki label ctx 256 2 else kdfBlocks ki label ctx 128 1

/-! ### CTR_DRBG with AES-256 and a derivation function (SP 800-90A, R288) -/

/-- The DRBG's state (R266). -/
structure Drbg where
  key : List Byte
  v : List Byte
deriving DecidableEq, Repr

/-- n blocks of the counter mode: the last counter and the blocks. -/
def Drbg.blocks (d : Drbg) : Nat → List Byte × List Byte
  | 0 => (d.v, [])
  | n + 1 =>
    let r := d.blocks n
    let v := beBytes 16 (beVal r.1 + 1)
    (v, r.2 ++ aesEnc d.key v)

/-- The update function on 48 bytes. [PRESUMED, log entry 93] -/
def Drbg.update (d : Drbg) (x : List Byte) : Drbg :=
  let t := xorB (d.blocks 3).2 x
  ⟨t.take 32, t.drop 32⟩

/-- The derivation function: 48 bytes from seed material. [PRESUMED, log entry 93] -/
def drbgDf (m : List Byte) : List Byte :=
  let s := beBytes 4 m.length ++ beBytes 4 48 ++ m ++ [0x80]
  let s := s ++ List.replicate ((16 - s.length % 16) % 16) 0
  let k := (List.range 32).map (BitVec.ofNat 8)
  let bcc (i : Nat) : List Byte := cbcChain k (1 + s.length / 16) (List.replicate 16 0) (beBytes 4 i ++ List.replicate 12 0 ++ s)
  let t := bcc 0 ++ bcc 1 ++ bcc 2
  let x1 := aesEnc (t.take 32) (t.drop 32)
  let x2 := aesEnc (t.take 32) x1
  x1 ++ x2 ++ aesEnc (t.take 32) x2

/-- Seeds a DRBG, anew or on top of its state, from 96 bytes of samples. [PRESUMED, log entry 93] -/
def drbgSeed (d : Option Drbg) (samples : List Byte) : Drbg :=
  (d.getD ⟨List.replicate 32 0, List.replicate 16 0⟩).update (drbgDf samples)

/-- n bytes of output, and the state after the request. [PRESUMED, log entry 93] -/
def Drbg.generate (d : Drbg) (n : Nat) : Drbg × List Byte :=
  let r := d.blocks ((n + 15) / 16)
  (Drbg.update { d with v := r.1 } (List.replicate 48 0), r.2.take n)

/-! ### KW (SP 800-38F) -/

/-- One step of unwrapping: semiblocks after the first, rotated, with the counter t going down. -/
def kwUnsteps (key : List Byte) : Nat → Nat → List Byte → List (List Byte) → List Byte × List (List Byte)
  | 0, _, a, r => (a, r)
  | n + 1, t, a, r =>
    let b := aesDec key (beBytes 8 (beVal a ^^^ t) ++ r.getLastD [])
    kwUnsteps key n (t - 1) (b.take 8) (b.drop 8 :: r.dropLast)

/-- Splits into semiblocks. -/
def semis : Nat → List Byte → List (List Byte)
  | 0, _ => []
  | n + 1, l => l.take 8 :: semis n (l.drop 8)

/-- KW unwrapping: the key, or none where the integrity check fails. [PRESUMED, log entry 93] -/
def kwUnwrap (key c : List Byte) : Option (List Byte) :=
  let n := c.length / 8 - 1
  let (a, r) := kwUnsteps key (6 * n) (6 * n) (c.take 8) (semis n (c.drop 8))
  if beVal a = 0xA6A6A6A6A6A6A6A6 then some r.flatten else none

/-- One step of wrapping. -/
def kwSteps (key : List Byte) : Nat → Nat → List Byte → List (List Byte) → List Byte × List (List Byte)
  | 0, _, a, r => (a, r)
  | n + 1, t, a, r =>
    let b := aesEnc key (a ++ r.headD [])
    kwSteps key n (t + 1) (beBytes 8 (beVal (b.take 8) ^^^ t)) (r.drop 1 ++ [b.drop 8])

/-- KW wrapping. [PRESUMED, log entry 93] -/
def kwWrap (key p : List Byte) : List Byte :=
  let n := p.length / 8
  let (a, r) := kwSteps key (6 * n) 1 (beBytes 8 0xA6A6A6A6A6A6A6A6) (semis n p)
  a ++ r.flatten

/-! ### SHA-384 (FIPS 180-4) -/

/-- Rotation of a 64-bit word to the right. -/
def ror64 (x n : Nat) : Nat := x / 2 ^ n + x % 2 ^ n * 2 ^ (64 - n)

/-- The integer cube root and square root by bisection: the largest r below lo + 2^fuel with r^k ≤ n. -/
def rootK (k n : Nat) : Nat → Nat → Nat
  | 0, lo => lo
  | fuel + 1, lo => if (lo + 2 ^ fuel) ^ k ≤ n then rootK k n fuel (lo + 2 ^ fuel) else rootK k n fuel lo

/-- The primes of the constants. -/
def primes80 : List Nat :=
  (List.range 410).filter fun p => 2 ≤ p && (List.range p).all fun d => d < 2 || p % d ≠ 0

/-- K: the first 64 bits of the fractional parts of the cube roots of the first 80 primes. -/
def sha512K : List Nat := primes80.map fun p => rootK 3 (p * 2 ^ 192) 68 0 % 2 ^ 64

/-- Initial value of SHA-384: from the square roots of the ninth to sixteenth primes. -/
def sha384Init : List Nat := ((primes80.drop 8).take 8).map fun p => rootK 2 (p * 2 ^ 128) 68 0 % 2 ^ 64

/-- The message schedule, newest first. -/
def shaSched : Nat → List Nat → List Nat
  | 0, w => w
  | n + 1, w =>
    let a := w.getD 14 0
    let b := w.getD 1 0
    let s0 := ror64 a 1 ^^^ ror64 a 8 ^^^ (a / 2 ^ 7)
    let s1 := ror64 b 19 ^^^ ror64 b 61 ^^^ (b / 2 ^ 6)
    shaSched n ((w.getD 15 0 + s0 + w.getD 6 0 + s1) % 2 ^ 64 :: w)

/-- The rounds of a block. -/
def shaRounds : List Nat → List Nat → List Nat → List Nat
  | [], _, v => v
  | _, [], v => v
  | k :: ks, w :: ws, v =>
    match v with
    | [a, b, c, d, e, f, g, h] =>
      let t1 := h + (ror64 e 14 ^^^ ror64 e 18 ^^^ ror64 e 41) + ((e &&& f) ^^^ ((2 ^ 64 - 1 - e) &&& g)) + k + w
      let t2 := (ror64 a 28 ^^^ ror64 a 34 ^^^ ror64 a 39) + ((a &&& b) ^^^ (a &&& c) ^^^ (b &&& c))
      shaRounds ks ws [(t1 + t2) % 2 ^ 64, a, b, c, (d + t1) % 2 ^ 64, e, f, g]
    | _ => v

/-- One block of 128 bytes. -/
def shaBlock (v : List Nat) (block : List Byte) : List Nat :=
  let w := (List.range 16).map fun i => beAt block (8 * i) 8
  let ws := (shaSched 64 w.reverse).reverse
  List.zipWith (fun a b => (a + b) % 2 ^ 64) v (shaRounds sha512K ws v)

/-- The blocks of a padded message. -/
def shaBlocks : Nat → List Nat → List Byte → List Nat
  | 0, v, _ => v
  | n + 1, v, m => shaBlocks n (shaBlock v (m.take 128)) (m.drop 128)

/-- SHA-384, 48 bytes. [PRESUMED, log entry 93] -/
def sha384 (m : List Byte) : List Byte :=
  let z := (111 + 128 - m.length % 128) % 128
  let p := m ++ 0x80 :: List.replicate z 0 ++ beBytes 16 (8 * m.length)
  ((shaBlocks (p.length / 128) sha384Init p).take 6).flatMap (beBytes 8)

end Sys2Proof.Machine
end

