-- ==== Sys2Proof/Machine/HeadUnits.lean ====
section
/-! DEFINITION. The state of the head dies' units that the register store does not hold: networks and profile in
force, the node table, the hearing tables, reception groups with the replay and duplicate filters, contacts, Kiln,
Cask, the scheduler, and frames on their way to the air. -/

namespace Sys2Proof.Machine

/-- A network as it is in force on air (R108, R109). -/
structure NetForce where
  sync : Nat
  codeSet : Nat
  syncErr : Nat
  netId : Nat
deriving DecidableEq, Repr

/-- BLEND.CFG as in force (R157). -/
structure BlendForce where
  windowUs : Nat
  always : Bool
  tsTol : Nat
deriving DecidableEq, Repr

/-- A node-table entry of R197: 128 bits and 4 parity bits. -/
structure NodeEntry where
  word : Nat
  par : Nat
deriving DecidableEq, Repr

/-- A NODE.CMD operation with its input as it stood at GO. -/
structure NodeOp where
  op : Nat
  key : Nat
  index : Nat
  data : Nat
deriving DecidableEq, Repr

/-- The node table (R197 to R209): valid entries by index, the operation in progress, and the age of an AGE_SCAN whose
scan runs. -/
structure NodeUnit where
  tab : Tbl NodeEntry
  op : Option NodeOp
  scan : Option Nat
deriving DecidableEq, Repr

/-- A hearing-table entry (R210). -/
structure HearEntry where
  addr : Nat
  ctx : Nat
  rate : Nat
  lqi : Nat
  heard : Nat
  count : Nat
deriving DecidableEq, Repr

/-! ### Kiln (R266 to R299) -/

/-- A key slot that is not empty (R272). -/
structure Slot where
  attr : Nat
  key : List Byte
deriving DecidableEq, Repr

/-- A key cache entry (R277): its tag, its key, and what keeps it. -/
structure CacheEntry where
  net : Nat
  addr : Nat
  ix : Nat
  slot : Nat
  key : List Byte
  tentative : Bool
  /-- Order of the last use. -/
  used : Nat
  /-- Reception groups it has served that have not ended. -/
  serving : List Nat
  /-- To be emptied when its requests complete (R277). -/
  doomed : Bool
deriving DecidableEq, Repr

/-- Where a request finds its key: a slot, a cache entry, or a key derived into scratch. -/
inductive KeyRef where
  | slot (k : Nat)
  | cache (i : Nat)
  | scratch (key : List Byte)
deriving DecidableEq, Repr

/-- A result of a group: a copy's own decode, by serial, or the combined one (R154). -/
inductive ResultSrc where
  | copy (serial : Nat)
  | combined
deriving DecidableEq, Repr

/-- Who asked for a check (R274, R279). -/
inductive CheckWhy where
  | receive (g : Nat)
  | ack (g : Nat)
  | downlink (job : Nat)
  | hostGen (c : CmdRef) (out : Nat)
  | hostVerify (c : CmdRef)
deriving DecidableEq, Repr

/-- A check-engine request (R279): its key and the key class through whose map entry it is reached, verify or generate,
the tag's bytes, message, tag to compare, and, once admitted, the key as it stood at admission. -/
structure CheckReq where
  why : CheckWhy
  key : KeyRef
  kc : Option Nat
  verify : Bool
  trunc : Nat
  msg : List Byte
  tag : List Byte
  admitted : Option (List Byte)
  /-- The instant at which it reached admission, ns of the time counter. -/
  since : Nat := 0
deriving DecidableEq, Repr

/-- A pending key update (R286): its counter and its records (slot, ATTR, key). -/
structure KeyUpdate where
  counter : Nat
  records : List (Nat × Slot)
deriving DecidableEq, Repr

/-- A counter-store record (R282): the node's address, its counters by key class, and the order of its last use. -/
structure CtrRec where
  addr : Nat
  ctrs : Tbl Nat
  used : Nat
deriving DecidableEq, Repr

/-- Kiln. -/
structure Kiln where
  slots : Tbl Slot
  cache : Tbl CacheEntry
  /-- Orders uses for the least recently used choices. -/
  tick : Nat
  reqs : Tbl CheckReq
  nextReq : Nat
  /-- The root, once regenerated. -/
  root : Option (List Byte)
  update : Option KeyUpdate
  /-- The DRBG's state, none before the first seed and after zeroisation. -/
  drbg : Option Drbg
  /-- Generate requests since the last seeding (R288). -/
  gens : Nat
  /-- The last good DRBG output, which seeds the fallback generator, and that generator's 64-bit state (R290). -/
  last : List Byte
  fallback : Nat
  /-- A health failure during the restart test (R291). -/
  restartBad : Bool
  counters : Tbl CtrRec
  /-- Consecutive low samples of PRESENT_N (R293). -/
  present : Nat
  /-- KILN.TAMPER.PIN_EN. -/
  pinEn : BitVec 4
deriving DecidableEq, Repr

/-- Kiln at LOGIC_RDY. [DESIGN CHOICE, log entry 8] -/
def Kiln.init : Kiln :=
  { slots := [], cache := [], tick := 0, reqs := [], nextReq := 1, root := none, update := none, drbg := none,
    gens := 0, last := [], fallback := 0, restartBad := false,
    counters := [], present := 0, pinEn := 0xF }

/-- One-time programmable memory: the key-update counter, enrolment records (digests), which is active (0 none), the
zeroisation count, the rollback floor, the lock state word; and which helper data stands in boot flash. -/
structure Otp where
  updateCtr : Nat
  enrol : List (List Byte)
  active : Nat
  zeroisations : Nat
  floor : Nat
  lockState : Nat
  /-- The code offset of the helper data in boot flash: 0 as manufactured, then as drawn (R270, R294). -/
  helper : Nat
deriving DecidableEq, Repr

/-! ### Reception groups (R150 to R158) -/

/-- A segment of a copy as it reached the head before its group closed it (R153). -/
structure SegIn where
  ix : Nat
  bits : List Bool
  llrs : List Int
  /-- Its place in the order of arrival at the head. -/
  order : Nat
deriving DecidableEq, Repr

/-- A copy in a group. -/
structure Copy where
  info : CopyInfo
  phy : Nat
  head : List Byte
  segs : List SegIn
  /-- LQI and verdict, once the frame record has arrived, and its place in the order of arrival at the head. -/
  record : Option (Nat × Bool)
  recordAt : Nat
  /-- A late copy, or one discarded as the ninth (R152, R153). -/
  late : Bool
deriving DecidableEq, Repr

/-- A frame confirmed by a group (R156): its result, and whether it is new (not a retry). -/
structure Confirmed where
  src : ResultSrc
  fresh : Bool
  /-- Order of confirmation. -/
  order : Nat
deriving DecidableEq, Repr

/-- A group of copies of one frame. -/
structure Group where
  /-- The field die whose copies alone it takes (Thrift). -/
  die : Option Nat
  net : Nat
  rate : Nat
  grid : Nat
  len : Nat
  /-- Sync end of its first copy, counter ns. -/
  firstNs : Int
  /-- In order of arrival. -/
  copies : List Copy
  /-- Profile and BLEND.CFG under which it became provisional (R157). -/
  profile : Nat
  cfg : BlendForce
  prov : Bool
  closed : Bool
  closedSegs : List Nat
  decodedSegs : List Nat
  /-- The combined result is on the list (R154); its bits and LQI once decoded. -/
  wantsCombined : Bool
  combined : Option (List Bool × Nat)
  overload : Bool
  /-- Results still to verify, the one at Kiln with its request, and the one that passed Kiln. -/
  todo : List ResultSrc
  checking : Option (ResultSrc × Nat)
  passed : Option ResultSrc
  /-- HCLK instant, in counter ns, at which that result reached step 4 (R178). -/
  passedAt : Nat
  /-- The key found for it under key class 0 (R277, R278). -/
  key : Option KeyRef
  /-- Source address and key index that key belongs to. -/
  keyFor : Nat × Nat
  confirmed : Option Confirmed
  /-- Status with which the last result ended. -/
  last : Status
  /-- It ended unconfirmed and was reported so. -/
  ended : Bool
  /-- GROUPS and COPIES have counted it (R17, R156), and the copies dropped before that (OVER_EIGHT). -/
  counted : Bool
  surplus : Nat
  /-- The 1,000 µs hold has ended. -/
  heldOut : Bool
  /-- It learned at its learn point already. -/
  learned : Bool
  /-- Streams, LQIs and record arrivals that copies of other dies' groups added as candidates (Thrift, R200). -/
  extra : List (Nat × Nat × Nat)
  /-- Early-look: the provisional record posted, empty if none, its ring, and whether its follow-up is still due (R158). -/
  elk : List Byte
  elkRing : Nat
  elkOpen : Bool
  elkSkipped : Bool
  /-- RX_OFFSET as sent in the ack, or 0x8000, and whether it was limited to its range (CLIPPED). -/
  rxOffset : Nat
  rxClipped : Bool
  /-- The confirmed frame waits for its delivery (R246); the ring a hook named. -/
  deliver : Bool
  ring : Option Nat
  /-- Cask buffers of the receive path that hold the frame (R218). -/
  bufs : List Nat
deriving DecidableEq, Repr

/-- A replay record (R176). -/
structure Replay where
  index : Nat
  high : Nat
  seen : BitVec 64
deriving DecidableEq, Repr

/-- A pending contact (R172, R244). -/
structure Contact where
  cmd : CmdRef
  addr : Nat
  net : Nat
  grid : Nat
  rate : Nat
  /-- The instant T: slot and offset. -/
  msc : Nat
  ofs : Nat
  /-- Guard time, ns, as placed. -/
  guard : Nat
  windowUs : Nat
  isOpen : Bool
deriving DecidableEq, Repr

/-- The receive side of the MAC. -/
structure MacRx where
  groups : Tbl Group
  nextGroup : Nat
  /-- Replay records by 8 × source + key class. -/
  replay : Tbl Replay
  /-- Held pairs (sequence number, counter) by source, newest first (R177). -/
  pairs : Tbl (List (Nat × Nat))
  contacts : Tbl Contact
  nextContact : Nat
  /-- Orders confirmations and the arrivals of segments and frame records. -/
  nextOrder : Nat
  /-- Decision records on their way to each field die: ack jobs, oldest first. -/
  down : Tbl (List Nat)
deriving DecidableEq, Repr

/-! ### Cask and the scheduler (R212 to R230) -/

/-- A Cask buffer in use (R214). -/
structure CaskBuf where
  next : Nat
  first : Bool
  last : Bool
  data : List Byte
deriving DecidableEq, Repr

/-- A queue's state (R213) with its binding. -/
structure Queue where
  head : Nat
  tail : Nat
  count : Nat
  deficit : Int
  mark : Nat
  cls : Nat
  age : Nat
  addr : Option Nat
  urgent : Bool
  /-- An item is outstanding: MARK differs from HEAD. -/
  sent : Bool
  /-- The aerial slot a policy call chose for this join of a list (R356). -/
  slot : Option Nat
deriving DecidableEq, Repr

/-- A queue never bound nor used. -/
def Queue.init : Queue := ⟨0, 0, 0, 0, 0, 0, 0, none, false, false, none⟩

/-- What an item keeps beside its buffers: its buffers in order, the requester class that holds them, its command. -/
structure ItemInfo where
  bufs : List Nat
  owner : Nat
  cmd : Option CmdRef
  queue : Nat
deriving DecidableEq, Repr

/-- A CASK.CMD operation with its input as it stood at GO. -/
structure CaskOp where
  op : Nat
  queue : Nat
  cls : Nat
  addr : Nat
deriving DecidableEq, Repr

/-- Cask. -/
structure Cask where
  /-- Queues that are bound or hold state. -/
  queues : Tbl Queue
  bufs : Tbl CaskBuf
  /-- Items by first buffer. -/
  items : Tbl ItemInfo
  /-- Buffers held per requester class 0 to 2. -/
  held : List Nat
  op : Option CaskOp
  /-- Class lists by 8 × group + class, urgent lists by group, front first. -/
  lists : Tbl (List Nat)
  urgent : Tbl (List Nat)
deriving DecidableEq, Repr

/-- Cask at reset. -/
def Cask.init : Cask :=
  { queues := [], bufs := [], items := [], held := [0, 0, 0], op := none, lists := [], urgent := [] }

/-- A gate-list entry in force: OPEN and DUR. -/
structure GateList where
  entries : List (Nat × Nat)
  /-- MSC of the takeover slot, and its start in mesh ns. -/
  start : Nat
  startNs : Int
deriving DecidableEq, Repr

/-- The scheduler. -/
structure Sched where
  /-- TOKENS by 8 × group + class, for buckets that have been enabled. -/
  tokens : Tbl Int
  /-- Gate lists in force, by group. -/
  gates : Tbl GateList
  /-- Pending lists, by group: the list, empty for none, and its takeover slot. -/
  pending : Tbl GateList
  /-- The active bank of a group with a list or with entries kept: its 256 words of OPEN and DUR (R223). The register
  store holds the shadow bank. -/
  banks : Tbl (List (Nat × Nat))
deriving DecidableEq, Repr

/-! ### Frames on their way to the air (R160 to R181) -/

/-- What a transmission is. -/
inductive JobKind where
  | ack (g : Nat)
  | down
  | piggyback
  | wake
  | meeting
deriving DecidableEq, Repr

/-- Where a transmission stands: waiting for its check value, queued for its check at C, cleared, on air. -/
inductive JobStage where
  | building
  | ready
  | cleared
  | onAir
deriving DecidableEq, Repr

/-- The MAC registers that an attempt goes by, as its first check found them (R182): LBT_CFG but MIN_BE, its band, and
the fields of ACK_CFG, TWIN_CFG and WAKE_TX that are read after that check. -/
structure MacForce where
  maxBe : Nat
  maxAttempts : Nat
  /-- LBT, THR and REL of the band of its grid channel, none where no enabled band holds it. -/
  band : Option (Bool × Int × Int)
  nodeTurnUs : Nat
  ackTolUs : Nat
  maxRetry : Nat
  gapUs : Nat
  meetUs : Nat
  wakeLevel : Nat
deriving DecidableEq, Repr

/-- One frame or burst on one output. -/
structure TxJob where
  kind : JobKind
  /-- The queue whose item it carries, for downlinks. -/
  queue : Nat
  f : Nat
  o : Nat
  grid : Nat
  rate : Nat
  /-- The network whose sync word and code set it is sent with. -/
  net : Nat
  /-- T0 in ns of mesh time. -/
  t0 : Int
  /-- MAC header and payload as built; for a wake burst, payload holds its bytes. -/
  header : List Byte
  payload : List Byte
  /-- Check-value bytes, and the key once its request has completed. -/
  cv : Nat
  key : Option (List Byte)
  stage : JobStage
  nb : Nat
  be : Nat
  /-- The registers its first check found, once it has been made (R182). -/
  force : Option MacForce
  /-- The transmit group of its output (R224), and its class. -/
  group : Nat
  cls : Nat
deriving DecidableEq, Repr

/-- A downlink item that the scheduler has taken and that has not completed (R179 to R181). -/
structure Downlink where
  first : Nat
  dst : Nat
  /-- The item header (R214). -/
  header : List Byte
  seq : Nat
  /-- Counters of its attempts, newest first. -/
  ctrs : List Nat
  /-- Attempts in which some copy went on air. -/
  attempts : Nat
  retries : Nat
  /-- Attempts of R167 used up by its wake burst and its busy meetings (R175). -/
  meets : Nat
  /-- Jobs of the current attempt that have not ended. -/
  jobs : List Nat
  /-- Some copy of the current attempt was sent. -/
  sent : Bool
  /-- Tail end of the last copy sent, mesh ns, and the registers it went by, while its node ack is awaited. -/
  awaiting : Option (Int × MacForce)
  /-- Status of the copy that ended last. -/
  status : Status
  rate : Nat
  group : Nat
  cls : Nat
  flood : Bool
  /-- Output of a second sub-slot copy that waits for the first copy's instant (R181). -/
  second : Option (Nat × Nat)
  /-- A switch-over withdrew it: its acknowledgement completes it with SWITCHOVER_REPLAYED (R302). -/
  replayed : Bool
deriving DecidableEq, Repr

/-- The transmit side of the MAC. -/
structure MacTx where
  jobs : Tbl TxJob
  nextJob : Nat
  /-- Items outstanding, by queue. -/
  downs : Tbl Downlink
  /-- Sequence numbers by destination (R179). -/
  seqs : Tbl Nat
  /-- Sequence number kept by a rewound item, by first buffer, with its counters, attempts and retries. -/
  kept : Tbl Downlink
deriving DecidableEq, Repr

end Sys2Proof.Machine
end

