-- ==== Sys2Proof/Machine/TunUnits.lean ====
section
/-! DEFINITION. The state of the Tun cores (R340 to R356): registers, memories, mailboxes and policy calls. Core k of
the head dies, which run in lockstep, has key k; the lockstep pair 2j, 2j + 1 of field die f (R305) has key
8 + 4f + 2j; shared memory 0 is the head's, 1 + f die f's. -/

namespace Sys2Proof.Machine

/-- The state of a core as TUN.CORE.STATE encodes it (R343). -/
inductive CoreState where
  | reset
  | running
  | wait
  | halted
deriving DecidableEq, Repr

/-- A Tun core's registers (R343, R344). -/
structure TunRun where
  st : CoreState
  pc : Word
  /-- g0 to g15; g0 is read as 0 whatever stands here. -/
  g : List Word
  ie : Bool
  pie : Bool
  cause : Word
  epc : Word
  badaddr : Word
  evec : Word
  /-- Held by WFE until an interrupt. -/
  wfe : Bool
  /-- Interrupt lines that wait while IE is 0 (R352), oldest first. -/
  lines : List Nat
deriving DecidableEq, Repr

/-- A core at reset (R343). -/
def TunRun.init : TunRun :=
  { st := .reset, pc := 0, g := List.replicate 16 0, ie := false, pie := false, cause := 0, epc := 0, badaddr := 0,
    evec := 0x100, wfe := false, lines := [] }

/-- What a policy call is for (R356): the group of a join frame, a queue joining a list (urgent or its class list),
the group of a confirmed frame. -/
inductive Hook where
  | join (g : Nat)
  | route (q : Nat) (urgent : Bool)
  | classify (g : Nat)
deriving DecidableEq, Repr

/-- A policy call (R353 to R355): its hook, the core it runs on, none while it waits for one, its mailbox as filled,
and JOIN_DEFAULT and CORE_EN as they stood at its arrival (chapter 18). -/
structure HookCall where
  hook : Hook
  core : Option Nat
  args : Memory
  reject : Bool
  takers : Nat
deriving DecidableEq, Repr

/-- The Tun cores. -/
structure TunUnit where
  cores : Tbl TunRun
  tcm : Tbl Memory
  shared : Tbl Memory
  boxes : Tbl Memory
  /-- Calls that fall due and have not been made. -/
  due : List Hook
  /-- Calls made and not ended, by call number. -/
  calls : Tbl HookCall
  nextCall : Nat
  /-- Entry addresses of the three hooks in the policy component, 0 where it has none. -/
  entries : List Nat
deriving DecidableEq, Repr

/-- The Tun cores at reset. [DESIGN CHOICE, log entries 4, 8] -/
def TunUnit.init : TunUnit :=
  { cores := [], tcm := [], shared := [], boxes := [], due := [], calls := [], nextCall := 0, entries := [0, 0, 0] }

end Sys2Proof.Machine
end

