-- ==== Sys2Proof/Machine/BootUnits.lean ====
section
/-! DEFINITION. The state of the boot flash with the update session (R330 to R338) and of the broadcast chains (R184 to
R195) that the register store does not hold. -/

namespace Sys2Proof.Machine

/-! ### Boot flash (R330, R331, R334, R337) -/

/-- A valid selector record (R331): sequence number, slot, its state and the other slot's: 0 PENDING, 1 TRIAL,
2 CONFIRMED, 3 FAILED. -/
structure SelRec where
  seq : Nat
  slot : Nat
  st : Nat
  other : Nat
deriving DecidableEq, Repr

/-- The 16 bytes of a record (R331). [PRESUMED, log entry 201] -/
def SelRec.bytes (r : SelRec) : List Byte :=
  let b := beBytes 4 0x57585345 ++ beBytes 4 r.seq ++ beBytes 1 r.slot ++ beBytes 1 r.st ++ beBytes 1 r.other ++ [0]
  b ++ beBytes 4 (crc32 b)

/-- The record a selector sector holds, if it is valid (R331). [PRESUMED, log entry 201] -/
def selRec (b : List Byte) : Option SelRec :=
  if beAt b 0 4 = 0x57585345 ∧ beAt b 12 4 = crc32 (b.take 12) then
    some ⟨beAt b 4 4, beAt b 8 1, beAt b 9 1, beAt b 10 1⟩
  else none

/-- What a boot-flash operation does when it ends. -/
inductive FlashWork where
  | erase (slot : Nat)
  | program (slot off : Nat) (data : List Byte)
  /-- A record that names a slot PENDING. -/
  | select (slot : Nat)
  /-- The CONFIRMED record of a slot. -/
  | confirm (slot : Nat)
deriving DecidableEq, Repr

/-- A boot-flash operation under way, with the command that waits for it. -/
structure FlashJob where
  cmd : CmdRef
  work : FlashWork
deriving DecidableEq, Repr

/-- Boot flash and the boot ROM's findings at this start. Slot bytes are held as their complement, so that an erased
byte, 0xFF, is one that is not listed. -/
structure BootUnit where
  /-- The bytes that selector sectors 0 and 1 hold; an erased sector holds none. -/
  sec0 : List Byte
  sec1 : List Byte
  imageA : Memory
  imageB : Memory
  /-- Slot A still holds the image the part was delivered with. -/
  factoryA : Bool
  /-- The CMD ring that holds the staging session. -/
  session : Option Nat
  job : Option FlashJob
  /-- No slot passed its checks: BOOT_RDY never rises. -/
  halted : Bool
  /-- This start is a wake that has not been reported. -/
  woke : Bool
  /-- Reference cycles left in the health window, while its watchdog runs. -/
  watch : Option Nat
deriving DecidableEq, Repr

/-- Boot flash as delivered: slot A confirmed. [DESIGN CHOICE, log entry 112] -/
def BootUnit.init : BootUnit :=
  { sec0 := SelRec.bytes ⟨1, 0, 2, 3⟩, sec1 := [], imageA := [], imageB := [], factoryA := true, session := none, job := none,
    halted := false, woke := false, watch := none }

/-! ### Broadcast chains -/

/-- An alternative frequency (R193): consecutive checks that found it 6 dB up, its last check's level and slot, and
whether it failed verification. -/
structure AltFreq where
  khz : Nat
  good : Nat
  last : Option (Int × Nat)
  skipped : Bool
deriving DecidableEq, Repr

/-- A dwell under way: a check of an alternative, or its verification, after a loss or without one. -/
inductive Dwell where
  | check (khz : Nat)
  | verify (khz : Nat) (loss : Bool)
deriving DecidableEq, Repr

/-- An RDS block of the group being received: the decoder's status code (R248), its 16 bits, and the timestamps of its first
bit and of its ninth. -/
structure RdsBlk where
  code : Nat
  data : Nat
  stamp : Nat
  lowStamp : Nat
deriving DecidableEq, Repr

/-- The protection of a subchannel (R189, R190): unequal, by a row of its table, or equal, by option and level. -/
inductive Prot where
  | uep (row : Nat)
  | eep (opt level : Nat)
deriving DecidableEq, Repr

/-- What FIG 0/1 gives of a subchannel (R189): its first capacity unit, how many it has, its protection and the net rate,
kbit/s. -/
structure Subch where
  start : Nat
  size : Nat
  prot : Prot
  rate : Nat
deriving DecidableEq, Repr

/-- A broadcast chain. -/
structure BcastRun where
  retuning : Bool
  /-- Consecutive RDS blocks with valid syndromes at the expected offsets, before sync. -/
  valid : Nat
  /-- Of the last 16 blocks in sync, newest first: uncorrectable or not. -/
  recent : List Bool
  /-- Place in the group, 0 to 3, that the next block is expected to have. -/
  place : Nat
  /-- Blocks of the group being received. -/
  group : List RdsBlk
  /-- The last unflagged PI code, or the ensemble id of the frame before; the id of the frame under way. -/
  lastId : Option Nat
  curId : Option Nat
  /-- Since when an FM chain has had neither pilot nor RDS sync, counter ns. -/
  lostAt : Option Nat
  /-- Subchannel registers whose stopped record is still to come (R190). -/
  stopping : List Nat
  /-- AF list being gathered: frequencies still to come, codes so far, the timestamp of its first code. -/
  afLeft : Nat
  afCodes : List Nat
  afStamp : Nat
  /-- A long-form FIG 0/10 of the transmission frame under way: ns since 1970, without TAI_UTC. -/
  utcNs : Option Nat
  /-- The subchannels that FIG 0/1 has shown, by SubChId. -/
  subchs : Tbl Subch
  alts : List AltFreq
  nextAlt : Nat
  /-- Mesh cycles since the last check. -/
  since : Nat
  dwell : Option Dwell
  /-- When the dwell under way began, and the last two that ended with their ends, counter ns. -/
  dwellAt : Nat
  gaps : List (Nat × Nat)
  /-- A candidate that waits for its verification, and whether a loss made it one. -/
  cand : Option (Nat × Bool)
  /-- Consecutive transmission frames without a null symbol. -/
  missed : Nat
  /-- The null end of the transmission frame under way, counter ns, and its timestamp, for FIB records. -/
  nullAt : Option Nat
  nullStamp : Nat
  /-- PROP_NS and FRAME_OFS together as used at the last null end (R192). -/
  delay : Option Int
  /-- Next record sequence number of each ring. -/
  seqs : Tbl Nat
deriving DecidableEq, Repr

/-- A chain that has acquired nothing. -/
def BcastRun.init : BcastRun :=
  { retuning := false, valid := 0, recent := [], place := 0, group := [], lastId := none, curId := none,
    lostAt := none, stopping := [], afLeft := 0, afCodes := [], afStamp := 0, utcNs := none, subchs := [], alts := [],
    nextAlt := 0, since := 0, dwell := none, dwellAt := 0, gaps := [], cand := none, missed := 0, nullAt := none,
    nullStamp := 0, delay := none, seqs := [] }

end Sys2Proof.Machine
end

