-- ==== Sys2Proof/Machine/Regs.lean ====
section
/-! DEFINITION. The register fields of the part that are kept in the register store, one name each: the bit
address (8 × BAR0 offset + lowest bit), the width and the reset value of the register tables of spec/. Fields whose
value lives in a unit's own structure (the time counter, the ring indexes, EVT.PEND, the error log and others) have no
name here. The reset values that depend on the index are R130's (STEEP.RATE) and those of SCHED.CLASS. -/

namespace Sys2Proof.Machine

/-- A register field: its bit address in BAR0, its width and its reset value. -/
structure Fld where
  key : Nat
  width : Nat
  rst : Nat
deriving DecidableEq, Repr

namespace Reg

-- PKG.THERM, 32 bits (02_package.md)
def PKG.THERM.TJ_MAX : Fld := ⟨8 * (0x10040) + 0, 10, 0⟩
def PKG.THERM.HOT_DIE : Fld := ⟨8 * (0x10040) + 10, 3, 0⟩
def PKG.THERM.WARN : Fld := ⟨8 * (0x10040) + 16, 1, 0⟩
def PKG.THERM.DROP : Fld := ⟨8 * (0x10040) + 17, 1, 0⟩

-- CLK.HCLK_SS, 32 bits (03_clocks_and_mesh_time.md)
def CLK.HCLK_SS.MODE : Fld := ⟨8 * (0x20010) + 0, 2, 0⟩
def CLK.HCLK_SS.DEPTH : Fld := ⟨8 * (0x20010) + 2, 4, 0⟩

-- F[f].FDIE.CLKOUT_CTL[n], 32 bits (03_clocks_and_mesh_time.md)
def FDIE.CLKOUT_CTL.CK_EN (f n : Nat) : Fld := ⟨8 * (0x1000200 + f * 0x400000 + n * 0x10) + 0, 1, 0⟩
def FDIE.CLKOUT_CTL.SR_EN (f n : Nat) : Fld := ⟨8 * (0x1000200 + f * 0x400000 + n * 0x10) + 1, 1, 0⟩
def FDIE.CLKOUT_CTL.SR_MODE (f n : Nat) : Fld := ⟨8 * (0x1000200 + f * 0x400000 + n * 0x10) + 2, 2, 0⟩
def FDIE.CLKOUT_CTL.DIV (f n : Nat) : Fld := ⟨8 * (0x1000200 + f * 0x400000 + n * 0x10) + 4, 10, 0xc⟩
def FDIE.CLKOUT_CTL.SR_COUNT (f n : Nat) : Fld := ⟨8 * (0x1000200 + f * 0x400000 + n * 0x10) + 16, 16, 1⟩

-- F[f].FDIE.CLKOUT_TIMING[n], 32 bits (03_clocks_and_mesh_time.md)
def FDIE.CLKOUT_TIMING.PHASE (f n : Nat) : Fld := ⟨8 * (0x1000204 + f * 0x400000 + n * 0x10) + 0, 16, 0⟩
def FDIE.CLKOUT_TIMING.MOVING (f n : Nat) : Fld := ⟨8 * (0x1000204 + f * 0x400000 + n * 0x10) + 16, 1, 0⟩
def FDIE.CLKOUT_TIMING.SR_LOG2 (f n : Nat) : Fld := ⟨8 * (0x1000204 + f * 0x400000 + n * 0x10) + 17, 5, 0xa⟩

-- TIME.SET, 128 bits (03_clocks_and_mesh_time.md)
def TIME.SET.NS : Fld := ⟨8 * (0x30030) + 0, 30, 0⟩
def TIME.SET.SEC : Fld := ⟨8 * (0x30030) + 32, 48, 0⟩

-- TIME.MESH_OFFSET, 32 bits (03_clocks_and_mesh_time.md)
def TIME.MESH_OFFSET.OFFSET : Fld := ⟨8 * (0x30050) + 0, 27, 0⟩

-- TIME.REF_PRIO, 32 bits (03_clocks_and_mesh_time.md)
def TIME.REF_PRIO.PPS_RANK : Fld := ⟨8 * (0x30040) + 0, 3, 1⟩
def TIME.REF_PRIO.PTP_RANK : Fld := ⟨8 * (0x30040) + 4, 3, 2⟩
def TIME.REF_PRIO.DAB_RANK : Fld := ⟨8 * (0x30040) + 8, 3, 3⟩
def TIME.REF_PRIO.FM_RANK : Fld := ⟨8 * (0x30040) + 12, 3, 4⟩
def TIME.REF_PRIO.REVERT : Fld := ⟨8 * (0x30040) + 16, 1, 1⟩

-- TIME.REF_STATUS, 32 bits (03_clocks_and_mesh_time.md)
def TIME.REF_STATUS.PER_REF : Fld := ⟨8 * (0x30044) + 0, 16, 0⟩
def TIME.REF_STATUS.SELECTED : Fld := ⟨8 * (0x30044) + 16, 3, 0⟩
def TIME.REF_STATUS.TARGET : Fld := ⟨8 * (0x30044) + 19, 3, 0⟩
def TIME.REF_STATUS.SWITCHING : Fld := ⟨8 * (0x30044) + 22, 1, 0⟩
def TIME.REF_STATUS.SETTLE_LEFT : Fld := ⟨8 * (0x30044) + 23, 4, 0⟩
def TIME.REF_STATUS.QUALITY : Fld := ⟨8 * (0x30044) + 27, 2, 3⟩

-- TIME.CTL, 32 bits (03_clocks_and_mesh_time.md)
def TIME.CTL.FREE_RUN_TX : Fld := ⟨8 * (0x30000) + 0, 1, 0⟩
def TIME.CTL.FORCE_SLEW : Fld := ⟨8 * (0x30000) + 1, 1, 0⟩
def TIME.CTL.LAST_WR : Fld := ⟨8 * (0x30000) + 2, 8, 0⟩

-- TIME.PPS_TOD, 64 bits (03_clocks_and_mesh_time.md)
def TIME.PPS_TOD.SEC : Fld := ⟨8 * (0x30070) + 0, 48, 0⟩

-- TIMERS.CH_CTL[k], 32 bits (03_clocks_and_mesh_time.md)
def TIMERS.CH_CTL.RUN (k : Nat) : Fld := ⟨8 * (0x40100 + k * 0x20) + 0, 1, 0⟩
def TIMERS.CH_CTL.SRC (k : Nat) : Fld := ⟨8 * (0x40100 + k * 0x20) + 1, 2, 0⟩
def TIMERS.CH_CTL.CASCADE (k : Nat) : Fld := ⟨8 * (0x40100 + k * 0x20) + 3, 1, 0⟩
def TIMERS.CH_CTL.CAP_EN (k : Nat) : Fld := ⟨8 * (0x40100 + k * 0x20) + 4, 1, 0⟩
def TIMERS.CH_CTL.CAP_SEL (k : Nat) : Fld := ⟨8 * (0x40100 + k * 0x20) + 5, 3, 0⟩
def TIMERS.CH_CTL.IE_MATCH (k : Nat) : Fld := ⟨8 * (0x40100 + k * 0x20) + 8, 1, 0⟩
def TIMERS.CH_CTL.IE_OVF (k : Nat) : Fld := ⟨8 * (0x40100 + k * 0x20) + 9, 1, 0⟩
def TIMERS.CH_CTL.IE_CAP (k : Nat) : Fld := ⟨8 * (0x40100 + k * 0x20) + 10, 1, 0⟩
def TIMERS.CH_CTL.PRESCALE (k : Nat) : Fld := ⟨8 * (0x40100 + k * 0x20) + 12, 16, 0⟩

-- TIMERS.CH_STATUS[k], 32 bits (03_clocks_and_mesh_time.md)
def TIMERS.CH_STATUS.MATCH (k : Nat) : Fld := ⟨8 * (0x40114 + k * 0x20) + 0, 1, 0⟩
def TIMERS.CH_STATUS.OVF (k : Nat) : Fld := ⟨8 * (0x40114 + k * 0x20) + 1, 1, 0⟩
def TIMERS.CH_STATUS.CAP_VALID (k : Nat) : Fld := ⟨8 * (0x40114 + k * 0x20) + 2, 1, 0⟩
def TIMERS.CH_STATUS.OVERRUN (k : Nat) : Fld := ⟨8 * (0x40114 + k * 0x20) + 3, 1, 0⟩

-- F[f].LINK.CFG[k], 32 bits (04_aerial_front_end.md)
def LINK.CFG.EN (f k : Nat) : Fld := ⟨8 * (0x1040000 + f * 0x400000 + k * 0x20) + 0, 1, 0⟩
def LINK.CFG.L_LOG2 (f k : Nat) : Fld := ⟨8 * (0x1040000 + f * 0x400000 + k * 0x20) + 1, 2, 0⟩
def LINK.CFG.FIRST_LANE (f k : Nat) : Fld := ⟨8 * (0x1040000 + f * 0x400000 + k * 0x20) + 3, 6, 0⟩
def LINK.CFG.M (f k : Nat) : Fld := ⟨8 * (0x1040000 + f * 0x400000 + k * 0x20) + 9, 5, 2⟩
def LINK.CFG.NP16 (f k : Nat) : Fld := ⟨8 * (0x1040000 + f * 0x400000 + k * 0x20) + 14, 1, 0⟩
def LINK.CFG.WIDTH (f k : Nat) : Fld := ⟨8 * (0x1040000 + f * 0x400000 + k * 0x20) + 15, 3, 4⟩
def LINK.CFG.E_M1 (f k : Nat) : Fld := ⟨8 * (0x1040000 + f * 0x400000 + k * 0x20) + 18, 8, 0⟩
def LINK.CFG.SYSREF_SEL (f k : Nat) : Fld := ⟨8 * (0x1040000 + f * 0x400000 + k * 0x20) + 26, 3, 0⟩

-- F[f].LINK.STREAM[i], 32 bits (04_aerial_front_end.md)
def LINK.STREAM.EN (f i : Nat) : Fld := ⟨8 * (0x1041000 + f * 0x400000 + i * 0x4) + 0, 1, 0⟩
def LINK.STREAM.SRC_RF (f i : Nat) : Fld := ⟨8 * (0x1041000 + f * 0x400000 + i * 0x4) + 1, 1, 0⟩
def LINK.STREAM.SRC (f i : Nat) : Fld := ⟨8 * (0x1041000 + f * 0x400000 + i * 0x4) + 2, 6, 0⟩
def LINK.STREAM.SLOT (f i : Nat) : Fld := ⟨8 * (0x1041000 + f * 0x400000 + i * 0x4) + 8, 4, 0⟩
def LINK.STREAM.PART (f i : Nat) : Fld := ⟨8 * (0x1041000 + f * 0x400000 + i * 0x4) + 12, 2, 0⟩
def LINK.STREAM.BLANK_GRP (f i : Nat) : Fld := ⟨8 * (0x1041000 + f * 0x400000 + i * 0x4) + 14, 4, 8⟩

-- F[f].LINK.STATUS[k], 32 bits (04_aerial_front_end.md)
def LINK.STATUS.STATE (f k : Nat) : Fld := ⟨8 * (0x1040008 + f * 0x400000 + k * 0x20) + 0, 3, 0⟩
def LINK.STATUS.HOTPLUG (f k : Nat) : Fld := ⟨8 * (0x1040008 + f * 0x400000 + k * 0x20) + 3, 1, 0⟩
def LINK.STATUS.SYSREF_ERR (f k : Nat) : Fld := ⟨8 * (0x1040008 + f * 0x400000 + k * 0x20) + 4, 1, 0⟩
def LINK.STATUS.RESTARTS (f k : Nat) : Fld := ⟨8 * (0x1040008 + f * 0x400000 + k * 0x20) + 8, 8, 0⟩
def LINK.STATUS.CRC_ERR (f k : Nat) : Fld := ⟨8 * (0x1040008 + f * 0x400000 + k * 0x20) + 16, 16, 0⟩

-- F[f].FRF.RXCH[c], 32 bits (04_aerial_front_end.md)
def FRF.RXCH.EN (f c : Nat) : Fld := ⟨8 * (0x1080000 + f * 0x400000 + c * 0x10) + 0, 1, 0⟩
def FRF.RXCH.CAL_REQ (f c : Nat) : Fld := ⟨8 * (0x1080000 + f * 0x400000 + c * 0x10) + 1, 1, 0⟩
def FRF.RXCH.FC (f c : Nat) : Fld := ⟨8 * (0x1080000 + f * 0x400000 + c * 0x10) + 2, 15, 0x1a90⟩
def FRF.RXCH.GAIN (f c : Nat) : Fld := ⟨8 * (0x1080000 + f * 0x400000 + c * 0x10) + 17, 4, 6⟩
def FRF.RXCH.AGC_HOLD (f c : Nat) : Fld := ⟨8 * (0x1080000 + f * 0x400000 + c * 0x10) + 21, 1, 0⟩
def FRF.RXCH.CAL_FAIL (f c : Nat) : Fld := ⟨8 * (0x1080000 + f * 0x400000 + c * 0x10) + 22, 1, 0⟩
def FRF.RXCH.IMAGE_DB (f c : Nat) : Fld := ⟨8 * (0x1080000 + f * 0x400000 + c * 0x10) + 23, 8, 0⟩
def FRF.RXCH.CAL_VALID (f c : Nat) : Fld := ⟨8 * (0x1080000 + f * 0x400000 + c * 0x10) + 31, 1, 0⟩

-- F[f].FRF.TXCH[c], 32 bits (04_aerial_front_end.md)
def FRF.TXCH.EN (f c : Nat) : Fld := ⟨8 * (0x1080040 + f * 0x400000 + c * 0x10) + 0, 1, 0⟩
def FRF.TXCH.FC (f c : Nat) : Fld := ⟨8 * (0x1080040 + f * 0x400000 + c * 0x10) + 1, 15, 0x1a90⟩
def FRF.TXCH.PWR_DBM (f c : Nat) : Fld := ⟨8 * (0x1080040 + f * 0x400000 + c * 0x10) + 16, 5, 0⟩
def FRF.TXCH.FAULT (f c : Nat) : Fld := ⟨8 * (0x1080040 + f * 0x400000 + c * 0x10) + 21, 1, 0⟩
def FRF.TXCH.TUNER_LIMIT (f c : Nat) : Fld := ⟨8 * (0x1080040 + f * 0x400000 + c * 0x10) + 22, 1, 0⟩
def FRF.TXCH.ABORTS (f c : Nat) : Fld := ⟨8 * (0x1080040 + f * 0x400000 + c * 0x10) + 23, 8, 0⟩

-- F[f].FRF.CX[n], 32 bits (04_aerial_front_end.md)
def FRF.CX.EN (f n : Nat) : Fld := ⟨8 * (0x1080100 + f * 0x400000 + n * 0x10) + 0, 1, 0⟩
def FRF.CX.ROLE (f n : Nat) : Fld := ⟨8 * (0x1080100 + f * 0x400000 + n * 0x10) + 1, 1, 0⟩
def FRF.CX.POL (f n : Nat) : Fld := ⟨8 * (0x1080100 + f * 0x400000 + n * 0x10) + 2, 1, 0⟩
def FRF.CX.TIMEOUT_US (f n : Nat) : Fld := ⟨8 * (0x1080100 + f * 0x400000 + n * 0x10) + 3, 10, 0x64⟩
def FRF.CX.GUARD (f n : Nat) : Fld := ⟨8 * (0x1080100 + f * 0x400000 + n * 0x10) + 13, 10, 0⟩
def FRF.CX.HOLD_MS (f n : Nat) : Fld := ⟨8 * (0x1080100 + f * 0x400000 + n * 0x10) + 23, 8, 0xa⟩

-- F[f].SEQ.CTL, 32 bits (04_aerial_front_end.md)
def SEQ.CTL.RUN (f : Nat) : Fld := ⟨8 * (0x10C0000 + f * 0x400000) + 0, 1, 0⟩
def SEQ.CTL.SWAP (f : Nat) : Fld := ⟨8 * (0x10C0000 + f * 0x400000) + 1, 1, 0⟩

-- F[f].SEQ.STATUS, 32 bits (04_aerial_front_end.md)
def SEQ.STATUS.ACTIVE_BANK (f : Nat) : Fld := ⟨8 * (0x10C0004 + f * 0x400000) + 0, 1, 0⟩
def SEQ.STATUS.SWAP_PENDING (f : Nat) : Fld := ⟨8 * (0x10C0004 + f * 0x400000) + 1, 1, 0⟩
def SEQ.STATUS.OVERRUN (f : Nat) : Fld := ⟨8 * (0x10C0004 + f * 0x400000) + 2, 1, 0⟩
def SEQ.STATUS.FAULT (f : Nat) : Fld := ⟨8 * (0x10C0004 + f * 0x400000) + 3, 1, 0⟩
def SEQ.STATUS.PC (f : Nat) : Fld := ⟨8 * (0x10C0004 + f * 0x400000) + 4, 10, 0⟩
def SEQ.STATUS.EVT_CODE (f : Nat) : Fld := ⟨8 * (0x10C0004 + f * 0x400000) + 14, 8, 0⟩
def SEQ.STATUS.LAST_WR (f : Nat) : Fld := ⟨8 * (0x10C0004 + f * 0x400000) + 22, 8, 0⟩

-- F[f].SEQ.HCB_CFG[n], 32 bits (04_aerial_front_end.md)
def SEQ.HCB_CFG.DIV (f n : Nat) : Fld := ⟨8 * (0x10C0020 + f * 0x400000 + n * 0x4) + 0, 10, 0xc7⟩
def SEQ.HCB_CFG.MODE (f n : Nat) : Fld := ⟨8 * (0x10C0020 + f * 0x400000 + n * 0x4) + 10, 16, 0⟩
def SEQ.HCB_CFG.EN (f n : Nat) : Fld := ⟨8 * (0x10C0020 + f * 0x400000 + n * 0x4) + 26, 1, 0⟩

-- MAC.NET_SYNC[n], 32 bits (05_air_interface.md)
def MAC.NET_SYNC.SYNC (n : Nat) : Fld := ⟨8 * (0x180200 + n * 0x8) + 0, 32, 0⟩

-- MAC.NET_CFG[n], 32 bits (05_air_interface.md)
def MAC.NET_CFG.EN (n : Nat) : Fld := ⟨8 * (0x180204 + n * 0x8) + 0, 1, 0⟩
def MAC.NET_CFG.CODESET (n : Nat) : Fld := ⟨8 * (0x180204 + n * 0x8) + 1, 2, 0⟩
def MAC.NET_CFG.SYNC_ERR (n : Nat) : Fld := ⟨8 * (0x180204 + n * 0x8) + 3, 3, 2⟩
def MAC.NET_CFG.NETID (n : Nat) : Fld := ⟨8 * (0x180204 + n * 0x8) + 16, 16, 0⟩

-- MAC.UNSEC, 32 bits (05_air_interface.md)
def MAC.UNSEC.TYPES : Fld := ⟨8 * (0x180240) + 0, 8, 0⟩

-- MAC.WAKE_CFG, 32 bits (05_air_interface.md)
def MAC.WAKE_CFG.SYNC : Fld := ⟨8 * (0x180244) + 0, 8, 0x2d⟩
def MAC.WAKE_CFG.SALT : Fld := ⟨8 * (0x180244) + 8, 24, 0⟩

-- MAC.RATE_ADV, 32 bits (05_air_interface.md)
def MAC.RATE_ADV.EN : Fld := ⟨8 * (0x180050) + 0, 1, 0⟩
def MAC.RATE_ADV.UP : Fld := ⟨8 * (0x180050) + 1, 8, 0x14⟩
def MAC.RATE_ADV.DOWN : Fld := ⟨8 * (0x180050) + 9, 8, 6⟩

-- F[f].SPARGE.STREAM[i], 32 bits (06_channel_extraction_and_steep.md)
def SPARGE.STREAM.W_EN (f i : Nat) : Fld := ⟨8 * (0x1100000 + f * 0x400000 + i * 0x4) + 0, 1, 0⟩
def SPARGE.STREAM.DGAIN (f i : Nat) : Fld := ⟨8 * (0x1100000 + f * 0x400000 + i * 0x4) + 1, 6, 0⟩
def SPARGE.STREAM.SAT_WIN (f i : Nat) : Fld := ⟨8 * (0x1100000 + f * 0x400000 + i * 0x4) + 8, 8, 0⟩

-- F[f].SPARGE.STATUS, 32 bits (06_channel_extraction_and_steep.md)
def SPARGE.STATUS.W_CONTEXTS (f : Nat) : Fld := ⟨8 * (0x1100800 + f * 0x400000) + 0, 9, 0⟩
def SPARGE.STATUS.N_CHANNELS (f : Nat) : Fld := ⟨8 * (0x1100800 + f * 0x400000) + 9, 17, 0⟩

-- F[f].STEEP.CTL, 32 bits (06_channel_extraction_and_steep.md)
def STEEP.CTL.EN (f : Nat) : Fld := ⟨8 * (0x1140000 + f * 0x400000) + 0, 1, 1⟩
def STEEP.CTL.RST_FLOORS (f : Nat) : Fld := ⟨8 * (0x1140000 + f * 0x400000) + 1, 1, 0⟩

-- F[f].STEEP.START_THR, 32 bits (06_channel_extraction_and_steep.md)
def STEEP.START_THR.THR (f : Nat) : Fld := ⟨8 * (0x1140004 + f * 0x400000) + 0, 16, 0xfee0⟩

-- F[f].STEEP.RATE[r], 32 bits (06_channel_extraction_and_steep.md)
def STEEP.RATE.RHO_MIN (f r : Nat) : Fld := ⟨8 * (0x1140020 + f * 0x400000 + r * 0x4) + 0, 8, [0x83, 0x83, 0x83, 0x41, 0x21].getD r 0⟩
def STEEP.RATE.ABOVE (f r : Nat) : Fld := ⟨8 * (0x1140020 + f * 0x400000 + r * 0x4) + 8, 8, [0xF4, 0xF4, 0xF4, 0xE8, 0xDC].getD r 0⟩
def STEEP.RATE.EN (f r : Nat) : Fld := ⟨8 * (0x1140020 + f * 0x400000 + r * 0x4) + 16, 1, 1⟩

-- F[f].STEEP.FLOOR_SEL, 32 bits (06_channel_extraction_and_steep.md)
def STEEP.FLOOR_SEL.CONTEXT (f : Nat) : Fld := ⟨8 * (0x1140040 + f * 0x400000) + 0, 9, 0⟩
def STEEP.FLOOR_SEL.CHANNEL (f : Nat) : Fld := ⟨8 * (0x1140040 + f * 0x400000) + 9, 8, 0⟩
def STEEP.FLOOR_SEL.W (f : Nat) : Fld := ⟨8 * (0x1140040 + f * 0x400000) + 17, 1, 0⟩

-- F[f].STEEP.TRACK, 32 bits (06_channel_extraction_and_steep.md)
def STEEP.TRACK.IN_USE (f : Nat) : Fld := ⟨8 * (0x1140048 + f * 0x400000) + 0, 12, 0⟩
def STEEP.TRACK.PEAK (f : Nat) : Fld := ⟨8 * (0x1140048 + f * 0x400000) + 12, 12, 0⟩

-- F[f].DEMOD.CTL, 32 bits (07_demod_blend_decode.md)
def DEMOD.CTL.ERR_MAX (f : Nat) : Fld := ⟨8 * (0x1180000 + f * 0x400000) + 0, 10, 0x3c⟩

-- F[f].DEMOD.CTX, 32 bits (07_demod_blend_decode.md)
def DEMOD.CTX.IN_USE (f : Nat) : Fld := ⟨8 * (0x1180004 + f * 0x400000) + 0, 13, 0⟩
def DEMOD.CTX.PEAK (f : Nat) : Fld := ⟨8 * (0x1180004 + f * 0x400000) + 13, 13, 0⟩

-- F[f].DEMOD.GRID[i], 32 bits (07_demod_blend_decode.md)
def DEMOD.GRID.BASE (f i : Nat) : Fld := ⟨8 * (0x1181000 + f * 0x400000 + i * 0x4) + 0, 16, 0⟩

-- BLEND.CFG, 32 bits (07_demod_blend_decode.md)
def BLEND.CFG.WINDOW_US : Fld := ⟨8 * (0x1A0000) + 0, 9, 0x28⟩
def BLEND.CFG.REDECODE : Fld := ⟨8 * (0x1A0000) + 9, 1, 0⟩
def BLEND.CFG.TS_TOL : Fld := ⟨8 * (0x1A0000) + 10, 7, 0x10⟩

-- BLEND.ELK, 32 bits (07_demod_blend_decode.md)
def BLEND.ELK.RING : Fld := ⟨8 * (0x1A0004) + 0, 12, 0⟩
def BLEND.ELK.EN : Fld := ⟨8 * (0x1A0004) + 12, 1, 0⟩

-- F[f].TX.OUT[o], 32 bits (08_medium_access.md)
def TX.OUT.EN (f o : Nat) : Fld := ⟨8 * (0x11C0000 + f * 0x400000 + o * 0x10) + 0, 1, 0⟩
def TX.OUT.LISTEN (f o : Nat) : Fld := ⟨8 * (0x11C0000 + f * 0x400000 + o * 0x10) + 1, 9, 0⟩
def TX.OUT.LEVEL (f o : Nat) : Fld := ⟨8 * (0x11C0000 + f * 0x400000 + o * 0x10) + 10, 5, 6⟩
def TX.OUT.TWIN_EN (f o : Nat) : Fld := ⟨8 * (0x11C0000 + f * 0x400000 + o * 0x10) + 15, 1, 0⟩
def TX.OUT.TWIN_DIE (f o : Nat) : Fld := ⟨8 * (0x11C0000 + f * 0x400000 + o * 0x10) + 16, 3, 0⟩
def TX.OUT.TWIN_OUT (f o : Nat) : Fld := ⟨8 * (0x11C0000 + f * 0x400000 + o * 0x10) + 19, 7, 0⟩

-- F[f].TX.SERVE[i], 32 bits (08_medium_access.md)
def TX.SERVE.OUT (f i : Nat) : Fld := ⟨8 * (0x11C1000 + f * 0x400000 + i * 0x4) + 0, 7, 0⟩
def TX.SERVE.EN (f i : Nat) : Fld := ⟨8 * (0x11C1000 + f * 0x400000 + i * 0x4) + 7, 1, 0⟩

-- MAC.PROFILE, 32 bits (08_medium_access.md)
def MAC.PROFILE.SEL : Fld := ⟨8 * (0x180000) + 0, 2, 0⟩
def MAC.PROFILE.ACTIVE : Fld := ⟨8 * (0x180000) + 2, 2, 0⟩
def MAC.PROFILE.PENDING : Fld := ⟨8 * (0x180000) + 4, 1, 0⟩
def MAC.PROFILE.LAST_WR : Fld := ⟨8 * (0x180000) + 5, 8, 0⟩

-- MAC.ACK_CFG, 32 bits (08_medium_access.md)
def MAC.ACK_CFG.TURN_US : Fld := ⟨8 * (0x180010) + 0, 11, 0x1f4⟩
def MAC.ACK_CFG.NODE_TURN_US : Fld := ⟨8 * (0x180010) + 11, 11, 0x1f4⟩
def MAC.ACK_CFG.ACK_TOL_US : Fld := ⟨8 * (0x180010) + 22, 7, 0x32⟩
def MAC.ACK_CFG.MAX_RETRY : Fld := ⟨8 * (0x180010) + 29, 3, 3⟩

-- MAC.LBT_CFG, 32 bits (08_medium_access.md)
def MAC.LBT_CFG.MIN_BE : Fld := ⟨8 * (0x180020) + 0, 4, 3⟩
def MAC.LBT_CFG.MAX_BE : Fld := ⟨8 * (0x180020) + 4, 4, 5⟩
def MAC.LBT_CFG.MAX_ATTEMPTS : Fld := ⟨8 * (0x180020) + 8, 3, 5⟩

-- MAC.GUARD_CFG, 32 bits (08_medium_access.md)
def MAC.GUARD_CFG.BASE_US : Fld := ⟨8 * (0x180030) + 0, 11, 0xc8⟩
def MAC.GUARD_CFG.DEF_PPM : Fld := ⟨8 * (0x180030) + 11, 7, 0x28⟩
def MAC.GUARD_CFG.MARGIN_PPM : Fld := ⟨8 * (0x180030) + 18, 5, 5⟩

-- MAC.TWIN_CFG, 32 bits (08_medium_access.md)
def MAC.TWIN_CFG.MODE : Fld := ⟨8 * (0x180040) + 0, 1, 0⟩
def MAC.TWIN_CFG.GAP_US : Fld := ⟨8 * (0x180040) + 1, 11, 0xc8⟩
def MAC.TWIN_CFG.CH_OFS : Fld := ⟨8 * (0x180040) + 12, 8, 2⟩

-- MAC.WAKE_TX, 32 bits (08_medium_access.md)
def MAC.WAKE_TX.MEET_US : Fld := ⟨8 * (0x180248) + 0, 11, 0x1f4⟩
def MAC.WAKE_TX.LEVEL : Fld := ⟨8 * (0x180248) + 11, 5, 0⟩

-- MAC.WAKE_FREQ[j], 32 bits (08_medium_access.md)
def MAC.WAKE_FREQ.GRID (j : Nat) : Fld := ⟨8 * (0x180250 + j * 0x4) + 0, 16, 0⟩
def MAC.WAKE_FREQ.EN (j : Nat) : Fld := ⟨8 * (0x180250 + j * 0x4) + 16, 1, 0⟩

-- MAC.LBT_BAND[b], 64 bits (08_medium_access.md)
def MAC.LBT_BAND.GLO (b : Nat) : Fld := ⟨8 * (0x180280 + b * 0x8) + 0, 16, 0⟩
def MAC.LBT_BAND.GHI (b : Nat) : Fld := ⟨8 * (0x180280 + b * 0x8) + 16, 16, 0⟩
def MAC.LBT_BAND.THR (b : Nat) : Fld := ⟨8 * (0x180280 + b * 0x8) + 32, 16, 0xfea0⟩
def MAC.LBT_BAND.REL (b : Nat) : Fld := ⟨8 * (0x180280 + b * 0x8) + 48, 8, 0x28⟩
def MAC.LBT_BAND.EN (b : Nat) : Fld := ⟨8 * (0x180280 + b * 0x8) + 56, 1, 0⟩
def MAC.LBT_BAND.LBT (b : Nat) : Fld := ⟨8 * (0x180280 + b * 0x8) + 57, 1, 1⟩

-- F[f].BCAST.CTL, 32 bits (09_broadcast_tuner.md)
def BCAST.CTL.EN (f : Nat) : Fld := ⟨8 * (0x1200000 + f * 0x400000) + 0, 1, 0⟩
def BCAST.CTL.MODE (f : Nat) : Fld := ⟨8 * (0x1200000 + f * 0x400000) + 1, 1, 0⟩
def BCAST.CTL.REF (f : Nat) : Fld := ⟨8 * (0x1200000 + f * 0x400000) + 2, 1, 0⟩
def BCAST.CTL.PCM_EN (f : Nat) : Fld := ⟨8 * (0x1200000 + f * 0x400000) + 3, 1, 0⟩
def BCAST.CTL.DEEMPH (f : Nat) : Fld := ⟨8 * (0x1200000 + f * 0x400000) + 4, 1, 0⟩
def BCAST.CTL.AF_EN (f : Nat) : Fld := ⟨8 * (0x1200000 + f * 0x400000) + 5, 1, 0⟩
def BCAST.CTL.DAB_FOLLOW (f : Nat) : Fld := ⟨8 * (0x1200000 + f * 0x400000) + 6, 2, 1⟩
def BCAST.CTL.INTERVAL (f : Nat) : Fld := ⟨8 * (0x1200000 + f * 0x400000) + 8, 8, 0xa⟩

-- F[f].BCAST.TUNE, 32 bits (09_broadcast_tuner.md)
def BCAST.TUNE.FREQ_KHZ (f : Nat) : Fld := ⟨8 * (0x1200004 + f * 0x400000) + 0, 18, 0x15a18⟩

-- F[f].BCAST.STATUS, 32 bits (09_broadcast_tuner.md)
def BCAST.STATUS.ID (f : Nat) : Fld := ⟨8 * (0x1200008 + f * 0x400000) + 0, 16, 0⟩
def BCAST.STATUS.ID_VALID (f : Nat) : Fld := ⟨8 * (0x1200008 + f * 0x400000) + 16, 1, 0⟩
def BCAST.STATUS.SYNC (f : Nat) : Fld := ⟨8 * (0x1200008 + f * 0x400000) + 17, 1, 0⟩
def BCAST.STATUS.RDS_SYNC (f : Nat) : Fld := ⟨8 * (0x1200008 + f * 0x400000) + 18, 1, 0⟩
def BCAST.STATUS.DWELL (f : Nat) : Fld := ⟨8 * (0x1200008 + f * 0x400000) + 19, 1, 0⟩
def BCAST.STATUS.LEVEL (f : Nat) : Fld := ⟨8 * (0x1200008 + f * 0x400000) + 20, 8, 0⟩

-- F[f].BCAST.TIMING, 64 bits (09_broadcast_tuner.md)
def BCAST.TIMING.FRAME_OFS (f : Nat) : Fld := ⟨8 * (0x1200010 + f * 0x400000) + 0, 27, 0⟩
def BCAST.TIMING.PROP_NS (f : Nat) : Fld := ⟨8 * (0x1200010 + f * 0x400000) + 32, 20, 0⟩
def BCAST.TIMING.TAI_UTC (f : Nat) : Fld := ⟨8 * (0x1200010 + f * 0x400000) + 52, 8, 0⟩
def BCAST.TIMING.TAI_UTC_VALID (f : Nat) : Fld := ⟨8 * (0x1200010 + f * 0x400000) + 63, 1, 0⟩

-- F[f].BCAST.RING, 32 bits (09_broadcast_tuner.md)
def BCAST.RING.SIDE (f : Nat) : Fld := ⟨8 * (0x1200018 + f * 0x400000) + 0, 12, 0⟩
def BCAST.RING.SIDE_EN (f : Nat) : Fld := ⟨8 * (0x1200018 + f * 0x400000) + 12, 1, 0⟩
def BCAST.RING.STREAM (f : Nat) : Fld := ⟨8 * (0x1200018 + f * 0x400000) + 16, 12, 0⟩
def BCAST.RING.STREAM_EN (f : Nat) : Fld := ⟨8 * (0x1200018 + f * 0x400000) + 28, 1, 0⟩

-- F[f].BCAST.SUBCH[j], 32 bits (09_broadcast_tuner.md)
def BCAST.SUBCH.SUBCHID (f j : Nat) : Fld := ⟨8 * (0x1200020 + f * 0x400000 + j * 0x4) + 0, 6, 0⟩
def BCAST.SUBCH.EN (f j : Nat) : Fld := ⟨8 * (0x1200020 + f * 0x400000 + j * 0x4) + 6, 1, 0⟩
def BCAST.SUBCH.OVER_RATE (f j : Nat) : Fld := ⟨8 * (0x1200020 + f * 0x400000 + j * 0x4) + 7, 1, 0⟩

-- F[f].DEMOD.HEAR_CMD, 32 bits (10_node_table.md)
def DEMOD.HEAR_CMD.OP (f : Nat) : Fld := ⟨8 * (0x1182000 + f * 0x400000) + 0, 2, 0⟩
def DEMOD.HEAR_CMD.GO (f : Nat) : Fld := ⟨8 * (0x1182000 + f * 0x400000) + 2, 1, 0⟩
def DEMOD.HEAR_CMD.BUSY (f : Nat) : Fld := ⟨8 * (0x1182000 + f * 0x400000) + 3, 1, 0⟩
def DEMOD.HEAR_CMD.STATUS (f : Nat) : Fld := ⟨8 * (0x1182000 + f * 0x400000) + 4, 8, 0⟩
def DEMOD.HEAR_CMD.INDEX (f : Nat) : Fld := ⟨8 * (0x1182000 + f * 0x400000) + 12, 18, 0⟩

-- NODE.CMD, 32 bits (10_node_table.md)
def NODE.CMD.OP : Fld := ⟨8 * (0x140000) + 0, 3, 0⟩
def NODE.CMD.GO : Fld := ⟨8 * (0x140000) + 3, 1, 0⟩
def NODE.CMD.BUSY : Fld := ⟨8 * (0x140000) + 4, 1, 0⟩
def NODE.CMD.REJECTED : Fld := ⟨8 * (0x140000) + 5, 1, 0⟩
def NODE.CMD.STATUS : Fld := ⟨8 * (0x140000) + 8, 8, 0⟩

-- NODE.ARG, 64 bits (10_node_table.md)
def NODE.ARG.KEY : Fld := ⟨8 * (0x140008) + 0, 32, 0⟩
def NODE.ARG.INDEX : Fld := ⟨8 * (0x140008) + 32, 21, 0⟩

-- NODE.DATA, 128 bits (10_node_table.md)
def NODE.DATA.ENTRY : Fld := ⟨8 * (0x140010) + 0, 128, 0⟩

-- NODE.RESULT, 32 bits (10_node_table.md)
def NODE.RESULT.INDEX : Fld := ⟨8 * (0x140020) + 0, 21, 0⟩
def NODE.RESULT.DIES : Fld := ⟨8 * (0x140020) + 21, 2, 0⟩
def NODE.RESULT.PARITY : Fld := ⟨8 * (0x140020) + 23, 1, 0⟩

-- NODE.CFG, 32 bits (10_node_table.md)
def NODE.CFG.SEED : Fld := ⟨8 * (0x140030) + 0, 18, 0⟩
def NODE.CFG.LEARN_EN : Fld := ⟨8 * (0x140030) + 18, 1, 1⟩
def NODE.CFG.IE_DONE : Fld := ⟨8 * (0x140030) + 19, 1, 0⟩

-- NODE.AGE, 32 bits (10_node_table.md)
def NODE.AGE.LIMIT : Fld := ⟨8 * (0x140034) + 0, 25, 0x602160⟩
def NODE.AGE.EN : Fld := ⟨8 * (0x140034) + 25, 1, 1⟩

-- NODE.FLOOD[j], 32 bits (10_node_table.md)
def NODE.FLOOD.STREAM (j : Nat) : Fld := ⟨8 * (0x140040 + j * 0x4) + 0, 12, 0⟩
def NODE.FLOOD.EN (j : Nat) : Fld := ⟨8 * (0x140040 + j * 0x4) + 12, 1, 0⟩

-- NODE.PERR, 32 bits (10_node_table.md)
def NODE.PERR.INDEX : Fld := ⟨8 * (0x140060) + 0, 21, 0⟩

-- SCHED.CFG, 32 bits (11_cask_queues_and_scheduling.md)
def SCHED.CFG.EN : Fld := ⟨8 * (0x100000) + 0, 1, 1⟩
def SCHED.CFG.DEF_RATE : Fld := ⟨8 * (0x100000) + 1, 3, 2⟩
def SCHED.CFG.LEAD_US : Fld := ⟨8 * (0x100000) + 4, 11, 0x12c⟩
def SCHED.CFG.HORIZON_US : Fld := ⟨8 * (0x100000) + 15, 11, 0x7d0⟩
def SCHED.CFG.DEPTH : Fld := ⟨8 * (0x100000) + 26, 6, 0x3f⟩

-- SCHED.CLASS[c], 32 bits (11_cask_queues_and_scheduling.md)
def SCHED.CLASS.QUANTUM (c : Nat) : Fld := ⟨8 * (0x100020 + c * 0x4) + 0, 18, 0x800⟩
def SCHED.CLASS.STARVE (c : Nat) : Fld := ⟨8 * (0x100020 + c * 0x4) + 18, 11, if c = 0 then 0 else if c = 7 then 0x3E8 else 0xFA⟩

-- SCHED.OUT_GROUP[f][o], 32 bits (11_cask_queues_and_scheduling.md)
def SCHED.OUT_GROUP.GROUP (f o : Nat) : Fld := ⟨8 * (0x100400 + f * 0x200 + o * 0x4) + 0, 6, 0⟩

-- SCHED.BUCKET[g][c], 64 bits (11_cask_queues_and_scheduling.md)
def SCHED.BUCKET.RATE (g c : Nat) : Fld := ⟨8 * (0x101000 + g * 0x80 + c * 0x10) + 0, 20, 0⟩
def SCHED.BUCKET.BURST (g c : Nat) : Fld := ⟨8 * (0x101000 + g * 0x80 + c * 0x10) + 20, 20, 0x500⟩
def SCHED.BUCKET.EN (g c : Nat) : Fld := ⟨8 * (0x101000 + g * 0x80 + c * 0x10) + 40, 1, 0⟩

-- SCHED.GATE_CTL[g], 32 bits (11_cask_queues_and_scheduling.md)
def SCHED.GATE_CTL.LEN (g : Nat) : Fld := ⟨8 * (0x104000 + g * 0x10) + 0, 9, 0⟩
def SCHED.GATE_CTL.COMMIT (g : Nat) : Fld := ⟨8 * (0x104000 + g * 0x10) + 9, 1, 0⟩
def SCHED.GATE_CTL.CANCEL (g : Nat) : Fld := ⟨8 * (0x104000 + g * 0x10) + 10, 1, 0⟩
def SCHED.GATE_CTL.PENDING (g : Nat) : Fld := ⟨8 * (0x104000 + g * 0x10) + 11, 1, 0⟩
def SCHED.GATE_CTL.HAS_LIST (g : Nat) : Fld := ⟨8 * (0x104000 + g * 0x10) + 12, 1, 0⟩
def SCHED.GATE_CTL.ACTIVE_BANK (g : Nat) : Fld := ⟨8 * (0x104000 + g * 0x10) + 13, 1, 0⟩
def SCHED.GATE_CTL.LAST_WR (g : Nat) : Fld := ⟨8 * (0x104000 + g * 0x10) + 14, 8, 0⟩
def SCHED.GATE_CTL.ENTRY_NOW (g : Nat) : Fld := ⟨8 * (0x104000 + g * 0x10) + 22, 8, 0⟩

-- SCHED.GATE_ENTRY[g][e], 32 bits (11_cask_queues_and_scheduling.md)
def SCHED.GATE_ENTRY.OPEN (g e : Nat) : Fld := ⟨8 * (0x108000 + g * 0x400 + e * 0x4) + 0, 8, 0⟩
def SCHED.GATE_ENTRY.DUR (g e : Nat) : Fld := ⟨8 * (0x108000 + g * 0x400 + e * 0x4) + 8, 16, 0⟩

-- CASK.CFG, 32 bits (11_cask_queues_and_scheduling.md)
def CASK.CFG.EN : Fld := ⟨8 * (0x120000) + 0, 1, 0⟩
def CASK.CFG.MAX_ITEMS : Fld := ⟨8 * (0x120000) + 1, 16, 0x100⟩

-- CASK.CMD, 32 bits (11_cask_queues_and_scheduling.md)
def CASK.CMD.OP : Fld := ⟨8 * (0x120100) + 0, 3, 0⟩
def CASK.CMD.GO : Fld := ⟨8 * (0x120100) + 3, 1, 0⟩
def CASK.CMD.BUSY : Fld := ⟨8 * (0x120100) + 4, 1, 0⟩
def CASK.CMD.STATUS : Fld := ⟨8 * (0x120100) + 8, 8, 0⟩

-- RING.CTL[n], 32 bits (12_host_rings_and_events.md)
def RING.CTL.EN (n : Nat) : Fld := ⟨8 * (0x80000 + n * 0x20) + 0, 1, 0⟩
def RING.CTL.TYPE (n : Nat) : Fld := ⟨8 * (0x80000 + n * 0x20) + 1, 3, 0⟩
def RING.CTL.LOG2_SIZE (n : Nat) : Fld := ⟨8 * (0x80000 + n * 0x20) + 4, 5, 4⟩
def RING.CTL.BUF_LOG2 (n : Nat) : Fld := ⟨8 * (0x80000 + n * 0x20) + 9, 3, 6⟩
def RING.CTL.PEER (n : Nat) : Fld := ⟨8 * (0x80000 + n * 0x20) + 12, 12, 0⟩
def RING.CTL.RESUME (n : Nat) : Fld := ⟨8 * (0x80000 + n * 0x20) + 24, 1, 0⟩

-- RING.POLL, 32 bits (12_host_rings_and_events.md)
def RING.POLL.INTERVAL : Fld := ⟨8 * (0xA0000) + 0, 12, 8⟩
def RING.POLL.EN : Fld := ⟨8 * (0xA0000) + 12, 1, 1⟩

-- RING.DB_BASE, 64 bits (12_host_rings_and_events.md)
def RING.DB_BASE.ADDR : Fld := ⟨8 * (0xA0008) + 15, 49, 0⟩

-- RING.WIN[w], 128 bits (12_host_rings_and_events.md)
def RING.WIN.EN (w : Nat) : Fld := ⟨8 * (0xA0100 + w * 0x10) + 0, 1, 0⟩
def RING.WIN.RD (w : Nat) : Fld := ⟨8 * (0xA0100 + w * 0x10) + 1, 1, 0⟩
def RING.WIN.WR (w : Nat) : Fld := ⟨8 * (0xA0100 + w * 0x10) + 2, 1, 0⟩
def RING.WIN.BASE_PAGE (w : Nat) : Fld := ⟨8 * (0xA0100 + w * 0x10) + 12, 52, 0⟩
def RING.WIN.LIMIT_PAGE (w : Nat) : Fld := ⟨8 * (0xA0100 + w * 0x10) + 76, 52, 0⟩

-- RING.RX_MAP[n][t], 32 bits (12_host_rings_and_events.md)
def RING.RX_MAP.RING (n t : Nat) : Fld := ⟨8 * (0xA0200 + n * 0x20 + t * 0x4) + 0, 12, 0⟩
def RING.RX_MAP.EN (n t : Nat) : Fld := ⟨8 * (0xA0200 + n * 0x20 + t * 0x4) + 12, 1, 0⟩

-- EVT.MAP[s], 32 bits (12_host_rings_and_events.md)
def EVT.MAP.EN (s : Nat) : Fld := ⟨8 * (0xC0000 + s * 0x4) + 0, 1, 0⟩
def EVT.MAP.VECTOR (s : Nat) : Fld := ⟨8 * (0xC0000 + s * 0x4) + 1, 8, 0⟩
def EVT.MAP.MSIX_EN (s : Nat) : Fld := ⟨8 * (0xC0000 + s * 0x4) + 9, 1, 0⟩
def EVT.MAP.RING (s : Nat) : Fld := ⟨8 * (0xC0000 + s * 0x4) + 10, 12, 0⟩
def EVT.MAP.RING_EN (s : Nat) : Fld := ⟨8 * (0xC0000 + s * 0x4) + 22, 1, 0⟩

-- ETH.PORT_CFG[h][p], 32 bits (13_ethernet_and_network_time.md)
def ETH.PORT_CFG.EN (h p : Nat) : Fld := ⟨8 * (0x1C0000 + h * 0x80 + p * 0x40) + 0, 1, 0⟩
def ETH.PORT_CFG.MODE (h p : Nat) : Fld := ⟨8 * (0x1C0000 + h * 0x80 + p * 0x40) + 1, 2, 0⟩
def ETH.PORT_CFG.AN_EN (h p : Nat) : Fld := ⟨8 * (0x1C0000 + h * 0x80 + p * 0x40) + 3, 1, 1⟩
def ETH.PORT_CFG.PAUSE_RX (h p : Nat) : Fld := ⟨8 * (0x1C0000 + h * 0x80 + p * 0x40) + 4, 1, 0⟩
def ETH.PORT_CFG.MAX_FRAME (h p : Nat) : Fld := ⟨8 * (0x1C0000 + h * 0x80 + p * 0x40) + 5, 14, 0x5f2⟩

-- ETH.PTP_CFG, 32 bits (13_ethernet_and_network_time.md)
def ETH.PTP_CFG.EN : Fld := ⟨8 * (0x1C0100) + 0, 1, 0⟩
def ETH.PTP_CFG.DOMAIN : Fld := ⟨8 * (0x1C0100) + 1, 8, 0⟩
def ETH.PTP_CFG.DELAY_MECH : Fld := ⟨8 * (0x1C0100) + 9, 1, 0⟩
def ETH.PTP_CFG.TRANSPORT : Fld := ⟨8 * (0x1C0100) + 10, 1, 0⟩
def ETH.PTP_CFG.TC_EN : Fld := ⟨8 * (0x1C0100) + 11, 1, 0⟩
def ETH.PTP_CFG.ANN_TIMEOUT : Fld := ⟨8 * (0x1C0100) + 12, 4, 3⟩
def ETH.PTP_CFG.FWD_MCAST : Fld := ⟨8 * (0x1C0100) + 16, 1, 1⟩

-- ETH.PTP_STATUS, 32 bits (13_ethernet_and_network_time.md)
def ETH.PTP_STATUS.MASTER_A : Fld := ⟨8 * (0x1C0104) + 0, 1, 0⟩
def ETH.PTP_STATUS.MASTER_B : Fld := ⟨8 * (0x1C0104) + 1, 1, 0⟩
def ETH.PTP_STATUS.LAN : Fld := ⟨8 * (0x1C0104) + 2, 1, 0⟩

-- ETH.PRP_CFG, 32 bits (13_ethernet_and_network_time.md)
def ETH.PRP_CFG.EN : Fld := ⟨8 * (0x1C0140) + 0, 1, 1⟩
def ETH.PRP_CFG.SUPERVISION : Fld := ⟨8 * (0x1C0140) + 1, 1, 1⟩
def ETH.PRP_CFG.LIFE_MS : Fld := ⟨8 * (0x1C0140) + 2, 12, 0x7d0⟩
def ETH.PRP_CFG.FORGET_MS : Fld := ⟨8 * (0x1C0140) + 14, 10, 0x190⟩

-- ETH.FP_MAP[n][t], 32 bits (13_ethernet_and_network_time.md)
def ETH.FP_MAP.TPL (n t : Nat) : Fld := ⟨8 * (0x1C0200 + n * 0x20 + t * 0x4) + 0, 5, 0⟩
def ETH.FP_MAP.EN (n t : Nat) : Fld := ⟨8 * (0x1C0200 + n * 0x20 + t * 0x4) + 5, 1, 0⟩
def ETH.FP_MAP.PRIV (n t : Nat) : Fld := ⟨8 * (0x1C0200 + n * 0x20 + t * 0x4) + 6, 1, 0⟩
def ETH.FP_MAP.PORT (n t : Nat) : Fld := ⟨8 * (0x1C0200 + n * 0x20 + t * 0x4) + 7, 1, 0⟩

-- ETH.FP_TPL_CTL[t], 32 bits (13_ethernet_and_network_time.md)
def ETH.FP_TPL_CTL.HDR_LEN (t : Nat) : Fld := ⟨8 * (0x1C1040 + t * 0x80) + 0, 7, 0x3e⟩
def ETH.FP_TPL_CTL.COMMIT (t : Nat) : Fld := ⟨8 * (0x1C1040 + t * 0x80) + 7, 1, 0⟩
def ETH.FP_TPL_CTL.VALID (t : Nat) : Fld := ⟨8 * (0x1C1040 + t * 0x80) + 8, 1, 0⟩

-- KILN.CTL, 32 bits (14_kiln_security.md)
def KILN.CTL.APPROVED : Fld := ⟨8 * (0x200000) + 0, 1, 0⟩
def KILN.CTL.LOCK : Fld := ⟨8 * (0x200000) + 1, 1, 0⟩

-- KILN.STATUS, 32 bits (14_kiln_security.md)
def KILN.STATUS.STATE : Fld := ⟨8 * (0x200004) + 0, 3, 0⟩
def KILN.STATUS.ROOT_FAIL : Fld := ⟨8 * (0x200004) + 3, 1, 0⟩
def KILN.STATUS.SELFTEST_FAIL : Fld := ⟨8 * (0x200004) + 4, 1, 0⟩
def KILN.STATUS.PRESENT : Fld := ⟨8 * (0x200004) + 5, 1, 0⟩
def KILN.STATUS.DEBUG_OPEN : Fld := ⟨8 * (0x200004) + 6, 1, 0⟩
def KILN.STATUS.UPDATE_CTR : Fld := ⟨8 * (0x200004) + 7, 12, 0⟩
def KILN.STATUS.ENROL_REC : Fld := ⟨8 * (0x200004) + 19, 4, 0⟩
def KILN.STATUS.FLOOR_SET : Fld := ⟨8 * (0x200004) + 23, 1, 0⟩

-- KILN.DL_FLOOR, 32 bits (14_kiln_security.md)
def KILN.DL_FLOOR.FLOOR : Fld := ⟨8 * (0x200020) + 0, 32, 0⟩

-- KILN.DL_HIGH, 32 bits (14_kiln_security.md)
def KILN.DL_HIGH.HIGH : Fld := ⟨8 * (0x200024) + 0, 32, 0⟩

-- KILN.QUEUE, 32 bits (14_kiln_security.md)
def KILN.QUEUE.IN_USE : Fld := ⟨8 * (0x200030) + 0, 11, 0⟩
def KILN.QUEUE.PEAK : Fld := ⟨8 * (0x200030) + 11, 11, 0⟩

-- KILN.KEYMAP[n][kc][ix], 32 bits (14_kiln_security.md)
def KILN.KEYMAP.VSLOT (n kc ix : Nat) : Fld := ⟨8 * (0x210000 + n * 0x1000 + kc * 0x400 + ix * 0x4) + 0, 12, 0⟩
def KILN.KEYMAP.GSLOT (n kc ix : Nat) : Fld := ⟨8 * (0x210000 + n * 0x1000 + kc * 0x400 + ix * 0x4) + 12, 12, 0⟩
def KILN.KEYMAP.EN (n kc ix : Nat) : Fld := ⟨8 * (0x210000 + n * 0x1000 + kc * 0x400 + ix * 0x4) + 24, 1, 0⟩
def KILN.KEYMAP.DERIVED (n kc ix : Nat) : Fld := ⟨8 * (0x210000 + n * 0x1000 + kc * 0x400 + ix * 0x4) + 25, 1, 0⟩
def KILN.KEYMAP.LEN256 (n kc ix : Nat) : Fld := ⟨8 * (0x210000 + n * 0x1000 + kc * 0x400 + ix * 0x4) + 26, 1, 0⟩

-- RNG.CTL, 32 bits (14_kiln_security.md)
def RNG.CTL.RESTART : Fld := ⟨8 * (0x220000) + 0, 1, 0⟩

-- RNG.STATUS, 32 bits (14_kiln_security.md)
def RNG.STATUS.SEEDED : Fld := ⟨8 * (0x220004) + 0, 1, 0⟩
def RNG.STATUS.FAULT : Fld := ⟨8 * (0x220004) + 1, 1, 0⟩
def RNG.STATUS.FALLBACK : Fld := ⟨8 * (0x220004) + 2, 1, 0⟩
def RNG.STATUS.RCT_FAIL : Fld := ⟨8 * (0x220004) + 3, 1, 0⟩
def RNG.STATUS.APT_FAIL : Fld := ⟨8 * (0x220004) + 4, 1, 0⟩
def RNG.STATUS.TESTING : Fld := ⟨8 * (0x220004) + 5, 1, 0⟩

-- SAFE.HEAD, 32 bits (15_redundancy_and_errors.md)
def SAFE.HEAD.ACTIVE : Fld := ⟨8 * (0x280000) + 0, 1, 0⟩
def SAFE.HEAD.CHECKED : Fld := ⟨8 * (0x280000) + 1, 1, 0⟩
def SAFE.HEAD.FENCED : Fld := ⟨8 * (0x280000) + 2, 2, 0⟩
def SAFE.HEAD.REJOIN_STATE : Fld := ⟨8 * (0x280000) + 4, 2, 0⟩
def SAFE.HEAD.SWITCHOVERS : Fld := ⟨8 * (0x280000) + 16, 16, 0⟩

-- SAFE.HEAD_CTL, 32 bits (15_redundancy_and_errors.md)
def SAFE.HEAD_CTL.REJOIN : Fld := ⟨8 * (0x280004) + 0, 1, 0⟩

-- SAFE.FDIE[f], 32 bits (15_redundancy_and_errors.md)
def SAFE.FDIE.FENCED (f : Nat) : Fld := ⟨8 * (0x280010 + f * 0x4) + 0, 1, 0⟩
def SAFE.FDIE.DEGRADED (f : Nat) : Fld := ⟨8 * (0x280010 + f * 0x4) + 1, 1, 0⟩
def SAFE.FDIE.REJOIN (f : Nat) : Fld := ⟨8 * (0x280010 + f * 0x4) + 2, 1, 0⟩
def SAFE.FDIE.SELFTEST (f : Nat) : Fld := ⟨8 * (0x280010 + f * 0x4) + 3, 1, 0⟩
def SAFE.FDIE.PATROL_SKIP (f : Nat) : Fld := ⟨8 * (0x280010 + f * 0x4) + 16, 16, 0⟩

-- SAFE.LOG_CTL, 32 bits (15_redundancy_and_errors.md)
def SAFE.LOG_CTL.RING : Fld := ⟨8 * (0x280040) + 0, 12, 0⟩
def SAFE.LOG_CTL.EN : Fld := ⟨8 * (0x280040) + 12, 1, 0⟩
def SAFE.LOG_CTL.IN_USE : Fld := ⟨8 * (0x280040) + 13, 7, 0⟩
def SAFE.LOG_CTL.LOST : Fld := ⟨8 * (0x280040) + 20, 12, 0⟩

-- SAFE.FAULT_CTL, 32 bits (15_redundancy_and_errors.md)
def SAFE.FAULT_CTL.MASK : Fld := ⟨8 * (0x280060) + 0, 5, 0x1f⟩
def SAFE.FAULT_CTL.CAUSE : Fld := ⟨8 * (0x280060) + 8, 5, 0⟩

-- PWR.LEVEL_REQ, 32 bits (16_power_and_startup.md)
def PWR.LEVEL_REQ.HEAD : Fld := ⟨8 * (0x50000) + 0, 2, 0⟩
def PWR.LEVEL_REQ.FIELD : Fld := ⟨8 * (0x50000) + 2, 12, 0⟩

-- PWR.LEVEL_STATUS, 32 bits (16_power_and_startup.md)
def PWR.LEVEL_STATUS.NOW : Fld := ⟨8 * (0x50004) + 0, 14, 0⟩
def PWR.LEVEL_STATUS.CHANGING : Fld := ⟨8 * (0x50004) + 14, 1, 0⟩
def PWR.LEVEL_STATUS.LAST_WR : Fld := ⟨8 * (0x50004) + 16, 8, 0⟩

-- PWR.DUSK, 32 bits (16_power_and_startup.md)
def PWR.DUSK.REQ : Fld := ⟨8 * (0x50008) + 0, 1, 0⟩
def PWR.DUSK.ACTIVE : Fld := ⟨8 * (0x50008) + 1, 1, 0⟩
def PWR.DUSK.PENDING : Fld := ⟨8 * (0x50008) + 2, 1, 0⟩

-- PWR.PM_I2C, 32 bits (16_power_and_startup.md)
def PWR.PM_I2C.EN : Fld := ⟨8 * (0x50010) + 0, 1, 0⟩
def PWR.PM_I2C.FAST : Fld := ⟨8 * (0x50010) + 1, 1, 1⟩
def PWR.PM_I2C.BUS_STUCK : Fld := ⟨8 * (0x50010) + 2, 1, 0⟩
def PWR.PM_I2C.VSETTLE_US : Fld := ⟨8 * (0x50010) + 3, 10, 0x64⟩

-- PWR.RAIL[d], 64 bits (16_power_and_startup.md)
def PWR.RAIL.ADDR (d : Nat) : Fld := ⟨8 * (0x50020 + d * 0x8) + 0, 7, 0⟩
def PWR.RAIL.EN (d : Nat) : Fld := ⟨8 * (0x50020 + d * 0x8) + 7, 1, 0⟩
def PWR.RAIL.REG (d : Nat) : Fld := ⟨8 * (0x50020 + d * 0x8) + 8, 8, 0⟩
def PWR.RAIL.CODE_NOON (d : Nat) : Fld := ⟨8 * (0x50020 + d * 0x8) + 16, 8, 0⟩
def PWR.RAIL.CODE_AFT (d : Nat) : Fld := ⟨8 * (0x50020 + d * 0x8) + 24, 8, 0⟩
def PWR.RAIL.CODE_EVE (d : Nat) : Fld := ⟨8 * (0x50020 + d * 0x8) + 32, 8, 0⟩

-- F[f].FDIE.LINK_PWR[k], 32 bits (16_power_and_startup.md)
def FDIE.LINK_PWR.SHED_RANK (f k : Nat) : Fld := ⟨8 * (0x1000400 + f * 0x400000 + k * 0x4) + 0, 4, 0⟩
def FDIE.LINK_PWR.DUSK (f k : Nat) : Fld := ⟨8 * (0x1000400 + f * 0x400000 + k * 0x4) + 4, 1, 0⟩
def FDIE.LINK_PWR.SHED (f k : Nat) : Fld := ⟨8 * (0x1000400 + f * 0x400000 + k * 0x4) + 5, 1, 0⟩

-- BOOT.STATUS, 32 bits (17_firmware_update.md)
def BOOT.STATUS.SLOT : Fld := ⟨8 * (0x240000) + 0, 1, 0⟩
def BOOT.STATUS.STATE : Fld := ⟨8 * (0x240000) + 1, 2, 0⟩
def BOOT.STATUS.FELL_BACK : Fld := ⟨8 * (0x240000) + 3, 1, 0⟩
def BOOT.STATUS.REASON : Fld := ⟨8 * (0x240000) + 4, 3, 0⟩
def BOOT.STATUS.SESSION : Fld := ⟨8 * (0x240000) + 7, 1, 0⟩
def BOOT.STATUS.SVN : Fld := ⟨8 * (0x240000) + 8, 8, 0⟩
def BOOT.STATUS.FLOOR : Fld := ⟨8 * (0x240000) + 16, 8, 0⟩

-- BOOT.HEALTH, 32 bits (17_firmware_update.md)
def BOOT.HEALTH.LEFT_MS : Fld := ⟨8 * (0x240004) + 0, 20, 0⟩

-- BOOT.CTL, 32 bits (17_firmware_update.md)
def BOOT.CTL.KEY : Fld := ⟨8 * (0x240008) + 0, 8, 0⟩
def BOOT.CTL.RESTART : Fld := ⟨8 * (0x240008) + 8, 1, 0⟩

-- TUN.POLICY_CFG, 32 bits (18_tun_cores.md)
def TUN.POLICY_CFG.HOOK_EN : Fld := ⟨8 * (0x2C0100) + 0, 3, 0⟩
def TUN.POLICY_CFG.JOIN_DEFAULT : Fld := ⟨8 * (0x2C0100) + 3, 1, 0⟩
def TUN.POLICY_CFG.CORE_EN : Fld := ⟨8 * (0x2C0100) + 4, 4, 0xf⟩

-- TUN.EXC[j], 32 bits (18_tun_cores.md)
def TUN.EXC.CAUSE (j : Nat) : Fld := ⟨8 * (0x2C0200 + j * 0x10) + 0, 8, 0⟩
def TUN.EXC.HOOK (j : Nat) : Fld := ⟨8 * (0x2C0200 + j * 0x10) + 8, 2, 0⟩
def TUN.EXC.VALID (j : Nat) : Fld := ⟨8 * (0x2C0200 + j * 0x10) + 31, 1, 0⟩

-- F[f].FTUN.STATUS, 32 bits (18_tun_cores.md)
def FTUN.STATUS.PAIR0 (f : Nat) : Fld := ⟨8 * (0x1240000 + f * 0x400000) + 0, 2, 0⟩
def FTUN.STATUS.PAIR1 (f : Nat) : Fld := ⟨8 * (0x1240000 + f * 0x400000) + 2, 2, 0⟩

-- CLK.XTAL_TRIM, 32 bits (04_aerial_front_end.md)
def CLK.XTAL_TRIM.TRIM : Fld := ⟨8 * (0x20020) + 0, 11, 0⟩
def CLK.XTAL_TRIM.HOLD : Fld := ⟨8 * (0x20020) + 16, 1, 0⟩

-- TIMERS.COUNT[k], 32 bits (03_clocks_and_mesh_time.md)
def TIMERS.COUNT (k : Nat) : Fld := ⟨8 * (0x40104 + k * 0x20) + 0, 32, 0⟩

-- TIMERS.COMPARE[k], 32 bits (03_clocks_and_mesh_time.md)
def TIMERS.COMPARE (k : Nat) : Fld := ⟨8 * (0x40108 + k * 0x20) + 0, 32, 0⟩

-- TIMERS.INTERVAL[k], 32 bits (03_clocks_and_mesh_time.md)
def TIMERS.INTERVAL (k : Nat) : Fld := ⟨8 * (0x4010C + k * 0x20) + 0, 32, 0⟩

-- TIMERS.CAPTURE[k], 32 bits (03_clocks_and_mesh_time.md)
def TIMERS.CAPTURE (k : Nat) : Fld := ⟨8 * (0x40110 + k * 0x20) + 0, 32, 0⟩

-- F[f].LINK.CONV_LAT[k], 32 bits (04_aerial_front_end.md)
def LINK.CONV_LAT.PS (f k : Nat) : Fld := ⟨8 * (0x1040004 + f * 0x400000 + k * 0x20) + 0, 20, 0⟩

-- F[f].LINK.RX_LAT[k], 32 bits (04_aerial_front_end.md)
def LINK.RX_LAT.PS (f k : Nat) : Fld := ⟨8 * (0x104000C + f * 0x400000 + k * 0x20) + 0, 20, 0⟩
def LINK.RX_LAT.VALID (f k : Nat) : Fld := ⟨8 * (0x104000C + f * 0x400000 + k * 0x20) + 31, 1, 0⟩

-- F[f].LINK.GAIN_CTL[k], 32 bits (04_aerial_front_end.md)
def LINK.GAIN_CTL.EN (f k : Nat) : Fld := ⟨8 * (0x1040010 + f * 0x400000 + k * 0x20) + 0, 1, 0⟩
def LINK.GAIN_CTL.HCB (f k : Nat) : Fld := ⟨8 * (0x1040010 + f * 0x400000 + k * 0x20) + 1, 2, 0⟩
def LINK.GAIN_CTL.CS (f k : Nat) : Fld := ⟨8 * (0x1040010 + f * 0x400000 + k * 0x20) + 3, 3, 0⟩
def LINK.GAIN_CTL.ADDR (f k : Nat) : Fld := ⟨8 * (0x1040010 + f * 0x400000 + k * 0x20) + 6, 16, 0⟩
def LINK.GAIN_CTL.MAX_IDX (f k : Nat) : Fld := ⟨8 * (0x1040010 + f * 0x400000 + k * 0x20) + 22, 4, 0⟩
def LINK.GAIN_CTL.INVERT (f k : Nat) : Fld := ⟨8 * (0x1040010 + f * 0x400000 + k * 0x20) + 26, 1, 0⟩
def LINK.GAIN_CTL.SETTLE_US (f k : Nat) : Fld := ⟨8 * (0x1040010 + f * 0x400000 + k * 0x20) + 27, 5, 0⟩

-- F[f].FRF.BLANK_CTL, 32 bits (04_aerial_front_end.md)
def FRF.BLANK_CTL.POL (f : Nat) : Fld := ⟨8 * (0x1080080 + f * 0x400000) + 0, 8, 0⟩
def FRF.BLANK_CTL.LEVEL (f : Nat) : Fld := ⟨8 * (0x1080080 + f * 0x400000) + 8, 8, 0⟩

-- F[f].LINK.BLANK_CNT[n], 32 bits (04_aerial_front_end.md)
def LINK.BLANK_CNT (f n : Nat) : Fld := ⟨8 * (0x1042000 + f * 0x400000 + n * 0x4) + 0, 32, 0⟩

-- F[f].SEQ.HCB_HOST, 64 bits (04_aerial_front_end.md)
def SEQ.HCB_HOST.MASTER (f : Nat) : Fld := ⟨8 * (0x10C0040 + f * 0x400000) + 0, 2, 0⟩
def SEQ.HCB_HOST.CS (f : Nat) : Fld := ⟨8 * (0x10C0040 + f * 0x400000) + 2, 3, 0⟩
def SEQ.HCB_HOST.LEN_M1 (f : Nat) : Fld := ⟨8 * (0x10C0040 + f * 0x400000) + 5, 5, 0⟩
def SEQ.HCB_HOST.DATA (f : Nat) : Fld := ⟨8 * (0x10C0040 + f * 0x400000) + 10, 32, 0⟩
def SEQ.HCB_HOST.READ (f : Nat) : Fld := ⟨8 * (0x10C0040 + f * 0x400000) + 62, 1, 0⟩
def SEQ.HCB_HOST.GO (f : Nat) : Fld := ⟨8 * (0x10C0040 + f * 0x400000) + 63, 1, 0⟩

-- F[f].STEEP.CANDIDATES[r], 32 bits (06_channel_extraction_and_steep.md)
def STEEP.CANDIDATES (f r : Nat) : Fld := ⟨8 * (0x1140100 + f * 0x400000 + r * 0x10) + 0, 32, 0⟩

-- F[f].STEEP.SYNC_MATCH[r], 32 bits (06_channel_extraction_and_steep.md)
def STEEP.SYNC_MATCH (f r : Nat) : Fld := ⟨8 * (0x1140104 + f * 0x400000 + r * 0x10) + 0, 32, 0⟩

-- F[f].STEEP.SYNC_TIMEOUT[r], 32 bits (06_channel_extraction_and_steep.md)
def STEEP.SYNC_TIMEOUT (f r : Nat) : Fld := ⟨8 * (0x1140108 + f * 0x400000 + r * 0x10) + 0, 32, 0⟩

-- F[f].STEEP.CANCELLED[r], 32 bits (06_channel_extraction_and_steep.md)
def STEEP.CANCELLED (f r : Nat) : Fld := ⟨8 * (0x114010C + f * 0x400000 + r * 0x10) + 0, 32, 0⟩

-- F[f].STEEP.TRACK_FULL, 32 bits (06_channel_extraction_and_steep.md)
def STEEP.TRACK_FULL (f : Nat) : Fld := ⟨8 * (0x1140180 + f * 0x400000) + 0, 32, 0⟩

-- F[f].STEEP.SOURCE_LOST, 32 bits (06_channel_extraction_and_steep.md)
def STEEP.SOURCE_LOST (f : Nat) : Fld := ⟨8 * (0x1140184 + f * 0x400000) + 0, 32, 0⟩

-- F[f].DEMOD.CTX_FULL, 32 bits (07_demod_blend_decode.md)
def DEMOD.CTX_FULL (f : Nat) : Fld := ⟨8 * (0x1180100 + f * 0x400000) + 0, 32, 0⟩

-- F[f].DEMOD.GOOD, 32 bits (07_demod_blend_decode.md)
def DEMOD.GOOD (f : Nat) : Fld := ⟨8 * (0x1180104 + f * 0x400000) + 0, 32, 0⟩

-- F[f].DEMOD.DECODE_FAIL, 32 bits (07_demod_blend_decode.md)
def DEMOD.DECODE_FAIL (f : Nat) : Fld := ⟨8 * (0x1180108 + f * 0x400000) + 0, 32, 0⟩

-- F[f].DEMOD.BAD_LENGTH, 32 bits (07_demod_blend_decode.md)
def DEMOD.BAD_LENGTH (f : Nat) : Fld := ⟨8 * (0x118010C + f * 0x400000) + 0, 32, 0⟩

-- F[f].DEMOD.LENGTH_BEYOND_BUFFER, 32 bits (07_demod_blend_decode.md)
def DEMOD.LENGTH_BEYOND_BUFFER (f : Nat) : Fld := ⟨8 * (0x1180110 + f * 0x400000) + 0, 32, 0⟩

-- F[f].DEMOD.BAD_FIELD, 32 bits (07_demod_blend_decode.md)
def DEMOD.BAD_FIELD (f : Nat) : Fld := ⟨8 * (0x1180114 + f * 0x400000) + 0, 32, 0⟩

-- F[f].DEMOD.BAD_ADDRESS, 32 bits (07_demod_blend_decode.md)
def DEMOD.BAD_ADDRESS (f : Nat) : Fld := ⟨8 * (0x1180118 + f * 0x400000) + 0, 32, 0⟩

-- F[f].DEMOD.SOURCE_LOST, 32 bits (07_demod_blend_decode.md)
def DEMOD.SOURCE_LOST (f : Nat) : Fld := ⟨8 * (0x118011C + f * 0x400000) + 0, 32, 0⟩

-- F[f].DEMOD.ERASED, 32 bits (07_demod_blend_decode.md)
def DEMOD.ERASED (f : Nat) : Fld := ⟨8 * (0x1180120 + f * 0x400000) + 0, 32, 0⟩

-- F[f].DEMOD.TAIL_LATE, 32 bits (07_demod_blend_decode.md)
def DEMOD.TAIL_LATE (f : Nat) : Fld := ⟨8 * (0x1180124 + f * 0x400000) + 0, 32, 0⟩

-- BLEND.GROUPS, 32 bits (07_demod_blend_decode.md)
def BLEND.GROUPS : Fld := ⟨8 * (0x1A0100) + 0, 32, 0⟩

-- BLEND.COPIES, 32 bits (07_demod_blend_decode.md)
def BLEND.COPIES : Fld := ⟨8 * (0x1A0104) + 0, 32, 0⟩

-- BLEND.LATE_COPIES, 32 bits (07_demod_blend_decode.md)
def BLEND.LATE_COPIES : Fld := ⟨8 * (0x1A0108) + 0, 32, 0⟩

-- BLEND.OVER_EIGHT, 32 bits (07_demod_blend_decode.md)
def BLEND.OVER_EIGHT : Fld := ⟨8 * (0x1A010C) + 0, 32, 0⟩

-- BLEND.COMBINED_USED, 32 bits (07_demod_blend_decode.md)
def BLEND.COMBINED_USED : Fld := ⟨8 * (0x1A0110) + 0, 32, 0⟩

-- BLEND.RECOVERED, 32 bits (07_demod_blend_decode.md)
def BLEND.RECOVERED : Fld := ⟨8 * (0x1A0114) + 0, 32, 0⟩

-- BLEND.OVERLOAD, 32 bits (07_demod_blend_decode.md)
def BLEND.OVERLOAD : Fld := ⟨8 * (0x1A0118) + 0, 32, 0⟩

-- BLEND.PROV_SEEN, 32 bits (07_demod_blend_decode.md)
def BLEND.PROV_SEEN : Fld := ⟨8 * (0x1A011C) + 0, 32, 0⟩

-- BLEND.ELK_CONFIRM, 32 bits (07_demod_blend_decode.md)
def BLEND.ELK_CONFIRM : Fld := ⟨8 * (0x1A0120) + 0, 32, 0⟩

-- BLEND.ELK_WITHDRAW, 32 bits (07_demod_blend_decode.md)
def BLEND.ELK_WITHDRAW : Fld := ⟨8 * (0x1A0124) + 0, 32, 0⟩

-- BLEND.ELK_DEADLINE, 32 bits (07_demod_blend_decode.md)
def BLEND.ELK_DEADLINE : Fld := ⟨8 * (0x1A0128) + 0, 32, 0⟩

-- F[f].TX.GRID[o], 32 bits (08_medium_access.md)
def TX.GRID (f o : Nat) : Fld := ⟨8 * (0x11C0004 + f * 0x400000 + o * 0x10) + 0, 16, 0⟩

-- F[f].TX.CONV_LAT[o], 32 bits (08_medium_access.md)
def TX.CONV_LAT.PS (f o : Nat) : Fld := ⟨8 * (0x11C0008 + f * 0x400000 + o * 0x10) + 0, 20, 0⟩

-- F[f].TX.TX_LAT[o], 32 bits (08_medium_access.md)
def TX.TX_LAT.PS (f o : Nat) : Fld := ⟨8 * (0x11C000C + f * 0x400000 + o * 0x10) + 0, 20, 0⟩
def TX.TX_LAT.VALID (f o : Nat) : Fld := ⟨8 * (0x11C000C + f * 0x400000 + o * 0x10) + 31, 1, 0⟩

-- MAC.CONFIRMED, 32 bits (08_medium_access.md)
def MAC.CONFIRMED : Fld := ⟨8 * (0x180400) + 0, 32, 0⟩

-- MAC.REPLAY, 32 bits (08_medium_access.md)
def MAC.REPLAY : Fld := ⟨8 * (0x180404) + 0, 32, 0⟩

-- MAC.DUPLICATE, 32 bits (08_medium_access.md)
def MAC.DUPLICATE : Fld := ⟨8 * (0x180408) + 0, 32, 0⟩

-- MAC.RETRY, 32 bits (08_medium_access.md)
def MAC.RETRY : Fld := ⟨8 * (0x18040C) + 0, 32, 0⟩

-- MAC.AUTH_FAIL, 32 bits (08_medium_access.md)
def MAC.AUTH_FAIL : Fld := ⟨8 * (0x180410) + 0, 32, 0⟩

-- MAC.ACK_SENT, 32 bits (08_medium_access.md)
def MAC.ACK_SENT : Fld := ⟨8 * (0x180414) + 0, 32, 0⟩

-- MAC.ACK_LATE, 32 bits (08_medium_access.md)
def MAC.ACK_LATE : Fld := ⟨8 * (0x180418) + 0, 32, 0⟩

-- MAC.ACK_BUSY, 32 bits (08_medium_access.md)
def MAC.ACK_BUSY : Fld := ⟨8 * (0x18041C) + 0, 32, 0⟩

-- MAC.ACK_NO_OUTPUT, 32 bits (08_medium_access.md)
def MAC.ACK_NO_OUTPUT : Fld := ⟨8 * (0x180420) + 0, 32, 0⟩

-- MAC.BUSY_CHECKS, 32 bits (08_medium_access.md)
def MAC.BUSY_CHECKS : Fld := ⟨8 * (0x180424) + 0, 32, 0⟩

-- MAC.CHANNEL_BUSY_TIMEOUT, 32 bits (08_medium_access.md)
def MAC.CHANNEL_BUSY_TIMEOUT : Fld := ⟨8 * (0x180428) + 0, 32, 0⟩

-- MAC.NO_ACK, 32 bits (08_medium_access.md)
def MAC.NO_ACK : Fld := ⟨8 * (0x18042C) + 0, 32, 0⟩

-- MAC.STRAY_ACK, 32 bits (08_medium_access.md)
def MAC.STRAY_ACK : Fld := ⟨8 * (0x180430) + 0, 32, 0⟩

-- MAC.TWIN_SINGLE, 32 bits (08_medium_access.md)
def MAC.TWIN_SINGLE : Fld := ⟨8 * (0x180434) + 0, 32, 0⟩

-- MAC.CONTACT_MISSED, 32 bits (08_medium_access.md)
def MAC.CONTACT_MISSED : Fld := ⟨8 * (0x180438) + 0, 32, 0⟩

-- MAC.WAKES, 32 bits (08_medium_access.md)
def MAC.WAKES : Fld := ⟨8 * (0x18043C) + 0, 32, 0⟩

-- MAC.TX_CLAMP, 32 bits (08_medium_access.md)
def MAC.TX_CLAMP : Fld := ⟨8 * (0x180440) + 0, 32, 0⟩

-- F[f].BCAST.RDS_GROUPS, 32 bits (09_broadcast_tuner.md)
def BCAST.RDS_GROUPS (f : Nat) : Fld := ⟨8 * (0x1200100 + f * 0x400000) + 0, 32, 0⟩

-- F[f].BCAST.RDS_BLOCK_ERR, 32 bits (09_broadcast_tuner.md)
def BCAST.RDS_BLOCK_ERR (f : Nat) : Fld := ⟨8 * (0x1200104 + f * 0x400000) + 0, 32, 0⟩

-- F[f].BCAST.FIB_GOOD, 32 bits (09_broadcast_tuner.md)
def BCAST.FIB_GOOD (f : Nat) : Fld := ⟨8 * (0x1200108 + f * 0x400000) + 0, 32, 0⟩

-- F[f].BCAST.FIB_CRC_ERR, 32 bits (09_broadcast_tuner.md)
def BCAST.FIB_CRC_ERR (f : Nat) : Fld := ⟨8 * (0x120010C + f * 0x400000) + 0, 32, 0⟩

-- F[f].BCAST.NULL_MISSED, 32 bits (09_broadcast_tuner.md)
def BCAST.NULL_MISSED (f : Nat) : Fld := ⟨8 * (0x1200110 + f * 0x400000) + 0, 32, 0⟩

-- F[f].BCAST.AF_CHECKS, 32 bits (09_broadcast_tuner.md)
def BCAST.AF_CHECKS (f : Nat) : Fld := ⟨8 * (0x1200114 + f * 0x400000) + 0, 32, 0⟩

-- F[f].BCAST.AF_SWITCHES, 32 bits (09_broadcast_tuner.md)
def BCAST.AF_SWITCHES (f : Nat) : Fld := ⟨8 * (0x1200118 + f * 0x400000) + 0, 32, 0⟩

-- F[f].BCAST.AF_VERIFY_FAIL, 32 bits (09_broadcast_tuner.md)
def BCAST.AF_VERIFY_FAIL (f : Nat) : Fld := ⟨8 * (0x120011C + f * 0x400000) + 0, 32, 0⟩

-- F[f].BCAST.TOD_MISMATCH, 32 bits (09_broadcast_tuner.md)
def BCAST.TOD_MISMATCH (f : Nat) : Fld := ⟨8 * (0x1200120 + f * 0x400000) + 0, 32, 0⟩

-- F[f].DEMOD.HEAR_ADDR, 32 bits (10_node_table.md)
def DEMOD.HEAR_ADDR.ADDR (f : Nat) : Fld := ⟨8 * (0x1182004 + f * 0x400000) + 0, 32, 0⟩

-- F[f].DEMOD.HEAR_W1, 32 bits (10_node_table.md)
def DEMOD.HEAR_W1.CONTEXT (f : Nat) : Fld := ⟨8 * (0x1182008 + f * 0x400000) + 0, 9, 0⟩
def DEMOD.HEAR_W1.RATE (f : Nat) : Fld := ⟨8 * (0x1182008 + f * 0x400000) + 9, 3, 0⟩
def DEMOD.HEAR_W1.LQI (f : Nat) : Fld := ⟨8 * (0x1182008 + f * 0x400000) + 12, 8, 0⟩
def DEMOD.HEAR_W1.COUNT (f : Nat) : Fld := ⟨8 * (0x1182008 + f * 0x400000) + 20, 8, 0⟩

-- F[f].DEMOD.HEAR_W2, 32 bits (10_node_table.md)
def DEMOD.HEAR_W2.HEARD (f : Nat) : Fld := ⟨8 * (0x118200C + f * 0x400000) + 0, 24, 0⟩
def DEMOD.HEAR_W2.VALID (f : Nat) : Fld := ⟨8 * (0x118200C + f * 0x400000) + 24, 1, 0⟩

-- NODE.LEARNED_NEW, 32 bits (10_node_table.md)
def NODE.LEARNED_NEW : Fld := ⟨8 * (0x140100) + 0, 32, 0⟩

-- NODE.SET_CHANGED, 32 bits (10_node_table.md)
def NODE.SET_CHANGED : Fld := ⟨8 * (0x140104) + 0, 32, 0⟩

-- NODE.LEARN_FULL, 32 bits (10_node_table.md)
def NODE.LEARN_FULL : Fld := ⟨8 * (0x140108) + 0, 32, 0⟩

-- NODE.PARITY_ERR, 32 bits (10_node_table.md)
def NODE.PARITY_ERR : Fld := ⟨8 * (0x14010C) + 0, 32, 0⟩

-- NODE.AGED_OUT, 32 bits (10_node_table.md)
def NODE.AGED_OUT : Fld := ⟨8 * (0x140110) + 0, 32, 0⟩

-- NODE.FLOODED, 32 bits (10_node_table.md)
def NODE.FLOODED : Fld := ⟨8 * (0x140114) + 0, 32, 0⟩

-- NODE.SCAN_DEL, 32 bits (10_node_table.md)
def NODE.SCAN_DEL : Fld := ⟨8 * (0x140118) + 0, 32, 0⟩

-- NODE.COVER2, 32 bits (10_node_table.md)
def NODE.COVER2 : Fld := ⟨8 * (0x14011C) + 0, 32, 0⟩

-- NODE.VALID_LEARNED, 32 bits (10_node_table.md)
def NODE.VALID_LEARNED : Fld := ⟨8 * (0x140120) + 0, 32, 0⟩

-- NODE.VALID_STATIC, 32 bits (10_node_table.md)
def NODE.VALID_STATIC : Fld := ⟨8 * (0x140124) + 0, 32, 0⟩

-- SCHED.GATE_TAKEOVER[g], 64 bits (11_cask_queues_and_scheduling.md)
def SCHED.GATE_TAKEOVER.MSC (g : Nat) : Fld := ⟨8 * (0x104008 + g * 0x10) + 0, 48, 0⟩

-- CASK.POOL_BASE, 64 bits (11_cask_queues_and_scheduling.md)
def CASK.POOL_BASE.ADDR : Fld := ⟨8 * (0x120008) + 0, 35, 0⟩

-- CASK.POOL_COUNT, 32 bits (11_cask_queues_and_scheduling.md)
def CASK.POOL_COUNT.N : Fld := ⟨8 * (0x120010) + 0, 27, 0⟩

-- CASK.FLOOR[r], 32 bits (11_cask_queues_and_scheduling.md)
def CASK.FLOOR.N (r : Nat) : Fld := ⟨8 * (0x120020 + r * 0x8) + 0, 27, 0⟩

-- CASK.ARG, 64 bits (11_cask_queues_and_scheduling.md)
def CASK.ARG.QUEUE : Fld := ⟨8 * (0x120108) + 0, 20, 0⟩
def CASK.ARG.CLASS : Fld := ⟨8 * (0x120108) + 20, 3, 0⟩
def CASK.ARG.ADDR : Fld := ⟨8 * (0x120108) + 32, 32, 0⟩

-- CASK.DATA, 256 bits (11_cask_queues_and_scheduling.md)
def CASK.DATA : Fld := ⟨8 * (0x120110) + 0, 256, 0⟩

-- CASK.RESULT, 32 bits (11_cask_queues_and_scheduling.md)
def CASK.RESULT.IDLE : Fld := ⟨8 * (0x120130) + 0, 1, 0⟩

-- CASK.ECC_FAULT, 32 bits (11_cask_queues_and_scheduling.md)
def CASK.ECC_FAULT.QUEUE : Fld := ⟨8 * (0x120140) + 0, 20, 0⟩

-- SCHED.DECISIONS, 32 bits (11_cask_queues_and_scheduling.md)
def SCHED.DECISIONS : Fld := ⟨8 * (0x100100) + 0, 32, 0⟩

-- SCHED.URGENT, 32 bits (11_cask_queues_and_scheduling.md)
def SCHED.URGENT : Fld := ⟨8 * (0x100104) + 0, 32, 0⟩

-- SCHED.REWINDS, 32 bits (11_cask_queues_and_scheduling.md)
def SCHED.REWINDS : Fld := ⟨8 * (0x100108) + 0, 32, 0⟩

-- SCHED.TAKEOVERS, 32 bits (11_cask_queues_and_scheduling.md)
def SCHED.TAKEOVERS : Fld := ⟨8 * (0x10010C) + 0, 32, 0⟩

-- CASK.ENQUEUED, 32 bits (11_cask_queues_and_scheduling.md)
def CASK.ENQUEUED : Fld := ⟨8 * (0x120200) + 0, 32, 0⟩

-- CASK.NO_BUFFER, 32 bits (11_cask_queues_and_scheduling.md)
def CASK.NO_BUFFER : Fld := ⟨8 * (0x120204) + 0, 32, 0⟩

-- CASK.QUEUE_FULL, 32 bits (11_cask_queues_and_scheduling.md)
def CASK.QUEUE_FULL : Fld := ⟨8 * (0x120208) + 0, 32, 0⟩

-- CASK.RX_NO_BUFFER, 32 bits (11_cask_queues_and_scheduling.md)
def CASK.RX_NO_BUFFER : Fld := ⟨8 * (0x12020C) + 0, 32, 0⟩

-- CASK.FLUSHED, 32 bits (11_cask_queues_and_scheduling.md)
def CASK.FLUSHED : Fld := ⟨8 * (0x120210) + 0, 32, 0⟩

-- CASK.INTERNAL, 32 bits (11_cask_queues_and_scheduling.md)
def CASK.INTERNAL : Fld := ⟨8 * (0x120214) + 0, 32, 0⟩

-- CASK.LEAKED, 32 bits (11_cask_queues_and_scheduling.md)
def CASK.LEAKED : Fld := ⟨8 * (0x120218) + 0, 32, 0⟩

-- CASK.ECC_QGRP[j], 32 bits (11_cask_queues_and_scheduling.md)
def CASK.ECC_QGRP (j : Nat) : Fld := ⟨8 * (0x120300 + j * 0x4) + 0, 32, 0⟩

-- CASK.ECC_REGION[j], 32 bits (11_cask_queues_and_scheduling.md)
def CASK.ECC_REGION (j : Nat) : Fld := ⟨8 * (0x120400 + j * 0x4) + 0, 32, 0⟩

-- RING.BASE[n], 64 bits (12_host_rings_and_events.md)
def RING.BASE.ADDR (n : Nat) : Fld := ⟨8 * (0x80008 + n * 0x20) + 0, 64, 0⟩

-- RING.BUF_BASE[n], 64 bits (12_host_rings_and_events.md)
def RING.BUF_BASE.ADDR (n : Nat) : Fld := ⟨8 * (0x80010 + n * 0x20) + 0, 64, 0⟩

-- RING.POLLS, 32 bits (12_host_rings_and_events.md)
def RING.POLLS : Fld := ⟨8 * (0xA0400) + 0, 32, 0⟩

-- RING.POLL_ERR, 32 bits (12_host_rings_and_events.md)
def RING.POLL_ERR : Fld := ⟨8 * (0xA0404) + 0, 32, 0⟩

-- RING.KICKS, 32 bits (12_host_rings_and_events.md)
def RING.KICKS : Fld := ⟨8 * (0xA0408) + 0, 32, 0⟩

-- RING.COMMANDS, 32 bits (12_host_rings_and_events.md)
def RING.COMMANDS : Fld := ⟨8 * (0xA040C) + 0, 32, 0⟩

-- RING.RX_UNMAPPED, 32 bits (12_host_rings_and_events.md)
def RING.RX_UNMAPPED : Fld := ⟨8 * (0xA0410) + 0, 32, 0⟩

-- RING.ELK_SKIPPED, 32 bits (12_host_rings_and_events.md)
def RING.ELK_SKIPPED : Fld := ⟨8 * (0xA0414) + 0, 32, 0⟩

-- EVT.VEC[v], 32 bits (12_host_rings_and_events.md)
def EVT.VEC.HOLDOFF_US (v : Nat) : Fld := ⟨8 * (0xC2000 + v * 0x4) + 0, 16, 0⟩

-- ETH.PORT_STATUS[h][p], 32 bits (13_ethernet_and_network_time.md)
def ETH.PORT_STATUS.LINK (h p : Nat) : Fld := ⟨8 * (0x1C0004 + h * 0x80 + p * 0x40) + 0, 1, 0⟩
def ETH.PORT_STATUS.LINK_CHG (h p : Nat) : Fld := ⟨8 * (0x1C0004 + h * 0x80 + p * 0x40) + 1, 1, 0⟩

-- ETH.TX_PHY[h][p], 32 bits (13_ethernet_and_network_time.md)
def ETH.TX_PHY.PS (h p : Nat) : Fld := ⟨8 * (0x1C0008 + h * 0x80 + p * 0x40) + 0, 20, 0⟩
def ETH.TX_PHY.VALID (h p : Nat) : Fld := ⟨8 * (0x1C0008 + h * 0x80 + p * 0x40) + 31, 1, 0⟩

-- ETH.RX_PHY[h][p], 32 bits (13_ethernet_and_network_time.md)
def ETH.RX_PHY.PS (h p : Nat) : Fld := ⟨8 * (0x1C000C + h * 0x80 + p * 0x40) + 0, 20, 0⟩
def ETH.RX_PHY.VALID (h p : Nat) : Fld := ⟨8 * (0x1C000C + h * 0x80 + p * 0x40) + 31, 1, 0⟩

-- ETH.ASYM[h][p], 32 bits (13_ethernet_and_network_time.md)
def ETH.ASYM.PS (h p : Nat) : Fld := ⟨8 * (0x1C0010 + h * 0x80 + p * 0x40) + 0, 21, 0⟩

-- ETH.MAC[h][p], 64 bits (13_ethernet_and_network_time.md)
def ETH.MAC.ADDR (h p : Nat) : Fld := ⟨8 * (0x1C0018 + h * 0x80 + p * 0x40) + 0, 48, 0⟩

-- ETH.IP6[h][p], 128 bits (13_ethernet_and_network_time.md)
def ETH.IP6.ADDR (h p : Nat) : Fld := ⟨8 * (0x1C0020 + h * 0x80 + p * 0x40) + 0, 128, 0⟩

-- ETH.PTP_MASTER, 64 bits (13_ethernet_and_network_time.md)
def ETH.PTP_MASTER.ID : Fld := ⟨8 * (0x1C0108) + 0, 64, 0⟩

-- ETH.PTP_OFFSET, 32 bits (13_ethernet_and_network_time.md)
def ETH.PTP_OFFSET.NS : Fld := ⟨8 * (0x1C0110) + 0, 32, 0⟩

-- ETH.PTP_DELAY, 32 bits (13_ethernet_and_network_time.md)
def ETH.PTP_DELAY.NS : Fld := ⟨8 * (0x1C0114) + 0, 32, 0⟩

-- ETH.ALARM, 32 bits (13_ethernet_and_network_time.md)
def ETH.ALARM.TPL : Fld := ⟨8 * (0x1C0180) + 0, 5, 0⟩
def ETH.ALARM.EN : Fld := ⟨8 * (0x1C0180) + 5, 1, 0⟩

-- ETH.ALARM_SEL[j], 32 bits (13_ethernet_and_network_time.md)
def ETH.ALARM_SEL (j : Nat) : Fld := ⟨8 * (0x1C01C0 + j * 0x4) + 0, 32, 0⟩

-- ETH.FP_TPL[t], 512 bits (13_ethernet_and_network_time.md)
def ETH.FP_TPL.IMAGE (t : Nat) : Fld := ⟨8 * (0x1C1000 + t * 0x80) + 0, 512, 0⟩

-- ETH.FP_SENT, 32 bits (13_ethernet_and_network_time.md)
def ETH.FP_SENT : Fld := ⟨8 * (0x1C0300) + 0, 32, 0⟩

-- ETH.FP_DROP, 32 bits (13_ethernet_and_network_time.md)
def ETH.FP_DROP : Fld := ⟨8 * (0x1C0304) + 0, 32, 0⟩

-- ETH.PRIV_SENT, 32 bits (13_ethernet_and_network_time.md)
def ETH.PRIV_SENT : Fld := ⟨8 * (0x1C0308) + 0, 32, 0⟩

-- ETH.RX_PTP, 32 bits (13_ethernet_and_network_time.md)
def ETH.RX_PTP : Fld := ⟨8 * (0x1C030C) + 0, 32, 0⟩

-- ETH.RX_DISCARD, 32 bits (13_ethernet_and_network_time.md)
def ETH.RX_DISCARD : Fld := ⟨8 * (0x1C0310) + 0, 32, 0⟩

-- ETH.PRP_DUP_DISCARD, 32 bits (13_ethernet_and_network_time.md)
def ETH.PRP_DUP_DISCARD : Fld := ⟨8 * (0x1C0314) + 0, 32, 0⟩

-- ETH.PRP_WRONG_LAN, 32 bits (13_ethernet_and_network_time.md)
def ETH.PRP_WRONG_LAN : Fld := ⟨8 * (0x1C0318) + 0, 32, 0⟩

-- ETH.TC_FORWARDED, 32 bits (13_ethernet_and_network_time.md)
def ETH.TC_FORWARDED : Fld := ⟨8 * (0x1C031C) + 0, 32, 0⟩

-- ETH.OVERSIZE, 32 bits (13_ethernet_and_network_time.md)
def ETH.OVERSIZE : Fld := ⟨8 * (0x1C0320) + 0, 32, 0⟩

-- KILN.VERIFY_OK, 32 bits (14_kiln_security.md)
def KILN.VERIFY_OK : Fld := ⟨8 * (0x200100) + 0, 32, 0⟩

-- KILN.VERIFY_FAIL, 32 bits (14_kiln_security.md)
def KILN.VERIFY_FAIL : Fld := ⟨8 * (0x200104) + 0, 32, 0⟩

-- KILN.GENERATED, 32 bits (14_kiln_security.md)
def KILN.GENERATED : Fld := ⟨8 * (0x200108) + 0, 32, 0⟩

-- KILN.DERIVED, 32 bits (14_kiln_security.md)
def KILN.DERIVED : Fld := ⟨8 * (0x20010C) + 0, 32, 0⟩

-- KILN.CACHE_HIT, 32 bits (14_kiln_security.md)
def KILN.CACHE_HIT : Fld := ⟨8 * (0x200110) + 0, 32, 0⟩

-- KILN.CACHE_MISS, 32 bits (14_kiln_security.md)
def KILN.CACHE_MISS : Fld := ⟨8 * (0x200114) + 0, 32, 0⟩

-- KILN.CACHE_EVICT, 32 bits (14_kiln_security.md)
def KILN.CACHE_EVICT : Fld := ⟨8 * (0x200118) + 0, 32, 0⟩

-- KILN.CACHE_SCRATCH, 32 bits (14_kiln_security.md)
def KILN.CACHE_SCRATCH : Fld := ⟨8 * (0x20011C) + 0, 32, 0⟩

-- KILN.BAD_KEY_USE, 32 bits (14_kiln_security.md)
def KILN.BAD_KEY_USE : Fld := ⟨8 * (0x200120) + 0, 32, 0⟩

-- KILN.KEY_EXPIRED, 32 bits (14_kiln_security.md)
def KILN.KEY_EXPIRED : Fld := ⟨8 * (0x200124) + 0, 32, 0⟩

-- KILN.APPROVED_REJECT, 32 bits (14_kiln_security.md)
def KILN.APPROVED_REJECT : Fld := ⟨8 * (0x200128) + 0, 32, 0⟩

-- RNG.RESEEDS, 32 bits (14_kiln_security.md)
def RNG.RESEEDS : Fld := ⟨8 * (0x220100) + 0, 32, 0⟩

-- TUN.EXC_PC[j], 32 bits (18_tun_cores.md)
def TUN.EXC_PC (j : Nat) : Fld := ⟨8 * (0x2C0204 + j * 0x10) + 0, 32, 0⟩

-- TUN.EXC_BADADDR[j], 32 bits (18_tun_cores.md)
def TUN.EXC_BADADDR (j : Nat) : Fld := ⟨8 * (0x2C0208 + j * 0x10) + 0, 32, 0⟩

-- TUN.EXC_COUNT[j], 32 bits (18_tun_cores.md)
def TUN.EXC_COUNT (j : Nat) : Fld := ⟨8 * (0x2C020C + j * 0x10) + 0, 32, 0⟩

-- TUN.CALLS[h], 32 bits (18_tun_cores.md)
def TUN.CALLS (h : Nat) : Fld := ⟨8 * (0x2C0300 + h * 0x4) + 0, 32, 0⟩

-- TUN.BUDGET, 32 bits (18_tun_cores.md)
def TUN.BUDGET : Fld := ⟨8 * (0x2C030C) + 0, 32, 0⟩

-- TUN.NO_CORE, 32 bits (18_tun_cores.md)
def TUN.NO_CORE : Fld := ⟨8 * (0x2C0310) + 0, 32, 0⟩

-- TUN.INVALID, 32 bits (18_tun_cores.md)
def TUN.INVALID : Fld := ⟨8 * (0x2C0314) + 0, 32, 0⟩

-- TUN.JOIN_REJECT, 32 bits (18_tun_cores.md)
def TUN.JOIN_REJECT : Fld := ⟨8 * (0x2C0318) + 0, 32, 0⟩

-- TUN.EXCEPTIONS, 32 bits (18_tun_cores.md)
def TUN.EXCEPTIONS : Fld := ⟨8 * (0x2C031C) + 0, 32, 0⟩

end Reg

end Sys2Proof.Machine
end

