-- ==== Sys2Proof/Machine/State.lean ====
section
/-! DEFINITION. The state of the part, its reset value and the reasons a step can stop. -/

namespace Sys2Proof.Machine

/-- Reasons a step faults: none. A block has no fault of its own; every error of the spec is a register, a status, an
event or a latch of the state. -/
inductive Fault where
deriving DecidableEq, Repr

/-- Reasons a command is refused. -/
inductive Refusal where
  /-- Raised by the dispatch for a command without a meaning yet. Safe: the model stops where the part goes on. -/
  | notModelled (mnemonic : String)
  /-- Raised by a meaning whose operands do not have the shape the spec gives them (WellFormed.lean): a descriptor
  that is not 64 bytes, a block of the wrong length. Safe: no such command exists. -/
  | illFormed
  /-- Raised by a load, store or block repeat of a Tun core in mode F on its die control space (R341): a device the spec
  gives no behaviour for. Safe: the model stops where the core goes on. -/
  | controlSpace
deriving DecidableEq, Repr

/-- The state of the part. -/
structure State where
  part : Part
  /-- Register fields written since reset, by bit address (8 × BAR0 offset + lowest bit). -/
  regs : Tbl Nat
  /-- Statistics words that have counted, by the same key. -/
  stats : Tbl Nat
  power : Power
  watch : Watch
  time : TimeUnit
  clk : Clocks
  timers : Tbl TimerRun
  evt : Events
  rings : Rings
  eth : Eth
  safe : Safe
  air : Air
  /-- The enabled networks as in force, by n. -/
  nets : Tbl NetForce
  blendForce : BlendForce
  node : NodeUnit
  /-- Hearing tables: entry index of die f at 2^18 f + index. -/
  hear : Tbl HearEntry
  kiln : Kiln
  otp : Otp
  rx : MacRx
  cask : Cask
  sched : Sched
  tx : MacTx
  tun : TunUnit
  boot : BootUnit
  /-- Broadcast chains by field die. -/
  bcast : Tbl BcastRun
  /-- The queue of waiting commands, first in first out: the model's own. -/
  pending : List Instr
  /-- Everything the part has sent out, oldest first: the model's own. -/
  out : List Output
  /-- How many free values have been taken: the model's own. -/
  free : Nat
deriving DecidableEq, Repr

/-- The mesh epoch in counter seconds (R52). -/
def meshEpoch : Nat := 1767225600

/-- The nominal addend, 24.4140625 ns in units of 2^-32 ns (R47). -/
def nominalAddend : Nat := 0x186A000000

/-- The watch domain at VSTBY power-on (R322). [DESIGN CHOICE, log entries 6, 7] -/
def Watch.init : Watch :=
  { entry := 0, wake := 0, fromNight := false, tamperNight := false, faults := 0, nightCnt := 0, wakeNEn := true,
    wsEn := true, capWakeN := true, capWs := true, latched := none, seenHigh := false, refSel := false, wsAddr := 0,
    tamper := 0, tripLow := false, tripReport := false }

/-- The time unit at LOGIC_RDY (R48). [DESIGN CHOICE, log entry 6] -/
def TimeUnit.init : TimeUnit :=
  { sec := meshEpoch, ns := 0, frac := 0, addend := nominalAddend, base := nominalAddend, slewAcc := 0, msc := 0,
    nowLatch := none, mscLatch := none, pps := .init, ptp := .init, dab := .init, fm := .init,
    ranks := [1, 2, 3, 4], slewGoal := 0, slewFrom := 0, forced := false, history := [],
    ppsTod := none, lastPps := none, lastNull := none, lastCycle := none, ptpDelays := [], calFails := [], calMarked := [],
    trips := [], dabMoved := false }

/-- Register fields whose reset value depends on the start and the variant: BOOT.STATUS.STATE, CONFIRMED as delivered,
and SAFE.HEAD.CHECKED, 1 on WXB4 and WXB8. [DESIGN CHOICE, log entry 2] -/
def resetRegs (v : Variant) : Tbl Nat :=
  (Reg.BOOT.STATUS.STATE.key, 2) :: if v = .wxb2 then [] else [(Reg.SAFE.HEAD.CHECKED.key, 1)]

/-- The machine just after LOGIC_RDY, the boot ROM running: every register at its reset value.
[DESIGN CHOICE, log entries 1, 2, 3, 6, 8, 9; DEDUCED, log entry 81] -/
def State.reset : State :=
  { part := ⟨.wxb8, false, 0, 0, 32⟩
    regs := resetRegs .wxb8
    stats := []
    power := { phase := .boot, pwrEn := 0xF, temps := [], warn := [], drop := [], called := [], hot := [], cool := [],
               reqPending := false, change := none, dropNext := [], resetN := false, duskLinks := [] }
    watch := .init
    time := .init
    clk := { ssMode := 0, ssDepth := 0, ckRun := [], srRun := [], phaseNow := [], srLeft := [] }
    timers := []
    evt := { pend := 0, again := 0, holding := [], waiting := [], disarmed := [], msixTable := [], pba := [] }
    rings := { runs := [], faultValid := false, faultRing := 0, faultStatus := 0, faultMore := 0, faultAddr := 0,
               polling := [], lastVisit := 4095, cfg := [], stalled := false }
    eth := { lanA := .init, lanB := .init, lanUsed := 0, prpSeq := 0, prpSeen := [], egress := [], peers := [], tx := [],
             lifeAt := none }
    safe := { log := [], nextSeq := 0, uncorrectable := [], degraded := [],
              fault := ⟨false, 0, .illegalValue, false, false, 0⟩, hold := false, held := [], unconfirmed := [],
              unconfirmedJob := 1, holdJob := 1, selftests := [], selftestNext := [], pairPassed := [],
              patrolAt := [], patrolWait := [], patrol := [], thisCycle := [], dieWrites := [] }
    air := .init
    nets := []
    blendForce := ⟨40, false, 16⟩
    node := ⟨[], none, none⟩
    hear := []
    kiln := .init
    otp := { updateCtr := 0, enrol := [], active := 0, zeroisations := 0, floor := 0, lockState := 0, helper := 0 }
    rx := { groups := [], nextGroup := 1, replay := [], pairs := [], contacts := [], nextContact := 1, nextOrder := 1, down := [] }
    cask := .init
    sched := { tokens := [], gates := [], pending := [], banks := [] }
    tx := { jobs := [], nextJob := 1, downs := [], seqs := [], kept := [] }
    tun := .init
    boot := .init
    bcast := []
    pending := []
    out := []
    free := 0 }

end Sys2Proof.Machine
end

