-- ==== Sys2Proof/Machine/Ops.lean ====
section
/-! DEFINITION. The named operations every family uses: register fields and statistics, free values, the timestamp,
ring records, events with their alarm datagrams, access faults, completions, and host accesses. -/

namespace Sys2Proof.Machine

/-! ### Registers, statistics, free values -/

/-- A register field's value. -/
def State.get (s : State) (f : Fld) : Nat := Tbl.getD s.regs f.key f.rst

/-- A one-bit field as a Bool. -/
def State.on (s : State) (f : Fld) : Bool := s.get f = 1

/-- Writes a register field, keeping its width. -/
def State.put (s : State) (f : Fld) (v : Nat) : State := { s with regs := Tbl.put s.regs f.key (v % 2 ^ f.width) }

/-- A statistics word. -/
def State.stat (s : State) (f : Fld) : Nat := Tbl.getD s.stats f.key 0

/-- Adds to a statistics word, which wraps at 2^32. -/
def State.bumpBy (s : State) (f : Fld) (n : Nat) : State :=
  { s with stats := Tbl.put s.stats f.key ((s.stat f + n) % 2 ^ 32) }

/-- Counts one in a statistics word. -/
def State.bump (s : State) (f : Fld) : State := s.bumpBy f 1

/-- Counts one in a statistics word that saturates. -/
def State.bumpSat (s : State) (f : Fld) : State :=
  { s with stats := Tbl.put s.stats f.key (min (s.stat f + 1) (2 ^ 32 - 1)) }

/-- Counts one in a register field that saturates. -/
def State.incSat (s : State) (f : Fld) : State := s.put f (min (s.get f + 1) (2 ^ f.width - 1))

/-- The counter of free values moved on by n. [DESIGN CHOICE, log entry 9] -/
def State.spend (s : State) (n : Nat) : State := { s with free := s.free + n }

/-- n bytes of fresh samples of the entropy source. [DESIGN CHOICE, log entry 95] -/
def State.samples (s : State) (n : Nat) : State × List Byte :=
  (s.spend n, (List.range n).map fun i => Config.entropyByte (s.free + i))

/-- Seeds the DRBG from 768 fresh samples, on top of its state where it has one (R288). [DESIGN CHOICE, log entry 95] -/
def State.seedDrbg (s : State) : State :=
  let r := s.samples 96
  { r.1 with kiln := { r.1.kiln with drbg := some (drbgSeed s.kiln.drbg r.2), gens := 0 } }

/-- One generate request for n bytes (R288). A DRBG whose state was overwritten is seeded first.
[DESIGN CHOICE, log entry 95] -/
def State.draw (s : State) (n : Nat) : State × List Byte :=
  let s := if s.kiln.drbg.isNone then s.seedDrbg else s
  match s.kiln.drbg with
  | some d =>
    let r := d.generate n
    let out := (List.range n).map fun i => r.2.getD i 0
    ({ s with kiln := { s.kiln with drbg := some r.1, gens := s.kiln.gens + 1, last := out } }, out)
  | none => (s, [])

/-- A random number for the backoff of R167 or the patrol of R306: from the DRBG, or from the fallback generator while the
entropy source is faulted (R290). [DESIGN CHOICE, log entry 95] -/
def State.drawNum (s : State) : State × Nat :=
  if s.on Reg.RNG.STATUS.FALLBACK then
    let x := Config.fallbackNext s.kiln.fallback % 2 ^ 64
    ({ s with kiln := { s.kiln with fallback := x } }, x)
  else
    let r := s.draw 8
    (r.1, beVal r.2)

/-! ### Dies, phases, heads -/

/-- Field die f is present (R1, R11). -/
def State.present (s : State) (f : Nat) : Bool := f < s.part.variant.fieldDies

/-- Field die f is fenced (R307). -/
def State.dieFenced (s : State) (f : Nat) : Bool := s.on (Reg.SAFE.FDIE.FENCED f)

/-- Field die f is present and not fenced. [DEDUCED, log entry 10] -/
def State.dieUp (s : State) (f : Nat) : Bool := s.present f && !s.dieFenced f

/-- The field dies that are up, ascending. -/
def State.diesUp (s : State) : List Nat := (List.range 6).filter s.dieUp

/-- Head h is present and not fenced (R304). -/
def State.headUp (s : State) (h : Nat) : Bool :=
  h < s.part.variant.headDies && bitsAt (s.get Reg.SAFE.HEAD.FENCED) h 1 = 0

/-- The active head (R301). -/
def State.active (s : State) : Nat := s.get Reg.SAFE.HEAD.ACTIVE

/-- The part's logic is out of reset. [DEDUCED, log entry 10] -/
def State.logicUp (s : State) : Bool :=
  s.power.phase = .boot || s.power.phase = .running || s.power.phase = .quiescing

/-- The part is up: BOOT_RDY has come and Night entry has not begun. The ring controller works, in TAMPER_HELD too. -/
def State.up (s : State) : Bool := s.power.phase = .running

/-- The part runs: it is up, and Kiln was not held at the start, when nothing but the PCI Express function and the ring
controller are brought up (R296). [DEDUCED, log entry 115] -/
def State.live (s : State) : Bool := s.up && decide (s.get Reg.KILN.STATUS.STATE ≠ 3)

/-- Applies f when a condition holds; the command whose event cannot occur in the state changes nothing otherwise.
[DEDUCED, log entry 10] -/
def State.when (s : State) (c : Bool) (f : State → State) : State := if c then f s else s

/-- Folds an operation over a list. -/
def State.each {α : Type} (s : State) (l : List α) (f : State → α → State) : State := l.foldl f s

/-! ### Time as records carry it -/

/-- Quality of time (R49). -/
def State.quality (s : State) : Nat := s.get Reg.TIME.REF_STATUS.QUALITY

/-- A record timestamp (R49): seconds[31:0] above, quality and nanoseconds below. -/
def stamp64 (sec ns q : Nat) : Nat := sec % 2 ^ 32 * 2 ^ 32 + q % 4 * 2 ^ 30 + ns % 2 ^ 30

/-- The timestamp of now (R49). -/
def State.stampNow (s : State) : Nat := stamp64 s.time.sec s.time.ns s.quality

/-- The time counter in whole nanoseconds. -/
def State.counterNs (s : State) : Nat := s.time.sec * 1000000000 + s.time.ns

/-- The ns after which the counter wraps: 2^48 seconds (R47). -/
def counterSpan : Nat := 2 ^ 48 * 1000000000

/-- Counter ns since a counter instant. -/
def State.nsSince (s : State) (t : Nat) : Nat := (s.counterNs + counterSpan - t % counterSpan) % counterSpan

/-- TIME.MESH_OFFSET as signed nanoseconds (R54). -/
def State.meshOffset (s : State) : Int := signedOf 27 (s.get Reg.TIME.MESH_OFFSET.OFFSET)

/-- Nanoseconds since the start of mesh slot 0 (R51, R52). -/
def State.meshNs (s : State) : Int := (s.counterNs : Int) - (meshEpoch * 1000000000 : Nat) - s.meshOffset

/-! ### Outputs, held while a lockstep mismatch is resolved (R301) -/

/-- Sends an output that a switch-over may hold; what the signature of its window covers stays unconfirmed until it has
matched, completions included (R12, R300). [DEDUCED, log entry 129] -/
def State.emit (s : State) (o : Output) : State :=
  if s.safe.hold && o.bulk then { s with safe := { s.safe with held := s.safe.held ++ [o] } }
  else if (o.bulk || o.isCompletion) && s.on Reg.SAFE.HEAD.CHECKED then
    { s with out := s.out ++ [o], safe := { s.safe with unconfirmed := s.safe.unconfirmed ++ [o] } }
  else { s with out := s.out ++ [o] }

/-- Sends an output that is never held: privileged frames, pins, buses (R301). -/
def State.emitNow (s : State) (o : Output) : State := { s with out := s.out ++ [o] }

/-! ### DMA windows (R237) -/

/-- Window w covers host addresses a to a + len − 1 and is enabled with the rights asked. -/
def State.winCovers (s : State) (w a len : Nat) (rd wr : Bool) : Bool :=
  s.on (Reg.RING.WIN.EN w) && (!rd || s.on (Reg.RING.WIN.RD w)) && (!wr || s.on (Reg.RING.WIN.WR w))
  && s.get (Reg.RING.WIN.BASE_PAGE w) * 4096 ≤ a && a + len ≤ (s.get (Reg.RING.WIN.LIMIT_PAGE w) + 1) * 4096

/-- An area lies wholly inside one enabled window that allows reading and writing (R232). -/
def State.inOneWindow (s : State) (a len : Nat) : Bool := (List.range 16).any fun w => s.winCovers w a len true true

/-- A word of a function's configuration space as written, 0 before. -/
def State.cfgWord (s : State) (h w : Nat) : Nat := Tbl.getD s.rings.cfg (1024 * h + w) 0

/-- The range of the BAR of function h whose two words begin at w, if either has been programmed since cold start (R237).
[PRESUMED, log entry 193; DESIGN CHOICE, log entry 202] -/
def State.barRange (s : State) (h w size : Nat) : Option BarRange :=
  if Tbl.has s.rings.cfg (1024 * h + w) || Tbl.has s.rings.cfg (1024 * h + w + 1) then
    some ⟨s.cfgWord h (w + 1) * 2 ^ 32 + s.cfgWord h w / size * size, size⟩
  else none

/-- The BAR0 and BAR2 ranges of both functions, as last programmed (R237, R359). [DEDUCED, log entry 81] -/
def State.bars (s : State) : List BarRange :=
  (List.range s.part.variant.headDies).flatMap fun h =>
    (s.barRange h 4 0x4000000).toList ++ (s.barRange h 6 0x10000).toList

/-- A byte lies in a function's BAR range (R237). -/
def State.inBar (s : State) (a : Nat) : Bool := s.bars.any fun b => b.base ≤ a && a < b.base + b.size

/-- One byte of an access is allowed (R237). -/
def State.byteAllowed (s : State) (a : Nat) (write : Bool) : Bool :=
  !s.inBar a && (List.range 16).any fun w => s.winCovers w a 1 (!write) write

/-- The lowest-addressed byte of an access that R237 does not allow. -/
def State.firstBad (s : State) (write : Bool) (a : Nat) : Nat → Option Nat
  | 0 => none
  | len + 1 => if s.byteAllowed a write then State.firstBad s write (a + 1) len else some a

/-! ### Rings (R231 to R236, R250) -/

/-- A ring's running state. -/
def State.ring (s : State) (n : Nat) : RingRun := Tbl.getD s.rings.runs n .init

/-- Replaces a ring's running state. -/
def State.setRing (s : State) (n : Nat) (r : RingRun) : State :=
  { s with rings := { s.rings with runs := Tbl.put s.rings.runs n r } }

/-- Bytes of a record of a ring type (R231). -/
def recordSize (typ : Nat) : Nat := [64, 16, 64, 32, 16, 64, 32].getD typ 64

/-- Entries of a ring (R232). -/
def State.ringSize (s : State) (n : Nat) : Nat := 2 ^ s.get (Reg.RING.CTL.LOG2_SIZE n)

/-- Records a ring holds: producer minus consumer (R233). -/
def State.ringFill (s : State) (n : Nat) : Nat :=
  if s.get (Reg.RING.CTL.TYPE n) = 0 then ((s.ring n).host + 2 ^ 32 - (s.ring n).part) % 2 ^ 32
  else ((s.ring n).part + 2 ^ 32 - (s.ring n).host) % 2 ^ 32

/-- The doorbell slot of a ring (R233). -/
def State.doorbell (s : State) (n : Nat) : Nat := s.get Reg.RING.DB_BASE.ADDR * 2 ^ 15 + n * 8

/-- Counts a discarded record (R239, R250, R370). -/
def State.drop (s : State) (n : Nat) : State :=
  s.setRing n { s.ring n with dropped := min ((s.ring n).dropped + 1) 0xFFFF }

/-- A record with its PHASE bit for index i of a ring of the given size (R236). -/
def withPhase (bytes : List Byte) (i size : Nat) : List Byte :=
  let ph : Byte := if i / size % 2 = 0 then 0x80 else 0
  bytes.take 3 ++ ((bytes.getD 3 0 &&& 0x7F) ||| ph) :: bytes.drop 4

/-- Writes host memory through the active head's function (R235). -/
def State.dmaWrite (s : State) (addr : Nat) (bytes : List Byte) : State := s.emit (.hostWrite s.active addr bytes)

/-- Reads host memory through the active head's function (R235). -/
def State.dmaRead (s : State) (addr len : Nat) : State := s.emit (.hostRead s.active addr len)

/-- What became of a record: a host access of its ring outside the windows halts the ring (R239). -/
inductive Posted where
  | written
  | discarded
  | full
  | bad (ring addr : Nat)
deriving DecidableEq, Repr

/-- Whether a ring takes records of a type: enabled, of that type, not halted (R239, R370), and making progress (R235).
[DEDUCED, log entry 199] -/
def State.ringTakes (s : State) (n typ : Nat) : Bool :=
  !s.rings.stalled && s.on (Reg.RING.CTL.EN n) && s.get (Reg.RING.CTL.TYPE n) = typ && !(s.ring n).halted

/-- The ring's part index moves on and is written to its half of the doorbell slot, where the windows allow it (R236,
R237). [DEDUCED, log entry 196] -/
def State.postIndex (s : State) (n : Nat) : State × Posted :=
  let r := s.ring n
  let i := (r.part + 1) % 2 ^ 32
  let s := s.setRing n { r with part := i }
  match s.firstBad true (s.doorbell n + 4) 4 with
  | some a => (s, .bad n a)
  | none => (s.dmaWrite (s.doorbell n + 4) (leBytes 4 i), .written)

/-- Writes a record and then the part's index (R236), or discards it and counts it in DROPPED.
[DEDUCED, log entry 196] -/
def State.post (s : State) (n typ : Nat) (bytes : List Byte) : State × Posted :=
  if !s.ringTakes n typ then (if s.rings.stalled then s else s.drop n, .discarded)
  else if s.ringSize n ≤ s.ringFill n then (s.drop n, .full)
  else
    let i := (s.ring n).part
    let addr := s.get (Reg.RING.BASE.ADDR n) + i % s.ringSize n * recordSize typ
    match s.firstBad true addr (recordSize typ) with
    | some a => (s.drop n, .bad n a)
    | none => (s.dmaWrite addr (withPhase bytes i (s.ringSize n))).postIndex n

/-- A ring halts (R239): HALTED and FAULT_STATUS, and the fault latch or MORE; source 96 is the caller's. -/
def State.haltRing (s : State) (n : Nat) (st : Status) (addr : Nat) : State :=
  let s := s.setRing n { s.ring n with halted := true, faultStatus := st.code }
  let g := s.rings
  if g.faultValid then { s with rings := { g with faultMore := min (g.faultMore + 1) 0x7FF } }
  else { s with rings := { g with faultValid := true, faultRing := n, faultStatus := st.code, faultAddr := addr } }

/-! ### MSI-X (R253) -/

/-- A word of the MSI-X table of function h; vector control words reset to masked. -/
def State.msixWord (s : State) (h w : Nat) : Nat := Tbl.getD s.evt.msixTable (1024 * h + w) (if w % 4 = 3 then 1 else 0)

/-- Sends a vector's message through the active head's function, or sets its pending bit when it is masked. -/
def State.sendVector (s : State) (v : Nat) : State :=
  let h := s.active
  if s.msixWord h (4 * v + 3) % 2 = 1 then
    { s with evt := { s.evt with pba := if (256 * h + v) ∈ s.evt.pba then s.evt.pba else s.evt.pba ++ [256 * h + v] } }
  else
    let s := s.emit (.msix h v (s.msixWord h (4 * v + 1) * 2 ^ 32 + s.msixWord h (4 * v)) (s.msixWord h (4 * v + 2)))
    if s.get (Reg.EVT.VEC.HOLDOFF_US v) = 0 then s
    else { s with evt := { s.evt with holding := v :: s.evt.holding } }

/-- Signals a vector: at once, or once at the end of its holdoff. -/
def State.signal (s : State) (v : Nat) : State :=
  if v ∈ s.evt.holding then
    { s with evt := { s.evt with waiting := if v ∈ s.evt.waiting then s.evt.waiting else v :: s.evt.waiting } }
  else s.sendVector v

/-! ### Ethernet templates and privileged frames (R259, R260) -/

/-- The committed header image of a template, HDR_LEN bytes; the two bytes past the 64-byte image are the UDP
checksum that the part fills. -/
def State.tplHeader (s : State) (t : Nat) : List Byte :=
  let img := leBytes 64 (s.get (Reg.ETH.FP_TPL.IMAGE t))
  sliceB img 0 (s.get (Reg.ETH.FP_TPL_CTL.HDR_LEN t))

/-- Sum of 16-bit big-endian words, an odd last byte padded. -/
def sum16 : List Byte → Nat
  | [] => 0
  | [a] => a.toNat * 256
  | a :: b :: l => a.toNat * 256 + b.toNat + sum16 l

/-- One's-complement fold of a sum. -/
def fold16 (n : Nat) : Nat :=
  let a := n / 65536 + n % 65536
  let b := a / 65536 + a % 65536
  b / 65536 + b % 65536

/-- Replaces bytes of a list from position i on. -/
def patchB (l : List Byte) (i : Nat) (bs : List Byte) : List Byte := l.take i ++ bs ++ l.drop (i + bs.length)

/-- The datagram of a header of R259 and a UDP payload: payload length, UDP length and UDP checksum filled.
[PRESUMED, log entry 158] -/
def buildDatagram (hdr payload : List Byte) : List Byte :=
  let ip := hdr.length - 48
  let len := 8 + payload.length
  let h := patchB hdr (ip + 4) (beBytes 2 len)
  let h := patchB h (ip + 44) (beBytes 2 len)
  let h := patchB h (ip + 46) [0, 0]
  let pseudo := sliceB h (ip + 8) 32 ++ beBytes 4 len ++ beBytes 4 17
  let c := 0xFFFF - fold16 (sum16 (pseudo ++ sliceB h (ip + 40) 8 ++ payload))
  patchB h (ip + 46) (beBytes 2 (if c = 0 then 0xFFFF else c)) ++ payload

/-- Whether a port can send: present, its head not fenced, enabled and its link up. -/
def State.portUp (s : State) (h p : Nat) : Bool :=
  s.headUp h && s.on (Reg.ETH.PORT_CFG.EN h p) && s.on (Reg.ETH.PORT_STATUS.LINK h p)

/-- Bytes before the link service data: the Ethernet header with its VLAN tag if it has one. -/
def l2Len (frame : List Byte) : Nat := if beAt frame 12 2 = 0x8100 then 18 else 14

/-- The redundancy control trailer of IEC 62439-3: sequence number, LAN id and LSDU size, suffix (R260).
[PRESUMED, log entry 158] -/
def prpTrailer (frame : List Byte) (seq lan : Nat) : List Byte :=
  beBytes 2 seq ++ beBytes 2 ((0xA + lan) * 4096 + (frame.length - l2Len frame + 6) % 4096) ++ beBytes 2 0x88FB

/-- The transmitter of port p of head h. -/
def State.txPort (s : State) (h p : Nat) : TxPort := Tbl.getD s.eth.tx (2 * h + p) .init

/-- Replaces a transmitter. -/
def State.setTxPort (s : State) (h p : Nat) (t : TxPort) : State :=
  { s with eth := { s.eth with tx := Tbl.put s.eth.tx (2 * h + p) t } }

/-- A received PAUSE stops port p of head h now (R255). -/
def State.paused (s : State) (h p : Nat) : Bool := s.nsSince (s.txPort h p).pause.1 < (s.txPort h p).pause.2

/-- Nanoseconds of n octets on the line, with the FCS, the preamble and the gap: 0.08 ns an octet at 100 Gbit/s, 0.32 ns at
25 Gbit/s, rounded up. [PRESUMED, log entry 158] -/
def lineNs (mode n : Nat) : Nat := ((n + 24) * (if mode = 0 then 8 else 32) + 99) / 100

/-- What stands in the queue now of the frames given to the line. -/
def State.leaving (s : State) (h p : Nat) : List (Nat × Nat × Nat) :=
  (s.txPort h p).leaving.filter fun x => s.nsSince x.2.1 < x.2.2

/-- Bytes in the transmit queue of a port (R259). -/
def State.txBytes (s : State) (h p : Nat) : Nat :=
  ((s.txPort h p).waiting.map (·.2.length)).sum + ((s.leaving h p).map (·.1)).sum

/-- A frame is given to the line; it leaves the queue once those before it have gone. A privileged frame is never held.
[DEDUCED, log entry 194] -/
def State.toLine (s : State) (h p : Nat) (bulk : Bool) (frame : List Byte) : State :=
  let q := s.leaving h p
  let wait := (q.map fun x => x.2.2 - s.nsSince x.2.1).foldl max 0
  let t := s.counterNs
  let dur := wait + lineNs (s.get (Reg.ETH.PORT_CFG.MODE h p)) frame.length
  let s := s.setTxPort h p { s.txPort h p with leaving := q ++ [(frame.length, t, dur)] }
  if bulk then s.emit (.ethFrame h p frame) else s.emitNow (.ethFrame h p frame)

/-- Frames that waited for the end of a PAUSE go out in order (R255). [DEDUCED, log entry 194] -/
def State.drainPort (s : State) (h p : Nat) : State :=
  let l := (s.txPort h p).waiting
  if s.paused h p || l.isEmpty then s
  else
    (s.setTxPort h p { s.txPort h p with waiting := [] }).each l fun s x => s.toLine h p x.1 x.2

/-- A frame for a port's transmit queue of 256 KiB; the flag says that it was taken: its port is up, its queue not full
(R255, R259). [DEDUCED, log entry 194] -/
def State.queueFrame (s : State) (h p : Nat) (bulk : Bool) (frame : List Byte) : State × Bool :=
  if !s.portUp h p || decide (262144 < s.txBytes h p + frame.length) then (s, false)
  else if s.paused h p then
    (s.setTxPort h p { s.txPort h p with waiting := (s.txPort h p).waiting ++ [(bulk, frame)] }, true)
  else ((s.drainPort h p).toLine h p bulk frame, true)

/-- The copies of a privileged frame: each unfenced head's copy on its LAN, with one sequence number (R260); the flag says
that one was taken. -/
def State.privCopies (s : State) (frame : List Byte) : State × Bool :=
  let copy (s : State) (h : Nat) : State × Bool :=
    s.queueFrame h 0 false (if s.on Reg.ETH.PRP_CFG.EN then frame ++ prpTrailer frame s.eth.prpSeq h else frame)
  let a := copy s 0
  let b := copy a.1 1
  (b.1, a.2 || b.2)

/-- The next PRP sequence number is used up. -/
def State.nextPrp (s : State) : State := { s with eth := { s.eth with prpSeq := (s.eth.prpSeq + 1) % 65536 } }

/-- Sends a privileged datagram (R260), or drops it where no port takes it (R259): the flag says which. -/
def State.sendPriv (s : State) (frame : List Byte) : State × Bool :=
  let r := s.privCopies frame
  if r.2 then (r.1.nextPrp.bump Reg.ETH.PRIV_SENT, true) else (s.bump Reg.ETH.FP_DROP, false)

/-- The alarm datagram of a firing (R264); the flag says that it was dropped. -/
def State.alarm (s : State) (src detail : Nat) : State × Bool :=
  if s.on Reg.ETH.ALARM.EN && bitsAt (s.get (Reg.ETH.ALARM_SEL (src / 32))) (src % 32) 1 = 1
      && s.on (Reg.ETH.FP_TPL_CTL.VALID (s.get Reg.ETH.ALARM.TPL)) then
    let r := s.sendPriv (buildDatagram (s.tplHeader (s.get Reg.ETH.ALARM.TPL))
      (beBytes 2 src ++ [0, 0] ++ beBytes 4 detail ++ beBytes 8 s.stampNow))
    (r.1, !r.2)
  else (s, false)

/-! ### Events (R252, R253) -/

/-- Sets PEND, or AGAIN too when PEND was set. -/
def Events.mark (e : Events) (src : Nat) : Events :=
  if e.pend.getLsbD src then { e with again := e.again ||| BitVec.ofNat 512 (2 ^ src) }
  else { e with pend := e.pend ||| BitVec.ofNat 512 (2 ^ src) }

/-- The EVT record of a firing (R253). -/
def evtRecord (src detail stamp : Nat) : List Byte := leBytes 2 src ++ [0, 0] ++ leBytes 4 detail ++ leBytes 8 stamp

/-- What one firing leaves to be reported: an alarm datagram that was dropped, and what became of its record. -/
structure Fired where
  state : State
  dropped : Bool
  posted : Posted

/-- The record and the vector of a firing (R253). -/
def State.deliverEvent (s : State) (src detail : Nat) : State × Posted :=
  let r := if s.on (Reg.EVT.MAP.RING_EN src) then
      s.post (s.get (Reg.EVT.MAP.RING src)) 4 (evtRecord src detail s.stampNow)
    else (s, .discarded)
  (if s.on (Reg.EVT.MAP.MSIX_EN src) then r.1.signal (s.get (Reg.EVT.MAP.VECTOR src)) else r.1, r.2)

/-- One firing of a source: PEND and AGAIN, the alarm datagram, the record and the vector. -/
def State.fire1 (s : State) (src detail : Nat) : Fired :=
  let a := State.alarm { s with evt := s.evt.mark src } src detail
  if s.on (Reg.EVT.MAP.EN src) then
    let r := a.1.deliverEvent src detail
    ⟨r.1, a.2, r.2⟩
  else ⟨a.1, a.2, .discarded⟩

/-- A source stays silent until a read re-arms it. -/
def State.disarm (s : State) (src : Nat) : State := { s with evt := { s.evt with disarmed := src :: s.evt.disarmed } }

/-- Fires a source and then, at most so many deep, what its firing itself gives cause to report: source 196 for a dropped
alarm datagram, unless it is silent (R259); source 99 for a record lost to a full ring, its own excepted (R250); source 96
for an EVT ring that its record halts (R239). -/
def State.fireN : Nat → State → Nat → Nat → State
  | 0, s, src, detail => (s.fire1 src detail).state
  | k + 1, s, src, detail =>
    let r := s.fire1 src detail
    let s := if r.dropped && 196 ∉ r.state.evt.disarmed then State.fireN k (r.state.disarm 196) 196 0 else r.state
    match r.posted with
    | .full => if src = 99 then s else State.fireN k s 99 0
    | .bad n a => State.fireN k (s.haltRing n .badAddress a) 96 0
    | _ => s

/-- Fires a source with a detail word (R253). Source 196, then 99, then 96 twice is the deepest that one firing reaches. -/
def State.fireD (s : State) (src detail : Nat) : State := State.fireN 5 s src detail

/-- Fires a source with detail 0. -/
def State.fire (s : State) (src : Nat) : State := s.fireD src 0

/-- Fires a source that stays silent until a read re-arms it. -/
def State.fireOnce (s : State) (src : Nat) : State :=
  if src ∈ s.evt.disarmed then s
  else (s.disarm src).fire src

/-- Re-arms a source. -/
def State.rearm (s : State) (src : Nat) : State :=
  { s with evt := { s.evt with disarmed := s.evt.disarmed.filter (· ≠ src) } }

/-- The source 320 + 32f + j of field die f. -/
def dieSource (f j : Nat) : Nat := 320 + 32 * f + j

/-- Halts a ring (R239) and raises source 96. -/
def State.halt (s : State) (n : Nat) (st : Status) (addr : Nat) : State := (s.haltRing n st addr).fire 96

/-- What follows from a record: its ring type's source where the ring is full (R250), a halt where its access is not allowed
(R239). -/
def State.afterPost (s : State) (typ : Nat) (p : Posted) : State :=
  match p with
  | .full =>
    match typ with
    | 2 => s.fire 98
    | 4 => s.fire 99
    | 5 => s.fire 102
    | 6 => s.fire 103
    | _ => s
  | .bad n a => s.halt n .badAddress a
  | _ => s

/-- A record that falls due: written, or discarded. -/
def State.record (s : State) (n typ : Nat) (bytes : List Byte) : State :=
  (s.post n typ bytes).1.afterPost typ (s.post n typ bytes).2

/-! ### The error log (R249, R310 to R312) -/

/-- A LOG record. -/
def LogEntry.bytes (e : LogEntry) : List Byte :=
  leBytes 1 e.code ++ leBytes 2 e.unit ++ leBytes 1 (bit e.nested + 2 * bit e.uncorrectable + 4 * bit e.fenced)
    ++ leBytes 4 e.seq ++ leBytes 8 e.stamp ++ leBytes 8 e.addr ++ leBytes 4 e.detail ++ [0, 0, 0, 0]

/-- Stores an entry, or counts it in LOST when all 64 are in use. -/
def State.storeLog (s : State) (e : LogEntry) : State :=
  match Tbl.lowestFree s.safe.log 64 0 with
  | some i =>
    ({ s with safe := { s.safe with log := Tbl.put s.safe.log i e } }).put Reg.SAFE.LOG_CTL.IN_USE (s.safe.log.length + 1)
  | none => (s.incSat Reg.SAFE.LOG_CTL.LOST).fireOnce 265

/-- A detected hardware error: its entry, its LOG record, source 263. [DESIGN CHOICE, log entry 130] -/
def State.logError (s : State) (code unit : Nat) (uncorrectable fenced : Bool) (addr detail : Nat) : State :=
  let e : LogEntry := ⟨s.safe.nextSeq, code, unit,
    s.safe.log.any (fun p => p.2.unit = unit) || decide (unit ∈ s.safe.thisCycle), uncorrectable, fenced,
    s.stampNow, addr, detail⟩
  let s := ({ s with safe := { s.safe with nextSeq := (s.safe.nextSeq + 1) % 2 ^ 32 } }).storeLog e
  let s := if s.on Reg.SAFE.LOG_CTL.EN then s.record (s.get Reg.SAFE.LOG_CTL.RING) 6 e.bytes else s
  s.fire 263

/-! ### Access faults (R313) -/

/-- Latches an access fault and fires source 266 once until SAFE.ACCESS_FAULT is read. -/
def State.accessFault (s : State) (off : Nat) (k : AccessKind) (write bar2 : Bool) : State :=
  let a := s.safe.fault
  let a := if a.valid then { a with more := min (a.more + 1) 0x7FFF } else ⟨true, off, k, write, bar2, a.more⟩
  { s with safe := { s.safe with fault := a } }.fireOnce 266

/-- A write rejected as an illegal value. -/
def State.illegal (s : State) (off : Nat) : State := s.accessFault off .illegalValue true false

/-! ### Host accesses (R359, R364 to R369) -/

/-- The field die whose window holds a BAR0 offset (R360). -/
def dieOfOffset (off : Nat) : Option Nat :=
  if 0x01000000 ≤ off ∧ off < 0x02800000 then some ((off - 0x01000000) / 0x00400000) else none

/-- Host accesses reach the part: BOOT_RDY has come and the part is not in Night entry past its commit.
[DEDUCED, log entry 10] -/
def State.hostUp (s : State) : Bool := s.power.phase = .running || s.power.phase = .quiescing

/-- Function h answers: its head is present and not fenced (R359). -/
def State.functionUp (s : State) (h : Nat) : Bool := s.hostUp && s.headUp h

/-- The offset of the field-die window of a die and a block offset in it. -/
def dieOffset (f off : Nat) : Nat := 0x01000000 + f * 0x00400000 + off

/-- A register write that reaches the part: absent dies are unimplemented, writes to a fenced die's window are only
recorded, writes to a die's window are recorded and take effect (R309, R366, R368). -/
def State.hostWriteReg (s : State) (off v : Nat) (effect : State → State) : State :=
  if !s.hostUp then s
  else match dieOfOffset off with
    | none => effect s
    | some f =>
      if !s.present f then s.accessFault off .unimplemented true false
      else
        let s := { s with safe := { s.safe with dieWrites := s.safe.dieWrites ++ [(f, off, v)] } }
        if s.dieFenced f then s else effect s

/-- A write of both words of a 64-bit register in a die's window, in one access. -/
def State.hostWrite64 (s : State) (off v : Nat) (effect : State → State) : State :=
  if !s.hostUp then s
  else match dieOfOffset off with
    | none => effect s
    | some f =>
      if !s.present f then s.accessFault off .unimplemented true false
      else
        let l := [(f, off, v % 2 ^ 32), (f, off + 4, v / 2 ^ 32)]
        let s := { s with safe := { s.safe with dieWrites := s.safe.dieWrites ++ l } }
        if s.dieFenced f then s else effect s

/-- A register read that reaches function h: absent and fenced dies answer Unsupported Request (R366, R368). -/
def State.hostReadReg (s : State) (func off : Nat) (effect : State → State) : State :=
  if !s.functionUp func then s
  else match dieOfOffset off with
    | none => effect s
    | some f =>
      if !s.present f then (s.accessFault off .unimplemented false false).emit (.unsupported func .bar0 off)
      else if s.dieFenced f then (s.accessFault off .locked false false).emit (.unsupported func .bar0 off)
      else effect s

/-- The completion of a register read. -/
def State.readDone (s : State) (func off data : Nat) : State := s.emit (.readDone func .bar0 off data)

/-! ### Commands of CMD rings (R240, R241, R245) -/

/-- The completion record of R245. -/
def cplRecord (c : CmdRef) (st : Status) (attempts result seq : Nat) : List Byte :=
  leBytes 1 st.code ++ leBytes 1 c.op ++ leBytes 1 attempts ++ [0] ++ leBytes 2 c.tag ++ leBytes 2 c.ring ++
    leBytes 4 result ++ leBytes 1 seq ++ [0, 0, 0]

/-- Completes a command: its claim is given back and its record written; a completion that falls due while its CPL
ring is halted is discarded with source 101 (R240). -/
def State.completeX (s : State) (c : CmdRef) (st : Status) (attempts result seq : Nat) : State :=
  let r := s.ring c.cpl
  let s := s.setRing c.cpl { r with claimed := r.claimed - 1 }
  let p := s.post c.cpl 1 (cplRecord c st attempts result seq)
  let s := p.1.afterPost 1 p.2
  if s.on (Reg.RING.CTL.EN c.cpl) && s.get (Reg.RING.CTL.TYPE c.cpl) = 1 && r.halted then s.fire 101 else s

/-- Completes a command that reports no attempts and no sequence number. -/
def State.complete (s : State) (c : CmdRef) (st : Status) (result : Nat) : State := s.completeX c st 0 result 0

/-- The reference of a descriptor of ring n: its completion goes to the CPL ring whose slot was claimed at its start. -/
def State.cmdRef (s : State) (n : Nat) (desc : List Byte) : CmdRef :=
  ⟨n, ((s.ring n).started.head?).getD (s.get (Reg.RING.CTL.PEER n)), leAt desc 0 1, leAt desc 2 2⟩

/-- Ring n has a started command, its descriptor next in ring order, to execute (R240). -/
def State.cmdDue (s : State) (n : Nat) : Bool :=
  s.up && !(s.ring n).started.isEmpty && (s.ring n).sending.isNone && !(s.ring n).halted

/-- The consumer index passes one descriptor and writes itself to the doorbell slot (R233, R236); the index of a ring enabled
since the command was started stays (R232). [DEDUCED, log entry 195] -/
def State.passDescriptor (s : State) (n : Nat) : State :=
  let r := s.ring n
  let s := s.setRing n { r with started := r.started.tail, stale := r.stale - 1, sending := none }
  if r.stale = 0 then ((s.postIndex n).1.afterPost 0 (s.postIndex n).2).bump Reg.RING.COMMANDS else s.bump Reg.RING.COMMANDS

/-- Executes the command in front of ring n: the consumer index passes its descriptor, then `effect` acts. -/
def State.runCommand (s : State) (n : Nat) (desc : List Byte) (effect : CmdRef → State → State) : State :=
  if s.cmdDue n then effect (s.cmdRef n desc) (s.passDescriptor n) else s

/-- The outcome of a command whose operands must have the shape of WellFormed.lean. [DESIGN CHOICE, log entry 11] -/
def formed (c : Instr) (t : State) : Host.Outcome State Fault Refusal := if c.wf then .next t else .refused .illFormed

end Sys2Proof.Machine
end

