-- ==== Sys2Proof/Machine/Clock.lean ====
section
/-! DEFINITION. PLLs and clock outputs (R41 to R46): HCLK spread, CLKOUT and SYSREF enables, the phase walk and the
loss of lock. -/

namespace Sys2Proof.Machine

/-- A CLK.HCLK_SS write: DEPTH above 10 and MODE 3 are illegal (R42). The value takes effect at a cycle boundary. -/
def State.hclkSs (s : State) (v : Nat) : State :=
  if bitsAt v 0 2 = 3 ∨ 10 < bitsAt v 2 4 then s.illegal 0x20010
  else (s.put Reg.CLK.HCLK_SS.MODE (bitsAt v 0 2)).put Reg.CLK.HCLK_SS.DEPTH (bitsAt v 2 4)

/-- The spread written takes effect (R42). -/
def State.applyHclkSs (s : State) : State :=
  { s with clk := { s.clk with ssMode := s.get Reg.CLK.HCLK_SS.MODE, ssDepth := s.get Reg.CLK.HCLK_SS.DEPTH } }

/-- HCLK_SS_WRITE. -/
def execHclkSsWrite (v : BitVec 32) (s : State) : Host.Outcome State Fault Refusal :=
  .next (s.hostWriteReg 0x20010 v.toNat fun s => s.hclkSs v.toNat)

/-- Cycles of the 4,915.2 MHz output of the CPLL that one SYSREF pulse takes, its period (R43). -/
def State.sysrefPeriod (s : State) (f n : Nat) : Nat :=
  s.get (Reg.FDIE.CLKOUT_CTL.DIV f n) * 2 ^ s.get (Reg.FDIE.CLKOUT_TIMING.SR_LOG2 f n)

/-- Cycles until a SYSREF that starts now stops: SR_COUNT pulses in gapped mode, one in one-shot mode (R43).
[DESIGN CHOICE, log entry 166] -/
def State.sysrefRun (s : State) (f n : Nat) : Option Nat :=
  match s.get (Reg.FDIE.CLKOUT_CTL.SR_MODE f n) with
  | 0 => none
  | 1 => some (s.get (Reg.FDIE.CLKOUT_CTL.SR_COUNT f n) * s.sysrefPeriod f n)
  | _ => some (s.sysrefPeriod f n)

/-- A list of outputs with k running or not. -/
def withOutput (l : List Nat) (k : Nat) (b : Bool) : List Nat := if b then (if k ∈ l then l else k :: l) else l.filter (· ≠ k)

/-- The clock outputs of die f index n as they now run: started and stopped without runt pulses (R44); a SYSREF that
starts in gapped or one-shot mode counts its pulses. -/
def State.runOutputs (s : State) (f n : Nat) (ck sr : Bool) : State :=
  let k := 8 * f + n
  let left := if sr then (if k ∈ s.clk.srRun then s.clk.srLeft
      else match s.sysrefRun f n with
        | some c => Tbl.put s.clk.srLeft k c
        | none => Tbl.erase s.clk.srLeft k)
    else Tbl.erase s.clk.srLeft k
  let s := { s with clk := { s.clk with
    ckRun := withOutput s.clk.ckRun k ck, srRun := withOutput s.clk.srRun k sr, srLeft := left } }
  s.emitNow (.clkout f n ck sr (s.get (Reg.FDIE.CLKOUT_CTL.DIV f n)) (s.get (Reg.FDIE.CLKOUT_TIMING.SR_LOG2 f n)))

/-- A gapped or one-shot SYSREF over a span of CPLL cycles: it stops after its last pulse (R43).
[DESIGN CHOICE, log entry 166] -/
def State.runPulses (s : State) (cycles k : Nat) : State :=
  match Tbl.find? s.clk.srLeft k with
  | some c =>
    if c ≤ cycles then s.runOutputs (k / 8) (k % 8) (decide (k ∈ s.clk.ckRun)) false
    else { s with clk := { s.clk with srLeft := Tbl.put s.clk.srLeft k (c - cycles) } }
  | none => s

/-- Whether a CLKOUT_CTL value is illegal: SR_MODE 3, DIV below 2, SR_COUNT 0, or DIV or SR_MODE changed while its
output is enabled (R43, R46). [DEDUCED, log entry 165] -/
def State.clkoutCtlIllegal (s : State) (f n v : Nat) : Bool :=
  bitsAt v 2 2 = 3 || bitsAt v 4 10 < 2 || bitsAt v 16 16 = 0
  || (s.on (Reg.FDIE.CLKOUT_CTL.CK_EN f n) && bitsAt v 4 10 ≠ s.get (Reg.FDIE.CLKOUT_CTL.DIV f n))
  || (s.on (Reg.FDIE.CLKOUT_CTL.SR_EN f n) && bitsAt v 2 2 ≠ s.get (Reg.FDIE.CLKOUT_CTL.SR_MODE f n))

/-- A CLKOUT_CTL write (R43, R44, R46): an enable written from 0 to 1 starts its output, one written 0 stops it.
[DESIGN CHOICE, log entry 164] -/
def State.clkoutCtl (s : State) (f n v : Nat) : State :=
  if s.clkoutCtlIllegal f n v then s.illegal (dieOffset f (0x200 + n * 0x10))
  else
    let k := 8 * f + n
    let ck := bitsAt v 0 1 = 1 && (!s.on (Reg.FDIE.CLKOUT_CTL.CK_EN f n) || k ∈ s.clk.ckRun)
    let sr := bitsAt v 1 1 = 1 && (!s.on (Reg.FDIE.CLKOUT_CTL.SR_EN f n) || k ∈ s.clk.srRun)
    let s := s.put (Reg.FDIE.CLKOUT_CTL.CK_EN f n) (bitsAt v 0 1)
    let s := s.put (Reg.FDIE.CLKOUT_CTL.SR_EN f n) (bitsAt v 1 1)
    let s := s.put (Reg.FDIE.CLKOUT_CTL.SR_MODE f n) (bitsAt v 2 2)
    let s := s.put (Reg.FDIE.CLKOUT_CTL.DIV f n) (bitsAt v 4 10)
    let s := s.put (Reg.FDIE.CLKOUT_CTL.SR_COUNT f n) (bitsAt v 16 16)
    s.runOutputs f n ck sr

/-- CLKOUT_CTL_WRITE. -/
def execClkoutCtlWrite (f : Fin 6) (n : Fin 8) (v : BitVec 32) (s : State) : Host.Outcome State Fault Refusal :=
  .next (s.hostWriteReg (dieOffset f (0x200 + n * 0x10)) v.toNat fun s => s.clkoutCtl f n v.toNat)

/-- A CLKOUT_TIMING write (R45, R46): the walk to the new PHASE starts and MOVING reads 1 until it ends.
[DEDUCED, log entry 165] -/
def State.clkoutTiming (s : State) (f n v : Nat) : State :=
  let lg := bitsAt v 17 5
  if lg < 5 ∨ 20 < lg ∨ (s.on (Reg.FDIE.CLKOUT_CTL.SR_EN f n) ∧ lg ≠ s.get (Reg.FDIE.CLKOUT_TIMING.SR_LOG2 f n)) then
    s.illegal (dieOffset f (0x204 + n * 0x10))
  else
    let s := s.put (Reg.FDIE.CLKOUT_TIMING.SR_LOG2 f n) lg
    let s := s.put (Reg.FDIE.CLKOUT_TIMING.PHASE f n) (bitsAt v 0 16)
    s.put (Reg.FDIE.CLKOUT_TIMING.MOVING f n) (bit (Tbl.getD s.clk.phaseNow (8 * f + n) 0 ≠ bitsAt v 0 16))

/-- PHASE_WRITE. -/
def execPhaseWrite (f : Fin 6) (n : Fin 8) (v : BitVec 32) (s : State) : Host.Outcome State Fault Refusal :=
  .next (s.hostWriteReg (dieOffset f (0x204 + n * 0x10)) v.toNat fun s => s.clkoutTiming f n v.toNat)

/-- One step at a time toward a goal: where n steps lead. -/
def walkTo (now goal n : Nat) : Nat := if now ≤ goal then min goal (now + n) else max goal (now - n)

/-- The phase walk of one output over so many reference cycles, one 3.179 ps step each (R45). -/
def State.walkPhase (s : State) (cycles f n : Nat) : State :=
  if s.on (Reg.FDIE.CLKOUT_TIMING.MOVING f n) then
    let goal := s.get (Reg.FDIE.CLKOUT_TIMING.PHASE f n)
    let p := walkTo (Tbl.getD s.clk.phaseNow (8 * f + n) 0) goal cycles
    let s := { s with clk := { s.clk with phaseNow := Tbl.put s.clk.phaseNow (8 * f + n) p } }
    s.put (Reg.FDIE.CLKOUT_TIMING.MOVING f n) (bit (p ≠ goal))
  else s

/-- The phase walks of every output of the part. -/
def State.walkPhases (s : State) (cycles : Nat) : State :=
  s.each (List.range 48) fun s k => s.walkPhase cycles (k / 8) (k % 8)

/-- The SYSREF outputs over a span of reference cycles of 120 CPLL cycles each (R41). -/
def State.sysrefSpan (s : State) (cycles : Nat) : State :=
  s.each (s.clk.srLeft.map (·.1)) fun s k => s.runPulses (120 * cycles) k

/-- A CPLL loss of lock stops every CLKOUT and SYSREF of the die cleanly and raises source 2 (R44). -/
def State.cpllLoss (s : State) (f : Nat) : State :=
  (s.each (List.range 8) fun s n => s.runOutputs f n false false).fire 2

/-- CPLL_LOSS_OF_LOCK. -/
def execCpllLossOfLock (f : Fin 6) (s : State) : Host.Outcome State Fault Refusal :=
  .next (s.when (s.logicUp && s.dieUp f) fun s => s.cpllLoss f)

end Sys2Proof.Machine
end

