-- ==== Sys2Proof/Machine/Flags.lean ====
section
/-! DEFINITION. Status flags and counters kept in register fields: sticky flags that a write of 1 clears, flags raised
with their event, in-use counts with their peaks, and the level and capacity readings other units test. -/

namespace Sys2Proof.Machine

/-- A written 1 clears a W1C field. -/
def State.w1c (s : State) (f : Fld) (v : Nat) : State := if v = 1 then s.put f 0 else s

/-- Sets a flag and raises the event of die f. -/
def State.raise (s : State) (flag : Fld) (f j : Nat) : State := (s.put flag 1).fire (dieSource f j)

/-- Shows a count in an IN_USE field and keeps its PEAK. -/
def State.showUse (s : State) (use peak : Fld) (n : Nat) : State := (s.put use n).put peak (max n (s.get peak))

/-- A counting bit with a read that reloads the peak with the count. -/
def State.reloadPeak (s : State) (use peak : Fld) : State := s.put peak (s.get use)

/-- Level code of field die f in force: 0 Noon, 1 Afternoon, 2 Evening (R316). -/
def State.fieldLevel (s : State) (f : Nat) : Nat := bitsAt (s.get Reg.PWR.LEVEL_STATUS.NOW) (2 + 2 * f) 2

/-- Level whose capacity applies on field die f: during a glide the lower one (R318). -/
def State.capLevel (s : State) (f : Nat) : Nat :=
  match s.power.change with
  | some c => if c.stage = .glide then max (s.fieldLevel f) (bitsAt c.target (2 + 2 * f) 2) else s.fieldLevel f
  | none => s.fieldLevel f

/-- FCLK in units of 6.4 MHz at a level: 1,228.8, 921.6 or 614.4 MHz (R16). -/
def fclkUnits (level : Nat) : Nat := if level = 0 then 192 else if level = 1 then 144 else 96

/-- Contexts that may have W_EN set at a level (R127). -/
def wLimit (level : Nat) : Nat := if level = 0 then 128 else if level = 1 then 96 else 64

/-- Latches cause k of R314 in SAFE.FAULT_CTL. -/
def State.latchCause (s : State) (k : Nat) : State :=
  s.put Reg.SAFE.FAULT_CTL.CAUSE (s.get Reg.SAFE.FAULT_CTL.CAUSE ||| 2 ^ k)

end Sys2Proof.Machine
end

