-- ==== Sys2Proof/Machine/Time.lean ====
section
/-! DEFINITION. The time unit (R47 to R60, R63): loading the counter, mesh slots, the measurement of references, the
selector's switches and the time registers. -/

namespace Sys2Proof.Machine

/-- MSC by the formula of R51. -/
def State.mscNow (s : State) : Nat := ((s.meshNs / 2000000) % (2 ^ 48 : Nat)).toNat

/-- X is in the future of MSC (R53). -/
def mscFuture (x msc : Nat) : Bool := 1 ≤ (x + 2 ^ 48 - msc) % 2 ^ 48 && (x + 2 ^ 48 - msc) % 2 ^ 48 ≤ 2 ^ 47 - 1

/-- Counter time in ns without the part's own slew. -/
def State.unslewed (s : State) : Int := (s.counterNs : Int) - s.time.slewAcc / (2 ^ 32 : Nat)

/-- A counter instant moved by d ns. -/
def shiftNs (t : Nat) (d : Int) : Nat := (((t : Int) + d) % (counterSpan : Int)).toNat

/-- What the counter leads a reference by now, ns: its phase and the slew applied. -/
def State.lead (s : State) (r : RefState) : Option Int := r.phase.map (· + s.time.slewAcc / (2 ^ 32 : Nat))

/-- A reference's measurements when the counter is moved by delta ns at a load. [DEDUCED, log entry 22] -/
def RefState.shift (r : RefState) (delta : Int) : RefState :=
  { r with phase := r.phase.map (· + delta), prevPhase := r.prevPhase.map (· + delta) }

/-- Moves MSC to the grid, as a load or a new offset does. [DEDUCED, log entry 18] -/
def State.setMsc (s : State) (m : Nat) : State := { s with time := { s.time with msc := m, lastCycle := some m } }

/-- The instants a broadcast chain holds when the counter is moved by d ns. [DEDUCED, log entry 22] -/
def BcastRun.shift (r : BcastRun) (d : Int) : BcastRun :=
  { r with lostAt := r.lostAt.map (shiftNs · d), dwellAt := shiftNs r.dwellAt d, nullAt := r.nullAt.map (shiftNs · d),
           gaps := r.gaps.map fun (p : Nat × Nat) => (shiftNs p.1 d, shiftNs p.2 d) }

/-- Loads the counter (R48); nothing but the time moves, and MSC follows the grid (R51).
[DEDUCED, log entries 18, 22] -/
def State.loadTime (s : State) (sec ns : Nat) : State :=
  let d : Int := (sec * 1000000000 + ns : Nat) - (s.counterNs : Int)
  let chains := s.bcast.map fun p => (p.1, p.2.shift d)
  let s := { s with bcast := chains, time := { s.time with
    sec := sec % 2 ^ 48, ns := ns, frac := 0, pps := s.time.pps.shift d, ptp := s.time.ptp.shift d,
    dab := s.time.dab.shift d, fm := s.time.fm.shift d, lastPps := s.time.lastPps.map (· + d),
    lastNull := s.time.lastNull.map (· + d),
    ppsTod := s.time.ppsTod.map fun (p : Nat × Nat) => (p.1, shiftNs p.2 d) } }
  s.setMsc s.mscNow

/-- Adds reference cycles to the counter (R47). -/
def TimeUnit.advance (t : TimeUnit) (cycles : Nat) : TimeUnit :=
  let f := t.frac + cycles * t.addend
  let n := t.ns + f / 2 ^ 32
  { t with frac := f % 2 ^ 32, ns := n % 1000000000, sec := (t.sec + n / 1000000000) % 2 ^ 48,
           slewAcc := t.slewAcc + ((cycles * t.addend : Nat) : Int) - ((cycles * t.base : Nat) : Int) }

/-- A TIME.SET write with GO (R48): accepted at quality 0b11 and with nanoseconds below 10^9, else BAD_FIELD.
[DEDUCED, log entry 21] -/
def State.timeSetGo (s : State) (ns sec : Nat) : State :=
  if s.quality = 3 ∧ ns < 1000000000 then
    (((s.loadTime sec ns).put Reg.TIME.REF_STATUS.QUALITY 2).put Reg.TIME.CTL.LAST_WR Status.done.code).fire 41
  else ((s.put Reg.TIME.CTL.LAST_WR Status.badField.code).illegal 0x3003C).fire 41

/-- TIME_SET. The 128 bits of TIME.SET as written, its highest word last. -/
def execTimeSet (v : BitVec 128) (s : State) : Host.Outcome State Fault Refusal :=
  .next (s.hostWriteReg 0x3003C (bitsAt v.toNat 96 32) fun s =>
    let s := (s.put Reg.TIME.SET.NS (bitsAt v.toNat 0 30)).put Reg.TIME.SET.SEC (bitsAt v.toNat 32 48)
    if bitsAt v.toNat 127 1 = 1 then s.timeSetGo (bitsAt v.toNat 0 30) (bitsAt v.toNat 32 48) else s)

/-- A TIME.MESH_OFFSET write (R54). -/
def State.meshOffsetWrite (s : State) (v : Nat) : State :=
  if s.quality = 3 ∧ (-48000000 : Int) ≤ signedOf 27 (v % 2 ^ 27) ∧ signedOf 27 (v % 2 ^ 27) ≤ 48000000 then
    let s := (s.put Reg.TIME.MESH_OFFSET.OFFSET v).put Reg.TIME.CTL.LAST_WR Status.done.code
    s.setMsc s.mscNow
  else (s.put Reg.TIME.CTL.LAST_WR Status.badField.code).illegal 0x30050

/-- MESH_OFFSET_WRITE. -/
def execMeshOffsetWrite (v : BitVec 32) (s : State) : Host.Outcome State Fault Refusal :=
  .next (s.hostWriteReg 0x30050 v.toNat fun s => s.meshOffsetWrite v.toNat)

/-- The 128 bits of TIME.NOW (R47, R49). [DEDUCED, log entry 20] -/
def State.timeNow (s : State) : Nat :=
  s.time.ns + s.quality * 2 ^ 30 + s.time.sec * 2 ^ 32 + s.time.frac / 2 ^ 16 * 2 ^ 80

/-- TIME_NOW_READ. The low word is returned and bits [127:32] are latched. -/
def execTimeNowRead (func : Fin 2) (s : State) : Host.Outcome State Fault Refusal :=
  .next (s.hostReadReg func 0x30010 fun s =>
    ({ s with time := { s.time with nowLatch := some (s.timeNow / 2 ^ 32) } }).readDone func 0x30010 (s.timeNow % 2 ^ 32))

/-- The 64 bits of TIME.MSC (R51). [DEDUCED, log entry 20] -/
def State.mscReg (s : State) : Nat := s.time.msc + s.time.msc % 48 * 2 ^ 48

/-- MSC_READ. The low word is returned and bits [63:32] are latched. -/
def execMscRead (func : Fin 2) (s : State) : Host.Outcome State Fault Refusal :=
  .next (s.hostReadReg func 0x30060 fun s =>
    ({ s with time := { s.time with mscLatch := some (s.mscReg / 2 ^ 32) } }).readDone func 0x30060 (s.mscReg % 2 ^ 32))

/-! ### References -/

/-- Reference r of R56: 1 PPS, 2 PTP, 3 DAB, 4 FM. -/
def TimeUnit.ref (t : TimeUnit) : Nat → RefState
  | 1 => t.pps
  | 2 => t.ptp
  | 3 => t.dab
  | _ => t.fm

/-- Replaces reference r. -/
def TimeUnit.setRef (t : TimeUnit) (i : Nat) (r : RefState) : TimeUnit :=
  match i with
  | 1 => { t with pps := r }
  | 2 => { t with ptp := r }
  | 3 => { t with dab := r }
  | _ => { t with fm := r }

/-- Rank in force of reference r, 0 when it is disabled (R56). -/
def TimeUnit.rank (t : TimeUnit) (r : Nat) : Nat := t.ranks.getD (r - 1) 0

/-- Absolute value within a bound. -/
def within (x : Int) (b : Nat) : Bool := -(b : Int) ≤ x && x ≤ (b : Int)

/-- Updates a reference. -/
def State.updRef (s : State) (i : Nat) (f : RefState → RefState) : State :=
  { s with time := s.time.setRef i (f (s.time.ref i)) }

/-- A PPS_IN rising edge (R56): it must stand within 1 µs of one second after the edge before, and TIME.PPS_TOD must
have been written at least 100 ms before it; the edge consumes it. -/
def State.ppsRise (s : State) : State :=
  let t := s.time
  let now := s.unslewed
  let onTime := match t.lastPps with
    | some l => within (now - l - 1000000000) 1000
    | none => true
  let fresh := match t.ppsTod with
    | some (_, w) => 100000000 ≤ s.nsSince w
    | none => false
  let ok := onTime && fresh
  let ph := match t.ppsTod with
    | some (tod, _) => if fresh then some (now - (tod * 1000000000 : Nat)) else t.pps.phase
    | none => t.pps.phase
  let r := { t.pps with phase := ph, cycleOk := some (ok && t.pps.cycleOk ≠ some false) }
  let s := { s with time := { t with pps := r, lastPps := some now, ppsTod := none } }
  if fresh then s else s.fire 40

/-- PPS_EDGE. -/
def execPpsEdge (rising : Bool) (s : State) : Host.Outcome State Fault Refusal :=
  .next (s.when (s.logicUp && rising) State.ppsRise)

/-! ### Switching (R57 to R60) -/

/-- Qualified references that are not FAR, best rank first. -/
def TimeUnit.candidates (t : TimeUnit) (far : Bool) : List Nat :=
  sortBy (fun a b => decide (t.rank a ≤ t.rank b))
    ([1, 2, 3, 4].filter fun r => t.rank r ≠ 0 && (t.ref r).qualified && (t.ref r).far = far)

/-- The slew that removes the phase difference to a reference, 2^-32 ns, from where the counter stands now (R58, R59); none
for the FM pilot and holdover, which give no phase. -/
def State.phaseGoal (s : State) (r : Nat) : Int :=
  if r = 4 ∨ r = 0 then 0
  else match (s.time.ref r).phase with
    | some p => -(p * (2 ^ 32 : Nat) + s.time.slewAcc)
    | none => 0

/-- The 200 ppm of the addend, 2^-32 ns (R58). -/
def slew200ppm : Nat := 20971520

/-- Reference cycles in the settle window of 8 mesh cycles, 768 ms (R58). -/
def settleCycles : Nat := 31457280

/-- The constant rate that removes a phase difference over the settle window, at most 200 ppm (R58); only the rounding of
the rate is open. [DESIGN CHOICE, log entry 15] -/
def State.slewRate (s : State) (goal : Int) : Int :=
  let q := goal.natAbs / settleCycles
  let q := min slew200ppm (if goal.natAbs % settleCycles ≠ 0 ∧ Config.roundUp s.free then q + 1 else q)
  if 0 ≤ goal then q else -(q : Int)

/-- The addend a reference's frequency gives: the FM pilot's as measured (R60, R187), its rounding open; of the others how
the servo finds it is open. [DESIGN CHOICE, log entry 14] -/
def State.refAddend (s : State) (r : Nat) : Nat :=
  match r, s.time.fm.freq with
  | 4, some n => (n / 1000000000 + (if n % 1000000000 ≠ 0 ∧ Config.roundUp s.free then 1 else 0)) % 2 ^ 40
  | _, _ => Config.servoAddend s.free % 2 ^ 40

/-- A slew that was forced has ended. [DESIGN CHOICE, log entry 171] -/
def State.forcedEnds (s : State) : State := if s.time.forced then s.put Reg.TIME.CTL.FORCE_SLEW 0 else s

/-- Begins, or retargets, a switch to reference r (R58, R59): the reference's frequency is taken, and the phase difference
from where the counter stands goes at a constant rate over 8 cycles. [DESIGN CHOICE, log entry 15] -/
def State.switchTo (s : State) (r : Nat) (retarget : Bool) : State :=
  let goal := s.phaseGoal r
  let base := s.refAddend r
  let add := ((base : Int) + s.slewRate goal).toNat
  let s := s.forcedEnds.spend 1
  let s := { s with time := { s.time with base := base, addend := add, slewGoal := goal, slewFrom := s.time.slewAcc,
                                          forced := false, dabMoved := s.time.dabMoved && r ≠ 3 } }
  let s := s.put Reg.TIME.REF_STATUS.TARGET r
  let s := s.put Reg.TIME.REF_STATUS.SWITCHING 1
  let s := s.put Reg.TIME.REF_STATUS.SETTLE_LEFT 8
  let s := s.put Reg.TIME.REF_STATUS.QUALITY 1
  s.fire (if retarget then 36 else 34)

/-- The first selection while quality is 0b11: the reference's time is loaded, no slew (R48).
[DESIGN CHOICE, log entry 167] -/
def State.firstLoad (s : State) (r : Nat) : State :=
  let s := match s.lead (s.time.ref r) with
    | some ph => let c := (s.counterNs : Int) - ph
                 s.loadTime (c.toNat / 1000000000) (c.toNat % 1000000000)
    | none => s
  let s := s.put Reg.TIME.REF_STATUS.SELECTED r
  let s := s.put Reg.TIME.REF_STATUS.QUALITY (if r = 4 then 2 else 0)
  s.fire 41

/-- The mean of the addends of the last 64 cycles before the loss, without the last 2 (R60); its rounding is open.
[DESIGN CHOICE, log entry 23] -/
def State.holdoverAddend (s : State) : Nat :=
  let h := (s.time.history.drop 2).take 64
  if h.isEmpty then s.time.base
  else
    let sum := h.foldl (· + ·) 0
    sum / h.length + (if sum % h.length ≠ 0 ∧ Config.roundUp s.free then 1 else 0)

/-- Holdover is entered (R60). [DESIGN CHOICE, log entries 23, 169] -/
def State.enterHoldover (s : State) : State :=
  let a := s.holdoverAddend
  let s := s.forcedEnds.spend 1
  let s := { s with time := { s.time with base := a, addend := a, slewGoal := 0, forced := false } }
  let s := s.put Reg.TIME.REF_STATUS.SELECTED 0
  let s := s.put Reg.TIME.REF_STATUS.TARGET 0
  let s := s.put Reg.TIME.REF_STATUS.SWITCHING 0
  let s := s.put Reg.TIME.REF_STATUS.SETTLE_LEFT 0
  let s := s.put Reg.TIME.REF_STATUS.QUALITY 2
  s.fire 37

/-- Whether the switch in progress has ended: its settle window is over, or a forced slew has removed the phase. -/
def State.settled (s : State) : Bool :=
  s.on Reg.TIME.REF_STATUS.SWITCHING &&
  (if s.time.forced then (s.time.slewGoal.natAbs ≤ (s.time.slewAcc - s.time.slewFrom).natAbs)
   else s.get Reg.TIME.REF_STATUS.SETTLE_LEFT = 0)

/-- The end of a switch (R58): the target is selected and quality returns to 0b00, or 0b10 for the FM pilot (R49). -/
def State.switchDone (s : State) : State :=
  let r := s.get Reg.TIME.REF_STATUS.TARGET
  let s := s.forcedEnds
  let s := { s with time := { s.time with addend := s.time.base, slewGoal := 0, forced := false } }
  let s := s.put Reg.TIME.REF_STATUS.SELECTED r
  let s := s.put Reg.TIME.REF_STATUS.TARGET 0
  let s := s.put Reg.TIME.REF_STATUS.SWITCHING 0
  let s := s.put Reg.TIME.REF_STATUS.QUALITY (if r = 4 then 2 else 0)
  s.fire 35

/-- SWITCH_COMPLETE. -/
def execSwitchComplete (s : State) : Host.Outcome State Fault Refusal :=
  .next (s.when (s.logicUp && s.settled) State.switchDone)

/-- FORCE_SLEW begins the slew to the best FAR reference at 200 ppm (R58). -/
def State.forceSlewTo (s : State) (r : Nat) : State :=
  let goal := s.phaseGoal r
  let s := s.switchTo r false
  let s := { s with time := { s.time with
    forced := true, slewGoal := goal,
    addend := if 0 ≤ goal then s.time.base + slew200ppm else s.time.base - slew200ppm } }
  s.put Reg.TIME.CTL.FORCE_SLEW 1

/-- The slew that FORCE_SLEW asks for begins, when no switch is in progress and some reference is FAR.
[DESIGN CHOICE, log entry 171] -/
def State.tryForce (s : State) : Option State :=
  if s.on Reg.TIME.REF_STATUS.SWITCHING then none else (s.time.candidates true).head?.map s.forceSlewTo

/-- A write of TIME.CTL.FORCE_SLEW as 1 (R58): the bit is set, and stays set until a slew that it asked for has completed;
one that cannot begin now is tried again at every mesh cycle boundary. [DESIGN CHOICE, log entry 171] -/
def State.forceSlew (s : State) : State := (s.put Reg.TIME.CTL.FORCE_SLEW 1).tryForce.getD (s.put Reg.TIME.CTL.FORCE_SLEW 1)

/-- FORCE_SLEW. -/
def execForceSlew (s : State) : Host.Outcome State Fault Refusal :=
  .next (s.hostWriteReg 0x30000 2 State.forceSlew)

/-- A third consecutive calibration failure raises source 39 and marks the die's timestamps (R63). -/
def State.calibrationFault (s : State) (f : Nat) : State :=
  ({ s with time := { s.time with calMarked := f :: s.time.calMarked } }).fire 39

/-- CALIBRATION_FAULT. -/
def execCalibrationFault (f : Fin 6) (s : State) : Host.Outcome State Fault Refusal :=
  .next (s.when (s.logicUp && 3 ≤ Tbl.getD s.time.calFails f 0 && f.val ∉ s.time.calMarked) fun s => s.calibrationFault f)

/-- The slot's Ittetur calibration (R62, R63): a die that failed keeps its delay and counts, each other one takes half of
the round trip measured. [DEDUCED, log entry 173] -/
def State.calibrateDies (s : State) (failed : List (Fin 6)) (trips : List (Fin 6 × Nat)) : State :=
  s.each s.diesUp fun s f =>
    let t := s.time
    if failed.any (fun x => x.val = f) then
      { s with time := { t with calFails := Tbl.put t.calFails f (Tbl.getD t.calFails f 0 + 1) } }
    else
      { s with time := { t with
        calFails := Tbl.erase t.calFails f, calMarked := t.calMarked.filter (· ≠ f)
        trips := match trips.find? fun x => x.1.val = f with
          | some x => Tbl.put t.trips f x.2
          | none => t.trips } }

/-- How far the counter of field die f is from the time the head sends it, ps: half the round trip (R62).
[DEDUCED, log entry 173] -/
def State.dieDelay (s : State) (f : Nat) : Nat := Tbl.getD s.time.trips f 0 / 2

/-- FPLL of field die f glides to another rate (R318). -/
def State.gliding (s : State) (f : Nat) : Bool :=
  s.power.change.any fun c => c.stage = .glide && bitsAt c.target (2 + 2 * f) 2 ≠ s.fieldLevel f

/-- The time selected for a record of field die f: quality 0b01 while the die is marked (R63). -/
def State.dieQuality (s : State) (f : Nat) : Nat := if f ∈ s.time.calMarked || s.gliding f then 1 else s.quality

/-! ### The end of a cycle (R56 to R60) -/

/-- The verdict of the cycle for a reference (R56). PPS without an edge is good while no second has been missed. -/
def State.cycleGood (s : State) (i : Nat) : Bool :=
  match (s.time.ref i).cycleOk with
  | some b => b
  | none =>
    if i = 1 then
      match s.time.lastPps with
      | some l => s.unslewed - l ≤ 1000001000
      | none => false
    else false

/-- A switch away from phases beyond 153.6 µs is not made: FAR (R58). -/
def State.isFar (s : State) (r : RefState) : Bool :=
  match s.lead r with
  | some p => !within p 153600
  | none => false

/-- Judges reference i at the end of a cycle: sixteen good cycles qualify it, three bad ones disqualify it. A
qualified reference with time valid whose phase is beyond 153.6 µs is marked FAR.
[DEDUCED, log entry 16; DESIGN CHOICE, log entry 168] -/
def State.judge (s : State) (i : Nat) : State :=
  if s.time.rank i = 0 then s.updRef i fun r => { r with good := false, goodRun := 0, badRun := 0, qualified := false,
                                                         far := false, cycleOk := none }
  else
    let g := s.cycleGood i
    let r := s.time.ref i
    let gr := if g then min (r.goodRun + 1) 16 else 0
    let br := if g then 0 else min (r.badRun + 1) 3
    let q := if r.qualified then br < 3 else 16 ≤ gr
    let far := q && i ≠ 4 && s.quality ≠ 3 && s.isFar r
    let s' := s.updRef i fun r => { r with good := g, goodRun := gr, badRun := br, qualified := q, far := far,
                                           cycleOk := none }
    let s' := if q && !r.qualified then s'.fireD 32 i else s'
    let s' := if !q && r.qualified then s'.fireD 33 i else s'
    if far && !r.far then s'.fireD 38 i else s'

/-- TIME.REF_STATUS.PER_REF (R61 register). -/
def State.showRefs (s : State) : State :=
  let n (i : Nat) : Nat := bit (s.time.ref i).good + 2 * bit (s.time.ref i).qualified + 4 * bit (s.time.ref i).far
  s.put Reg.TIME.REF_STATUS.PER_REF (n 1 + 16 * n 2 + 256 * n 3 + 4096 * n 4)

/-- The rank of the reference in a register code, 5 for none or holdover. -/
def TimeUnit.rankOf (t : TimeUnit) (r : Nat) : Nat := if r = 0 then 5 else t.rank r

/-- What the selector does at a boundary (R57 to R60): the first selection loads, a lost reference is left, a better
one is taken while REVERT is 1, a switch in progress is retargeted, and what a new TIMING changed of the selected DAB
reference's phase is slewed away (R192). [DEDUCED, log entries 16, 17, 191; DESIGN CHOICE, log entry 169] -/
def State.select (s : State) : State :=
  let sel := s.get Reg.TIME.REF_STATUS.SELECTED
  let best := ((s.time.candidates false).head?).getD 0
  if s.on Reg.TIME.REF_STATUS.SWITCHING then
    let tgt := s.get Reg.TIME.REF_STATUS.TARGET
    let lost := !(s.time.ref tgt).qualified
    let cands := (s.time.candidates false).filter (· ≠ sel)
    let b := (cands.head?).getD 0
    if lost then (if b = 0 then s.enterHoldover else s.switchTo b true)
    else if b ≠ 0 ∧ s.time.rankOf b < s.time.rankOf tgt then s.switchTo b true
    else s
  else if s.on Reg.TIME.CTL.FORCE_SLEW ∧ s.time.candidates true ≠ [] then s.tryForce.getD s
  else if s.quality = 3 then (if best = 0 then s else s.firstLoad best)
  else if sel = 0 then (if best = 0 then s else s.switchTo best false)
  else if !(s.time.ref sel).qualified then (if best = 0 then s.enterHoldover else s.switchTo best false)
  else if best ≠ 0 ∧ s.on Reg.TIME.REF_PRIO.REVERT ∧ s.time.rankOf best < s.time.rankOf sel then s.switchTo best false
  else if sel = 3 ∧ s.time.dabMoved ∧ !s.time.dab.far then s.switchTo 3 false
  else s

/-- The selected reference disciplines the addend each cycle outside a switch (R47, R60): the frequency taken is open.
[DESIGN CHOICE, log entry 14; DEDUCED, log entry 16] -/
def State.discipline (s : State) : State :=
  if s.get Reg.TIME.REF_STATUS.SELECTED ≠ 0 && !s.on Reg.TIME.REF_STATUS.SWITCHING then
    let a := s.refAddend (s.get Reg.TIME.REF_STATUS.SELECTED)
    let s := s.spend 1
    { s with time := { s.time with base := a, addend := a } }
  else s

/-- The time unit's part of a cycle tick: judge the cycle that ended, then act on it at the boundary.
[DEDUCED, log entry 16] -/
def State.timeCycle (s : State) : State :=
  let s := s.each [1, 2, 3, 4] State.judge
  let s := { s with time := { s.time with history := (s.time.addend :: s.time.history).take 66 } }
  let s := if s.on Reg.TIME.REF_STATUS.SWITCHING && !s.time.forced then
      s.put Reg.TIME.REF_STATUS.SETTLE_LEFT (s.get Reg.TIME.REF_STATUS.SETTLE_LEFT - 1) else s
  let s := { s with time := { s.time with ranks := [s.get Reg.TIME.REF_PRIO.PPS_RANK, s.get Reg.TIME.REF_PRIO.PTP_RANK,
                                                    s.get Reg.TIME.REF_PRIO.DAB_RANK, s.get Reg.TIME.REF_PRIO.FM_RANK] } }
  s.discipline.select.showRefs

end Sys2Proof.Machine
end

