-- ==== Sys2Proof/Machine/Bcast.lean ====
section
/-! DEFINITION. The broadcast chains (R184 to R196) with their records (R248): tuning, RDS, PCM, the DAB null and the
phase it gives, FIBs, subchannels, and alternative frequencies. The layouts of RDS groups are those of IEC 62106 and of
FIGs those of EN 300 401, which R186 and R189 name. -/

namespace Sys2Proof.Machine

/-- The chain of field die f. -/
def State.chainB (s : State) (f : Nat) : BcastRun := Tbl.getD s.bcast f .init

/-- Changes the chain of field die f. -/
def State.updB (s : State) (f : Nat) (g : BcastRun → BcastRun) : State :=
  { s with bcast := Tbl.put s.bcast f (g (s.chainB f)) }

/-- The chain of die f runs in a mode: on, not retuning. -/
def State.chainRuns (s : State) (f mode : Nat) : Bool :=
  s.live && s.dieUp f && s.on (Reg.BCAST.CTL.EN f) && s.get (Reg.BCAST.CTL.MODE f) = mode && !(s.chainB f).retuning

/-- The chain of die f feeds a reference: REF is 1 and the chain is in the reference's mode (R185). -/
def State.feeds (s : State) (f mode : Nat) : Bool :=
  s.on (Reg.BCAST.CTL.REF f) && s.on (Reg.BCAST.CTL.EN f) && s.get (Reg.BCAST.CTL.MODE f) = mode

/-! ### Records (R248) -/

/-- A BCS record with PHASE still 0. -/
def bcsRecord (kind flags f valid seq stamp : Nat) (data : List Byte) : List Byte :=
  leBytes 1 kind ++ leBytes 1 flags ++ leBytes 1 f ++ leBytes 1 valid ++ leBytes 4 seq ++ leBytes 8 stamp ++ sliceB data 0 48

/-- The timestamp of an instant of die f so many ns ago (R49, R63). [DEDUCED, log entry 151] -/
def State.stampAgo (s : State) (f back : Nat) : Nat :=
  let t := s.counterNs - back
  stamp64 (t / 1000000000) (t % 1000000000) (s.dieQuality f)

/-- A record of die f for a ring falls due; it takes the next sequence number of that ring. -/
def State.bcs (s : State) (f ring kind flags valid stamp : Nat) (data : List Byte) : State :=
  let q := Tbl.getD (s.chainB f).seqs ring 0
  (s.updB f fun r => { r with seqs := Tbl.put r.seqs ring ((q + 1) % 2 ^ 32) }).record ring 5
    (bcsRecord kind flags f valid q stamp data)

/-- A side-data record falls due, while SIDE_EN is 1. -/
def State.side (s : State) (f kind flags valid stamp : Nat) (data : List Byte) : State :=
  if s.on (Reg.BCAST.RING.SIDE_EN f) then s.bcs f (s.get (Reg.BCAST.RING.SIDE f)) kind flags valid stamp data else s

/-- A stream record falls due, while STREAM_EN is 1. -/
def State.stream (s : State) (f kind flags valid stamp : Nat) (data : List Byte) : State :=
  if s.on (Reg.BCAST.RING.STREAM_EN f) then s.bcs f (s.get (Reg.BCAST.RING.STREAM f)) kind flags valid stamp data else s

/-! ### Tuning (R184) -/

/-- Shows whether an FM chain has neither pilot nor RDS sync, and since when (R193). [DEDUCED, log entry 153] -/
def State.watchFm (s : State) (f : Nat) : State :=
  if s.on (Reg.BCAST.STATUS.SYNC f) || s.on (Reg.BCAST.STATUS.RDS_SYNC f) then s.updB f fun r => { r with lostAt := none }
  else if (s.chainB f).lostAt.isNone then let t := s.counterNs; s.updB f fun r => { r with lostAt := some t }
  else s

/-- Clears pilot lock, RDS sync and DAB sync and ends any dwell. [DEDUCED, log entry 147] -/
def State.clearLocks (s : State) (f : Nat) : State :=
  ((s.put (Reg.BCAST.STATUS.SYNC f) 0).put (Reg.BCAST.STATUS.RDS_SYNC f) 0).put (Reg.BCAST.STATUS.DWELL f) 0

/-- A dwell that begins now. -/
def BcastRun.dwells (r : BcastRun) (d : Dwell) (now : Nat) : BcastRun := { r with dwell := some d, dwellAt := now }

/-- The dwell under way, if any, ends now. -/
def BcastRun.dwellEnds (r : BcastRun) (now : Nat) : BcastRun :=
  if r.dwell.isSome then { r with dwell := none, gaps := ((r.dwellAt, now) :: r.gaps).take 2 } else r

/-- A chain that has acquired nothing at an instant: its dwell has ended, the record numbers go on. -/
def BcastRun.restart (r : BcastRun) (now : Nat) : BcastRun :=
  { BcastRun.init with gaps := (r.dwellEnds now).gaps, seqs := r.seqs }

/-- A retune begins: what was acquired is cleared. A switch keeps the other alternatives, their checks beginning afresh. -/
def State.beginRetune (s : State) (f : Nat) (keep : Bool) : State :=
  let s := s.clearLocks f
  let now := s.counterNs
  let khz := s.get (Reg.BCAST.TUNE.FREQ_KHZ f)
  let s := s.updB f fun r => { r.restart now with
    retuning := true
    alts := if keep then (r.alts.filter (·.khz ≠ khz)).map fun a => { a with good := 0, last := none } else [] }
  s.emitNow (.retune f 6 khz)

/-- A retune by a write forgets the learned identity. [DEDUCED, log entry 148] -/
def State.retune (s : State) (f : Nat) : State :=
  ((s.put (Reg.BCAST.STATUS.ID_VALID f) 0).put (Reg.BCAST.STATUS.ID f) 0).beginRetune f false

/-- A BCAST.TUNE write. [DEDUCED, log entry 148] -/
def State.bcastTuneReg (s : State) (f v : Nat) : State :=
  if 65000 ≤ bitsAt v 0 18 ∧ bitsAt v 0 18 ≤ 240000 then
    let s := s.put (Reg.BCAST.TUNE.FREQ_KHZ f) v
    if s.on (Reg.BCAST.CTL.EN f) then s.retune f else s
  else s.illegal (dieOffset f 0x200004)

/-- Another die has REF set (R185). -/
def State.otherRef (s : State) (f : Nat) : Bool := (List.range 6).any fun g => g ≠ f && s.on (Reg.BCAST.CTL.REF g)

/-- The illegal values of BCAST.CTL. -/
def State.bcastCtlIllegal (s : State) (f v : Nat) : Bool :=
  bitsAt v 6 2 = 3 || bitsAt v 8 8 = 0 || (bitsAt v 2 1 = 1 && s.otherRef f)

/-- A chain that begins or ceases to feed a reference during a cycle has not fed it throughout: that cycle is bad (R185). -/
def State.feedChange (s : State) (f : Nat) (fm dab : Bool) : State :=
  let bad (s : State) (i : Nat) : State := s.updRef i fun r => { r with cycleOk := some false }
  let s := if s.feeds f 0 = fm then s else bad s 4
  if s.feeds f 1 = dab then s else bad s 3

/-- A BCAST.CTL write: a change of MODE retunes a chain that is on, and so does turning it on.
[DEDUCED, log entry 148] -/
def State.bcastCtl (s : State) (f v : Nat) : State :=
  if s.bcastCtlIllegal f v then s.illegal (dieOffset f 0x200000)
  else
    let was := s.on (Reg.BCAST.CTL.EN f)
    let fm := s.feeds f 0
    let dab := s.feeds f 1
    let mode := s.get (Reg.BCAST.CTL.MODE f)
    let s := s.put (Reg.BCAST.CTL.EN f) (bitsAt v 0 1)
    let s := s.put (Reg.BCAST.CTL.MODE f) (bitsAt v 1 1)
    let s := s.put (Reg.BCAST.CTL.REF f) (bitsAt v 2 1)
    let s := s.put (Reg.BCAST.CTL.PCM_EN f) (bitsAt v 3 1)
    let s := s.put (Reg.BCAST.CTL.DEEMPH f) (bitsAt v 4 1)
    let s := s.put (Reg.BCAST.CTL.AF_EN f) (bitsAt v 5 1)
    let s := s.put (Reg.BCAST.CTL.DAB_FOLLOW f) (bitsAt v 6 2)
    let s := (s.put (Reg.BCAST.CTL.INTERVAL f) (bitsAt v 8 8)).feedChange f fm dab
    if bitsAt v 0 1 = 1 then (if !was || mode ≠ bitsAt v 1 1 then s.retune f else s)
    else if was then
      let s := ((s.put (Reg.BCAST.STATUS.ID_VALID f) 0).put (Reg.BCAST.STATUS.ID f) 0).clearLocks f
      let now := s.counterNs
      s.updB f fun r => r.restart now
    else s

/-- BCAST_TUNE. A write of CTL, which holds MODE, or of TUNE. -/
def execBcastTune (f : Fin 6) (ctl : Bool) (v : BitVec 32) (s : State) : Host.Outcome State Fault Refusal :=
  .next (s.hostWriteReg (dieOffset f (if ctl then 0x200000 else 0x200004)) v.toNat fun s =>
    if ctl then s.bcastCtl f v.toNat else s.bcastTuneReg f v.toNat)

/-- BCAST_RETUNE_DONE. -/
def execBcastRetuneDone (f : Fin 6) (s : State) : Host.Outcome State Fault Refusal :=
  .next (s.when (s.live && s.dieUp f && (s.chainB f).retuning) fun s =>
    (s.updB f fun r => { r with retuning := false }).watchFm f)

/-! ### Lock and identity -/

/-- A lock is lost or regained: source 333 + 32f (R196). [DEDUCED, log entry 147] -/
def State.setLock (s : State) (f : Nat) (fld : Fld) (b : Bool) : State :=
  if s.on fld = b then s else ((s.put fld (bit b)).fire (dieSource f 13)).watchFm f

/-- An identity is learned. -/
def State.learnId (s : State) (f id : Nat) : State := (s.put (Reg.BCAST.STATUS.ID f) id).put (Reg.BCAST.STATUS.ID_VALID f) 1

/-- The cycle that ended stood wholly within a dwell of chain f. [DEDUCED, log entry 192] -/
def State.dwelt (s : State) (f : Nat) : Bool :=
  (s.chainB f).dwell.isSome && 96000000 ≤ s.nsSince (s.chainB f).dwellAt

/-- The FM reference over a cycle, of whose pilot the measured frequency error is given where it was locked (R56, R187): good
within 50 ppm, and the frequency gives an addend, taken from the one that the nanoseconds ran by.
[DEDUCED, log entry 192] -/
def State.feedFm (s : State) (milliPpm : Option Int) : State :=
  let a := s.time.addend
  s.updRef 4 fun r => { r with
    cycleOk := some ((milliPpm.any fun p => within p 50000) && r.cycleOk ≠ some false)
    freq := match milliPpm with
      | some p => some (((a : Int) * (1000000000 + p)).toNat)
      | none => r.freq }

/-- The pilot of an FM chain over the cycle that ended, less its dwells (R187): lock when it was present throughout. A cycle
wholly within a dwell changes nothing. [DEDUCED, log entries 153, 192] -/
def State.pilotCycle (s : State) (f : Nat) (milliPpm : Option Int) : State :=
  if s.dwelt f then
    if s.feeds f 0 then s.updRef 4 fun r => { r with cycleOk := some (r.good && r.cycleOk ≠ some false) } else s
  else
    let s := s.setLock f (Reg.BCAST.STATUS.SYNC f) milliPpm.isSome
    if s.feeds f 0 then s.feedFm milliPpm else s

/-! ### Alternatives (R193 to R195) -/

/-- Whether DAB_FOLLOW lets the chain switch, on a loss or without one (R195). -/
def State.mayFollow (s : State) (f : Nat) (loss : Bool) : Bool :=
  if s.on (Reg.BCAST.CTL.REF f) && s.get (Reg.BCAST.CTL.MODE f) = 1 then
    s.get (Reg.BCAST.CTL.DAB_FOLLOW f) = 2 || (loss && s.get (Reg.BCAST.CTL.DAB_FOLLOW f) = 1)
  else true

/-- A new list of alternatives; the same list changes nothing, an alternative that stays keeps its checks. -/
def State.setAlts (s : State) (f : Nat) (ks : List Nat) : State :=
  s.updB f fun r =>
    if r.alts.map (·.khz) = ks then r
    else { r with
      nextAlt := 0
      alts := ks.map fun k => match List.find? (fun (a : AltFreq) => a.khz = k) r.alts with
        | some a => { a with skipped := false }
        | none => ⟨k, 0, none, false⟩ }

/-- A switch may still be made: alternatives are followed, and DAB_FOLLOW lets the chain (R193, R195). -/
def State.maySwitch (s : State) (f : Nat) (loss : Bool) : Bool := s.on (Reg.BCAST.CTL.AF_EN f) && s.mayFollow f loss

/-- The verification of a candidate begins once no other dwell is under way; without a learned identity no switch is
made (R194), nor where following has been turned off. [DEDUCED, log entry 150] -/
def State.startVerify (s : State) (f : Nat) : State :=
  match (s.chainB f).cand, (s.chainB f).dwell with
  | some (k, loss), none =>
    let now := s.counterNs
    if s.on (Reg.BCAST.STATUS.ID_VALID f) && s.maySwitch f loss then
      (s.updB f fun r => { r.dwells (.verify k loss) now with cand := none }).put (Reg.BCAST.STATUS.DWELL f) 1
    else s.updB f fun r => { r with cand := none }
  | _, _ => s

/-- The alternative whose turn it is: the next from nextAlt on that is not skipped. -/
def BcastRun.turn (r : BcastRun) : Option (Nat × AltFreq) :=
  let n := r.alts.length
  ((List.range n).map fun i => (r.nextAlt + i) % n).findSome? fun i =>
    match r.alts[i]? with
    | some a => if a.skipped then none else some (i, a)
    | none => none

/-- A check may start: following is on, INTERVAL cycles have passed, no dwell is under way, and in DAB mode at least 2 ms
have passed since a null end. [DEDUCED, log entry 150] -/
def State.checkDue (s : State) (f : Nat) : Bool :=
  let r := s.chainB f
  s.chainRuns f (s.get (Reg.BCAST.CTL.MODE f)) && s.on (Reg.BCAST.CTL.AF_EN f) && r.dwell.isNone
  && s.get (Reg.BCAST.CTL.INTERVAL f) ≤ r.since
  && (s.get (Reg.BCAST.CTL.MODE f) = 0 || r.nullAt.any fun n => 2000000 ≤ s.nsSince n)

/-- AF_CHECK. -/
def execAfCheck (f : Fin 6) (s : State) : Host.Outcome State Fault Refusal :=
  .next (s.when (s.checkDue f) fun s =>
    match (s.chainB f).turn with
    | some (i, a) =>
      let now := s.counterNs
      ((s.updB f fun r => { r.dwells (.check a.khz) now with nextAlt := i + 1, since := 0 }).put
        (Reg.BCAST.STATUS.DWELL f) 1).bump (Reg.BCAST.AF_CHECKS f)
    | none => s)

/-- The verdict of a check: 6 dB above the tuned frequency or not. -/
def AltFreq.checked (a : AltFreq) (level tuned : Int) (msc : Nat) : AltFreq :=
  { a with good := if tuned + 6 ≤ level then a.good + 1 else 0, last := some (level, msc) }

/-- The end of a check dwell: three consecutive good checks of the alternative make it a candidate.
[DEDUCED, log entry 150] -/
def State.endCheck (s : State) (f khz : Nat) (level tuned : Int) : State :=
  let msc := s.time.msc
  let now := s.counterNs
  let s := s.updB f fun r => { r.dwellEnds now with
    alts := r.alts.map fun a => if a.khz = khz then a.checked level tuned msc else a }
  let s := (s.put (Reg.BCAST.STATUS.DWELL f) 0).put (Reg.BCAST.STATUS.LEVEL f)
    (fieldOf 8 (max (-128) (min 127 tuned)))
  let won := (s.chainB f).alts.any fun a => a.khz = khz && 3 ≤ a.good && !a.skipped
  let s := if won && s.maySwitch f false && (s.chainB f).cand.isNone then
      s.updB f fun r => { r with cand := some (khz, false) } else s
  s.startVerify f

/-- AF_DWELL_END. -/
def execAfDwellEnd (f : Fin 6) (level tuned : Int) (s : State) : Host.Outcome State Fault Refusal :=
  .next (match (s.chainB f).dwell with
    | some (.check k) => s.when (s.live && s.dieUp f) fun s => s.endCheck f k level tuned
    | _ => s)

/-- The tuned frequency is lost (R193): FM without pilot and RDS sync for 1 s, DAB without a null in 3 frames. -/
def State.tunedLost (s : State) (f : Nat) : Bool :=
  if s.get (Reg.BCAST.CTL.MODE f) = 0 then
    match (s.chainB f).lostAt with
    | some t => 1000000000 ≤ s.nsSince t
    | none => false
  else 3 ≤ (s.chainB f).missed

/-- The best alternative checked within the last 10 s, 5,000 slots; of equals the one earlier in the list.
[DEDUCED, log entry 150] -/
def BcastRun.bestAlt (r : BcastRun) (msc : Nat) : Option AltFreq :=
  let fresh := r.alts.filter fun a => !a.skipped && a.last.any fun l => (msc + 2 ^ 48 - l.2) % 2 ^ 48 ≤ 5000
  let lv (a : AltFreq) : Int := (a.last.map (·.1)).getD 0
  fresh.foldl (fun best a => match best with
    | some b => if lv b < lv a then some a else some b
    | none => some a) none

/-- TUNED_LOSS. [DEDUCED, log entry 150] -/
def execTunedLoss (f : Fin 6) (s : State) : Host.Outcome State Fault Refusal :=
  .next (s.when (s.chainRuns f (s.get (Reg.BCAST.CTL.MODE f)) && s.tunedLost f && s.maySwitch f true) fun s =>
    match (s.chainB f).bestAlt s.time.msc with
    | some a => (s.updB f fun r => { r with cand := some (a.khz, true) }).startVerify f
    | none => s)

/-- A switch of the REF die in DAB mode ends the DAB reference's qualification (R195). -/
def State.unqualifyDab (s : State) : State :=
  let was := s.time.dab.qualified
  let s := s.updRef 3 fun r => { r with good := false, goodRun := 0, badRun := 3, qualified := false, far := false,
                                        cycleOk := some false }
  if was then (s.showRefs).fireD 33 3 else s.showRefs

/-- A verified candidate is tuned, its identity kept (R194). [DEDUCED, log entry 148] -/
def State.takeAlt (s : State) (f khz : Nat) : State :=
  let s := ((s.put (Reg.BCAST.TUNE.FREQ_KHZ f) khz).beginRetune f true).bump (Reg.BCAST.AF_SWITCHES f)
  let s := if s.feeds f 1 then s.unqualifyDab else s
  s.fire (dieSource f 12)

/-- A verification dwell ends without a switch, and another candidate may follow. -/
def State.endVerify (s : State) (f : Nat) : State :=
  let now := s.counterNs
  ((s.updB f fun r => r.dwellEnds now).put (Reg.BCAST.STATUS.DWELL f) 0).startVerify f

/-- A candidate that failed its verification is skipped until its list changes (R194). -/
def State.skipAlt (s : State) (f khz : Nat) : State :=
  let s := s.updB f fun r => { r with alts := r.alts.map fun a => if a.khz = khz then { a with skipped := true } else a }
  (s.bump (Reg.BCAST.AF_VERIFY_FAIL f)).endVerify f

/-- AF_VERIFY. The identity read in the dwell, if any was. Where following has been turned off since the dwell began, no
switch is made. [DEDUCED, log entry 150] -/
def execAfVerify (f : Fin 6) (identity : Option (BitVec 16)) (s : State) : Host.Outcome State Fault Refusal :=
  .next (match (s.chainB f).dwell with
    | some (.verify k loss) => s.when (s.live && s.dieUp f) fun s =>
      if !identity.any fun i => i.toNat = s.get (Reg.BCAST.STATUS.ID f) then s.skipAlt f k
      else if s.maySwitch f loss then s.takeAlt f k
      else s.endVerify f
    | _ => s)

/-! ### RDS (R186) -/

/-- Frequency of an AF code in kHz (IEC 62106). [PRESUMED, log entry 146] -/
def afKhz (code : Nat) : Nat := 87500 + 100 * code

/-- The pairs of a list after its first code. [DEDUCED, log entry 149] -/
def pairsOf : List Nat → List (Nat × Nat)
  | a :: b :: l => (a, b) :: pairsOf l
  | _ => []

/-- A list is coded by method B: its first code, the tuned frequency, stands in every later pair.
[DEDUCED, log entry 149] -/
def methodB (codes : List Nat) : Bool :=
  match codes with
  | [] => false
  | t :: rest => 2 ≤ rest.length && rest.length % 2 = 0 && (pairsOf rest).all fun p => p.1 = t || p.2 = t

/-- The alternatives that a completed list gives a chain tuned to khz. -/
def listAlts (codes : List Nat) (khz : Nat) : List Nat :=
  let ks := match codes with
    | t :: rest =>
      if methodB codes then (if afKhz t = khz then
        (pairsOf rest).map fun (p : Nat × Nat) => if p.1 = t then p.2 else p.1 else [])
      else t :: rest
    | [] => []
  ((ks.map afKhz).filter (· ≠ khz)).eraseDups

/-- A list is complete: its record, and the alternatives it gives (R186). -/
def State.afComplete (s : State) (f : Nat) : State :=
  let codes := (s.chainB f).afCodes
  let s := s.side f 1 (2 * bit (methodB codes)) codes.length (s.chainB f).afStamp (codes.map fun c => BitVec.ofNat 8 c)
  let ks := listAlts codes (s.get (Reg.BCAST.TUNE.FREQ_KHZ f))
  if methodB codes ∧ ks = [] then s else s.setAlts f ks

/-- The AF codes of one group, in order, with the timestamps of their first bits: 225 to 249 begin a list of 1 to 25, 250
says that an LF or MF frequency, not one of this chain's, follows in the pair. -/
def State.afPair (s : State) (f : Nat) (b : RdsBlk) : State :=
  let hi := b.data / 256
  let lo := b.data % 256
  let isCode (c : Nat) : Bool := decide (1 ≤ c ∧ c ≤ 204)
  let take (s : State) (c stamp : Nat) : State :=
    if (s.chainB f).afLeft = 0 then s
    else
      let s := s.updB f fun r => { r with
        afLeft := r.afLeft - 1
        afStamp := if r.afCodes = [] && isCode c then stamp else r.afStamp
        afCodes := if isCode c then r.afCodes ++ [c] else r.afCodes }
      if (s.chainB f).afLeft = 0 then s.afComplete f else s
  if 225 ≤ hi ∧ hi ≤ 249 then
    let s := s.updB f fun r => { r with afLeft := hi - 224, afCodes := [], afStamp := b.lowStamp }
    if isCode lo then take s lo b.lowStamp else s
  else if hi = 250 then take s 0 b.lowStamp
  else
    let s := if isCode hi then take s hi b.stamp else s
    if isCode lo then take s lo b.lowStamp else s

/-- The remainder of a word of n bits by the generator x^10 + x^8 + x^7 + x^5 + x^4 + x^3 + 1 of the block code.
[PRESUMED, log entry 146] -/
def rdsRem : Nat → Nat → Nat
  | 0, x => x
  | n + 1, x => rdsRem n (if 10 ≤ n ∧ x.testBit n then x ^^^ (0x5B9 <<< (n - 10)) else x)

/-- The offset words of a place in the group; of C the one of version A, then that of version B.
[PRESUMED, log entry 146] -/
def rdsOffsets : Nat → List Nat
  | 0 => [0x0FC]
  | 1 => [0x198]
  | 2 => [0x168, 0x350]
  | _ => [0x1B4]

/-- A block is valid under an offset word. -/
def rdsValid (bits ofs : Nat) : Bool := rdsRem 26 (bits ^^^ ofs) = 0

/-- The error bursts of up to 2 bits within a block. -/
def rdsBursts : List Nat := (List.range 26).map (2 ^ ·) ++ (List.range 25).map (3 * 2 ^ ·)

/-- The block decoder (R186): status code and 16 bits of a block whose offset word is one of a list. -/
def rdsDecode (bits : Nat) (ofs : List Nat) : Nat × Nat :=
  if ofs.any fun o => rdsValid bits o then (0, bits / 2 ^ 10)
  else match rdsBursts.find? fun e => ofs.any fun o => rdsValid (bits ^^^ e) o with
    | some e => (1, (bits ^^^ e) / 2 ^ 10)
    | none => (2, bits / 2 ^ 10)

/-- The place whose offset word a block is valid under. -/
def rdsPlace (bits : Nat) : Option Nat := (List.range 4).find? fun p => (rdsOffsets p).any fun o => rdsValid bits o

/-- The offset words that the next block may have: that of its place, block C's by the version in an unflagged block B. -/
def BcastRun.offsets (r : BcastRun) : List Nat :=
  match r.place, r.group[1]? with
  | 2, some b => if b.code = 2 then rdsOffsets 2 else if bitsAt b.data 11 1 = 0 then [0x168] else [0x350]
  | p, _ => rdsOffsets p

/-- A complete group (R186): its record, then AF lists and clock time from here; PI was learned with its block A.
[PRESUMED, log entry 146; DEDUCED, log entry 149] -/
def State.rdsGroup (s : State) (f : Nat) (g : List RdsBlk) : State :=
  match g with
  | [a, b, c, d] =>
    let data := (g.flatMap fun x => leBytes 2 x.data) ++ g.map fun x => BitVec.ofNat 8 x.code
    let s := (s.side f 0 0 12 a.stamp data).bump (Reg.BCAST.RDS_GROUPS f)
    let typ := b.data / 2 ^ 11
    if typ = 0 ∧ b.code ≠ 2 ∧ c.code ≠ 2 then s.afPair f c
    else if typ = 8 ∧ b.code ≠ 2 ∧ c.code ≠ 2 ∧ d.code ≠ 2 then
      s.side f 2 0 6 b.stamp (leBytes 2 b.data ++ leBytes 2 c.data ++ leBytes 2 d.data)
    else s
  | _ => s

/-- PI learning (R186): the same PI in 2 consecutive unflagged A blocks. [DEDUCED, log entry 149] -/
def State.learnPi (s : State) (f pi : Nat) : State :=
  let s := if (s.chainB f).lastId = some pi then s.learnId f pi else s
  s.updB f fun r => { r with lastId := some pi }

/-- A block in sync joins its group; the fourth completes it. -/
def State.rdsJoin (s : State) (f place : Nat) (b : RdsBlk) : State :=
  let s := s.updB f fun r => { r with
    place := (place + 1) % 4
    group := if place = 0 then [b] else if r.group.length = place then r.group ++ [b] else [] }
  let s := if place = 0 ∧ b.code ≠ 2 then s.learnPi f b.data else s
  let g := (s.chainB f).group
  if g.length = 4 then (s.updB f fun r => { r with group := [] }).rdsGroup f g else s

/-- The nanoseconds of eight RDS bits, 8/1,187.5 s. [PRESUMED, log entry 146] -/
def rdsByteNs : Nat := 6736842

/-- A block as decoded, with its timestamps. -/
def State.rdsBlk (s : State) (f : Nat) (b : RdsIn) (d : Nat × Nat) : RdsBlk :=
  ⟨d.1, d.2, s.stampAgo f b.backNs, s.stampAgo f (b.backNs - rdsByteNs)⟩

/-- A block in sync (R186): an uncorrectable one is counted, and 8 of them in a run of 16 lose sync. -/
def State.rdsInSync (s : State) (f : Nat) (b : RdsIn) : State :=
  let r := s.chainB f
  let d := rdsDecode b.bits.toNat r.offsets
  let s := if d.1 = 2 then s.bump (Reg.BCAST.RDS_BLOCK_ERR f) else s
  let recent := (decide (d.1 = 2) :: r.recent).take 16
  if 8 ≤ (recent.filter id).length then
    (s.updB f fun r => { r with recent := [], valid := 0, group := [] }).setLock f (Reg.BCAST.STATUS.RDS_SYNC f) false
  else (s.updB f fun r => { r with recent := recent }).rdsJoin f r.place (s.rdsBlk f b d)

/-- A block without sync (R186): two consecutive ones, valid at the expected offsets, gain it.
[DEDUCED, log entry 149] -/
def State.rdsSeek (s : State) (f : Nat) (b : RdsIn) : State :=
  match rdsPlace b.bits.toNat with
  | none => s.updB f fun r => { r with valid := 0 }
  | some p =>
    let second := b.follows && decide (1 ≤ (s.chainB f).valid) && decide ((s.chainB f).place = p)
    let s := s.updB f fun r => { r with valid := if second then 2 else 1, place := (p + 1) % 4, recent := [], group := [] }
    if second then
      (s.setLock f (Reg.BCAST.STATUS.RDS_SYNC f) true).rdsJoin f p (s.rdsBlk f b (0, b.bits.toNat / 2 ^ 10))
    else s

/-- RDS_BLOCK. -/
def execRdsBlock (f : Fin 6) (blk : RdsIn) (s : State) : Host.Outcome State Fault Refusal :=
  .next (s.when (s.chainRuns f 0 && (s.chainB f).dwell.isNone) fun s =>
    if s.on (Reg.BCAST.STATUS.RDS_SYNC f) then s.rdsInSync f blk else s.rdsSeek f blk)

/-! ### PCM (R188) -/

/-- A dwell of the chain covers an instant of counter time. -/
def BcastRun.dwellAtNs (r : BcastRun) (t : Nat) : Bool :=
  (r.dwell.isSome && r.dwellAt ≤ t) || r.gaps.any fun (p : Nat × Nat) => p.1 ≤ t && t < p.2

/-- Of the 12 samples of a record that began at an instant, 48,000 a second, those within a dwell. -/
def BcastRun.inDwell (r : BcastRun) (from' : Nat) : List Bool :=
  (List.range 12).map fun k => r.dwellAtNs (from' + k * 62500 / 3)

/-- The 48 bytes of 12 sample pairs, those within a dwell zero. While the pilot is unlocked both sides carry the same
signal. -/
def pcmBytes (pairs : List (BitVec 16 × BitVec 16)) (stereo : Bool) (out : List Bool) : List Byte :=
  (pairs.zip out).flatMap fun p =>
    if p.2 then leBytes 4 0 else leBytes 2 p.1.1.toNat ++ leBytes 2 (if stereo then p.1.2 else p.1.1).toNat

/-- PCM_RECORD. The samples as demodulated with the one and the other time constant; DEEMPH says which are delivered.
[DEDUCED, log entry 153] -/
def execPcmRecord (f : Fin 6) (us50 us75 : List (BitVec 16 × BitVec 16)) (backNs : Nat) (s : State) :
    Host.Outcome State Fault Refusal :=
  formed (.pcmRecord f us50 us75 backNs)
    (s.when (s.chainRuns f 0 && s.on (Reg.BCAST.CTL.PCM_EN f)) fun s =>
      let out := (s.chainB f).inDwell (s.counterNs - backNs)
      let pairs := if s.on (Reg.BCAST.CTL.DEEMPH f) then us75 else us50
      s.stream f 4 (bit (out.any id)) 48 (s.stampAgo f backNs) (pcmBytes pairs (s.on (Reg.BCAST.STATUS.SYNC f)) out))

/-! ### DAB phase (R191, R192) -/

/-- PROP_NS and FRAME_OFS of die f together. -/
def State.dabDelay (s : State) (f : Nat) : Int :=
  ((s.get (Reg.BCAST.TIMING.PROP_NS f) + s.get (Reg.BCAST.TIMING.FRAME_OFS f) : Nat) : Int)

/-- The instant of slot boundary grid multiple of 96 ms nearest to an instant of counter time. -/
def State.nearestCycle (s : State) (x : Int) : Int :=
  let zero : Int := (meshEpoch * 1000000000 : Nat) + s.meshOffset
  zero + (x - zero + 48000000) / 96000000 * 96000000

/-- TAI ns that the FIG 0/10 of the preceding frame gives the null end. -/
def State.figTai (s : State) (f : Nat) : Option Int :=
  if s.on (Reg.BCAST.TIMING.TAI_UTC_VALID f) then
    (s.chainB f).utcNs.map fun u => ((u + s.get (Reg.BCAST.TIMING.TAI_UTC f) * 1000000000 : Nat) : Int)
  else none

/-- The phase of a null end at counter time t: while quality is 0b11 against the TAI time FIG 0/10 names, else against
the counter's own boundary. [DEDUCED, log entry 151] -/
def State.dabPhase (s : State) (f : Nat) (t : Int) : Option Int :=
  let x := t - s.dabDelay f
  if s.quality = 3 then (s.figTai f).map fun tai => x - s.nearestCycle (tai - s.dabDelay f)
  else some (x - s.nearestCycle x)

/-- The REF die's null end feeds the DAB reference (R56, R185, R191). A delay other than that of the null end before moves
the phase of a selected DAB reference (R192). -/
def State.feedDab (s : State) (f : Nat) (t raw : Int) : State :=
  let onTime := match s.time.lastNull with
    | some l => within (raw - l - 96000000) 2000
    | none => false
  let named := s.quality ≠ 3 || (s.figTai f).isSome
  let ph := s.dabPhase f t
  let s := s.updRef 3 fun r => { r with
    phase := if ph.isSome then ph.map (· - s.time.slewAcc / (2 ^ 32 : Nat)) else r.phase, cycleOk := some (onTime && named && r.cycleOk ≠ some false) }
  let moved := s.get Reg.TIME.REF_STATUS.SELECTED = 3 && (s.chainB f).delay.any (· ≠ s.dabDelay f)
  { s with time := { s.time with lastNull := some raw, dabMoved := s.time.dabMoved || moved } }

/-- Once time is valid FIG 0/10 is only compared: more than 1 s apart counts (R191). [DEDUCED, log entry 151] -/
def State.compareTod (s : State) (f : Nat) (t : Int) : State :=
  if s.quality ≠ 3 && (s.figTai f).any fun tai => !within (tai - t) 1000000000 then s.bump (Reg.BCAST.TOD_MISMATCH f) else s

/-- A null end, detected so many ns ago; the latency of R184 is taken off. [DEDUCED, log entry 151] -/
def State.nullFound (s : State) (f backNs : Nat) : State :=
  let d := backNs + 2500
  let t : Int := (s.counterNs : Int) - d
  let raw := s.unslewed - d
  let s := s.compareTod f t
  let s := if s.feeds f 1 then s.feedDab f t raw else s
  let st := s.stampAgo f d
  let at' := s.counterNs - d
  let delay := s.dabDelay f
  let s := s.updB f fun r => { r with
    missed := 0, nullAt := some at', nullStamp := st, delay := some delay, utcNs := none, lastId := r.curId, curId := none }
  s.setLock f (Reg.BCAST.STATUS.SYNC f) true

/-- A transmission frame without a null symbol: the third in a row loses sync. Its null end is placed 96 ms after the one
before. [DEDUCED, log entry 151] -/
def State.nullMissed (s : State) (f : Nat) : State :=
  let s := s.bump (Reg.BCAST.NULL_MISSED f)
  let at' := (s.chainB f).nullAt.map fun n => shiftNs n 96000000
  let st := match at' with
    | some n => s.stampAgo f (s.nsSince n)
    | none => (s.chainB f).nullStamp
  let s := s.updB f fun r => { r with
    missed := r.missed + 1, nullAt := at', nullStamp := st, utcNs := none, lastId := r.curId, curId := none }
  let s := if s.feeds f 1 then s.updRef 3 fun r => { r with cycleOk := some false } else s
  if 3 ≤ (s.chainB f).missed then s.setLock f (Reg.BCAST.STATUS.SYNC f) false else s

/-- DAB_NULL. -/
def execDabNull (f : Fin 6) (found : Bool) (backNs : Nat) (s : State) : Host.Outcome State Fault Refusal :=
  .next (s.when (s.chainRuns f 1) fun s => if found then s.nullFound f backNs else s.nullMissed f)

/-! ### FIBs (R189, R190) -/

/-- The 16-bit CRC of a FIB (EN 300 401): x^16 + x^12 + x^5 + 1, all ones first, sent inverted.
[PRESUMED, log entry 146] -/
def fibCrc (bytes : List Byte) : Nat :=
  0xFFFF - (bitsOfBytes bytes).foldl (fun c b =>
    if c / 32768 % 2 = bit b then c * 2 % 65536 else (c * 2 % 65536) ^^^ 0x1021) 0xFFFF

/-- The rows of the UEP table of EN 300 401, first part: capacity units, protection level and net rate in kbit/s.
[PRESUMED, log entry 146] -/
def uepRows0 : List (Nat × Nat × Nat) :=
  [(16, 5, 32), (21, 4, 32), (24, 3, 32), (29, 2, 32), (35, 1, 32), (24, 5, 48), (29, 4, 48), (35, 3, 48), (42, 2, 48),
   (52, 1, 48), (29, 5, 56), (35, 4, 56), (42, 3, 56), (52, 2, 56), (32, 5, 64), (42, 4, 64), (48, 3, 64), (58, 2, 64),
   (70, 1, 64), (40, 5, 80), (52, 4, 80), (58, 3, 80), (70, 2, 80), (84, 1, 80), (48, 5, 96), (58, 4, 96), (70, 3, 96),
   (84, 2, 96), (104, 1, 96), (58, 5, 112), (70, 4, 112), (84, 3, 112)]

/-- The rows of the UEP table of EN 300 401, second part. [PRESUMED, log entry 146] -/
def uepRows1 : List (Nat × Nat × Nat) :=
  [(104, 2, 112), (64, 5, 128), (84, 4, 128), (96, 3, 128), (116, 2, 128), (140, 1, 128), (80, 5, 160), (104, 4, 160),
   (116, 3, 160), (140, 2, 160), (168, 1, 160), (96, 5, 192), (116, 4, 192), (140, 3, 192), (168, 2, 192), (208, 1, 192),
   (116, 5, 224), (140, 4, 224), (168, 3, 224), (208, 2, 224), (232, 1, 224), (128, 5, 256), (168, 4, 256), (192, 3, 256),
   (232, 2, 256), (280, 1, 256), (160, 5, 320), (208, 4, 320), (280, 2, 320), (192, 5, 384), (280, 3, 384), (416, 1, 384)]

/-- A subchannel of the short form of FIG 0/1, by the row of the UEP table. -/
def uepSubch (start row : Nat) : Subch :=
  let r := (uepRows0 ++ uepRows1).getD row (0, 0, 0)
  ⟨start, r.1, .uep row, r.2.2⟩

/-- Net rate of an EEP subchannel of n capacity units, in kbit/s; 0 for an option EN 300 401 does not define.
[PRESUMED, log entry 146] -/
def eepRate (opt level n : Nat) : Nat :=
  if opt = 0 then n * 8 / [12, 8, 6, 4].getD level 12
  else if opt = 1 then n * 32 / [27, 21, 18, 15].getD level 27
  else 0

/-- The subchannels of the body of a FIG 0/1 by SubChId: start, size, protection and net rate.
[PRESUMED, log entry 146] -/
def fig01 : Nat → List Byte → List (Nat × Subch)
  | 0, _ => []
  | fuel + 1, l =>
    if l.length < 3 then []
    else
      let id := beAt l 0 2 / 2 ^ 10
      let start := beAt l 0 2 % 2 ^ 10
      if bitsAt (beAt l 2 1) 7 1 = 0 then (id, uepSubch start (bitsAt (beAt l 2 1) 0 6)) :: fig01 fuel (l.drop 3)
      else if l.length < 4 then []
      else
        let v := beAt l 2 2
        let opt := bitsAt v 12 3
        let level := bitsAt v 10 2
        (id, ⟨start, bitsAt v 0 10, .eep opt level, eepRate opt level (bitsAt v 0 10)⟩) :: fig01 fuel (l.drop 4)

/-- The frequencies that the entries of an FI list give an ensemble, in kHz. -/
def fiList (eid : Nat) : Nat → List Byte → List Nat
  | 0, _ => []
  | fuel + 1, l =>
    if l.length < 3 then []
    else
      let n := bitsAt (beAt l 2 1) 0 3
      let body := (l.drop 3).take n
      let ks := if beAt l 0 2 = eid ∧ bitsAt (beAt l 2 1) 4 4 = 0
        then (List.range (body.length / 3)).map fun i => beAt body (3 * i) 3 % 2 ^ 19 * 16 else []
      ks ++ fiList eid fuel (l.drop (3 + n))

/-- The frequencies that the body of a FIG 0/21 gives an ensemble. [PRESUMED, log entry 146] -/
def fig021 (eid : Nat) : Nat → List Byte → List Nat
  | 0, _ => []
  | fuel + 1, l =>
    if l.length < 2 then []
    else
      let n := beAt l 0 2 % 32
      fiList eid 16 ((l.drop 2).take n) ++ fig021 eid fuel (l.drop (2 + n))

/-- UTC in ns since 1970 of a long-form FIG 0/10. [PRESUMED, log entry 146] -/
def fig010 (l : List Byte) : Option Nat :=
  if l.length < 6 ∨ bitsAt (beAt l 2 2) 11 1 = 0 then none
  else
    let v := beAt l 0 6
    let mjd := bitsAt v 30 17
    some (((mjd - 40587) * 86400 + bitsAt v 22 5 * 3600 + bitsAt v 16 6 * 60 + bitsAt v 10 6) * 1000000000
      + bitsAt v 0 10 * 1000000)

/-- Net rate of register j's subchannel as known, 0 when it is not enabled or not known. -/
def State.subchRate (s : State) (f j : Nat) : Nat :=
  if s.on (Reg.BCAST.SUBCH.EN f j) then
    ((Tbl.find? (s.chainB f).subchs (s.get (Reg.BCAST.SUBCH.SUBCHID f j))).map (·.rate)).getD 0
  else 0

/-- The combined net rate is beyond 1,152 kbit/s (R190). [DEDUCED, log entry 152] -/
def State.overRate (s : State) (f : Nat) : Bool :=
  1152 < (List.range 4).foldl (fun a j => a + s.subchRate f j) 0

/-- A subchannel is stopped for rate (R190): its record in hand will be flagged. [DEDUCED, log entry 152] -/
def State.stopSubch (s : State) (f j : Nat) : State :=
  let s := (s.put (Reg.BCAST.SUBCH.EN f j) 0).put (Reg.BCAST.SUBCH.OVER_RATE f j) 1
  (s.updB f fun r => { r with stopping := if j ∈ r.stopping then r.stopping else j :: r.stopping }).fire (dieSource f 14)

/-- FIG 0/1 shows a subchannel; an enabled one that it shows beyond the limit is stopped. -/
def State.showSubch (s : State) (f : Nat) (e : Nat × Subch) : State :=
  let s := s.updB f fun r => { r with subchs := Tbl.put r.subchs e.1 e.2 }
  s.each (List.range 4) fun s j =>
    if s.on (Reg.BCAST.SUBCH.EN f j) && s.get (Reg.BCAST.SUBCH.SUBCHID f j) = e.1 && s.overRate f then s.stopSubch f j else s

/-- FIG 0/21 frequencies join the alternatives; a list that grows gives its skipped entries another chance. -/
def State.addAlts (s : State) (f : Nat) (ks : List Nat) : State :=
  let have' := (s.chainB f).alts.map (·.khz)
  let new := (ks.filter fun k => 65000 ≤ k && k ≤ 240000 && k ≠ s.get (Reg.BCAST.TUNE.FREQ_KHZ f) && k ∉ have').eraseDups
  if new = [] then s else s.setAlts f (have' ++ new)

/-- One FIG of type 0: extension byte and body (R189). -/
def State.fig0 (s : State) (f : Nat) (l : List Byte) : State :=
  let h := beAt l 0 1
  let body := l.drop 1
  if bitsAt h 6 1 = 1 ∨ l = [] then s
  else match h % 32 with
    | 0 =>
      let eid := beAt body 0 2
      let s := if bitsAt h 7 1 = 0 ∧ (s.chainB f).lastId = some eid then s.learnId f eid else s
      if bitsAt h 7 1 = 0 then s.updB f fun r => { r with curId := some eid } else s
    | 1 => if bitsAt h 7 1 = 0 then s.each (fig01 16 body) fun s e => s.showSubch f e else s
    | 10 => match fig010 body with
      | some u => s.updB f fun r => { r with utcNs := some u }
      | none => s
    | 21 => if s.on (Reg.BCAST.STATUS.ID_VALID f) then s.addAlts f (fig021 (s.get (Reg.BCAST.STATUS.ID f)) 16 body) else s
    | _ => s

/-- The FIGs of a FIB in turn, up to its end marker. -/
def State.figs (s : State) (f : Nat) : Nat → List Byte → State
  | 0, _ => s
  | fuel + 1, l =>
    match l with
    | [] => s
    | h :: t =>
      if h = 0xFF then s
      else
        let n := h.toNat % 32
        let s := if h.toNat / 32 = 0 then s.fig0 f (t.take n) else s
        State.figs s f fuel (t.drop n)

/-- FIB_RECEIVED. -/
def execFibReceived (f : Fin 6) (bytes : List Byte) (s : State) : Host.Outcome State Fault Refusal :=
  formed (.fibReceived f bytes) (s.when (s.chainRuns f 1 && s.on (Reg.BCAST.STATUS.SYNC f)) fun s =>
    if fibCrc (bytes.take 30) = beAt bytes 30 2 then
      State.figs ((s.side f 3 0 32 (s.chainB f).nullStamp bytes).bump (Reg.BCAST.FIB_GOOD f)) f 30 (bytes.take 30)
    else s.bump (Reg.BCAST.FIB_CRC_ERR f))

/-- SUBCH_RECORD. The bytes as deinterleaved and decoded under the protection that FIG 0/1 gives, which it must have given
before any are delivered (R190); a subchannel just stopped delivers one more record, flagged.
[DEDUCED, log entry 152] -/
def execSubchRecord (f : Fin 6) (j : Fin 4) (bytes : List Byte) (backNs : Nat) (s : State) :
    Host.Outcome State Fault Refusal :=
  formed (.subchRecord f j bytes backNs) (s.when (s.chainRuns f 1) fun s =>
    let tooFast := decide (j.val ∈ (s.chainB f).stopping)
    let known := Tbl.has (s.chainB f).subchs (s.get (Reg.BCAST.SUBCH.SUBCHID f j))
    if (s.on (Reg.BCAST.SUBCH.EN f j) && known) || tooFast then
      (s.updB f fun r => { r with stopping := r.stopping.filter (· ≠ j.val) }).stream f 5
        (2 * bit tooFast + 4 * s.get (Reg.BCAST.SUBCH.SUBCHID f j)) 48 (s.stampAgo f backNs) bytes
    else s)

/-- A BCAST.SUBCH write (R190): enabling a subchannel beyond the rate, by the sizes known, is illegal. -/
def State.bcastSubch (s : State) (f j v : Nat) : State :=
  let t := (s.put (Reg.BCAST.SUBCH.SUBCHID f j) (bitsAt v 0 6)).put (Reg.BCAST.SUBCH.EN f j) (bitsAt v 6 1)
  if bitsAt v 6 1 = 1 ∧ t.overRate f then s.illegal (dieOffset f (0x200020 + j * 4))
  else (t.w1c (Reg.BCAST.SUBCH.OVER_RATE f j) (bitsAt v 7 1)).updB f fun r =>
    { r with stopping := r.stopping.filter (· ≠ j) }

/-! ### The mesh cycle -/

/-- The broadcast chains at a cycle boundary: the pilots measured over the cycle, and the intervals between checks. -/
def State.bcastCycle (s : State) (pilots : List (Fin 6 × Int)) : State :=
  s.each (List.range 6) fun s f =>
    let s := if s.chainRuns f 0 then
        s.pilotCycle f ((List.find? (fun (p : Fin 6 × Int) => p.1.val = f) pilots).map (·.2))
      else s
    if s.chainRuns f (s.get (Reg.BCAST.CTL.MODE f)) then s.updB f fun r => { r with since := min (r.since + 1) 255 } else s

end Sys2Proof.Machine
end

