-- ==== Sys2Proof/Machine/Streams.lean ====
section
/-! DEFINITION. Stream contexts and what ends on them (R72, R74, R80, R91, R371): a context's source and width, whether
it delivers samples and is searched, and the end of trackers, demodulator contexts and floors. -/

namespace Sys2Proof.Machine

/-- Streams of a link (R70). -/
def State.linkStreams (s : State) (f k : Nat) : Nat := s.get (Reg.LINK.CFG.M f k) / 2

/-- Context i of die f is enabled and takes its samples from link k. -/
def State.ctxOnLink (s : State) (f k i : Nat) : Bool :=
  s.on (Reg.LINK.STREAM.EN f i) && !s.on (Reg.LINK.STREAM.SRC_RF f i) && s.get (Reg.LINK.STREAM.SRC f i) = k

/-- Context i of die f is enabled and takes its samples from integrated chain c. -/
def State.ctxOnChain (s : State) (f c i : Nat) : Bool :=
  s.on (Reg.LINK.STREAM.EN f i) && s.on (Reg.LINK.STREAM.SRC_RF f i) && s.get (Reg.LINK.STREAM.SRC f i) = c

/-- The contexts of a gain source: link 0 to 39, or chain source − 40 (R87). -/
def State.ctxOfSource (s : State) (f src i : Nat) : Bool :=
  if src < 40 then s.ctxOnLink f src i else s.ctxOnChain f (src - 40) i

/-- Raster channels of context i (R124). -/
def State.ctxChannels (s : State) (f i : Nat) : Nat :=
  if s.on (Reg.LINK.STREAM.SRC_RF f i) then 32
  else
    let n := 16 * 2 ^ s.get (Reg.LINK.CFG.WIDTH f (s.get (Reg.LINK.STREAM.SRC f i)))
    if s.get (Reg.LINK.STREAM.PART f i) = 0 then n else n / 2

/-- Context i follows an active BLANK input (R90). -/
def State.ctxBlanked (s : State) (f i : Nat) : Bool :=
  s.get (Reg.LINK.STREAM.BLANK_GRP f i) < 8 && (8 * f + s.get (Reg.LINK.STREAM.BLANK_GRP f i)) ∈ s.air.blank

/-- Calibrations and running state of integrated receive chain c. -/
def State.chain (s : State) (f c : Nat) : ChainRun := Tbl.getD s.air.chains (4 * f + c) .init

/-- SEQ of die f. -/
def State.seq (s : State) (f : Nat) : SeqRun := Tbl.getD s.air.seqs f ⟨[], [], .idle, 0⟩

/-- Replaces SEQ of die f. -/
def State.setSeq (s : State) (f : Nat) (q : SeqRun) : State := { s with air := { s.air with seqs := Tbl.put s.air.seqs f q } }

/-- SEQ of die f is stalled in a HOP of chain c (R94). -/
def State.hopping (s : State) (f c : Nat) : Bool := (s.seq f).st = .hopping c

/-- Integrated receive chain c delivers samples: on, calibrated since EN, none running, not retuning (R80, R94). -/
def State.chainDelivers (s : State) (f c : Nat) : Bool :=
  s.on (Reg.FRF.RXCH.EN f c) && s.on (Reg.FRF.RXCH.CAL_VALID f c) && (s.chain f c).running.isEmpty && !s.hopping f c

/-- Context i is enabled and its link or chain gives samples (R74, R80). -/
def State.sourceUp (s : State) (f i : Nat) : Bool :=
  s.on (Reg.LINK.STREAM.EN f i)
  && (if s.on (Reg.LINK.STREAM.SRC_RF f i) then s.chainDelivers f (s.get (Reg.LINK.STREAM.SRC f i))
      else s.get (Reg.LINK.STATUS.STATE f (s.get (Reg.LINK.STREAM.SRC f i))) = 4)

/-- Context i delivers samples that are not zeroed (R74, R80, R90). -/
def State.delivers (s : State) (f i : Nat) : Bool := !s.ctxBlanked f i && s.sourceUp f i

/-- The search runs on context i: it delivers, and its link has been in DATA for two multiblocks (R74). -/
def State.searched (s : State) (f i : Nat) : Bool :=
  s.delivers f i && (s.on (Reg.LINK.STREAM.SRC_RF f i) || (48 * f + s.get (Reg.LINK.STREAM.SRC f i)) ∈ s.air.searching)

/-- Context i has W channels (R124, R127). -/
def State.wEnabled (s : State) (f i : Nat) : Bool := s.on (Reg.SPARGE.STREAM.W_EN f i)

/-- Channel k, N or W, exists on context i (R124). -/
def State.channelExists (s : State) (f i : Nat) (w : Bool) (k : Nat) : Bool :=
  s.on (Reg.LINK.STREAM.EN f i) &&
  (if w then s.wEnabled f i && 1 ≤ k && k + 2 ≤ s.ctxChannels f i else k < s.ctxChannels f i)

/-- Table key of a channel. -/
def chanKey (f i : Nat) (w : Bool) (k : Nat) : Nat := ((512 * f + i) * 2 + bit w) * 256 + k

/-! ### Counts shown in registers -/

/-- Trackers held on die f. -/
def State.trackersOn (s : State) (f : Nat) : Tbl Tracker := s.air.trackers.filter fun p => p.1 / 2048 = f

/-- Demodulator contexts active on die f. -/
def State.ctxsOn (s : State) (f : Nat) : Tbl DemodCtx := s.air.ctxs.filter fun p => p.1 / 4096 = f

/-- STEEP.TRACK of die f. -/
def State.showTrack (s : State) (f : Nat) : State :=
  s.showUse (Reg.STEEP.TRACK.IN_USE f) (Reg.STEEP.TRACK.PEAK f) (s.trackersOn f).length

/-- DEMOD.CTX of die f. -/
def State.showCtx (s : State) (f : Nat) : State :=
  s.showUse (Reg.DEMOD.CTX.IN_USE f) (Reg.DEMOD.CTX.PEAK f) (s.ctxsOn f).length

/-- A channel's floor. -/
def State.floorOf (s : State) (f i : Nat) (w : Bool) (k : Nat) : Floor := Tbl.getD s.air.floors (chanKey f i w k) .init

/-- A context of die f is enabled, and every floor that R140 names is valid. [DEDUCED, log entry 177] -/
def State.floorsValid (s : State) (f : Nat) : Bool :=
  ((List.range 512).any fun i => s.on (Reg.LINK.STREAM.EN f i)) &&
  (List.range 512).all fun i => !s.on (Reg.LINK.STREAM.EN f i) ||
    ((List.range (s.ctxChannels f i)).all fun k =>
      (s.floorOf f i false k).valid && (!s.channelExists f i true k || (s.floorOf f i true k).valid))

/-- The event of R140, the first time its conditions are met since the floors were last reset by RST_FLOORS.
[DEDUCED, log entry 177] -/
def State.tellFloors (s : State) (f : Nat) : State :=
  if f ∉ s.air.floorsTold ∧ s.floorsValid f then
    { s with air := { s.air with floorsTold := f :: s.air.floorsTold } }.fire (dieSource f 9)
  else s

/-- SPARGE.STATUS of die f. -/
def State.showSparge (s : State) (f : Nat) : State :=
  let w := ((List.range 512).filter (s.wEnabled f)).length
  let n := (List.range 512).foldl (fun a i => a + (if s.on (Reg.LINK.STREAM.EN f i) then s.ctxChannels f i else 0)) 0
  (s.put (Reg.SPARGE.STATUS.W_CONTEXTS f) w).put (Reg.SPARGE.STATUS.N_CHANNELS f) n

/-- The enabled contexts, their widths or their W channels have changed: SPARGE.STATUS follows, and the conditions of
R140 may be met. [DEDUCED, log entry 177] -/
def State.recount (s : State) (f : Nat) : State := (s.showSparge f).tellFloors f

/-! ### Noise windows and gain markers (R88, R128, R137) -/

/-- Something spoils the running noise window of context i. [DEDUCED, log entry 176] -/
def State.spoil (s : State) (f i : Nat) (x : Spoil) : State :=
  let old := Tbl.getD s.air.spoilt (512 * f + i) []
  if x ∈ old then s else { s with air := { s.air with spoilt := Tbl.put s.air.spoilt (512 * f + i) (x :: old) } }

/-- A detection or demodulator context is active on context i. -/
def State.streamBusy (s : State) (f i : Nat) : Bool :=
  (s.air.trackers.any fun e => e.1 / 2048 = f && e.2.ctx = i) || (s.air.ctxs.any fun e => e.1 / 4096 = f && e.2.ctx = i)

/-- A gain marker of db dB at a sample index of stream i (R88). Those that nothing active began before are forgotten.
[DESIGN CHOICE, log entry 157] -/
def State.mark (s : State) (f i sample : Nat) (db : Int) : State :=
  let old := if s.streamBusy f i then Tbl.getD s.air.markers (512 * f + i) [] else []
  { s with air := { s.air with markers := Tbl.put s.air.markers (512 * f + i) (old ++ [(sample, db)]) } }.spoil f i .whole

/-- Half width of a channel in grid channels: a W channel spans three. -/
def halfWidth (wide : Bool) : Nat := if wide then 1 else 0

/-- Two channels overlap. [DEDUCED, log entry 176] -/
def gridsMeet (ga : Nat) (wa : Bool) (gb : Nat) (wb : Bool) : Bool :=
  ga ≤ gb + halfWidth wa + halfWidth wb && gb ≤ ga + halfWidth wa + halfWidth wb

/-- A transmission of die f has ended: the windows it fell in were not idle on the channels it overlaps (R137). -/
def State.spoilSent (s : State) (f grid : Nat) (wide : Bool) : State :=
  s.each ((List.range 512).filter fun i => s.on (Reg.LINK.STREAM.EN f i)) fun s i => s.spoil f i (.sent grid wide)

/-- The mean powers of context i are forgotten (R140: its grid starts when it is enabled). -/
def State.forgetPowers (s : State) (f i : Nat) : State :=
  { s with air := { s.air with powers := s.air.powers.filter fun p => p.1 / 512 ≠ 512 * f + i } }

/-! ### Ends -/

/-- What a field die sends up, oldest first. -/
def State.sendUp (s : State) (f : Nat) (m : UpMsg) : State :=
  { s with air := { s.air with up := Tbl.put s.air.up f (Tbl.getD s.air.up f [] ++ [m]) } }

/-- Frees the trackers of die f that a test names, counting each. [DEDUCED, log entry 31] -/
def State.freeTrackers (s : State) (f : Nat) (p : Tracker → Bool) (count : Fld) : State :=
  let gone := s.air.trackers.filter fun e => e.1 / 2048 = f && p e.2
  let s := s.each gone fun s e => s.spoil f e.2.ctx (.tracker e.2.w e.2.chan)
  let s := { s with air := { s.air with trackers := s.air.trackers.filter fun e => !(e.1 / 2048 = f && p e.2) } }
  (s.bumpBy count gone.length).showTrack f

/-- Ends the demodulator contexts of die f that a test names, each with an END notice (R143). [DEDUCED, log entry 31] -/
def State.endCtxs (s : State) (f : Nat) (p : DemodCtx → Bool) (blanked : Bool) (count : Fld) : State :=
  let gone := s.air.ctxs.filter fun e => e.1 / 4096 = f && p e.2
  let s := { s with air := { s.air with ctxs := s.air.ctxs.filter fun e => !(e.1 / 4096 = f && p e.2) } }
  let s := s.each gone fun s e => (s.sendUp f (.endNotice e.2.serial blanked)).spoil f e.2.ctx (.frame e.2.w e.2.chan)
  (s.bumpBy count gone.length).showCtx f

/-- Ends every detection and demodulator context of context i with SOURCE_LOST (R74, R80, R143, R371).
[DEDUCED, log entry 31] -/
def State.loseStream (s : State) (f i : Nat) : State :=
  (s.freeTrackers f (fun t => t.ctx = i) (Reg.STEEP.SOURCE_LOST f)).endCtxs f (fun d => d.ctx = i) false
    (Reg.DEMOD.SOURCE_LOST f)

/-- Counts n in a statistic that saturates. -/
def State.bumpSatBy (s : State) (f : Fld) (n : Nat) : State :=
  { s with stats := Tbl.put s.stats f.key (min (s.stat f + n) (2 ^ 32 - 1)) }

/-- Suppresses every detection in progress on a blanked context and ends its demodulator contexts, counted in
BLANK_CNT (R91, R143). -/
def State.blankStream (s : State) (f n i : Nat) : State :=
  let ts := s.air.trackers.filter fun e => e.1 / 2048 = f && e.2.ctx = i
  let ds := s.air.ctxs.filter fun e => e.1 / 4096 = f && e.2.ctx = i
  let s := { s with air := { s.air with
    trackers := s.air.trackers.filter fun e => !(e.1 / 2048 = f && e.2.ctx = i)
    ctxs := s.air.ctxs.filter fun e => !(e.1 / 4096 = f && e.2.ctx = i) } }
  let s := s.each ds fun s e => s.sendUp f (.endNotice e.2.serial true)
  let s := s.bumpSatBy (Reg.LINK.BLANK_CNT f n) (ts.length + ds.length)
  ((s.showTrack f).showCtx f).spoil f i .whole

/-- Returns the floors of context i to 0x8000 (R139). [DEDUCED, log entry 41] -/
def State.resetFloors (s : State) (f i : Nat) : State :=
  { s with air := { s.air with floors := s.air.floors.filter fun p => p.1 / 512 ≠ 512 * f + i } }

/-- Applies an operation to every enabled context of a gain source. -/
def State.eachCtx (s : State) (f src : Nat) (op : State → Nat → State) : State :=
  s.each ((List.range 512).filter (s.ctxOfSource f src)) op

/-- A detection or demodulator context is active on a gain source's streams (R88). -/
def State.sourceBusy (s : State) (f src : Nat) : Bool :=
  (List.range 512).any fun i => s.ctxOfSource f src i && s.streamBusy f i

/-! ### The start of a gain source (R87) -/

/-- Starting index of a source: 6 for a chain, MAX_IDX / 2 for a converter. -/
def State.gainStart (s : State) (f src : Nat) : Nat :=
  if src < 40 then s.get (Reg.LINK.GAIN_CTL.MAX_IDX f src) / 2 else 6

/-- Automatic gain of a source. -/
def State.gain (s : State) (f src : Nat) : GainRun :=
  Tbl.getD s.air.gains (44 * f + src) ⟨s.gainStart f src, 0, 0, none, [], 0, false⟩

/-- Replaces a source's automatic gain; a chain's index shows in RXCH.GAIN. -/
def State.setGain (s : State) (f src : Nat) (g : GainRun) : State :=
  let s := { s with air := { s.air with gains := Tbl.put s.air.gains (44 * f + src) g } }
  if 40 ≤ src then s.put (Reg.FRF.RXCH.GAIN f (src - 40)) g.idx else s

/-- A source starts afresh. -/
def State.startGain (s : State) (f src : Nat) : State := 
  s.setGain f src ⟨s.gainStart f src, 0, 0, none, [], (s.gain f src).next, false⟩

end Sys2Proof.Machine
end

