-- ==== Sys2Proof/Machine/Node.lean ====
section
/-! DEFINITION. The node table (R197 to R209, R373): entries, lookups with parity, learned entries, aging and the
NODE.CMD operations; and the HEAR_CMD operations of the hearing tables (R210, R211). -/

namespace Sys2Proof.Machine

/-! ### Entries (R197) -/

/-- ADDR of an entry word. -/
def nodeAddr (w : Nat) : Nat := bitsAt w 0 32
/-- Aerial slot j of an entry word. -/
def nodeAer (w j : Nat) : Nat := bitsAt w (32 + 12 * j) 12
/-- RATE of an entry word. -/
def nodeRate (w : Nat) : Nat := bitsAt w 68 3
/-- HEARD of an entry word. -/
def nodeHeard (w : Nat) : Nat := bitsAt w 71 24
/-- DRIFT of an entry word, signed quarter ppm. -/
def nodeDrift (w : Nat) : Int := signedOf 8 (bitsAt w 95 8)
/-- CONTACTS of an entry word. -/
def nodeContacts (w : Nat) : Nat := bitsAt w 103 4
/-- VALID of an entry word. -/
def nodeValid (w : Nat) : Bool := bitsAt w 107 1 = 1
/-- STATIC of an entry word. -/
def nodeStatic (w : Nat) : Bool := bitsAt w 108 1 = 1
/-- SLEEPY of an entry word. -/
def nodeSleepy (w : Nat) : Bool := bitsAt w 109 1 = 1
/-- KEYIX of an entry word. -/
def nodeKeyix (w : Nat) : Nat := bitsAt w 111 16
/-- LONG of an entry word. -/
def nodeLong (w : Nat) : Bool := bitsAt w 127 1 = 1

/-- The filled aerial slots of an entry word, in order. -/
def nodeSet (w : Nat) : List Nat := [nodeAer w 0, nodeAer w 1, nodeAer w 2].filter (· ≠ 0xFFF)

/-- An entry word with its aerial set replaced, TWIN recomputed (R207). -/
def withSet (w : Nat) (set : List Nat) : Nat :=
  let w := [0, 1, 2].foldl (fun w j => putBits w (32 + 12 * j) 12 (set.getD j 0xFFF)) w
  let dies := (nodeSet w).map (· / 512)
  putBits w 110 1 (bit (dies.any fun a => dies.any fun b => a ≠ b))

/-- Even parity over each 32 bits (R197). -/
def parityOf (w : Nat) : Nat :=
  [0, 1, 2, 3].foldl (fun a j => a + popCount 32 (bitsAt w (32 * j) 32) % 2 * 2 ^ j) 0

/-- The parity bits of an entry agree with its word. -/
def NodeEntry.sound (e : NodeEntry) : Bool := e.par = parityOf e.word

/-- First index of the static table. -/
def staticBase : Nat := 0x100000

/-- One past the last index of both tables. -/
def nodeTop : Nat := 0x110000

/-- The bucket of a node address (R198). -/
def State.bucket (s : State) (a : Nat) : Nat := (a * 0x85EBCA77 % 2 ^ 32 / 2 ^ 14) ^^^ s.get Reg.NODE.CFG.SEED

/-- The current mesh cycle as HEARD holds it. -/
def State.meshCycle (s : State) : Nat := s.time.msc / 48 % 2 ^ 24

/-- The age of an entry (R206). -/
def State.nodeAge (s : State) (w : Nat) : Nat :=
  (s.meshCycle + 2 ^ 24 - nodeHeard w) % 2 ^ 24 + (if nodeLong w then 0xC00000 else 0)

/-- The entry word held at an index; 0 where none is valid. -/
def State.nodeWord (s : State) (i : Nat) : Nat := ((Tbl.find? s.node.tab i).map (·.word)).getD 0

/-- Replaces the node table, VALID_LEARNED and VALID_STATIC following. -/
def State.setNodeTab (s : State) (t : Tbl NodeEntry) : State :=
  let s := { s with node := { s.node with tab := t } }
  let st (f : Fld) (n : Nat) (s : State) : State := { s with stats := Tbl.put s.stats f.key n }
  st Reg.NODE.VALID_STATIC (t.filter fun e => staticBase ≤ e.1).length
    (st Reg.NODE.VALID_LEARNED (t.filter fun e => e.1 < staticBase).length s)

/-- Stores a valid entry word at an index, with its parity. -/
def State.nodePut (s : State) (i w : Nat) : State :=
  let w := putBits (w % 2 ^ 128) 107 1 1
  s.setNodeTab (Tbl.put s.node.tab i ⟨w, parityOf w⟩)

/-- Clears an index. -/
def State.nodeClear (s : State) (i : Nat) : State := s.setNodeTab (Tbl.erase s.node.tab i)

/-- A parity error met at an index: the entry is invalidated and reported (R204). -/
def State.parityError (s : State) (i : Nat) : State :=
  let s := (s.nodeClear i).put Reg.NODE.PERR.INDEX i
  ((s.bump Reg.NODE.PARITY_ERR).fire 160).logError 3 (s.active * 4096 + 0x020) false false i 0

/-- The index at which an address is held, if it is: a static entry answers for its address. -/
def State.nodeIndex (s : State) (a : Nat) : Option Nat :=
  let hit (e : Nat × NodeEntry) : Bool := nodeAddr e.2.word = a
  match List.find? (fun e => staticBase ≤ e.1 && hit e) s.node.tab with
  | some e => some e.1
  | none => (List.find? (fun e => e.1 / 4 = s.bucket a && e.1 < staticBase && hit e) s.node.tab).map (·.1)

/-- A lookup (R198, R204): an entry with a parity error is a miss and is invalidated. The flag says that one was met. -/
def State.nodeFind (s : State) (a : Nat) : State × Option (Nat × Nat) × Bool :=
  match s.nodeIndex a with
  | none => (s, none, false)
  | some i =>
    match Tbl.find? s.node.tab i with
    | some e => if e.sound then (s, some (i, e.word), false) else (s.parityError i, none, true)
    | none => (s, none, false)

/-- The index and word of a lookup that leaves the state alone: an entry with a parity error is a miss here too. -/
def State.nodeSound (s : State) (a : Nat) : Option (Nat × Nat) :=
  (s.nodeIndex a).bind fun i => ((Tbl.find? s.node.tab i).filter NodeEntry.sound).map fun e => (i, e.word)

/-- Distinct dies of a set that are present and not fenced (R207). -/
def State.setDies (s : State) (w : Nat) : Nat :=
  ((List.range 6).filter fun f => s.dieUp f && (nodeSet w).any (fun a => a / 512 = f)).length

/-! ### Learned entries (R199 to R202) -/

/-- The parity errors that learning finds in the bucket of an address (R204). [DEDUCED, log entry 183] -/
def State.scrubBucket (s : State) (a : Nat) : State :=
  s.each ((List.range 4).map (4 * s.bucket a + ·)) fun s i =>
    if (Tbl.find? s.node.tab i).any fun e => !e.sound then s.parityError i else s

/-- The way a new learned entry takes in its bucket: a free one, else the oldest of at least 37,500 cycles (R202).
[DEDUCED, log entry 43] -/
def State.learnWay (s : State) (a : Nat) : Option Nat :=
  let b := 4 * s.bucket a
  match (List.range 4).find? fun w => !Tbl.has s.node.tab (b + w) with
  | some w => some (b + w)
  | none =>
    let age (w : Nat) : Nat := s.nodeAge (s.nodeWord (b + w))
    let w := (List.range 4).foldl (fun best w => if age best < age w then w else best) 0
    if 37500 ≤ age w then some (b + w) else none

/-- A new entry's word before the fields of R199: address, empty set, RATE 7, KEYIX. -/
def freshNode (a keyix : Nat) : Nat :=
  withSet (putBits (putBits (putBits 0 0 32 a) 68 3 7) 111 16 keyix) []

/-- Creates a learned entry (R202), or counts LEARN_FULL with source 161. -/
def State.learnNew (s : State) (a w : Nat) : State :=
  let s := s.scrubBucket a
  match s.learnWay a with
  | some i => (s.nodePut i w).bump Reg.NODE.LEARNED_NEW
  | none => (s.bump Reg.NODE.LEARN_FULL).fire 161

/-- The first `n` of a ranked list of streams with one of each distinct die first (R200). -/
def pickSet (ranked : List Nat) : List Nat :=
  let first := ranked.foldl (fun acc x => if acc.any (fun y => y / 512 = x / 512) then acc else acc ++ [x]) []
  (first ++ ranked.filter (fun x => x ∉ first)).take 3

/-- The learn point on an entry (R200, R201): set, RATE and TWIN from ranked candidate streams. -/
def State.learnSet (s : State) (i : Nat) (ranked : List Nat) (rate : Nat) : State :=
  let w := s.nodeWord i
  let nw := putBits (withSet w (pickSet ranked)) 68 3 rate
  let s := s.nodePut i nw
  if nodeSet w = nodeSet nw then s else s.bump Reg.NODE.SET_CHANGED

/-! ### Aging (R205, R206) -/

/-- A visit of the walker to an index. -/
def State.agingVisit (s : State) (i : Nat) : State :=
  match Tbl.find? s.node.tab i with
  | none => s
  | some e =>
    if !e.sound then s.parityError i
    else
      let h := (s.meshCycle + 2 ^ 24 - nodeHeard e.word) % 2 ^ 24
      let w := if !nodeLong e.word ∧ 0xE00000 ≤ h then
          putBits (putBits e.word 71 24 (nodeHeard e.word + 0xC00000)) 127 1 1 else e.word
      if s.get Reg.NODE.AGE.LIMIT ≤ s.nodeAge w then (s.nodeClear i).bump Reg.NODE.AGED_OUT
      else s.nodePut i w

/-- COVER2 latched at the end of a walker pass. -/
def State.latchCover (s : State) : State :=
  let n := (s.node.tab.filter fun e => bitsAt e.2.word 110 1 = 1).length
  { s with stats := Tbl.put s.stats Reg.NODE.COVER2.key n }

/-- AGING_VISIT. The last learned index ends a pass. -/
def execAgingVisit (ix : Nat) (s : State) : Host.Outcome State Fault Refusal :=
  .next (s.when (s.logicUp && s.on Reg.NODE.AGE.EN && ix < staticBase) fun s =>
    let s := s.agingVisit ix
    if ix + 1 = staticBase then s.latchCover else s)

/-! ### NODE.CMD (R209, R373) -/

/-- A write of NODE.CMD: GO starts an operation, or is dropped with REJECTED while BUSY. -/
def State.nodeCmd (s : State) (v : Nat) : State :=
  if bitsAt v 3 1 = 1 ∧ s.on Reg.NODE.CMD.BUSY then s.put Reg.NODE.CMD.REJECTED 1
  else
    let s := (s.put Reg.NODE.CMD.OP v).w1c Reg.NODE.CMD.REJECTED (bitsAt v 5 1)
    if bitsAt v 3 1 = 1 then
      { (s.put Reg.NODE.CMD.BUSY 1) with node := { s.node with
        op := some ⟨bitsAt v 0 3, s.get Reg.NODE.ARG.KEY, s.get Reg.NODE.ARG.INDEX, s.get Reg.NODE.DATA.ENTRY⟩ } }
    else s

/-- The operation in progress, if it has this opcode. -/
def State.nodeOp (s : State) (op : Nat) : Option NodeOp := s.node.op.filter fun o => o.op = op

/-- An operation completes: STATUS, PARITY and BUSY, and source 163 where IE_DONE is 1. -/
def State.nodeDone (s : State) (st : Status) (parity : Bool) : State :=
  let s := { s with node := { s.node with op := none, scan := none } }
  let s := ((s.put Reg.NODE.CMD.STATUS st.code).put Reg.NODE.CMD.BUSY 0).put Reg.NODE.RESULT.PARITY (bit parity)
  if s.on Reg.NODE.CFG.IE_DONE then s.fire 163 else s

/-- RESULT of an operation that named an entry. -/
def State.nodeResult (s : State) (i w : Nat) : State :=
  (s.put Reg.NODE.RESULT.INDEX i).put Reg.NODE.RESULT.DIES (s.setDies w)

/-- Runs an operation in progress. -/
def State.runNode (s : State) (op : Nat) (effect : NodeOp → State → State) : State :=
  match s.nodeOp op with
  | some o => if s.logicUp then effect o s else s
  | none => s

/-- READ. -/
def State.nodeRead (o : NodeOp) (s : State) : State :=
  if nodeTop ≤ o.index then s.nodeDone .badField false
  else match Tbl.find? s.node.tab o.index with
    | some e =>
      if e.sound then
        ((s.put Reg.NODE.DATA.ENTRY e.word).put Reg.NODE.RESULT.DIES (s.setDies e.word)).nodeDone .done false
      else (s.parityError o.index).nodeDone .notFound true
    | none => ((s.put Reg.NODE.DATA.ENTRY 0).put Reg.NODE.RESULT.DIES 0).nodeDone .done false

/-- NODE_READ. -/
def execNodeRead (s : State) : Host.Outcome State Fault Refusal := .next (s.runNode 0 State.nodeRead)

/-- The tests of R373 that WRITE and INSERT share: steps 3 and 4. -/
def nodeImageError (w : Nat) : Option Status :=
  if nodeAddr w = 0 ∨ nodeAddr w = broadcast then some .badAddress
  else if [0, 1, 2].any (fun j => decide (3072 ≤ nodeAer w j ∧ nodeAer w j ≤ 4094)) = true then some .badField
  else if (nodeAer w 0 = 0xFFF ∧ nodeAer w 1 ≠ 0xFFF) ∨ (nodeAer w 1 = 0xFFF ∧ nodeAer w 2 ≠ 0xFFF) then some .badField
  else if nodeRate w = 5 ∨ nodeRate w = 6 then some .badField
  else none

/-- The image as it is stored: TWIN as written is ignored (R197, R207). -/
def nodeImage (w : Nat) : Nat := withSet w (nodeSet w)

/-- The tests that WRITE alone makes at step 4. -/
def State.nodeWriteError (s : State) (i w : Nat) : Bool :=
  (nodeStatic w ≠ (staticBase ≤ i : Bool)) || (i < staticBase && i / 4 ≠ s.bucket (nodeAddr w))
  || (match s.nodeSound (nodeAddr w) with
      | some (j, _) => j ≠ i
      | none => false)

/-- WRITE. [DEDUCED, log entry 63] -/
def State.nodeWrite (o : NodeOp) (s : State) : State :=
  if nodeTop ≤ o.index then s.nodeDone .badField false
  else if !nodeValid o.data then ((s.nodeClear o.index).put Reg.NODE.RESULT.DIES 0).nodeDone .done false
  else match nodeImageError o.data with
    | some st => s.nodeDone st false
    | none =>
      let r := s.nodeFind (nodeAddr o.data)
      let s := r.1
      if s.nodeWriteError o.index o.data then s.nodeDone .badField r.2.2
      else ((s.nodePut o.index (nodeImage o.data)).put Reg.NODE.RESULT.DIES (s.setDies o.data)).nodeDone .done r.2.2

/-- NODE_WRITE. -/
def execNodeWrite (s : State) : Host.Outcome State Fault Refusal := .next (s.runNode 1 State.nodeWrite)

/-- The index INSERT takes: the one that holds the address in the named table, else a free one, the lowest. -/
def State.insertIndex (s : State) (w : Nat) (held : Option (Nat × Nat)) : Option Nat :=
  if nodeStatic w then
    match held with
    | some (i, _) => if staticBase ≤ i then some i else Tbl.lowestFree s.node.tab 65536 staticBase
    | none => Tbl.lowestFree s.node.tab 65536 staticBase
  else
    match held with
    | some (i, _) => some i
    | none => Tbl.lowestFree s.node.tab 4 (4 * s.bucket (nodeAddr w))

/-- INSERT. [DEDUCED, log entry 63] -/
def State.nodeInsert (o : NodeOp) (s : State) : State :=
  match nodeImageError o.data with
  | some st => s.nodeDone st false
  | none =>
    let (s, held, bad) := s.nodeFind (nodeAddr o.data)
    if !nodeStatic o.data && (match held with
        | some (i, _) => staticBase ≤ i
        | none => false) then s.nodeDone .entryStatic bad
    else match s.insertIndex o.data held with
      | none => s.nodeDone .tableFull bad
      | some i =>
        let s := match held with
          | some (j, _) => if j = i then s else s.nodeClear j
          | none => s
        ((s.nodePut i (nodeImage o.data)).nodeResult i o.data).nodeDone .done bad

/-- NODE_INSERT. -/
def execNodeInsert (s : State) : Host.Outcome State Fault Refusal := .next (s.runNode 2 State.nodeInsert)

/-- DELETE. -/
def State.nodeDelete (o : NodeOp) (s : State) : State :=
  match s.nodeFind o.key with
  | (s, some (i, _), bad) => (s.nodeClear i).nodeDone .done bad
  | (s, none, bad) => s.nodeDone .notFound bad

/-- NODE_DELETE. -/
def execNodeDelete (s : State) : Host.Outcome State Fault Refusal := .next (s.runNode 3 State.nodeDelete)

/-- SEARCH. -/
def State.nodeSearch (o : NodeOp) (s : State) : State :=
  match s.nodeFind o.key with
  | (s, some (i, w), bad) => ((s.put Reg.NODE.DATA.ENTRY w).nodeResult i w).nodeDone .done bad
  | (s, none, bad) => s.nodeDone .notFound bad

/-- NODE_SEARCH. -/
def execNodeSearch (s : State) : Host.Outcome State Fault Refusal := .next (s.runNode 4 State.nodeSearch)

/-- AGE_SCAN: an age of 0 or above 33,554,431 is refused, otherwise the scan runs. -/
def State.ageScan (o : NodeOp) (s : State) : State :=
  if o.key = 0 ∨ 33554431 < o.key then s.nodeDone .badField false
  else { s with node := { s.node with scan := some o.key } }

/-- AGE_SCAN. -/
def execAgeScan (s : State) : Host.Outcome State Fault Refusal :=
  .next (if s.node.scan.isSome then s else s.runNode 5 State.ageScan)

/-- One learned entry under a scan of age `age`. [DEDUCED, log entry 63] -/
def State.scanVisit (age : Nat) (s : State) (e : Nat × NodeEntry) : State :=
  if !e.2.sound then s.parityError e.1
  else if age ≤ s.nodeAge e.2.word then s.nodeClear e.1 else s

/-- AGE_SCAN_DONE: every learned entry of at least that age has been deleted (R209); SCAN_DEL and source 162. -/
def execAgeScanDone (s : State) : Host.Outcome State Fault Refusal :=
  .next (match s.node.scan with
    | some age => s.when s.logicUp fun s =>
        let learned := s.node.tab.filter fun e => e.1 < staticBase
        let gone := (learned.filter fun e => e.2.sound && decide (age ≤ s.nodeAge e.2.word)).length
        let bad := learned.any fun e => !e.2.sound
        let s := s.each learned (State.scanVisit age)
        let s := { s with stats := Tbl.put s.stats Reg.NODE.SCAN_DEL.key gone, node := { s.node with op := none, scan := none } }
        let s := ((s.put Reg.NODE.CMD.STATUS Status.done.code).put Reg.NODE.CMD.BUSY 0).put Reg.NODE.RESULT.PARITY (bit bad)
        s.fire 162
    | none => s)

/-- NODE_BAD_OPCODE: OP 6 or 7. -/
def execNodeBadOpcode (op : Fin 8) (s : State) : Host.Outcome State Fault Refusal :=
  formed (.nodeBadOpcode op) (s.runNode op fun _ s => s.nodeDone .badOpcode false)

/-! ### HEAR_CMD (R210, R211) -/

/-- A write of HEAR_CMD: a GO while BUSY is dropped; any other starts an operation with its input as it stands, and reads
0 from then on. [DEDUCED, log entry 182] -/
def State.hearCmd (s : State) (f v : Nat) : State :=
  if bitsAt v 2 1 = 1 ∧ s.on (Reg.DEMOD.HEAR_CMD.BUSY f) then s
  else
    let s := (s.put (Reg.DEMOD.HEAR_CMD.OP f) v).put (Reg.DEMOD.HEAR_CMD.INDEX f) (bitsAt v 12 18)
    if bitsAt v 2 1 = 1 then
      let o : HearOp := ⟨bitsAt v 0 2, bitsAt v 12 18, s.get (Reg.DEMOD.HEAR_ADDR.ADDR f), false⟩
      { s with air := { s.air with hearOps := Tbl.put s.air.hearOps f o } }.put (Reg.DEMOD.HEAR_CMD.BUSY f) 1
    else s

/-- The HEAR_CMD operation of this opcode in progress on die f. [DEDUCED, log entry 182] -/
def State.hearDue (s : State) (f op : Nat) : Option HearOp :=
  (Tbl.find? s.air.hearOps f).filter fun o => s.dieUp f && s.on (Reg.DEMOD.HEAR_CMD.BUSY f) && o.op = op

/-- A HEAR_CMD operation completes. -/
def State.hearDone (s : State) (f : Nat) (st : Status) : State :=
  let s := (s.put (Reg.DEMOD.HEAR_CMD.STATUS f) st.code).put (Reg.DEMOD.HEAR_CMD.BUSY f) 0
  { s with air := { s.air with hearOps := Tbl.erase s.air.hearOps f } }

/-- The entry words of an index. -/
def State.hearShow (s : State) (f i : Nat) : State :=
  let (e, valid) := match Tbl.find? s.hear (2 ^ 18 * f + i) with
    | some e => (e, 1)
    | none => (⟨0, 0, 0, 0, 0, 0⟩, 0)
  let s := s.put (Reg.DEMOD.HEAR_ADDR.ADDR f) e.addr
  let s := s.put (Reg.DEMOD.HEAR_W1.CONTEXT f) e.ctx
  let s := s.put (Reg.DEMOD.HEAR_W1.RATE f) e.rate
  let s := s.put (Reg.DEMOD.HEAR_W1.LQI f) e.lqi
  let s := s.put (Reg.DEMOD.HEAR_W1.COUNT f) e.count
  let s := s.put (Reg.DEMOD.HEAR_W2.HEARD f) e.heard
  s.put (Reg.DEMOD.HEAR_W2.VALID f) valid

/-- SEARCH: the words of the address and its INDEX, or NOT_FOUND. -/
def State.hearSearch (s : State) (f : Nat) (o : HearOp) : State :=
  let b := o.addr * 0x85EBCA77 % 2 ^ 32 / 2 ^ 16 * 4
  match (List.range 4).find? fun w => (Tbl.find? s.hear (2 ^ 18 * f + b + w)).any fun e => e.addr = o.addr with
  | some w => ((s.hearShow f (b + w)).put (Reg.DEMOD.HEAR_CMD.INDEX f) (b + w)).hearDone f .done
  | none => s.hearDone f .notFound

/-- Runs the HEAR_CMD operation in progress when it has this opcode. -/
def State.runHear (s : State) (f op : Nat) (effect : HearOp → State → State) : State :=
  match s.hearDue f op with
  | some o => effect o s
  | none => s

/-- HEAR_SEARCH. -/
def execHearSearch (f : Fin 6) (s : State) : Host.Outcome State Fault Refusal :=
  .next (s.runHear f 0 fun o s => s.hearSearch f o)

/-- HEAR_READ. -/
def execHearRead (f : Fin 6) (s : State) : Host.Outcome State Fault Refusal :=
  .next (s.runHear f 1 fun o s => (s.hearShow f o.index).hearDone f .done)

/-- HEAR_CLEAR: a CLEAR begins to empty the table; BUSY stays until it is empty. -/
def execHearClear (f : Fin 6) (s : State) : Host.Outcome State Fault Refusal :=
  .next (s.runHear f 2 fun o s => { s with air := { s.air with hearOps := Tbl.put s.air.hearOps f { o with begun := true } } })

/-- HEAR_CLEAR_DONE. -/
def execHearClearDone (f : Fin 6) (s : State) : Host.Outcome State Fault Refusal :=
  .next (s.runHear f 2 fun o s =>
    if o.begun then ({ s with hear := s.hear.filter fun e => e.1 / 2 ^ 18 ≠ f.val }).hearDone f .done else s)

/-- HEAR_BAD_OPCODE: OP 3. -/
def execHearBadOpcode (f : Fin 6) (s : State) : Host.Outcome State Fault Refusal :=
  .next (s.runHear f 3 fun _ s => s.hearDone f .badOpcode)

end Sys2Proof.Machine
end

