-- ==== Sys2Proof/Machine/Cask.lean ====
section
/-! DEFINITION. Cask (R212 to R220, R229): the serving outputs, the buffer pool, queues and their operations, and
CASK.CMD. -/

namespace Sys2Proof.Machine

/-! ### Serving outputs (R164, R207, R208, R221) -/

/-- The output that serves a stream, unless R164 passes its context over. [DEDUCED, log entry 71] -/
def State.serveOf (s : State) (stream : Nat) : Option (Nat × Nat) :=
  let f := stream / 512
  let o := s.get (Reg.TX.SERVE.OUT f (stream % 512))
  if s.on (Reg.TX.SERVE.EN f (stream % 512)) && o < 98 && s.on (Reg.TX.OUT.EN f o) && s.dieUp f then some (f, o) else none

/-- The streams of the enabled flood entries, by j (R208). -/
def State.floodStreams (s : State) : List Nat :=
  ((List.range 8).filter fun j => s.on (Reg.NODE.FLOOD.EN j)).map fun j => s.get (Reg.NODE.FLOOD.STREAM j)

/-- A set in the order in which its outputs are chosen: the aerial slot a policy call chose first (R356).
[DEDUCED, log entry 71] -/
def slotFirst (set : List Nat) (slot : Option Nat) : List Nat :=
  match slot.bind fun j => set[j]? with
  | some a => a :: set.filter (· ≠ a)
  | none => set

/-- The node's set names aerials, none of them on a die that is present and unfenced (R307). -/
def State.setFenced (s : State) (a : Nat) : Bool :=
  (s.nodeSound a).any fun p => !(nodeSet p.2).isEmpty && (nodeSet p.2).all fun x => !s.dieUp (x / 512)

/-- The streams a frame for an address is sent from: its node's set, else the flood streams, with true (R208, R307).
[DEDUCED, log entry 71] -/
def State.streamsFor (s : State) (a : Nat) (slot : Option Nat) : State × List Nat × Bool :=
  if a = broadcast then (s, s.floodStreams, true)
  else
    let r := s.nodeFind a
    match r.2.1 with
    | some (_, w) =>
      if (nodeSet w).isEmpty || s.setFenced a then (r.1, r.1.floodStreams, true) else (r.1, slotFirst (nodeSet w) slot, false)
    | none => (r.1, r.1.floodStreams, true)

/-- The transmit group of the first stream that has a serving output; group 0 where none has (R221).
[DEDUCED, log entry 68] -/
def State.groupOf (s : State) (streams : List Nat) : Nat :=
  match streams.findSome? s.serveOf with
  | some (f, o) => s.get (Reg.SCHED.OUT_GROUP.GROUP f o)
  | none => 0

/-! ### Queues and lists -/

/-- A queue's state. -/
def State.queue (s : State) (q : Nat) : Queue := Tbl.getD s.cask.queues q .init

/-- Replaces a queue's state. -/
def State.setQueue (s : State) (q : Nat) (x : Queue) : State :=
  { s with cask := { s.cask with queues := Tbl.put s.cask.queues q x } }

/-- The class list 8g + c. -/
def State.classList (s : State) (g c : Nat) : List Nat := Tbl.getD s.cask.lists (8 * g + c) []

/-- Replaces a class list. -/
def State.setClassList (s : State) (g c : Nat) (l : List Nat) : State :=
  { s with cask := { s.cask with lists := Tbl.put s.cask.lists (8 * g + c) l } }

/-- The urgent list of a group. -/
def State.urgentList (s : State) (g : Nat) : List Nat := Tbl.getD s.cask.urgent g []

/-- Replaces an urgent list. -/
def State.setUrgentList (s : State) (g : Nat) (l : List Nat) : State :=
  { s with cask := { s.cask with urgent := Tbl.put s.cask.urgent g l } }

/-- The queue stands in some list. -/
def State.listed (s : State) (q : Nat) : Bool :=
  s.cask.lists.any (fun p => decide (q ∈ p.2)) || s.cask.urgent.any fun p => decide (q ∈ p.2)

/-- The queue leaves its lists; a policy call due for it and not made is dropped. -/
def State.leaveLists (s : State) (q : Nat) : State :=
  let drop (t : Tbl (List Nat)) : Tbl (List Nat) := t.map fun p => (p.1, p.2.filter (· ≠ q))
  let routes (h : Hook) : Bool := match h with
    | .route q' _ => q' = q
    | _ => false
  { s with cask := { s.cask with lists := drop s.cask.lists, urgent := drop s.cask.urgent }
           tun := { s.tun with due := s.tun.due.filter fun h => !routes h } }

/-- The queue joins the tail of its class list, or of its group's urgent list (R221, R228). -/
def State.joinNow (s : State) (q : Nat) (urgent : Bool) (slot : Option Nat) : State :=
  let x := s.queue q
  let r := s.streamsFor (x.addr.getD broadcast) slot
  let s := r.1
  let g := s.groupOf r.2.1
  let s := s.setQueue q { x with urgent := urgent, slot := slot }
  if urgent then s.setUrgentList g (s.urgentList g ++ [q]) else s.setClassList g x.cls (s.classList g x.cls ++ [q])

/-- A ROUTE_CHOICE call is due for a queue joining a list (R356): the hook is enabled and its node's set holds aerials
on two or more dies that are up. -/
def State.routeDue (s : State) (q : Nat) : Bool :=
  bitsAt (s.get Reg.TUN.POLICY_CFG.HOOK_EN) 1 1 = 1 &&
  match (s.queue q).addr.bind s.nodeSound with
  | some (_, w) => 2 ≤ s.setDies w
  | none => false

/-- A queue joins a list, by way of a policy call where one is due; while the call is outstanding it is in no list. -/
def State.join (s : State) (q : Nat) (urgent : Bool) : State :=
  if s.routeDue q then { s with tun := { s.tun with due := s.tun.due ++ [.route q urgent] } }
  else s.joinNow q urgent none

/-! ### The buffer pool (R218, R219) -/

/-- FREE: the buffers that nobody holds and that have not leaked. -/
def State.poolFree (s : State) : Nat := s.get Reg.CASK.POOL_COUNT.N - s.cask.bufs.length

/-- HELD_r. -/
def State.held (s : State) (r : Nat) : Nat := s.cask.held.getD r 0

/-- What is left of a class's floor. -/
def State.reserve (s : State) (r : Nat) : Nat := s.get (Reg.CASK.FLOOR.N r) - s.held r

/-- The buffers no floor reserves. -/
def State.shared (s : State) : Int := (s.poolFree : Int) - (s.reserve 0 + s.reserve 1 + s.reserve 2 : Nat)

/-- Whether a request for k buffers of class r is granted. [DEDUCED, log entry 70] -/
def State.grants (s : State) (r k : Nat) : Bool := s.on Reg.CASK.CFG.EN && decide ((k : Int) ≤ s.reserve r + s.shared)

/-- The k lowest free buffers from i on. [DESIGN CHOICE, log entry 65] -/
def Cask.pick (c : Cask) : Nat → Nat → List Nat
  | 0, _ => []
  | k + 1, i =>
    match Tbl.lowestFree c.bufs (c.bufs.length + 1) i with
    | some b => b :: c.pick k (b + 1)
    | none => []

/-- Buffers of class r given out, holding the chunks of some data. [DESIGN CHOICE, log entry 65] -/
def State.fillBufs (s : State) (r : Nat) (bs : List Nat) (data : List Byte) : State :=
  let n := bs.length
  let put (c : Cask) (i : Nat) : Cask :=
    let b := bs.getD i 0
    { c with bufs := Tbl.put c.bufs b ⟨bs.getD (i + 1) 0, i = 0, i + 1 = n, (data.drop (240 * i)).take 240⟩ }
  let c := (List.range n).foldl put s.cask
  { s with cask := { c with held := c.held.set r (c.held.getD r 0 + n) } }

/-- Returns buffers of class r to the pool. -/
def State.freeBufs (s : State) (r : Nat) (bs : List Nat) : State :=
  let c := s.cask
  { s with cask := { c with bufs := c.bufs.filter (fun p => p.1 ∉ bs), held := c.held.set r (c.held.getD r 0 - bs.length) } }

/-- Buffers that become unreachable (R220): counted in LEAKED, no longer held. [DEDUCED, log entry 66] -/
def State.leak (s : State) (r : Nat) (bs : List Nat) : State :=
  let c := s.cask
  ({ s with cask := { c with held := c.held.set r (c.held.getD r 0 - bs.length) } }).bumpBy Reg.CASK.LEAKED bs.length

/-! ### Items (R214 to R216) -/

/-- Buffers an item of a payload length needs. -/
def bufsFor (paylen : Nat) : Nat := (32 + paylen + 239) / 240

/-- MSC mod 2,048, as AGE is stamped. -/
def State.ageNow (s : State) : Nat := s.time.msc % 2048

/-- The buffers of the item that starts at a buffer. -/
def State.itemBufs (s : State) (b : Nat) : List Nat := ((Tbl.find? s.cask.items b).map (·.bufs)).getD []

/-- Header and payload of the item that starts at a buffer. -/
def State.itemData (s : State) (b : Nat) : List Byte :=
  (s.itemBufs b).flatMap fun i => ((Tbl.find? s.cask.bufs i).map (·.data)).getD []

/-- The item that follows an item: the NEXT link of its last buffer. -/
def State.itemAfter (s : State) (b : Nat) : Nat :=
  ((Tbl.find? s.cask.bufs ((s.itemBufs b).getLastD b)).map (·.next)).getD 0

/-- Sets the NEXT link of a buffer, both copies. -/
def State.link (s : State) (b next : Nat) : State :=
  match Tbl.find? s.cask.bufs b with
  | some x => { s with cask := { s.cask with bufs := Tbl.put s.cask.bufs b { x with next := next } } }
  | none => s

/-- HEAD of a queue with no next item: a free value that differs from MARK. [DESIGN CHOICE, log entry 64] -/
def noHead (mark free : Nat) : Nat :=
  let v := Config.nullHead free % 2 ^ 26
  if v = mark then (v + 1) % 2 ^ 26 else v

/-- The first check of R215 that fails. -/
def State.enqueueError (s : State) (q paylen cv : Nat) : Option Status :=
  if (s.queue q).addr.isNone then some .badField
  else if 18 + paylen + cv < 18 ∨ 1280 < 18 + paylen + cv then some .badLength
  else if s.get Reg.CASK.CFG.MAX_ITEMS ≤ (s.queue q).count then some .queueFull
  else if !s.grants 1 (bufsFor paylen) then some .noBuffer
  else none

/-- An accepted item is linked after TAIL (R215). -/
def State.enqueue (s : State) (q : Nat) (header payload : List Byte) (cmd : CmdRef) : State :=
  let bs := s.cask.pick (bufsFor payload.length) 0
  let b := bs.headD 0
  let x := s.queue q
  let s := s.fillBufs 1 bs (header ++ payload)
  let s := { s with cask := { s.cask with items := Tbl.put s.cask.items b ⟨bs, 1, some cmd, q⟩ } }
  let s := if 0 < x.count ∨ x.sent then s.link x.tail b else s
  let s := s.bump Reg.CASK.ENQUEUED
  let y := { x with tail := bs.getLastD b, count := x.count + 1 }
  if x.count = 0 ∧ !x.sent then
    (s.setQueue q { y with head := b, mark := b, age := s.ageNow, deficit := 0 }).join q false
  else if x.count = 0 then s.setQueue q { y with head := b, age := s.ageNow }
  else s.setQueue q y

/-- MARK and TAKE of the head item (R216). -/
def State.takeItem (s : State) (q : Nat) : State :=
  let x := s.queue q
  let x' := { x with mark := x.head, count := x.count - 1, sent := true, urgent := false }
  let s := s.leaveLists q
  if x.count ≤ 1 then (s.setQueue q { x' with head := noHead x.head s.free }).spend 1
  else s.setQueue q { x' with head := s.itemAfter x.head, age := s.ageNow }

/-- REWIND (R216): the outstanding item becomes the head again. -/
def State.rewindItem (s : State) (q : Nat) : State :=
  let x := s.queue q
  ((s.setQueue q { x with head := x.mark, count := x.count + 1, sent := false, age := s.ageNow }).bump
    Reg.SCHED.REWINDS).join q false

/-- An item is forgotten, with what its earlier attempts have left. -/
def State.dropItem (s : State) (b : Nat) : State :=
  { s with cask := { s.cask with items := Tbl.erase s.cask.items b }, tx := { s.tx with kept := Tbl.erase s.tx.kept b } }

/-- Frees an item's buffers and forgets it. -/
def State.freeItem (s : State) (b : Nat) : State := (s.freeBufs 1 (s.itemBufs b)).dropItem b

/-- Completes the command of the item that starts at a buffer. -/
def State.completeItem (s : State) (b : Nat) (st : Status) (attempts result seq : Nat) : State :=
  match (Tbl.find? s.cask.items b).bind (·.cmd) with
  | some c => s.completeX c st attempts result seq
  | none => s

/-- RELEASE (R216) of the outstanding item with its status. -/
def State.releaseItem (s : State) (q : Nat) (st : Status) (attempts result seq : Nat) : State :=
  let x := s.queue q
  let s := (s.completeItem x.mark st attempts result seq).freeItem x.mark
  let x' := { x with mark := x.head, sent := false }
  if x.count = 0 then s.setQueue q { x' with deficit := 0 } else (s.setQueue q x').join q false

/-- The first buffers of a queue's unsent items, from a first buffer on. -/
def State.itemsFrom (s : State) (b : Nat) : Nat → List Nat
  | 0 => []
  | n + 1 => b :: s.itemsFrom (s.itemAfter b) n

/-- The first buffers of a queue's unsent items. -/
def State.unsent (s : State) (q : Nat) : List Nat := s.itemsFrom (s.queue q).head (s.queue q).count

/-- The queue reads empty: its unsent items are gone, an outstanding one remains.
[DESIGN CHOICE, log entry 64; DEDUCED, log entry 67] -/
def State.emptyQueue (s : State) (q : Nat) : State :=
  let x := s.queue q
  let s := s.leaveLists q
  if x.sent then
    (s.setQueue q { x with count := 0, head := noHead x.mark s.free, tail := (s.itemBufs x.mark).getLastD x.mark,
                           urgent := false }).spend 1
  else s.setQueue q { x with count := 0, deficit := 0, urgent := false }

/-- Completes an unsent item with the attempts, counter and sequence number that a rewind has left (R229, R245). -/
def State.completeUnsent (s : State) (b : Nat) (st : Status) : State :=
  match Tbl.find? s.tx.kept b with
  | some d => s.completeItem b st d.attempts (d.ctrs.headD 0) d.seq
  | none => s.completeItem b st 0 0 0

/-- FLUSH (R229): every unsent item completes with WITHDRAWN. [DEDUCED, log entry 67] -/
def State.flushQueue (s : State) (q : Nat) : State :=
  let items := s.unsent q
  let s := s.emptyQueue q
  s.each items fun s b => ((s.completeUnsent b .withdrawn).freeItem b).bump Reg.CASK.FLUSHED

/-! ### Memory errors (R220) -/

/-- An uncorrectable error of a queue: reported in ECC_FAULT with source 131. -/
def State.caskFault (s : State) (q : Nat) : State := (s.put Reg.CASK.ECC_FAULT.QUEUE q).fire 131

/-- A queue's unsent items are lost: they complete with INTERNAL and their buffers leak. [DEDUCED, log entry 66] -/
def State.loseItems (s : State) (q : Nat) : State :=
  let items := s.unsent q
  let s := s.emptyQueue q
  s.each items fun s b =>
    let bs := s.itemBufs b
    (((s.completeUnsent b .internal).leak 1 bs).dropItem b).bump Reg.CASK.INTERNAL

/-- An uncorrectable header or payload word at a take: the head item completes with INTERNAL and is released. -/
def State.loseHead (s : State) (q : Nat) : State :=
  let x := s.queue q
  if x.count = 0 ∨ x.sent then s.caskFault q
  else
    let d := Tbl.find? s.tx.kept x.head
    (((s.takeItem q).releaseItem q .internal ((d.map (·.attempts)).getD 0) ((d.bind (·.ctrs.head?)).getD 0)
      ((d.map (·.seq)).getD 0)).bump Reg.CASK.INTERNAL).caskFault q

/-- Both copies of a link word lost: the queue's items are lost, and it stays bound. [DEDUCED, log entry 66] -/
def State.loseLinks (s : State) (q : Nat) : State := (s.loseItems q).caskFault q

/-- The state of a queue lost: as above, and its binding is cleared. [DEDUCED, log entry 66] -/
def State.loseQueue (s : State) (q : Nat) : State :=
  let s := s.loseItems q
  (s.setQueue q { s.queue q with addr := none }).caskFault q

/-! ### CASK.CMD (R212, R213, R217) -/

/-- A CASK.CMD write (R212): OP is stored; GO starts an operation unless one is in progress. -/
def State.caskCmd (s : State) (v : Nat) : State :=
  let s := s.put Reg.CASK.CMD.OP (bitsAt v 0 3)
  if bitsAt v 3 1 = 1 ∧ !s.on Reg.CASK.CMD.BUSY then
    let o : CaskOp := ⟨bitsAt v 0 3, s.get Reg.CASK.ARG.QUEUE, s.get Reg.CASK.ARG.CLASS, s.get Reg.CASK.ARG.ADDR⟩
    ({ s with cask := { s.cask with op := some o } }).put Reg.CASK.CMD.BUSY 1
  else s

/-- An operation ends with its status. -/
def State.caskDone (s : State) (st : Status) : State :=
  let s := (s.put Reg.CASK.CMD.BUSY 0).put Reg.CASK.CMD.STATUS st.code
  { s with cask := { s.cask with op := none } }

/-- Runs the operation in progress when it is the one named. -/
def State.runCask (s : State) (op : Nat) (effect : CaskOp → State → State) : State :=
  match s.cask.op with
  | some o => if s.logicUp && o.op = op then effect o s else s
  | none => s

/-- BIND (R212). [DEDUCED, log entry 69] -/
def State.caskBind (o : CaskOp) (s : State) : State :=
  let elsewhere := s.cask.queues.any fun p => p.2.addr = some o.addr && p.2.cls = o.cls
  if o.addr = 0 then s.caskDone .badAddress
  else if (s.queue o.queue).addr.isSome ∨ elsewhere then s.caskDone .badField
  else (s.setQueue o.queue { s.queue o.queue with addr := some o.addr, cls := o.cls }).caskDone .done

/-- CASK_BIND. -/
def execCaskBind (s : State) : Host.Outcome State Fault Refusal := .next (s.runCask 0 State.caskBind)

/-- UNBIND (R212). [DEDUCED, log entry 69] -/
def State.caskUnbind (o : CaskOp) (s : State) : State :=
  let x := s.queue o.queue
  if x.addr.isNone then s.caskDone .badField
  else if 0 < x.count ∨ x.sent then s.caskDone .busy
  else (s.setQueue o.queue { x with addr := none }).caskDone .done

/-- CASK_UNBIND. -/
def execCaskUnbind (s : State) : Host.Outcome State Fault Refusal := .next (s.runCask 1 State.caskUnbind)

/-- A queue's state as R213 lays it out, with ADDR, BOUND and URGENT above. -/
def Queue.word (x : Queue) : Nat :=
  x.head + x.tail * 2 ^ 26 + x.count * 2 ^ 52 + fieldOf 20 x.deficit * 2 ^ 68 + x.mark * 2 ^ 88 + x.cls * 2 ^ 114
    + x.age * 2 ^ 117 + x.addr.getD 0 * 2 ^ 128 + bit x.addr.isSome * 2 ^ 160 + bit x.urgent * 2 ^ 161

/-- CASK_READ. -/
def execCaskRead (s : State) : Host.Outcome State Fault Refusal :=
  .next (s.runCask 2 fun o s => (s.put Reg.CASK.DATA (s.queue o.queue).word).caskDone .done)

/-- The head item header a queue shows, none for the IDLE item (R217). -/
def State.headHeader (s : State) (q : Nat) : Option (List Byte) :=
  let x := s.queue q
  if x.count = 0 ∨ x.sent then none else some (sliceB (s.itemData x.head) 0 32)

/-- PEEK (R217). -/
def execCaskPeek (s : State) : Host.Outcome State Fault Refusal :=
  .next (s.runCask 3 fun o s =>
    let h := s.headHeader o.queue
    ((s.put Reg.CASK.DATA (leVal (h.getD []))).put Reg.CASK.RESULT.IDLE (bit h.isNone)).caskDone .done)

/-- FLUSH. -/
def execCaskFlush (s : State) : Host.Outcome State Fault Refusal :=
  .next (s.runCask 4 fun o s => (s.flushQueue o.queue).caskDone .done)

/-- CASK_BAD_OPCODE. -/
def execCaskBadOpcode (op : Fin 8) (s : State) : Host.Outcome State Fault Refusal :=
  formed (.caskBadOpcode op) (s.runCask op fun _ s => s.caskDone .badOpcode)

/-- Every queue is empty and nothing is outstanding (R220). [DEDUCED, log entry 70] -/
def State.caskIdle (s : State) : Bool := s.cask.queues.all fun p => decide (p.2.count = 0) && !p.2.sent

/-- The pool may be enabled (R218): 1 to 2^26 buffers inside the memory installed, the floors within the count.
[DEDUCED, log entry 70] -/
def State.poolOk (s : State) : Bool :=
  let n := s.get Reg.CASK.POOL_COUNT.N
  1 ≤ n && n ≤ 2 ^ 26 && s.get (Reg.CASK.FLOOR.N 0) + s.get (Reg.CASK.FLOOR.N 1) + s.get (Reg.CASK.FLOOR.N 2) ≤ n
  && s.get Reg.CASK.POOL_BASE.ADDR + n * 256 ≤ s.part.memGiB * 2 ^ 30

/-- A CASK.CFG write (R218, R220): MAX_ITEMS in range; EN changes only while the pool is idle, and a pool enabled anew
starts with every buffer free. [DEDUCED, log entry 70] -/
def State.poolEnable (s : State) (v : Nat) : State :=
  let en := bitsAt v 0 1
  let change := en ≠ s.get Reg.CASK.CFG.EN
  if bitsAt v 1 16 = 0 ∨ (en = 1 ∧ !s.poolOk) ∨ (change ∧ !s.caskIdle) then s.illegal 0x120000
  else
    let s := (s.put Reg.CASK.CFG.EN en).put Reg.CASK.CFG.MAX_ITEMS (bitsAt v 1 16)
    if change ∧ en = 1 then
      { s with cask := { s.cask with bufs := [], items := [], held := [0, 0, 0] }
               rx := { s.rx with groups := s.rx.groups.map fun p => (p.1, { p.2 with bufs := [] }) } }
    else s

/-- POOL_ENABLE. -/
def execPoolEnable (v : BitVec 32) (s : State) : Host.Outcome State Fault Refusal :=
  .next (s.hostWriteReg 0x120000 v.toNat fun s => s.poolEnable v.toNat)

end Sys2Proof.Machine
end

