-- ==== Sys2Proof/Machine/Eth.lean ====
section
/-! DEFINITION. Ethernet ports, fast path, PRP and PTP (R255 to R265). PTP instants are kept in 2^-16 ps of counter
time, in which both picosecond stamps and correctionField units are whole. -/

namespace Sys2Proof.Machine

/-! ### Templates and the fast path (R258, R259) -/

/-- Whether a header image may be committed with a header length (R259). -/
def tplImageOk (hdrLen : Nat) (img : List Byte) : Bool :=
  let et := beAt img 12 2
  let ip := hdrLen - 48
  ((hdrLen = 62 && et = 0x86DD) || (hdrLen = 66 && et = 0x8100 && beAt img 16 2 = 0x86DD))
  && beAt img ip 1 / 16 = 6 && beAt img (ip + 6) 1 = 17 && beAt img (ip + 8) 1 ≠ 0xFF

/-- Template t is in use by an enabled FP_MAP entry (R259). -/
def State.tplInUse (s : State) (t : Nat) : Bool :=
  (List.range 32).any fun i => s.on (Reg.ETH.FP_MAP.EN (i / 8) (i % 8)) && s.get (Reg.ETH.FP_MAP.TPL (i / 8) (i % 8)) = t

/-- A write of FP_TPL_CTL[t]: HDR_LEN is 62 or 66, a template in use cannot be changed, COMMIT checks the image. A
changed HDR_LEN without COMMIT leaves the image uncommitted. -/
def State.fpTplCtl (s : State) (t v : Nat) : State :=
  let off := 0x1C1040 + t * 0x80
  let len := bitsAt v 0 7
  if len ≠ 62 ∧ len ≠ 66 then s.illegal off
  else if s.tplInUse t then (if bitsAt v 7 1 = 0 ∧ len = s.get (Reg.ETH.FP_TPL_CTL.HDR_LEN t) then s else s.illegal off)
  else if bitsAt v 7 1 = 1 then
    if tplImageOk len (leBytes 64 (s.get (Reg.ETH.FP_TPL.IMAGE t))) then
      (s.put (Reg.ETH.FP_TPL_CTL.HDR_LEN t) len).put (Reg.ETH.FP_TPL_CTL.VALID t) 1
    else s.illegal off
  else
    let s := if len = s.get (Reg.ETH.FP_TPL_CTL.HDR_LEN t) then s else s.put (Reg.ETH.FP_TPL_CTL.VALID t) 0
    s.put (Reg.ETH.FP_TPL_CTL.HDR_LEN t) len

/-- FP_TPL_COMMIT. -/
def execFpTplCommit (t : Fin 32) (v : BitVec 32) (s : State) : Host.Outcome State Fault Refusal :=
  .next (s.hostWriteReg (0x1C1040 + t * 0x80) v.toNat fun s => s.fpTplCtl t v.toNat)

/-- Sends one fast-path datagram for network n and type t (R258, R259, R260): privileged, or bulk through the active
head's port; one that no port takes is dropped. -/
def State.fastPathSend (s : State) (n t : Nat) (payload : List Byte) : State :=
  if !s.on (Reg.ETH.FP_MAP.EN n t) then s
  else
    let frame := buildDatagram (s.tplHeader (s.get (Reg.ETH.FP_MAP.TPL n t))) payload
    if s.on (Reg.ETH.FP_MAP.PRIV n t) then
      let r := s.sendPriv frame
      if r.2 then r.1.bump Reg.ETH.FP_SENT else r.1.fireOnce 196
    else
      let r := s.queueFrame s.active (s.get (Reg.ETH.FP_MAP.PORT n t)) true frame
      if r.2 then r.1.bump Reg.ETH.FP_SENT else (r.1.bump Reg.ETH.FP_DROP).fireOnce 196

/-! ### Links and supervision (R255, R260) -/

/-- TX_PHY and RX_PHY of a mode, typical, in ps (R255). -/
def phyTable (mode : Nat) : Nat × Nat := [(86400, 168200), (98600, 251300), (62100, 130500), (41000, 52700)].getD mode (0, 0)

/-- PHY delays within 3 ns of the table (R262). -/
def phyOk (mode tx rx : Nat) : Bool :=
  let t := phyTable mode
  t.1 ≤ tx + 3000 && tx ≤ t.1 + 3000 && t.2 ≤ rx + 3000 && rx ≤ t.2 + 3000

/-- A port link comes up with its fixed PHY delays, or goes down (R262, R265). -/
def State.linkChange (s : State) (h p : Nat) (up : Bool) (tx rx : Nat) : State :=
  let s := s.put (Reg.ETH.PORT_STATUS.LINK h p) (bit up)
  let s := s.put (Reg.ETH.PORT_STATUS.LINK_CHG h p) 1
  let s := s.put (Reg.ETH.TX_PHY.VALID h p) (bit up)
  let s := s.put (Reg.ETH.RX_PHY.VALID h p) (bit up)
  let s := if up then (s.put (Reg.ETH.TX_PHY.PS h p) tx).put (Reg.ETH.RX_PHY.PS h p) rx
    else { s with eth := { s.eth with egress := Tbl.erase s.eth.egress (2 * h + p), tx := Tbl.erase s.eth.tx (2 * h + p),
                                      peers := Tbl.erase s.eth.peers (2 * h + p) } }
  s.fire 192

/-- ETH_LINK_CHANGE. A link comes up only on an enabled port, with the PHY delays of its mode. -/
def execEthLinkChange (h p : Fin 2) (up : Bool) (txPhyPs rxPhyPs : Nat) (s : State) : Host.Outcome State Fault Refusal :=
  .next (s.when (s.logicUp && s.headUp h && up ≠ s.on (Reg.ETH.PORT_STATUS.LINK h p)
      && (!up || (s.on (Reg.ETH.PORT_CFG.EN h p) && phyOk (s.get (Reg.ETH.PORT_CFG.MODE h p)) txPhyPs rxPhyPs))) fun s => s.linkChange h p up txPhyPs rxPhyPs)

/-- The PRP supervision frame of a port's MAC address (IEC 62439-3): life-check TLV, padded to 60 bytes.
[PRESUMED, log entry 158] -/
def supervisionFrame (mac seq : Nat) : List Byte :=
  let f := [0x01, 0x15, 0x4E, 0x00, 0x01, 0x00] ++ beBytes 6 mac ++ beBytes 2 0x88FB ++ beBytes 2 1 ++ beBytes 2 seq
    ++ [20, 6] ++ beBytes 6 mac ++ [0, 0]
  sliceB f 0 60

/-- Supervision frames on each LAN, LIFE_MS after those before at the earliest (R260). -/
def State.supervise (s : State) : State :=
  let one (s : State) (h : Nat) : State :=
    let f := supervisionFrame (s.get (Reg.ETH.MAC.ADDR h 0)) s.eth.prpSeq
    (s.queueFrame h 0 false (if s.on Reg.ETH.PRP_CFG.EN then f ++ prpTrailer f s.eth.prpSeq h else f)).1
  let now := s.counterNs
  let s := (one (one s 0) 1).nextPrp
  { s with eth := { s.eth with lifeAt := some now } }

/-- Supervision frames are due. -/
def State.lifeDue (s : State) : Bool :=
  s.live && s.on Reg.ETH.PRP_CFG.SUPERVISION
  && s.eth.lifeAt.all fun t => s.get Reg.ETH.PRP_CFG.LIFE_MS * 1000000 ≤ s.nsSince t

/-- PRP_SUPERVISION. -/
def execPrpSupervision (s : State) : Host.Outcome State Fault Refusal := .next (s.when s.lifeDue State.supervise)

/-! ### PTP messages (R261 to R263) -/

/-- 2^-16 ps in a nanosecond. -/
def psUnit : Int := 65536

/-- A stamp in ps as an instant. -/
def ofPs (ps : Int) : Int := ps * psUnit

/-- A correctionField, signed 2^-16 ns, as a span. -/
def ofCorrection (c : Nat) : Int := signedOf 64 c * 1000

/-- A span as a correctionField change in 2^-16 ns, rounded to nearest (R263). -/
def toCorrection (d : Int) : Int := (d + 500) / 1000

/-- A PTP timestamp of 10 bytes as an instant. -/
def ptpTime (b : List Byte) (i : Nat) : Int := (beAt b i 6 * 1000000000 + beAt b (i + 6) 4 : Nat) * 1000 * psUnit

/-- An instant as the 10 bytes of a PTP timestamp, whole nanoseconds. -/
def ptpBytes (t : Int) : List Byte :=
  let ns := (t / (1000 * psUnit)).toNat
  beBytes 6 (ns / 1000000000) ++ beBytes 4 (ns % 1000000000)

/-- Offset of the PTP message in a frame: Annex F, EtherType 0x88F7; Annex E, UDP over IPv6 to port 319 or 320. -/
def State.ptpOffset (s : State) (f : List Byte) : Option Nat :=
  let l2 := l2Len f
  if s.on Reg.ETH.PTP_CFG.TRANSPORT then
    if beAt f (l2 - 2) 2 = 0x86DD && beAt f (l2 + 6) 1 = 17 && (beAt f (l2 + 42) 2 = 319 || beAt f (l2 + 42) 2 = 320)
    then some (l2 + 48) else none
  else if beAt f (l2 - 2) 2 = 0x88F7 then some l2 else none

/-- A frame without its PRP trailer, and the trailer's sequence number and LAN id; supervision frames carry one too. -/
def prpStrip (f : List Byte) : List Byte × Option (Nat × Nat) :=
  let n := f.length
  if beAt f (n - 2) 2 = 0x88FB then (f.take (n - 6), some (beAt f (n - 6) 2, beAt f (n - 4) 1 / 16))
  else (f, none)

/-- The LAN's slave state: 0 A, 1 B. -/
def Eth.lan (e : Eth) (l : Nat) : PtpLan := if l = 0 then e.lanA else e.lanB

/-- Replaces a LAN's slave state. -/
def State.setLan (s : State) (l : Nat) (p : PtpLan) : State :=
  { s with eth := if l = 0 then { s.eth with lanA := p } else { s.eth with lanB := p } }

/-- Shows masters and the LAN in use (R264): LAN A while it has a master, otherwise LAN B; source 193 on each change of LAN
or master. -/
def State.showMasters (s : State) (before : Option PtpMaster) (lanBefore : Nat) : State :=
  let a := s.eth.lanA.master
  let b := s.eth.lanB.master
  let l := if a.isSome then 0 else 1
  let m := (s.eth.lan l).master
  let s := { s with eth := { s.eth with lanUsed := l } }
  let s := s.put Reg.ETH.PTP_STATUS.MASTER_A (bit a.isSome)
  let s := s.put Reg.ETH.PTP_STATUS.MASTER_B (bit b.isSome)
  let s := s.put Reg.ETH.PTP_STATUS.LAN l
  let s := s.put Reg.ETH.PTP_MASTER.ID ((m.map (·.gmId)).getD 0)
  if l ≠ lanBefore ∨ (m.map (·.port)) ≠ (before.map (·.port)) then s.fire 193 else s

/-- The master the slave uses now. -/
def State.usedMaster (s : State) : Option PtpMaster := (s.eth.lan s.eth.lanUsed).master

/-- Byte-wise comparison: a comes before b. -/
def bytesBefore : List Byte → List Byte → Bool
  | a :: as, b :: bs => if a = b then bytesBefore as bs else a.toNat < b.toNat
  | [], _ :: _ => true
  | _, [] => false

/-- An Announce (R261): it replaces the master of its LAN when its dataset is better, or refreshes it.
[PRESUMED, log entry 158] -/
def State.announce (s : State) (l : Nat) (m : List Byte) : State :=
  let port := sliceB m 20 10
  let d := sliceB m 47 6 ++ sliceB m 53 8 ++ sliceB m 61 2 ++ port
  let new : PtpMaster := ⟨d, beAt m 53 8, port, beAt m 33 1, s.counterNs⟩
  if 255 ≤ beAt m 61 2 then s
  else
    let take := match (s.eth.lan l).master with
      | some old => old.port = port || bytesBefore d old.dataset
      | none => true
    if take then
      let before := s.usedMaster
      let p := s.eth.lan l
      let p := if (p.master.map (·.port)) = some port then { p with master := some new }
        else { PtpLan.init with master := some new, nextSeq := p.nextSeq }
      (s.setLan l p).showMasters before s.eth.lanUsed
    else s

/-- A master whose Announce messages stopped is dropped (R261). [DEDUCED, log entry 92] -/
def State.dropMaster (s : State) (l : Nat) : State :=
  (s.setLan l { PtpLan.init with nextSeq := (s.eth.lan l).nextSeq }).showMasters s.usedMaster s.eth.lanUsed

/-- An announce interval in ns, 2^x s with x signed, taken no shorter than 1 ns. [PRESUMED, log entry 158] -/
def announceNs (x : Nat) : Nat :=
  match signedOf 8 x with
  | .ofNat k => 1000000000 * 2 ^ k
  | .negSucc k => 1000000000 / 2 ^ (k + 1)

/-- The master of a LAN has been silent for ANN_TIMEOUT announce intervals (R261). -/
def State.masterSilent (s : State) (l : Nat) : Bool :=
  (s.eth.lan l).master.any fun m => s.get Reg.ETH.PTP_CFG.ANN_TIMEOUT * announceNs m.announceIntervals ≤ s.nsSince m.heardAt

/-- ANNOUNCE_TIMEOUT. -/
def execAnnounceTimeout (lan : Fin 2) (s : State) : Host.Outcome State Fault Refusal :=
  .next (s.when (s.logicUp && s.masterSilent lan) fun s => s.dropMaster lan)

/-- Adds a frame to a port's egress queue. -/
def State.queueEgress (s : State) (h p : Nat) (e : EgressFrame) : State :=
  if s.portUp h p then
    { s with eth := { s.eth with egress := Tbl.put s.eth.egress (2 * h + p) (Tbl.getD s.eth.egress (2 * h + p) [] ++ [e]) } }
  else s

/-- The clock identity of a port: its MAC address as an EUI-64, and port number 1 + p. -/
def State.portIdentity (s : State) (h p : Nat) : List Byte :=
  let mac := beBytes 6 (s.get (Reg.ETH.MAC.ADDR h p))
  mac.take 3 ++ [0xFF, 0xFE] ++ mac.drop 3 ++ beBytes 2 (p + 1)

/-- The Ethernet and, under Annex E, IPv6 and UDP header of a PTP message the part originates.
[PRESUMED, log entry 158] -/
def State.ptpHeader (s : State) (h p : Nat) (event peer : Bool) (msgLen : Nat) : List Byte :=
  let mac := beBytes 6 (s.get (Reg.ETH.MAC.ADDR h p))
  if s.on Reg.ETH.PTP_CFG.TRANSPORT then
    let group : List Byte := [0xFF, if peer then 0x02 else 0x0E] ++ List.replicate 12 0 ++ [if peer then 0x00 else 0x01, if peer then 0x6B else 0x81]
    [0x33, 0x33, 0x00, 0x00, if peer then 0x00 else 0x01, if peer then 0x6B else 0x81] ++ mac ++ beBytes 2 0x86DD
      ++ [0x60, 0, 0, 0] ++ beBytes 2 (8 + msgLen) ++ [17, 1] ++ beBytes 16 (s.get (Reg.ETH.IP6.ADDR h p)) ++ group
      ++ beBytes 2 (if event then 319 else 320) ++ beBytes 2 (if event then 319 else 320) ++ beBytes 2 (8 + msgLen) ++ [0, 0]
  else
    let fwd := s.on Reg.ETH.PTP_CFG.FWD_MCAST && !peer
    (if fwd then [0x01, 0x1B, 0x19, 0, 0, 0] else [0x01, 0x80, 0xC2, 0, 0, 0x0E]) ++ mac ++ beBytes 2 0x88F7

/-- A PTP message header and body: type, correction, sequence number, body. [PRESUMED, log entry 158] -/
def State.ptpMessage (s : State) (h p typ : Nat) (corr : Nat) (seq : Nat) (body : List Byte) : List Byte :=
  beBytes 1 typ ++ [2] ++ beBytes 2 (34 + body.length) ++ beBytes 1 (s.get Reg.ETH.PTP_CFG.DOMAIN) ++ [0, 0, 0]
    ++ beBytes 8 corr ++ [0, 0, 0, 0] ++ s.portIdentity h p ++ beBytes 2 seq ++ [if typ = 1 then 1 else 5, 0x7F] ++ body

/-- A whole PTP frame the part originates; under Annex E its UDP checksum is computed over the message with the two
bytes R263 rewrites appended. -/
def State.ptpFrame (s : State) (h p typ corr seq : Nat) (body : List Byte) : List Byte :=
  let event := typ < 8
  let peer := typ = 2 || typ = 3
  let msg := s.ptpMessage h p typ corr seq body
  if s.on Reg.ETH.PTP_CFG.TRANSPORT then
    buildDatagram (s.ptpHeader h p event peer (msg.length + 2)) (msg ++ [0, 0])
  else s.ptpHeader h p event peer msg.length ++ msg

/-- Queues a PTP frame that head h originates at port p: from port 0 on each LAN, with one PRP sequence number (R260), from
port 1 there alone. [DEDUCED, log entry 197] -/
def State.sendPtp (s : State) (h p typ corr seq : Nat) (body : List Byte) (ingress : Option Int) : State :=
  let f := s.ptpFrame h p typ corr seq body
  if p = 0 then
    let q := some s.eth.prpSeq
    ((s.queueEgress 0 0 ⟨f, some (h, q), ingress, 0⟩).queueEgress 1 0 ⟨f, some (h, q), ingress, 0⟩).nextPrp
  else s.queueEgress h p ⟨f, some (h, none), ingress, 0⟩

/-- delayAsymmetry of a port (R262). -/
def State.asymmetry (s : State) (h p : Nat) : Int := ofPs (signedOf 21 (s.get (Reg.ETH.ASYM.PS h p)))

/-- Pdelay of port p of head h. -/
def State.peer (s : State) (h p : Nat) : PeerPort := Tbl.getD s.eth.peers (2 * h + p) .init

/-- Replaces the Pdelay of a port. -/
def State.setPeer (s : State) (h p : Nat) (x : PeerPort) : State :=
  { s with eth := { s.eth with peers := Tbl.put s.eth.peers (2 * h + p) x } }

/-- A complete Sync of LAN l, with delayAsymmetry added to what came with it: its offset is formed when a path delay is known,
and end to end the path is measured again. -/
def State.syncComplete (s : State) (l : Nat) (t1 t2 : Int) : State :=
  let p := s.eth.lan l
  let t1 := t1 + s.asymmetry l 0
  let d := if s.on Reg.ETH.PTP_CFG.DELAY_MECH then (s.peer l 0).delay else p.delay
  let p := { p with sync := none, lastSync := some (t1, t2), syncs := p.syncs + 1,
                    offsets := match d with | some d => p.offsets ++ [t2 - t1 - d] | none => p.offsets,
                    delays := match d with | some d => p.delays ++ [d] | none => p.delays }
  if s.on Reg.ETH.PTP_CFG.DELAY_MECH then s.setLan l p
  else (s.setLan l { p with nextSeq := (p.nextSeq + 1) % 65536 }).sendPtp l 0 1 0 ((p.nextSeq + 1) % 65536)
    (List.replicate 10 0) none

/-- The slave's reading of a message from its master on LAN l (R261, R262). -/
def State.slave (s : State) (l : Nat) (m : List Byte) (t : Int) : State :=
  let typ := beAt m 0 1 % 16
  let seq := beAt m 30 2
  let corr := ofCorrection (beAt m 8 8)
  let p := s.eth.lan l
  let fromMaster := (p.master.map (·.port)) = some (sliceB m 20 10)
  match typ with
  | 0 =>
    if !fromMaster then s
    else if bitsAt (beAt m 6 1) 1 1 = 1 then s.setLan l { p with sync := some (seq, t, corr) }
    else s.syncComplete l (ptpTime m 34 + corr) t
  | 8 =>
    match p.sync with
    | some (q, t2, c) => if fromMaster && q = seq then s.syncComplete l (ptpTime m 34 + corr + c) t2 else s
    | none => s
  | 9 =>
    match p.req, p.lastSync with
    | some (q, t3), some (t1, t2) =>
      if fromMaster && q = seq && sliceB m 44 10 = s.portIdentity l 0 then
        s.setLan l { p with req := none, delay := some (((t2 - t1) + (ptpTime m 34 - corr - t3)) / 2) }
      else s
    | _, _ => s
  | _ => s

/-- A link delay measured by port p of head h: from t1, t4, what passed between t2 and t3, and the corrections. -/
def State.learnPeer (s : State) (h p : Nat) (t1 t4 turn corr : Int) : State :=
  s.setPeer h p { s.peer h p with req := none, presp := none, delay := some (((t4 - t1) - turn - corr) / 2) }

/-- Peer delay (R263): a request is answered, and a response to this port's own request, in one step or two, gives the link
delay. delayAsymmetry is added to a response that comes in (R262). [PRESUMED, log entry 158] -/
def State.peerDelay (s : State) (h p : Nat) (m : List Byte) (t : Int) : State :=
  let typ := beAt m 0 1 % 16
  let seq := beAt m 30 2
  let corr := ofCorrection (beAt m 8 8)
  if typ = 2 then s.sendPtp h p 3 (beAt m 8 8) seq (List.replicate 10 0 ++ sliceB m 20 10) (some t)
  else if sliceB m 44 10 ≠ s.portIdentity h p then s
  else
    let x := s.peer h p
    match typ, x.req with
    | 3, some (q, t1) =>
      if q ≠ seq then s
      else if bitsAt (beAt m 6 1) 1 1 = 1 then
        s.setPeer h p { x with presp := some (seq, ptpTime m 34, t, corr + s.asymmetry h p) }
      else s.learnPeer h p t1 t 0 (corr + s.asymmetry h p)
    | 10, some (q, t1) =>
      match x.presp with
      | some (q', t2, t4, c) =>
        if q = seq && q' = seq then s.learnPeer h p t1 t4 (ptpTime m 34 - t2) (c + corr) else s
      | none => s
    | _, _ => s

/-- A port takes part in the peer-to-peer profile: the slave's, or any port of the transparent clock (R261). -/
def State.peerPort (s : State) (h p : Nat) : Bool :=
  s.on Reg.ETH.PTP_CFG.DELAY_MECH && s.portUp h p
  && (s.on Reg.ETH.PTP_CFG.TC_EN || (s.on Reg.ETH.PTP_CFG.EN && p = 0))

/-- Port p of head h asks for its link delay once a second. [PRESUMED, log entry 158] -/
def State.askPeer (s : State) (h p : Nat) : State :=
  let x := s.peer h p
  if s.peerPort h p && x.askedAt.all fun t => 1000000000 ≤ s.nsSince t then
    let seq := (x.nextSeq + 1) % 65536
    let now := s.counterNs
    (s.setPeer h p { x with nextSeq := seq, askedAt := some now }).sendPtp h p 2 0 seq (List.replicate 20 0) none
  else s

/-- Message types whose residence the transparent clock adds (R263). [PRESUMED, log entry 158] -/
def residenceType (typ : Nat) : Bool := typ < 4

/-- What is added to a forwarded message at its ingress port: delayAsymmetry to Sync and Pdelay_Resp, and in the peer-to-peer
profile the link delay to Sync (R262, R263). -/
def State.ingressAdjust (s : State) (h p typ : Nat) : Int :=
  (if typ = 0 ∨ typ = 3 then s.asymmetry h p else 0)
  + (if typ = 0 && s.on Reg.ETH.PTP_CFG.DELAY_MECH then (s.peer h p).delay.getD 0 else 0)

/-- The transparent clock queues a message for the other port of its head (R263). -/
def State.tcForward (s : State) (h p : Nat) (f : List Byte) (m : List Byte) (t : Int) : State :=
  let typ := beAt m 0 1 % 16
  let peer := typ = 2 || typ = 3 || typ = 10
  if s.on Reg.ETH.PTP_CFG.TC_EN && !(peer && s.on Reg.ETH.PTP_CFG.DELAY_MECH) && s.portUp h (1 - p) then
    (s.queueEgress h (1 - p) ⟨f, none, some t, s.ingressAdjust h p typ⟩).bump Reg.ETH.TC_FORWARDED
  else s

/-- A received PTP message (R261): forwarded by the transparent clock, and read by the slave in its own domain. -/
def State.ptpReceive (s : State) (h p : Nat) (f m : List Byte) (t : Int) : State :=
  let s := s.bump Reg.ETH.RX_PTP
  let s := s.tcForward h p f m t
  let typ := beAt m 0 1 % 16
  if beAt m 4 1 ≠ s.get Reg.ETH.PTP_CFG.DOMAIN then s
  else if typ = 2 || typ = 3 || typ = 10 then (if s.peerPort h p then s.peerDelay h p m t else s)
  else if p = 0 && s.on Reg.ETH.PTP_CFG.EN then (if typ = 11 then s.announce h m else s.slave h m t)
  else s

/-- The Neighbour Advertisement answering a solicitation (R256). [PRESUMED, log entry 158] -/
def State.neighbourAdvert (s : State) (h p : Nat) (f : List Byte) : List Byte :=
  let mac := beBytes 6 (s.get (Reg.ETH.MAC.ADDR h p))
  let me := beBytes 16 (s.get (Reg.ETH.IP6.ADDR h p))
  let l2 := l2Len f
  let dst := sliceB f (l2 + 8) 16
  let icmp := [136, 0, 0, 0, 0x60, 0, 0, 0] ++ me ++ [2, 1] ++ mac
  let c := 0xFFFF - fold16 (sum16 (me ++ dst ++ beBytes 4 32 ++ beBytes 4 58 ++ icmp))
  sliceB f 6 6 ++ mac ++ beBytes 2 0x86DD ++ [0x60, 0, 0, 0] ++ beBytes 2 32 ++ [58, 255] ++ me ++ dst ++ patchB icmp 2 (beBytes 2 c)

/-- A Neighbour Solicitation for the port's IP6 address. [PRESUMED, log entry 158] -/
def State.isSolicitation (s : State) (h p : Nat) (f : List Byte) : Bool :=
  let l2 := l2Len f
  beAt f (l2 - 2) 2 = 0x86DD && beAt f (l2 + 6) 1 = 58 && beAt f (l2 + 40) 1 = 135
  && beAt f (l2 + 48) 16 = s.get (Reg.ETH.IP6.ADDR h p)

/-- PRP on receipt (R260): a frame seen on the other LAN within FORGET_MS is a duplicate; a trailer naming the wrong
LAN counts and raises source 195. The flag says that the frame goes on. -/
def State.prpReceive (s : State) (h : Nat) (f : List Byte) (tr : Option (Nat × Nat)) : State × Bool :=
  match tr with
  | none => (s, true)
  | some (seq, lan) =>
    let s := if lan = 0xA + h then s else (s.bump Reg.ETH.PRP_WRONG_LAN).fire 195
    let now := s.counterNs / 1000000
    let src := beAt f 6 6
    let live := s.eth.prpSeen.filter fun e => now < e.2.2.2 + s.get Reg.ETH.PRP_CFG.FORGET_MS
    if live.any fun e => e.1 = src && e.2.1 = seq && e.2.2.1 ≠ h then
      (({ s with eth := { s.eth with prpSeen := live } }).bump Reg.ETH.PRP_DUP_DISCARD, false)
    else ({ s with eth := { s.eth with prpSeen := live ++ [(src, seq, h, now)] } }, true)

/-- The pause time, in quanta of 512 bit times, of a PAUSE frame (IEEE 802.3 Annex 31B). [PRESUMED, log entry 158] -/
def pauseQuanta (f : List Byte) : Option Nat :=
  if beAt f 0 6 = 0x0180C2000001 ∧ beAt f 12 2 = 0x8808 ∧ beAt f 14 2 = 1 then some (beAt f 16 2) else none

/-- A PAUSE frame stops the port's transmission for its time from now, or, with time 0, lets it go on (R255).
[DEDUCED, log entry 194] -/
def State.pause (s : State) (h p quanta : Nat) : State :=
  let ns := (quanta * 512 * (if s.get (Reg.ETH.PORT_CFG.MODE h p) = 0 then 1 else 4) + 99) / 100
  (s.setTxPort h p { s.txPort h p with pause := (s.counterNs, ns) }).drainPort h p

/-- The answer to a solicitation leaves by the active head alone (R12). [DEDUCED, log entry 198] -/
def State.answerSolicitation (s : State) (h p : Nat) (f : List Byte) : State :=
  if h = s.active then (s.queueFrame h p true (s.neighbourAdvert h p f)).1 else s

/-- A received frame (R255, R256): over-long frames are counted, PAUSE acts where it is honoured, PRP duplicates are discarded,
PTP, supervision and solicitations accepted, everything else counted in RX_DISCARD. -/
def State.ethReceive (s : State) (h p : Nat) (bytes : List Byte) (stampPs : Nat) : State :=
  if s.get (Reg.ETH.PORT_CFG.MAX_FRAME h p) < bytes.length + 4 then s.bump Reg.ETH.OVERSIZE
  else
    match pauseQuanta bytes with
    | some q => if s.on (Reg.ETH.PORT_CFG.PAUSE_RX h p) then s.pause h p q else s.bump Reg.ETH.RX_DISCARD
    | none =>
      let r := if p = 0 then prpStrip bytes else (bytes, none)
      let f := r.1
      let g := s.prpReceive h f r.2
      let s := g.1
      if !g.2 then s
      else match s.ptpOffset f with
        | some o =>
          if s.on Reg.ETH.PTP_CFG.EN || s.on Reg.ETH.PTP_CFG.TC_EN then
            s.ptpReceive h p f (f.drop o) (ofPs ((stampPs : Int) - s.get (Reg.ETH.RX_PHY.PS h p)))
          else s.bump Reg.ETH.RX_DISCARD
        | none =>
          if beAt f (l2Len f - 2) 2 = 0x88FB && beAt f 0 5 = 0x01154E0001 then s
          else if s.isSolicitation h p f then s.answerSolicitation h p f
          else s.bump Reg.ETH.RX_DISCARD

/-- ETH_FRAME_RX. -/
def execEthFrameRx (h p : Fin 2) (bytes : List Byte) (stampPs : Nat) (s : State) : Host.Outcome State Fault Refusal :=
  formed (.ethFrameRx h p bytes stampPs) (s.when (s.logicUp && s.portUp h p) fun s => s.ethReceive h p bytes stampPs)

/-- Rewrites the final two bytes of a message so that its UDP checksum stays valid (R263). -/
def fixChecksum (old new : List Byte) : List Byte :=
  let n := new.length
  let d := fold16 (sum16 old + (0xFFFF - fold16 (sum16 (patchB new (n - 2) [0, 0]))))
  patchB new (n - 2) (beBytes 2 d)

/-- delayAsymmetry of the egress port is taken off Delay_Req and Pdelay_Req (R262). -/
def State.egressAdjust (s : State) (h p typ : Nat) : Int := if typ = 1 ∨ typ = 2 then -s.asymmetry h p else 0

/-- Adds a span to a message's correctionField, in 2^-16 ns rounded to nearest (R263). -/
def addCorrection (m : List Byte) (d : Int) : List Byte :=
  patchB m 8 (beBytes 8 (fieldOf 64 (signedOf 64 (beAt m 8 8) + toCorrection d)))

/-- The frame as it leaves: originTimestamp and correctionField (R262, R263). Under Annex E a message so changed has its
final two bytes rewritten. -/
def State.stampEgress (s : State) (h p : Nat) (e : EgressFrame) (t : Int) : List Byte :=
  match s.ptpOffset e.bytes with
  | none => e.bytes
  | some o =>
    let m := e.bytes.drop o
    let typ := beAt m 0 1 % 16
    let stay : Int := match e.ingress with
      | some t0 => t - t0
      | none => 0
    let m' := if residenceType typ then addCorrection m (stay + e.adjust + s.egressAdjust h p typ) else m
    let m' := if e.own.isSome && typ ≠ 3 then patchB m' 34 (ptpBytes t) else m'
    e.bytes.take o ++ (if s.on Reg.ETH.PTP_CFG.TRANSPORT && m' ≠ m then fixChecksum m m' else m')

/-- A request that leaves by its own port: its egress instant is kept for the response. -/
def State.requestLeaves (s : State) (h p : Nat) (m : List Byte) (t : Int) : State :=
  let typ := beAt m 0 1 % 16
  let seq := beAt m 30 2
  if typ = 1 then s.setLan h { s.eth.lan h with req := some (seq, t) }
  else if typ = 2 then s.setPeer h p { s.peer h p with req := some (seq, t), presp := none }
  else s

/-- A PTP frame leaves a port (R262, R263); one that the part originates carries the PRP trailer of its LAN (R260), and
counts once. [DEDUCED, log entry 197] -/
def State.ptpLeave (s : State) (h p : Nat) (e : EgressFrame) (rest : List EgressFrame) (stampPs : Nat) : State :=
  let t := ofPs ((stampPs : Int) + s.get (Reg.ETH.TX_PHY.PS h p))
  let f := s.stampEgress h p e t
  let s := { s with eth := { s.eth with egress := Tbl.put s.eth.egress (2 * h + p) rest } }
  match e.own with
  | some (l, seq) =>
    let m := f.drop ((s.ptpOffset f).getD 0)
    let s := if l = h then (s.requestLeaves h p m t).bump Reg.ETH.PRIV_SENT else s
    let f := match seq with
      | some q => if s.on Reg.ETH.PRP_CFG.EN then f ++ prpTrailer f q h else f
      | none => f
    s.emitNow (.ethFrame h p f)
  | none => s.emitNow (.ethFrame h p f)

/-- PTP_EGRESS. -/
def execPtpEgress (h p : Fin 2) (stampPs : Nat) (s : State) : Host.Outcome State Fault Refusal :=
  .next (s.when (s.logicUp && s.portUp h p && !s.paused h p) fun s =>
    match Tbl.getD s.eth.egress (2 * h + p) [] with
    | e :: rest => s.ptpLeave h p e rest stampPs
    | [] => s)

/-! ### The cycle report (R264) -/

/-- A mean in whole nanoseconds, its rounding open. [DESIGN CHOICE, log entry 156] -/
def meanNs (l : List Int) (free : Nat) : Int :=
  let sum := l.foldl (· + ·) 0
  let d : Int := (l.length : Int) * 1000 * psUnit
  sum / d + (if sum % d ≠ 0 ∧ Config.roundUp free then 1 else 0)

/-- What a servo that follows phase and frequency finds a measured phase off by: the phase less the one expected from the
two cycles before. [DEDUCED, log entry 172] -/
def RefState.servoOffset (r : RefState) (phase : Int) : Int :=
  match r.prevPhase with
  | some p => phase - p - r.prevStep.getD 0
  | none => 0

/-- What a LAN's slave gathered in a cycle is used up. -/
def PtpLan.cycleEnd (p : PtpLan) : PtpLan := { p with syncs := 0, offsets := [], delays := [] }

/-- The slave's report at the end of a cycle (R264, R56): mean offset and path delay, or a Sync timeout. Syncs without a path
delay give no offset, and the cycle is not good. [DEDUCED, log entry 172] -/
def State.ptpCycle (s : State) : State :=
  if !s.on Reg.ETH.PTP_CFG.EN then s
  else
    let p := s.eth.lan s.eth.lanUsed
    let s := (s.setLan 0 (s.eth.lan 0).cycleEnd).setLan 1 (s.eth.lan 1).cycleEnd
    if p.syncs = 0 then (s.updRef 2 fun r => { r with cycleOk := some false }).fire 194
    else if p.offsets.isEmpty then s.updRef 2 fun r => { r with cycleOk := some false }
    else
      let off := meanNs p.offsets s.free
      let del := meanNs p.delays (s.free + 1)
      let ds := (del :: s.time.ptpDelays).take 16
      let mean := ds.foldl (· + ·) 0 / (ds.length : Int)
      let un := off - s.time.slewAcc / (2 ^ 32 : Nat)
      let locked := s.get Reg.TIME.REF_STATUS.SELECTED = 2 && !s.on Reg.TIME.REF_STATUS.SWITCHING
      let servo := if locked then off else s.time.ptp.servoOffset un
      let s := (s.spend 2)
      let s := { s with time := { s.time with ptpDelays := ds } }
      let s := s.updRef 2 fun r => { r with phase := some un, prevPhase := some un, prevStep := r.prevPhase.map (un - ·),
                                            cycleOk := some (within servo 1000 && within (del - mean) 100) }
      (s.put Reg.ETH.PTP_OFFSET.NS (fieldOf 32 off)).put Reg.ETH.PTP_DELAY.NS (fieldOf 32 del)

/-- The ports at the end of a cycle: link delays are asked for. -/
def State.peerCycle (s : State) : State := s.each [(0, 0), (0, 1), (1, 0), (1, 1)] fun s x => s.askPeer x.1 x.2

end Sys2Proof.Machine
end

