-- ==== Sys2Proof/Machine/Timers.lean ====
section
/-! DEFINITION. The 32 timer channels (R64 to R68) and the reference-cycle tick that drives them, the time counter and
the phase walks (R45, R47). -/

namespace Sys2Proof.Machine

/-- A timer channel's running state. -/
def State.timer (s : State) (k : Nat) : TimerRun := Tbl.getD s.timers k ⟨0, 0, 0, none⟩

/-- Replaces a timer channel's running state. -/
def State.setTimer (s : State) (k : Nat) (r : TimerRun) : State := { s with timers := Tbl.put s.timers k r }

/-- Channel k is the even half of a cascaded pair (R65). -/
def State.cascadeEven (s : State) (k : Nat) : Bool := k % 2 = 0 && s.on (Reg.TIMERS.CH_CTL.CASCADE k)

/-- Channel k is the odd half of a cascaded pair (R65). -/
def State.cascadeOdd (s : State) (k : Nat) : Bool := k % 2 = 1 && s.on (Reg.TIMERS.CH_CTL.CASCADE (k - 1))

/-- Width of the counter channel k heads: 64 for a cascaded even channel. -/
def State.timerWidth (s : State) (k : Nat) : Nat := if s.cascadeEven k then 64 else 32

/-- COUNT of an odd channel of a pair, wraps of its partner included. [DEDUCED, log entry 28] -/
def State.oddCount (s : State) (k : Nat) : Nat :=
  (s.get (Reg.TIMERS.COUNT k) + (s.timer (k - 1)).wraps) % 2 ^ 32

/-- The counter value channel k heads, 64 bits for a cascaded pair (R65). -/
def State.timerCount (s : State) (k : Nat) : Nat :=
  if s.cascadeEven k then s.get (Reg.TIMERS.COUNT k) + s.oddCount (k + 1) * 2 ^ 32 else s.get (Reg.TIMERS.COUNT k)

/-- COMPARE and INTERVAL of the counter channel k heads. -/
def State.timerWide (s : State) (fld : Nat → Fld) (k : Nat) : Nat :=
  if s.cascadeEven k then s.get (fld k) + s.get (fld (k + 1)) * 2 ^ 32 else s.get (fld k)

/-- Writes COMPARE of the counter channel k heads. -/
def State.putCompare (s : State) (k v : Nat) : State :=
  let s := if s.cascadeEven k then s.put (Reg.TIMERS.COMPARE (k + 1)) (v / 2 ^ 32) else s
  s.put (Reg.TIMERS.COMPARE k) v

/-- Adds counts to channel k; wraps are kept for TIMER_OVERFLOW. -/
def State.timerAdd (s : State) (k n pre : Nat) : State :=
  let c := s.get (Reg.TIMERS.COUNT k) + n
  let r := s.timer k
  (s.put (Reg.TIMERS.COUNT k) c).setTimer k
    { r with fresh := min (r.fresh + n) (2 ^ s.timerWidth k), wraps := r.wraps + c / 2 ^ 32, pre := pre }

/-- Quarter HCLK cycles per reference cycle at the head level (R16, R41). [DESIGN CHOICE, log entry 25] -/
def State.hclkQuarters (s : State) : Nat := [100, 75, 50].getD (s.get Reg.PWR.LEVEL_STATUS.NOW % 4) 50

/-- Quarter HCLK cycles of a span of reference cycles, spread spectrum included as a free value (R64). -/
def State.hclkSpan (s : State) (cycles : Nat) : Nat :=
  if s.clk.ssMode = 0 ∨ s.clk.ssDepth = 0 then cycles * s.hclkQuarters
  else Config.spreadQuarters s.clk.ssMode s.clk.ssDepth (cycles * s.hclkQuarters) s.free

/-- One channel's share of a span: HCLK/n or nanoseconds (R64). A channel of a pair's odd half counts only wraps. -/
def State.timerSpan (s : State) (quarters ns k : Nat) : State :=
  if s.on (Reg.TIMERS.CH_CTL.RUN k) && !s.cascadeOdd k then
    match s.get (Reg.TIMERS.CH_CTL.SRC k) with
    | 0 =>
      let q := (s.timer k).pre + quarters
      let per := 4 * (s.get (Reg.TIMERS.CH_CTL.PRESCALE k) + 1)
      s.timerAdd k (q / per) (q % per)
    | 1 => s.timerAdd k ns (s.timer k).pre
    | _ => s
  else s

/-- The slot tick of the channels that count it (R64). -/
def State.timerSlot (s : State) : State :=
  s.each (List.range 32) fun s k =>
    if s.on (Reg.TIMERS.CH_CTL.RUN k) && !s.cascadeOdd k && s.get (Reg.TIMERS.CH_CTL.SRC k) = 2 then
      s.timerAdd k 1 (s.timer k).pre else s

/-- A span of reference cycles: the counter, the timer channels, the phase walks and the pulses of SYSREF. -/
def State.timeSpan (s : State) (cycles : Nat) : State :=
  let before := s.counterNs
  let q := s.hclkSpan cycles
  let s := { s with time := s.time.advance cycles }
  let ns := s.nsSince before
  let s := if s.clk.ssMode = 0 then s else s.spend 1
  let s := s.each (List.range 32) fun s k => s.timerSpan q ns k
  (s.walkPhases cycles).sysrefSpan cycles

/-- The health window runs down (R337): LEFT_MS counts whole milliseconds still left, of 40,960 cycles each.
[DEDUCED, log entry 121] -/
def State.bootTick (s : State) (cycles : Nat) : State :=
  match s.boot.watch with
  | some n =>
    ({ s with boot := { s.boot with watch := some (n - cycles) } }).put Reg.BOOT.HEALTH.LEFT_MS ((n - cycles + 40959) / 40960)
  | none => s

/-- TIME_TICK. -/
def execTimeTick (cycles : Nat) (s : State) : Host.Outcome State Fault Refusal :=
  .next (s.when s.logicUp fun s => (s.timeSpan cycles).bootTick cycles)

/-- A TIMERS.GO write sets RUN on every channel named (R68). -/
def State.timersGo (s : State) (v : Nat) : State :=
  s.each (List.range 32) fun s k => if bitsAt v k 1 = 1 then s.put (Reg.TIMERS.CH_CTL.RUN k) 1 else s

/-- TIMERS_GO. -/
def execTimersGo (v : BitVec 32) (s : State) : Host.Outcome State Fault Refusal :=
  .next (s.hostWriteReg 0x40000 v.toNat fun s => s.timersGo v.toNat)

/-- Counts made since COUNT stood at COMPARE. [DEDUCED, log entry 27] -/
def State.pastCompare (s : State) (k : Nat) : Nat :=
  let w := 2 ^ s.timerWidth k
  (s.timerCount k % w + w - s.timerWide Reg.TIMERS.COMPARE k % w) % w

/-- COUNT has reached COMPARE since it was last judged (R66). -/
def State.matchDue (s : State) (k : Nat) : Bool := !s.cascadeOdd k && s.pastCompare k < (s.timer k).fresh

/-- A match (R66): MATCH is set and INTERVAL added to COMPARE, modulo the counter width. [DEDUCED, log entry 26] -/
def State.timerMatch (s : State) (k : Nat) : State :=
  let w := 2 ^ s.timerWidth k
  let past := s.pastCompare k
  let c := (s.timerWide Reg.TIMERS.COMPARE k + s.timerWide Reg.TIMERS.INTERVAL k) % w
  let s := (s.setTimer k { s.timer k with fresh := past }).putCompare k c
  let s := s.put (Reg.TIMERS.CH_STATUS.MATCH k) 1
  if s.on (Reg.TIMERS.CH_CTL.IE_MATCH k) then s.fire (64 + k) else s

/-- TIMER_MATCH. -/
def execTimerMatch (k : Fin 32) (s : State) : Host.Outcome State Fault Refusal :=
  .next (s.when (s.logicUp && s.matchDue k) fun s => s.timerMatch k)

/-- A wrap (R65): OVF is set, and the odd partner of a cascaded channel counts it. -/
def State.timerOverflow (s : State) (k : Nat) : State :=
  let s := s.setTimer k { s.timer k with wraps := (s.timer k).wraps - 1 }
  let s := if s.cascadeEven k then s.timerAdd (k + 1) 1 (s.timer (k + 1)).pre else s
  let s := s.put (Reg.TIMERS.CH_STATUS.OVF k) 1
  if s.on (Reg.TIMERS.CH_CTL.IE_OVF k) then s.fire (64 + k) else s

/-- TIMER_OVERFLOW. -/
def execTimerOverflow (k : Fin 32) (s : State) : Host.Outcome State Fault Refusal :=
  .next (s.when (s.logicUp && 0 < (s.timer k).wraps) fun s => s.timerOverflow k)

/-- Stores COUNT in CAPTURE, both halves for a cascaded pair (R67). [DESIGN CHOICE, log entry 170] -/
def State.storeCapture (s : State) (k : Nat) : State :=
  let c := s.timerCount k
  let s := s.put (Reg.TIMERS.CAPTURE k) c
  let s := if s.cascadeEven k then s.put (Reg.TIMERS.CAPTURE (k + 1)) (c / 2 ^ 32) else s
  let s := s.put (Reg.TIMERS.CH_STATUS.CAP_VALID k) 1
  if s.on (Reg.TIMERS.CH_CTL.IE_CAP k) then s.fire (64 + k) else s

/-- Whether channel k captures on an edge: enabled, the edge selected and one of the six that exist (R67). -/
def State.captures (s : State) (k edge : Nat) : Bool :=
  s.on (Reg.TIMERS.CH_CTL.CAP_EN k) && s.get (Reg.TIMERS.CH_CTL.CAP_SEL k) = edge && edge < 6 && !s.cascadeOdd k

/-- A capture (R67): an unread value is overwritten and OVERRUN set. [DESIGN CHOICE, log entry 170] -/
def State.timerCapture (s : State) (k : Nat) : State :=
  let s := if s.on (Reg.TIMERS.CH_STATUS.CAP_VALID k) then s.put (Reg.TIMERS.CH_STATUS.OVERRUN k) 1 else s
  s.storeCapture k

/-- TIMER_CAPTURE. -/
def execTimerCapture (k : Fin 32) (edge : Fin 8) (s : State) : Host.Outcome State Fault Refusal :=
  .next (s.when (s.logicUp && s.captures k edge) fun s => s.timerCapture k)

/-- A read of CAPTURE: the value before any edge of the same cycle, CAP_VALID cleared, the edge stored (R67). -/
def State.captureRead (s : State) (k : Nat) (edgeNow : Bool) : State × Nat :=
  let t := s.put (Reg.TIMERS.CH_STATUS.CAP_VALID k) 0
  (if edgeNow && s.on (Reg.TIMERS.CH_CTL.CAP_EN k) && !s.cascadeOdd k then t.storeCapture k else t,
    s.get (Reg.TIMERS.CAPTURE k))

/-- CAPTURE_READ. -/
def execCaptureRead (func : Fin 2) (k : Fin 32) (edgeNow : Bool) (s : State) : Host.Outcome State Fault Refusal :=
  .next (s.hostReadReg func (0x40110 + k * 0x20) fun s =>
    (s.captureRead k edgeNow).1.readDone func (0x40110 + k * 0x20) (s.captureRead k edgeNow).2)

/-- A read of COUNT (R65): an even cascaded channel latches its partner; an odd channel with a latch pending returns
and releases it. [DEDUCED, log entry 28] -/
def State.countRead (s : State) (k : Nat) : State × Nat :=
  if s.cascadeEven k then
    (s.setTimer (k + 1) { s.timer (k + 1) with latch := some (s.oddCount (k + 1)) }, s.get (Reg.TIMERS.COUNT k))
  else if s.cascadeOdd k then
    match (s.timer k).latch with
    | some v => (s.setTimer k { s.timer k with latch := none }, v)
    | none => (s, s.oddCount k)
  else (s, s.get (Reg.TIMERS.COUNT k))

/-- CASCADE_COUNT_READ. -/
def execCascadeCountRead (func : Fin 2) (k : Fin 32) (s : State) : Host.Outcome State Fault Refusal :=
  .next (s.hostReadReg func (0x40104 + k * 0x20) fun s =>
    (s.countRead k).1.readDone func (0x40104 + k * 0x20) (s.countRead k).2)

end Sys2Proof.Machine
end

