-- ==== Sys2Proof/Machine/Boot.lean ====
section
/-! DEFINITION. The boot ROM (R327, R331 to R338): selector records, the checks of a slot, the choice of a slot at a
start, the loading of policy programs, and what a reset of the part's logic leaves. -/

namespace Sys2Proof.Machine

/-! ### Boot flash -/

/-- The image of a slot, complemented. [PRESUMED, log entry 5] -/
def BootUnit.image (b : BootUnit) (k : Nat) : Memory := if k = 0 then b.imageA else b.imageB

/-- Replaces the image of a slot. -/
def BootUnit.setImage (b : BootUnit) (k : Nat) (m : Memory) : BootUnit :=
  if k = 0 then { b with imageA := m, factoryA := false } else { b with imageB := m }

/-- Bytes of a slot, erased ones 0xFF. [PRESUMED, log entry 5; DESIGN CHOICE, log entry 112] -/
def BootUnit.slotBytes (b : BootUnit) (k off n : Nat) : List Byte := ((b.image k).readBytes off n).map (255 - ·)

/-- Programs bytes of a slot: NOR flash clears bits only, so that programmed complements add up. -/
def programImage (m : Memory) (off : Nat) : List Byte → Memory
  | [] => m
  | x :: l => programImage (m.write off (m.read off ||| (255 - x))) (off + 1) l

/-- Replaces the boot unit. -/
def State.setBoot (s : State) (b : BootUnit) : State := { s with boot := b }

/-- The selector record in force: the valid one with the higher sequence number (R331). -/
def BootUnit.newest (b : BootUnit) : Option SelRec :=
  match selRec b.sec0, selRec b.sec1 with
  | some x, some y => if y.seq ≤ x.seq then some x else some y
  | some x, none => some x
  | none, y => y

/-- Writes a new record over the older one (R331). -/
def BootUnit.writeRec (b : BootUnit) (slot st other : Nat) : BootUnit :=
  let seq := (b.newest.map (·.seq)).getD 0 + 1
  let r := SelRec.bytes ⟨seq, slot, st, other⟩
  match selRec b.sec0, selRec b.sec1 with
  | some x, some y => if y.seq ≤ x.seq then { b with sec1 := r } else { b with sec0 := r }
  | some _, none => { b with sec1 := r }
  | none, _ => { b with sec0 := r }

/-! ### Manifests (R332, R333) -/

/-- The slot holds the image the part was delivered with. [DESIGN CHOICE, log entry 112] -/
def BootUnit.delivered (b : BootUnit) (k : Nat) : Bool := k = 0 && b.factoryA

/-- SVN of a slot. -/
def BootUnit.svn (b : BootUnit) (k : Nat) : Nat := if b.delivered k then 0 else beVal (b.slotBytes k 5 1)

/-- ADVANCE of a slot. -/
def BootUnit.advance (b : BootUnit) (k : Nat) : Bool := !b.delivered k && beVal (b.slotBytes k 6 1) % 2 = 1

/-- Offset, length and digest of component i of a slot. -/
def BootUnit.component (b : BootUnit) (k i : Nat) : Nat × Nat × List Byte :=
  let e := b.slotBytes k (16 + 56 * i) 56
  (beAt e 0 4, beAt e 4 4, e.drop 8)

/-- A slot's size. -/
def slotSize : Nat := 0xF80000

/-- Component i lies within its slot and matches its digest. -/
def BootUnit.componentOk (b : BootUnit) (k i : Nat) : Bool :=
  let c := b.component k i
  c.1 + c.2.1 ≤ slotSize && sha384 (b.slotBytes k c.1 c.2.1) = c.2.2

/-- The digest of the active enrolment record. -/
def State.enrolled (s : State) : Option (List Byte) :=
  if s.otp.active = 0 then none else s.otp.enrol[s.otp.active - 1]?

/-- The first check of R333 that a slot fails, 0 for none. [DESIGN CHOICE, log entry 112] -/
def State.slotFails (s : State) (k : Nat) : Nat :=
  let b := s.boot
  let m := b.slotBytes k 0 544
  if b.delivered k then
    if s.enrolled.any fun d => !Config.factoryCountersigned d then 3 else if b.svn k < s.otp.floor then 4 else 0
  else if beAt m 0 4 ≠ 0x57584D46 ∨ beAt m 4 1 ≠ 1 ∨ beAt m 7 1 ≠ 6 then 1
  else if !Config.farramSigned (m.take 352) (sliceB m 352 96) then 2
  else if s.enrolled.any fun d => !Config.operatorSigned d (m.take 448) (m.drop 448) then 3
  else if b.svn k < s.otp.floor then 4
  else if (List.range 6).all fun i => b.componentOk k i then 0
  else 5

/-- Component digests of the slot in force (R292). -/
def State.digests (s : State) : List Byte :=
  let k := s.get Reg.BOOT.STATUS.SLOT
  if s.boot.delivered k then (List.range 288).map Config.factoryDigest
  else (List.range 6).flatMap fun i => (s.boot.component k i).2.2

/-! ### The choice of a slot (R336, R338) -/

/-- Reports the slot in force. [DEDUCED, log entry 121] -/
def State.showBoot (s : State) (slot st reason : Nat) (fell : Bool) : State :=
  let s := (s.put Reg.BOOT.STATUS.SLOT slot).put Reg.BOOT.STATUS.STATE st
  let s := (s.put Reg.BOOT.STATUS.REASON reason).put Reg.BOOT.STATUS.FELL_BACK (bit fell)
  (s.put Reg.BOOT.STATUS.SVN (s.boot.svn slot)).put Reg.BOOT.STATUS.FLOOR s.otp.floor

/-- The rollback floor rises to a slot's SVN when ADVANCE asks for it and the SVN is higher. -/
def State.raiseFloor (s : State) (slot : Nat) : State :=
  if s.boot.advance slot && s.otp.floor < s.boot.svn slot then
    (({ s with otp := { s.otp with floor := s.boot.svn slot } }).put Reg.BOOT.STATUS.FLOOR (s.boot.svn slot)).fire 270
  else s

/-- A confirmed slot in force whose floor has not moved yet raises it. -/
def State.lateFloor (s : State) (slot st : Nat) : State := if st = 2 then s.raiseFloor slot else s

/-- The boot ROM acts on the record in force. [DEDUCED, log entries 114, 116] -/
def State.bootSelect (s : State) : State :=
  match s.boot.newest with
  | none => s.setBoot { s.boot with halted := true }
  | some r =>
    let trial := r.st = 1
    let slot := if trial then 1 - r.slot else r.slot
    let st := if trial then 2 else if r.st = 0 then 1 else r.st
    let s := if trial then s.setBoot (s.boot.writeRec slot 2 3)
      else if r.st = 0 then s.setBoot (s.boot.writeRec slot 1 r.other) else s
    let c := s.slotFails slot
    if c = 0 then (s.showBoot slot st 0 trial).lateFloor slot st
    else
      let s := s.setBoot (s.boot.writeRec (1 - slot) 2 3)
      let s := s.showBoot (1 - slot) 2 c true
      if s.slotFails (1 - slot) = 0 then s.lateFloor (1 - slot) 2 else s.setBoot { s.boot with halted := true }

/-! ### Loading (R327, R340, R343) -/

/-- The policy programs component of a slot: entry addresses and TCM image, none without its header. -/
def BootUnit.policy (b : BootUnit) (k : Nat) : Option (List Nat × List Byte) :=
  if b.delivered k then none
  else
    let c := b.component k 4
    let h := b.slotBytes k c.1 16
    if c.2.1 < 16 ∨ beAt h 0 4 ≠ 0x57585050 then none
    else some ([leAt h 4 4, leAt h 8 4, leAt h 12 4], b.slotBytes k (c.1 + 16) (min (c.2.1 - 16) 0x40000))

/-- A core once the boot ROM has loaded it: firmware runs from address 0, policy cores wait. -/
def loadedCore (policy : Bool) : TunRun := { TunRun.init with st := if policy then .wait else .running }

/-- Keys of the cores a part has. -/
def State.coreKeys (s : State) : List Nat :=
  (List.range 8) ++ (s.diesUp.flatMap fun f => [8 + 4 * f, 10 + 4 * f])

/-- The boot ROM loads the cores. [DESIGN CHOICE, log entry 4] -/
def State.loadCores (s : State) : State :=
  let t := s.tun
  let cores := s.coreKeys.foldl (fun c k => Tbl.put c k (loadedCore (4 ≤ k && k < 8))) t.cores
  match s.boot.policy (s.get Reg.BOOT.STATUS.SLOT) with
  | some (entries, image) =>
    let m := Memory.writeBytes [] 0 image
    let tcm := [4, 5, 6, 7].foldl (fun a k => Tbl.put a k m) t.tcm
    { s with tun := { t with cores := cores, tcm := tcm, entries := entries } }
  | none => { s with tun := { t with cores := cores } }

/-! ### Reset (R37, R48, R268, R322) -/

/-- Registers that show OTP. -/
def State.showOtp (s : State) : State :=
  ((s.put Reg.KILN.STATUS.UPDATE_CTR s.otp.updateCtr).put Reg.KILN.STATUS.ENROL_REC s.otp.active).put
    Reg.BOOT.STATUS.FLOOR s.otp.floor

/-- Everything but the watch domain, OTP and boot flash takes its reset value; the part stands in a phase. The words of
configuration space last until the supplies go. [DESIGN CHOICE, log entry 202] -/
def State.wipe (s : State) (p : Phase) : State :=
  let r := State.reset
  { r with
    part := s.part, regs := resetRegs s.part.variant, power := { r.power with phase := p, pwrEn := s.power.pwrEn, resetN := s.power.resetN },
    rings := { r.rings with cfg := if p = .night ∨ p = .noVstby then [] else s.rings.cfg }, watch := s.watch, otp := s.otp, boot := { s.boot with session := none, job := none, halted := false, watch := none },
    pending := s.pending, out := s.out, free := s.free }

/-- LOGIC_RDY: the logic is out of reset; a thermal trip is reported (R314).
[DEDUCED, log entry 116] -/
def State.start (s : State) : State :=
  let s := (s.wipe .boot).showOtp
  let s := if s.watch.tripReport then (s.latchCause 4) else s
  { s with watch := { s.watch with tripReport := false } }

/-- The part resets as for RESET_N (R326): steps 3 to 5 follow. [DEDUCED, log entries 124, 159] -/
def State.resetPart (s : State) : State := s.wipe .mem

end Sys2Proof.Machine
end

