-- ==== Sys2Proof/Machine/FrontEnd.lean ====
section
/-! DEFINITION. The front end (R79 to R93, R98, R99, R128, R129): integrated receive chains and their calibrations, HCB
masters, stepped gain, blanking and the coexistence pairs. -/

namespace Sys2Proof.Machine

/-! ### Integrated receive chains (R79 to R81) -/

/-- A centre of R79: 4,064 to 9,936 or 24,064 to 24,936. -/
def fcLegal (fc : Nat) : Bool := (4064 ≤ fc && fc ≤ 9936) || (24064 ≤ fc && fc ≤ 24936)

/-- Replaces a chain's calibrations. -/
def State.setChain (s : State) (f c : Nat) (r : ChainRun) : State :=
  { s with air := { s.air with chains := Tbl.put s.air.chains (4 * f + c) r } }

/-- Ends what is in progress on every context of chain c. -/
def State.loseChain (s : State) (f c : Nat) : State := s.eachCtx f (40 + c) fun s i => s.loseStream f i

/-- Retunes receive chain c: a new FC returns its contexts' floors (R139). -/
def State.retuneRx (s : State) (f c fc : Nat) : State :=
  if fc = s.get (Reg.FRF.RXCH.FC f c) then s
  else
    let s := (s.put (Reg.FRF.RXCH.FC f c) fc).emitNow (.retune f c fc)
    s.eachCtx f (40 + c) fun s i => s.resetFloors f i

/-- EN of a chain set: its calibrations run before its context delivers any sample (R80); its gain starts at index 6.
[DEDUCED, log entry 32] -/
def State.startChain (s : State) (f c : Nat) : State :=
  let s := s.setChain f c ⟨[], [], [0, 1, 2], []⟩
  let s := (s.put (Reg.FRF.RXCH.CAL_VALID f c) 0).put (Reg.FRF.RXCH.CAL_REQ f c) 0
  s.startGain f (40 + c)

/-- A chain off: nothing runs or is due, and what was in progress on its contexts ends. [DEDUCED, log entry 32] -/
def State.stopChain (s : State) (f c : Nat) : State :=
  let s := s.loseChain f c
  (s.setChain f c .init).put (Reg.FRF.RXCH.CAL_VALID f c) 0

/-- Makes a calibration due, unless it is already; one that runs meanwhile runs again after it (R81).
[DEDUCED, log entry 180] -/
def State.calDue (s : State) (f c cal : Nat) : State :=
  let r := s.chain f c
  if cal ∈ r.due then s else s.setChain f c { r with due := r.due ++ [cal] }

/-- A RXCH write (R79 to R81). -/
def State.rxch (s : State) (f c v : Nat) : State :=
  if !fcLegal (bitsAt v 2 15) then s.illegal (dieOffset f (0x80000 + c * 0x10))
  else
    let was := s.on (Reg.FRF.RXCH.EN f c)
    let en := bitsAt v 0 1 = 1
    let s := s.retuneRx f c (bitsAt v 2 15)
    let s := s.put (Reg.FRF.RXCH.EN f c) (bitsAt v 0 1)
    let s := s.put (Reg.FRF.RXCH.AGC_HOLD f c) (bitsAt v 21 1)
    let s := s.w1c (Reg.FRF.RXCH.CAL_FAIL f c) (bitsAt v 22 1)
    let s := if bitsAt v 1 1 = 1 then
        ((s.put (Reg.FRF.RXCH.CAL_REQ f c) 1).each [0, 1, 2] fun s cal => s.calDue f c cal) else s
    if en && !was then s.startChain f c else if was && !en then s.stopChain f c else s

/-- RX_CHAIN_ENABLE. A write of RXCH. -/
def execRxChainEnable (f : Fin 6) (c : Fin 4) (v : BitVec 32) (s : State) : Host.Outcome State Fault Refusal :=
  .next (s.hostWriteReg (dieOffset f (0x80000 + c * 0x10)) v.toNat fun s => s.rxch f c v.toNat)

/-- CAL_REQ. A write of RXCH with CAL_REQ 1. -/
def execCalReq (f : Fin 6) (c : Fin 4) (v : BitVec 32) (s : State) : Host.Outcome State Fault Refusal :=
  .next (s.hostWriteReg (dieOffset f (0x80000 + c * 0x10)) (v.toNat ||| 2) fun s => s.rxch f c (v.toNat ||| 2))

/-- CALIBRATION_DUE: an interval timer of R80 runs out. -/
def execCalibrationDue (f : Fin 6) (c : Fin 4) (cal : Fin 3) (s : State) : Host.Outcome State Fault Refusal :=
  .next (s.when (s.dieUp f && s.on (Reg.FRF.RXCH.EN f c)) fun s => s.calDue f c cal)

/-- CALIBRATION_FORCED: 600 s after falling due without a slot, it runs in the next slot whatever is open (R81). -/
def execCalibrationForced (f : Fin 6) (c : Fin 4) (cal : Fin 3) (s : State) : Host.Outcome State Fault Refusal :=
  .next (s.when (s.dieUp f && cal.val ∈ (s.chain f c).due && cal.val ∉ (s.chain f c).forced) fun s =>
    let r := s.chain f c
    (s.setChain f c { r with forced := cal.val :: r.forced }).fire (dieSource f 3))

/-- The calibrations of a chain that a slot runs: all that are due where no group that uses the chain is open, else
the forced ones; while one runs the chain's samples are zero (R80, R81). [DEDUCED, log entry 180] -/
def State.runCals (s : State) (f c : Nat) (free : Bool) : State :=
  let r := s.chain f c
  let go := (if free then r.due else r.due.filter (· ∈ r.forced)).filter (· ∉ r.running)
  if !s.on (Reg.FRF.RXCH.EN f c) || go.isEmpty then s
  else
    let left := r.due.filter (· ∉ go)
    let s := s.setChain f c { r with due := left, forced := r.forced.filter (· ∈ left), running := r.running ++ go }
    let s := if left.isEmpty then s.put (Reg.FRF.RXCH.CAL_REQ f c) 0 else s
    s.loseChain f c

/-- The end of a calibration (R80, R81): its values take effect, or CAL_FAIL and source 323 + 32f.
[DEDUCED, log entry 33] -/
def State.calDone (s : State) (f c cal : Nat) (ok : Bool) (imageDb : Nat) : State :=
  let r := s.chain f c
  let r := { r with running := r.running.filter (· ≠ cal), done := cal :: r.done.filter (· ≠ cal) }
  let s := (s.setChain f c r).eachCtx f (40 + c) fun s i => s.spoil f i .whole
  let s := if [0, 1, 2].all (· ∈ r.done) then s.put (Reg.FRF.RXCH.CAL_VALID f c) 1 else s
  if ok then (if cal = 0 then s.put (Reg.FRF.RXCH.IMAGE_DB f c) imageDb else s)
  else s.raise (Reg.FRF.RXCH.CAL_FAIL f c) f 3

/-- CALIBRATION_DONE. -/
def execCalibrationDone (f : Fin 6) (c : Fin 4) (cal : Fin 3) (ok : Bool) (imageDb : BitVec 8) (s : State) :
    Host.Outcome State Fault Refusal :=
  .next (s.when (s.dieUp f && cal.val ∈ (s.chain f c).running) fun s => s.calDone f c cal ok imageDb.toNat)

/-! ### HCB masters (R98, R99) -/

/-- HCB master m of die f. -/
def State.hcb (s : State) (f m : Nat) : HcbMaster := Tbl.getD s.air.hcb (4 * f + m) .init

/-- Replaces an HCB master. -/
def State.setHcb (s : State) (f m : Nat) (h : HcbMaster) : State :=
  { s with air := { s.air with hcb := Tbl.put s.air.hcb (4 * f + m) h } }

/-- Starts the next transaction of a free, enabled master: SEQ first, unless the last one was SEQ's and host software
waits (R99). [DEDUCED, log entry 36] -/
def State.hcbNext (s : State) (f m : Nat) : State :=
  let h := s.hcb f m
  if h.cur.isSome || !s.on (Reg.SEQ.HCB_CFG.EN f m) then s
  else
    let go (t : HcbTx) (h : HcbMaster) : State := (s.setHcb f m h).emitNow (.hcb f m t.cs t.len t.data)
    match h.seqWait, h.hostWait with
    | t :: rest, none => go t { h with cur := some t, seqWait := rest, lastSeq := true }
    | t :: rest, some u =>
      if h.lastSeq then go u { h with cur := some u, hostWait := none, lastSeq := false }
      else go t { h with cur := some t, seqWait := rest, lastSeq := true }
    | [], some u => go u { h with cur := some u, hostWait := none, lastSeq := false }
    | [], none => s

/-- A SEQ transaction joins those waiting for its master. -/
def State.hcbSeq (s : State) (f m : Nat) (t : HcbTx) : State :=
  let h := s.hcb f m
  (s.setHcb f m { h with seqWait := h.seqWait ++ [t] }).hcbNext f m

/-- A write of SEQ.HCB_HOST (R99). -/
def State.hcbHost (s : State) (f v : Nat) : State :=
  if (bitsAt v 5 5 + 1) % 8 ≠ 0 then s.illegal (dieOffset f 0xC0040)
  else if bitsAt v 63 1 = 1 ∧ s.on (Reg.SEQ.HCB_HOST.GO f) then s
  else
    let s := s.put (Reg.SEQ.HCB_HOST.MASTER f) (bitsAt v 0 2)
    let s := s.put (Reg.SEQ.HCB_HOST.CS f) (bitsAt v 2 3)
    let s := s.put (Reg.SEQ.HCB_HOST.LEN_M1 f) (bitsAt v 5 5)
    let s := s.put (Reg.SEQ.HCB_HOST.DATA f) (bitsAt v 10 32)
    let s := s.put (Reg.SEQ.HCB_HOST.READ f) (bitsAt v 62 1)
    if bitsAt v 63 1 = 0 then s
    else
      let m := bitsAt v 0 2
      let s := s.put (Reg.SEQ.HCB_HOST.GO f) 1
      let t : HcbTx := ⟨bitsAt v 2 3, bitsAt v 5 5 + 1, bitsAt v 10 32 % 2 ^ (bitsAt v 5 5 + 1),
        .host (decide (bitsAt v 62 1 = 1))⟩
      (s.setHcb f m { s.hcb f m with hostWait := some t }).hcbNext f m

/-- HCB_HOST_GO. A write of SEQ.HCB_HOST, both words. -/
def execHcbHostGo (f : Fin 6) (v : BitVec 64) (s : State) : Host.Outcome State Fault Refusal :=
  .next (s.hostWrite64 (dieOffset f 0xC0040) v.toNat fun s => s.hcbHost f v.toNat)

/-! ### Stepped gain (R87 to R89, R128, R129) -/

/-- Scales every floor, and every window power held toward a first one, of a source's contexts (R139).
[DESIGN CHOICE, log entry 38] -/
def State.scaleFloors (s : State) (f src : Nat) (db : Int) : State :=
  let g := decade 10 db
  { s with air := { s.air with floors := s.air.floors.map fun p =>
      if p.1 / 131072 / 2 = f ∧ s.ctxOfSource f src (p.1 / 512 % 512)
      then (p.1, { p.2 with power := p.2.power.mul g, held := p.2.held.map (·.mul g) }) else p } }

/-- Top index of a source. -/
def State.gainTop (s : State) (f src : Nat) : Nat := if src < 40 then s.get (Reg.LINK.GAIN_CTL.MAX_IDX f src) else 11

/-- A step takes effect on the streams at a sample: the index; a marker in each stream while a detection or context is
active on any of them; and the floors, by 6 dB an index (R88, R139).
[DEDUCED, log entry 37; DESIGN CHOICE, log entry 157] -/
def State.gainTakes (s : State) (f src idx sample : Nat) : State :=
  let g := s.gain f src
  let db := 6 * ((idx : Int) - g.idx)
  let busy := s.sourceBusy f src
  let s := if db = 0 then s
    else s.eachCtx f src fun s i => if busy then s.mark f i sample db else s.spoil f i .whole
  (s.setGain f src { g with idx := idx }).scaleFloors f src db

/-- A step to an index: an integrated chain's at once; a converter's as a 24-bit HCB write issued by SEQ (R89). The
window counts restart. [DEDUCED, log entry 37] -/
def State.gainStep (s : State) (f src idx sample : Nat) : State :=
  let g := { s.gain f src with high := 0, low := 0, waitUp := none }
  if src < 40 then
    let s := s.setGain f src { g with steps := g.steps ++ [⟨g.next, idx, false⟩], next := g.next + 1 }
    let code := if s.on (Reg.LINK.GAIN_CTL.INVERT f src) then s.gainTop f src - idx else idx
    s.hcbSeq f (s.get (Reg.LINK.GAIN_CTL.HCB f src)) ⟨s.get (Reg.LINK.GAIN_CTL.CS f src), 24,
      s.get (Reg.LINK.GAIN_CTL.ADDR f src) * 256 + code % 256, .gain src g.next⟩
  else (s.setGain f src g).gainTakes f src idx sample

/-- Automatic gain runs on a source (R87). -/
def State.agcOn (s : State) (f src : Nat) : Bool :=
  if src < 40 then s.on (Reg.LINK.GAIN_CTL.EN f src) && s.on (Reg.LINK.CFG.EN f src) else s.on (Reg.FRF.RXCH.EN f (src - 40))

/-- Steps are held back: AGC_HOLD, a SEQ GAIN, or a converter step under way. -/
def State.agcHeld (s : State) (f src : Nat) : Bool :=
  (s.gain f src).held || !(s.gain f src).steps.isEmpty || (40 ≤ src && s.on (Reg.FRF.RXCH.AGC_HOLD f (src - 40)))

/-- Counts a window and takes a step where one falls due (R87, R88): down at once, up at once or waiting.
[DEDUCED, log entry 37] -/
def State.agcWindow (s : State) (f src : Nat) (peak : PeakClass) (sample : Nat) : State :=
  let g := s.gain f src
  let g := match peak with
    | .high => { g with high := g.high + 1, low := 0 }
    | .mid => { g with high := 0, low := 0 }
    | .low => { g with high := 0, low := g.low + 1 }
  let g := { g with waitUp := g.waitUp.map (· + 1) }
  let s := s.setGain f src g
  if s.agcHeld f src then s
  else if 3 ≤ g.high ∧ 0 < g.idx then s.gainStep f src (g.idx - 1) sample
  else if 16 ≤ g.low ∧ g.idx < s.gainTop f src ∧ g.waitUp.isNone then
    if s.sourceBusy f src then s.setGain f src { g with high := 0, low := 0, waitUp := some 0 }
    else s.gainStep f src (g.idx + 1) sample
  else s

/-- New digital gains take effect at the start of a window, with a marker in a stream on which a detection or context is
active (R128). [DESIGN CHOICE, log entry 157] -/
def State.applyDgain (s : State) (f src sample : Nat) : State :=
  s.eachCtx f src fun s i =>
    let new := s.get (Reg.SPARGE.STREAM.DGAIN f i)
    let old := Tbl.getD s.air.dgain (512 * f + i) 0
    if new = old then s
    else
      let s := { s with air := { s.air with dgain := Tbl.put s.air.dgain (512 * f + i) new } }
      if s.streamBusy f i then s.mark f i sample (signedOf 6 new - signedOf 6 old) else s

/-- The contexts that clamped in the window (R129). -/
def State.countClamps (s : State) (f src : Nat) (clamped : List (Fin 512)) : State :=
  s.eachCtx f src fun s i =>
    if clamped.any (fun x => x.val = i) then
      let s := s.incSat (Reg.SPARGE.STREAM.SAT_WIN f i)
      if f ∈ s.air.clampTold then s
      else { s with air := { s.air with clampTold := f :: s.air.clampTold } }.fire (dieSource f 10)
    else s

/-- GAIN_WINDOW: the end of a 128 µs window of a source, `sample` the first sample of the next one; the noise windows
that end with it (FLOOR_WINDOW) come before it. [DESIGN CHOICE, log entries 13, 157] -/
def execGainWindow (f : Fin 6) (src : Fin 44) (peak : PeakClass) (clamped : List (Fin 512)) (s : State)
    (sample : Nat := 0) : Host.Outcome State Fault Refusal :=
  .next (s.when (s.dieUp f && (if src.val < 40 then s.on (Reg.LINK.CFG.EN f src) else s.on (Reg.FRF.RXCH.EN f (src - 40))))
    fun s =>
      let s := s.countClamps f src clamped
      let s := if s.agcOn f src then s.agcWindow f src peak sample else s
      s.applyDgain f src sample)

/-- GAIN_STEP_UP_APPLY: a waiting step up is applied when no frame is in progress, or after 16 further windows (R88). -/
def execGainStepUpApply (f : Fin 6) (src : Fin 44) (s : State) (sample : Nat := 0) :
    Host.Outcome State Fault Refusal :=
  .next (s.when (s.dieUp f && !s.agcHeld f src && (match (s.gain f src).waitUp with
      | some n => !s.sourceBusy f src || 16 ≤ n
      | none => false)) fun s => s.gainStep f src ((s.gain f src).idx + 1) sample)

/-- GAIN_SETTLE: SETTLE_US after the HCB write, a converter step takes effect (R89). -/
def execGainSettle (f : Fin 6) (k : Fin 40) (s : State) (sample : Nat := 0) : Host.Outcome State Fault Refusal :=
  .next (match (s.gain f k).steps with
    | ⟨_, idx, true⟩ :: rest => s.when (s.dieUp f) fun s =>
        (s.setGain f k { s.gain f k with steps := rest }).gainTakes f k idx sample
    | _ => s)

/-! ### Blanking (R90, R91) -/

/-- The raw level of BLANK n as BLANK_CTL shows it. -/
def State.showBlank (s : State) (f n : Nat) (active : Bool) : State :=
  let pol := bitsAt (s.get (Reg.FRF.BLANK_CTL.POL f)) n 1
  s.put (Reg.FRF.BLANK_CTL.LEVEL f) (putBits (s.get (Reg.FRF.BLANK_CTL.LEVEL f)) n 1 ((bit active + pol) % 2))

/-- BLANK n becomes active: its contexts receive zeros and their detections are suppressed. -/
def State.blankOn (s : State) (f n : Nat) : State :=
  let s := { s with air := { s.air with blank := (8 * f + n) :: s.air.blank } }
  s.each ((List.range 512).filter fun i => s.on (Reg.LINK.STREAM.EN f i) && s.get (Reg.LINK.STREAM.BLANK_GRP f i) = n)
    fun s i => s.blankStream f n i

/-- BLANK n becomes inactive: the windows of its contexts have overlapped blanking (R91, R137). -/
def State.blankOff (s : State) (f n : Nat) : State :=
  let s := { s with air := { s.air with blank := s.air.blank.filter (· ≠ 8 * f + n) } }
  s.each ((List.range 512).filter fun i => s.on (Reg.LINK.STREAM.EN f i) && s.get (Reg.LINK.STREAM.BLANK_GRP f i) = n)
    fun s i => s.spoil f i .whole

/-- BLANK_ASSERT. -/
def execBlankAssert (f : Fin 6) (n : Fin 8) (s : State) : Host.Outcome State Fault Refusal :=
  .next (s.when (s.dieUp f && (8 * f.val + n) ∉ s.air.blank) fun s => (s.showBlank f n true).blankOn f n)

/-- BLANK_DEASSERT. -/
def execBlankDeassert (f : Fin 6) (n : Fin 8) (s : State) : Host.Outcome State Fault Refusal :=
  .next (s.when (s.dieUp f && (8 * f.val + n) ∈ s.air.blank) fun s => (s.showBlank f n false).blankOff f n)

/-- A write of BLANK_CTL.POL: the level given by POL is the active one (R90). -/
def State.blankPol (s : State) (f v : Nat) : State :=
  let s := s.put (Reg.FRF.BLANK_CTL.POL f) v
  s.each (List.range 8) fun s n =>
    let act := bitsAt (s.get (Reg.FRF.BLANK_CTL.LEVEL f)) n 1 ≠ bitsAt v n 1
    if act && (8 * f + n) ∉ s.air.blank then s.blankOn f n
    else if !act && (8 * f + n) ∈ s.air.blank then s.blankOff f n else s

/-! ### Coexistence (R92, R93) -/

/-- Coexistence pair n of die f. -/
def State.cx (s : State) (f n : Nat) : CxRun := Tbl.getD s.air.cx (4 * f + n) ⟨false, false, false, false, []⟩

/-- Replaces a pair. -/
def State.setCx (s : State) (f n : Nat) (c : CxRun) : State :=
  { s with air := { s.air with cx := Tbl.put s.air.cx (4 * f + n) c } }

/-- The bit of GUARD that names output o: 96 and 97 are RFOUT0 and 1, others lie on transmit link 40 + o / 12 (R92). -/
def guardBit (o : Nat) : Nat := if 96 ≤ o then o - 96 else 2 + o / 12

/-- Pair n guards output o. -/
def State.guards (s : State) (f n o : Nat) : Bool :=
  s.on (Reg.FRF.CX.EN f n) && bitsAt (s.get (Reg.FRF.CX.GUARD f n)) (guardBit o) 1 = 1

/-- The part transmits on an output that pair n guards. -/
def State.cxSending (s : State) (f n : Nat) : Bool := s.air.sending.any fun x => x.1 = f && s.guards f n x.2.1

/-- The granting side's output follows its rule (R93): the grant is given while CXREQ is asserted, unless the part
sends on a guarded output, will listen on one within TIMEOUT_US, or ignores CXREQ. [DEDUCED, log entry 39] -/
def State.cxGrant (s : State) (f n : Nat) : State :=
  let c := s.cx f n
  let g := c.pin && !c.ignore && c.lead.isEmpty && !s.cxSending f n
  if s.on (Reg.FRF.CX.EN f n) && s.on (Reg.FRF.CX.ROLE f n) && g ≠ c.gnt then
    (s.setCx f n { c with gnt := g }).emitNow (.coex f n g)
  else s

/-- CXREQ_CHANGE: the pin is an input in the granting role (R93). [DEDUCED, log entry 181] -/
def execCxreqChange (f : Fin 6) (n : Fin 4) (active : Bool) (s : State) : Host.Outcome State Fault Refusal :=
  .next (s.when (s.dieUp f) fun s =>
    let c := s.cx f n
    (s.setCx f n { c with pin := active, ignore := c.ignore && active }).cxGrant f n)

/-- CX_HOLD_EXPIRY: the grant has been held for HOLD_MS. -/
def execCxHoldExpiry (f : Fin 6) (n : Fin 4) (s : State) : Host.Outcome State Fault Refusal :=
  .next (s.when (s.dieUp f && s.on (Reg.FRF.CX.EN f n) && s.on (Reg.FRF.CX.ROLE f n) && (s.cx f n).gnt) fun s =>
    let s := (s.setCx f n { s.cx f n with gnt := false, ignore := true }).emitNow (.coex f n false)
    s.fire (dieSource f 5))

/-- TIMEOUT_US before the listen window of an attempt on a guarded output: CXREQ asserted, or CXGNT withheld
(R92, R93). [DEDUCED, log entries 39, 181] -/
def State.cxLead (s : State) (f n : Nat) (who : Bool × Nat) : State :=
  let c := s.cx f n
  let c := { c with lead := who :: c.lead.filter (· ≠ who) }
  if s.on (Reg.FRF.CX.ROLE f n) then (s.setCx f n c).cxGrant f n
  else if c.req then s.setCx f n c
  else (s.setCx f n { c with req := true }).emitNow (.coex f n true)

/-- CX_LISTEN_LEAD, of the probe of chain `id` or of job `id`. -/
def execCxListenLead (f : Fin 6) (n : Fin 4) (s : State) (probe : Bool := false) (id : Nat := 0) :
    Host.Outcome State Fault Refusal :=
  .next (s.when (s.dieUp f && s.on (Reg.FRF.CX.EN f n)) fun s => s.cxLead f n (probe, id))

/-- An attempt on output o has ended, its ramp-down too: once no other attempt on a guarded output has its lead, the
requester releases CXREQ and the granting side may grant again (R92, R93). [DEDUCED, log entry 181] -/
def State.cxEnd (s : State) (f o : Nat) (who : Bool × Nat) : State :=
  s.each (List.range 4) fun s n =>
    if !s.guards f n o then s
    else
      let c := s.cx f n
      let c := { c with lead := c.lead.filter (· ≠ who) }
      if s.on (Reg.FRF.CX.ROLE f n) then (s.setCx f n c).cxGrant f n
      else if c.req && c.lead.isEmpty && !s.cxSending f n then
        (s.setCx f n { c with req := false }).emitNow (.coex f n false)
      else s.setCx f n c

/-- The pairs leave an attempt on output o alone: as a requester the part has its grant (the pin as the attempt's
check finds it), as the granting side it has not given one (R92, R93). -/
def State.cxAllows (s : State) (f o : Nat) (granted : Bool) : Bool :=
  (List.range 4).all fun n =>
    !s.guards f n o || (if s.on (Reg.FRF.CX.ROLE f n) then !(s.cx f n).gnt else granted)

/-- Transmission is allowed at all: a first valid time or FREE_RUN_TX (R55), and a first seed (R289). -/
def State.mayRadiate (s : State) : Bool :=
  (s.quality ≠ 3 || s.on Reg.TIME.CTL.FREE_RUN_TX) && s.on Reg.RNG.STATUS.SEEDED

end Sys2Proof.Machine
end

