-- ==== Sys2Proof/Machine/Steep.lean ====
section
/-! DEFINITION. The Steep search (R127 to R141): candidates and trackers, sync matches with their timestamps, noise
floors, channel powers, and the SPARGE and STEEP registers with a row of their own. -/

namespace Sys2Proof.Machine

/-! ### Floors as reported (R138) -/

/-- The largest q from lo on, by bisection over 2^fuel values, with P ≥ 10^((2q − 1) / 80). [DEDUCED, log entry 40] -/
def floorSearch (p : Frac) : Nat → Int → Int
  | 0, lo => lo
  | fuel + 1, lo =>
    let mid := lo + (2 ^ fuel : Nat)
    if powGe 80 p (2 * mid - 1) then floorSearch p fuel mid else floorSearch p fuel lo

/-- round(40 × log10 P), not below −800. -/
def floorCode (p : Frac) : Int := if p.num = 0 ∨ p.den = 0 then -800 else floorSearch p 12 (-800)

/-- A power lies a quarter dB or more above a channel's floor, exactly, or above a threshold in quarter dB while the
floor is not valid (R130, R140, R165). [DEDUCED, log entry 40] -/
def State.powerOver (s : State) (f i : Nat) (w : Bool) (k : Nat) (thr above : Int) (p : Frac) : Bool :=
  let fl := s.floorOf f i w k
  if fl.valid then powGe 40 (fracOver p fl.power) above else powGe 40 p (thr + above)

/-- START_THR in quarter dB. -/
def State.startThr (s : State) (f : Nat) : Int := signedOf 16 (s.get (Reg.STEEP.START_THR.THR f))

/-- The reference of R130 in quarter dB: the floor, or START_THR while it is not valid (R140). -/
def State.reference (s : State) (f i : Nat) (w : Bool) (k : Nat) : Int :=
  let fl := s.floorOf f i w k
  if fl.valid then floorCode fl.power else s.startThr f

/-- The 16-bit report of a floor and its idle count and validity (R138). -/
def State.floorData (s : State) (f : Nat) : Nat :=
  let fl := s.floorOf f (s.get (Reg.STEEP.FLOOR_SEL.CONTEXT f)) (s.on (Reg.STEEP.FLOOR_SEL.W f))
    (s.get (Reg.STEEP.FLOOR_SEL.CHANNEL f))
  (if fl.valid then fieldOf 16 (floorCode fl.power) else 0x8000) + fl.idle * 2 ^ 16 + bit fl.valid * 2 ^ 31

/-! ### Candidates (R130 to R132, R135) -/

/-- Two channels of one context meet in the sense of R135: a W frame covers N channels k − 1 to k + 1, an N frame the W
channel with its centre; and a channel covers itself. [DEDUCED, log entry 175] -/
def covers (w : Bool) (k : Nat) (w' : Bool) (k' : Nat) : Bool :=
  if w = w' then k = k' else if w then k ≤ k' + 1 && k' ≤ k + 1 else k = k'

/-- A frame is under reception on a channel. [DEDUCED, log entry 175] -/
def State.receiving (s : State) (f i : Nat) (w : Bool) (k : Nat) : Bool :=
  s.air.ctxs.any fun e => e.1 / 4096 = f && e.2.ctx = i && covers e.2.w e.2.chan w k

/-- A tracker is held on a channel. -/
def State.tracked (s : State) (f i : Nat) (w : Bool) (k : Nat) : Bool :=
  s.air.trackers.any fun e => e.1 / 2048 = f && e.2.ctx = i && e.2.w = w && e.2.chan = k

/-- A code set is used by an enabled network (R131). -/
def State.codeSetUsed (s : State) (cs : Nat) : Bool := s.nets.any fun n => n.2.codeSet = cs

/-- The code set a rung follows: W and N1 depend on none. -/
def rungSet (c : Candidate) : Nat := if c.rate.val < 2 then 0 else c.codeSet

/-- Detection window of a rate in ns (R130). -/
def windowNs (r : Nat) : Nat := [120000, 480000, 480000, 1920000, 7680000].getD r 0

/-- A threshold is written: what it was is kept for candidates whose window began before (R141).
[DEDUCED, log entry 178] -/
def State.noteThr (s : State) (key was : Nat) : State :=
  let old := (Tbl.getD s.air.thrWas key []).filter fun e => s.counterNs ≤ e.1 + 8000000
  { s with air := { s.air with thrWas := Tbl.put s.air.thrWas key ((s.counterNs, was) :: old) } }

/-- A threshold as it stood when the window of a candidate at rate r began (R141). [DEDUCED, log entry 178] -/
def State.thrAt (s : State) (key now r : Nat) : Nat :=
  (Tbl.getD s.air.thrWas key []).foldl (fun v e => if s.counterNs ≤ e.1 + windowNs r then e.2 else v) now

/-- RHO_MIN + 256 × ABOVE of a rate as registered. -/
def State.rateThr (s : State) (f r : Nat) : Nat :=
  s.get (Reg.STEEP.RATE.RHO_MIN f r) + 256 * s.get (Reg.STEEP.RATE.ABOVE f r)

/-- The three conditions of R130, under the thresholds of the candidate's window (R141).
[DEDUCED, log entries 40, 178] -/
def State.crosses (s : State) (f : Nat) (c : Candidate) : Bool :=
  let thr := s.thrAt (16 * f + c.rate) (s.rateThr f c.rate) c.rate
  let start := signedOf 16 (s.thrAt (16 * f + 8) (s.get (Reg.STEEP.START_THR.THR f)) c.rate)
  thr % 256 * c.rho.den ≤ c.rho.num * 256
  && s.powerOver f c.ctx c.w c.chan start (signedOf 8 (thr / 256)) c.power
  && (if c.rate.val = 0 then within c.offsetHz 120000 else within c.offsetHz 60000)

/-- A candidate can arise there: search on, rate searched on its kind of channel, channel present and searched, no
tracker at that rung and code set, no frame under reception (R131, R132, R135). -/
def State.mayStart (s : State) (f : Nat) (c : Candidate) : Bool :=
  s.dieUp f && s.on (Reg.STEEP.CTL.EN f) && s.on (Reg.STEEP.RATE.EN f c.rate) && decide (c.w = (c.rate.val = 0 : Bool))
  && (c.rate.val < 2 || s.codeSetUsed c.codeSet)
  && s.channelExists f c.ctx c.w c.chan && s.searched f c.ctx && !s.receiving f c.ctx c.w c.chan
  && !(s.air.trackers.any fun e => e.1 / 2048 = f && e.2.ctx = c.ctx.val && e.2.w = c.w && e.2.chan = c.chan.val
        && e.2.rate = c.rate.val && e.2.codeSet = rungSet c)

/-- The tracker a candidate displaces when none is free (R132): the unfrozen one with the lowest ρ, then the earliest
raised, then the lowest number. -/
def State.weakest (s : State) (f : Nat) : Option (Nat × Tracker) :=
  ((s.trackersOn f).filter fun e => !e.2.frozen).foldl (init := none) fun best e =>
    match best with
    | none => some e
    | some b => if e.2.rho.lt b.2.rho || (e.2.rho.le b.2.rho && b.2.rho.le e.2.rho && decide (e.2.born < b.2.born))
                then some e else some b

/-- Holds a tracker. -/
def State.setTracker (s : State) (f t : Nat) (x : Tracker) : State :=
  { s with air := { s.air with trackers := Tbl.put s.air.trackers (2048 * f + t) x } }

/-- TRACK_FULL counted, source 328 + 32f once until STEEP.TRACK is read (R132, R141). -/
def State.trackFull (s : State) (f : Nat) : State := (s.bump (Reg.STEEP.TRACK_FULL f)).fireOnce (dieSource f 8)

/-- A candidate takes a free tracker, displaces one, or is dropped (R132). [DEDUCED, log entry 43] -/
def State.takeTracker (s : State) (f : Nat) (x : Tracker) : State :=
  let free := if (s.trackersOn f).length < 2048 then Tbl.lowestFree s.air.trackers 2048 (2048 * f) else none
  match free with
  | some k => ({ s with air := { s.air with trackers := Tbl.put s.air.trackers k x } }).showTrack f
  | none =>
    match s.weakest f with
    | some (k, old) =>
      if old.rho.lt x.rho then
        let s := s.spoil f old.ctx (.tracker old.w old.chan)
        ({ s with air := { s.air with trackers := Tbl.put s.air.trackers k x } }).trackFull f
      else s.trackFull f
    | none => s.trackFull f

/-- The tracker of a candidate raised in the n-th FCLK cycle that raised any. -/
def trackerOf (c : Candidate) (n : Nat) : Tracker :=
  { ctx := c.ctx, w := c.w, chan := c.chan, rate := c.rate, codeSet := rungSet c, rho := c.rho, power := c.power,
    offsetHz := c.offsetHz, phase := c.phase, born := n, frozen := false, frozen10Hz := 0, phaseRef := (0, 0) }

/-- Each unfrozen tracker's ρ as it last computed it (R132). -/
def State.takeRhos (s : State) (f : Nat) (l : List (Fin 2048 × Frac)) : State :=
  s.each l fun s e => match Tbl.find? s.air.trackers (2048 * f + e.1) with
    | some x => if x.frozen then s else s.setTracker f e.1 { x with rho := e.2 }
    | none => s

/-- STEEP_CANDIDATE, with the ρ that trackers held have computed since.
[DESIGN CHOICE, log entry 13; DEDUCED, log entry 44] -/
def execSteepCandidate (f : Fin 6) (cand : Candidate) (s : State) (rhos : List (Fin 2048 × Frac) := []) :
    Host.Outcome State Fault Refusal :=
  .next (s.when (s.mayStart f cand && s.crosses f cand) fun s =>
    let s := (s.bump (Reg.STEEP.CANDIDATES f cand.rate)).takeRhos f rhos
    let n := if cand.sameCycle then s.air.born else s.air.born + 1
    ({ s with air := { s.air with born := n } }).takeTracker f (trackerOf cand n))

/-- The sum of complex values. [DESIGN CHOICE, log entry 42] -/
def sumVec (l : List (Int × Int)) : Int × Int := l.foldl (fun a y => (a.1 + y.1, a.2 + y.2)) (0, 0)

/-- TRACKER_FREEZE: the offset, ρ and sample phase as the tracker computed them at its freeze, and its phase reference,
the mean phase of the last 8 symbols before it, `before`, the pattern's signs removed (R133).
[DESIGN CHOICE, log entry 42] -/
def execTrackerFreeze (f : Fin 6) (t : Fin 2048) (offset10Hz : Int) (rho : Frac) (s : State)
    (phase : Fin 8 := 0) (before : List (Int × Int) := []) : Host.Outcome State Fault Refusal :=
  .next (match Tbl.find? s.air.trackers (2048 * f.val + t) with
    | some x => s.when (s.dieUp f && !x.frozen) fun s =>
        s.setTracker f t { x with frozen := true, frozen10Hz := offset10Hz, rho := rho, phase := phase
                                  phaseRef := sumVec (before.take 8) }
    | none => s)

/-! ### Sync matches (R50, R134, R135, R142) -/

/-- The last 32 decisions of a tracker that has decided `since` symbols since its freeze: those before it continue the
preamble's pattern, 0 at N4, N16 and N64, alternating at W and N1 up to the first symbol, which repeats the one before
it (R133, R134). [DEDUCED, log entry 179] -/
def lastDecisions (rate since decided : Nat) : Nat :=
  if 32 ≤ since then decided
  else
    let first := bitsAt decided (since - 1) 1
    decided % 2 ^ since +
      (if 2 ≤ rate then 0
       else ((List.range (32 - since)).map fun j => (if j % 2 = 0 then first else 1 - first) * 2 ^ (since + j)).sum)

/-- The lowest network whose sync word the last 32 decisions match (R108); N4, N16 and N64 trackers follow one code
set, W and N1 trackers compare with every enabled network. -/
def State.matchNet (s : State) (x : Tracker) (decided : Nat) : Option (Nat × NetForce) :=
  List.find? (fun n => (x.rate < 2 || n.2.codeSet = x.codeSet) && hamming32 decided n.2.sync ≤ n.2.syncErr) s.nets

/-- The delay of the Steep pipeline, 192 FCLK cycles, in twelfths of a ps (R50). -/
def pipe12 (level : Nat) : Nat := if level = 0 then 1875000 else if level = 1 then 2500000 else 3750000

/-- The sync-end instant in whole counter ns (R50): the time copy interpolated to the FCLK cycle of the decision
(`fclk` cycles after the last reference cycle), less the pipeline, the located position (`pos` sixteenths of a channel
sample), the channel filter and the receive latencies. -/
def State.syncInstant (s : State) (f : Nat) (x : Tracker) (fclk pos : Nat) : Int :=
  let lvl := s.fieldLevel f
  let m := if lvl = 0 then 3 else if lvl = 1 then 4 else 6
  let copy : Nat := (s.counterNs * 2 ^ 32 + s.time.frac) * 90 + s.time.addend * fclk * m
  let k := s.get (Reg.LINK.STREAM.SRC f x.ctx)
  let lane : Nat := if s.on (Reg.LINK.STREAM.SRC_RF f x.ctx) then 1920000
    else s.get (Reg.LINK.RX_LAT.PS f k) + s.get (Reg.LINK.CONV_LAT.PS f k)
  let back := pipe12 lvl + pos * (if x.w then 234375 else 468750) + (if x.w then 67500000 else 135000000) + lane * 12
  (((copy * 12000 : Nat) : Int) - ((back * 2 ^ 32 * 90 : Nat) : Int)) / ((2 ^ 32 * 90 * 12000 : Nat) : Int)

/-- Frees every other tracker on the matching tracker's channel and on the channels sharing its centre, counting each
as CANCELLED at its own rate (R135). -/
def State.cancelOthers (s : State) (f t : Nat) (x : Tracker) : State :=
  let hit (e : Nat × Tracker) : Bool := e.1 / 2048 = f && e.1 ≠ 2048 * f + t && e.2.ctx = x.ctx && e.2.chan = x.chan
  let s' := s.each (s.air.trackers.filter hit) fun s e => s.bump (Reg.STEEP.CANCELLED f e.2.rate)
  let s' := s'.each (s.air.trackers.filter hit) fun s e => s.spoil f e.2.ctx (.tracker e.2.w e.2.chan)
  { s' with air := { s'.air with trackers := s'.air.trackers.filter fun e => !hit e } }

/-- Frees a tracker (R134). -/
def State.freeTracker (s : State) (f t : Nat) (x : Tracker) : State :=
  let s := s.spoil f x.ctx (.tracker x.w x.chan)
  ({ s with air := { s.air with trackers := Tbl.erase s.air.trackers (2048 * f + t) } }).showTrack f

/-- A demodulator context that has just taken over a tracker: rate, network, stream, channel, sample phase, frozen offset,
phase reference, correlated power and reference (R134, R142). -/
def newCtx (x : Tracker) (serial n : Nat) (nf : NetForce) (ns : Int) (stamp grid marks : Nat) (power : Frac)
    (ref : Int) : DemodCtx :=
  { serial := serial, rate := x.rate, net := n, codeSet := nf.codeSet, netId := nf.netId, ctx := x.ctx, w := x.w,
    chan := x.chan, phase := x.phase, ofs10Hz := x.frozen10Hz, phaseRef := x.phaseRef, power := power, noiseRef := ref,
    syncNs := ns, stamp := stamp, grid := grid, marks := marks, last := 0, llrs := [], recent := [], reals := [],
    symbols := 0, energy := (0, 0, 0), snrSum := Frac.zero, metrics := 0 :: List.replicate 63 (-1000000000),
    decisions := [], best := [], steps := 0, bits := [], checks := 0, sent := 0 }

/-- A context is allocated at the sync-end decision, or the frame is dropped (R142). -/
def State.allocate (s : State) (f : Nat) (x : Tracker) (n : Nat) (nf : NetForce) (ns : Int) (power : Frac) : State :=
  let free := if (s.ctxsOn f).length < 4096 then Tbl.lowestFree s.air.ctxs 4096 (4096 * f) else none
  match free with
  | none => (s.bump (Reg.DEMOD.CTX_FULL f)).fireOnce (dieSource f 11)
  | some d =>
    let stamp := stamp64 (ns.toNat / 1000000000) (ns.toNat % 1000000000) (s.dieQuality f)
    let grid := s.get (Reg.DEMOD.GRID.BASE f x.ctx) + x.chan
    let c := newCtx x s.air.nextSerial n nf ns stamp grid (Tbl.getD s.air.markers (512 * f + x.ctx) []).length power
      (s.reference f x.ctx x.w x.chan)
    ({ s with air := { s.air with ctxs := Tbl.put s.air.ctxs d c, nextSerial := s.air.nextSerial + 1 } }).showCtx f

/-- The effect of a match: other trackers cancelled, the tracker freed, a context requested. [DEDUCED, log entry 44] -/
def State.syncMatched (s : State) (f t : Nat) (x : Tracker) (n : Nat) (nf : NetForce) (fclk pos : Nat) (power : Frac) :
    State :=
  let ns := s.syncInstant f x fclk pos
  let s := s.bump (Reg.STEEP.SYNC_MATCH f x.rate)
  ((s.cancelOthers f t x).freeTracker f t x).allocate f x n nf ns power

/-- The network a hit's tracker matches, if it is held, frozen and has decided a symbol (R134). -/
def State.hitNet (s : State) (f : Nat) (h : SyncHit) : Option (Tracker × Nat × NetForce) :=
  match Tbl.find? s.air.trackers (2048 * f + h.t) with
  | some x => if x.frozen && decide (1 ≤ h.peak.since) then
      (s.matchNet x (lastDecisions x.rate h.peak.since h.decided.toNat)).map fun n => (x, n) else none
  | none => none

/-- Of two matches in one FCLK cycle the first comes first: the larger correlated power, then the lower rate code, then
the lower network (R135). [DEDUCED, log entry 44] -/
def State.hitFirst (s : State) (f : Nat) (a b : SyncHit) : Bool :=
  match s.hitNet f a, s.hitNet f b with
  | some (x, n, _), some (y, m, _) =>
    b.peak.power.lt a.peak.power || (a.peak.power.le b.peak.power && b.peak.power.le a.peak.power
      && (decide (x.rate < y.rate) || (decide (x.rate = y.rate) && decide (n ≤ m))))
  | some _, none => true
  | none, _ => false

/-- SYNC_MATCH: the trackers whose last 32 decided symbols match a network in one FCLK cycle, `fclk` cycles after the
last reference cycle (R134); of those that cancel one another the first of R135 is kept. [DEDUCED, log entry 44] -/
def execSyncMatch (f : Fin 6) (t : Fin 2048) (decided : BitVec 32) (fclk : Nat) (peak : SyncEnd) (others : List SyncHit)
    (s : State) : Host.Outcome State Fault Refusal :=
  .next (s.when (s.dieUp f) fun s =>
    s.each (sortBy (s.hitFirst f) (⟨t, decided, peak⟩ :: others)) fun s h => match s.hitNet f h with
      | some (x, n, nf) => s.syncMatched f h.t x n nf fclk h.peak.pos h.peak.power
      | none => s)

/-- SYNC_TIMEOUT. -/
def execSyncTimeout (f : Fin 6) (t : Fin 2048) (s : State) : Host.Outcome State Fault Refusal :=
  .next (match Tbl.find? s.air.trackers (2048 * f.val + t) with
    | some x => s.when (s.dieUp f) fun s =>
        (s.bump (Reg.STEEP.SYNC_TIMEOUT f x.rate)).freeTracker f t x
    | none => s)

/-! ### Noise floors (R137 to R140) -/

/-- A record of the running window spoils a channel, which lies on a grid channel (R137). [DEDUCED, log entry 175] -/
def Spoil.hits (w : Bool) (k grid : Nat) : Spoil → Bool
  | .whole => true
  | .tracker w' k' => w = w' && k = k'
  | .frame w' k' => covers w' k' w k
  | .sent g wide => gridsMeet grid w g wide

/-- A window that ends is idle on a channel (R137), judged by what stands at its end and what has ended within it.
[DEDUCED, log entries 175, 176] -/
def State.windowIdle (s : State) (f i : Nat) (c : ChanPower) : Bool :=
  let grid := s.get (Reg.DEMOD.GRID.BASE f i) + c.chan
  s.channelExists f i c.w c.chan && s.delivers f i && !s.tracked f i c.w c.chan && !s.receiving f i c.w c.chan
  && !(s.air.sending.any fun x => x.1 = f && gridsMeet grid c.w x.2.2.1 x.2.2.2)
  && !((Tbl.getD s.air.spoilt (512 * f + i) []).any (Spoil.hits c.w c.chan grid))
  && (let fl := s.floorOf f i c.w c.chan; !fl.valid || c.power.le (fl.power.scale 10 1))

/-- The mean of the 128 lowest of the powers held (R138). -/
def meanLowest (l : List Frac) : Frac :=
  let low := (sortBy (fun a b => a.le b) l).take 128
  (low.foldl Frac.add Frac.zero).scale 1 128

/-- A floor after an idle window of power p (R138). [DESIGN CHOICE, log entry 38] -/
def Floor.idleWindow (fl : Floor) (w : Bool) (p : Frac) : Floor :=
  if fl.valid then { fl with power := (fl.power.scale 255 256).add (p.scale 1 256), idle := 256 }
  else
    let held := fl.held ++ [p]
    if held.length < 256 then { fl with held := held, idle := held.length }
    else { valid := true, power := (meanLowest held).mul (if w then decade 1000 17 else decade 40 1), idle := 256, held := [] }

/-- A channel's window (R137, R138). -/
def State.floorWindow (s : State) (f i : Nat) (c : ChanPower) : State :=
  if s.windowIdle f i c then
    let fl := s.floorOf f i c.w c.chan
    let nw := fl.idleWindow c.w c.power
    let s := { s with air := { s.air with floors := Tbl.put s.air.floors (chanKey f i c.w c.chan) nw } }
    if nw.valid && !fl.valid then s.tellFloors f else s
  else s

/-- FLOOR_WINDOW: the windows of a context's channels. [DESIGN CHOICE, log entry 157] -/
def execFloorWindow (f : Fin 6) (ctx : Fin 512) (powers : List ChanPower) (s : State) :
    Host.Outcome State Fault Refusal :=
  .next (s.when (s.dieUp f && s.on (Reg.LINK.STREAM.EN f ctx)) fun s =>
    let s := s.each powers fun s c => s.floorWindow f ctx c
    { s with air := { s.air with spoilt := Tbl.erase s.air.spoilt (512 * f.val + ctx) } })

/-- A write of STEEP.CTL (R139, R141). -/
def State.steepCtl (s : State) (f v : Nat) : State :=
  let s := s.put (Reg.STEEP.CTL.EN f) (bitsAt v 0 1)
  if bitsAt v 1 1 = 1 then
    { s with air := { s.air with floors := s.air.floors.filter (fun p => p.1 / 262144 ≠ f),
                                 floorsTold := s.air.floorsTold.filter (· ≠ f) } }
  else s

/-- RST_FLOORS. A write of STEEP.CTL. -/
def execRstFloors (f : Fin 6) (v : BitVec 32) (s : State) : Host.Outcome State Fault Refusal :=
  .next (s.hostWriteReg (dieOffset f 0x140000) v.toNat fun s => s.steepCtl f v.toNat)

/-- CHANNEL_POWER_UPDATE: the mean powers over the latest 128 µs (R140). -/
def execChannelPowerUpdate (f : Fin 6) (ctx : Fin 512) (powers : List ChanPower) (s : State) :
    Host.Outcome State Fault Refusal :=
  .next (s.when (s.dieUp f && s.on (Reg.LINK.STREAM.EN f ctx)) fun s =>
    s.each (powers.filter fun c => s.channelExists f ctx c.w c.chan) fun s c =>
      { s with air := { s.air with powers := Tbl.put s.air.powers (chanKey f ctx c.w c.chan) c.power } })

/-! ### SPARGE.STREAM and the reads (R127, R128, R141, R142) -/

/-- Contexts of die f with W_EN set. -/
def State.wCount (s : State) (f : Nat) : Nat := ((List.range 512).filter (s.wEnabled f)).length

/-- A SPARGE.STREAM write: DGAIN from −12 to 24, W_EN within the limit of the die's level (R127, R128).
[DEDUCED, log entry 41] -/
def State.spargeStream (s : State) (f i v : Nat) : State :=
  let dg := signedOf 6 (bitsAt v 1 6)
  let more := bitsAt v 0 1 = 1 && !s.wEnabled f i
  if dg < -12 ∨ 24 < dg ∨ (more = true ∧ wLimit (s.capLevel f) ≤ s.wCount f) then s.illegal (dieOffset f (0x100000 + i * 4))
  else ((s.put (Reg.SPARGE.STREAM.W_EN f i) (bitsAt v 0 1)).put (Reg.SPARGE.STREAM.DGAIN f i) (bitsAt v 1 6)).recount f

/-- W_EN_WRITE. A write of SPARGE.STREAM. -/
def execWEnWrite (f : Fin 6) (i : Fin 512) (v : BitVec 32) (s : State) : Host.Outcome State Fault Refusal :=
  .next (s.hostWriteReg (dieOffset f (0x100000 + i * 4)) v.toNat fun s => s.spargeStream f i v.toNat)

/-- A read of STEEP.TRACK: PEAK is reloaded and the TRACK_FULL event re-armed (R141). -/
def State.readTrack (s : State) (f : Nat) : State × Nat :=
  let d := s.get (Reg.STEEP.TRACK.IN_USE f) + s.get (Reg.STEEP.TRACK.PEAK f) * 2 ^ 12
  (((s.reloadPeak (Reg.STEEP.TRACK.IN_USE f) (Reg.STEEP.TRACK.PEAK f)).rearm (dieSource f 8)), d)

/-- TRACK_READ. -/
def execTrackRead (func : Fin 2) (f : Fin 6) (s : State) : Host.Outcome State Fault Refusal :=
  .next (s.hostReadReg func (dieOffset f 0x140048) fun s =>
    (s.readTrack f).1.readDone func (dieOffset f 0x140048) (s.readTrack f).2)

/-- A read of DEMOD.CTX: PEAK is reloaded and source 331 + 32f re-armed (R142). -/
def State.readCtx (s : State) (f : Nat) : State × Nat :=
  let d := s.get (Reg.DEMOD.CTX.IN_USE f) + s.get (Reg.DEMOD.CTX.PEAK f) * 2 ^ 13
  (((s.reloadPeak (Reg.DEMOD.CTX.IN_USE f) (Reg.DEMOD.CTX.PEAK f)).rearm (dieSource f 11)), d)

/-- DEMOD_CTX_READ. -/
def execDemodCtxRead (func : Fin 2) (f : Fin 6) (s : State) : Host.Outcome State Fault Refusal :=
  .next (s.hostReadReg func (dieOffset f 0x180004) fun s =>
    (s.readCtx f).1.readDone func (dieOffset f 0x180004) (s.readCtx f).2)

end Sys2Proof.Machine
end

