-- ==== Sys2Proof/Machine/Demod.lean ====
section
/-! DEFINITION. Demodulator contexts (R111, R112, R144 to R149, R210): soft values, the trellis decoder, the receive
checks, segments, frame records, and the hearing table's updates. -/

namespace Sys2Proof.Machine

/-- A demodulator context of die f. -/
def State.ctx? (s : State) (f d : Nat) : Option DemodCtx := Tbl.find? s.air.ctxs (4096 * f + d)

/-- Replaces a demodulator context. -/
def State.setCtx (s : State) (f d : Nat) (c : DemodCtx) : State :=
  { s with air := { s.air with ctxs := Tbl.put s.air.ctxs (4096 * f + d) c } }

/-- Frees a demodulator context c. [DEDUCED, log entry 43] -/
def State.freeCtx (s : State) (f d : Nat) (c : DemodCtx) : State :=
  let s := s.spoil f c.ctx (.frame c.w c.chan)
  ({ s with air := { s.air with ctxs := Tbl.erase s.air.ctxs (4096 * f + d) } }).showCtx f

/-! ### What the decided bits say -/

/-- The PHY header as decided. -/
def DemodCtx.phy (c : DemodCtx) : Nat := ofBits (c.bits.take 24)

/-- The MAC header bytes as decided. -/
def DemodCtx.head (c : DemodCtx) : List Byte := bytesOfBits 18 ((c.bits.drop 24).take 144)

/-- LEN of the frame, once the first check group has passed. -/
def DemodCtx.len (c : DemodCtx) : Nat := phyLen c.phy

/-- Information bits of the coded block, known once the first check group has passed. -/
def DemodCtx.total? (c : DemodCtx) : Option Nat := if c.checks = 0 then none else some (codedBits c.len)

/-! ### Soft values (R103, R104, R144 to R146) -/

/-- Chip j of factor sequence Q0 to Q3 (R104). -/
def factorChip (q j : Nat) : Int := if j % 4 = 3 - q % 4 then -1 else 1

/-- Chip j of the spreading code of a rate and code set (R103). -/
def codeChip (rate cs j : Nat) : Int :=
  match rate with
  | 2 => factorChip cs j
  | 3 => factorChip cs (j % 4) * factorChip (cs + 1) (j / 4)
  | 4 => factorChip cs (j % 4) * factorChip (cs + 1) (j % 16 / 4) * factorChip (cs + 2) (j / 16)
  | _ => 1

/-- A symbol's value: the chips despread, erased chips contributing 0. -/
def despread (rate cs : Nat) : Nat → List (Int × Int) → List Bool → Int × Int
  | _, [], _ => (0, 0)
  | j, x :: xs, es =>
    let r := despread rate cs (j + 1) xs es.tail
    if es.headD false then r else (codeChip rate cs j * x.1 + r.1, codeChip rate cs j * x.2 + r.2)

/-- The gain markers that concern a context (R146). -/
def DemodCtx.marked (c : DemodCtx) (l : List (Nat × Int)) : List (Nat × Int) := l.drop c.marks

/-- The sum in dB of the markers at or before a sample. -/
def markedDb (l : List (Nat × Int)) (sample : Nat) : Int := ((l.filter fun m => m.1 ≤ sample).map (·.2)).sum

/-- The chips of a symbol, in units of 2^-16, each scaled by its own side of the markers (R146).
[DESIGN CHOICE, log entry 38] -/
def scaleChips (l : List (Nat × Int)) (step : Nat) : Nat → List (Int × Int) → List (Int × Int)
  | _, [] => []
  | n, x :: xs =>
    let db := markedDb l n
    let g : Frac := if db = 0 then ⟨1, 1⟩ else decade 20 (-db)
    (x.1 * 65536 * g.num / (g.den : Int), x.2 * 65536 * g.num / (g.den : Int)) :: scaleChips l step (n + step) xs

/-- Saturation of an LLR at ±31. -/
def sat31 (x : Int) : Int := if x < -31 then -31 else if 31 < x then 31 else x

/-- λ = 2a Re(ỹ) / σ² in steps of 0.25, saturated; the direction of rounding is open. The sum and count of the last
|Re| values stand for a. -/
def llr (y : Int) (sum n : Nat) (sigma2 : Frac) (up : Bool) : Int :=
  let num : Int := 8 * y * (sum * sigma2.den : Nat)
  let den : Int := (n * sigma2.num : Nat)
  if den = 0 then sat31 (32 * num.sign)
  else sat31 (num / den + (if num % den ≠ 0 ∧ up then 1 else 0))

/-- Symbols of a tracking interval (R144). -/
def trackEvery (rate : Nat) : Nat := if rate = 4 then 2 else if rate = 3 then 8 else 16

/-- The sample phase after a tracking interval with the energies of the earlier, own and later phase: one step towards
one that gave at least 0.5 dB more, the stronger of the two (R144). [DESIGN CHOICE, log entry 42] -/
def trackPhase (c : DemodCtx) (e : Nat × Nat × Nat) : Nat :=
  let n := if c.w then 4 else 8
  let stronger (x : Nat) : Bool := decide (e.2.1 < x) && powGe 20 ⟨x, e.2.1⟩ 1
  if stronger e.2.2 && e.1 < e.2.2 then (c.phase + 1) % n
  else if stronger e.1 then (c.phase + n - 1) % n else c.phase

/-- A context takes a symbol: chips scaled and despread, the LLR, the phase reference and the sample phase.
[DESIGN CHOICE, log entries 42, 156; DEDUCED, log entry 45] -/
def DemodCtx.symbol (c : DemodCtx) (sym : SymbolIn) (step : Nat) (markers : List (Nat × Int)) (sigma2 : Frac) (up : Bool) :
    DemodCtx :=
  let l := c.marked markers
  let y := despread c.rate c.codeSet 0 (scaleChips l step sym.first sym.chips) sym.erased
  let re := turned y c.phaseRef
  let y' := if re < 0 then (-y.1, -y.2) else y
  let restart := l.any fun m => decide (c.last < m.1) && decide (m.1 ≤ sym.first)
  let recent := (y' :: if restart then [] else c.recent).take 8
  let ref := sumVec recent
  let reals := (re.natAbs :: c.reals).take 8
  let sum := reals.foldl (· + ·) 0
  let lam := if sym.erased.all (· = true) then 0 else llr re sum reals.length sigma2 up
  let own := (y.1 * y.1 + y.2 * y.2).toNat / 2 ^ 32
  let e := (c.energy.1 + sym.early, c.energy.2.1 + own, c.energy.2.2 + sym.late)
  let ends := (c.symbols + 1) % trackEvery c.rate = 0
  { c with llrs := c.llrs ++ [lam], recent := recent, reals := reals, symbols := c.symbols + 1, last := sym.first
           phaseRef := if ref = (0, 0) then c.phaseRef else ref
           phase := if ends then trackPhase c e else c.phase, energy := if ends then (0, 0, 0) else e
           snrSum := c.snrSum.add ⟨sum * sum * sigma2.den, reals.length * reals.length * 2 * sigma2.num⟩ }

/-- Samples of stream i per chip (R101, R124). -/
def State.chipSamples (s : State) (f i : Nat) (w : Bool) : Nat :=
  let perChip := if w then 8 else 32
  if s.on (Reg.LINK.STREAM.SRC_RF f i) then 2 * perChip
  else
    let n := perChip * 2 ^ s.get (Reg.LINK.CFG.WIDTH f (s.get (Reg.LINK.STREAM.SRC f i)))
    if s.get (Reg.LINK.STREAM.PART f i) = 0 then n else n / 2

/-- σ² of a context's symbol that begins at a sample, in the units of its values (R145): the channel's noise floor, or
START_THR where R140 applies, at the gain to which the markers return the samples. [DESIGN CHOICE, log entry 156] -/
def State.sigma2 (s : State) (f : Nat) (c : DemodCtx) (markers : List (Nat × Int)) (sample : Nat) : Frac :=
  let fl := s.floorOf f c.ctx c.w c.chan
  let p := if fl.valid then fl.power else decade 40 (s.startThr f)
  let db := signedOf 6 (Tbl.getD s.air.dgain (512 * f + c.ctx) 0) - markedDb (c.marked markers) sample
  ((p.mul (decade 10 db)).mul (Config.chipNoise c.w)).scale (spreadOf c.rate * 2 ^ 32) 1

/-- Symbols are still wanted: the block's end is not known, or not reached. -/
def DemodCtx.wants (c : DemodCtx) : Bool := match c.total? with
  | some t => c.symbols < 2 * t
  | none => true

/-- DEMOD_SYMBOL. [DESIGN CHOICE, log entries 13, 156] -/
def execDemodSymbol (f : Fin 6) (d : Fin 4096) (sym : SymbolIn) (s : State) : Host.Outcome State Fault Refusal :=
  formed (.demodSymbol f d sym) (match s.ctx? f d with
    | some c => s.when (s.dieUp f && s.delivers f c.ctx && c.wants && sym.chips.length = spreadOf c.rate) fun s =>
        let marks := Tbl.getD s.air.markers (512 * f.val + c.ctx) []
        let s := (s.setCtx f d (c.symbol sym (s.chipSamples f c.ctx c.w) marks (s.sigma2 f c marks sym.first)
          (Config.roundUp s.free))).spend 1
        if sym.erased.all (· = true) then s.bump (Reg.DEMOD.ERASED f) else s
    | none => s)

/-! ### The trellis decoder (R112, R147) -/

/-- A branch metric: the LLRs counted with the signs of the coded bits that a register gives. -/
def branch (reg : Nat) (l0 l1 : Int) : Int :=
  (if (convOut reg).1 then -l0 else l0) + (if (convOut reg).2 then -l1 else l1)

/-- The survivor of a next state: its metric and whether it comes from the odd predecessor.
[DESIGN CHOICE, log entry 46] -/
def acs (m : List Int) (l0 l1 : Int) (tie : Nat → Bool) (ns : Nat) : Int × Bool :=
  let p := 2 * ns % 64
  let b := ns / 32 * 64
  let m0 := m.getD p 0 + branch (b + p) l0 l1
  let m1 := m.getD (p + 1) 0 + branch (b + p + 1) l0 l1
  if m0 < m1 then (m1, true) else if m1 < m0 then (m0, false) else (m0, tie ns)

/-- One information bit: the 64 path metrics and the decisions, bit ns of a number for state ns. -/
def acsStep (m : List Int) (l0 l1 : Int) (tie : Nat → Bool) : List Int × Nat :=
  let r := (List.range 64).map (acs m l0 l1 tie)
  (r.map (·.1), (List.range 64).foldl (fun a ns => a + bit ((r.getD ns (0, false)).2) * 2 ^ ns) 0)

/-- Advances a context by n information bits. -/
def DemodCtx.advance (c : DemodCtx) (free : Nat) : Nat → DemodCtx
  | 0 => c
  | n + 1 =>
    let r := acsStep c.metrics (c.llrs.getD (2 * c.steps) 0) (c.llrs.getD (2 * c.steps + 1) 0)
      fun ns => Config.trellisTie (free + ns)
    DemodCtx.advance { c with metrics := r.1, decisions := r.2 :: c.decisions, steps := c.steps + 1 } (free + 64) n

/-- A step that ends at a number of bits leaves a best state from which a check group or a segment is traced back
(R111, R147). -/
def keepsBest (steps : Nat) : Bool := steps = 72 || steps = 88 || steps = 216 || (48 < steps && steps % 256 = 48)

/-- Information bits of the next step: 8, or what is left to the tail (R147). [DEDUCED, log entry 47] -/
def DemodCtx.nextStep (c : DemodCtx) : Nat := match c.total? with
  | some t => min 8 (t - c.steps)
  | none => 8

/-- The bits a traceback reads, newest first, from a state (R147). -/
def traceFrom : List Nat → Nat → List Bool
  | [], _ => []
  | dec :: l, st => (32 ≤ st : Bool) :: traceFrom l ((2 * st + bitsAt dec st 1) % 64)

/-- The best state: one with the greatest metric. [DESIGN CHOICE, log entry 46] -/
def bestState (m : List Int) (pick : Nat → Nat) : Nat :=
  let top := m.foldl max (m.headD 0)
  let l := (List.range 64).filter fun i => m.getD i 0 = top
  l.getD (pick l.length % l.length) 0

/-- The best state after a step, where one is kept. -/
def DemodCtx.keepBest (c : DemodCtx) (free : Nat) : DemodCtx :=
  if keepsBest c.steps then
    { c with best := (c.steps, bestState c.metrics fun n => Config.bestTie (free * 64 + n)) :: c.best }
  else c

/-- TRELLIS_STEP. -/
def execTrellisStep (f : Fin 6) (d : Fin 4096) (s : State) : Host.Outcome State Fault Refusal :=
  .next (match s.ctx? f d with
    | some c =>
      let n := c.nextStep
      s.when (s.dieUp f && 0 < n && 2 * (c.steps + n) ≤ c.llrs.length) fun s =>
        (s.setCtx f d ((c.advance s.free n).keepBest s.free)).spend (64 * n + 1)
    | none => s)

/-- Where a traceback that wants the decisions up to bit n starts: there from the best state, or at the tail from state 0
where the tail comes before (R111, R147); nothing while neither has been reached. [DEDUCED, log entry 47] -/
def DemodCtx.traceAt (c : DemodCtx) (n : Nat) : Option (Nat × Nat) :=
  match c.total? with
  | some t => if t ≤ n then (if t ≤ c.steps then some (t, 0) else none)
              else if n ≤ c.steps then some (n, Tbl.getD c.best n 0) else none
  | none => if n ≤ c.steps then some (n, Tbl.getD c.best n 0) else none

/-- Decides bits up to an end, traced back from a state at a later bit. -/
def DemodCtx.decide (c : DemodCtx) (upTo : Nat) (start : Nat × Nat) : DemodCtx :=
  let l := (traceFrom (c.decisions.drop (c.steps - start.1)) start.2).reverse
  { c with bits := c.bits ++ l.take (upTo - c.bits.length), decisions := c.decisions.take (c.steps - upTo) }

/-! ### Receive checks (R111) -/

/-- The status with which the first check group ends a frame. -/
def DemodCtx.check0 (c : DemodCtx) : Option Status :=
  let h := c.phy
  if crc8 0xFF (bitsOf 16 (h / 256)) ≠ h % 256 then some .decodeFail
  else if bitsAt h 11 2 ≠ 0 then some .decodeFail
  else if phyLen h = 0 then some .badLength
  else if maxFrame c.rate < phyLen h then some .lengthBeyondBuffer
  else none

/-- The status with which the second group ends it. -/
def DemodCtx.check1 (c : DemodCtx) : Option Status :=
  let m := c.head
  let cv := cvBytes (macCvlen m)
  if c.len < 18 + cv then some .badLength
  else if 6 ≤ macType m ∨ 4 ≤ macClass m then some .badField
  else if macType m = 1 ∧ c.len ≠ 22 + cv then some .badLength
  else if macType m = 4 ∧ c.len ≠ 38 + cv then some .badLength
  else none

/-- The status with which the third group ends it (R108, R116). -/
def DemodCtx.check2 (c : DemodCtx) : Option Status :=
  let m := c.head
  if macNet m ≠ c.netId then some .badField
  else if macDst m ≠ 0 ∧ macDst m ≠ broadcast then some .badField
  else if macSrc m = 0 ∨ macSrc m = broadcast then some .badAddress
  else if macType m = 2 ∨ macType m = 4 ∨ macType m = 5 then some .badField
  else none

/-- The check group that follows those passed. [DEDUCED, log entry 47] -/
def DemodCtx.check (c : DemodCtx) : Option Status :=
  match c.checks with
  | 0 => c.check0
  | 1 => c.check1
  | _ => c.check2

/-- The DEMOD statistic of a status. -/
def demodStat (f : Nat) : Status → Fld
  | .badLength => Reg.DEMOD.BAD_LENGTH f
  | .lengthBeyondBuffer => Reg.DEMOD.LENGTH_BEYOND_BUFFER f
  | .badField => Reg.DEMOD.BAD_FIELD f
  | .badAddress => Reg.DEMOD.BAD_ADDRESS f
  | _ => Reg.DEMOD.DECODE_FAIL f

/-- Last bit plus one of the check group due, and the bits after which it is decided. -/
def groupEnd (g : Nat) : Nat := [24, 40, 168].getD g 168
/-- Information bits after which a check group is decided. -/
def groupAt (g : Nat) : Nat := [72, 88, 216].getD g 216

/-- A check group is made: the frame ends at the first failure, or the checks go on. [DEDUCED, log entry 47] -/
def State.checkGroup (s : State) (f d : Nat) (c : DemodCtx) (start : Nat × Nat) : State :=
  let upTo := match c.total? with
    | some t => min (groupEnd c.checks) t
    | none => groupEnd c.checks
  let c := c.decide upTo start
  match c.check with
  | some st => (s.bump (demodStat f st)).freeCtx f d c
  | none => s.setCtx f d { c with checks := c.checks + 1 }

/-! ### Segments, verdict, frame record (R148, R149) -/

/-- The identity of a copy. -/
def DemodCtx.info (c : DemodCtx) (f : Nat) : CopyInfo :=
  { serial := c.serial, f := f, ctx := c.ctx, chan := c.chan, grid := c.grid, rate := c.rate, net := c.net,
    len := c.len, syncNs := c.syncNs, stamp := c.stamp, ofs10Hz := c.ofs10Hz }

/-- Segments of a block. -/
def segCount (total : Nat) : Nat := (total + 255) / 256

/-- A segment message (R149). -/
def DemodCtx.segMsg (c : DemodCtx) (f : Nat) : UpMsg :=
  .segment (c.info f) c.sent c.head c.phy ((c.bits.drop (256 * c.sent)).take 256) ((c.llrs.drop (512 * c.sent)).take 512)

/-- Coded bits that disagree with the signs of their LLRs; an LLR of 0 disagrees (R148). -/
def disagreements : List Bool → List Int → Nat
  | [], _ => 0
  | _, [] => 0
  | b :: bs, l :: ls => (if (b && l < 0) || (!b && 0 < l) then 0 else 1) + disagreements bs ls

/-- The verdict: disagreements scaled to 1,024 coded bits do not exceed ERR_MAX. -/
def verdict (dis coded errMax : Nat) : Bool := dis * 1024 ≤ errMax * coded

/-- The largest q from lo on, by bisection over 2^fuel values, with snr ≥ 10^((2q − 1) / 40). [DEDUCED, log entry 48] -/
def lqiSearch (p : Frac) : Nat → Nat → Nat
  | 0, lo => lo
  | fuel + 1, lo => if powGe 40 p (2 * ((lo + 2 ^ fuel : Nat) : Int) - 1) then lqiSearch p fuel (lo + 2 ^ fuel)
                    else lqiSearch p fuel lo

/-- LQI of an SNR per coded bit (R149): 0.5 dB units, halves upwards, 0 to 255. [DEDUCED, log entry 48] -/
def lqiOf (snr : Frac) : Nat := if snr.num = 0 then 0 else if snr.den = 0 then 255 else lqiSearch snr 8 0

/-- Writes or refreshes the hearing-table entry of a source (R210). [DEDUCED, log entry 62] -/
def State.hearUpdate (s : State) (f : Nat) (src ctx rate lqi : Nat) : State :=
  let cyc := s.time.msc / 48 % 2 ^ 24
  let b := 2 ^ 18 * f + src * 0x85EBCA77 % 2 ^ 32 / 2 ^ 16 * 4
  let at? (w : Nat) : Option HearEntry := Tbl.find? s.hear (b + w)
  let held := (List.range 4).find? fun w => (at? w).any fun e => e.addr = src
  let free := (List.range 4).find? fun w => (at? w).isNone
  let age (w : Nat) : Nat := ((at? w).map fun e => (cyc + 2 ^ 24 - e.heard) % 2 ^ 24).getD 0
  let oldest := (List.range 4).foldl (fun best w => if age best < age w then w else best) 0
  match held with
  | some w =>
    match at? w with
    | some e =>
      let keep := e.heard = cyc ∧ lqi ≤ e.lqi
      let e := if keep then { e with count := min 255 (e.count + 1) }
        else { e with ctx := ctx, rate := rate, lqi := lqi, heard := cyc, count := min 255 (e.count + 1) }
      { s with hear := Tbl.put s.hear (b + w) e }
    | none => s
  | none => { s with hear := Tbl.put s.hear (b + free.getD oldest) ⟨src, ctx, rate, lqi, cyc, 1⟩ }

/-- The verdict and the frame record, after which the context is free (R143, R148, R149). -/
def State.sendRecord (s : State) (f d : Nat) (c : DemodCtx) : State :=
  let coded := convEncode 0 c.bits
  let dis := disagreements coded c.llrs
  let ok := verdict dis coded.length (s.get (Reg.DEMOD.CTL.ERR_MAX f))
  let lqi := lqiOf (c.snrSum.scale 1 c.symbols)
  let s := s.sendUp f (.record { info := c.info f, lqi := lqi, done := ok, disagree := dis, phy := c.phy,
                                 head := c.head, segments := c.sent })
  let s := s.bump (if ok then Reg.DEMOD.GOOD f else Reg.DEMOD.DECODE_FAIL f)
  let s := if ok then s.hearUpdate f (macSrc c.head) c.ctx c.rate lqi else s
  s.freeCtx f d c

/-- The next segment that a traceback decides: its end, whether it is the last, and where the traceback starts.
[DEDUCED, log entry 47] -/
def DemodCtx.segmentDue (c : DemodCtx) : Option (Nat × Bool × Nat × Nat) :=
  if c.checks < 3 then none
  else
    let t := codedBits c.len
    let last := c.sent + 1 = segCount t
    (c.traceAt (if last then t else 256 * (c.sent + 1) + 48)).map fun start =>
      (if last then t else 256 * (c.sent + 1), last, start)

/-- A segment is decided and sent; the last one brings the frame record. -/
def State.sendSegment (s : State) (f d : Nat) (c : DemodCtx) (upTo : Nat) (last tailLate : Bool)
    (start : Nat × Nat) : State :=
  let c := c.decide upTo start
  let s := s.sendUp f (c.segMsg f)
  let c := { c with sent := c.sent + 1 }
  if last then
    let s := if tailLate then s.bump (Reg.DEMOD.TAIL_LATE f) else s
    s.sendRecord f d c
  else s.setCtx f d c

/-- TRACEBACK: the check group due, else the segment due. `tailLate` says that the final step and the last segment's
traceback took longer than 96 FCLK cycles. -/
def execTraceback (f : Fin 6) (d : Fin 4096) (tailLate : Bool) (s : State) : Host.Outcome State Fault Refusal :=
  .next (match s.ctx? f d with
    | some c => s.when (s.dieUp f) fun s =>
        if c.checks < 3 then (match c.traceAt (groupAt c.checks) with
          | some start => s.checkGroup f d c start
          | none => s)
        else match c.segmentDue with
          | some (upTo, last, start) => s.sendSegment f d c upTo last tailLate start
          | none => s
    | none => s)

end Sys2Proof.Machine
end

