-- ==== Sys2Proof/Machine/Blend.lean ====
section
/-! DEFINITION. Blend's arithmetic (R149, R153, R154): the running sums of a group's copies, the combined decode in the
manner of R147, the LQI of the sums, and the frames that decoded bits spell. -/

namespace Sys2Proof.Machine

/-- A running sum: 9-bit signed, saturating at ±255. [DEDUCED, log entry 53] -/
def sat255 (x : Int) : Int := if x < -255 then -255 else if 255 < x then 255 else x

/-- Adds a segment's LLRs to sums, coded bit by coded bit. -/
def addLlrs : List Int → List Int → List Int
  | [], l => l
  | s, [] => s
  | x :: s, y :: l => sat255 (x + y) :: addLlrs s l

/-- Copies that take part in combining: their frame record came in time (R152). -/
def Group.kept (g : Group) : List Copy := g.copies.filter fun c => c.record.isSome && !c.late

/-- The sums of segment ix over the kept copies, in order of arrival. -/
def Group.segSums (g : Group) (ix n : Nat) : List Int :=
  let segs := (g.kept.flatMap (·.segs)).filter fun x => x.ix = ix
  let l := (sortBy (fun a b : SegIn => a.order ≤ b.order) segs).foldl (fun acc x => addLlrs acc x.llrs) []
  l.take n ++ List.replicate (n - l.length) 0

/-- Coded bits of segment ix of a block of so many information bits. -/
def segCoded (total ix : Nat) : Nat := 2 * min 256 (total - 256 * ix)

/-- The sums of a whole block. -/
def Group.sums (g : Group) : List Int :=
  let total := codedBits g.len
  (List.range (segCount total)).flatMap fun ix => g.segSums ix (segCoded total ix)

/-- A decoder set up on a block's sums. -/
def blendCtx (g : Group) : DemodCtx :=
  { serial := 0, rate := g.rate, net := g.net, codeSet := 0, netId := 0, ctx := 0, w := false, chan := 0, phase := 0,
    ofs10Hz := 0, phaseRef := (0, 0), power := Frac.zero, noiseRef := 0, syncNs := 0, stamp := 0, grid := g.grid,
    marks := 0, last := 0, llrs := g.sums, recent := [], reals := [], symbols := 0, energy := (0, 0, 0),
    snrSum := Frac.zero, metrics := 0 :: List.replicate 63 (-1000000000), decisions := [], best := [], steps := 0,
    bits := [], checks := 0, sent := 0 }

/-- Decodes one segment: from state 0 at the tail, or from the best state 48 information bits beyond the segment's end
where the block goes on past them (R147, and R111 for a tail that comes before). [DEDUCED, log entry 47] -/
def blendSegment (total free : Nat) (c : DemodCtx) (ix : Nat) : DemodCtx :=
  let last := ix + 1 = segCount total
  let goal := if last then total else min total (256 * (ix + 1) + 48)
  let upTo := if last then total else 256 * (ix + 1)
  let c := c.advance (free + 64 * c.steps) (goal - c.steps)
  let st := if goal = total then 0 else bestState c.metrics fun n => Config.bestTie ((free + ix) * 64 + n)
  let l := (traceFrom c.decisions st).reverse
  { c with bits := c.bits ++ l.take (upTo - c.bits.length), decisions := c.decisions.take (c.steps - upTo) }

/-- The combined decode of a group: its bits and LQI. -/
def Group.decodeSums (g : Group) (free : Nat) : List Bool × Nat :=
  let total := codedBits g.len
  let c := (List.range (segCount total)).foldl (blendSegment total free) (blendCtx g)
  let sums := g.sums
  (c.bits, lqiOf ⟨sums.foldl (fun a x => a + x.natAbs) 0, 16 * sums.length⟩)

/-- Free values a combined decode takes. -/
def Group.decodeSpend (g : Group) : Nat := 64 * codedBits g.len + segCount (codedBits g.len)

/-- The MAC frame that a block's bits spell. -/
def frameOfBits (len : Nat) (bits : List Bool) : List Byte := bytesOfBits len ((bits.drop 24).take (8 * len))

/-- A copy's decoded bits, its segments in order. -/
def Copy.bits (c : Copy) : List Bool :=
  (sortBy (fun a b : SegIn => a.ix ≤ b.ix) c.segs).flatMap (·.bits)

/-- The copy of a group with a serial. -/
def Group.copy? (g : Group) (serial : Nat) : Option Copy := g.copies.find? fun c => c.info.serial = serial

/-- The bits of a result. -/
def Group.bitsOfResult (g : Group) : ResultSrc → List Bool
  | .copy n => ((g.copy? n).map (·.bits)).getD []
  | .combined => (g.combined.map (·.1)).getD []

/-- The MAC frame of a result. -/
def Group.frame (g : Group) (r : ResultSrc) : List Byte := frameOfBits g.len (g.bitsOfResult r)

/-- The PHY header of a result. -/
def Group.phy (g : Group) (r : ResultSrc) : Nat := ofBits ((g.bitsOfResult r).take 24)

/-- LQI of a kept copy. -/
def Copy.lqi (c : Copy) : Nat := (c.record.map (·.1)).getD 0

/-- A copy is better than another: higher LQI, and the earlier arrival of its record where LQI is equal. -/
def rankCopies (l : List Copy) : List Copy :=
  sortBy (fun a b : Copy => b.lqi < a.lqi || (b.lqi = a.lqi && a.recordAt ≤ b.recordAt)) l

/-- The kept copies with verdict DONE, by falling LQI (R154). -/
def Group.doneCopies (g : Group) : List Copy := rankCopies (g.kept.filter fun c => c.record.any (·.2))

/-- The copy that stands for a result: itself, or the best kept copy for the combined result. -/
def Group.bestCopy (g : Group) (r : ResultSrc) : Option Copy :=
  match r with
  | .copy n => g.copy? n
  | .combined => (rankCopies g.kept).head?

/-- LQI of a result. [DEDUCED, log entry 53] -/
def Group.lqi (g : Group) (r : ResultSrc) : Nat :=
  match r with
  | .copy n => ((g.copy? n).map (·.lqi)).getD 0
  | .combined => (g.combined.map (·.2)).getD 0

end Sys2Proof.Machine
end

