-- ==== Sys2Proof/Machine/Check.lean ====
section
/-! DEFINITION. Kiln's keys in use: slots and their attributes (R272 to R275), the key cache (R276, R277), the check
engine's queue (R279 to R281) and the downlink counters (R282). -/

namespace Sys2Proof.Machine

/-! ### Slots (R272 to R274) -/

/-- CLASS of an ATTR value: 0 empty, 1 S, 2 N. -/
def attrClass (a : Nat) : Nat := bitsAt a 0 2
/-- LEN256 of an ATTR value. -/
def attrLen256 (a : Nat) : Bool := bitsAt a 6 1 = 1
/-- EXP_RESET of an ATTR value. -/
def attrExp (a : Nat) : Bool := bitsAt a 7 1 = 1
/-- COUNT of an ATTR value. -/
def attrCount (a : Nat) : Nat := bitsAt a 8 16

/-- The USES bits. -/
def useGen : Nat := 2
/-- VERIFY_CHECK. -/
def useVerify : Nat := 3
/-- WRAP. -/
def useWrap : Nat := 4
/-- DERIVE. -/
def useDerive : Nat := 5

/-- A legal ATTR value of a key (R272). -/
def attrLegal (a : Nat) : Bool :=
  (attrClass a = 1 || attrClass a = 2)
  && (attrClass a ≠ 2 || popCount 4 (bitsAt a 2 4) = 1) && (attrClass a ≠ 1 || bitsAt a 2 4 ≠ 0)
  && (bitsAt a 5 1 = 0 || attrLen256 a)
  && (attrClass a ≠ 1 || attrExp a = decide (attrCount a = 0))
  && (attrClass a ≠ 2 || (!attrExp a && attrCount a = 0))

/-- A slot, if it holds a key. -/
def State.slot? (s : State) (k : Nat) : Option Slot := Tbl.find? s.kiln.slots k

/-- The state of KILN.STATUS (R268). -/
def State.kilnState (s : State) : Nat := s.get Reg.KILN.STATUS.STATE

/-- Kiln is READY. -/
def State.kilnReady (s : State) : Bool := s.kilnState = 2

/-- Approved mode (R267). -/
def State.approved (s : State) : Bool := s.on Reg.KILN.CTL.APPROVED

/-- The first check of R273 that a use of a slot fails; kc is the key class of the map entry it is reached through. -/
def State.slotError (s : State) (k use : Nat) (kc : Option Nat) : Option Status :=
  match s.slot? k with
  | none => some .notFound
  | some x =>
    if bitsAt x.attr use 1 = 0 then some .badKeyUse
    else if attrClass x.attr = 1 ∧ attrCount x.attr = 0 ∧ !attrExp x.attr then some .keyExpired
    else if attrClass x.attr ≠ 2 ∧ kc.any (· ≤ 2) then some .badKeyUse
    else none

/-- A refusal of approved mode (R267). -/
def State.approvedReject (s : State) : State := (s.bump Reg.KILN.APPROVED_REJECT).fireOnce 230

/-- Counts a use of a key that ends with KEY_EXPIRED or BAD_KEY_USE. [DEDUCED, log entry 54] -/
def State.countKeyError (s : State) (st : Status) : State :=
  match st with
  | .keyExpired => s.bump Reg.KILN.KEY_EXPIRED
  | .badKeyUse => s.bump Reg.KILN.BAD_KEY_USE
  | _ => s

/-! ### The key cache (R276, R277) -/

/-- The set of a key (R277). -/
def cacheSet (a n ix : Nat) : Nat := ((a * 0x85EBCA77 % 2 ^ 32) ^^^ (n * 256 + ix)) % 4096

/-- The tag of an entry matches. -/
def CacheEntry.matches (e : CacheEntry) (n a ix slot : Nat) : Bool :=
  e.net = n && e.addr = a && e.ix = ix && e.slot = slot

/-- Replaces the cache. -/
def State.setCache (s : State) (t : Tbl CacheEntry) : State := { s with kiln := { s.kiln with cache := t } }

/-- A request in the queue or waiting for it uses a cache entry. -/
def State.cacheQueued (s : State) (i : Nat) : Bool := s.kiln.reqs.any fun p => p.2.key = .cache i

/-- An entry a miss may take: not TENTATIVE, used by no request and by no received frame that has not ended. -/
def State.evictable (s : State) (i : Nat) (e : CacheEntry) : Bool := !e.tentative && e.serving.isEmpty && !s.cacheQueued i

/-- Finds the entry of a whole tag: KEYIX of the node first, then the set (R277). -/
def State.cacheFind (s : State) (n a ix slot : Nat) : Option Nat :=
  let hint := ((s.nodeSound a).map fun p => nodeKeyix p.2).getD 0xFFFF
  let ok (i : Nat) : Bool := (Tbl.find? s.kiln.cache i).any fun e => e.matches n a ix slot && !e.doomed
  if ok hint then some hint else ((List.range 16).map (16 * cacheSet a n ix + ·)).find? ok

/-- The way of a set that a miss takes: a free one, else the least recently used one that may be evicted.
[DEDUCED, log entries 43, 97] -/
def State.cacheWay (s : State) (h : Nat) : Option Nat :=
  let ways := (List.range 16).map (16 * h + ·)
  match ways.find? fun i => !Tbl.has s.kiln.cache i with
  | some i => some i
  | none =>
    let usable := s.kiln.cache.filter fun p => p.1 / 16 = h && s.evictable p.1 p.2
    (usable.foldl (fun (best : Option (Nat × CacheEntry)) p =>
      if best.all fun b => p.2.used < b.2.used then some p else best) none).map (·.1)

/-- Marks an entry used now, and serving a group. -/
def State.touchCache (s : State) (i : Nat) (g : Option Nat) : State :=
  let t := s.kiln.tick + 1
  let upd (e : CacheEntry) : CacheEntry :=
    { e with used := t, serving := match g with
      | some g => if g ∈ e.serving then e.serving else e.serving ++ [g]
      | none => e.serving }
  match Tbl.find? s.kiln.cache i with
  | some e => { s with kiln := { s.kiln with cache := Tbl.put s.kiln.cache i (upd e), tick := t } }
  | none => s

/-- A node key by derivation from its slot (R276). -/
def State.deriveNode (s : State) (n a ix : Nat) (x : Slot) (len256 : Bool) : List Byte :=
  kdfKey x.key [0x57, 0x58, 0x4E, 0x31]
    (beBytes 2 (s.get (Reg.MAC.NET_CFG.NETID n)) ++ beBytes 4 a ++ [0] ++ beBytes 1 ix) len256

/-- A miss (R277): the key is derived into a way, TENTATIVE for a received frame, or into scratch. -/
def State.cacheMiss (s : State) (n a ix slot : Nat) (x : Slot) (g : Option Nat) : State × KeyRef :=
  let key := s.deriveNode n a ix x (s.on (Reg.KILN.KEYMAP.LEN256 n 0 ix))
  let s := (s.bump Reg.KILN.CACHE_MISS).bump Reg.KILN.DERIVED
  match s.cacheWay (cacheSet a n ix) with
  | some i =>
    let s := if Tbl.has s.kiln.cache i then s.bump Reg.KILN.CACHE_EVICT else s
    let e : CacheEntry := ⟨n, a, ix, slot, key, g.isSome, 0, [], false⟩
    ((s.setCache (Tbl.put s.kiln.cache i e)).touchCache i g, .cache i)
  | none => ((s.bump Reg.KILN.CACHE_SCRATCH).fireOnce 231, .scratch key)

/-- The node key of a frame or downlink under key class 0 (R275 to R277), or the status its use fails with. The miss of
a downlink writes the entry's index to KEYIX of the destination. [DEDUCED, log entry 96] -/
def State.nodeKey (s : State) (n a ix : Nat) (g : Option Nat) : State × Except Status KeyRef :=
  let slot := s.get (Reg.KILN.KEYMAP.VSLOT n 0 ix)
  match s.slotError slot useDerive (some 0), s.slot? slot with
  | some st, _ => (s, .error st)
  | none, none => (s, .error .notFound)
  | none, some x =>
    let s := (s.nodeFind a).1
    match s.cacheFind n a ix slot with
    | some i => ((s.touchCache i g).bump Reg.KILN.CACHE_HIT, .ok (.cache i))
    | none =>
      let r := s.cacheMiss n a ix slot x g
      match g, r.2, s.nodeSound a with
      | none, .cache i, some (j, w) => (r.1.nodePut j (putBits w 111 16 i), .ok r.2)
      | _, _, _ => (r.1, .ok r.2)

/-- Empties cache entries now, or once the requests that use them complete. -/
def State.emptyCache (s : State) (p : CacheEntry → Bool) : State :=
  let t := s.kiln.cache.map fun e => if p e.2 then (e.1, { e.2 with doomed := true }) else e
  let s := s.setCache t
  s.setCache (t.filter fun e => !e.2.doomed || s.cacheQueued e.1)

/-- A group that cache entries serve ends: the entry `keep` that verified a confirmed frame becomes resident, and the
last other ending empties a TENTATIVE entry (R277). -/
def State.cacheEnd (s : State) (g : Nat) (keep : Option KeyRef) : State :=
  let t := s.kiln.cache.map fun e => if g ∈ e.2.serving then
      (e.1, { e.2 with serving := e.2.serving.filter (· ≠ g), tentative := e.2.tentative && keep ≠ some (.cache e.1) }) else e
  s.setCache (t.filter fun e => !(e.2.tentative && e.2.serving.isEmpty && !s.cacheQueued e.1))

/-- A slot changes or empties (R277, R281): entries derived from it go, and scratch keys are derived again. -/
def State.dropDerived (s : State) (slots : List Nat) : State :=
  let s := s.emptyCache fun e => decide (e.slot ∈ slots)
  let stale (g : Group) : Group := match g.key with
    | some (.scratch _) => { g with key := none }
    | _ => g
  { s with rx := { s.rx with groups := s.rx.groups.map fun p => (p.1, stale p.2) } }

/-! ### The check engine's queue (R279 to R281) -/

/-- The class a request is admitted in: 0 receive verification, 1 downlink generation, 2 host. -/
def CheckWhy.cls : CheckWhy → Nat
  | .receive _ => 0
  | .ack _ => 1
  | .downlink _ => 1
  | .hostGen _ _ => 2
  | .hostVerify _ => 2

/-- Requests of a class that are in the queue. -/
def State.queued (s : State) (c : Nat) : Nat :=
  (s.kiln.reqs.filter fun p => p.2.admitted.isSome && p.2.why.cls = c).length

/-- Whether the queue has room for a request of a class: its reserved entries, or the 512 shared ones (R279).
[DEDUCED, log entry 98] -/
def State.queueRoom (s : State) (c : Nat) : Bool :=
  let shared := (s.queued 0 - 384) + (s.queued 1 - 128) + s.queued 2
  (c = 0 && s.queued 0 < 384) || (c = 1 && s.queued 1 < 128) || shared < 512

/-- Shows the queue's use. -/
def State.showQueue (s : State) : State :=
  s.showUse Reg.KILN.QUEUE.IN_USE Reg.KILN.QUEUE.PEAK (s.queued 0 + s.queued 1 + s.queued 2)

/-- Replaces the requests. -/
def State.setReqs (s : State) (t : Tbl CheckReq) : State := { s with kiln := { s.kiln with reqs := t } }

/-- A new request, waiting for its admission. -/
def State.newReq (s : State) (r : CheckReq) : State :=
  let k := s.kiln
  { s with kiln := { k with reqs := Tbl.put k.reqs k.nextReq { r with since := s.counterNs }, nextReq := k.nextReq + 1 } }

/-- The check of R273 a request meets at admission. -/
def State.reqError (s : State) (r : CheckReq) : Option Status :=
  match r.key with
  | .slot k => s.slotError k (if r.verify then useVerify else useGen) r.kc
  | _ => none

/-- The key of a reference. -/
def State.keyOf (s : State) (r : KeyRef) : Option (List Byte) :=
  match r with
  | .slot k => (s.slot? k).map (·.key)
  | .cache i => (Tbl.find? s.kiln.cache i).map (·.key)
  | .scratch key => some key

/-- A class S use with a count decrements COUNT (R274). [DEDUCED, log entry 96] -/
def State.useSlot (s : State) (k : Nat) : State :=
  match s.slot? k with
  | some x =>
    if attrClass x.attr = 1 ∧ !attrExp x.attr then
      let a := putBits x.attr 8 16 (attrCount x.attr - 1)
      { s with kiln := { s.kiln with slots := Tbl.put s.kiln.slots k { x with attr := a } } }
    else s
  | none => s

/-- Admission: the key is taken as it stands, and COUNT moves. -/
def State.admitKeys (s : State) (id : Nat) (r : CheckReq) (key : List Byte) : State :=
  let s := match r.key with
    | .slot k => s.useSlot k
    | .cache i => s.touchCache i none
    | .scratch _ => s
  (s.setReqs (Tbl.put s.kiln.reqs id { r with admitted := some key })).showQueue

/-- A waiting request comes before another: by arrival, and of requests that reach admission in one HCLK cycle receive
verification first, then downlink generation, then host commands (R274, R279). [DEDUCED, log entry 98] -/
def CheckReq.before (id : Nat) (r : CheckReq) (id' : Nat) (r' : CheckReq) : Bool :=
  r.since < r'.since || (r.since = r'.since && (r.why.cls < r'.why.cls || (r.why.cls = r'.why.cls && id < id')))

/-- The queue has room for a waiting request, and none that comes before it could enter. [DEDUCED, log entry 98] -/
def State.admissible (s : State) (id : Nat) (r : CheckReq) : Bool :=
  r.admitted.isNone && s.queueRoom r.why.cls
  && !s.kiln.reqs.any fun p => p.2.admitted.isNone && s.queueRoom p.2.why.cls && p.2.before p.1 id r

/-- An exhausted class S slot is emptied when no admitted request uses it any more (R274). -/
def State.sweepSlot (s : State) (k : Nat) : State :=
  match s.slot? k with
  | some x =>
    let used := s.kiln.reqs.any fun p => p.2.admitted.isSome && p.2.key = .slot k
    if attrClass x.attr = 1 ∧ !attrExp x.attr ∧ attrCount x.attr = 0 ∧ !used then
      ({ s with kiln := { s.kiln with slots := Tbl.erase s.kiln.slots k } }).fire 227
    else s
  | none => s

/-- A request leaves the engine: doomed cache entries and exhausted slots go with their last request. -/
def State.endReq (s : State) (id : Nat) (r : CheckReq) : State :=
  let s := s.setReqs (Tbl.erase s.kiln.reqs id)
  let s := match r.key with
    | .slot k => s.sweepSlot k
    | _ => s.setCache (s.kiln.cache.filter fun e =>
        !((e.2.doomed || (e.2.tentative && e.2.serving.isEmpty)) && !s.cacheQueued e.1))
  s.showQueue

/-- The tag of an admitted request. -/
def CheckReq.result (r : CheckReq) : List Byte := (cmac (r.admitted.getD []) r.msg).take r.trunc

/-- The verdict of an admitted request: a generation always succeeds. -/
def CheckReq.verdict (r : CheckReq) : Bool := !r.verify || r.result = r.tag

/-- Counts a finished request. -/
def State.countCheck (s : State) (r : CheckReq) : State :=
  if !r.verify then s.bump Reg.KILN.GENERATED
  else if r.verdict then s.bump Reg.KILN.VERIFY_OK
  else s.bump Reg.KILN.VERIFY_FAIL

/-! ### Downlink counters (R282) -/

/-- The record of a destination: its node-table index, or in its set of 16 the record that holds its address, a free
one, or the least recently used. -/
def State.ctrIndex (s : State) (a : Nat) : Nat :=
  match s.nodeSound a with
  | some (i, _) => i
  | none =>
    let base := nodeTop + 16 * (a * 0x85EBCA77 % 2 ^ 32 % 256)
    let ways := (List.range 16).map (base + ·)
    let rec? (i : Nat) : Option CtrRec := Tbl.find? s.kiln.counters i
    match ways.find? fun i => (rec? i).any fun r => r.addr = a with
    | some i => i
    | none =>
      match ways.find? fun i => (rec? i).isNone with
      | some i => i
      | none => ways.foldl (fun best i =>
          if ((rec? i).map (·.used)).getD 0 < ((rec? best).map (·.used)).getD 0 then i else best) base

/-- Assigns the next counter of a destination and key class (R179, R282); none when it would pass 0xFFFF_FFFF. -/
def State.nextCounter (s : State) (a kc : Nat) : State × Option Nat :=
  let s := (s.nodeFind a).1
  let i := s.ctrIndex a
  let r : CtrRec := match Tbl.find? s.kiln.counters i with
    | some r => if r.addr = a then r else ⟨a, [], 0⟩
    | none => ⟨a, [], 0⟩
  let v := match Tbl.find? r.ctrs kc with
    | some c => c + 1
    | none => max (s.get Reg.KILN.DL_FLOOR.FLOOR) (s.get Reg.KILN.DL_HIGH.HIGH + 1)
  if 0xFFFFFFFF < v then (s, none)
  else
    let k := s.kiln
    let r := { r with ctrs := Tbl.put r.ctrs kc v, used := k.tick + 1 }
    let s := { s with kiln := { k with counters := Tbl.put k.counters i r, tick := k.tick + 1 } }
    (s.put Reg.KILN.DL_HIGH.HIGH (max v (s.get Reg.KILN.DL_HIGH.HIGH)), some v)

end Sys2Proof.Machine
end

