-- ==== Sys2Proof/Machine/Rings.lean ====
section
/-! DEFINITION. The ring controller (R231 to R241, R250, R370): DMA windows, ring enables, polls and kicks, halts,
visits, and the commands that complete at once; and the event controller's own commands (R253). -/

namespace Sys2Proof.Machine

/-! ### Halting (R239) -/

/-- Reads a 64-byte line of the doorbell pages, or counts a read outside the windows in POLL_ERR (R234, R239).
[DEDUCED, log entry 82] -/
def State.readLine (s : State) (l : Nat) : State :=
  let a := s.get Reg.RING.DB_BASE.ADDR * 2 ^ 15 + l * 64
  if (s.firstBad false a 64).isSome then (s.bump Reg.RING.POLL_ERR).fire 97
  else
    let g := s.rings
    ({ s with rings := { g with polling := if l ∈ g.polling then g.polling else g.polling ++ [l] } }).dmaRead a 64

/-- RESUME clears HALTED (R239): a CMD ring goes on from the command after the faulted one, any other ring re-reads
its host index. [DEDUCED, log entry 82] -/
def State.resume (s : State) (n : Nat) : State :=
  if (s.ring n).halted then
    let s := s.setRing n { s.ring n with halted := false }
    if s.get (Reg.RING.CTL.TYPE n) = 0 then s else s.readLine (n / 8)
  else s

/-! ### RING.CTL (R232) -/

/-- Bytes of a ring's record area. -/
def ringBytes (typ lg : Nat) : Nat := 2 ^ lg * recordSize typ

/-- A RING.CTL value out of its stated ranges. -/
def ringCtlRange (v : Nat) : Bool := bitsAt v 1 3 ≤ 6 && 4 ≤ bitsAt v 4 5 && bitsAt v 4 5 ≤ 16 && bitsAt v 9 3 ≤ 6

/-- A write of EN = 1 may enable the ring (R232). -/
def State.ringMayEnable (s : State) (n v : Nat) : Bool :=
  let typ := bitsAt v 1 3
  let lg := bitsAt v 4 5
  let base := s.get (Reg.RING.BASE.ADDR n)
  let buf := s.get (Reg.RING.BUF_BASE.ADDR n)
  let peer := bitsAt v 12 12
  ringCtlRange v && base % 4096 = 0 && s.inOneWindow base (ringBytes typ lg)
  && (typ ≠ 2 || (buf % 4096 = 0 && s.inOneWindow buf (2 ^ lg * 2 ^ (5 + bitsAt v 9 3))))
  && (typ ≠ 0 || (s.on (Reg.RING.CTL.EN peer) && s.get (Reg.RING.CTL.TYPE peer) = 1))
  && s.inOneWindow (s.get Reg.RING.DB_BASE.ADDR * 2 ^ 15) 32768

/-- A RING.CTL value repeats every field but EN and RESUME. -/
def State.ringSame (s : State) (n v : Nat) : Bool :=
  bitsAt v 1 3 = s.get (Reg.RING.CTL.TYPE n) && bitsAt v 4 5 = s.get (Reg.RING.CTL.LOG2_SIZE n)
  && bitsAt v 9 3 = s.get (Reg.RING.CTL.BUF_LOG2 n) && bitsAt v 12 12 = s.get (Reg.RING.CTL.PEER n)

/-- Stores the fields of RING.CTL. -/
def State.putRingCtl (s : State) (n v : Nat) : State :=
  let s := s.put (Reg.RING.CTL.EN n) (bitsAt v 0 1)
  let s := s.put (Reg.RING.CTL.TYPE n) (bitsAt v 1 3)
  let s := s.put (Reg.RING.CTL.LOG2_SIZE n) (bitsAt v 4 5)
  let s := s.put (Reg.RING.CTL.BUF_LOG2 n) (bitsAt v 9 3)
  s.put (Reg.RING.CTL.PEER n) (bitsAt v 12 12)

/-- A ring just enabled (R233): both indexes 0 and nothing dropped. What commands started before have claimed, ELK follow-ups
reserved, and those commands themselves, run to their end (R232, R240, R247). [DEDUCED, log entry 195] -/
def RingRun.enabled (r : RingRun) : RingRun :=
  { r with host := 0, part := 0, halted := false, dropped := 0, stale := r.started.length }

/-- A RING.CTL write (R232, R233, R239). Enabling sets the part's index to 0 and writes it to its half of the slot. -/
def State.ringCtl (s : State) (n v : Nat) : State :=
  let off := 0x80000 + n * 0x20
  let en := bitsAt v 0 1
  if s.on (Reg.RING.CTL.EN n) then
    if !s.ringSame n v then s.illegal off
    else
      let s := s.put (Reg.RING.CTL.EN n) en
      if bitsAt v 24 1 = 1 then s.resume n else s
  else if en = 1 then
    if !s.ringMayEnable n v then s.illegal off
    else ((s.putRingCtl n v).setRing n (s.ring n).enabled).dmaWrite (s.doorbell n + 4) (leBytes 4 0)
  else if !ringCtlRange v then s.illegal off
  else
    let s := s.putRingCtl n v
    if bitsAt v 24 1 = 1 then s.resume n else s

/-- RING_CTL_WRITE. -/
def execRingCtlWrite (n : Fin 4096) (v : BitVec 32) (s : State) : Host.Outcome State Fault Refusal :=
  .next (s.hostWriteReg (0x80000 + n * 0x20) v.toNat fun s => s.ringCtl n v.toNat)

/-- RING_RESUME: a RING.CTL write whose RESUME bit is 1. -/
def execRingResume (n : Fin 4096) (v : BitVec 32) (s : State) : Host.Outcome State Fault Refusal :=
  .next (s.hostWriteReg (0x80000 + n * 0x20) v.toNat fun s =>
    if bitsAt v.toNat 24 1 = 1 then s.ringCtl n v.toNat else s)

/-! ### Doorbells (R234) -/

/-- The rings enabled, ascending: every enabled ring has a running state. -/
def State.enabledRings (s : State) : List Nat := (s.rings.runs.map (·.1)).filter fun n => s.on (Reg.RING.CTL.EN n)

/-- How far a delivered value is ahead of the host index last taken, 0 when it is equal or behind (R234). -/
def State.ahead (s : State) (n v : Nat) : Nat :=
  let t := (s.ring n).host % 2 ^ 32
  if (t + 2 ^ 32 - v) % 2 ^ 32 ≤ s.ringSize n then 0 else (v + 2 ^ 32 - t) % 2 ^ 32

/-- Judges a host index delivered for ring n (R234): equal or behind has no effect, in range is taken, else the ring
halts with BAD_FIELD at its doorbell slot; a halted ring is not halted again. -/
def State.judgeIndex (s : State) (n v : Nat) : State :=
  let r := s.ring n
  let fill := if s.get (Reg.RING.CTL.TYPE n) = 0 then (v + 2 ^ 32 - r.part) % 2 ^ 32 else (r.part + 2 ^ 32 - v) % 2 ^ 32
  if s.ahead n v = 0 then s
  else if fill ≤ s.ringSize n then s.setRing n { r with host := v }
  else if r.halted then s
  else s.halt n .badField (s.doorbell n)

/-- A poll round reads every doorbell line that holds an enabled ring (R234). -/
def State.pollRound (s : State) : State :=
  let lines := (s.enabledRings.map (· / 8)).eraseDups
  (s.bump Reg.RING.POLLS).each lines State.readLine

/-- POLL_ROUND. -/
def execPollRound (s : State) : Host.Outcome State Fault Refusal :=
  .next (s.when (s.up && !s.rings.stalled && s.on Reg.RING.POLL.EN && !s.enabledRings.isEmpty) State.pollRound)

/-- The values that a poll and a kick deliver for a ring in one HCLK cycle: the one further ahead is judged, and the other
then has no effect (R234). [DESIGN CHOICE, log entry 200] -/
def State.judgeBoth (s : State) (n v k : Nat) : State := s.judgeIndex n (if s.ahead n v < s.ahead n k then k else v)

/-- The kicks of a line's rings that arrive in the HCLK cycle of its poll, by the functions that answer: rings and values. -/
def State.lineKicks (s : State) (line : Nat) (kicks : List (Fin 2 × Fin 8 × BitVec 32)) : List (Nat × Nat) :=
  (kicks.filter fun k => s.functionUp k.1 && s.on (Reg.RING.CTL.EN (8 * line + k.2.1))).map fun k =>
    (8 * line + k.2.1, k.2.2.toNat)

/-- A kick delivers a host index at once; a kick to a disabled ring is dropped (R234). -/
def State.kick (s : State) (n v : Nat) : State :=
  if s.on (Reg.RING.CTL.EN n) then (s.bump Reg.RING.KICKS).judgeIndex n v else s

/-- A doorbell line has been read: each enabled ring's host index is judged, with the first kick of the ring in the same
cycle; a failed read counts in POLL_ERR (R234, R239). [DESIGN CHOICE, log entry 200] -/
def State.pollReadDone (s : State) (line : Nat) (result : Option (List (BitVec 32))) (kicks : List (Nat × Nat)) : State :=
  let s := { s with rings := { s.rings with polling := s.rings.polling.filter (· ≠ line) } }
  match result with
  | none => ((s.bump Reg.RING.POLL_ERR).fire 97).each kicks fun s k => s.kick k.1 k.2
  | some ws =>
    let s := s.each (List.range 8) fun s i =>
      let n := 8 * line + i
      let v := (ws.getD i 0).toNat
      if s.on (Reg.RING.CTL.EN n) then
        match List.find? (fun (k : Nat × Nat) => k.1 = n) kicks with
        | some k => (s.bump Reg.RING.KICKS).judgeBoth n v k.2
        | none => s.judgeIndex n v
      else s
    s.each kicks fun s k =>
      if List.find? (fun (x : Nat × Nat) => x.1 = k.1) kicks = some k then s else s.kick k.1 k.2

/-- POLL_READ_DONE. The words are the host halves of the line's eight slots; with them come the kicks of its rings that
arrive in the same HCLK cycle. -/
def execPollReadDone (line : Nat) (result : Option (List (BitVec 32))) (s : State)
    (kicks : List (Fin 2 × Fin 8 × BitVec 32) := []) : Host.Outcome State Fault Refusal :=
  formed (.pollReadDone line result kicks)
    (s.when (s.logicUp && line ∈ s.rings.polling) fun s => s.pollReadDone line result (s.lineKicks line kicks))

/-- KICK. -/
def execKick (func : Fin 2) (n : Fin 4096) (v : BitVec 32) (s : State) : Host.Outcome State Fault Refusal :=
  .next (s.when (s.functionUp func) fun s => s.kick n v.toNat)

/-! ### Visits (R240) -/

/-- Commands of a CMD ring written by the host and not yet started. -/
def State.cmdPending (s : State) (n : Nat) : Nat :=
  if s.on (Reg.RING.CTL.EN n) && s.get (Reg.RING.CTL.TYPE n) = 0 && !(s.ring n).halted then
    s.ringFill n - ((s.ring n).started.length - (s.ring n).stale) else 0

/-- Free CPL slots no started command has claimed. -/
def State.cplFree (s : State) (n : Nat) : Nat := s.ringSize n - s.ringFill n - (s.ring n).claimed

/-- The CMD ring a visit goes to: the next above the one visited last that has pending commands, wrapping. -/
def State.nextVisit (s : State) : Option Nat :=
  let l := s.enabledRings.filter fun n => 0 < s.cmdPending n
  match l.filter (s.rings.lastVisit < ·) with
  | n :: _ => some n
  | [] => l.head?

/-- Host address of the descriptor i commands after the consumer index of ring n. -/
def State.descAddr (s : State) (n i : Nat) : Nat :=
  s.get (Reg.RING.BASE.ADDR n) + ((s.ring n).part + i) % s.ringSize n * 64

/-- A descriptor that lies outside the windows, or whose read completes with an error, halts its ring; its command, of which
nothing could be read, completes so (R239). [DEDUCED, log entry 196] -/
def State.badDescriptor (s : State) (n a : Nat) (st : Status) : State :=
  let peer := s.get (Reg.RING.CTL.PEER n)
  let s := s.setRing peer { s.ring peer with claimed := (s.ring peer).claimed + 1 }
  let s := s.setRing n { s.ring n with started := [peer] }
  ((s.passDescriptor n).halt n st a).complete ⟨n, peer, 0, 0⟩ st 0

/-- What the read of a descriptor at an address fails with, if it does: `failed` when it completes with an error. -/
def State.descError (s : State) (a : Nat) (failed : Bool) : Option (Nat × Status) :=
  match s.firstBad false a 64 with
  | some b => some (b, .badAddress)
  | none => if failed then some (a, .walkFault) else none

/-- Starts up to 8 commands of ring n, each with a CPL slot claimed; their descriptors are read (R240). One whose read fails
waits until those before it have run. [DEDUCED, log entry 196] -/
def State.visit (s : State) (n : Nat) (failed : Option (Fin 8)) : State :=
  let peer := s.get (Reg.RING.CTL.PEER n)
  let r := s.ring n
  let k := min 8 (min (s.cmdPending n) (s.cplFree peer))
  let first := r.started.length - r.stale
  let error (i : Nat) : Option (Nat × Status) := s.descError (s.descAddr n (first + i)) (failed.any (·.val = i))
  let good := (List.range k).takeWhile fun i => (error i).isNone
  let s := { s with rings := { s.rings with lastVisit := n } }
  match good, if k = 0 then none else error 0 with
  | [], some e => if r.started.isEmpty then s.badDescriptor n e.1 e.2 else s
  | _, _ =>
    let s := s.each (good.map fun i => s.descAddr n (first + i)) fun s a => s.dmaRead a 64
    let s := s.setRing peer { s.ring peer with claimed := (s.ring peer).claimed + good.length }
    s.setRing n { s.ring n with started := (s.ring n).started ++ List.replicate good.length peer }

/-- CMD_VISIT; the descriptor of the visit whose read completes with an error, if one does. -/
def execCmdVisit (s : State) (failed : Option (Fin 8) := none) : Host.Outcome State Fault Refusal :=
  .next (s.when (s.up && !s.rings.stalled) fun s => match s.nextVisit with
    | some n => s.visit n failed
    | none => s)

/-- CMD_NOP. -/
def execCmdNop (n : Fin 4096) (desc : List Byte) (s : State) : Host.Outcome State Fault Refusal :=
  formed (.cmdNop n desc) (s.runCommand n desc fun c s => s.complete c .done 0)

/-- BAD_OPCODE. -/
def execBadOpcode (n : Fin 4096) (desc : List Byte) (s : State) : Host.Outcome State Fault Refusal :=
  formed (.badOpcode n desc) (s.runCommand n desc fun c s => s.complete c .badOpcode 0)

/-! ### The event controller's commands (R253) -/

/-- The end of a vector's holdoff: one message covers the signals of the span. -/
def State.holdoffEnd (s : State) (v : Nat) : State :=
  let s' := { s with evt := { s.evt with holding := s.evt.holding.filter (· ≠ v), waiting := s.evt.waiting.filter (· ≠ v) } }
  if v ∈ s.evt.waiting then s'.sendVector v else s'

/-- MSIX_HOLDOFF_END. -/
def execMsixHoldoffEnd (v : Fin 256) (s : State) : Host.Outcome State Fault Refusal :=
  .next (s.when (s.logicUp && v.val ∈ s.evt.holding) fun s => s.holdoffEnd v)

/-- Word j of EVT.PEND or EVT.AGAIN exists: the sources of absent field dies have no registers (R252). -/
def State.eventWord (s : State) (j : Nat) : Bool := j < 10 || s.present (j - 10)

/-- A W1C write of EVT.PEND[j]; a source firing in the same cycle leaves its bit set (R253). -/
def State.pendClear (s : State) (j v firing : Nat) : State :=
  let s := { s with evt := { s.evt with pend := s.evt.pend &&& ~~~(BitVec.ofNat 512 (v % 2 ^ 32 * 2 ^ (32 * j))) } }
  s.each (List.range 32) fun s b => if bitsAt firing b 1 = 1 then s.fire (32 * j + b) else s

/-- EVT_PEND_CLEAR. -/
def execEvtPendClear (j : Fin 16) (v firing : BitVec 32) (s : State) : Host.Outcome State Fault Refusal :=
  .next (s.hostWriteReg (0xC1000 + j * 4) v.toNat fun s =>
    if s.eventWord j then s.pendClear j v.toNat firing.toNat else s.accessFault (0xC1000 + j * 4) .unimplemented true false)

/-- A field of R370 that names a ring: judged when its enable bit would be 1. -/
def State.ringNamed (s : State) (n typ : Nat) (en : Bool) : Bool := !en || s.get (Reg.RING.CTL.TYPE n) = typ

end Sys2Proof.Machine
end

