-- ==== Sys2Proof/Machine/Send.lean ====
section
/-! DEFINITION. Downlink descriptors and contacts: the data walk of R238 and R239, SEND (R242, R243), CONTACT and
CONTACT_CANCEL (R244), the guard time (R173) and a contact's window (R172). -/

namespace Sys2Proof.Machine

/-! ### Reading a descriptor's data (R237 to R239) -/

/-- What a read of host memory, or a whole walk, gives: bytes, or the status that halts the ring and its address. -/
inductive Walked where
  | bytes (data : List Byte)
  | fault (st : Status) (addr : Nat)
deriving DecidableEq, Repr

/-- One read of host memory. -/
def State.readHost (s : State) (w : WalkIn) (a len : Nat) : Walked :=
  match s.firstBad false a len with
  | some b => .fault .badAddress b
  | none =>
    if w.errAt.any fun e => a ≤ e && e < a + len then .fault .walkFault a
    else .bytes ((List.range len).map fun i => Tbl.getD w.mem (a + i) 0)

/-- The walk of a chain list (R238): a stack of (address, entries left, level), the entries seen, the bytes gathered,
the bytes still to come, and the address of the entry seen last. -/
def State.walkChain (s : State) (w : WalkIn) : Nat → List (Nat × Nat × Nat) → Nat → List Byte → Nat → Nat → Walked
  | 0, _, _, _, _, last => .fault .walkFault last
  | _ + 1, [], _, acc, left, last => if left = 0 then .bytes acc else .fault .walkFault last
  | fuel + 1, (_, 0, _) :: rest, seen, acc, left, last => s.walkChain w fuel rest seen acc left last
  | fuel + 1, (a, n + 1, lvl) :: rest, seen, acc, left, _ =>
    if 64 ≤ seen then .fault .walkFault a
    else match s.readHost w a 16 with
      | .fault st b => .fault st b
      | .bytes e =>
        let more := (a + 16, n, lvl) :: rest
        let len := leAt e 8 4
        if leAt e 12 1 % 2 = 1 then
          if lvl = 4 then .fault .walkFault a
          else s.walkChain w fuel ((leAt e 0 8, len, lvl + 1) :: more) (seen + 1) acc left a
        else if len = 0 ∨ left < len then .fault .walkFault a
        else match s.readHost w (leAt e 0 8) len with
          | .fault st b => .fault st b
          | .bytes d => s.walkChain w fuel more (seen + 1) (acc ++ d) (left - len) a

/-- The data of a descriptor in one of the three modes (R238). -/
def State.walkData (s : State) (w : WalkIn) (mode addr count len : Nat) (inline : List Byte) : Walked :=
  if mode = 2 then .bytes (inline.take len)
  else if mode = 1 then s.walkChain w 200 [(addr, count, 1)] 0 [] len addr
  else if len = 0 then .bytes []
  else s.readHost w addr len

/-! ### SEND (R242, R243) -/

/-- TYPE of a SEND descriptor or item header. -/
def itemType (h : List Byte) : Nat := bitsAt (leAt h 8 1) 2 3
/-- NET of an item header. -/
def itemNet (h : List Byte) : Nat := bitsAt (leAt h 8 1) 0 2
/-- KEYCLASS of an item header. -/
def itemClass (h : List Byte) : Nat := bitsAt (leAt h 8 1) 5 3
/-- KEYIX of an item header. -/
def itemIndex (h : List Byte) : Nat := leAt h 9 1
/-- GRID of an item header. -/
def itemGrid (h : List Byte) : Nat := leAt h 10 2
/-- PAYLEN of an item header. -/
def itemPaylen (h : List Byte) : Nat := bitsAt (leAt h 12 2) 0 11
/-- CVLEN of an item header. -/
def itemCvlen (h : List Byte) : Nat := bitsAt (leAt h 12 2) 11 2
/-- ACKREQ of an item header. -/
def itemAckReq (h : List Byte) : Bool := bitsAt (leAt h 12 2) 13 1 = 1
/-- RATE of an item header. -/
def itemRate (h : List Byte) : Nat := bitsAt (leAt h 14 1) 0 3
/-- QUEUE of an item header. -/
def itemQueue (h : List Byte) : Nat := bitsAt (leAt h 4 4) 0 20

/-- The first check of R242 that a SEND descriptor fails. -/
def sendError (d : List Byte) : Option Status :=
  let mode := leAt d 1 1 % 4
  if mode = 3 then some .badField
  else if itemType d = 1 ∨ 6 ≤ itemType d ∨ 4 ≤ itemClass d ∨ itemRate d = 5 ∨ itemRate d = 6 then some .badField
  else if mode = 2 ∧ 16 < itemPaylen d then some .badField
  else if itemType d = 4 ∧ itemPaylen d ≠ 20 then some .badLength
  else none

/-- SEND: checked, then its data is read while the consumer index waits (R243). -/
def State.sendCheck (s : State) (n : Nat) (desc : List Byte) : State :=
  match sendError desc with
  | some st => (s.passDescriptor n).complete (s.cmdRef n desc) st 0
  | none => s.setRing n { s.ring n with sending := some ⟨desc⟩ }

/-- SEND. -/
def execSend (n : Fin 4096) (desc : List Byte) (s : State) : Host.Outcome State Fault Refusal :=
  formed (.send n desc) (s.when (s.cmdDue n) fun s => s.sendCheck n desc)

/-- The checks of R242 on a payload that has been read. -/
def payloadError (d payload : List Byte) : Option Status :=
  if itemType d = 5 then
    if leAt payload 6 1 = 0 then some .badField
    else if itemPaylen d ≠ 7 + 3 * leAt payload 6 1 then some .badLength
    else none
  else none

/-- Counts a refusal of R215 and raises its event. -/
def State.countRefusal (s : State) (st : Status) : State :=
  match st with
  | .noBuffer => (s.bump Reg.CASK.NO_BUFFER).fireOnce 128
  | .queueFull => (s.bump Reg.CASK.QUEUE_FULL).fireOnce 130
  | _ => s

/-- A SEND whose payload has been read: enqueued after the checks of R242 and R215, or completed with their status. -/
def State.sendPayload (s : State) (n : Nat) (d payload : List Byte) : State :=
  let c := s.cmdRef n d
  let s := s.passDescriptor n
  match (payloadError d payload) <|> s.enqueueError (itemQueue d) (itemPaylen d) (cvBytes (itemCvlen d)) with
  | some st => (s.countRefusal st).complete c st 0
  | none => s.enqueue (itemQueue d) (sliceB d 0 32) payload c

/-- The data of a SEND that is being read (R243). A time frame reads none: the part writes its payload (R121). -/
def State.sendDone (s : State) (n : Nat) (d : List Byte) (w : WalkIn) : State :=
  let r := if itemType d = 4 then .bytes (List.replicate 20 0)
    else s.walkData w (leAt d 1 1 % 4) (leAt d 32 8) (leAt d 40 4) (itemPaylen d) (sliceB d 48 16)
  match r with
  | .bytes payload => s.sendPayload n d payload
  | .fault st addr => ((s.halt n st addr).passDescriptor n).complete (s.cmdRef n d) st 0

/-- SEND_DATA_READ. -/
def execSendDataRead (n : Fin 4096) (walk : WalkIn) (s : State) : Host.Outcome State Fault Refusal :=
  .next (s.when s.live fun s => match (s.ring n).sending with
    | some j => s.sendDone n j.desc walk
    | none => s)

/-! ### Contacts (R172, R173, R244) -/

/-- The span of all mesh slots, ns. -/
def meshSpan : Int := (2 ^ 48 * 2000000 : Nat)

/-- From now to a mesh instant, ns, negative when it has been reached (R53). -/
def State.untilNs (s : State) (msc ofs : Nat) : Int :=
  let d := ((msc * 2000000 + ofs : Nat) - s.meshNs) % meshSpan
  if d < meshSpan / 2 then d else d - meshSpan

/-- The guard time of a node in ns (R173): base plus drift over the time since it was heard, at most 20 ms.
[DESIGN CHOICE, log entry 61] -/
def State.guardNs (s : State) (a : Nat) : Nat :=
  let base := s.get Reg.MAC.GUARD_CFG.BASE_US * 1000
  match s.nodeSound a with
  | none => min (base + 4 * s.get Reg.MAC.GUARD_CFG.DEF_PPM * Config.unheardCycles s.free * 24) 20000000
  | some (_, w) =>
    let cycles := (s.meshCycle + 2 ^ 24 - nodeHeard w) % 2 ^ 24 + 1
    let quarters := if nodeContacts w < 3 then 4 * s.get Reg.MAC.GUARD_CFG.DEF_PPM
      else (nodeDrift w).natAbs + 4 * s.get Reg.MAC.GUARD_CFG.MARGIN_PPM
    min (base + quarters * cycles * 24) 20000000

/-- WINDOW_US of the profile in force, 0 in Swift (R172). [DEDUCED, log entry 79] -/
def State.contactWindow (s : State) : Nat :=
  if s.get Reg.MAC.PROFILE.ACTIVE = 0 then 0 else s.blendForce.windowUs

/-- The contact a descriptor asks for. [DEDUCED, log entry 79] -/
def State.contactOf (s : State) (c : CmdRef) (d : List Byte) (guard : Nat) : Contact :=
  { cmd := c, addr := leAt d 4 4, net := bitsAt (leAt d 22 1) 3 2, grid := leAt d 20 2, rate := bitsAt (leAt d 22 1) 0 3,
    msc := leAt d 8 6, ofs := leAt d 16 4, guard := guard, windowUs := s.contactWindow, isOpen := false }

/-- CONTACT (R244). [DEDUCED, log entry 79] -/
def State.contact (s : State) (c : CmdRef) (d : List Byte) : State :=
  let s := (s.nodeFind (leAt d 4 4)).1
  let k := s.contactOf c d (s.guardNs (leAt d 4 4))
  let s := s.spend 1
  if k.addr = 0 ∨ k.addr = broadcast ∨ 1999999 < k.ofs ∨ 5 ≤ k.rate ∨ s.untilNs k.msc k.ofs ≤ k.guard then
    s.complete c .badField 0
  else if 65536 ≤ s.rx.contacts.length then s.complete c .tableFull 0
  else { s with rx := { s.rx with contacts := Tbl.put s.rx.contacts s.rx.nextContact k, nextContact := s.rx.nextContact + 1 } }

/-- CONTACT. -/
def execContact (n : Fin 4096) (desc : List Byte) (s : State) : Host.Outcome State Fault Refusal :=
  formed (.contact n desc) (s.runCommand n desc fun c s => s.contact c desc)

/-- A contact ends with its status. -/
def State.endContact (s : State) (id : Nat) (k : Contact) (st : Status) : State :=
  { s with rx := { s.rx with contacts := Tbl.erase s.rx.contacts id } }.complete k.cmd st 0

/-- CONTACT_CANCEL (R244): the oldest pending contact of the ring with the TAG. [DEDUCED, log entry 79] -/
def State.cancelContact (s : State) (c : CmdRef) (d : List Byte) : State :=
  match List.find? (fun p => p.2.cmd.ring = c.ring && p.2.cmd.tag = leAt d 4 2) s.rx.contacts with
  | some (id, k) => (s.endContact id k .withdrawn).complete c .done 0
  | none => s.complete c .notFound 0

/-- CONTACT_CANCEL. -/
def execContactCancel (n : Fin 4096) (desc : List Byte) (s : State) : Host.Outcome State Fault Refusal :=
  formed (.contactCancel n desc) (s.runCommand n desc fun c s => s.cancelContact c desc)

/-- CONTACT_WINDOW_OPEN: T − G is reached. -/
def execContactWindowOpen (id : Nat) (s : State) : Host.Outcome State Fault Refusal :=
  .next (s.when s.live fun s => match Tbl.find? s.rx.contacts id with
    | some k =>
      if s.untilNs k.msc k.ofs ≤ k.guard then
        { s with rx := { s.rx with contacts := Tbl.put s.rx.contacts id { k with isOpen := true } } }
      else s
    | none => s)

/-- An instant in counter ns lies in a contact's window. -/
def State.inWindow (s : State) (k : Contact) (ns : Int) : Bool :=
  let d := s.untilNs k.msc k.ofs + (s.counterNs - ns)
  decide (-(k.guard : Int) ≤ d ∧ d ≤ k.guard)

/-- A provisional frame of the contact's node with its sync end in the window is under decision (R172).
[DEDUCED, log entry 80] -/
def State.contactHeld (s : State) (k : Contact) : Bool :=
  s.rx.groups.any fun p => p.2.prov && !p.2.ended && p.2.confirmed.isNone &&
    p.2.copies.any fun c => decide (macSrc c.head = k.addr) && s.inWindow k c.info.syncNs

/-- CONTACT_MISSED (R172): T + G + WINDOW_US + 100 µs is reached with no frame. [DEDUCED, log entry 80] -/
def execContactMissed (id : Nat) (s : State) : Host.Outcome State Fault Refusal :=
  .next (s.when s.live fun s => match Tbl.find? s.rx.contacts id with
    | some k =>
      if s.untilNs k.msc k.ofs ≤ -((k.guard + (k.windowUs + 100) * 1000 : Nat) : Int) ∧ !s.contactHeld k then
        (s.endContact id k .notFound).bump Reg.MAC.CONTACT_MISSED
      else s
    | none => s)

end Sys2Proof.Machine
end

