-- ==== Sys2Proof/Machine/MacTx.lean ====
section
/-! DEFINITION. The transmit side of the MAC (R120 to R123, R160 to R181): outputs and their channels, instants, gate
lists, the clear-channel test, frames as they are built, and the end of a transmission or an attempt. -/

namespace Sys2Proof.Machine

/-! ### Outputs (R160, R162) -/

/-- Raster channels of output o of die f: none when its link is disabled, its slot lies at or above S, or its chain is
off (R124, R162). -/
def State.outChannels (s : State) (f o : Nat) : Nat :=
  if 96 ≤ o then (if s.on (Reg.FRF.TXCH.EN f (o - 96)) then 32 else 0)
  else
    let k := 40 + o / 12
    if s.on (Reg.LINK.CFG.EN f k) && o % 12 < s.linkStreams f k then 16 * 2 ^ s.get (Reg.LINK.CFG.WIDTH f k) else 0

/-- Output o of die f covers a grid channel at a rate (R162). -/
def State.outCovers (s : State) (f o grid rate : Nat) : Bool :=
  let n := s.outChannels f o
  let k := grid - s.get (Reg.TX.GRID f o)
  s.get (Reg.TX.GRID f o) ≤ grid && (if rate = 0 then 1 ≤ k && k + 2 ≤ n else k < n)

/-- L_tx of an output in ps (R160). [DEDUCED, log entry 29] -/
def State.txLatencyPs (s : State) (f o : Nat) : Nat :=
  if 96 ≤ o then 2000000 else 1250000 + s.get (Reg.TX.TX_LAT.PS f o) + s.get (Reg.TX.CONV_LAT.PS f o)

/-- A transmit frame that the heads hold has not reached its field die (R301). -/
def State.jobHeld (s : State) (id : Nat) : Bool := s.safe.hold && decide (s.safe.holdJob ≤ id)

/-- The check instant C of a frame is reached (R160). -/
def State.atCheck (s : State) (j : TxJob) : Bool :=
  decide (j.t0 * 1000 - (30000000 + s.txLatencyPs j.f j.o : Nat) ≤ s.meshNs * 1000)

/-- The synthesiser's start of a frame is reached: T0 − 20 µs − L_tx (R160). -/
def State.atStart (s : State) (j : TxJob) : Bool :=
  decide (j.t0 * 1000 - (20000000 + s.txLatencyPs j.f j.o : Nat) ≤ s.meshNs * 1000)

/-- Airtime of a job in ns: a wake burst lasts 6 ms (R113, R122). -/
def TxJob.airNs (j : TxJob) : Nat :=
  if j.kind = .wake then 6000000 else frameNs j.rate (j.header.length + j.payload.length + j.cv)

/-- The last chip of a job, mesh ns. -/
def TxJob.lastChip (j : TxJob) : Int := j.t0 + j.airNs

/-! ### Gate lists (R222, R224) -/

/-- Length of a list cycle, ns. -/
def GateList.cycle (l : GateList) : Nat := (l.entries.map fun e => e.2 * 10000).sum

/-- The entries with the offset in ns at which each starts. -/
def gateSpans : Nat → List (Nat × Nat) → List (Nat × Nat × Nat)
  | _, [] => []
  | t, (op, d) :: l => (op, t, t + d * 10000) :: gateSpans (t + d * 10000) l

/-- A list opens class c at every instant from a to b, mesh ns. -/
def GateList.opens (l : GateList) (c : Nat) (a b : Int) : Bool :=
  if l.entries.isEmpty then true
  else
    let cyc := l.cycle
    let p := ((a - l.startNs) % (cyc : Int)).toNat
    let e := p + (b - a).toNat
    let shut := (gateSpans 0 l.entries).filter fun x => bitsAt x.1 c 1 = 0
    if cyc ≤ (b - a).toNat then shut.isEmpty
    else !shut.any fun x => (x.2.1 ≤ e && p < x.2.2) || x.2.1 + cyc ≤ e

/-- The gate list in force of a group, without entries when it has none. -/
def State.gateList (s : State) (g : Nat) : GateList := Tbl.getD s.sched.gates g ⟨[], 0, 0⟩

/-- Class c of group g is open from a to b, each instant judged against the list in force at it (R224). -/
def State.gateOpen (s : State) (g c : Nat) (a b : Int) : Bool :=
  match Tbl.find? s.sched.pending g with
  | none => (s.gateList g).opens c a b
  | some p =>
    let x := p.startNs
    (!decide (a < x) || (s.gateList g).opens c a (min b (x - 1))) && (!decide (x ≤ b) || p.opens c (max a x) b)

/-- A job lies in an open span of its group, ramps included. -/
def State.gateFits (s : State) (group cls : Nat) (t0 : Int) (airNs : Nat) : Bool :=
  s.gateOpen group cls (t0 - 20000) (t0 + airNs + 20000)

/-! ### Contacts that hold back transmissions (R172) -/

/-- The start of a transmission at T0 − 20 µs falls in a contact's window, on a serving output of its node and a channel
that overlaps the node's. -/
def State.contactBlocks (s : State) (f o grid rate : Nat) (t0 : Int) : Bool :=
  s.rx.contacts.any fun p =>
    let k := p.2
    let t : Int := s.meshNs + s.untilNs k.msc k.ofs
    let set := ((s.nodeSound k.addr).map fun p => nodeSet p.2).getD []
    gridsMeet grid (rate = 0) k.grid (k.rate = 0)
    && (k.isOpen || decide (t - k.guard ≤ t0 - 20000)) && decide (t0 - 20000 ≤ t + k.guard)
    && set.any fun a => s.serveOf a = some (f, o)

/-- The lookups that the test of the contacts makes, with the parity errors they meet (R204). -/
def State.lookContacts (s : State) : State := s.each s.rx.contacts fun s p => (s.nodeFind p.2.addr).1

/-! ### Listen-before-talk (R165, R166, R182) -/

/-- The enabled band of a grid channel. -/
def State.band (s : State) (grid : Nat) : Option Nat :=
  (List.range 4).find? fun b =>
    s.on (Reg.MAC.LBT_BAND.EN b) && s.get (Reg.MAC.LBT_BAND.GLO b) ≤ grid && grid ≤ s.get (Reg.MAC.LBT_BAND.GHI b)

/-- The channel of the LISTEN context that carries a grid channel. -/
def State.listenChannel (s : State) (f o grid rate : Nat) : Option Nat :=
  let i := s.get (Reg.TX.OUT.LISTEN f o)
  let base := s.get (Reg.DEMOD.GRID.BASE f i)
  if base ≤ grid ∧ s.channelExists f i (rate = 0) (grid - base) then some (grid - base) else none

/-- The MAC registers as an attempt on a grid channel finds them now (R182). [DEDUCED, log entry 190] -/
def State.macForce (s : State) (grid : Nat) : MacForce :=
  { maxBe := s.get Reg.MAC.LBT_CFG.MAX_BE, maxAttempts := s.get Reg.MAC.LBT_CFG.MAX_ATTEMPTS
    band := (s.band grid).map fun b => (s.on (Reg.MAC.LBT_BAND.LBT b), signedOf 16 (s.get (Reg.MAC.LBT_BAND.THR b)),
      signedOf 8 (s.get (Reg.MAC.LBT_BAND.REL b)))
    nodeTurnUs := s.get Reg.MAC.ACK_CFG.NODE_TURN_US, ackTolUs := s.get Reg.MAC.ACK_CFG.ACK_TOL_US
    maxRetry := s.get Reg.MAC.ACK_CFG.MAX_RETRY, gapUs := s.get Reg.MAC.TWIN_CFG.GAP_US
    meetUs := s.get Reg.MAC.WAKE_TX.MEET_US, wakeLevel := s.get Reg.MAC.WAKE_TX.LEVEL }

/-- The registers an attempt goes by: those its first check found, or what stands now before it (R182). -/
def State.forceOf (s : State) (j : TxJob) : MacForce := j.force.getD (s.macForce j.grid)

/-- A job at its first check takes over the registers, MIN_BE with them; a later check keeps them (R182).
[DEDUCED, log entry 190] -/
def State.atFirstCheck (s : State) (j : TxJob) : TxJob :=
  if j.force.isSome then j else { j with force := some (s.macForce j.grid), be := s.get Reg.MAC.LBT_CFG.MIN_BE }

/-- The power test of R165 on a mean power against THR and the reference plus REL of a band; a band with LBT 0 passes, and
one with LBT 1 is busy where no power is known. [DEDUCED, log entries 40, 78] -/
def State.powerBusy (s : State) (f i : Nat) (w : Bool) (k : Nat) (band : Bool × Int × Int) (p : Option Frac) : Bool :=
  band.1 &&
  match p with
  | none => true
  | some p => powGe 40 p band.2.1 || s.powerOver f i w k (s.startThr f) band.2.2 p

/-- A tracker is held or a frame is under reception on just this channel. -/
def State.engaged (s : State) (f i : Nat) (w : Bool) (k : Nat) : Bool :=
  s.tracked f i w k || s.air.ctxs.any fun e => e.1 / 4096 = f && e.2.ctx = i && e.2.w = w && e.2.chan = k

/-- What R165 asks of a frame's channel: its own, with the N channels k − 1 to k + 1 for a W frame, and the W channel k for
an N frame. [DEDUCED, log entry 185] -/
def State.channelTaken (s : State) (f i : Nat) (w : Bool) (k : Nat) : Bool :=
  s.engaged f i w k || s.engaged f i (!w) k || (w && (s.engaged f i false (k - 1) || s.engaged f i false (k + 1)))

/-- Frames cleared or on air on an output whose spans meet a job's (R163). -/
def State.framesOn (s : State) (id : Nat) (j : TxJob) : Nat :=
  (s.tx.jobs.filter fun p => p.1 ≠ id && p.2.f = j.f && p.2.o = j.o && (p.2.stage = .cleared || p.2.stage = .onAir)
    && decide (p.2.t0 - 20000 ≤ j.lastChip + 20000) && decide (j.t0 - 20000 ≤ p.2.lastChip + 20000)).length

/-- Transmit contexts of die f in use: its frames and bursts that are cleared or on air (R163).
[DEDUCED, log entry 185] -/
def State.txContexts (s : State) (f : Nat) : Nat :=
  (s.tx.jobs.filter fun p => p.2.f = f && (p.2.stage = .cleared || p.2.stage = .onAir)).length

/-- Whether the channel is busy at a check, for a band and a mean power (R55, R163, R165, R166, R172, R289).
[DEDUCED, log entry 78] -/
def State.busyFor (s : State) (id : Nat) (j : TxJob) (granted : Bool) (band : Bool × Int × Int)
    (power : Nat → Option Frac) : Bool :=
  let i := s.get (Reg.TX.OUT.LISTEN j.f j.o)
  let w := decide (j.rate = 0)
  !s.mayRadiate || s.ctxBlanked j.f i || !s.cxAllows j.f j.o granted || 8 ≤ s.framesOn id j || 256 ≤ s.txContexts j.f
  || s.contactBlocks j.f j.o j.grid j.rate j.t0
  || match s.listenChannel j.f j.o j.grid j.rate with
     | none => band.1
     | some k => s.channelTaken j.f i w k || s.powerBusy j.f i w k band (power (chanKey j.f i w k))

/-- The latest mean power of a channel (R140). -/
def State.meanPower (s : State) (key : Nat) : Option Frac := Tbl.find? s.air.powers key

/-- The LISTEN context of a job's output has its link in DATA, or its chain calibrated, blanked or not (R166). -/
def State.listens (s : State) (j : TxJob) : Bool := s.sourceUp j.f (s.get (Reg.TX.OUT.LISTEN j.f j.o))

/-- Output o is a chain whose port is faulted (R86). -/
def State.portFaulted (s : State) (f o : Nat) : Bool := decide (96 ≤ o) && s.on (Reg.FRF.TXCH.FAULT f (o - 96))

/-! ### Jobs -/

/-- A job under way. -/
def State.job? (s : State) (id : Nat) : Option TxJob := Tbl.find? s.tx.jobs id

/-- Replaces a job. -/
def State.setJob (s : State) (id : Nat) (j : TxJob) : State := { s with tx := { s.tx with jobs := Tbl.put s.tx.jobs id j } }

/-- Ends a job. -/
def State.dropJob (s : State) (id : Nat) : State := { s with tx := { s.tx with jobs := Tbl.erase s.tx.jobs id } }

/-- Adds a job under the next number. -/
def State.addJob (s : State) (j : TxJob) : State :=
  { s with tx := { s.tx with jobs := Tbl.put s.tx.jobs s.tx.nextJob j, nextJob := s.tx.nextJob + 1 } }

/-- A downlink outstanding on a queue. -/
def State.down? (s : State) (q : Nat) : Option Downlink := Tbl.find? s.tx.downs q

/-- Replaces a downlink. -/
def State.setDown (s : State) (q : Nat) (d : Downlink) : State :=
  { s with tx := { s.tx with downs := Tbl.put s.tx.downs q d } }

/-! ### Frames as they leave (R114, R117, R121, R122) -/

/-- The instant of counter time that a mesh instant is. -/
def State.counterOf (s : State) (meshNs : Int) : Nat :=
  (meshNs + (meshEpoch * 1000000000 : Nat) + s.meshOffset).toNat

/-- The payload of a time frame whose sync word ends at a mesh instant (R121). -/
def State.timePayload (s : State) (syncEnd : Int) : List Byte :=
  let ns := s.counterOf syncEnd
  beBytes 6 ((syncEnd / 2000000) % (2 ^ 48 : Nat)).toNat ++ beBytes 6 (ns / 1000000000)
    ++ beBytes 4 (s.quality * 2 ^ 30 + ns % 1000000000) ++ beBytes 4 0

/-- The payload a job sends: a time frame's is written from its own instant. -/
def State.jobPayload (s : State) (j : TxJob) : List Byte :=
  if macType j.header = 4 ∧ j.kind ≠ .wake then s.timePayload (j.t0 + syncNs j.rate) else j.payload

/-- The MAC frame of a job with its check value; the bytes of a wake burst. -/
def State.jobFrame (s : State) (j : TxJob) : List Byte :=
  let m := j.header ++ s.jobPayload j
  m ++ (cmac (j.key.getD []) m).take j.cv

/-- The bytes of a wake burst for an address: preamble, sync, wake address and CRC-8 (R122, R123). R122 gives four parts of
56 bits in all where it speaks of 48 bits. [DEDUCED, log entry 186] -/
def State.wakeBytes (s : State) (a : Nat) : List Byte :=
  let w := wakeAddr a (s.get Reg.MAC.WAKE_CFG.SALT)
  [0xFF, 0xFF] ++ beBytes 1 (s.get Reg.MAC.WAKE_CFG.SYNC) ++ beBytes 3 w ++ beBytes 1 (crc8 0 (bitsOf 24 w))

/-! ### The waveform (R102 to R107, R110, R112, R122) -/

/-- One symbol: its spreading code times +1 or −1 (R103). -/
def symbolChips (rate cs : Nat) (v : Int) : List Int := (List.range (spreadOf rate)).map fun j => v * codeChip rate cs j

/-- Bits as symbols, each multiplied by (1 − 2b) (R106, R112). -/
def bitChips (rate cs : Nat) (l : List Bool) : List Int := l.flatMap fun b => symbolChips rate cs (if b then -1 else 1)

/-- The preamble: alternating chips at W and N1, 32 symbols of +1 at the other rates (R107). -/
def preamble (rate cs : Nat) : List Int :=
  if rate < 2 then (List.range 128).map fun k => if k % 2 = 0 then 1 else -1
  else (List.range 32).flatMap fun _ => symbolChips rate cs 1

/-- The coded block of a MAC frame: PHY header, frame and a 6-bit zero tail, encoded (R106, R110, R112). -/
def codedBlock (frame : List Byte) : List Bool :=
  convEncode 0 (bitsOf 24 (phyHeader frame.length 0 false false) ++ frame.flatMap (fun b => bitsOf 8 b.toNat)
    ++ List.replicate 6 false)

/-- The chips of a frame (R106). -/
def airChips (rate cs sync : Nat) (frame : List Byte) : List Int :=
  preamble rate cs ++ bitChips rate cs (bitsOf 32 sync) ++ bitChips rate cs (codedBlock frame)

/-- The chips of even number, the I arm; of the tail, the Q arm (R102). -/
def evens : List Int → List Int
  | [] => []
  | [x] => [x]
  | x :: _ :: l => x :: evens l

/-- The half bits of a wake burst: a 1 is on then off, a 0 off then on (R122). -/
def wakeHalves (l : List Byte) : List Bool :=
  (l.flatMap fun b => bitsOf 8 b.toNat).flatMap fun b => [b, !b]

/-- Sync word and code set of a network: in force on air, else as its registers stand (R108, R109). -/
def State.netSpeech (s : State) (n : Nat) : Nat × Nat :=
  match Tbl.find? s.nets n with
  | some x => (x.sync, x.codeSet)
  | none => (s.get (Reg.MAC.NET_SYNC.SYNC n), s.get (Reg.MAC.NET_CFG.CODESET n))

/-- The waveform of a job. [DEDUCED, log entry 186] -/
def State.jobWave (s : State) (j : TxJob) : Wave :=
  if j.kind = .wake then .ook (wakeHalves (s.jobFrame j)) 4000 30
  else
    let n := s.netSpeech j.net
    let c := airChips j.rate n.2 n.1 (s.jobFrame j)
    .msk (evens c) (evens (c.drop 1)) (if j.rate = 0 then 200000 else 50000)

/-- PENDING for an address: some queue bound to it holds an item, sent or unsent (R120, R157). -/
def State.pendingFor (s : State) (a : Nat) (but : Option Nat) : Bool :=
  s.cask.queues.any fun p => p.2.addr = some a && (0 < p.2.count || (p.2.sent && but ≠ some p.1))

/-- The largest output power of a centre in 100 kHz units, in dBm: 14 in 2400 to 2500 MHz, else 20 (R83). -/
def maxDbm (fc : Nat) : Nat := if fc < 24000 then 20 else 14

/-- The level of a transmission: dB below full scale on a lane, dBm on a chain, held to the limit of its band; a wake burst
goes out WAKE_TX.LEVEL dB lower (R83, R164, R175). [DEDUCED, log entry 187] -/
def State.txLevel (s : State) (j : TxJob) : Int :=
  let low : Nat := if j.kind = .wake then (s.forceOf j).wakeLevel else 0
  if 96 ≤ j.o then (min (s.get (Reg.FRF.TXCH.PWR_DBM j.f (j.o - 96))) (maxDbm (s.get (Reg.FRF.TXCH.FC j.f (j.o - 96)))) : Nat) - (low : Int)
  else (s.get (Reg.TX.OUT.LEVEL j.f j.o) + low : Nat)

/-! ### The end of an attempt (R167, R179 to R181, R216, R229) -/

/-- Ends the jobs of a downlink that are not on air. -/
def State.dropWaiting (s : State) (d : Downlink) : State :=
  s.each (s.tx.jobs.filter fun p => p.1 ∈ d.jobs && p.2.stage ≠ .onAir) fun s p =>
    (s.dropJob p.1).cxEnd p.2.f p.2.o (false, p.1)

/-- A downlink outstanding on a queue is forgotten and its item released with a status (R179, R229): its last counter,
attempts and sequence number. Its copies go on. -/
def State.releaseDown (s : State) (q : Nat) (d : Downlink) (st : Status) : State :=
  let t := s.tx
  let s := { s with tx := { t with downs := Tbl.erase t.downs q, kept := Tbl.erase t.kept d.first } }
  s.releaseItem q st d.attempts (d.ctrs.headD 0) d.seq

/-- Completes the downlink outstanding on a queue; its copies that are not on air are not sent. -/
def State.completeDown (s : State) (q : Nat) (d : Downlink) (st : Status) : State := (s.dropWaiting d).releaseDown q d st

/-- Rewinds the downlink outstanding on a queue for a re-send. -/
def State.rewindDown (s : State) (q : Nat) (d : Downlink) : State :=
  let s := s.dropWaiting d
  let t := s.tx
  let d := { d with jobs := [], sent := false, awaiting := none, second := none }
  let s := { s with tx := { t with downs := Tbl.erase t.downs q, kept := Tbl.put t.kept d.first d } }
  s.rewindItem q

/-- A downlink one of whose copies has ended: a broadcast of which some copy was sent is done, and the others are sent still (R181, R208); else, once all
have ended, sent and awaiting its ack, done, or completed with the last copy's status. -/
def State.attemptEnd (s : State) (q : Nat) (d : Downlink) : State :=
  if d.sent ∧ d.dst = broadcast then s.releaseDown q d .done
  else if !d.jobs.isEmpty ∨ d.second.isSome then s.setDown q d
  else if !d.sent then s.completeDown q d d.status
  else if itemAckReq d.header then s.setDown q d
  else s.completeDown q d .done

/-- The copy of a job ends with a status; `tail` is its tail end when it was sent. -/
def State.copyEnd (s : State) (id : Nat) (j : TxJob) (st : Status) (tail : Option Int) : State :=
  match s.down? j.queue with
  | none => s
  | some d =>
    if id ∈ d.jobs then
      let first := tail.isSome && !d.sent
      s.attemptEnd j.queue { d with
        jobs := d.jobs.filter (· ≠ id), sent := d.sent || tail.isSome, status := st
        attempts := min 255 (d.attempts + bit first)
        awaiting := (tail.map fun t => (t, s.forceOf j)) <|> d.awaiting }
    else s

/-- A job that will not radiate ends with a status: an ack is dropped, a downlink's copy ends, a wake ends its frame. -/
def State.failJob (s : State) (id : Nat) (j : TxJob) (st : Status) : State :=
  let s := (s.dropJob id).cxEnd j.f j.o (false, id)
  match j.kind with
  | .ack _ => s
  | _ => s.copyEnd id j st none

/-! ### Probes of a faulted port (R85, R86) -/

/-- The frames on air on an output. -/
def State.onAirOf (s : State) (p : TxJob → Bool) : List (Nat × TxJob) :=
  s.tx.jobs.filter fun e => e.2.stage = .onAir && p e.2

/-- A transmission leaves the air; the noise windows it fell in were not idle on its channels (R137). -/
def State.leaveAir (s : State) (j : TxJob) : State :=
  { s with air := { s.air with sending := s.air.sending.erase (j.f, j.o, j.grid, decide (j.rate = 0)) } }.spoilSent
    j.f j.grid (j.rate = 0)

/-- A frame on air is cut short. -/
def State.cutJob (s : State) (j : TxJob) : State := (s.leaveAir j).emitNow (.airCut j.f j.o (s.jobFrame j))

/-- TX_MISMATCH (R85, R86): every frame on the port ends with ABORT_MISMATCH, and the port is faulted. -/
def State.mismatch (s : State) (f c : Nat) : State :=
  let l := s.onAirOf fun j => j.f = f && j.o = 96 + c
  let s := s.each l fun s e => (s.cutJob e.2).failJob e.1 e.2 .abortMismatch
  let s := s.incSat (Reg.FRF.TXCH.ABORTS f c)
  let s := { s with air := { s.air with probes := Tbl.put s.air.probes (2 * f + c) ⟨1, false⟩ } }
  s.raise (Reg.FRF.TXCH.FAULT f c) f 4

/-- TX_MISMATCH. -/
def execTxMismatch (f : Fin 6) (c : Fin 2) (s : State) : Host.Outcome State Fault Refusal :=
  .next (s.when (s.dieUp f && !(s.onAirOf fun j => j.f = f.val && j.o = 96 + c.val).isEmpty) fun s => s.mismatch f c)

/-- The listen-before-talk of a probe: the channels on either side of its chain's centre, k 15 and 16 of 32, by their bands;
one that lies in no enabled band has no power test. [DEDUCED, log entry 76] -/
def State.probeBusy (s : State) (f c : Nat) : Bool :=
  let o := 96 + c
  let i := s.get (Reg.TX.OUT.LISTEN f o)
  !s.sourceUp f i || s.ctxBlanked f i || [15, 16].any fun d =>
    let grid := s.get (Reg.TX.GRID f o) + d
    s.contactBlocks f o grid 1 (s.meshNs + 20000) ||
    match s.listenChannel f o grid 1 with
    | none => ((s.macForce grid).band.map (·.1)).getD false
    | some k => s.channelTaken f i false k ||
        s.powerBusy f i false k ((s.macForce grid).band.getD (false, 0, 0)) (s.meanPower (chanKey f i false k))

/-- TX_PROBE (R86): made when time, seed, channel and coexistence allow it; a match within 3:1 clears the fault, which raises
its source again (R100), else the interval doubles up to 64 s. [DEDUCED, log entry 76] -/
def State.probe (s : State) (f c : Nat) (within granted : Bool) : State :=
  let s := s.lookContacts
  let r := Tbl.getD s.air.probes (2 * f + c) ⟨1, false⟩
  let s := { s with air := { s.air with probes := Tbl.put s.air.probes (2 * f + c) { r with nextSlot := false } } }
  if !s.mayRadiate || s.probeBusy f c || !s.cxAllows f (96 + c) granted then s.cxEnd f (96 + c) (true, c)
  else
    let s := (s.emitNow (.probe f c)).cxEnd f (96 + c) (true, c)
    if within then
      (({ s with air := { s.air with probes := Tbl.erase s.air.probes (2 * f + c) } }).put (Reg.FRF.TXCH.FAULT f c) 0).fire
        (dieSource f 4)
    else
      { s with air := { s.air with probes := Tbl.put s.air.probes (2 * f + c) ⟨min 64 (2 * r.interval), false⟩ } }

/-- A match within 3:1 VSWR, from the powers forward and reflected: the reflected amplitude is at most half (R85, R86). -/
def withinThree (forward reflected : Nat) : Bool := decide (4 * reflected ≤ forward)

/-- TX_PROBE, with the powers seen after the tuner, and whether CXGNT stands. -/
def execTxProbe (f : Fin 6) (c : Fin 2) (forward reflected : Nat) (granted : Bool) (s : State) :
    Host.Outcome State Fault Refusal :=
  .next (s.when (s.live && s.dieUp f && s.on (Reg.FRF.TXCH.FAULT f c)) fun s => s.probe f c (withinThree forward reflected) granted)

/-- A write of 1 to FAULT schedules a probe in the next slot (R86). -/
def State.probeNext (s : State) (f c : Nat) : State :=
  if s.on (Reg.FRF.TXCH.FAULT f c) then
    let r := Tbl.getD s.air.probes (2 * f + c) ⟨1, false⟩
    { s with air := { s.air with probes := Tbl.put s.air.probes (2 * f + c) { r with nextSlot := true } } }
  else s

/-- RW fields of TXCH as they stand. -/
def State.txchWord (s : State) (f c : Nat) : Nat :=
  s.get (Reg.FRF.TXCH.EN f c) + s.get (Reg.FRF.TXCH.FC f c) * 2 + s.get (Reg.FRF.TXCH.PWR_DBM f c) * 2 ^ 16

/-- TX_FAULT_WRITE. A write of 1 to FAULT that leaves the other fields as they stand. -/
def execTxFaultWrite (f : Fin 6) (c : Fin 2) (s : State) : Host.Outcome State Fault Refusal :=
  .next (s.hostWriteReg (dieOffset f (0x80040 + c * 0x10)) (s.txchWord f c + 2 ^ 21) fun s => s.probeNext f c)

/-! ### Coexistence, checks, backoff (R92, R167) -/

/-- CHANNEL_BUSY_TIMEOUT is counted, with source 177 once between its reads. -/
def State.busyTimeout (s : State) : State := (s.bump Reg.MAC.CHANNEL_BUSY_TIMEOUT).fireOnce 177

/-- A busy check of R167: the attempts run out, or T0 moves by a random backoff. [DESIGN CHOICE, log entry 95] -/
def State.backOff (s : State) (id : Nat) (j : TxJob) : State :=
  let s := s.bump Reg.MAC.BUSY_CHECKS
  let m := s.forceOf j
  if m.maxAttempts ≤ j.nb + 1 then (s.busyTimeout).failJob id j .channelBusyTimeout
  else
    let r := s.drawNum
    (r.1.setJob id { j with nb := j.nb + 1, t0 := j.t0 + (r.2 % 2 ^ j.be * 320000 : Nat), be := min (j.be + 1) m.maxBe
                            stage := if j.key.isNone && j.cv ≠ 0 then .building else .ready }).cxEnd j.f j.o
      (false, id)

/-- CXGNT drops in the requester role (R92): frames on guarded outputs ramp down, and their attempts fail as busy. -/
def State.grantLost (s : State) (f n : Nat) : State :=
  let l := s.onAirOf fun j => j.f = f && s.guards f n j.o
  s.each l fun s e =>
    let s := s.cutJob e.2
    match e.2.kind with
    | .down => s.backOff e.1 e.2
    | .wake => s.backOff e.1 e.2
    | .ack _ => (s.bump Reg.MAC.ACK_BUSY).failJob e.1 e.2 .channelBusyTimeout
    | _ => s.backOff e.1 { e.2 with kind := .down }

/-- CXGNT_DROP. -/
def execCxgntDrop (f : Fin 6) (n : Fin 4) (s : State) : Host.Outcome State Fault Refusal :=
  .next (s.when (s.dieUp f && s.on (Reg.FRF.CX.EN f n) && !s.on (Reg.FRF.CX.ROLE f n)) fun s => s.grantLost f n)

/-! ### On air (R78, R83, R160, R163) -/

/-- A cleared frame's samples start. -/
def State.startJob (s : State) (id : Nat) (j : TxJob) : State :=
  let s := s.setJob id { j with stage := .onAir }
  let s := { s with air := { s.air with sending := (j.f, j.o, j.grid, decide (j.rate = 0)) :: s.air.sending } }
  let frame := s.jobFrame j
  let s := s.emitNow (.air j.f j.o j.grid j.rate j.t0.toNat (s.txLevel j) frame (s.jobWave j))
  match j.kind with
  | .ack _ => s.bump Reg.MAC.ACK_SENT
  | .wake => s.bump Reg.MAC.WAKES
  | _ => s

/-- TX_START: a cleared frame goes on air, or ends with ABORT_MISMATCH where its port has faulted since (R86). A piggyback
whose check value has not come by then is not sent, and its item goes back to its queue (R160, R171).
[DEDUCED, log entry 76] -/
def State.txStart (s : State) (id : Nat) (j : TxJob) : State :=
  if j.stage = .building then
    match s.down? j.queue with
    | some d => ((s.dropJob id).cxEnd j.f j.o (false, id)).rewindDown j.queue d
    | none => s.dropJob id
  else if s.portFaulted j.f j.o then s.failJob id j .abortMismatch
  else s.startJob id j

/-- TX_START. -/
def execTxStart (id : Nat) (s : State) : Host.Outcome State Fault Refusal :=
  .next (match s.job? id with
    | some j => s.when (s.live && s.dieUp j.f && s.atStart j && (j.stage = .cleared
        || (j.kind = .piggyback && j.stage = .building && !j.header.isEmpty))) fun s => s.txStart id j
    | none => s)

end Sys2Proof.Machine
end

