-- ==== Sys2Proof/Machine/Sched.lean ====
section
/-! DEFINITION. The scheduler (R221 to R228) and the attempts it starts (R175, R179, R181, R208): gate lists, what an
item needs to be sent, the earliest instant that fits, frames and their check requests, take and charge. -/

namespace Sys2Proof.Machine

/-! ### Gate lists (R222, R223) -/

/-- The shadow list of a group. -/
def State.shadowList (s : State) (g : Nat) : List (Nat × Nat) :=
  (List.range (s.get (Reg.SCHED.GATE_CTL.LEN g))).map fun e =>
    (s.get (Reg.SCHED.GATE_ENTRY.OPEN g e), s.get (Reg.SCHED.GATE_ENTRY.DUR g e))

/-- The shadow list may be committed (R223): no DUR is 0, whole slots, a takeover in the future. -/
def State.commitOk (s : State) (g : Nat) : Bool :=
  let l := s.shadowList g
  l.all (fun e => e.2 ≠ 0) && (l.map (·.2)).sum % 200 = 0 && mscFuture (s.get (Reg.SCHED.GATE_TAKEOVER.MSC g)) s.time.msc

/-- COMMIT: PENDING, with COMMIT reading 1 beside it, or BAD_FIELD in LAST_WR. [DEDUCED, log entry 72] -/
def State.gateCommit (s : State) (g : Nat) : State :=
  if s.on (Reg.SCHED.GATE_CTL.PENDING g) then s
  else if s.commitOk g then
    let x := s.get (Reg.SCHED.GATE_TAKEOVER.MSC g)
    let l : GateList := ⟨s.shadowList g, x, s.meshNs + s.untilNs x 0⟩
    let s := { s with sched := { s.sched with pending := Tbl.put s.sched.pending g l } }
    let s := (s.put (Reg.SCHED.GATE_CTL.PENDING g) 1).put (Reg.SCHED.GATE_CTL.COMMIT g) 1
    s.put (Reg.SCHED.GATE_CTL.LAST_WR g) Status.done.code
  else (s.put (Reg.SCHED.GATE_CTL.LAST_WR g) Status.badField.code).illegal (0x104000 + g * 0x10)

/-- CANCEL clears a pending takeover, and reads 0 at once. [DEDUCED, log entry 72] -/
def State.gateCancel (s : State) (g : Nat) : State :=
  (({ s with sched := { s.sched with pending := Tbl.erase s.sched.pending g } }).put (Reg.SCHED.GATE_CTL.PENDING g) 0).put
    (Reg.SCHED.GATE_CTL.COMMIT g) 0

/-- A write of LEN: dropped with BUSY while a takeover is pending (R223). [DEDUCED, log entry 72] -/
def State.gateLen (s : State) (g v : Nat) : State :=
  if bitsAt v 0 9 = s.get (Reg.SCHED.GATE_CTL.LEN g) then s
  else if s.on (Reg.SCHED.GATE_CTL.PENDING g) then s.put (Reg.SCHED.GATE_CTL.LAST_WR g) Status.busy.code
  else (s.put (Reg.SCHED.GATE_CTL.LEN g) (bitsAt v 0 9)).put (Reg.SCHED.GATE_CTL.LAST_WR g) Status.done.code

/-- A GATE_CTL write: CANCEL, then LEN, then COMMIT. [DEDUCED, log entry 72] -/
def State.gateCtl (s : State) (g v : Nat) : State :=
  if 256 < bitsAt v 0 9 then s.illegal (0x104000 + g * 0x10)
  else
    let s := if bitsAt v 10 1 = 1 then s.gateCancel g else s
    let s := s.gateLen g v
    if bitsAt v 9 1 = 1 then s.gateCommit g else s

/-- GATE_COMMIT: a GATE_CTL write whose COMMIT bit is 1. -/
def execGateCommit (g : Fin 64) (v : BitVec 32) (s : State) : Host.Outcome State Fault Refusal :=
  .next (s.hostWriteReg (0x104000 + g * 0x10) v.toNat fun s =>
    if bitsAt v.toNat 9 1 = 1 then s.gateCtl g v.toNat else s)

/-- GATE_CANCEL: a GATE_CTL write whose CANCEL bit is 1. -/
def execGateCancel (g : Fin 64) (v : BitVec 32) (s : State) : Host.Outcome State Fault Refusal :=
  .next (s.hostWriteReg (0x104000 + g * 0x10) v.toNat fun s =>
    if bitsAt v.toNat 10 1 = 1 then s.gateCtl g v.toNat else s)

/-- A bank of 256 entries: those a table lists for a group, then zeros. -/
def State.bank (s : State) (g : Nat) : List (Nat × Nat) := Tbl.getD s.sched.banks g []

/-- The shadow bank as the register store holds it, so many entries. -/
def State.shadowBank (s : State) (g : Nat) : List (Nat × Nat) :=
  (List.range 256).map fun e => (s.get (Reg.SCHED.GATE_ENTRY.OPEN g e), s.get (Reg.SCHED.GATE_ENTRY.DUR g e))

/-- Loads the registers of the shadow bank. -/
def State.loadShadow (s : State) (g : Nat) (l : List (Nat × Nat)) : State :=
  s.each (List.range 256) fun s e =>
    (s.put (Reg.SCHED.GATE_ENTRY.OPEN g e) (l.getD e (0, 0)).1).put (Reg.SCHED.GATE_ENTRY.DUR g e) (l.getD e (0, 0)).2

/-- The banks change places: the shadow bank becomes active, and the active one is the shadow from now on (R223). -/
def State.swapBanks (s : State) (g : Nat) : State :=
  let old := s.bank g
  let new := s.shadowBank g
  let s := { s with sched := { s.sched with banks :=
    if (new.all fun e => e.1 = 0 && e.2 = 0) then Tbl.erase s.sched.banks g else Tbl.put s.sched.banks g new } }
  (s.loadShadow g old).put (Reg.SCHED.GATE_CTL.ACTIVE_BANK g) (1 - s.get (Reg.SCHED.GATE_CTL.ACTIVE_BANK g))

/-- At the start of the takeover slot the shadow bank becomes active from entry 0 (R223). -/
def State.gateTake (s : State) (g : Nat) (l : GateList) : State :=
  let s := s.swapBanks g
  let u := s.sched
  let s := { s with sched := { u with
    pending := Tbl.erase u.pending g, gates := if l.entries.isEmpty then Tbl.erase u.gates g else Tbl.put u.gates g l } }
  let s := (s.put (Reg.SCHED.GATE_CTL.PENDING g) 0).put (Reg.SCHED.GATE_CTL.COMMIT g) 0
  let s := s.put (Reg.SCHED.GATE_CTL.HAS_LIST g) (bit !l.entries.isEmpty)
  ((s.put (Reg.SCHED.GATE_CTL.ENTRY_NOW g) 0).bump Reg.SCHED.TAKEOVERS).fire 129

/-- GATE_TAKEOVER. -/
def execGateTakeover (g : Fin 64) (s : State) : Host.Outcome State Fault Refusal :=
  .next (match Tbl.find? s.sched.pending g with
    | some l => s.when (s.live && decide (l.startNs ≤ s.meshNs)) fun s => s.gateTake g l
    | none => s)

/-- The entry of a list in force at a mesh instant. -/
def GateList.entryAt (l : GateList) (t : Int) : Nat :=
  let p := ((t - l.startNs) % (l.cycle : Int)).toNat
  ((gateSpans 0 l.entries).findIdx? fun x => p < x.2.2).getD 0

/-- GATE_ENTRY_CHANGE: ENTRY_NOW follows the list in force. -/
def execGateEntryChange (g : Fin 64) (s : State) : Host.Outcome State Fault Refusal :=
  .next (s.when (s.live && !(s.gateList g).entries.isEmpty) fun s =>
    s.put (Reg.SCHED.GATE_CTL.ENTRY_NOW g) ((s.gateList g).entryAt s.meshNs))

/-! ### Token buckets and starvation (R227, R228) -/

/-- TOKENS of a bucket; one not yet used is full. [DEDUCED, log entry 73] -/
def State.tokens (s : State) (g c : Nat) : Int :=
  Tbl.getD s.sched.tokens (8 * g + c) (s.get (Reg.SCHED.BUCKET.BURST g c))

/-- Sets TOKENS. R227 gives −1,279 as the least they go down to. [DESIGN CHOICE, log entry 188] -/
def State.setTokens (s : State) (g c : Nat) (v : Int) : State :=
  { s with sched := { s.sched with tokens := Tbl.put s.sched.tokens (8 * g + c) (max (-1279) v) } }

/-- The refill of every enabled bucket at a slot start. [DEDUCED, log entry 73] -/
def State.refill (s : State) : State :=
  s.each (List.range 512) fun s i =>
    if s.on (Reg.SCHED.BUCKET.EN (i / 8) (i % 8)) then
      s.setTokens (i / 8) (i % 8)
        (min (s.tokens (i / 8) (i % 8) + s.get (Reg.SCHED.BUCKET.RATE (i / 8) (i % 8))) (s.get (Reg.SCHED.BUCKET.BURST (i / 8) (i % 8))))
    else s

/-- A queue is starved (R228). -/
def State.starved (s : State) (x : Queue) : Bool :=
  let limit := s.get (Reg.SCHED.CLASS.STARVE x.cls)
  0 < x.count && !x.sent && !x.urgent && limit ≠ 0 && limit ≤ (s.time.msc + 2048 - x.age) % 2048

/-- The starvation scan of a slot start. -/
def State.starveScan (s : State) : State :=
  s.each s.cask.queues fun s p =>
    if s.starved (s.queue p.1) && s.listed p.1 then
      ((((s.leaveLists p.1).join p.1 true).bump Reg.SCHED.URGENT).fireOnce 132)
    else s

/-! ### What sending an item takes (R162, R164, R166, R175, R181, R208) -/

/-- Where an item's frame goes: its rate, the copies sent at once (die, output, grid channel), a second copy, a wake
burst that goes ahead, and the status with which it completes without radiating. -/
structure Plan where
  rate : Nat
  copies : List (Nat × Nat × Nat)
  second : Option (Nat × Nat)
  wake : Option (Nat × Nat × Nat)
  flood : Bool
  error : Option Status
deriving DecidableEq, Repr

/-- The rate of an item: its own, its node's, or the default (R214). -/
def State.itemRateNow (s : State) (h : List Byte) (a : Nat) : Nat :=
  let r := if itemRate h = 7 then ((s.nodeSound a).map fun p => nodeRate p.2).getD 7 else itemRate h
  if r = 7 then s.get Reg.SCHED.CFG.DEF_RATE else r

/-- The status with which a copy ends without radiating (R86, R162). -/
def State.copyError (s : State) (f o grid rate : Nat) : Option Status :=
  if !s.outCovers f o grid rate then some .badField
  else if s.portFaulted f o then some .abortMismatch
  else none

/-- The output of the second copy of a class 0 frame (R181). [DEDUCED, log entry 75] -/
def State.twinOf (s : State) (streams : List Nat) (f o grid rate : Nat) : Option (Nat × Nat) :=
  let other := (streams.filter fun a => a / 512 ≠ f).findSome? s.serveOf
  let ok (p : Nat × Nat) : Bool := s.outCovers p.1 p.2 grid rate
  match other.filter ok with
  | some p => some p
  | none =>
    let p := (s.get (Reg.TX.OUT.TWIN_DIE f o), s.get (Reg.TX.OUT.TWIN_OUT f o))
    if s.on (Reg.TX.OUT.TWIN_EN f o) && s.dieUp p.1 && p.2 < 98 && s.on (Reg.TX.OUT.EN p.1 p.2) && ok p then some p else none

/-- The grid channel of a second copy: moved by CH_OFS in channel mode. [DEDUCED, log entry 75] -/
def State.twinGrid (s : State) (grid : Nat) : Nat :=
  if s.on Reg.MAC.TWIN_CFG.MODE then ((grid : Int) + signedOf 8 (s.get Reg.MAC.TWIN_CFG.CH_OFS)).toNat else grid

/-- A contact of the node is pending whose window opens by the next slot's start plus MEET_US (R175). -/
def State.meets (s : State) (a : Nat) : Bool :=
  let next : Int := (s.meshNs / 2000000 + 1) * 2000000 + (s.get Reg.MAC.WAKE_TX.MEET_US * 1000 : Nat) - s.meshNs
  s.rx.contacts.any fun p => decide (p.2.addr = a) && decide (s.untilNs p.2.msc p.2.ofs - p.2.guard ≤ next)

/-- The node sleeps and is to be woken first. -/
def State.wakeNeeded (s : State) (a : Nat) : Bool :=
  ((s.nodeSound a).any fun p => nodeSleepy p.2) && !s.meets a

/-- The wake frequency of a node (R175). -/
def State.wakeGrid (s : State) (a : Nat) : Option Nat :=
  let l := (List.range 4).filter fun j => s.on (Reg.MAC.WAKE_FREQ.EN j)
  (l[wakeAddr a (s.get Reg.MAC.WAKE_CFG.SALT) % l.length]?).map fun j => s.get (Reg.MAC.WAKE_FREQ.GRID j)

/-- The wake burst of a node: the first output of its set that covers the wake channel. -/
def State.wakePlan (s : State) (a : Nat) (streams : List Nat) : Option (Nat × Nat × Nat) :=
  match s.wakeGrid a with
  | none => none
  | some g => (streams.findSome? fun x => (s.serveOf x).filter fun p => s.outCovers p.1 p.2 g 1).map fun p => (p.1, p.2, g)

/-- The status with which a frame completes whatever its copies: too long for its rate, no band, an unsecured type not
enabled (R101, R118, R166). [DEDUCED, log entry 68] -/
def State.frameError (s : State) (h : List Byte) (rate grid : Nat) : Option Status :=
  if maxFrame rate < 18 + itemPaylen h + cvBytes (itemCvlen h) then some .badLength
  else if (s.band grid).isNone then some .badField
  else if itemCvlen h = 0 ∧ bitsAt (s.get Reg.MAC.UNSEC.TYPES) (itemType h) 1 = 0 then some .badField
  else none

/-- The second output of a class 0 frame, none for the other classes (R181). -/
def State.twinFor (s : State) (cls : Nat) (streams : List Nat) (f o grid rate : Nat) : Option (Nat × Nat) :=
  if cls = 0 then s.twinOf streams f o (s.twinGrid grid) rate else none

/-- The status of a frame for the flood set when no flood output is left (R208, R307). -/
def State.floodError (s : State) (a : Nat) : Status := if s.setFenced a then .dieFenced else .notFound

/-- The plan of an item for an address with its streams. -/
def State.plan (s : State) (h : List Byte) (a cls : Nat) (streams : List Nat) (flood : Bool) : Plan :=
  let grid := itemGrid h
  let rate := s.itemRateNow h a
  let none' (st : Status) : Plan := ⟨rate, [], none, none, flood, some st⟩
  let outs := if flood then ((streams.filterMap s.serveOf).eraseDups).take 8
    else (streams.findSome? s.serveOf).toList
  let good := outs.filter fun p => (s.copyError p.1 p.2 grid rate).isNone
  let worst := (outs.findSome? fun p => (s.copyError p.1 p.2 grid rate).filter (· = .abortMismatch)).getD .badField
  if flood ∧ (streams.isEmpty ∨ (outs.isEmpty ∧ s.setFenced a)) then none' (s.floodError a)
  else match s.frameError h rate grid, good with
    | some st, _ => none' st
    | none, [] => none' worst
    | none, p :: _ =>
      let copies := good.map fun p => (p.1, p.2, grid)
      if flood then ⟨rate, copies, none, none, true, none⟩
      else if s.wakeNeeded a then
        match s.wakePlan a streams with
        | none => none' .badField
        | some w => ⟨rate, copies, none, some w, false, none⟩
      else ⟨rate, copies, s.twinFor cls streams p.1 p.2 grid rate, none, false, none⟩

/-- The plan of a queue's head item; looking its node up may meet a parity error. -/
def State.planHead (s : State) (q : Nat) : State × Plan :=
  let x := s.queue q
  let a := x.addr.getD broadcast
  let r := s.streamsFor a x.slot
  (r.1, r.1.plan (sliceB (s.itemData x.head) 0 32) a x.cls r.2.1 r.2.2)

/-! ### The earliest instant that fits (R224) -/

/-- The first T0 on a 1 µs grid from LEAD_US to HORIZON_US after now that the gates and contacts allow. -/
def State.earliest (s : State) (g cls f o grid rate airNs : Nat) : Option Int :=
  let lead := s.get Reg.SCHED.CFG.LEAD_US
  let n := s.get Reg.SCHED.CFG.HORIZON_US - lead
  let first := -(-(s.meshNs + (lead * 1000 : Nat)) / 1000) * 1000
  let ok (i : Nat) : Bool :=
    let t0 := first + (i * 1000 : Nat)
    decide (t0 ≤ s.meshNs + (s.get Reg.SCHED.CFG.HORIZON_US * 1000 : Nat)) && s.gateFits g cls t0 airNs
      && !s.contactBlocks f o grid rate t0
  ((List.range (n + 1)).find? ok).map fun i => first + (i * 1000 : Nat)

/-- The instant of a plan's first transmission: its wake burst, or its first copy. -/
def State.planInstant (s : State) (g cls len : Nat) (p : Plan) : Option Int :=
  match p.wake, p.copies with
  | some (f, o, grid), _ => s.earliest g cls f o grid 1 6000000
  | none, (f, o, grid) :: _ => s.earliest g cls f o grid p.rate (frameNs p.rate len)
  | none, [] => none

/-! ### Frames and their check requests (R117, R179) -/

/-- The header of a downlink frame. -/
def State.downHeader (s : State) (q : Nat) (d : Downlink) (ctr : Nat) : List Byte :=
  let h := d.header
  macHeader (itemType h) (itemCvlen h) (itemClass h) (itemAckReq h) (s.pendingFor d.dst (some q)) d.seq
    (s.get (Reg.MAC.NET_CFG.NETID (itemNet h))) d.dst 0 ctr (itemIndex h)

/-- The key of a downlink (R273, R275), or the status its use fails with. -/
def State.downKey (s : State) (h : List Byte) (a : Nat) : State × Except Status KeyRef :=
  let n := itemNet h
  let kc := itemClass h
  let ix := itemIndex h
  if s.kilnState = 5 then (s, .error .internal)
  else if !s.kilnReady then (s, .error .tamperHeld)
  else if s.approved ∧ itemCvlen h = 1 then (s.approvedReject, .error .badKeyUse)
  else if !s.on (Reg.KILN.KEYMAP.EN n kc ix) then (s, .error .badKeyUse)
  else if kc = 0 then
    let r := s.nodeKey n a ix none
    match r.2 with
    | .error st => (r.1.countKeyError st, .error st)
    | .ok k => (r.1, .ok k)
  else (s, .ok (.slot (s.get (Reg.KILN.KEYMAP.GSLOT n kc ix))))

/-- A job for one copy, ready where no check value is wanted, else waiting for its request; a piggyback has had its check and
is cleared in place of ready (R171). -/
def State.startCopy (s : State) (kind : JobKind) (q : Nat) (d : Downlink) (header payload : List Byte) (key : Option KeyRef)
    (f o grid : Nat) (t0 : Int) : State :=
  let cv := cvBytes (itemCvlen d.header)
  let start : JobStage := if kind = .piggyback then .cleared else .ready
  let j : TxJob := { kind := kind, queue := q, f := f, o := o, grid := grid, rate := d.rate, net := itemNet d.header, t0 := t0,
                     header := header, payload := payload, cv := cv, key := none,
                     stage := if key.isNone then start else .building, nb := 0, be := s.get Reg.MAC.LBT_CFG.MIN_BE,
                     force := none, group := s.get (Reg.SCHED.OUT_GROUP.GROUP f o), cls := d.cls }
  let id := s.tx.nextJob
  let s := s.addJob j
  match key with
  | none => s
  | some k => s.newReq { why := .downlink id, key := k, kc := some (itemClass d.header), verify := false, trunc := cv,
                         msg := header ++ s.jobPayload j, tag := [], admitted := none }

/-- The next counter of a downlink's attempt, or none with source 180 (R179). -/
def State.downCounter (s : State) (d : Downlink) : State × Option Nat :=
  let r := s.nextCounter d.dst (itemClass d.header)
  if r.2.isNone then (r.1.fire 180, none) else r

/-- Sends a frame's copies: counter, key and jobs, or the status with which it completes. The first copy is of the kind
named, any other has its own checks under R167. [DEDUCED, log entry 75] -/
def State.sendCopies (s : State) (kind : JobKind) (q : Nat) (d : Downlink) (payload : List Byte)
    (copies : List (Nat × Nat × Nat)) (t0 : Int) : State :=
  let k : State × Except Status (Option KeyRef) :=
    if itemCvlen d.header = 0 then (s, .ok none)
    else match s.downKey d.header d.dst with
      | (s, .ok r) => (s, .ok (some r))
      | (s, .error st) => (s, .error st)
  match k with
  | (s, .error st) => s.completeDown q d st
  | (s, .ok key) =>
    match s.downCounter d with
    | (s, none) => s.completeDown q d .keyExpired
    | (s, some c) =>
      let first := s.tx.nextJob
      let d := { d with ctrs := c :: d.ctrs, jobs := (List.range copies.length).map (first + ·), sent := false,
                        awaiting := none, status := .internal }
      let s := s.setDown q d
      let header := s.downHeader q d c
      s.each (copies.zipIdx) fun s p =>
        s.startCopy (if p.2 = 0 then kind else .down) q d header payload key p.1.1 p.1.2.1 p.1.2.2 t0

/-- Sends a frame: once, or as a twin (R181). A second copy in channel mode goes at the same T0, in sub-slot mode after the
first. TWIN_SINGLE counts a class 0 frame that has no second output, at its first attempt. [DEDUCED, log entry 75] -/
def State.sendFrame (s : State) (kind : JobKind) (q : Nat) (d : Downlink) (payload : List Byte)
    (copies : List (Nat × Nat × Nat)) (second : Option (Nat × Nat)) (t0 : Int) : State :=
  if d.cls ≠ 0 ∨ d.flood then s.sendCopies kind q d payload copies t0
  else match second with
    | none => (s.bumpBy Reg.MAC.TWIN_SINGLE (bit d.ctrs.isEmpty)).sendCopies kind q d payload copies t0
    | some o =>
      if s.on Reg.MAC.TWIN_CFG.MODE then
        s.sendCopies kind q d payload (copies ++ [(o.1, o.2, s.twinGrid (itemGrid d.header))]) t0
      else s.sendCopies kind q { d with second := some o } payload copies t0

/-- The downlink record of an item just taken: its earlier attempts, or a new sequence number (R179).
[DEDUCED, log entry 77] -/
def State.openDown (s : State) (q g : Nat) (p : Plan) : State × Downlink :=
  let x := s.queue q
  let h := sliceB (s.itemData x.mark) 0 32
  let a := x.addr.getD broadcast
  match Tbl.find? s.tx.kept x.mark with
  | some d => (s, { d with rate := p.rate, group := g, flood := p.flood, second := none })
  | none =>
    let n := Tbl.getD s.tx.seqs a 0
    ({ s with tx := { s.tx with seqs := Tbl.put s.tx.seqs a ((n + 1) % 256) } },
     { first := x.mark, dst := a, header := h, seq := n, ctrs := [], attempts := 0, retries := 0, meets := 0, jobs := [],
       sent := false, awaiting := none, status := .internal, rate := p.rate, group := g, cls := x.cls, flood := p.flood,
       second := none, replayed := false })

/-- A wake burst ahead of a downlink (R175); a repeated one goes on counting attempts. [DEDUCED, log entry 76] -/
def State.startWake (s : State) (q : Nat) (d : Downlink) (f o grid : Nat) (t0 : Int) : State :=
  let id := s.tx.nextJob
  let s := s.setDown q { d with jobs := [id], status := .internal }
  s.addJob { kind := .wake, queue := q, f := f, o := o, grid := grid, rate := 1, net := itemNet d.header, t0 := t0,
             header := [], payload := s.wakeBytes d.dst, cv := 0, key := none, stage := .ready, nb := d.meets,
             be := s.get Reg.MAC.LBT_CFG.MIN_BE, force := none, group := s.get (Reg.SCHED.OUT_GROUP.GROUP f o),
             cls := d.cls }

/-- The payload of an item. -/
def State.itemPayload (s : State) (b : Nat) : List Byte := (s.itemData b).drop 32

/-- An attempt at an item just taken: completed without radiating, a wake burst, or its copies. FLOODED counts a frame of
the flood set at its first attempt (R208). -/
def State.attempt (s : State) (q g : Nat) (p : Plan) (t0 : Int) : State :=
  let r := s.openDown q g p
  let s := r.1
  let d := r.2
  let s := s.bumpBy Reg.NODE.FLOODED (bit (p.flood && d.ctrs.isEmpty))
  match p.error, p.wake with
  | some st, _ => s.completeDown q d st
  | none, some w => s.startWake q d w.1 w.2.1 w.2.2 t0
  | none, none => s.sendFrame .down q d (s.itemPayload d.first) p.copies p.second t0

/-! ### The decision (R225, R226) -/

/-- Steps after which every queue of a list has a positive deficit: QUANTUM is at least 1,280 (R226). -/
def State.frontFuel (s : State) (l : List Nat) : Nat :=
  l.length * (l.foldl (fun a q => max a (s.queue q).deficit.natAbs) 0 / 1280 + 2)

/-- Moves a class list on to its front queue: deficits that are not positive gain QUANTUM (R226). -/
def State.frontOf (s : State) (g c : Nat) : Nat → State
  | 0 => s
  | n + 1 =>
    match s.classList g c with
    | [] => s
    | q :: l =>
      let x := s.queue q
      if 0 < x.deficit then s
      else ((s.setQueue q { x with deficit := x.deficit + s.get (Reg.SCHED.CLASS.QUANTUM c) }).setClassList g c (l ++ [q])).frontOf g c n

/-- A class list's bucket lets it be served (R225). -/
def State.bucketOpen (s : State) (g c : Nat) : Bool := !s.on (Reg.SCHED.BUCKET.EN g c) || decide (0 < s.tokens g c)

/-- MAC frame bytes of a queue's head item. -/
def State.headLen (s : State) (q : Nat) : Nat :=
  let h := sliceB (s.itemData (s.queue q).head) 0 32
  18 + itemPaylen h + cvBytes (itemCvlen h)

/-- A queue's head item as a list would serve it: its plan and its instant; an item that cannot radiate is taken at
once. -/
def State.fitHead (s : State) (g q : Nat) : Option (State × Plan × Int) :=
  let r := s.planHead q
  match r.2.error with
  | some _ => some (r.1, r.2, r.1.meshNs)
  | none => (r.1.planInstant g (s.queue q).cls (s.headLen q) r.2).map fun t => (r.1, r.2, t)

/-- What a class list offers. -/
def State.offerClass (s : State) (g c : Nat) : Option (State × Nat × Plan × Int) :=
  if (s.classList g c).isEmpty || !s.bucketOpen g c then none
  else
    let s := s.frontOf g c (s.frontFuel (s.classList g c))
    match s.classList g c with
    | [] => none
    | q :: _ => (s.fitHead g q).map fun r => (r.1, q, r.2)

/-- What the urgent list offers. -/
def State.offerUrgent (s : State) (g : Nat) : Option (State × Nat × Plan × Int) :=
  match s.urgentList g with
  | [] => none
  | q :: _ => (s.fitHead g q).map fun r => (r.1, q, r.2)

/-- The first eligible list: class 0, urgent, classes 1 to 7 (R225). -/
def State.offer (s : State) (g : Nat) : Option (State × Nat × Plan × Int) :=
  (s.offerClass g 0) <|> (s.offerUrgent g) <|> (List.range 7).findSome? fun i => s.offerClass g (i + 1)

/-- The dies of a plan have a free transmit context (R225). -/
def State.contextsFree (s : State) (p : Plan) : Bool :=
  (p.copies.map (·.1) ++ (p.wake.toList.map (·.1))).all fun f => s.txContexts f < 256

/-- TAKE with its charges (R216, R226, R227), then the attempt. -/
def State.serve (s : State) (g q : Nat) (p : Plan) (t0 : Int) : State :=
  let c := (s.queue q).cls
  let len := s.headLen q
  let s := s.bump Reg.SCHED.DECISIONS
  let s := s.setQueue q { s.queue q with deficit := (s.queue q).deficit - len }
  let s := if s.on (Reg.SCHED.BUCKET.EN g c) then s.setTokens g c (s.tokens g c - len) else s
  (s.takeItem q).attempt q g p t0

/-- Items of a group committed and not completed. [DEDUCED, log entry 74] -/
def State.committed (s : State) (g : Nat) : Nat := (s.tx.downs.filter fun p => p.2.group = g).length

/-- A decision of group g (R225, R283). -/
def State.schedule (s : State) (g : Nat) : State :=
  let s := s.lookContacts
  if s.get Reg.SCHED.CFG.DEPTH < s.committed g then s
  else match s.offer g with
    | none => s
    | some (s', q, p, t0) => if s.contextsFree p then s'.serve g q p t0 else s

/-- SCHED_DECISION. -/
def execSchedDecision (g : Fin 64) (s : State) : Host.Outcome State Fault Refusal :=
  .next (s.when (s.live && s.on Reg.SCHED.CFG.EN && s.on Reg.KILN.STATUS.FLOOR_SET) fun s => s.schedule g)

/-! ### Checks of downlinks and wake bursts (R166, R167, R175) -/

/-- A second sub-slot copy gets its instant from the first (R181): the first's last chip plus GAP_US. It has checks of its
own, by the group of its own output (R224). [DEDUCED, log entry 75] -/
def State.startSecond (s : State) (j : TxJob) : State :=
  match s.down? j.queue with
  | none => s
  | some d =>
    match d.second with
    | none => s
    | some (f, o) =>
      let id := s.tx.nextJob
      let t0 := j.lastChip + ((s.forceOf j).gapUs * 1000 : Nat)
      let s := s.setDown j.queue { d with second := none, jobs := d.jobs ++ [id] }
      s.addJob { j with kind := .down, f := f, o := o, t0 := t0, nb := 0, be := s.get Reg.MAC.LBT_CFG.MIN_BE, force := none,
                        stage := if j.key.isNone && j.cv ≠ 0 then .building else .ready,
                        group := s.get (Reg.SCHED.OUT_GROUP.GROUP f o) }

/-- A job that ends without being sent gives a waiting second copy its instant first. -/
def State.failCopy (s : State) (id : Nat) (j : TxJob) (st : Status) : State := (s.startSecond j).failJob id j st

/-- A job clears its check. -/
def State.clearJob (s : State) (id : Nat) (j : TxJob) : State :=
  (s.setJob id { j with stage := .cleared }).startSecond j

/-- The check of R165 to R167 for a job in a band: what makes it busy, the gates of its group and the hold of R301 among it.
[DEDUCED, log entry 74] -/
def State.jobBusy (s : State) (id : Nat) (j : TxJob) (granted : Bool) (b : Bool × Int × Int) : Bool :=
  j.stage = .building || s.jobHeld id || !s.gateFits j.group j.cls j.t0 j.airNs || s.busyFor id j granted b s.meanPower

/-- LBT_CHECK at C (R86, R166, R167): by the registers as the first check found them (R182). [DEDUCED, log entry 74] -/
def State.lbtCheck (s : State) (id : Nat) (j : TxJob) (granted : Bool) : State :=
  let s := s.lookContacts
  let j := s.atFirstCheck j
  if s.portFaulted j.f j.o then s.failCopy id j .abortMismatch
  else match (s.forceOf j).band with
    | none => s.failCopy id j .badField
    | some b =>
      if !s.listens j then s.failCopy id j .sourceLost
      else if !s.jobBusy id j granted b then s.clearJob id j
      else
        let s := if (s.forceOf j).maxAttempts ≤ j.nb + 1 then s.startSecond j else s
        s.backOff id j

/-- LBT_CHECK. [DEDUCED, log entry 39] -/
def execLbtCheck (id : Nat) (granted : Bool) (s : State) : Host.Outcome State Fault Refusal :=
  .next (match s.job? id with
    | some j => s.when (s.live && s.dieUp j.f && (j.kind = .down || j.kind = .wake)
        && (j.stage = .ready || j.stage = .building) && s.atCheck j) fun s => s.lbtCheck id j granted
    | none => s)

/-- A busy meeting (R175): one attempt of R167 gone, and the wake is repeated at the next service. Where another copy of the
frame still goes, only this copy ends. [DEDUCED, log entry 76] -/
def State.meetingBusy (s : State) (id : Nat) (j : TxJob) : State :=
  match s.down? j.queue with
  | none => s.dropJob id
  | some d =>
    let s := s.bump Reg.MAC.BUSY_CHECKS
    if d.jobs ≠ [id] ∨ d.second.isSome then s.failCopy id j .channelBusyTimeout
    else
      let s := (s.dropJob id).cxEnd j.f j.o (false, id)
      let d := { d with meets := d.meets + 1, jobs := [] }
      if (s.forceOf j).maxAttempts ≤ d.meets then (s.busyTimeout).completeDown j.queue d .channelBusyTimeout
      else s.rewindDown j.queue d

/-- The one check of a meeting. -/
def State.meetingCheck (s : State) (id : Nat) (j : TxJob) (granted : Bool) : State :=
  let s := s.lookContacts
  let j := s.atFirstCheck j
  if s.portFaulted j.f j.o then s.failCopy id j .abortMismatch
  else match (s.forceOf j).band with
    | none => s.failCopy id j .badField
    | some b =>
      if !s.listens j then s.failCopy id j .sourceLost
      else if s.jobBusy id j granted b then s.meetingBusy id j else s.clearJob id j

/-- MEETING_CHECK. [DEDUCED, log entry 76] -/
def execMeetingCheck (id : Nat) (granted : Bool) (s : State) : Host.Outcome State Fault Refusal :=
  .next (match s.job? id with
    | some j => s.when (s.live && s.dieUp j.f && j.kind = .meeting && (j.stage = .ready || j.stage = .building)
        && s.atCheck j) fun s => s.meetingCheck id j granted
    | none => s)

/-! ### Piggyback (R171) -/

/-- The queue whose head item a piggyback to an address carries: the lowest class with one. [DEDUCED, log entry 76] -/
def State.piggyQueue (s : State) (a : Nat) : Option Nat :=
  let l := s.cask.queues.filter fun p => p.2.addr = some a && 0 < p.2.count && !p.2.sent
  (l.foldl (fun (best : Option (Nat × Queue)) p =>
    if best.all fun b => p.2.cls < b.2.cls then some p else best) none).map (·.1)

/-- An ack with PENDING is followed by a piggyback on the same output and channel, TURN_US after its last chip. -/
def State.startPiggyback (s : State) (j : TxJob) : State :=
  match s.piggyQueue (macDst j.header) with
  | none => s
  | some q =>
    s.addJob { j with kind := .piggyback, queue := q, header := [], payload := [], cv := 0, key := none, nb := 0, force := none,
                      t0 := j.lastChip + (s.get Reg.MAC.ACK_CFG.TURN_US * 1000 : Nat), stage := .ready,
                      cls := (s.queue q).cls }

/-- The item a piggyback job would carry, as the check sees it: its rate and length. -/
def State.piggyCand (s : State) (j : TxJob) : TxJob :=
  let x := s.queue j.queue
  let h := sliceB (s.itemData x.head) 0 32
  { s.atFirstCheck j with
    rate := s.itemRateNow h (x.addr.getD broadcast), net := itemNet h, header := List.replicate 18 0
    payload := List.replicate (s.headLen j.queue - 18 - cvBytes (itemCvlen h)) 0, cv := cvBytes (itemCvlen h) }

/-- A piggyback that clears its check takes its item and sends it, with its twin if it is of class 0 (R181, R226, R227). -/
def State.sendPiggyback (s : State) (j : TxJob) (rate : Nat) : State :=
  let x := s.queue j.queue
  let len := s.headLen j.queue
  let s := s.setQueue j.queue { x with deficit := x.deficit - len }
  let s := if s.on (Reg.SCHED.BUCKET.EN j.group x.cls) then s.setTokens j.group x.cls (s.tokens j.group x.cls - len) else s
  let r := (s.takeItem j.queue).streamsFor (x.addr.getD broadcast) x.slot
  let second := r.1.twinFor x.cls r.2.1 j.f j.o j.grid rate
  let d := r.1.openDown j.queue j.group ⟨rate, [(j.f, j.o, j.grid)], none, none, false, none⟩
  let s := d.1.sendFrame .piggyback j.queue d.2 (d.1.itemPayload d.2.first) [(j.f, j.o, j.grid)] second j.t0
  match s.job? d.1.tx.nextJob with
  | some y => s.startSecond y
  | none => s

/-- The one check of a piggyback: busy, the item stays at its queue's head; clear, it is taken and sent.
[DEDUCED, log entry 76] -/
def State.piggyback (s : State) (id : Nat) (j : TxJob) (granted : Bool) : State :=
  let s := s.lookContacts
  let x := s.queue j.queue
  let h := sliceB (s.itemData x.head) 0 32
  let cand := s.piggyCand j
  let s' := (s.dropJob id).cxEnd j.f j.o (false, id)
  if x.count = 0 ∨ x.sent ∨ s.portFaulted j.f j.o then s'
  else match (s.forceOf cand).band with
    | none => s'
    | some b =>
      if !s.listens cand || s.busyFor id cand granted b s.meanPower || (s.frameError h cand.rate j.grid).isSome
          || !s.outCovers j.f j.o j.grid cand.rate then s'.bump Reg.MAC.BUSY_CHECKS
      else (s.dropJob id).sendPiggyback j cand.rate

/-- PIGGYBACK_CHECK. -/
def execPiggybackCheck (id : Nat) (granted : Bool) (s : State) : Host.Outcome State Fault Refusal :=
  .next (match s.job? id with
    | some j => s.when (s.live && s.dieUp j.f && j.kind = .piggyback && j.header.isEmpty && s.atCheck j) fun s =>
        s.piggyback id j granted
    | none => s)

/-! ### The end of a transmission (R84, R92, R160, R163, R175, R180) -/

/-- A wake burst has ended: its downlink meets the node in the slot after the one in which the last bit ends (R175). -/
def State.meetAfter (s : State) (id : Nat) (j : TxJob) : State :=
  match s.down? j.queue with
  | none => s
  | some d =>
    let slot := (j.lastChip - 1) / 2000000 + 1
    let t0 := slot * 2000000 + ((s.forceOf j).meetUs * 1000 : Nat)
    let r := s.streamsFor d.dst (s.queue j.queue).slot
    let s := r.1
    let grid := itemGrid d.header
    let d := { d with meets := j.nb }
    match (r.2.1.findSome? s.serveOf).filter fun p => (s.copyError p.1 p.2 grid d.rate).isNone with
    | none => s.completeDown j.queue { d with jobs := d.jobs.filter (· ≠ id) } .badField
    | some p => s.sendFrame .meeting j.queue d (s.itemPayload d.first) [(p.1, p.2, grid)]
        (s.twinFor d.cls r.2.1 p.1 p.2 grid d.rate) t0

/-- The aerial tuner of a chain adapts between transmissions, from the forward and reflected power of the last one (R84).
[DESIGN CHOICE, log entry 174] -/
def State.adaptTuner (s : State) (f o forward reflected : Nat) : State :=
  if o < 96 then s
  else
    let c := o - 96
    let v := Config.tunerMove (Tbl.getD s.air.tuners (2 * f + c) 0) forward reflected
    let v := max (-(Config.tunerReach : Int)) (min Config.tunerReach v)
    { s with air := { s.air with tuners := Tbl.put s.air.tuners (2 * f + c) v } }.put (Reg.FRF.TXCH.TUNER_LIMIT f c)
      (bit (v.natAbs = Config.tunerReach))

/-- The last chip and the ramp-down have ended, and the transmit context is free. -/
def State.endJob (s : State) (id : Nat) (j : TxJob) (clamped : Bool) (forward reflected : Nat) : State :=
  let s := if clamped then s.bump Reg.MAC.TX_CLAMP else s
  let s := (((s.leaveAir j).dropJob id).cxEnd j.f j.o (false, id)).adaptTuner j.f j.o forward reflected
  match j.kind with
  | .ack _ => s
  | .wake => s.meetAfter id j
  | _ => s.copyEnd id j .done (some j.lastChip)

/-- TX_END. `clamped` says that samples of the output were clamped; forward and reflected are the powers measured. -/
def execTxEnd (id : Nat) (clamped : Bool) (s : State) (forward reflected : Nat := 0) :
    Host.Outcome State Fault Refusal :=
  .next (match s.job? id with
    | some j => s.when (s.live && j.stage = .onAir && decide (j.lastChip + 20000 ≤ s.meshNs)) fun s =>
        s.endJob id j clamped forward reflected
    | none => s)

/-- ACK_TIMEOUT (R180): no node ack for the item outstanding on queue `id` by the end of its window. -/
def State.ackTimeout (s : State) (q : Nat) (d : Downlink) (m : MacForce) : State :=
  if d.retries < m.maxRetry then s.rewindDown q { d with retries := d.retries + 1, meets := 0 }
  else ((s.bump Reg.MAC.NO_ACK).fireOnce 178).completeDown q d .noAck

/-- The end of a node ack's window after a tail end (R180). -/
def ackWindowEnd (tail : Int) (m : MacForce) (rate : Nat) : Int :=
  tail + (syncNs rate + 1000 * (m.nodeTurnUs + m.ackTolUs) : Nat)

/-- ACK_TIMEOUT. -/
def execAckTimeout (id : Nat) (s : State) : Host.Outcome State Fault Refusal :=
  .next (match s.down? id with
    | some d => match d.awaiting with
      | some (tail, m) => s.when (s.live && d.jobs.isEmpty && decide (ackWindowEnd tail m d.rate ≤ s.meshNs)) fun s =>
          s.ackTimeout id d m
      | none => s
    | none => s)

/-! ### Acks (R120, R168, R169, R372) -/

/-- The check of an ack at its C (R169): late, busy, or committed; with PENDING a piggyback follows. On a faulted port it is
dropped (R86). -/
def State.ackCheck (s : State) (id : Nat) (j : TxJob) (spanPower : Frac) (granted : Bool) : State :=
  let s := s.lookContacts
  if j.stage = .building then ((s.bump Reg.MAC.ACK_LATE).fireOnce 176).failJob id j .internal
  else if s.portFaulted j.f j.o then s.failJob id j .abortMismatch
  else
    let j := s.atFirstCheck j
    let busy := match (s.forceOf j).band with
      | none => true
      | some b => !s.listens j || s.busyFor id j granted b fun _ => some spanPower
    if busy then ((s.bump Reg.MAC.ACK_BUSY).failJob id j .channelBusyTimeout)
    else
      let s := s.setJob id { j with stage := .cleared }
      if bitsAt (beAt j.header 0 2) 6 1 = 1 then s.startPiggyback j else s

/-- ACK_CHECK. -/
def execAckCheck (id : Nat) (spanPower : Frac) (granted : Bool) (s : State) : Host.Outcome State Fault Refusal :=
  .next (match s.job? id with
    | some j => s.when (s.live && s.dieUp j.f && (match j.kind with | .ack _ => true | _ => false)
        && (j.stage = .ready || j.stage = .building) && s.atCheck j) fun s => s.ackCheck id j spanPower granted
    | none => s)

end Sys2Proof.Machine
end

