-- ==== Sys2Proof/Machine/MacRx.lean ====
section
/-! DEFINITION. The receive side of the MAC at the active head: groups of copies (R150 to R155), early-look records
(R158, R247), verification (R117, R118, R154, R156), the replay window and the duplicate filter (R176 to R178), and
what confirmation does: contacts, learning, acknowledgements, fast path and delivery (R17, R120, R168, R174, R199,
R246, R258, R372). -/

namespace Sys2Proof.Machine

/-! ### Groups -/

/-- A group of copies. -/
def State.group? (s : State) (g : Nat) : Option Group := Tbl.find? s.rx.groups g

/-- Replaces a group. -/
def State.setGroup (s : State) (g : Nat) (x : Group) : State :=
  { s with rx := { s.rx with groups := Tbl.put s.rx.groups g x } }

/-- Forgets a group. -/
def State.eraseGroup (s : State) (g : Nat) : State :=
  { s with rx := { s.rx with groups := Tbl.erase s.rx.groups g } }

/-- Changes a group that is held. -/
def State.onGroup (s : State) (g : Nat) (f : Group → Group) : State :=
  match s.group? g with
  | some x => s.setGroup g (f x)
  | none => s

/-- The profile in force: 0 Swift, 1 Reach, 2 Thrift (R182). -/
def State.profile (s : State) : Nat := s.get Reg.MAC.PROFILE.ACTIVE

/-- A group just opened for a copy. -/
def State.freshGroup (s : State) (i : CopyInfo) : Group :=
  { die := if s.profile = 2 then some i.f else none, net := i.net, rate := i.rate, grid := i.grid, len := i.len,
    firstNs := i.syncNs, copies := [], profile := s.profile, cfg := s.blendForce, prov := false, closed := false,
    closedSegs := [], decodedSegs := [], wantsCombined := false, combined := none, overload := false, todo := [],
    checking := none, passed := none, passedAt := 0, key := none, keyFor := (0, 0), confirmed := none, last := .decodeFail,
    ended := false, counted := false, surplus := 0, heldOut := false, learned := false, extra := [], elk := [], elkRing := 0,
    elkOpen := false, elkSkipped := false, rxOffset := 0x8000, rxClipped := false, deliver := false, ring := none,
    bufs := [] }

/-- A copy belongs to a group that is open or held after closing (R151). -/
def Group.takes (g : Group) (force : BlendForce) (i : CopyInfo) : Bool :=
  let tol := (if g.prov then g.cfg else force).tsTol * 250
  !g.heldOut && g.net = i.net && g.rate = i.rate && g.grid = i.grid && g.len = i.len && g.die.all (· = i.f)
  && decide (i.syncNs - g.firstNs ≤ tol) && decide (g.firstNs - i.syncNs ≤ tol)

/-- The oldest group a copy belongs to. -/
def State.groupFor (s : State) (i : CopyInfo) : Option (Nat × Group) :=
  List.find? (fun p => p.2.takes s.blendForce i) s.rx.groups

/-- The group that holds a copy. -/
def State.groupOfCopy (s : State) (serial : Nat) : Option (Nat × Group) :=
  List.find? (fun p => p.2.copies.any fun c => c.info.serial = serial) s.rx.groups

/-- Replaces the copy of the same serial. -/
def Group.setCopy (g : Group) (c : Copy) : Group :=
  { g with copies := g.copies.map fun x => if x.info.serial = c.info.serial then c else x }

/-- Removes a copy. -/
def Group.dropCopy (g : Group) (serial : Nat) : Group :=
  { g with copies := g.copies.filter fun c => c.info.serial ≠ serial }

/-- A policy call is due or outstanding for a group's frame. -/
def State.hookOut (s : State) (p : Hook → Bool) : Bool := s.tun.due.any p || s.tun.calls.any fun c => p c.2.hook

/-- A JOIN_REQUEST call holds back a group's learning. -/
def State.joinOut (s : State) (g : Nat) : Bool := s.hookOut fun h => h = .join g

/-- A policy call holds back a group's delivery. -/
def State.callOut (s : State) (g : Nat) : Bool := s.hookOut fun h => h = .join g || h = .classify g

/-- A group whose hold has ended and in which nothing is left to do is forgotten. -/
def State.releaseGroup (s : State) (id : Nat) : State :=
  match s.group? id with
  | some g =>
    if g.heldOut && g.todo.isEmpty && g.checking.isNone && g.passed.isNone && !g.deliver && !s.callOut id
        && !(g.elkOpen && g.confirmed.isNone) then s.eraseGroup id else s
  | none => s

/-! ### Early-look (R158, R247) -/

/-- Bytes 2 to 31 of an early-look record. [DESIGN CHOICE, log entry 60] -/
def elkTail (id : Nat) (i : CopyInfo) (head : List Byte) : List Byte :=
  leBytes 1 (2 * i.rate + 16 * macType head) ++ leBytes 1 i.net ++ leBytes 4 (1 + id % (2 ^ 32 - 1))
    ++ leBytes 4 (macSrc head) ++ leBytes 4 (macDst head) ++ leBytes 4 (macCtr head) ++ leBytes 1 (macSeq head) ++ [0]
    ++ leBytes 2 i.len ++ leBytes 8 i.stamp

/-- The ELK ring has two free slots beyond those reserved for follow-ups. -/
def State.elkRoom (s : State) (n : Nat) : Bool :=
  s.ringFill n + (s.ring n).reserved + 2 ≤ s.ringSize n

/-- Posts a group's provisional record, or skips it with source 100. [DESIGN CHOICE, log entry 60] -/
def State.elkProvisional (s : State) (id : Nat) (i : CopyInfo) (head : List Byte) : State :=
  let n := s.get Reg.BLEND.ELK.RING
  if !s.ringTakes n 3 then s.drop n
  else if !s.elkRoom n then
    ((s.onGroup id fun g => { g with elkSkipped := true }).bump Reg.RING.ELK_SKIPPED).fire 100
  else
    let tail := elkTail id i head
    let s := s.record n 3 (leBytes 1 Status.doneProvisional.code ++ [0] ++ tail)
    let s := s.setRing n { s.ring n with reserved := (s.ring n).reserved + 1 }
    s.onGroup id fun g => { g with elk := tail, elkRing := n, elkOpen := true }

/-- The provisional record of a group, where early-look is on: always in Swift, with ELK.EN elsewhere.
[DESIGN CHOICE, log entry 60] -/
def State.elkOpens (s : State) (id : Nat) (g : Group) (i : CopyInfo) (head : List Byte) : State :=
  if g.profile = 0 || s.on Reg.BLEND.ELK.EN then s.elkProvisional id i head else s

/-- The one follow-up of a provisional record, in the same ring (R158). -/
def State.elkFollow (s : State) (id : Nat) (st reason : Status) (deadline : Bool) : State :=
  match s.group? id with
  | some g =>
    if !g.elkOpen then s
    else
      let n := g.elkRing
      let tail := leBytes 1 (leAt g.elk 0 1 + bit deadline) ++ g.elk.drop 1
      let why := if st = .withdrawn then reason.code else 0
      let s := s.setRing n { s.ring n with reserved := (s.ring n).reserved - 1 }
      let s := s.record n 3 (leBytes 1 st.code ++ leBytes 1 why ++ tail)
      let s := s.bump (if st = .withdrawn then Reg.BLEND.ELK_WITHDRAW else Reg.BLEND.ELK_CONFIRM)
      s.setGroup id { g with elkOpen := false }
  | none => s

/-! ### Endings without confirmation (R17, R154, R156, R183) -/

/-- Counts the status with which a frame ends. -/
def State.countEnd (s : State) (st : Status) : State :=
  match st with
  | .authFail => s.bump Reg.MAC.AUTH_FAIL
  | .replay => s.bump Reg.MAC.REPLAY
  | .duplicate => s.bump Reg.MAC.DUPLICATE
  | _ => s

/-- GROUPS, COPIES and OVER_EIGHT count a group once its frame is confirmed or ended, none of them before (R17, R156).
[DEDUCED, log entry 49] -/
def State.countGroup (s : State) (id : Nat) : State :=
  match s.group? id with
  | some g =>
    if g.counted || !g.prov then s
    else
      let n := (g.copies.filter fun c => c.record.isSome && !c.late).length + g.surplus
      (((s.setGroup id { g with counted := true }).bump Reg.BLEND.GROUPS).bumpBy Reg.BLEND.COPIES n).bumpBy
        Reg.BLEND.OVER_EIGHT g.surplus
  | none => s

/-- A result ends unconfirmed: in Swift each copy is a frame of its own and is counted. -/
def State.resultEnds (s : State) (id : Nat) (st : Status) : State :=
  match s.group? id with
  | some g =>
    let s := if g.profile = 0 then s.countEnd st else s
    s.setGroup id { g with last := st, checking := none, passed := none }
  | none => s

/-- Nothing is left that could confirm a group. -/
def Group.spent (g : Group) : Bool :=
  g.prov && g.closed && g.todo.isEmpty && g.checking.isNone && g.passed.isNone && g.confirmed.isNone && !g.ended
  && (g.profile ≠ 0 || g.copies.all fun c => c.record.isSome)

/-- A group with nothing left to verify ends with the status of its last result. -/
def State.groupEnds (s : State) (id : Nat) : State :=
  match s.group? id with
  | some g =>
    if g.spent then
      let s := if g.profile = 0 then s else s.countEnd g.last
      let s := (s.countGroup id).elkFollow id .withdrawn g.last false
      ((s.onGroup id fun g => { g with ended := true }).cacheEnd id none).releaseGroup id
    else s.releaseGroup id
  | none => s

/-! ### Verification (R117, R118, R154, R267, R273, R275) -/

/-- A header the part processes (R108, R115, R116): network id, destination, source, type and key class.
[DEDUCED, log entry 53] -/
def State.headerOk (s : State) (net : Nat) (f : List Byte) : Bool :=
  macNet f = ((Tbl.find? s.nets net).map (·.netId)).getD (macNet f)
  && (macDst f = 0 || macDst f = broadcast) && macSrc f ≠ 0 && macSrc f ≠ broadcast
  && (macType f = 0 || macType f = 1 || macType f = 3) && macClass f ≤ 3

/-- The key found for a group still stands for a source and index. [DEDUCED, log entry 55] -/
def State.keyHolds (s : State) (g : Group) (src ix : Nat) : Bool :=
  g.keyFor = (src, ix) && match g.key with
    | some (.cache i) => (Tbl.find? s.kiln.cache i).any fun e =>
        e.matches g.net src ix (s.get (Reg.KILN.KEYMAP.VSLOT g.net 0 ix)) && !e.doomed
    | some _ => true
    | none => false

/-- The key a result is verified with: the node key for key class 0, the VSLOT for the others (R275). -/
def State.verifyKey (s : State) (id : Nat) (g : Group) (f : List Byte) : State × Except Status KeyRef :=
  let ix := macIndex f
  if macClass f ≠ 0 then (s, .ok (.slot (s.get (Reg.KILN.KEYMAP.VSLOT g.net (macClass f) ix))))
  else if s.keyHolds g (macSrc f) ix then (s, .ok (g.key.getD (.slot 0)))
  else s.nodeKey g.net (macSrc f) ix (some id)

/-- Hands a result to Kiln, or passes or drops it without Kiln. [DEDUCED, log entry 54] -/
def State.tryResult (s : State) (id : Nat) (g : Group) (r : ResultSrc) : State :=
  let f := g.frame r
  let cv := cvBytes (macCvlen f)
  if r = .combined ∧ !s.headerOk g.net f then s.resultEnds id .decodeFail
  else if cv = 0 then
    if bitsAt (s.get Reg.MAC.UNSEC.TYPES) (macType f) 1 = 1 then s.setGroup id { g with passed := some r, passedAt := s.counterNs }
    else s.resultEnds id .authFail
  else if !s.kilnReady || !s.on (Reg.KILN.KEYMAP.EN g.net (macClass f) (macIndex f)) then s.resultEnds id .authFail
  else if s.approved && macCvlen f = 1 then s.approvedReject.resultEnds id .authFail
  else match s.verifyKey id g f with
    | (s, .error _) => (s.bump Reg.KILN.BAD_KEY_USE).resultEnds id .authFail
    | (s, .ok k) =>
      let req := s.kiln.nextReq
      let s := s.newReq { why := .receive id, key := k, kc := some (macClass f), verify := true, trunc := cv,
                          msg := f.take (g.len - cv), tag := f.drop (g.len - cv), admitted := none }
      s.onGroup id fun g => { g with checking := some (r, req), key := some k, keyFor := (macSrc f, macIndex f) }

/-- Tries the results of a group's list one after another, until one is at Kiln, has passed, or none is left. -/
def State.verify (s : State) (id : Nat) : Nat → State
  | 0 => s.groupEnds id
  | n + 1 =>
    match s.group? id with
    | none => s
    | some g =>
      if g.checking.isSome || g.passed.isSome then s
      else match g.todo with
        | [] => s.groupEnds id
        | r :: rest =>
          if r = .combined ∧ g.combined.isNone then s
          else
            let g := { g with todo := rest }
            ((s.setGroup id g).tryResult id g r).verify id n

/-- Goes on with a group's list. -/
def State.verifyOn (s : State) (id : Nat) : State :=
  match s.group? id with
  | some g => s.verify id (g.todo.length + 1)
  | none => s

/-! ### Segments, records, notices (R151 to R153, R278) -/

/-- The key of a frame under key class 0 is looked up when its first segment arrives (R278). -/
def State.prefetchKey (s : State) (id : Nat) (net : Nat) (head : List Byte) : State :=
  let ix := macIndex head
  if macClass head ≠ 0 || macCvlen head = 0 || !s.kilnReady || !s.on (Reg.KILN.KEYMAP.EN net 0 ix) then s
  else match s.group? id with
    | some g =>
      if g.key.isSome then s
      else match s.nodeKey net (macSrc head) ix (some id) with
        | (s, .ok k) => s.onGroup id fun g => { g with key := some k, keyFor := (macSrc head, ix) }
        | (s, .error _) => s
    | none => s

/-- A copy becomes a late copy (R152, R153). [DEDUCED, log entry 50] -/
def State.lateCopy (s : State) (id : Nat) (c : Copy) : State :=
  (s.onGroup id fun g => g.setCopy { c with late := true, segs := [] }).bump Reg.BLEND.LATE_COPIES

/-- The next place in the order of arrival. -/
def State.arrival (s : State) : State × Nat :=
  ({ s with rx := { s.rx with nextOrder := s.rx.nextOrder + 1 } }, s.rx.nextOrder)

/-- A segment joins its copy, or makes it late where its group has closed the segment. -/
def State.addSegment (s : State) (id : Nat) (g : Group) (c : Copy) (x : SegIn) : State :=
  if c.late then s
  else if g.profile ≠ 0 && (g.closed || x.ix ∈ g.closedSegs) then s.lateCopy id c
  else
    let r := s.arrival
    r.1.setGroup id (g.setCopy { c with segs := c.segs ++ [{ x with order := r.2 }] })

/-- The first segment of a copy places it in a group (R151). -/
def State.placeCopy (s : State) (i : CopyInfo) (c : Copy) (x : SegIn) : State :=
  let r : State × Nat × Group := match s.groupFor i with
    | some (id, g) => (s, id, g)
    | none => ({ s with rx := { s.rx with nextGroup := s.rx.nextGroup + 1 } }, s.rx.nextGroup, s.freshGroup i)
  let g := { r.2.2 with copies := r.2.2.copies ++ [c] }
  ((r.1.setGroup r.2.1 g).addSegment r.2.1 g c x).prefetchKey r.2.1 i.net c.head

/-- A segment message reaches the active head; a later segment of a copy that no group holds is discarded.
[DEDUCED, log entry 50] -/
def State.segmentIn (s : State) (i : CopyInfo) (ix : Nat) (head : List Byte) (phy : Nat) (bits : List Bool)
    (llrs : List Int) : State :=
  let x : SegIn := ⟨ix, bits, llrs, 0⟩
  match s.groupOfCopy i.serial with
  | some (id, g) => match g.copy? i.serial with
    | some c => s.addSegment id g c x
    | none => s
  | none => if ix = 0 then s.placeCopy i ⟨i, phy, head, [], none, 0, false⟩ x else s

/-- Messages of die f on their way to the heads. -/
def State.upMsgs (s : State) (f : Nat) : List UpMsg := Tbl.getD s.air.up f []

/-- Takes the oldest message of die f. -/
def State.popUp (s : State) (f : Nat) : State :=
  { s with air := { s.air with up := Tbl.put s.air.up f (s.upMsgs f).tail } }

/-- SEGMENT_ARRIVAL. -/
def execSegmentArrival (f : Fin 6) (s : State) : Host.Outcome State Fault Refusal :=
  .next (match (s.upMsgs f).head? with
    | some (.segment i ix head phy bits llrs) => s.when s.live fun s => (s.popUp f).segmentIn i ix head phy bits llrs
    | _ => s)

/-- A copy's own result leaves the list of those to verify. -/
def Group.dropResult (g : Group) (serial : Nat) : Group := { g with todo := g.todo.filter (· ≠ .copy serial) }

/-- Of more than eight copies the lowest LQI goes, the later arrival where LQI is equal (R152), counted with its group.
[DEDUCED, log entry 51] -/
def State.keepEight (s : State) (id : Nat) : State :=
  match s.group? id with
  | some g =>
    if 8 < g.kept.length then
      match (rankCopies g.kept).getLast? with
      | some c =>
        let t := (g.setCopy { c with late := true }).dropResult c.info.serial
        if g.counted then (s.setGroup id t).bump Reg.BLEND.OVER_EIGHT else s.setGroup id { t with surplus := g.surplus + 1 }
      | none => s
    else s
  | none => s

/-- A group as the profile in force makes it when it becomes provisional (R157): in Thrift it keeps the copies of the die of
its first record, otherwise it takes in those of the groups that hold the same frame and are not yet provisional.
[DEDUCED, log entry 49] -/
def State.regroup (s : State) (id : Nat) (g : Group) (f : Nat) : State × Group :=
  if s.profile = 2 then
    let rest := g.copies.filter fun c => c.info.f ≠ f
    let dies := (rest.map (·.info.f)).eraseDups
    let open' (s : State) (d : Nat) : State :=
      match rest.find? fun c => c.info.f = d with
      | some c =>
        let n := s.rx.nextGroup
        let s := { s with rx := { s.rx with nextGroup := n + 1 } }
        s.setGroup n { s.freshGroup c.info with copies := rest.filter fun c => c.info.f = d }
      | none => s
    (s.each dies open', { g with die := some f, copies := g.copies.filter fun c => c.info.f = f })
  else
    let g := { g with die := none }
    let same (p : Nat × Group) : Bool := p.1 ≠ id && !p.2.prov && (p.2.copies.head?.any fun c => g.takes s.blendForce c.info)
    let more := s.rx.groups.filter same
    ({ s with rx := { s.rx with groups := s.rx.groups.filter fun p => !same p } },
     { g with copies := g.copies ++ more.flatMap (·.2.copies) })

/-- A group becomes provisional with its first frame record (R152, R156 to R158); in Swift it closes at once.
[DEDUCED, log entry 49] -/
def State.provisional (s : State) (id : Nat) (g : Group) (r : FrameRecord) : State :=
  if g.prov then s.setGroup id g
  else
    let x := s.regroup id g r.info.f
    let g := { x.2 with prov := true, profile := s.profile, cfg := s.blendForce, closed := decide (s.profile = 0) }
    let s := (x.1.setGroup id g).bump Reg.BLEND.PROV_SEEN
    if g.profile = 0 then s.elkOpens id g r.info r.head else s

/-- A copy's record in a group: late, or it takes part, one of at most eight; in Swift the copy is verified at once, or ends
with DECODE_FAIL. It counts in COPIES now where its group has counted. [DEDUCED, log entries 49, 52] -/
def State.recordIn (s : State) (id : Nat) (g : Group) (c : Copy) (r : FrameRecord) : State :=
  if c.late then s.setGroup id (g.dropCopy r.info.serial)
  else if g.profile ≠ 0 && g.prov && g.closed then
    (s.setGroup id (g.dropCopy r.info.serial)).bump Reg.BLEND.LATE_COPIES
  else
    let n := s.arrival
    let g := g.setCopy { c with record := some (r.lqi, r.done), recordAt := n.2, phy := r.phy, head := r.head }
    let s := n.1.when g.counted fun s => s.bump Reg.BLEND.COPIES
    let s := s.provisional id g r
    match s.group? id with
    | some g =>
      if g.profile ≠ 0 then s.keepEight id
      else if r.done then
        ((s.setGroup id { g with todo := g.todo ++ [.copy r.info.serial] }).keepEight id).verifyOn id
      else ((s.resultEnds id .decodeFail).keepEight id).verifyOn id
    | none => s

/-- FRAME_RECORD_ARRIVAL. A record whose group has been released is late. -/
def execFrameRecordArrival (f : Fin 6) (s : State) : Host.Outcome State Fault Refusal :=
  .next (match (s.upMsgs f).head? with
    | some (.record r) => s.when s.live fun s =>
      let s := s.popUp f
      match s.groupOfCopy r.info.serial with
      | some (id, g) => match g.copy? r.info.serial with
        | some c => s.recordIn id g c r
        | none => s
      | none => s.bump Reg.BLEND.LATE_COPIES
    | _ => s)

/-- END_NOTICE_ARRIVAL (R152): the copy leaves its group; a group that never had a record goes with its last copy. -/
def State.noticeIn (s : State) (serial : Nat) : State :=
  match s.groupOfCopy serial with
  | some (id, g) =>
    let g := g.dropCopy serial
    if g.copies.isEmpty && !g.prov then (s.eraseGroup id).cacheEnd id none else (s.setGroup id g).verifyOn id
  | none => s

/-- END_NOTICE_ARRIVAL. -/
def execEndNoticeArrival (f : Fin 6) (s : State) : Host.Outcome State Fault Refusal :=
  .next (match (s.upMsgs f).head? with
    | some (.endNotice serial _) => s.when s.live fun s => (s.popUp f).noticeIn serial
    | _ => s)

/-! ### Closing and the combined decode (R153 to R155) -/

/-- SEGMENT_CLOSE: a segment that has arrived and is not the last closes before its group's window. -/
def execSegmentClose (g seg : Nat) (s : State) : Host.Outcome State Fault Refusal :=
  .next (match s.group? g with
    | some x => s.when (s.live && x.profile ≠ 0 && !x.closed && seg + 1 < segCount (codedBits x.len) && seg ∉ x.closedSegs
        && x.copies.any fun c => c.segs.any fun y => y.ix = seg) fun s =>
      s.setGroup g { x with closedSegs := x.closedSegs ++ [seg] }
    | none => s)

/-- The results of a group to verify, in order (R154). -/
def Group.results (g : Group) : Bool × List ResultSrc :=
  let wants := 2 ≤ g.kept.length && (g.cfg.always || g.kept.any fun c => c.record.any fun r => !r.2)
  (wants, (if wants then [.combined] else []) ++ g.doneCopies.map fun c => .copy c.info.serial)

/-- WINDOW_CLOSE. [DEDUCED, log entry 52] -/
def State.windowClose (s : State) (id : Nat) (g : Group) : State :=
  let r := g.results
  let s := s.setGroup id { g with closed := true, closedSegs := List.range (segCount (codedBits g.len)),
                                  wantsCombined := r.1, todo := r.2 }
  let s := match g.kept.head? with
    | some c => s.elkOpens id g c.info c.head
    | none => s
  s.verifyOn id

/-- WINDOW_CLOSE. -/
def execWindowClose (g : Nat) (s : State) : Host.Outcome State Fault Refusal :=
  .next (match s.group? g with
    | some x => s.when (s.live && x.prov && !x.closed) fun s => s.windowClose g x
    | none => s)

/-- BLEND_DECODE_DONE: a closed segment has been decoded; with the last one the combined result stands.
[DEDUCED, log entry 53] -/
def State.blendDone (s : State) (id seg : Nat) (g : Group) : State :=
  let g := { g with decodedSegs := g.decodedSegs ++ [seg] }
  if seg + 1 = segCount (codedBits g.len) then
    ((s.setGroup id { g with combined := some (g.decodeSums s.free) }).spend g.decodeSpend).verifyOn id
  else s.setGroup id g

/-- BLEND_DECODE_DONE. -/
def execBlendDecodeDone (g seg : Nat) (s : State) : Host.Outcome State Fault Refusal :=
  .next (match s.group? g with
    | some x => s.when (s.live && seg ∈ x.closedSegs && seg ∉ x.decodedSegs && (!x.closed || x.wantsCombined)) fun s =>
      s.blendDone g seg x
    | none => s)

/-- BLEND_OVERLOAD: the combined result leaves the list where a DONE copy can take its place. -/
def State.blendOverload (s : State) (id : Nat) (g : Group) : State :=
  let s := (s.bump Reg.BLEND.OVERLOAD).fire 184
  if g.doneCopies.isEmpty then s.setGroup id { g with overload := true }
  else (s.setGroup id { g with overload := true, wantsCombined := false, todo := g.todo.filter (· ≠ .combined) }).verifyOn id

/-- BLEND_OVERLOAD. -/
def execBlendOverload (g : Nat) (s : State) : Host.Outcome State Fault Refusal :=
  .next (match s.group? g with
    | some x => s.when (s.live && x.closed && x.wantsCombined && x.combined.isNone && !x.overload) fun s => s.blendOverload g x
    | none => s)

/-- ELK_DEADLINE (R158): WITHDRAW with reason INTERNAL and the DEADLINE flag. -/
def execElkDeadline (g : Nat) (s : State) : Host.Outcome State Fault Refusal :=
  .next (match s.group? g with
    | some x => s.when (s.live && x.elkOpen) fun s =>
      (((s.elkFollow g .withdrawn .internal true).bump Reg.BLEND.ELK_DEADLINE).fire 185).releaseGroup g
    | none => s)

/-! ### Learning (R174, R199 to R202) -/

/-- Rounds n / d to the nearest integer, halves away from zero. -/
def roundAway (n : Int) (d : Nat) : Int :=
  let q : Int := ((2 * n.natAbs + d) / (2 * d) : Nat)
  if n < 0 then -q else q

/-- Drift and contact count after a contact, from RX_OFFSET in 0.25 µs units, whether it was limited (CLIPPED), and the
cycles since last heard (R174). -/
def learnDrift (d : Int) (n ofs : Nat) (clipped : Bool) (cycles : Nat) : Int × Nat :=
  if ofs = 0x8000 ∨ clipped ∨ cycles * 96 < 1000 then (d, n)
  else
    let m := max (-128) (min 127 (roundAway (125 * signedOf 16 ofs) (12 * cycles)))
    (if n < 3 then roundAway (n * d + m) (n + 1) else (3 * d + m).tdiv 4, min 15 (n + 1))

/-- Sets DRIFT and CONTACTS of an entry word. -/
def withDrift (w ofs : Nat) (clipped : Bool) (cycles : Nat) : Nat :=
  let r := learnDrift (nodeDrift w) (nodeContacts w) ofs clipped cycles
  putBits (putBits w 95 8 (fieldOf 8 r.1)) 103 4 r.2

/-- The RELAYED bit of a PHY header (R110). -/
def phyRelayed (h : Nat) : Bool := bitsAt h 10 1 = 1

/-- The copies of a group as candidates: stream, LQI, arrival. -/
def Group.candidates (g : Group) : List (Nat × Nat × Nat) :=
  g.kept.map fun c => (512 * c.info.f + c.info.ctx, c.lqi, c.recordAt)

/-- Streams of the candidates for a node's aerials, best first: by falling LQI, then by arrival (R200). -/
def Group.ranked (g : Group) : List Nat :=
  (sortBy (fun a b : Nat × Nat × Nat => b.2.1 < a.2.1 || (b.2.1 = a.2.1 && a.2.2 ≤ b.2.2)) (g.candidates ++ g.extra)).map (·.1)

/-- What learning writes at confirmation into an entry that is held (R199, R202). -/
def State.refreshed (s : State) (w ofs : Nat) (clipped sleepy : Bool) (key : Option KeyRef) : Nat :=
  let cycles := (s.meshCycle + 2 ^ 24 - nodeHeard w) % 2 ^ 24 + 1
  let w' := if nodeStatic w then w else putBits (withDrift w ofs clipped cycles) 109 1 (bit sleepy)
  let w' := putBits (putBits w' 71 24 s.meshCycle) 127 1 0
  match key with
  | some (.cache i) => putBits w' 111 16 i
  | _ => w'

/-- The entry that a confirmed frame from an unknown address creates (R202). -/
def State.newEntry (s : State) (a ofs rate : Nat) (clipped sleepy relayed : Bool) (key : Option KeyRef) (ranked : List Nat) : Nat :=
  let w := freshNode a (match key with | some (.cache i) => i | _ => 0xFFFF)
  let w := putBits (withDrift w ofs clipped (Config.unheardCycles s.free)) 109 1 (bit sleepy)
  let w := putBits w 71 24 s.meshCycle
  if relayed then w else putBits (withSet w (pickSet ranked)) 68 3 rate

/-- Learning at the confirmation of a frame from a node. -/
def State.learnConfirm (s : State) (a ofs rate : Nat) (clipped sleepy relayed : Bool) (key : Option KeyRef)
    (ranked : List Nat) : State :=
  let r := s.nodeFind a
  match r.2.1 with
  | some (i, w) => r.1.nodePut i (r.1.refreshed w ofs clipped sleepy key)
  | none =>
    if r.1.on Reg.NODE.CFG.LEARN_EN then
      (r.1.learnNew a (r.1.newEntry a ofs rate clipped sleepy relayed key ranked)).spend 1
    else r.1

/-- The learn point of a group's confirmed frame is reached (R200): at confirmation in Reach, else with the hold's end,
and after a JOIN_REQUEST call. -/
def State.learnDue (s : State) (id : Nat) (g : Group) : Bool :=
  g.confirmed.isSome && !g.learned && (g.profile = 1 || g.heldOut) && !s.joinOut id

/-- The learn point (R200, R201). -/
def State.learnPoint (s : State) (id : Nat) : State :=
  match s.group? id with
  | some g =>
    match g.confirmed with
    | some c =>
      if !s.learnDue id g then s
      else
        let s := s.setGroup id { g with learned := true }
        let r := s.nodeFind (macSrc (g.frame c.src))
        let s := r.1
        match r.2.1 with
        | some (i, w) =>
          if !s.on Reg.NODE.CFG.LEARN_EN || phyRelayed (g.phy c.src) || nodeStatic w || g.ranked.isEmpty then s
          else s.learnSet i g.ranked g.rate
        | none => s
    | none => s
  | none => s

/-- GROUP_HOLD_END (R151, R200). -/
def execGroupHoldEnd (g : Nat) (s : State) : Host.Outcome State Fault Refusal :=
  .next (match s.group? g with
    | some x => s.when (s.live && x.closed && !x.heldOut) fun s =>
      (((s.setGroup g { x with heldOut := true }).learnPoint g).verifyOn g).releaseGroup g
    | none => s)

/-! ### The replay window and the duplicate filter (R176, R177) -/

/-- The replay test: whether source 180 is raised, and the record after confirmation, or none where the frame fails. -/
def replayTest (x : Option Replay) (ix c : Nat) : Bool × Option Replay :=
  match x with
  | none => (false, some ⟨ix, c, 1⟩)
  | some x =>
    if x.index ≠ ix then (false, if (ix + 256 - x.index) % 256 ≤ 127 then some ⟨ix, c, 1⟩ else none)
    else if x.high = 0xFFFFFFFF then (true, none)
    else if x.high < c then (false, some ⟨ix, c, (x.seen <<< (c - x.high)) ||| 1⟩)
    else if x.high ≤ c + 63 ∧ !x.seen.getLsbD (x.high - c) then
      (false, some ⟨ix, x.high, x.seen ||| BitVec.ofNat 64 (2 ^ (x.high - c))⟩)
    else (false, none)

/-- The key of a replay record. -/
def replayKey (src kc : Nat) : Nat := 8 * src + kc

/-- Held (sequence, counter) pairs of a source. -/
def State.pairsOf (s : State) (src : Nat) : List (Nat × Nat) := Tbl.getD s.rx.pairs src []

/-- Replaces the held pairs of a source. -/
def State.setPairs (s : State) (src : Nat) (l : List (Nat × Nat)) : State :=
  { s with rx := { s.rx with pairs := if l.isEmpty then Tbl.erase s.rx.pairs src else Tbl.put s.rx.pairs src l } }

/-- DUPLICATE_HOLD_EXPIRY. -/
def execDuplicateHoldExpiry (src : BitVec 32) (seq : BitVec 8) (ctr : BitVec 32) (s : State) :
    Host.Outcome State Fault Refusal :=
  .next (s.when s.live fun s => s.setPairs src.toNat ((s.pairsOf src.toNat).filter (· ≠ (seq.toNat, ctr.toNat))))

/-! ### Contacts and RX_OFFSET (R120, R172) -/

/-- RX_OFFSET of a sync end that is so many ns off its contact's instant, and whether it was limited: beyond ±8,191.75 µs
(R120). -/
def rxOffset (d : Int) : Nat × Bool :=
  if 8191750 < d then (0x7FFF, true) else if d < -8191750 then (0x8001, true) else (fieldOf 16 (roundAway d 250), false)

/-- The contacts of a node that a frame with this sync end fulfils. [DEDUCED, log entry 56] -/
def State.fulfilled (s : State) (src : Nat) (ns : Int) : List (Nat × Contact) :=
  s.rx.contacts.filter fun p => p.2.addr = src && s.inWindow p.2 ns

/-- RX_OFFSET of a frame: 0x8000 when it was not scheduled. [DEDUCED, log entry 56] -/
def State.offsetOf (s : State) (src : Nat) (ns : Int) : Nat × Bool :=
  match s.fulfilled src ns with
  | (_, k) :: _ => rxOffset (ns - s.counterNs - s.untilNs k.msc k.ofs)
  | [] => (0x8000, false)

/-- Fulfilled contacts complete with DONE. [DEDUCED, log entry 56] -/
def State.fulfil (s : State) (src : Nat) (ns : Int) : State :=
  s.each (s.fulfilled src ns) fun s p => s.endContact p.1 p.2 .done

/-! ### Acknowledgements (R118, R120, R156, R168, R289, R372) -/

/-- RATE_ADVICE of an ack (R372). -/
def State.rateAdvice (s : State) (q r : Nat) : Nat :=
  if !s.on Reg.MAC.RATE_ADV.EN then 7
  else if s.get Reg.MAC.RATE_ADV.UP + 12 ≤ q ∧ 0 < r then r - 1
  else if q < s.get Reg.MAC.RATE_ADV.DOWN ∧ r < 4 then r + 1
  else 7

/-- Payload of an ack (R120). -/
def State.ackPayload (s : State) (ofs : Nat) (clipped : Bool) (q rate : Nat) : List Byte :=
  beBytes 2 ofs ++ beBytes 1 q ++ beBytes 1 (s.rateAdvice q rate + 8 * bit clipped)

/-- The output an ack leaves from: by arrival, the first copy whose stream has one that covers the channel. -/
def State.ackOutput (s : State) (g : Group) : Option (Nat × Nat) :=
  g.kept.findSome? fun c => (s.serveOf (512 * c.info.f + c.info.ctx)).filter fun p => s.outCovers p.1 p.2 g.grid g.rate

/-- The mesh instant of a counter instant. -/
def State.meshOf (s : State) (ns : Int) : Int := ns - (meshEpoch * 1000000000 : Nat) - s.meshOffset

/-- The key reference of an ack: the key that verified a class 0 frame, else the GSLOT of the map entry.
[DEDUCED, log entry 57] -/
def State.ackKey (s : State) (g : Group) (f : List Byte) : KeyRef :=
  if macClass f = 0 then g.key.getD (.slot 0) else .slot (s.get (Reg.KILN.KEYMAP.GSLOT g.net (macClass f) (macIndex f)))

/-- A decision record leaves for a field die. -/
def State.sendDown (s : State) (f id : Nat) : State :=
  { s with rx := { s.rx with down := Tbl.put s.rx.down f (Tbl.getD s.rx.down f [] ++ [id]) } }

/-- Builds the ack of a confirmed frame on an output, with its generate request where it carries a check value. -/
def State.startAck (s : State) (id : Nat) (g : Group) (r : ResultSrc) (f o : Nat) : State :=
  let fr := g.frame r
  let cv := cvBytes (macCvlen fr)
  let sync := s.meshOf (((g.bestCopy r).map (·.info.syncNs)).getD g.firstNs)
  let tail := sync + (2 * codedBits g.len * spreadOf g.rate * chipNs g.rate : Nat)
  let header := macHeader 1 (macCvlen fr) (macClass fr) false false (macSeq fr) (macNet fr) (macSrc fr) (macDst fr)
    (macCtr fr) (macIndex fr)
  let payload := s.ackPayload g.rxOffset g.rxClipped (g.lqi r) g.rate
  let job : TxJob :=
    { kind := .ack id, queue := 0, f := f, o := o, grid := g.grid, rate := g.rate, net := g.net,
      t0 := tail + (s.get Reg.MAC.ACK_CFG.TURN_US * 1000 : Nat), header := header, payload := payload, cv := cv, key := none,
      stage := .building, nb := 0, be := 0, force := none, group := s.get (Reg.SCHED.OUT_GROUP.GROUP f o), cls := 0 }
  let n := s.tx.nextJob
  let s := s.addJob job
  if cv = 0 then s.sendDown f n
  else s.newReq { why := .ack id, key := s.ackKey g fr, kc := some (macClass fr), verify := false, trunc := cv,
                  msg := header ++ payload, tag := [], admitted := none }

/-- The acknowledgement decision of a confirmed frame. [DEDUCED, log entry 57] -/
def State.ackDecision (s : State) (id : Nat) (g : Group) (r : ResultSrc) : State :=
  let f := g.frame r
  let may := macCvlen f ≠ 0 || bitsAt (s.get Reg.MAC.UNSEC.TYPES) 1 1 = 1
  if !macAckReq f || macDst f ≠ 0 || !s.on Reg.RNG.STATUS.SEEDED || !may then s
  else match s.ackOutput g with
    | some p => s.startAck id g r p.1 p.2
    | none => s.bump Reg.MAC.ACK_NO_OUTPUT

/-- The job of a group's ack. -/
def State.ackJob (s : State) (g : Nat) : Option (Nat × TxJob) := List.find? (fun p => p.2.kind = .ack g) s.tx.jobs

/-- DECISION_RECORD_ARRIVAL: the ack is queued at the slot timer, PENDING as it stands now (R157). -/
def State.queueAck (s : State) (id : Nat) : State :=
  match s.job? id with
  | some j =>
    let w := putBits (beAt j.header 0 2) 6 1 (bit (s.pendingFor (macDst j.header) none))
    s.setJob id { j with header := beBytes 2 w ++ j.header.drop 2, stage := .ready }
  | none => s

/-- DECISION_RECORD_ARRIVAL. -/
def execDecisionRecordArrival (f : Fin 6) (s : State) : Host.Outcome State Fault Refusal :=
  .next (s.when (s.live && s.dieUp f && !s.safe.hold) fun s =>
    match Tbl.getD s.rx.down f [] with
    | id :: l => ({ s with rx := { s.rx with down := Tbl.put s.rx.down f l } }).queueAck id
    | [] => s)

/-! ### Fast path, policy calls, delivery (R218, R246, R258, R356) -/

/-- Receive-path buffers of a frame: the first holds 208 bytes beside its header, the others 240.
[DEDUCED, log entry 58] -/
def rxBuffers (n : Nat) : Nat := max 1 (1 + (n - 208 + 239) / 240)

/-- The frame without its check value. -/
def Group.body (g : Group) (r : ResultSrc) : List Byte := (g.frame r).take (g.len - cvBytes (macCvlen (g.frame r)))

/-- TYPE, RATE and NET as records carry them. -/
def Group.trn (g : Group) (r : ResultSrc) : Nat := macType (g.frame r) + 8 * g.rate + 64 * g.net

/-- Stream, timestamp and offset of the copy that stands for a result. -/
def Group.copyFields (g : Group) (r : ResultSrc) : Nat × Nat × Int :=
  match g.bestCopy r with
  | some c => (512 * c.info.f + c.info.ctx, c.info.stamp, c.info.ofs10Hz)
  | none => (0, 0, 0)

/-- The fast-path payload of a frame (R258). -/
def Group.fastPayload (g : Group) (r : ResultSrc) : List Byte :=
  let f := g.frame r
  [0x01] ++ beBytes 1 (g.trn r) ++ beBytes 1 (g.lqi r)
    ++ beBytes 1 (bit (r = .combined) + 2 * bit (phyRelayed (g.phy r)) + 4 * bit (phySleepy (g.phy r)))
    ++ beBytes 4 (macSrc f) ++ beBytes 4 (macCtr f) ++ beBytes 1 (macSeq f) ++ beBytes 1 (macIndex f)
    ++ beBytes 2 (g.copyFields r).1 ++ beBytes 8 (g.copyFields r).2.1 ++ (g.body r).drop 18

/-- The RXF record of a frame (R246), so many bytes written to its buffer. -/
def Group.rxf (g : Group) (id : Nat) (r : ResultSrc) (written : Nat) : List Byte :=
  let f := g.frame r
  let flags := bit (r = .combined) + 2 * bit (written < (g.body r).length) + 4 * bit (phyRelayed (g.phy r))
    + 8 * bit (phySleepy (g.phy r))
  let tag := if g.elk.isEmpty then 0 else 1 + id % (2 ^ 32 - 1)
  leBytes 1 Status.done.code ++ leBytes 1 (g.trn r) ++ leBytes 1 flags ++ leBytes 1 (16 * min 7 (g.kept.length - 1))
    ++ leBytes 4 (macSrc f) ++ leBytes 4 (macDst f) ++ leBytes 4 (macCtr f) ++ leBytes 1 (macSeq f)
    ++ leBytes 1 (macIndex f) ++ leBytes 2 (g.len + 2048 * macCvlen f + 8192 * macClass f) ++ leBytes 2 written
    ++ leBytes 2 g.grid ++ leBytes 8 (g.copyFields r).2.1 ++ leBytes 2 (g.copyFields r).1 ++ leBytes 1 (g.lqi r) ++ [0]
    ++ leBytes 2 (fieldOf 16 (g.copyFields r).2.2) ++ leBytes 2 g.rxOffset ++ leBytes 4 tag ++ leBytes 20 0

/-- The receive path asks for a new frame's buffers. [DEDUCED, log entry 58] -/
def State.rxTake (s : State) (id : Nat) (g : Group) (r : ResultSrc) : State :=
  let data := g.body r
  let k := rxBuffers data.length
  if s.grants 0 k then
    let bs := s.cask.pick k 0
    (s.fillBufs 0 bs data).setGroup id { g with bufs := bs, deliver := true }
  else (s.bump Reg.CASK.RX_NO_BUFFER).setGroup id g

/-- Gives a frame's receive buffers back; the frame is not delivered any more. -/
def State.rxDrop (s : State) (id : Nat) : State :=
  match s.group? id with
  | some g => (s.freeBufs 0 g.bufs).setGroup id { g with bufs := [], deliver := false }
  | none => s

/-- A new frame that is not rejected: the fast path takes it if it has its buffers (R258), and a FRAME_CLASSIFY call
falls due (R356). -/
def State.forward (s : State) (id : Nat) : State :=
  match s.group? id with
  | some g => match g.confirmed with
    | some c =>
      if !c.fresh then s
      else
        let s := if g.deliver then s.fastPathSend g.net (macType (g.frame c.src)) (g.fastPayload c.src) else s
        if bitsAt (s.get Reg.TUN.POLICY_CFG.HOOK_EN) 2 1 = 1 then
          { s with tun := { s.tun with due := s.tun.due ++ [.classify id] } }
        else s
    | none => s
  | none => s

/-- A frame's learning at confirmation. -/
def State.learnFrame (s : State) (id : Nat) : State :=
  match s.group? id with
  | some g => match g.confirmed with
    | some c =>
      let f := g.frame c.src
      let key := if macClass f = 0 ∧ macCvlen f ≠ 0 then g.key else none
      (s.learnConfirm (macSrc f) g.rxOffset g.rate g.rxClipped (phySleepy (g.phy c.src)) (phyRelayed (g.phy c.src)) key g.ranked).learnPoint id
    | none => s
  | none => s

/-- A join call ends (R356): accepted, the frame is learned and goes on; rejected, it is neither learned nor delivered. -/
def State.joinEnds (s : State) (id : Nat) (accept : Bool) : State :=
  if accept then ((s.learnFrame id).forward id).releaseGroup id
  else (((s.rxDrop id).onGroup id fun g => { g with learned := true }).bump Reg.TUN.JOIN_REJECT).releaseGroup id

/-- A confirmed frame of key class 2 from an address without an entry asks for a join; any other goes on. -/
def State.admitFrame (s : State) (id : Nat) (f : List Byte) : State :=
  if macClass f = 2 ∧ (s.nodeFind (macSrc f)).2.1.isNone then
    if bitsAt (s.get Reg.TUN.POLICY_CFG.HOOK_EN) 0 1 = 1 then { s with tun := { s.tun with due := s.tun.due ++ [.join id] } }
    else s.joinEnds id (!s.on Reg.TUN.POLICY_CFG.JOIN_DEFAULT)
  else s.joinEnds id true

/-- The ring a frame is delivered to: the one a hook named, else its RX_MAP entry's. -/
def State.rxRing (s : State) (g : Group) (typ : Nat) : Option Nat :=
  match g.ring with
  | some n => some n
  | none => if s.on (Reg.RING.RX_MAP.EN g.net typ) then some (s.get (Reg.RING.RX_MAP.RING g.net typ)) else none

/-- Writes a frame's buffer and its RXF record, or discards it. [DEDUCED, log entry 196] -/
def State.rxPost (s : State) (id n : Nat) (g : Group) (r : ResultSrc) : State :=
  let size := 2 ^ (5 + s.get (Reg.RING.CTL.BUF_LOG2 n))
  let data := (g.body r).take size
  let addr := s.get (Reg.RING.BUF_BASE.ADDR n) + (s.ring n).part % s.ringSize n * size
  if s.ringTakes n 2 && s.ringFill n < s.ringSize n then
    match s.firstBad true addr data.length with
    | some a => (s.drop n).halt n .badAddress a
    | none => (s.dmaWrite addr data).record n 2 (g.rxf id r data.length)
  else s.record n 2 (g.rxf id r data.length)

/-- FRAME_DELIVERY. -/
def State.deliver (s : State) (id : Nat) (g : Group) (r : ResultSrc) : State :=
  let s := match s.rxRing g (macType (g.frame r)) with
    | some n => s.rxPost id n g r
    | none => s.bump Reg.RING.RX_UNMAPPED
  (s.rxDrop id).releaseGroup id

/-- An earlier confirmed frame of the same source waits for its delivery (R356). -/
def State.earlierWaits (s : State) (src order : Nat) : Bool :=
  s.rx.groups.any fun p => p.2.deliver && p.2.confirmed.any fun c => c.order < order && macSrc (p.2.frame c.src) = src

/-- FRAME_DELIVERY. -/
def execFrameDelivery (g : Nat) (s : State) : Host.Outcome State Fault Refusal :=
  .next (match s.group? g with
    | some x => match x.confirmed with
      | some c => s.when (s.live && x.deliver && !s.callOut g && !s.earlierWaits (macSrc (x.frame c.src)) c.order) fun s =>
        s.deliver g x c.src
      | none => s
    | none => s)

/-! ### Confirmation (R17, R156, R177) -/

/-- Statistics of a confirmation. -/
def State.countConfirm (s : State) (g : Group) (r : ResultSrc) (fresh : Bool) : State :=
  let s := s.bump Reg.MAC.CONFIRMED
  let s := if fresh then s else s.bump Reg.MAC.RETRY
  if r = .combined then
    let s := s.bump Reg.BLEND.COMBINED_USED
    if g.doneCopies.isEmpty then s.bump Reg.BLEND.RECOVERED else s
  else s

/-- The replay window and the held pairs move on. [DEDUCED, log entry 59] -/
def State.acceptCounter (s : State) (f : List Byte) (x : Replay) : State :=
  let s := { s with rx := { s.rx with replay := Tbl.put s.rx.replay (replayKey (macSrc f) (macClass f)) x } }
  s.setPairs (macSrc f) (((macSeq f, macCtr f) :: s.pairsOf (macSrc f)).take 4)

/-- A result that passes every filter confirms its frame. [DEDUCED, log entry 55] -/
def State.confirm (s : State) (id : Nat) (g : Group) (r : ResultSrc) (x : Replay) (fresh : Bool) : State :=
  let f := g.frame r
  let sync := ((g.bestCopy r).map (·.info.syncNs)).getD g.firstNs
  let s := (s.countConfirm g r fresh).acceptCounter f x
  let g := { g with passed := none, todo := if g.profile = 0 then g.todo else [], wantsCombined := false,
                    confirmed := some ⟨r, fresh, s.rx.nextOrder⟩, rxOffset := (s.offsetOf (macSrc f) sync).1,
                    rxClipped := (s.offsetOf (macSrc f) sync).2 }
  let s := ({ (s.setGroup id g) with rx := { (s.setGroup id g).rx with nextOrder := s.rx.nextOrder + 1 } }).countGroup id
  let s := s.elkFollow id .done .done false
  let s := (s.fulfil (macSrc f) sync).ackDecision id g r
  let s := if fresh then s.rxTake id { g with elkOpen := false } r else s
  ((s.admitFrame id f).cacheEnd id (if macClass f = 0 then g.key else none)).verifyOn id

/-- A frame of another die's group that ends with DUPLICATE gives its copies to the confirmed frame's group (R200). -/
def State.giveCopies (s : State) (g : Group) (f : List Byte) : State :=
  let own := g.candidates
  let same (x : Group) : Bool := !x.learned && x.confirmed.any fun c =>
    macSrc (x.frame c.src) = macSrc f && macSeq (x.frame c.src) = macSeq f && macCtr (x.frame c.src) = macCtr f
  let give (x : Group) : Group :=
    if same x ∧ x.die.isSome ∧ x.die ≠ g.die then { x with extra := x.extra ++ own } else x
  { s with rx := { s.rx with groups := s.rx.groups.map fun p => (p.1, give p.2) } }

/-- In Swift a later copy of a group may carry another frame than the one confirmed; it goes on as a group of its own.
[DEDUCED, log entry 52] -/
def State.splitGroup (s : State) (id : Nat) (g : Group) (r : ResultSrc) : State × Nat × Group :=
  let n := s.rx.nextGroup
  let new : Group := { g with copies := (g.bestCopy r).toList, todo := [], checking := none, passed := some r,
                              confirmed := none, learned := false, counted := true, extra := [], elk := [],
                              elkOpen := false, deliver := false, ring := none, bufs := [] }
  let s := (s.setGroup id { g with passed := none }).setGroup n new
  ({ s with rx := { s.rx with nextGroup := n + 1 } }, n, new)

/-- Step 4 of R17 for a result that has passed its check. -/
def State.filterResult (s : State) (id : Nat) (g : Group) (r : ResultSrc) : State :=
  let f := g.frame r
  let held := s.pairsOf (macSrc f)
  if (macSeq f, macCtr f) ∈ held then ((s.giveCopies g f).resultEnds id .duplicate).verifyOn id
  else
    let t := replayTest (Tbl.find? s.rx.replay (replayKey (macSrc f) (macClass f))) (macIndex f) (macCtr f)
    let s := if t.1 then s.fire 180 else s
    match t.2 with
    | none => (s.resultEnds id .replay).verifyOn id
    | some x =>
      let fresh := !held.any fun p => p.1 = macSeq f
      if g.confirmed.isSome then
        let n := s.splitGroup id g r
        (n.1.confirm n.2.1 n.2.2 r x fresh).verifyOn id
      else s.confirm id g r x fresh

/-- A frame of the same source has reached step 4 before a result, or in the same cycle with a lower counter (R178).
[DEDUCED, log entry 189] -/
def State.filterWaits (s : State) (id : Nat) (g : Group) (r : ResultSrc) : Bool :=
  let ctr (x : Group) (r : ResultSrc) : Nat := macCtr (x.frame r)
  s.rx.groups.any fun p => p.1 ≠ id && p.2.passed.any fun y =>
    macSrc (p.2.frame y) = macSrc (g.frame r) && (p.2.passedAt < g.passedAt || (p.2.passedAt = g.passedAt &&
      (ctr p.2 y < ctr g r || (ctr p.2 y = ctr g r && p.1 < id))))

/-- REPLAY_FILTER. [DEDUCED, log entry 189] -/
def execReplayFilter (g : Nat) (s : State) : Host.Outcome State Fault Refusal :=
  .next (match s.group? g with
    | some x => match x.passed with
      | some r => s.when (s.live && !s.filterWaits g x r) fun s => s.filterResult g x r
      | none => s
    | none => s)

/-! ### Node acks (R178, R180) -/

/-- The downlink a node ack answers. -/
def State.ackedDown (s : State) (net : Nat) (f : List Byte) : Option (Nat × Downlink) :=
  List.find? (fun p => p.2.dst = macSrc f && macDst f = 0 && macSeq f = p.2.seq && macCtr f ∈ p.2.ctrs
    && itemAckReq p.2.header && itemNet p.2.header = net && itemClass p.2.header = macClass f
    && itemIndex p.2.header = macIndex f && (p.2.sent || 0 < p.2.attempts)) s.tx.downs

/-- A verified node ack: accepted, it completes its downlink, counts as confirmed and teaches the node table; any other
ends with REPLAY as a stray. [DEDUCED, log entry 59] -/
def State.nodeAck (s : State) (id : Nat) (g : Group) (r : ResultSrc) : State :=
  let f := g.frame r
  match s.ackedDown g.net f with
  | none => ((s.bump Reg.MAC.STRAY_ACK).resultEnds id .replay).verifyOn id
  | some (q, d) =>
    let sync := ((g.bestCopy r).map (·.info.syncNs)).getD g.firstNs
    let s := (s.completeDown q d (if d.replayed then .switchoverReplayed else .done)).countConfirm g r true
    let g := { g with checking := none, passed := none, todo := if g.profile = 0 then g.todo else [], wantsCombined := false,
                      confirmed := some ⟨r, true, s.rx.nextOrder⟩, rxOffset := (s.offsetOf (macSrc f) sync).1,
                      rxClipped := (s.offsetOf (macSrc f) sync).2 }
    let s := ({ (s.setGroup id g) with rx := { (s.setGroup id g).rx with nextOrder := s.rx.nextOrder + 1 } }).countGroup id
    let s := (s.elkFollow id .done .done false).fulfil (macSrc f) sync
    ((s.learnFrame id).cacheEnd id (if macClass f = 0 then g.key else none)).verifyOn id

/-! ### The check engine's requests (R273, R274, R279 to R281) -/

/-- A request refused at admission. -/
def State.refuseReq (s : State) (id : Nat) (r : CheckReq) (st : Status) : State :=
  let s := s.endReq id r
  match r.why with
  | .receive g => ((s.bump Reg.KILN.BAD_KEY_USE).resultEnds g .authFail).verifyOn g
  | .ack g => match s.ackJob g with
    | some (n, j) => (s.countKeyError st).failJob n j st
    | none => s.countKeyError st
  | .downlink n => match s.job? n with
    | some j => (s.countKeyError st).failCopy n j st
    | none => s.countKeyError st
  | .hostGen c _ => (s.countKeyError st).complete c st 0
  | .hostVerify c => (s.countKeyError st).complete c st 0

/-- CHECK_ADMIT. -/
def State.checkAdmit (s : State) (id : Nat) (r : CheckReq) : State :=
  match s.reqError r, s.keyOf r.key with
  | some st, _ => s.refuseReq id r st
  | none, some key => s.admitKeys id r key
  | none, none => s.refuseReq id r .notFound

/-- CHECK_ADMIT: the first waiting request for which the queue has room. -/
def execCheckAdmit (id : Nat) (s : State) : Host.Outcome State Fault Refusal :=
  .next (match Tbl.find? s.kiln.reqs id with
    | some r => s.when (s.live && s.admissible id r) fun s =>
      s.checkAdmit id r
    | none => s)

/-- A frame's verification ends. -/
def State.receiveDone (s : State) (id : Nat) (ok : Bool) : State :=
  match s.group? id with
  | some g => match g.checking with
    | some (r, _) =>
      if !ok then (s.resultEnds id .authFail).verifyOn id
      else if macType (g.frame r) = 1 then s.nodeAck id g r
      else s.setGroup id { g with checking := none, passed := some r, passedAt := s.counterNs }
    | none => s
  | none => s

/-- The check value of an ack is ready at the head: its decision record leaves. -/
def State.ackReady (s : State) (g : Nat) (key : List Byte) : State :=
  match s.ackJob g with
  | some (n, j) => (s.setJob n { j with key := some key }).sendDown j.f n
  | none => s

/-- The check value of a downlink is ready: every copy of the frame that waits for it. -/
def State.downReady (s : State) (header key : List Byte) : State :=
  let mine (j : TxJob) : Bool := j.stage = .building && j.header = header && j.kind ≠ .wake &&
    (match j.kind with | .ack _ => false | _ => true)
  let ready (j : TxJob) : TxJob :=
    if mine j then { j with key := some key, stage := if j.kind = .piggyback then .cleared else .ready } else j
  { s with tx := { s.tx with jobs := s.tx.jobs.map fun p => (p.1, ready p.2) } }

/-- A finished request goes to whoever asked for it. -/
def State.checkDone (s : State) (id : Nat) (r : CheckReq) (key : List Byte) : State :=
  let s := (s.countCheck r).endReq id r
  match r.why with
  | .receive g => s.receiveDone g r.verdict
  | .ack g => s.ackReady g key
  | .downlink _ => s.downReady (r.msg.take 18) key
  | .hostGen c out => match s.firstBad true out r.result.length with
    | some a => (s.halt c.ring .badAddress a).complete c .badAddress 0
    | none => (s.dmaWrite out r.result).complete c .done 0
  | .hostVerify c => s.complete c (if r.verdict then .done else .authFail) 0

/-- CHECK_DONE. -/
def execCheckDone (id : Nat) (s : State) : Host.Outcome State Fault Refusal :=
  .next (match Tbl.find? s.kiln.reqs id with
    | some r => match r.admitted with
      | some key => s.when s.live fun s => s.checkDone id r key
      | none => s
    | none => s)

end Sys2Proof.Machine
end

