-- ==== Sys2Proof/Machine/Hooks.lean ====
section
/-! DEFINITION. Policy calls (R353 to R356): the mailbox, the choice of a core, the queue of calls, results and default
actions, the time limits, and the halting of policy cores. -/

namespace Sys2Proof.Machine

/-! ### Cores -/

/-- A Tun core. -/
def State.core (s : State) (k : Nat) : TunRun := Tbl.getD s.tun.cores k .init

/-- Replaces a Tun core. -/
def State.setCore (s : State) (k : Nat) (c : TunRun) : State := { s with tun := { s.tun with cores := Tbl.put s.tun.cores k c } }

/-- The policy cores. -/
def policyCores : List Nat := [4, 5, 6, 7]

/-- Policy core k takes calls (R354). -/
def State.coreEnabled (s : State) (k : Nat) : Bool := bitsAt (s.get Reg.TUN.POLICY_CFG.CORE_EN) (k - 4) 1 = 1

/-- The lowest policy core that waits and is enabled in a CORE_EN. -/
def State.freeCore (s : State) (takers : Nat) : Option Nat :=
  policyCores.find? fun k => bitsAt takers (k - 4) 1 = 1 && (s.core k).st = .wait

/-- Number of calls that wait for a core. -/
def State.callsWaiting (s : State) : Nat := (s.tun.calls.filter fun p => p.2.core.isNone).length

/-- The call that runs on a core. -/
def State.callOn (s : State) (k : Nat) : Option (Nat × HookCall) := List.find? (fun p => p.2.core = some k) s.tun.calls

/-- Replaces the calls. -/
def State.setCalls (s : State) (t : Tbl HookCall) : State := { s with tun := { s.tun with calls := t } }

/-! ### Mailbox (R353, R356) -/

/-- HOOK of a call. -/
def Hook.code : Hook → Nat
  | .join _ => 1
  | .route _ _ => 2
  | .classify _ => 3

/-- Arguments of a call about a frame. -/
def State.frameArgs (s : State) (g : Nat) : List Byte :=
  match s.group? g with
  | some x => match x.confirmed with
    | some c =>
      let body := x.body c.src
      (x.rxf g c.src body.length).take 44 ++ sliceB body 18 64 ++ leBytes 4 (body.length - 18)
    | none => []
  | none => []

/-- Arguments of a call about a queue. -/
def State.routeArgs (s : State) (q : Nat) : List Byte :=
  let w := (((s.queue q).addr.bind s.nodeSound).map (·.2)).getD 0
  leBytes 16 w ++ leBytes 4 q ++ sliceB (s.itemData (s.queue q).head) 0 32

/-- A mailbox as the part fills it. -/
def mailbox (hook call : Nat) (args : List Byte) : Memory :=
  Memory.writeBytes (Memory.writeBytes (Memory.writeBytes [] 0 (leBytes 1 hook)) 4 (leBytes 4 call)) 8 args

/-- The mailbox of a call. -/
def State.callBox (s : State) (h : Hook) (call : Nat) : Memory :=
  mailbox h.code call (match h with
    | .join g => s.frameArgs g
    | .classify g => s.frameArgs g
    | .route q _ => s.routeArgs q)

/-! ### Starting a call (R354) -/

/-- Registers of a core at the entry of a call. -/
def entryRegs (g : List Word) (hook call : Nat) : List Word :=
  ((((g.set 1 (BitVec.ofNat 32 hook)).set 2 0x20000000).set 3 (BitVec.ofNat 32 (call % 65536))).set 14 0x00040000).set 15 0

/-- A call starts on a core at its hook's entry address. -/
def State.startCall (s : State) (call k : Nat) (h : HookCall) : State :=
  let c := s.core k
  let s := s.setCalls (Tbl.put s.tun.calls call { h with core := some k })
  let s := { s with tun := { s.tun with boxes := Tbl.put s.tun.boxes k h.args } }
  s.setCore k { c with st := .running, pc := BitVec.ofNat 32 (s.tun.entries.getD (h.hook.code - 1) 0)
                       g := entryRegs c.g h.hook.code call }

/-- The oldest call that waits for a core takes one that is free. -/
def State.serveCall (s : State) : State :=
  match List.find? (fun p => p.2.core.isNone) s.tun.calls with
  | some (call, h) => match s.freeCore h.takers with
    | some k => s.startCall call k h
    | none => s
  | none => s

/-- Calls that wait start in order of arrival while cores are free: at most the four cores. -/
def State.serveCalls (s : State) : State := s.each policyCores fun s _ => s.serveCall

/-! ### Results (R355, R356) -/

/-- A queue joins its list after a call, unless it has been emptied, taken from or listed meanwhile.
[DEDUCED, log entry 126] -/
def State.routeEnd (s : State) (q : Nat) (urgent : Bool) (slot : Option Nat) : State :=
  let x := s.queue q
  if x.count = 0 || x.sent || s.listed q then s else s.joinNow q urgent slot

/-- The default action of a call (R356). [DEDUCED, log entry 126] -/
def State.defaultCall (s : State) (h : HookCall) : State :=
  match h.hook with
  | .join g => s.joinEnds g (!h.reject)
  | .route q urgent => s.routeEnd q urgent none
  | .classify g => s.releaseGroup g

/-- A result that the hook does not allow: counted in INVALID with source 294, the default taken. -/
def State.invalidCall (s : State) (h : HookCall) : State := ((s.bump Reg.TUN.INVALID).fireOnce 294).defaultCall h

/-- The aerial slot of a queue's node names a die that is up. -/
def State.slotUsable (s : State) (q v : Nat) : Bool :=
  let w := (((s.queue q).addr.bind s.nodeSound).map (·.2)).getD 0
  v < 3 && nodeAer w v ≠ 0xFFF && s.dieUp (nodeAer w v / 512)

/-- Applies a call's result. [DEDUCED, log entry 125] -/
def State.applyCall (s : State) (h : HookCall) (action value : Nat) : State :=
  if action = 0 then s.defaultCall h
  else match h.hook with
    | .join g => if action = 1 then s.joinEnds g true else if action = 2 then s.joinEnds g false else s.invalidCall h
    | .route q urgent =>
      if action = 1 ∧ s.slotUsable q value then s.routeEnd q urgent (some value) else s.invalidCall h
    | .classify g =>
      if action = 1 ∧ value < 4096 ∧ s.on (Reg.RING.CTL.EN value) ∧ s.get (Reg.RING.CTL.TYPE value) = 2 then
        (s.onGroup g fun x => { x with ring := some value }).releaseGroup g
      else if action = 2 then (s.rxDrop g).releaseGroup g
      else s.invalidCall h

/-- A call leaves its core, which takes a new state. [DEDUCED, log entry 125] -/
def State.leaveCall (s : State) (call k : Nat) (st : CoreState) : State :=
  (s.setCalls (Tbl.erase s.tun.calls call)).setCore k { s.core k with st := st }

/-- DONE on a policy core: the result is read from the mailbox, and the core serves the next call. -/
def State.finishCall (s : State) (call k : Nat) (h : HookCall) : State :=
  let box := Tbl.getD s.tun.boxes k []
  let action := leVal (box.readBytes 0xC0 2)
  let value := leVal (box.readBytes 0xC2 2)
  ((s.leaveCall call k .wait).applyCall h action value).serveCalls

/-- The call on a core is stopped and its hook takes the default action; the core takes a state.
[DEDUCED, log entry 137] -/
def State.abandonCall (s : State) (k : Nat) (st : CoreState) : State :=
  match s.callOn k with
  | some (call, h) => ((s.leaveCall call k st).defaultCall h).serveCalls
  | none => s.setCore k { s.core k with st := st }

/-- Latches a cause of policy core k in TUN.EXC. [DEDUCED, log entry 137] -/
def State.latchExc (s : State) (k cause pc bad : Nat) : State :=
  let j := k - 4
  let hook := ((s.callOn k).map fun p => p.2.hook.code).getD 0
  let s := ((s.put (Reg.TUN.EXC.CAUSE j) cause).put (Reg.TUN.EXC.HOOK j) hook).put (Reg.TUN.EXC.VALID j) 1
  let s := { s with stats := Tbl.put (Tbl.put s.stats (Reg.TUN.EXC_PC j).key pc) (Reg.TUN.EXC_BADADDR j).key bad }
  s.bumpSat (Reg.TUN.EXC_COUNT j)

/-! ### The calls (R356) -/

/-- A hook is enabled. -/
def State.hookOn (s : State) (h : Hook) : Bool := bitsAt (s.get Reg.TUN.POLICY_CFG.HOOK_EN) (h.code - 1) 1 = 1

/-- A call as it arrives: its mailbox, JOIN_DEFAULT and CORE_EN. -/
def State.newCall (s : State) (h : Hook) : HookCall :=
  ⟨h, none, s.callBox h s.tun.nextCall, s.on Reg.TUN.POLICY_CFG.JOIN_DEFAULT, s.get Reg.TUN.POLICY_CFG.CORE_EN⟩

/-- A call that falls due is made: on a free core, else it waits, and a full queue gives its default with NO_CORE. A
hook disabled meanwhile takes its default without a call. [DEDUCED, log entry 126] -/
def State.makeCall (s : State) (h : Hook) (calls : Fld) : State :=
  let x := s.newCall h
  let due := s.tun.due.filter (· ≠ h)
  let s := { s with tun := { s.tun with due := due } }
  if !s.hookOn h then s.defaultCall x
  else
    let call := s.tun.nextCall
    let s := { s with tun := { s.tun with nextCall := call + 1 } }.bump calls
    if (s.freeCore x.takers).isNone && decide (256 ≤ s.callsWaiting) then
      ((s.bump Reg.TUN.NO_CORE).fireOnce 293).defaultCall x
    else (s.setCalls (Tbl.put s.tun.calls call x)).serveCalls

/-- Makes a call that is due. -/
def State.callDue (s : State) (p : Hook → Bool) (calls : Fld) : State :=
  match s.tun.due.find? p with
  | some h => s.makeCall h calls
  | none => s

/-- JOIN_REQUEST. -/
def execJoinRequest (g : Nat) (s : State) : Host.Outcome State Fault Refusal :=
  .next (s.when s.live fun s => s.callDue (fun h => h = .join g) (Reg.TUN.CALLS 0))

/-- ROUTE_CHOICE. -/
def execRouteChoice (q : Nat) (s : State) : Host.Outcome State Fault Refusal :=
  .next (s.when s.live fun s =>
    s.callDue (fun h => match h with | .route q' _ => q' = q | _ => false) (Reg.TUN.CALLS 1))

/-- FRAME_CLASSIFY: after any JOIN_REQUEST call of the same frame. -/
def execFrameClassify (g : Nat) (s : State) : Host.Outcome State Fault Refusal :=
  .next (s.when s.live fun s => s.callDue (fun h => h = .classify g) (Reg.TUN.CALLS 2))

/-- HOOK_QUEUE_TIMEOUT: a call that has waited its time takes its default with NO_CORE. -/
def execHookQueueTimeout (call : Nat) (s : State) : Host.Outcome State Fault Refusal :=
  .next (match Tbl.find? s.tun.calls call with
    | some h => s.when (s.live && h.core.isNone) fun s =>
      (((s.setCalls (Tbl.erase s.tun.calls call)).bump Reg.TUN.NO_CORE).fireOnce 293).defaultCall h
    | none => s)

/-- The budget of the call on core k has run out: BUDGET is latched, and the core waits. [DEDUCED, log entry 125] -/
def State.budgetEnd (s : State) (k : Nat) : State :=
  let s := s.latchExc k 0x06 (s.core k).pc.toNat 0
  ((s.bump Reg.TUN.BUDGET).fireOnce 292).abandonCall k .wait

/-- HOOK_BUDGET_EXPIRY. -/
def execHookBudgetExpiry (k : Fin 4) (s : State) : Host.Outcome State Fault Refusal :=
  .next (s.when (s.live && (s.callOn (4 + k)).isSome && (s.core (4 + k)).st = .running) fun s => s.budgetEnd (4 + k))

/-! ### Halting policy cores (R310, R321, R355) -/

/-- A policy core is halted: the call it runs ends by default. -/
def State.haltPolicy (s : State) (k : Nat) : State :=
  if (s.core k).st = .reset then s else s.abandonCall k .halted

/-- Core k of a head has had its second uncorrectable error: it stays halted (R310, R311). [DEDUCED, log entry 91] -/
def State.coreFailed (s : State) (k : Nat) : Bool :=
  s.safe.uncorrectable.any fun p => p.1 % 4096 = 0x040 + k && decide (2 ≤ p.2)

/-- A halted policy core waits for calls again, outside Dusk. [DEDUCED, log entry 91] -/
def State.resumePolicy (s : State) (k : Nat) : State :=
  if (s.core k).st = .halted && !s.coreFailed k && !s.on Reg.PWR.DUSK.ACTIVE then (s.setCore k { s.core k with st := .wait }).serveCalls else s

end Sys2Proof.Machine
end

