-- ==== Sys2Proof/Machine/Links.lean ====
section
/-! DEFINITION. JESD204C links and stream contexts (R69 to R78, R371): configuration checks, the link state machine,
restarts, CRC and SYSREF errors, and context writes. -/

namespace Sys2Proof.Machine

/-! ### LINK.CFG (R70, R73) -/

/-- Lanes of a link are those of a first lane and a count of lanes. -/
def lanesMeet (a la b lb : Nat) : Bool := a < b + lb && b < a + la

/-- R_lane lies within 8 to 32 Gbit/s, in kbit/s: S × w × 2N′ × 66/64 / L with w = 6.4 MS/s × 2^W. -/
def laneRateOk (m np16 width lg : Nat) : Bool :=
  let x := m / 2 * (6400 * 2 ^ width) * (if np16 = 1 then 32 else 24) * 66
  8000000 * (64 * 2 ^ lg) ≤ x && x ≤ 32000000 * (64 * 2 ^ lg)

/-- S × w exceeds L × FCLK, in units of 6.4 MHz (R70, R71). -/
def samplesFit (m width lg level : Nat) : Bool := m / 2 * 2 ^ width ≤ 2 ^ lg * fclkUnits level

/-- Another enabled link of the same direction uses a lane of [first, first + n). -/
def State.lanesTaken (s : State) (f k first n : Nat) : Bool :=
  (List.range 48).any fun j => j ≠ k && (j < 40) = (k < 40) && s.on (Reg.LINK.CFG.EN f j)
    && lanesMeet first n (s.get (Reg.LINK.CFG.FIRST_LANE f j)) (2 ^ s.get (Reg.LINK.CFG.L_LOG2 f j))

/-- The values of LINK.CFG that its table names illegal: odd M or M outside 2 to 24, WIDTH 5 to 7 (R69, R72). -/
def linkCfgRange (v : Nat) : Bool := 2 ≤ bitsAt v 9 5 && bitsAt v 9 5 ≤ 24 && bitsAt v 9 1 = 0 && bitsAt v 15 3 ≤ 4

/-- The conditions of R70 on a write that sets EN. -/
def State.linkCfgOk (s : State) (f k v : Nat) : Bool :=
  let lg := bitsAt v 1 2
  let first := bitsAt v 3 6
  laneRateOk (bitsAt v 9 5) (bitsAt v 14 1) (bitsAt v 15 3) lg
  && first % 2 ^ lg = 0 && first + 2 ^ lg ≤ (if k < 40 then 40 else 8) && !s.lanesTaken f k first (2 ^ lg)
  && (40 ≤ k || samplesFit (bitsAt v 9 5) (bitsAt v 15 3) lg (s.capLevel f))

/-- The fields of LINK.CFG other than EN as they stand. [DEDUCED, log entry 30] -/
def State.linkFields (s : State) (f k : Nat) : Nat :=
  s.get (Reg.LINK.CFG.L_LOG2 f k) * 2 + s.get (Reg.LINK.CFG.FIRST_LANE f k) * 2 ^ 3 + s.get (Reg.LINK.CFG.M f k) * 2 ^ 9
    + s.get (Reg.LINK.CFG.NP16 f k) * 2 ^ 14 + s.get (Reg.LINK.CFG.WIDTH f k) * 2 ^ 15
    + s.get (Reg.LINK.CFG.E_M1 f k) * 2 ^ 18 + s.get (Reg.LINK.CFG.SYSREF_SEL f k) * 2 ^ 26

/-- Writes every field of LINK.CFG. -/
def State.putLinkCfg (s : State) (f k v : Nat) : State :=
  let s := s.put (Reg.LINK.CFG.EN f k) (bitsAt v 0 1)
  let s := s.put (Reg.LINK.CFG.L_LOG2 f k) (bitsAt v 1 2)
  let s := s.put (Reg.LINK.CFG.FIRST_LANE f k) (bitsAt v 3 6)
  let s := s.put (Reg.LINK.CFG.M f k) (bitsAt v 9 5)
  let s := s.put (Reg.LINK.CFG.NP16 f k) (bitsAt v 14 1)
  let s := s.put (Reg.LINK.CFG.WIDTH f k) (bitsAt v 15 3)
  let s := s.put (Reg.LINK.CFG.E_M1 f k) (bitsAt v 18 8)
  s.put (Reg.LINK.CFG.SYSREF_SEL f k) (bitsAt v 26 3)

/-- A link out of lock: the streams' samples are zero and the search stops on them (R74). [DEDUCED, log entry 30] -/
def State.unlock (s : State) (f k : Nat) : State :=
  let s := { s with air := { s.air with reached := s.air.reached.filter (· ≠ 48 * f + k),
                                        searching := s.air.searching.filter (· ≠ 48 * f + k) } }
  s.put (Reg.LINK.RX_LAT.VALID f k) 0

/-- What the lane latency depends on (R77): S × w, L and N′, which give the lane rate, L, E, N′ and WIDTH.
[DEDUCED, log entry 29] -/
def State.latencyKey (s : State) (f k : Nat) : Nat :=
  s.get (Reg.LINK.CFG.L_LOG2 f k) + s.get (Reg.LINK.CFG.M f k) * 2 ^ 2 + s.get (Reg.LINK.CFG.NP16 f k) * 2 ^ 7
    + s.get (Reg.LINK.CFG.WIDTH f k) * 2 ^ 8 + s.get (Reg.LINK.CFG.E_M1 f k) * 2 ^ 11

/-- The lane latency of the configuration in force, ps: within 150 to 900 ns, the value open (R77).
[DEDUCED, log entry 29] -/
def State.laneLatency (s : State) (value : Nat → Nat) (f k : Nat) : Nat := 
  150000 + value (s.latencyKey f k) % 750001

/-- A link leaves its state for DISABLED: EN cleared (R73, R371). -/
def State.disableLink (s : State) (f k : Nat) : State :=
  let s := s.put (Reg.LINK.STATUS.STATE f k) 0
  if k < 40 then (s.unlock f k).eachCtx f k fun s i => s.loseStream f i
  else s.each (List.range 12) fun s j => s.put (Reg.TX.TX_LAT.VALID f (12 * (k - 40) + j)) 0

/-- A link begins its search; a transmit link passes to ALIGN at once (R73, R78). -/
def State.enableLink (s : State) (f k : Nat) : State :=
  let s := s.put (Reg.LINK.STATUS.RESTARTS f k) 0
  let s := s.put (Reg.LINK.STATUS.CRC_ERR f k) 0
  let s := { s with air := { s.air with crcSince := Tbl.erase s.air.crcSince (48 * f + k) } }
  if k < 40 then ((s.unlock f k).put (Reg.LINK.STATUS.STATE f k) 1).startGain f k
  else s.put (Reg.LINK.STATUS.STATE f k) 3

/-- A write of LINK.CFG (R70, R73). -/
def State.linkCfg (s : State) (f k v : Nat) : State :=
  let was := s.on (Reg.LINK.CFG.EN f k)
  let off := dieOffset f (0x40000 + k * 0x20)
  if !linkCfgRange v then s.illegal off
  else if bitsAt v 0 1 = 1 then
    if was then (if bitsAt v 0 29 - 1 = s.linkFields f k then s else s.illegal off)
    else if s.linkCfgOk f k v then ((s.putLinkCfg f k v).enableLink f k).recount f
    else s.illegal off
  else
    let s := if was then s.disableLink f k else s
    (s.putLinkCfg f k v).recount f

/-- LINK_CFG_WRITE. -/
def execLinkCfgWrite (f : Fin 6) (k : Fin 48) (v : BitVec 32) (s : State) : Host.Outcome State Fault Refusal :=
  .next (s.hostWriteReg (dieOffset f (0x40000 + k * 0x20)) v.toNat fun s => s.linkCfg f k v.toNat)

/-- LINK_DISABLE. A LINK.CFG write whose EN is 0, the other fields as given. -/
def execLinkDisable (f : Fin 6) (k : Fin 48) (v : BitVec 32) (s : State) : Host.Outcome State Fault Refusal :=
  .next (s.hostWriteReg (dieOffset f (0x40000 + k * 0x20)) (v.toNat / 2 * 2) fun s => s.linkCfg f k (v.toNat / 2 * 2))

/-! ### The state machine (R73 to R78) -/

/-- LINK_SYNC_LOCK: 64 consecutive valid sync headers on every lane. -/
def execLinkSyncLock (f : Fin 6) (k : Fin 48) (s : State) : Host.Outcome State Fault Refusal :=
  .next (s.when (s.dieUp f && k.val < 40 && s.get (Reg.LINK.STATUS.STATE f k) = 1) fun s =>
    ({ s with air := { s.air with reached := (48 * f.val + k) :: s.air.reached.filter (· ≠ 48 * f.val + k) } }).put
      (Reg.LINK.STATUS.STATE f k) 2)

/-- LINK_EMB_LOCK: 4 consecutive end-of-extended-multiblock markers on every lane. -/
def execLinkEmbLock (f : Fin 6) (k : Fin 48) (s : State) : Host.Outcome State Fault Refusal :=
  .next (s.when (s.dieUp f && k.val < 40 && s.get (Reg.LINK.STATUS.STATE f k) = 2) fun s =>
    s.put (Reg.LINK.STATUS.STATE f k) 3)

/-- The SYSREF output that serves link k runs (R44, R73). -/
def State.sysrefRuns (s : State) (f k : Nat) : Bool := (8 * f + s.get (Reg.LINK.CFG.SYSREF_SEL f k)) ∈ s.clk.srRun

/-- LINK_ALIGN: the first SYSREF edge after EMB_LOCK, and the LEMC boundary after it (R73, R77). -/
def execLinkAlign (f : Fin 6) (k : Fin 48) (s : State) : Host.Outcome State Fault Refusal :=
  .next (s.when (s.dieUp f && k.val < 40 && s.get (Reg.LINK.STATUS.STATE f k) = 3 && s.sysrefRuns f k) fun s =>
    let s := s.put (Reg.LINK.STATUS.STATE f k) 4
    let s := s.put (Reg.LINK.RX_LAT.PS f k) (s.laneLatency Config.rxLatency f k)
    (s.put (Reg.LINK.RX_LAT.VALID f k) 1).eachCtx f k fun s i => s.spoil f i .whole)

/-- The restart actions of R74, steps 1 to 4, with the floors of the link's streams (R139). [DEDUCED, log entry 30] -/
def State.restartLink (s : State) (f k : Nat) : State :=
  let hot := (48 * f + k) ∈ s.air.reached
  let s := s.incSat (Reg.LINK.STATUS.RESTARTS f k)
  let s := if hot then s.put (Reg.LINK.STATUS.HOTPLUG f k) 1 else s
  let s := s.fire (dieSource f 0)
  let s := s.eachCtx f k fun s i => (s.loseStream f i).resetFloors f i
  (s.unlock f k).put (Reg.LINK.STATUS.STATE f k) 1

/-- LINK_RESTART. -/
def execLinkRestart (f : Fin 6) (k : Fin 48) (s : State) : Host.Outcome State Fault Refusal :=
  .next (s.when (s.dieUp f && k.val < 40 && 2 ≤ s.get (Reg.LINK.STATUS.STATE f k)) fun s => s.restartLink f k)

/-- SEARCH_RESUME: two multiblocks after DATA (R74). -/
def execSearchResume (f : Fin 6) (k : Fin 48) (s : State) : Host.Outcome State Fault Refusal :=
  .next (s.when (s.dieUp f && k.val < 40 && s.get (Reg.LINK.STATUS.STATE f k) = 4
      && (48 * f.val + k) ∉ s.air.searching) fun s =>
    { s with air := { s.air with searching := (48 * f.val + k) :: s.air.searching } })

/-- CRC_MISMATCH: a lane's samples of a multiblock are erased, and CRC_ERR counts it (R75); source 322 + 32f when the
count since the last read of LINK.STATUS passes 1,024 (R100). The erased samples reach a symbol as erased chips. -/
def execCrcMismatch (f : Fin 6) (k : Fin 48) (lane : Fin 8) (s : State) : Host.Outcome State Fault Refusal :=
  .next (s.when (s.dieUp f && k.val < 40 && s.get (Reg.LINK.STATUS.STATE f k) = 4
      && lane.val < 2 ^ s.get (Reg.LINK.CFG.L_LOG2 f k)) fun s =>
    let n := Tbl.getD s.air.crcSince (48 * f.val + k) 0 + 1
    let s := s.incSat (Reg.LINK.STATUS.CRC_ERR f k)
    let s := { s with air := { s.air with crcSince := Tbl.put s.air.crcSince (48 * f.val + k) n } }
    if n = 1025 then s.fire (dieSource f 2) else s)

/-- SYSREF_ERROR: an edge more than one FCLK cycle from a LEMC boundary; the alignment stays (R76). -/
def execSysrefError (f : Fin 6) (k : Fin 48) (s : State) : Host.Outcome State Fault Refusal :=
  .next (s.when (s.dieUp f && s.get (Reg.LINK.STATUS.STATE f k) = 4 && s.sysrefRuns f k) fun s =>
    s.raise (Reg.LINK.STATUS.SYSREF_ERR f k) f 1)

/-- TX_LINK_ALIGN: the first SYSREF edge after EN takes a transmit link to DATA (R78), where the transmit lane latency
of its outputs is valid (R77, R162). -/
def execTxLinkAlign (f : Fin 6) (k : Fin 48) (s : State) : Host.Outcome State Fault Refusal :=
  .next (s.when (s.dieUp f && 40 ≤ k.val && s.get (Reg.LINK.STATUS.STATE f k) = 3 && s.sysrefRuns f k) fun s =>
    (s.put (Reg.LINK.STATUS.STATE f k) 4).each (List.range (s.linkStreams f k)) fun s j =>
      (s.put (Reg.TX.TX_LAT.PS f (12 * (k - 40) + j)) (s.laneLatency Config.txLatency f k)).put
        (Reg.TX.TX_LAT.VALID f (12 * (k - 40) + j)) 1)

/-! ### Stream contexts (R72, R371) -/

/-- The source of a context as its register words it: SRC_RF, SRC, SLOT (ignored for a chain) and PART. -/
def srcWord (v : Nat) : Nat := if bitsAt v 1 1 = 1 then bitsAt v 1 7 else bitsAt v 1 13

/-- The STREAM register of context i as it stands. -/
def State.streamWord (s : State) (f i : Nat) : Nat :=
  s.get (Reg.LINK.STREAM.EN f i) + s.get (Reg.LINK.STREAM.SRC_RF f i) * 2 + s.get (Reg.LINK.STREAM.SRC f i) * 2 ^ 2
    + s.get (Reg.LINK.STREAM.SLOT f i) * 2 ^ 8 + s.get (Reg.LINK.STREAM.PART f i) * 2 ^ 12
    + s.get (Reg.LINK.STREAM.BLANK_GRP f i) * 2 ^ 14

/-- Two sources clash: the same one, or a whole slot and a half of it (R72). -/
def srcClash (a b : Nat) : Bool :=
  if bitsAt a 1 1 = 1 ∨ bitsAt b 1 1 = 1 then srcWord a = srcWord b
  else bitsAt a 2 10 = bitsAt b 2 10 && (bitsAt a 12 2 = bitsAt b 12 2 || bitsAt a 12 2 = 0 || bitsAt b 12 2 = 0)

/-- A STREAM value within its table: PART 3, BLANK_GRP 9 to 15 and a SRC past 39, or past 3 for a chain, are illegal. -/
def streamRange (v : Nat) : Bool :=
  bitsAt v 12 2 ≠ 3 && bitsAt v 14 4 ≤ 8 && bitsAt v 2 6 ≤ (if bitsAt v 1 1 = 1 then 3 else 39)

/-- The conditions of R72 on a write that enables context i. -/
def State.streamOk (s : State) (f i v : Nat) : Bool :=
  let k := bitsAt v 2 6
  (bitsAt v 1 1 = 1 ||
    (s.on (Reg.LINK.CFG.EN f k) && bitsAt v 8 4 < s.linkStreams f k
      && (bitsAt v 12 2 = 0 || s.get (Reg.LINK.CFG.WIDTH f k) ≠ 0)))
  && !((List.range 512).any fun j => j ≠ i && s.on (Reg.LINK.STREAM.EN f j) && srcClash v (s.streamWord f j))

/-- Writes every field of STREAM. -/
def State.putStream (s : State) (f i v : Nat) : State :=
  let s := s.put (Reg.LINK.STREAM.EN f i) (bitsAt v 0 1)
  let s := s.put (Reg.LINK.STREAM.SRC_RF f i) (bitsAt v 1 1)
  let s := s.put (Reg.LINK.STREAM.SRC f i) (bitsAt v 2 6)
  let s := s.put (Reg.LINK.STREAM.SLOT f i) (bitsAt v 8 4)
  let s := s.put (Reg.LINK.STREAM.PART f i) (bitsAt v 12 2)
  s.put (Reg.LINK.STREAM.BLANK_GRP f i) (bitsAt v 14 4)

/-- A STREAM write (R72, R139, R371): clearing EN or changing the source of an enabled context ends its detections and
returns its floors; enabling it starts its floors afresh. -/
def State.streamCfg (s : State) (f i v : Nat) : State :=
  let was := s.on (Reg.LINK.STREAM.EN f i)
  let en := bitsAt v 0 1 = 1
  if !streamRange v || (en && !s.streamOk f i v) then s.illegal (dieOffset f (0x41000 + i * 4))
  else
    let moved := was && (!en || srcWord v ≠ srcWord (s.streamWord f i))
    let s := if moved then ((s.loseStream f i).resetFloors f i).forgetPowers f i else s
    let s := s.putStream f i v
    let s := if en && !was then ((s.resetFloors f i).forgetPowers f i).put (Reg.SPARGE.STREAM.SAT_WIN f i) 0 else s
    let s := if en && (moved || !was) then s.spoil f i .whole else s
    let s := if en && s.ctxBlanked f i then s.blankStream f (bitsAt v 14 4) i else s
    s.recount f

/-- STREAM_CFG_WRITE. -/
def execStreamCfgWrite (f : Fin 6) (i : Fin 512) (v : BitVec 32) (s : State) : Host.Outcome State Fault Refusal :=
  .next (s.hostWriteReg (dieOffset f (0x41000 + i * 4)) v.toNat fun s => s.streamCfg f i v.toNat)

/-- STREAM_DISABLE. A STREAM write whose EN is 0, the other fields as given. -/
def execStreamDisable (f : Fin 6) (i : Fin 512) (v : BitVec 32) (s : State) : Host.Outcome State Fault Refusal :=
  .next (s.hostWriteReg (dieOffset f (0x41000 + i * 4)) (v.toNat / 2 * 2) fun s => s.streamCfg f i (v.toNat / 2 * 2))

end Sys2Proof.Machine
end

