-- ==== Sys2Proof/Machine/Power.lean ====
section
/-! DEFINITION. Power, temperature and start-up (R33 to R37, R316 to R328): the start-up order, Night and wakes, thermal
trips and drops, level changes with their PMIC writes, Dusk and the PM I2C master. -/

namespace Sys2Proof.Machine

/-- Replaces the power unit's state. -/
def State.setPower (s : State) (p : Power) : State := { s with power := p }

/-- Replaces the watch domain's state. -/
def State.setWatch (s : State) (w : Watch) : State := { s with watch := w }

/-- The part passes to a phase. -/
def State.enter (s : State) (p : Phase) : State := s.setPower { s.power with phase := p }

/-- VSTBY is present. -/
def State.powered (s : State) : Bool := s.power.phase ≠ .noVstby

/-! ### The start-up order (R326, R327) -/

/-- PWR_EN[n] driven. -/
def State.drivePwrEn (s : State) (n : Nat) (on : Bool) : State :=
  let m := BitVec.ofNat 4 (2 ^ n)
  s.setPower { s.power with pwrEn := if on then s.power.pwrEn ||| m else s.power.pwrEn &&& ~~~m }

/-- Start-up step 1 for rail group n. -/
def State.railStep (s : State) (n : Nat) : State := (s.enter (.railUp n)).drivePwrEn n true

/-- COLD_START: the watch domain starts afresh, and WS_ADDR is sampled. [DESIGN CHOICE, log entry 7] -/
def execColdStart (ws1 ws0 : Bool) (s : State) : Host.Outcome State Fault Refusal :=
  .next (s.when (s.power.phase = .noVstby) fun s =>
    let ws : BitVec 2 := BitVec.ofBool ws1 ++ BitVec.ofBool ws0
    ((s.setWatch { Watch.init with wsAddr := ws }).setPower { s.power with pwrEn := 0 }).railStep 0)

/-- The step after PGOOD[n]; step 2 samples REF_SEL, at a cold start and at every wake (R40). -/
def State.afterRail (s : State) (n : Nat) (refSel : Bool) : State :=
  if n < 3 then s.railStep (n + 1) else (s.setWatch { s.watch with refSel := refSel }).enter .osc

/-- PGOOD_RISE; REF_SEL as it stands, which step 2 samples. -/
def execPgoodRise (n : Fin 4) (s : State) (refSel : Bool := false) : Host.Outcome State Fault Refusal :=
  .next (s.when (s.power.phase = .railUp n) fun s => s.afterRail n refSel)

/-- The highest PWR_EN output that is on. -/
def highestOn (p : BitVec 4) : Nat := if p.getLsbD 3 then 3 else if p.getLsbD 2 then 2 else if p.getLsbD 1 then 1 else 0

/-- A start-up fault: its code stands in ENTRY, the consecutive faults are counted, and the power-down begins.
[DEDUCED, log entry 117] -/
def State.startFault (s : State) (code : Nat) : State :=
  let w := s.watch
  let n := min 3 (w.faults + 1)
  let s := s.setWatch { w with entry := code, faults := n, seenHigh := w.seenHigh && n < 3, latched := none,
                               capWakeN := w.wakeNEn, capWs := w.wsEn }
  s.enter (.powerDown (highestOn s.power.pwrEn))

/-- PGOOD[n] has been passed and the supplies are wanted. [DEDUCED, log entry 117] -/
def railPassed (p : Phase) (n : Nat) : Bool :=
  match p with
  | .railUp m => n < m
  | .osc => true
  | .mem => true
  | .pll => true
  | .boot => true
  | .running => true
  | .quiescing => true
  | .resetHeld => true
  | _ => false

/-- PGOOD_FALL. [DEDUCED, log entry 117] -/
def execPgoodFall (n : Fin 4) (s : State) : Host.Outcome State Fault Refusal :=
  .next (s.when (railPassed s.power.phase n) fun s => s.startFault (0x18 + n))

/-- The fault code of the start-up step under way. -/
def stepFault (p : Phase) : Option Nat :=
  match p with
  | .railUp n => some (0x10 + n)
  | .osc => some 0x14
  | .mem => some 0x15
  | .pll => some 0x16
  | .boot => some 0x17
  | _ => none

/-- START_UP_TIMEOUT. -/
def execStartUpTimeout (s : State) : Host.Outcome State Fault Refusal :=
  .next (match stepFault s.power.phase with
    | some c => s.startFault c
    | none => s)

/-- OSC_RDY: step 3 follows, or waits while RESET_N is low. [DEDUCED, log entry 118] -/
def execOscRdy (s : State) : Host.Outcome State Fault Refusal :=
  .next (s.when (s.power.phase = .osc) fun s => s.enter (if s.power.resetN then .resetHeld else .mem))

/-- MEM_RDY. -/
def execMemRdy (s : State) : Host.Outcome State Fault Refusal :=
  .next (s.when (s.power.phase = .mem) fun s => s.enter .pll)

/-! ### Tamper sources (R295, R296) -/

/-- The range of VDD_H at the level in force, in µV (R24). -/
def State.vddhRange (s : State) : Nat × Nat :=
  match s.get Reg.PWR.LEVEL_STATUS.NOW with
  | 0 => (776000, 824000)
  | 1 => (698000, 742000)
  | _ => (631000, 670000)

/-- A source fires on what it measures, a pin only while its PIN_EN bit is set (R295). [DEDUCED, log entry 110] -/
def State.fires (s : State) (src : TamperSource) : Bool :=
  match src with
  | .pin k ns => s.kiln.pinEn.getLsbD k && decide (1000 ≤ ns)
  | .vddH uv ns => decide (1000 ≤ ns ∧ (100 * uv < 92 * s.vddhRange.1 ∨ 108 * s.vddhRange.2 < 100 * uv))
  | .vstby uv ns => decide (1000 ≤ ns ∧ uv < 1500000)
  | .clock hz ns => if hz = 0 then decide (1000 ≤ ns) else decide (100 * hz < 95 * 40960000 ∨ 105 * 40960000 < 100 * hz)
  | .temperature h tenths => decide (h.val < s.part.variant.headDies ∧ (tenths < -500 ∨ 1300 < tenths))

/-- The latch bit of a source in KILN.TAMPER. -/
def tamperBit : TamperSource → Nat
  | .pin k _ => k
  | .vddH _ _ => 4
  | .vstby _ _ => 4
  | .clock _ _ => 5
  | .temperature _ _ => 6

/-- Latches a source, with the NIGHT bit in Night. [DEDUCED, log entry 109] -/
def State.latchTamper (s : State) (src : TamperSource) (night : Bool) : State :=
  let b := 2 ^ tamperBit src + 128 * bit night
  s.setWatch { s.watch with tamper := s.watch.tamper ||| BitVec.ofNat 8 b, tamperNight := s.watch.tamperNight || night }

/-- Boot halts on a tamper: Kiln is held (R296). -/
def State.tamperHold (s : State) (l : List TamperSource) : State :=
  (s.each l fun s src => s.latchTamper src false).put Reg.KILN.STATUS.STATE 3

/-- LOGIC_RDY: the tamper sources are tested first, and one that is active stops the start (R327).
[DEDUCED, log entries 115, 116] -/
def State.logicReady (s : State) (tamper : List TamperSource) : State :=
  let s := s.start
  match tamper.filter s.fires with
  | [] => (s.put Reg.RNG.STATUS.TESTING 1).bootSelect
  | l => (s.put Reg.RNG.STATUS.TESTING 1).tamperHold l

/-- LOGIC_RDY, with what the tamper sources measure then. -/
def execLogicRdy (s : State) (tamper : List TamperSource := []) : Host.Outcome State Fault Refusal :=
  .next (s.when (s.power.phase = .pll) fun s => s.logicReady tamper)

/-! ### PM I2C master (R328) -/

/-- The master drives the bus: enabled, and not stopped by a bus that stayed stuck. -/
def State.pmReady (s : State) : Bool := s.on Reg.PWR.PM_I2C.EN && !s.on Reg.PWR.PM_I2C.BUS_STUCK

/-- The bus check and its recovery: `pulses` before PM_SDA was high, 10 for never. [DEDUCED, log entry 119] -/
def State.pmRecover (s : State) (pulses : Nat) : State :=
  if pulses = 10 then (((s.emitNow (.pmRecovery 9 false)).put Reg.PWR.PM_I2C.BUS_STUCK 1)).fire 9
  else (s.emitNow (.pmRecovery pulses true)).put Reg.PWR.PM_I2C.BUS_STUCK 0

/-- EN goes from 0 to 1: the bus is checked, and the master is ready or stuck. -/
def State.pmEnable (s : State) (pulses : Nat) : State := (s.put Reg.PWR.PM_I2C.EN 1).pmRecover pulses

/-- Die d of PKG.THERM.HOT_DIE is present: 0 and 1 the heads, 2 + f the field dies. -/
def State.dieThere (s : State) (d : Nat) : Bool := if d < 2 then d < s.part.variant.headDies else s.present (d - 2)

/-- The code of a rail at a level. -/
def State.railCode (s : State) (d l : Nat) : Nat :=
  if l = 0 then s.get (Reg.PWR.RAIL.CODE_NOON d) else if l = 1 then s.get (Reg.PWR.RAIL.CODE_AFT d) else s.get (Reg.PWR.RAIL.CODE_EVE d)

/-- The write of a rail's code for a level, where the master drives the bus. -/
def State.writeRail (s : State) (d l : Nat) : State :=
  if s.pmReady then s.emitNow (.pmic (s.get (Reg.PWR.RAIL.ADDR d)) (s.get (Reg.PWR.RAIL.REG d)) (s.railCode d l)) else s

/-- Step 5 of R327: the PM I2C master is enabled and every enabled rail's Noon code written. -/
def State.bootRails (s : State) (pulses : Nat) : State :=
  (s.pmEnable pulses).each (((List.range 8).filter s.dieThere).filter fun d => s.on (Reg.PWR.RAIL.EN d)) fun s d => s.writeRail d 0

/-- WATCH.WAKE_CAUSE as it reads. [DESIGN CHOICE, log entry 7] -/
def Watch.cause (w : Watch) : Nat :=
  w.entry + 256 * w.wake + 1024 * bit w.fromNight + 2048 * bit w.tamperNight + 4096 * w.faults

/-- A wake is reported, with a tamper latched in Night. [DEDUCED, log entry 116] -/
def State.reportWake (s : State) : State :=
  if s.boot.woke then
    let s := (s.setBoot { s.boot with woke := false }).fireD 0 s.watch.cause
    if s.watch.tamperNight then s.fire 226 else s
  else s

/-- A slot in trial starts its health window (R337, R339). [DESIGN CHOICE, log entry 113] -/
def State.startTrial (s : State) : State :=
  if s.get Reg.BOOT.STATUS.STATE = 1 then
    let c := s.boot.component (s.get Reg.BOOT.STATUS.SLOT) 5
    let w := Config.healthSeconds (s.boot.slotBytes (s.get Reg.BOOT.STATUS.SLOT) c.1 c.2.1) % 601
    let secs := if w = 0 then 30 else w
    ((s.setBoot { s.boot with watch := some (secs * 40960000) }).put Reg.BOOT.HEALTH.LEFT_MS (secs * 1000)).fire 267
  else s

/-- The rest of the boot ROM's steps: components loaded, the PM I2C master enabled, the wake reported, a fall-back and a
trial announced. [DEDUCED, log entries 115, 116] -/
def State.bootDone (s : State) (pulses : Nat) : State :=
  let s := (s.enter .running).setWatch { s.watch with faults := 0 }
  if s.get Reg.KILN.STATUS.STATE = 3 then s
  else
    let s := (s.loadCores.bootRails pulses).reportWake
    let s := if s.on Reg.BOOT.STATUS.FELL_BACK then s.fireD 269 (s.get Reg.BOOT.STATUS.REASON) else s
    s.startTrial

/-- The boot ROM can raise BOOT_RDY: a slot is good, Kiln has finished its start and the DRBG is seeded; held after a
tamper, it brings up the functions alone (R296). [DEDUCED, log entry 115] -/
def State.bootable (s : State) : Bool :=
  let k := s.get Reg.KILN.STATUS.STATE
  s.power.phase = .boot && (k = 3 || (2 ≤ k && !s.boot.halted && (s.on Reg.RNG.STATUS.SEEDED || s.on Reg.RNG.STATUS.FAULT || k = 5)))

/-- BOOT_RDY; the recovery pulses that the check of the PM I2C bus takes, 10 when it stays stuck. -/
def execBootRdy (s : State) (pulses : Nat := 0) : Host.Outcome State Fault Refusal :=
  formed (.bootRdy pulses) (s.when s.bootable fun s => s.bootDone pulses)

/-! ### RESET_N (R37, R326) -/

/-- A phase that RESET_N low turns into a held reset at once. [DEDUCED, log entry 118] -/
def holdable (p : Phase) : Bool :=
  match p with
  | .mem => true
  | .pll => true
  | .boot => true
  | .running => true
  | .quiescing => true
  | _ => false

/-- RESET_N_ASSERT; in step 2 it stops the order before step 3. [DEDUCED, log entry 118] -/
def execResetNAssert (s : State) : Host.Outcome State Fault Refusal :=
  let s := s.setPower { s.power with resetN := true }
  .next (s.when (holdable s.power.phase) fun s => (s.setBoot { s.boot with woke := false }).wipe .resetHeld)

/-- RESET_N_RELEASE: steps 3 to 5 follow. [DEDUCED, log entry 118] -/
def execResetNRelease (s : State) : Host.Outcome State Fault Refusal :=
  let s := s.setPower { s.power with resetN := false }
  .next (s.when (s.power.phase = .resetHeld) fun s => s.enter .mem)

/-! ### Night (R322 to R325) -/

/-- NIGHT_CTL_WRITE: KEY 0x4E with some wake enabled; GO begins quiescing. [DEDUCED, log entry 89] -/
def State.nightCtl (s : State) (v : Nat) : State :=
  if bitsAt v 0 8 ≠ 0x4E ∨ (!s.watch.wakeNEn ∧ !s.watch.wsEn) then s.illegal 0x50108
  else if bitsAt v 8 1 = 1 then s.enter .quiescing
  else s

/-- NIGHT_CTL_WRITE. -/
def execNightCtlWrite (v : BitVec 32) (s : State) : Host.Outcome State Fault Refusal :=
  .next (s.when s.up fun s => s.hostWriteReg 0x50108 v.toNat fun s => s.nightCtl v.toNat)

/-- The commit of Night: NIGHT_CNT, ENTRY, and the wake enables as captured. -/
def State.commitNight (s : State) (entry : Nat) : State :=
  let w := s.watch
  (s.setWatch { w with nightCnt := min (w.nightCnt + 1) (2 ^ 32 - 1), entry := entry, capWakeN := w.wakeNEn, capWs := w.wsEn,
                       latched := none }).enter .committed

/-- NIGHT_COMMIT. -/
def execNightCommit (s : State) : Host.Outcome State Fault Refusal :=
  .next (s.when (s.power.phase = .quiescing) fun s => s.commitNight 0x01)

/-- WAKE_N may wake the part (R324, R325). -/
def Watch.wakeNOk (w : Watch) : Bool := w.capWakeN && (w.faults < 3 || w.seenHigh)

/-- A wake begins the start-up order (R326): FAULT_N is released. -/
def State.wake (s : State) (why : Nat) : State :=
  let s := s.setWatch { s.watch with wake := why, fromNight := true, latched := none, tripLow := false }
  (s.setBoot { s.boot with woke := true }).railStep 0

/-- A wake source fires: at once in Night, latched while the rails still drop. -/
def State.wakeSource (s : State) (why : Nat) : State :=
  match s.power.phase with
  | .night => s.wake why
  | .powerDown _ => s.setWatch { s.watch with latched := s.watch.latched <|> some why }
  | _ => s

/-- WAKE_ARM: the detectors are armed and the power-down begins. -/
def execWakeArm (wakeNLow : Bool) (s : State) : Host.Outcome State Fault Refusal :=
  .next (s.when (s.power.phase = .committed) fun s =>
    let s := s.enter (.powerDown (highestOn s.power.pwrEn))
    if wakeNLow && s.watch.wakeNOk then s.wakeSource 2 else s)

/-- A PWR_EN output drops; after the last one the part is in Night, or a latched wake starts it. -/
def State.dropRail (s : State) (n : Nat) : State :=
  let s := s.drivePwrEn n false
  match n with
  | m + 1 => s.enter (.powerDown m)
  | 0 =>
    let s := s.wipe .night
    match s.watch.latched with
    | some w => s.wake w
    | none => s

/-- PWR_EN_DROP. -/
def execPwrEnDrop (s : State) : Host.Outcome State Fault Refusal :=
  .next (match s.power.phase with
    | .powerDown n => s.dropRail n
    | _ => s)

/-- The watch slave answers addresses: its detectors are armed. -/
def State.armed (s : State) : Bool :=
  match s.power.phase with
  | .night => true
  | .powerDown _ => true
  | _ => false

/-- ADDRESS_MATCH: acknowledged where it matches, with either R/W value, and is the first byte after a START; later bytes are
NACKed. -/
def execAddressMatch (byte : BitVec 8) (s : State) (first : Bool := true) : Host.Outcome State Fault Refusal :=
  .next (s.when s.powered fun s =>
    let hit := first && s.armed && s.watch.capWs && byte.toNat / 2 = 0b10110 * 4 + s.watch.wsAddr.toNat
    let s := s.emitNow (.watchReply hit)
    if hit then s.wakeSource 1 else s)

/-- WAKE_N. -/
def execWakeN (s : State) : Host.Outcome State Fault Refusal :=
  .next (s.when (s.armed && s.watch.wakeNOk) fun s => s.wakeSource 2)

/-- WAKE_N_HIGH. -/
def execWakeNHigh (s : State) : Host.Outcome State Fault Refusal :=
  .next (s.when s.powered fun s => s.setWatch { s.watch with seenHigh := true })

/-- VSTBY_LOSS. -/
def execVstbyLoss (s : State) : Host.Outcome State Fault Refusal :=
  .next (s.when s.powered fun s =>
    let s := (s.wipe .noVstby).setWatch .init
    (s.setBoot { s.boot with woke := false }).setPower { s.power with pwrEn := 0 })

/-! ### Temperature (R33 to R35, R320) -/

/-- A set of dies with one more. -/
def addDie (l : List Nat) (d : Nat) : List Nat := if d ∈ l then l else l ++ [d]

/-- The entry into Night of a thermal trip, without step 1 of R323; one already past its commit takes the trip's cause.
[DEDUCED, log entry 162] -/
def State.trip (s : State) : State :=
  let s := match s.power.phase with
    | .committed => s.setWatch { s.watch with entry := 0x02 }
    | .powerDown _ => s.setWatch { s.watch with entry := 0x02 }
    | _ => s.commitNight 0x02
  s.setWatch { s.watch with tripLow := true, tripReport := true }

/-- THERMAL_TRIP: ENTRY 0x02, and FAULT_N low until the next wake, whenever a core rail is on.
[DEDUCED, log entry 162] -/
def execThermalTrip (die : Fin 8) (s : State) : Host.Outcome State Fault Refusal :=
  .next (s.when (s.dieThere die && s.power.phase ≠ .noVstby && s.power.phase ≠ .night) fun s => s.trip)

/-- The highest of a die's readings. -/
def highest : List Int → Option Int
  | [] => none
  | x :: l => some (l.foldl max x)

/-- One die's temperature, in 0.25 °C, against the thresholds: 105, 100 and 115 °C. [DESIGN CHOICE, log entry 160] -/
def State.dieTemp (s : State) (d : Nat) (t : Int) : State :=
  let p := s.power
  let before := Tbl.getD p.temps d 0
  let s := s.setPower { p with temps := Tbl.put p.temps d t, hot := if 420 ≤ t then addDie p.hot d else p.hot }
  let s := if 420 ≤ t ∧ d ∉ p.warn then (s.setPower { s.power with warn := addDie p.warn d }).fire 4
    else if t < 400 then s.setPower { s.power with warn := p.warn.filter (· ≠ d) } else s
  if 460 ≤ t ∧ before < 460 ∧ d ∉ p.drop ∧ d ∉ p.called then
    (s.setPower { s.power with called := addDie p.called d }).fire 5
  else s

/-- PKG.THERM follows the temperatures. [DESIGN CHOICE, log entry 161] -/
def State.showTherm (s : State) : State :=
  let best := s.power.temps.foldl (fun (b : Option (Nat × Int)) p => if b.all fun b => b.2 < p.2 then some p else b) none
  let s := match best with
    | some (d, t) => (s.put Reg.PKG.THERM.TJ_MAX (fieldOf 10 t)).put Reg.PKG.THERM.HOT_DIE d
    | none => s
  (s.put Reg.PKG.THERM.WARN (bit !s.power.warn.isEmpty)).put Reg.PKG.THERM.DROP (bit !s.power.drop.isEmpty)

/-- The sample of every die that gives readings. -/
def State.sampleTemps (s : State) (r : List (List Int)) : State :=
  (s.each (List.range r.length) fun s d =>
    match highest (r.getD d []) with
    | some t => if s.dieThere d then s.dieTemp d t else s
    | none => s).showTherm

/-- TEMP_SAMPLE. [DESIGN CHOICE, log entry 13] -/
def execTempSample (readings : List (List Int)) (s : State) : Host.Outcome State Fault Refusal :=
  formed (.tempSample readings) (s.when s.logicUp fun s => s.sampleTemps readings)

/-! ### Level changes (R316 to R319) -/

/-- Level of a die in a word laid out as LEVEL_REQ: both heads share one. -/
def levelOf (v d : Nat) : Nat := if d < 2 then bitsAt v 0 2 else bitsAt v (2 + 2 * (d - 2)) 2

/-- A word laid out as LEVEL_REQ with one die's level replaced. -/
def withLevel (v d l : Nat) : Nat := if d < 2 then putBits v 0 2 l else putBits v (2 + 2 * (d - 2)) 2 l

/-- LEVEL_REQ. -/
def State.levelReq (s : State) : Nat := s.get Reg.PWR.LEVEL_REQ.HEAD + 4 * s.get Reg.PWR.LEVEL_REQ.FIELD

/-- Stores LEVEL_REQ. -/
def State.putLevelReq (s : State) (v : Nat) : State :=
  (s.put Reg.PWR.LEVEL_REQ.HEAD (bitsAt v 0 2)).put Reg.PWR.LEVEL_REQ.FIELD (bitsAt v 2 12)

/-- LAST_WR of the power unit. -/
def State.levelStatus (s : State) (st : Status) : State := s.put Reg.PWR.LEVEL_STATUS.LAST_WR st.code

/-- An enabled receive link meets the last condition of R70 at a level. -/
def State.linkFits (s : State) (f k level : Nat) : Bool :=
  !s.on (Reg.LINK.CFG.EN f k) || samplesFit (s.get (Reg.LINK.CFG.M f k)) (s.get (Reg.LINK.CFG.WIDTH f k)) (s.get (Reg.LINK.CFG.L_LOG2 f k)) level

/-- Field die f may go to a level (R317). -/
def State.fieldMay (s : State) (f l : Nat) : Bool :=
  if !s.present f then l = 0
  else l ≤ 2 && (List.range 40).all (fun k => s.linkFits f k l) && s.wCount f ≤ wLimit l
    && !((2 + f) ∈ s.power.drop && l = 0)
    && (2 ≤ l || (s.profile ≠ 2 && s.get Reg.MAC.PROFILE.SEL ≠ 2))

/-- A LEVEL_REQ write is acceptable as a whole (R317). -/
def State.levelsOk (s : State) (v : Nat) : Bool :=
  bitsAt v 0 2 ≤ 2 && !((0 ∈ s.power.drop || 1 ∈ s.power.drop) && bitsAt v 0 2 = 0)
  && (List.range 6).all (fun f => s.fieldMay f (bitsAt v (2 + 2 * f) 2))
  && !s.on Reg.PWR.DUSK.ACTIVE && !s.on Reg.PWR.DUSK.REQ

/-- LEVEL_REQ_WRITE. -/
def State.levelWrite (s : State) (v : Nat) : State :=
  if s.on Reg.PWR.LEVEL_STATUS.CHANGING then s.levelStatus .busy
  else if s.levelsOk v then
    ((s.putLevelReq v).levelStatus .done).setPower { ((s.putLevelReq v).levelStatus .done).power with reqPending := true }
  else s.levelStatus .badField

/-- LEVEL_REQ_WRITE. -/
def execLevelReqWrite (v : BitVec 32) (s : State) : Host.Outcome State Fault Refusal :=
  .next (s.hostWriteReg 0x50000 v.toNat fun s => s.levelWrite v.toNat)

/-- The dies whose level a change moves one way: down in performance, or up. -/
def State.moved (s : State) (target : Nat) (up : Bool) : List Nat :=
  let now := s.get Reg.PWR.LEVEL_STATUS.NOW
  ([0, 1, 2, 3, 4, 5, 6, 7].filter s.dieThere).filter fun d =>
    if up then levelOf target d < levelOf now d else levelOf now d < levelOf target d

/-- The enabled rails of some dies with the level to write, in ascending order. -/
def State.railsOf (s : State) (target : Nat) (dies : List Nat) : List (Nat × Nat) :=
  (dies.filter fun d => s.on (Reg.PWR.RAIL.EN d)).map fun d => (d, levelOf target d)

/-- Starts the PMIC write at the front of a list of rails. -/
def State.sendRail (s : State) (l : List (Nat × Nat)) : State :=
  match l with
  | (d, lv) :: _ => s.writeRail d lv
  | [] => s

/-- Replaces the change under way. -/
def State.setChange (s : State) (c : Option LevelChange) : State :=
  (s.setPower { s.power with change := c }).put Reg.PWR.LEVEL_STATUS.CHANGING (bit c.isSome)

/-- A change begins: voltages of the dies that rise first, then the clocks, then the voltages of those that fall; one
that moves no die is complete at once. [DEDUCED, log entry 120] -/
def State.beginChange (s : State) (target : Nat) : State :=
  let up := s.railsOf target (s.moved target true)
  let down := s.railsOf target (s.moved target false)
  let stage : LevelStage := if (s.moved target true).isEmpty then .glide else if up.isEmpty then .settleUp else .railsUp
  if (s.moved target true).isEmpty ∧ (s.moved target false).isEmpty then s.fire 1
  else (s.setChange (some ⟨target, stage, up, down, 0⟩)).sendRail (if stage = .railsUp then up else [])

/-- No request waits. -/
def State.requestTaken (s : State) : State := s.setPower { s.power with reqPending := false }

/-- A request to change to LEVEL_REQ: it begins, or waits for the change under way. -/
def State.askChange (s : State) : State :=
  match s.power.change with
  | none => s.requestTaken.beginChange s.levelReq
  | some _ => s.setPower { s.power with reqPending := true }

/-- LEVEL_CHANGE_START. -/
def execLevelChangeStart (s : State) : Host.Outcome State Fault Refusal :=
  .next (s.when (s.live && s.power.reqPending && s.power.change.isNone) fun s => s.requestTaken.beginChange s.levelReq)

/-- The levels in force with every die of a list that is at Noon at Afternoon. -/
def State.dropTarget (s : State) (l : List Nat) : Nat :=
  l.foldl (fun v d => if levelOf v d = 0 then withLevel v d 1 else v) (s.get Reg.PWR.LEVEL_STATUS.NOW)

/-- The drops that waited for the change begin without waiting for a slot start. [DEDUCED, log entry 120] -/
def State.nextDrop (s : State) : State :=
  let l := s.power.dropNext
  let t := s.dropTarget l
  let s := s.setPower { s.power with dropNext := [] }
  if t = s.get Reg.PWR.LEVEL_STATUS.NOW then s else s.beginChange t

/-- A change has completed. -/
def State.endChange (s : State) : State := ((s.setChange none).fire 1).nextDrop

/-- A change has failed (R319). -/
def State.failChange (s : State) : State := (((s.setChange none).levelStatus .internal).fire 3).nextDrop

/-- The rails a change is writing. -/
def LevelChange.rails (c : LevelChange) : List (Nat × Nat) :=
  match c.stage with
  | .railsUp => c.up
  | .railsDown => c.down
  | _ => []

/-- The change with its rails replaced, at the settle wait when none is left. -/
def LevelChange.withRails (c : LevelChange) (l : List (Nat × Nat)) : LevelChange :=
  match c.stage with
  | .railsUp => { c with up := l, attempts := 0, stage := if l.isEmpty then .settleUp else .railsUp }
  | _ => { c with down := l, attempts := 0, stage := if l.isEmpty then .settleDown else .railsDown }

/-- A PMIC write has ended: the next rail follows, or the write is retried, at most twice. -/
def State.pmicEnd (s : State) (acked : Bool) : State :=
  match s.power.change with
  | some c =>
    match c.rails with
    | [] => s
    | r :: rest =>
      if acked then
        let c := c.withRails rest
        (s.setChange (some c)).sendRail c.rails
      else if 2 ≤ c.attempts then s.failChange
      else (s.setChange (some { c with attempts := c.attempts + 1 })).sendRail (r :: rest)
  | none => s

/-- PMIC_WRITE_DONE. -/
def execPmicWriteDone (acked : Bool) (s : State) : Host.Outcome State Fault Refusal :=
  .next (s.when s.logicUp fun s => s.pmicEnd acked)

/-- VSETTLE_EXPIRY. -/
def execVsettleExpiry (s : State) : Host.Outcome State Fault Refusal :=
  .next (s.when s.logicUp fun s => match s.power.change with
    | some c => match c.stage with
      | .settleUp => s.setChange (some { c with stage := .glide })
      | .settleDown => s.endChange
      | _ => s
    | none => s)

/-- The glide has ended: the new levels are in force. [DEDUCED, log entry 120] -/
def State.glideEnd (s : State) (c : LevelChange) : State :=
  let fall := s.moved c.target false
  let s := s.put Reg.PWR.LEVEL_STATUS.NOW c.target
  if fall.isEmpty ∧ c.down.isEmpty then s.endChange
  else
    let stage : LevelStage := if c.down.isEmpty then .settleDown else .railsDown
    (s.setChange (some { c with stage := stage, attempts := 0 })).sendRail (if stage = .railsDown then c.down else [])

/-- PLL_GLIDE_DONE. -/
def execPllGlideDone (s : State) : Host.Outcome State Fault Refusal :=
  .next (s.when s.logicUp fun s => match s.power.change with
    | some c => if c.stage = .glide then s.glideEnd c else s
    | none => s)

/-! ### Thermal drops (R33, R34, R320) -/

/-- The receive link that is shed next: highest SHED_RANK, then highest k, of the enabled ones while one does not fit. -/
def State.shedNext (s : State) (f : Nat) : Option Nat :=
  if (List.range 40).all fun k => s.linkFits f k 1 then none
  else
    let on := (List.range 40).filter fun k => s.on (Reg.LINK.CFG.EN f k)
    on.foldl (fun (b : Option Nat) k =>
      if b.all fun b => s.get (Reg.FDIE.LINK_PWR.SHED_RANK f b) ≤ s.get (Reg.FDIE.LINK_PWR.SHED_RANK f k) then some k else b) none

/-- Sheds receive links until every one left fits at Afternoon, and counts them. -/
def State.shedLinks (s : State) (f : Nat) : Nat → Nat → State × Nat
  | 0, n => (s, n)
  | fuel + 1, n =>
    match s.shedNext f with
    | some k => (((s.put (Reg.LINK.CFG.EN f k) 0).disableLink f k).put (Reg.FDIE.LINK_PWR.SHED f k) 1).shedLinks f fuel (n + 1)
    | none => (s, n)

/-- Clears W_EN in descending index until at most 96 are left. -/
def State.shedW (s : State) (f : Nat) : State :=
  let l := (List.range 512).filter fun i => s.wEnabled f i
  (s.each (l.drop 96) fun s i => s.put (Reg.SPARGE.STREAM.W_EN f i) 0).recount f

/-- A rail that serves die d; rails 0 and 1 serve both head dies. -/
def servesDie (d : Nat) (r : Nat × Nat) : Bool := if d < 2 then r.1 < 2 else r.1 = d

/-- Rails in ascending order. -/
def ascending (l : List (Nat × Nat)) : List (Nat × Nat) := (List.range 8).filterMap fun d => l.find? fun r => r.1 = d

/-- A raise of die d whose glide has not begun stops for that die: rails not yet written are left, one written goes back.
[DEDUCED, log entry 120] -/
def State.stopRaise (s : State) (d : Nat) : State :=
  let now := levelOf (s.get Reg.PWR.LEVEL_STATUS.NOW) d
  match s.power.change with
  | some c =>
    if (c.stage = .railsUp ∨ c.stage = .settleUp) ∧ levelOf c.target d < now then
      let left := c.up.drop 1
      let back := ((s.railsOf c.target (s.moved c.target true)).filter (servesDie d)).filter fun r => r ∉ left
      s.setChange (some { c with
        target := withLevel c.target d now
        up := c.up.take 1 ++ left.filter fun r => !servesDie d r
        down := ascending (c.down ++ back.map fun r => (r.1, now)) })
    else s
  | none => s

/-- Die d is at Noon to stay, or its clock glides there. -/
def State.headsNoon (s : State) (d : Nat) : Bool :=
  match s.power.change with
  | some c => levelOf c.target d = 0
  | none => levelOf (s.get Reg.PWR.LEVEL_STATUS.NOW) d = 0

/-- The field of LEVEL_REQ after a drop: Afternoon for a die at Noon, and no request for Noon left for one below.
[DEDUCED, log entry 120] -/
def State.dropField (s : State) (d : Nat) : Nat :=
  if s.headsNoon d then 1
  else if levelOf s.levelReq d = 0 then levelOf (s.get Reg.PWR.LEVEL_STATUS.NOW) d else levelOf s.levelReq d

/-- A field die sheds before its FCLK falls (R320). -/
def State.shedDie (s : State) (f : Nat) : State :=
  let r := s.shedLinks f 41 0
  (r.1.shedW f).fireD 7 r.2

/-- The change of a drop begins, or follows the change under way. -/
def State.askDrop (s : State) (d : Nat) : State :=
  match s.power.change with
  | none => s.beginChange (s.dropTarget [d])
  | some _ => s.setPower { s.power with dropNext := addDie s.power.dropNext d }

/-- A drop called for starts: the die goes to Afternoon from Noon, a field die shedding first; a raise to Noon stops.
[DEDUCED, log entry 120] -/
def State.thermalDrop (s : State) (d : Nat) : State :=
  let p := s.power
  let s := (s.setPower { p with called := p.called.filter (· ≠ d), drop := addDie p.drop d, cool := Tbl.put p.cool d 0 }).showTherm
  let s := s.stopRaise d
  let noon := s.headsNoon d
  let s := s.putLevelReq (withLevel s.levelReq d (s.dropField d))
  if !noon then s else (if d < 2 then s else s.shedDie (d - 2)).askDrop d

/-- THERMAL_DROP. -/
def execThermalDrop (die : Fin 8) (s : State) : Host.Outcome State Fault Refusal :=
  .next (s.when (s.logicUp && die.val ∈ s.power.called) fun s => s.thermalDrop die)

/-- DROP_RELEASE. -/
def execDropRelease (die : Fin 8) (s : State) : Host.Outcome State Fault Refusal :=
  .next (s.when (s.logicUp && die.val ∈ s.power.drop && 16 ≤ Tbl.getD s.power.cool die 0) fun s =>
    let p := s.power
    ((s.setPower { p with drop := p.drop.filter (· ≠ die.val), cool := Tbl.erase p.cool die }).showTherm).fire 6)

/-- At a mesh cycle boundary a die under drop has been below 105 °C for one more whole cycle, or starts again. -/
def State.coolCycle (s : State) : State :=
  let p := s.power
  s.setPower { p with hot := [], cool := p.drop.foldl (fun t d =>
    Tbl.put t d (if d ∈ p.hot then 0 else Tbl.getD p.cool d 0 + 1)) [] }

/-! ### Dusk (R321) -/

/-- The links marked DUSK fit at Evening, and at most 64 contexts have W_EN, on every field die. -/
def State.duskOk (s : State) : Bool :=
  ((List.range 6).filter s.present).all fun f => s.wCount f ≤ 64 &&
    (List.range 40).all fun k => !s.on (Reg.FDIE.LINK_PWR.DUSK f k)
      || samplesFit (s.get (Reg.LINK.CFG.M f k)) (s.get (Reg.LINK.CFG.WIDTH f k)) (s.get (Reg.LINK.CFG.L_LOG2 f k)) 2

/-- PENDING of Dusk. -/
def State.showDusk (s : State) : State :=
  s.put Reg.PWR.DUSK.PENDING (bit (s.get Reg.PWR.DUSK.REQ ≠ s.get Reg.PWR.DUSK.ACTIVE))

/-- DUSK_REQ_WRITE. -/
def State.duskWrite (s : State) (v : Nat) : State :=
  if bitsAt v 0 1 = 1 ∧ !s.duskOk then s.levelStatus .badField
  else ((s.put Reg.PWR.DUSK.REQ (bitsAt v 0 1)).showDusk).levelStatus .done

/-- DUSK_REQ_WRITE. -/
def execDuskReqWrite (v : BitVec 32) (s : State) : Host.Outcome State Fault Refusal :=
  .next (s.hostWriteReg 0x50008 v.toNat fun s => s.duskWrite v.toNat)

/-- Every die that is present at Evening, in the layout of LEVEL_REQ. -/
def State.allEvening (s : State) : Nat := ((List.range 6).filter s.present).foldl (fun v f => withLevel v (2 + f) 2) 2

/-- The enabled receive links not marked DUSK. -/
def State.duskOff (s : State) : List (Nat × Nat) :=
  (s.diesUp.flatMap fun f => (List.range 40).map fun k => (f, k)).filter fun p =>
    s.on (Reg.LINK.CFG.EN p.1 p.2) && !s.on (Reg.FDIE.LINK_PWR.DUSK p.1 p.2)

/-- Dusk begins. -/
def State.enterDusk (s : State) : State :=
  let s := (s.put Reg.PWR.DUSK.ACTIVE 1).showDusk
  let off := s.duskOff
  let s := s.each policyCores State.haltPolicy
  let s := s.each off fun s p => (s.put (Reg.LINK.CFG.EN p.1 p.2) 0).disableLink p.1 p.2
  let s := s.setPower { s.power with duskLinks := off }
  ((s.putLevelReq s.allEvening).askChange).fire 8

/-- DUSK_ENTRY. -/
def execDuskEntry (s : State) : Host.Outcome State Fault Refusal :=
  .next (s.when (s.live && s.on Reg.PWR.DUSK.REQ && !s.on Reg.PWR.DUSK.ACTIVE) fun s => s.enterDusk)

/-- Dusk ends: the remembered links search afresh, the policy cores resume, every die stays at Evening. -/
def State.leaveDusk (s : State) : State :=
  let s := (s.put Reg.PWR.DUSK.ACTIVE 0).showDusk
  let s := s.each s.power.duskLinks fun s p => if s.dieUp p.1 then (s.put (Reg.LINK.CFG.EN p.1 p.2) 1).enableLink p.1 p.2 else s
  let s := s.each (policyCores.filter s.coreEnabled) State.resumePolicy
  (s.setPower { s.power with duskLinks := [] }).fire 8

/-- DUSK_EXIT. -/
def execDuskExit (s : State) : Host.Outcome State Fault Refusal :=
  .next (s.when (s.live && !s.on Reg.PWR.DUSK.REQ && s.on Reg.PWR.DUSK.ACTIVE) fun s => s.leaveDusk)

/-- PM_I2C_ENABLE. -/
def State.pmWrite (s : State) (v pulses : Nat) : State :=
  if bitsAt v 3 10 = 0 ∨ 1000 < bitsAt v 3 10 then s.illegal 0x50010
  else
    let was := s.pmReady
    let s := ((s.put Reg.PWR.PM_I2C.EN (bitsAt v 0 1)).put Reg.PWR.PM_I2C.FAST (bitsAt v 1 1)).put
      Reg.PWR.PM_I2C.VSETTLE_US (bitsAt v 3 10)
    if !was && bitsAt v 0 1 = 1 then s.pmEnable pulses else s

/-- PM_I2C_ENABLE. [DEDUCED, log entry 119] -/
def execPmI2cEnable (v : BitVec 32) (pulses : Nat) (s : State) : Host.Outcome State Fault Refusal :=
  formed (.pmI2cEnable v pulses) (s.hostWriteReg 0x50010 v.toNat fun s => s.pmWrite v.toNat pulses)

/-- PM_SCL_TIMEOUT: the transaction on the bus fails and the bus is recovered. -/
def execPmSclTimeout (pulses : Nat) (s : State) : Host.Outcome State Fault Refusal :=
  formed (.pmSclTimeout pulses) (s.when (s.logicUp && s.power.change.any fun c => !c.rails.isEmpty) fun s =>
    (s.pmRecover pulses).pmicEnd false)

/-! ### Ball states (R37) -/

/-- The groups of balls whose state R37 gives, but for the watch domain's own (PWR_EN, FAULT_N, its inputs). -/
inductive BallGroup where
  | clkout | atx | arx | rfout | rfin | coex | hcb | pe | eth | mc | bf | pps | inputs | xtal | jtag
deriving DecidableEq, Repr

/-- The states of R37's table. -/
inductive BallState where
  /-- Driven or watched by its interface. -/
  | operating
  /-- P low and N high, no edges. -/
  | heldLow
  /-- Both legs pulled to VSS, no edges. -/
  | pulledToVss
  | electricalIdle
  /-- Terminated, data ignored. -/
  | ignored
  | unterminated
  /-- Off, below −70 dBm. -/
  | off
  /-- Chains off, 50 Ω termination. -/
  | terminated
  /-- Inputs ignored, CXREQ and CXGNT driven low. -/
  | requestsLow
  /-- SCK and MOSI low, CS high. -/
  | deselected
  | highZ
  /-- Receiver terminations off. -/
  | notPresent
  /-- Transmitters idle, links down. -/
  | linksDown
  | unpowered
  /-- DRAM reset low, other outputs low, DQ high impedance, termination off. -/
  | dramReset
  /-- BF_CLK low, BF_CS_N high, BF_IO high impedance. -/
  | flashIdle
  | low
  /-- Inputs; PM lines released. -/
  | released
  | oscillating
  /-- Pull-ups on TCK, TMS and TDI, pull-down on TRST_N; TDO high impedance. -/
  | pulled
deriving DecidableEq, Repr

/-- The column "Reset" of R37's table. -/
def BallGroup.inReset : BallGroup → BallState
  | .clkout => .heldLow
  | .atx => .electricalIdle
  | .arx => .ignored
  | .rfout => .off
  | .rfin => .terminated
  | .coex => .requestsLow
  | .hcb => .deselected
  | .pe => .notPresent
  | .eth => .linksDown
  | .mc => .dramReset
  | .bf => .flashIdle
  | .pps => .low
  | .inputs => .released
  | .xtal => .oscillating
  | .jtag => .pulled

/-- The columns "Night" and "No VSTBY" of R37's table. -/
def BallGroup.inNight : BallGroup → BallState
  | .clkout => .pulledToVss
  | .atx => .pulledToVss
  | .arx => .unterminated
  | .rfout => .off
  | .rfin => .unterminated
  | .coex => .highZ
  | .hcb => .highZ
  | .pe => .notPresent
  | .eth => .unpowered
  | .mc => .highZ
  | .bf => .highZ
  | .pps => .highZ
  | .inputs => .highZ
  | .xtal => .off
  | .jtag => .highZ

/-- The PWR_EN bit of the rail that sets a group's levels (R23, R26). -/
def BallGroup.rail : BallGroup → Nat
  | .clkout => 1
  | .atx => 1
  | .arx => 1
  | .pe => 1
  | .eth => 1
  | .mc => 2
  | _ => 3

/-- The part is out of its own reset, so that the interfaces drive the balls. -/
def Phase.outOfReset : Phase → Bool
  | .boot => true
  | .running => true
  | .quiescing => true
  | .committed => true
  | _ => false

/-- The state of a group of balls; between Night and reset each group follows its own rail, and the PCI Express lanes
are released with BOOT_RDY (R327). [DEDUCED, log entry 163] -/
def State.ball (s : State) (g : BallGroup) : BallState :=
  if s.power.pwrEn.getLsbD g.rail = false then g.inNight
  else if s.power.phase.outOfReset && !(g = .pe && s.power.phase = .boot) then .operating
  else g.inReset

end Sys2Proof.Machine
end

