-- ==== Sys2Proof/Machine/P384.lean ====
section
/-! DEFINITION. ECDSA and ECDH on P-384 (FIPS 186-5, SP 800-56A, R267), with the curve's parameters from FIPS 186-5. -/

namespace Sys2Proof.Machine

/-- The field prime. -/
def p384 : Nat := 2 ^ 384 - 2 ^ 128 - 2 ^ 96 + 2 ^ 32 - 1

/-- The group order. -/
def n384 : Nat :=
  0xFFFFFFFFFFFFFFFFFFFFFFFFFFFFFFFFFFFFFFFFFFFFFFFFC7634D81F4372DDF581A0DB248B0A77AECEC196ACCC52973

/-- The curve coefficient b. -/
def b384 : Nat :=
  0xB3312FA7E23EE7E4988E056BE3F82D19181D9C6EFE8141120314088F5013875AC656398D8A2ED19D2A85C8EDD3EC2AEF

/-- The base point. -/
def g384 : Nat × Nat :=
  (0xAA87CA22BE8B05378EB1C71EF320AD746E1D3B628BA79B9859F741E082542A385502F25DBF55296C3A545E3872760AB7,
   0x3617DE4A96262C6F5D9E98BF9292DC29F8F41DBD289A147CE9DA3113B5F0B8C00A60B1CE1D7E819D7A431D7C90EA0E5F)

/-- a^e mod m over the low `fuel` bits of e. -/
def powMod (m : Nat) : Nat → Nat → Nat → Nat
  | 0, _, _ => 1
  | fuel + 1, a, e => (if e % 2 = 1 then a else 1) * powMod m fuel (a * a % m) (e / 2) % m

/-- Inverse modulo a prime. -/
def invMod (m a : Nat) : Nat := powMod m 384 (a % m) (m - 2)

/-- Sum of two points; none is the point at infinity. -/
def ecAdd : Option (Nat × Nat) → Option (Nat × Nat) → Option (Nat × Nat)
  | none, q => q
  | p, none => p
  | some (x1, y1), some (x2, y2) =>
    if x1 = x2 ∧ (y1 + y2) % p384 = 0 then none
    else
      let l := if x1 = x2 then (3 * x1 * x1 + (p384 - 3)) * invMod p384 (2 * y1) % p384
        else (y2 + (p384 - y1)) * invMod p384 (x2 + (p384 - x1)) % p384
      let x3 := (l * l + 2 * p384 - x1 - x2) % p384
      some (x3, (l * (x1 + (p384 - x3)) + (p384 - y1)) % p384)

/-- k times a point, over the low `fuel` bits of k. -/
def ecMul : Nat → Nat → Option (Nat × Nat) → Option (Nat × Nat)
  | 0, _, _ => none
  | fuel + 1, k, p => ecAdd (if k % 2 = 1 then p else none) (ecMul fuel (k / 2) (ecAdd p p))

/-- A public key 0x04 ‖ X ‖ Y as a point of the curve. -/
def ecPoint (k : List Byte) : Option (Nat × Nat) :=
  let x := beAt k 1 48
  let y := beAt k 49 48
  if k.length = 97 ∧ beAt k 0 1 = 4 ∧ x < p384 ∧ y < p384 ∧ y * y % p384 = (x * x * x + (p384 - 3) * x + b384) % p384
  then some (x, y) else none

/-- The encoding 0x04 ‖ X ‖ Y of a point. -/
def ecBytes : Option (Nat × Nat) → List Byte
  | some (x, y) => 4 :: beBytes 48 x ++ beBytes 48 y
  | none => List.replicate 97 0

/-- ECDSA verification with SHA-384 of a signature r ‖ s. [PRESUMED, log entry 93] -/
def ecdsaVerify (key msg sig : List Byte) : Bool :=
  let r := beAt sig 0 48
  let s := beAt sig 48 48
  match ecPoint key with
  | none => false
  | some q =>
    if r = 0 ∨ n384 ≤ r ∨ s = 0 ∨ n384 ≤ s then false
    else
      let w := invMod n384 s
      let u1 := beVal (sha384 msg) * w % n384
      let u2 := r * w % n384
      match ecAdd (ecMul 384 u1 (some g384)) (ecMul 384 u2 (some q)) with
      | some (x, _) => x % n384 = r
      | none => false

/-- ECDSA signature with SHA-384 under private key d and nonce k. [PRESUMED, log entry 93] -/
def ecdsaSign (d k : Nat) (msg : List Byte) : List Byte :=
  let k := k % (n384 - 1) + 1
  let r := match ecMul 384 k (some g384) with
    | some (x, _) => x % n384
    | none => 0
  let s := invMod n384 k * (beVal (sha384 msg) + r * d) % n384
  beBytes 48 r ++ beBytes 48 s

/-- The ECDH secret of a private key and a public key: the X coordinate of the product. [PRESUMED, log entry 93] -/
def ecdhZ (d : Nat) (key : List Byte) : Option (List Byte) :=
  match ecPoint key with
  | some q => (ecMul 384 d (some q)).map fun p => beBytes 48 p.1
  | none => none

/-- A private key by the extra-bits method of FIPS 186-5 from 448 bits. -/
def privateKey (bits448 : List Byte) : Nat := beVal bits448 % (n384 - 1) + 1

end Sys2Proof.Machine
end

