-- ==== Sys2Proof/Machine/Kiln.lean ====
section
/-! DEFINITION. Kiln's states and commands (R266 to R298): self-tests, root and device keys, zeroisation, key slots by
blob, update, unwrapping and derivation, host checks, random output, attestation, the presence commands and tamper. -/

namespace Sys2Proof.Machine

/-! ### Keys of the part (R270, R271) -/

/-- Replaces Kiln's state. -/
def State.setKiln (s : State) (k : Kiln) : State := { s with kiln := k }

/-- The root: SHA-384 of the corrected codeword, truncated (R270). [DESIGN CHOICE, log entry 94] -/
def State.freshRoot (s : State) : List Byte := (sha384 (Config.codeword s.otp.helper)).take 32

/-- n bytes of the KDF of R276 under the root for a device key, bytes 6 to 13 open (R271).
[DESIGN CHOICE, log entry 94] -/
def State.deviceKey (s : State) (label : List Byte) (n : Nat) : List Byte :=
  kdfBlocks (s.kiln.root.getD []) label ((List.range 8).map (Config.deviceContext label)) (8 * n) ((n + 15) / 16) |>.take n

/-- The private attestation key, label WXAT. -/
def State.attestKey (s : State) : Nat := privateKey (s.deviceKey [0x57, 0x58, 0x41, 0x54] 56)

/-- The private update key, label WXUP. -/
def State.updateKey (s : State) : Nat := privateKey (s.deviceKey [0x57, 0x58, 0x55, 0x50] 56)

/-- The blob wrapping key, label WXBK. -/
def State.blobKey (s : State) : List Byte := s.deviceKey [0x57, 0x58, 0x42, 0x4B] 32

/-- The blob MAC key, label WXBM. -/
def State.blobMac (s : State) : List Byte := s.deviceKey [0x57, 0x58, 0x42, 0x4D] 32

/-- A public key, 0x04 ‖ X ‖ Y. -/
def publicKey (d : Nat) : List Byte := ecBytes (ecMul 384 d (some g384))

/-- The package serial, 16 bytes. -/
def State.serialBytes (s : State) : List Byte := beBytes 16 s.part.serial.toNat

/-! ### States of Kiln (R268 to R270, R289) -/

/-- Kiln enters a state; ERROR and ZEROISED are causes of R314. -/
def State.enterKiln (s : State) (st : Nat) : State :=
  let s := s.put Reg.KILN.STATUS.STATE st
  if 4 ≤ st then s.latchCause 3 else s

/-! ### The entropy source (R288 to R291) -/

/-- The repetition count test fails on a run of equal samples, the adaptive proportion test on how many samples of a window of
1,024 equal its first (R288). -/
def healthFails (run same : Nat) : Bool := decide (41 ≤ run ∨ 841 ≤ same)

/-- The fallback generator takes over, seeded from the last good DRBG output (R290). -/
def State.fallBack (s : State) : State :=
  if s.on Reg.RNG.STATUS.FALLBACK then s
  else (s.setKiln { s.kiln with fallback := beVal (s.kiln.last.take 8) }).put Reg.RNG.STATUS.FALLBACK 1

/-- A health test fails. [DEDUCED, log entry 111] -/
def State.healthFault (s : State) (run same : Nat) : State :=
  let s := if 41 ≤ run then s.put Reg.RNG.STATUS.RCT_FAIL 1 else s
  let s := if 841 ≤ same then s.put Reg.RNG.STATUS.APT_FAIL 1 else s
  ((s.put Reg.RNG.STATUS.FAULT 1).fire 224).fallBack

/-- ENTROPY_FAULT: the run of equal samples, and the count of R288's window. [DEDUCED, log entry 111] -/
def execEntropyFault (run same : Nat) (s : State) : Host.Outcome State Fault Refusal :=
  formed (.entropyFault run same) (s.when (s.logicUp && healthFails run same) fun s =>
    (s.healthFault run same).setKiln { (s.healthFault run same).kiln with restartBad := s.on Reg.RNG.CTL.RESTART })

/-- An RNG.CTL write (R291). [DEDUCED, log entry 111] -/
def State.rngCtl (s : State) (v : Nat) : State :=
  if bitsAt v 0 1 = 1 ∧ !s.on Reg.RNG.CTL.RESTART then
    ((s.put Reg.RNG.CTL.RESTART 1).put Reg.RNG.STATUS.TESTING 1).setKiln { s.kiln with restartBad := false }
  else s

/-- RNG_RESTART. -/
def execRngRestart (v : BitVec 32) (s : State) : Host.Outcome State Fault Refusal :=
  .next (s.hostWriteReg 0x220000 v.toNat fun s => s.rngCtl v.toNat)

/-- The DRBG is reseeded from fresh samples. -/
def State.reseed (s : State) : State := s.seedDrbg.bump Reg.RNG.RESEEDS

/-- The restart test passes: reseeded, FAULT and FALLBACK cleared, source 225. [DEDUCED, log entry 111] -/
def State.entropyBack (s : State) : State :=
  (((s.reseed.put Reg.RNG.STATUS.SEEDED 1).put Reg.RNG.STATUS.FAULT 0).put Reg.RNG.STATUS.FALLBACK 0).fire 225

/-- The restart test ends on its 1,024 samples; a failure in it leaves the fault standing, or is one.
[DEDUCED, log entry 111] -/
def State.restartDone (s : State) (run same : Nat) : State :=
  let s := (s.put Reg.RNG.CTL.RESTART 0).put Reg.RNG.STATUS.TESTING 0
  if healthFails run same then s.healthFault run same
  else if s.kiln.restartBad then s
  else s.entropyBack

/-- RNG_RESTART_DONE: the longest run of equal samples, and how many equal the first. -/
def execRngRestartDone (run : Nat) (s : State) (same : Nat := 0) : Host.Outcome State Fault Refusal :=
  formed (.rngRestartDone run same) (s.when (s.logicUp && s.on Reg.RNG.CTL.RESTART) fun s => s.restartDone run same)

/-- DRBG_SEEDED: the first seed. -/
def execDrbgSeeded (s : State) : Host.Outcome State Fault Refusal :=
  .next (s.when (s.logicUp && !s.on Reg.RNG.STATUS.SEEDED && !s.on Reg.RNG.STATUS.FAULT) fun s =>
    s.seedDrbg.put Reg.RNG.STATUS.SEEDED 1)

/-- DRBG_RESEED. -/
def execDrbgReseed (s : State) : Host.Outcome State Fault Refusal :=
  .next (s.when (s.logicUp && s.on Reg.RNG.STATUS.SEEDED && !s.on Reg.RNG.STATUS.FAULT && 65536 ≤ s.kiln.gens) State.reseed)

/-! ### Start (R268 to R270) -/

/-- The self-tests end: the known answers, and the start-up test's 1,024 samples. A health test that fails is one of R290 as
well. [DEDUCED, log entry 111] -/
def State.selftested (s : State) (kat : Bool) (run same : Nat) : State :=
  let s := s.put Reg.RNG.STATUS.TESTING 0
  let s := if healthFails run same then s.healthFault run same else s
  if kat && !healthFails run same then s.enterKiln 1 else ((s.put Reg.KILN.STATUS.SELFTEST_FAIL 1).enterKiln 5).fire 228

/-- SELFTEST_DONE. -/
def execSelftestDone (kat : Bool) (s : State) (run same : Nat := 0) : Host.Outcome State Fault Refusal :=
  formed (.selftestDone kat run same) (s.when (s.logicUp && s.kilnState = 0) fun s => s.selftested kat run same)

/-- The correction succeeds: at most 12 % of the 32,768 bits are wrong, and the helper data, its check included, is whole
(R270). -/
def rootFound (wrong : Nat) (helper : Bool) : Bool := helper && decide (100 * wrong ≤ 12 * 32768)

/-- ROOT_REGEN: the bits of the SRAM region that differ from those at enrolment, and whether the helper data is as written. -/
def execRootRegen (wrong : Nat) (s : State) (helper : Bool := true) : Host.Outcome State Fault Refusal :=
  formed (.rootRegen wrong helper) (s.when (s.logicUp && s.kilnState = 1) fun s =>
    if rootFound wrong helper then (s.setKiln { s.kiln with root := some s.freshRoot }).enterKiln 2
    else ((s.put Reg.KILN.STATUS.ROOT_FAIL 1).enterKiln 5).fire 228)

/-! ### Aborts and zeroisation (R268, R296, R297) -/

/-- A request that a Kiln no longer READY drops: a frame ends with AUTH_FAIL, an ack is dropped, a downlink or a host
command ends with a status. -/
def State.abortReq (s : State) (st : Status) (id : Nat) (r : CheckReq) : State :=
  let s := s.endReq id r
  match r.why with
  | .receive g => s.resultEnds g .authFail
  | .ack g => match s.ackJob g with
    | some (n, j) => s.failJob n j st
    | none => s
  | .downlink n => match s.job? n with
    | some j => s.failCopy n j st
    | none => s
  | .hostGen c _ => s.complete c st 0
  | .hostVerify c => s.complete c st 0

/-- A provisional frame ends with AUTH_FAIL: any, or only one that carries a check value. -/
def State.failGroup (all : Bool) (s : State) (id : Nat) : State :=
  match s.group? id with
  | some g =>
    let r := (g.checking.map (·.1) <|> g.passed).getD (g.todo.headD .combined)
    if g.prov && g.confirmed.isNone && !g.ended && (all || macCvlen (g.frame r) ≠ 0) then
      let left := g.todo.length + bit g.checking.isSome + bit g.passed.isSome
      let s := if g.profile = 0 then s.bumpBy Reg.MAC.AUTH_FAIL left else s
      (s.setGroup id { g with todo := [], checking := none, passed := none, closed := true, last := .authFail }).groupEnds id
    else s
  | none => s

/-- The queue and the pipelines are flushed, and provisional frames end. -/
def State.flushKiln (s : State) (st : Status) (all : Bool) : State :=
  let s := s.each s.kiln.reqs fun s p => if Tbl.has s.kiln.reqs p.1 then s.abortReq st p.1 p.2 else s
  s.each (s.rx.groups.map (·.1)) (State.failGroup all)

/-- Every CSP is overwritten, and the zeroisation is counted. -/
def State.zeroise (s : State) : State :=
  let s := s.dropDerived []
  let s := s.setKiln { s.kiln with slots := [], cache := [], root := none, update := none, drbg := none, gens := 0 }
  { s with otp := { s.otp with zeroisations := s.otp.zeroisations + 1 } }

/-- Kiln zeroises and passes to a state other than READY; what it was doing is aborted. A tamper ends every provisional frame
(R296), any other passage those with a check value (R268). [DEDUCED, log entry 108] -/
def State.zeroiseTo (s : State) (st : Nat) (tamper : Bool) : State := ((s.enterKiln st).flushKiln .tamperHeld tamper).zeroise

/-! ### KILN.CTL and DL_FLOOR (R267, R283) -/

/-- A KILN.CTL write. [DEDUCED, log entry 108] -/
def State.kilnCtl (s : State) (v : Nat) : State :=
  let want := bitsAt v 0 1
  let lock (s : State) : State := if bitsAt v 1 1 = 1 then s.put Reg.KILN.CTL.LOCK 1 else s
  if s.on Reg.KILN.CTL.LOCK then s
  else if want = s.get Reg.KILN.CTL.APPROVED then lock s
  else if !s.kilnReady then s.illegal 0x200000
  else if want = 1 then
    if s.on Reg.KILN.STATUS.DEBUG_OPEN then s.illegal 0x200000 else lock (s.put Reg.KILN.CTL.APPROVED 1)
  else lock ((s.put Reg.KILN.CTL.APPROVED 0).zeroiseTo 1 false)

/-- APPROVED_WRITE. [DEDUCED, log entry 108] -/
def execApprovedWrite (v : BitVec 32) (s : State) : Host.Outcome State Fault Refusal :=
  .next (s.hostWriteReg 0x200000 v.toNat fun s => s.kilnCtl v.toNat)

/-- The one write of DL_FLOOR that a reset allows. -/
def State.dlFloor (s : State) (v : Nat) : State :=
  if s.on Reg.KILN.STATUS.FLOOR_SET then s.illegal 0x200020
  else (s.put Reg.KILN.DL_FLOOR.FLOOR v).put Reg.KILN.STATUS.FLOOR_SET 1

/-- DL_FLOOR_WRITE. -/
def execDlFloorWrite (v : BitVec 32) (s : State) : Host.Outcome State Fault Refusal :=
  .next (s.hostWriteReg 0x200020 v.toNat fun s => s.dlFloor v.toNat)

/-! ### What every command shares (R268, R290, R293, R298) -/

/-- What a command needs beside READY. -/
structure KilnNeeds where
  /-- Answered in TAMPER_HELD, ZEROISED and ERROR. -/
  held : Bool
  /-- Answered in ZEROISED. -/
  zeroised : Bool
  presence : Bool
  random : Bool
deriving DecidableEq, Repr

/-- A command that any READY Kiln answers. -/
def KilnNeeds.plain : KilnNeeds := ⟨false, false, false, false⟩

/-- A command that Kiln's state does not answer, with its status. [DEDUCED, log entries 96, 101] -/
def State.kilnBars (s : State) (w : KilnNeeds) : Option Status :=
  match s.kilnState with
  | 2 => none
  | 4 => if w.held || w.zeroised then none else some .tamperHeld
  | 5 => if w.held then none else some .internal
  | _ => if w.held then none else some .tamperHeld

/-- The first check of a command that fails: Kiln's state, presence, the entropy source.
[DEDUCED, log entries 96, 100] -/
def State.kilnRefuses (s : State) (w : KilnNeeds) : Option Status :=
  match s.kilnBars w with
  | some st => some st
  | none =>
    if w.presence && !s.on Reg.KILN.STATUS.PRESENT then some .presenceRequired
    else if w.random && s.kilnReady && s.on Reg.RNG.STATUS.FAULT then some .entropyFault
    else none

/-- A command waits while Kiln starts, or for the first seed. [DEDUCED, log entries 99, 101] -/
def State.kilnWaits (s : State) (w : KilnNeeds) : Bool :=
  s.kilnState < 2 || (w.random && s.kilnReady && !s.on Reg.RNG.STATUS.SEEDED && !s.on Reg.RNG.STATUS.FAULT)

/-- Executes a Kiln command in front of ring n. [DEDUCED, log entries 96, 99] -/
def State.kilnCommand (s : State) (n : Nat) (desc : List Byte) (w : KilnNeeds) (effect : CmdRef → State → State) : State :=
  if s.kilnWaits w then s
  else s.runCommand n desc fun c s => match s.kilnRefuses w with
    | some st => s.complete c st 0
    | none => effect c s

/-- An access outside the windows halts the ring, and its command completes so (R239). [DEDUCED, log entry 102] -/
def State.badAddress (s : State) (c : CmdRef) (addr : Nat) : State :=
  (s.halt c.ring .badAddress addr).complete c .badAddress 0

/-- Reads a command's input before it goes on; a read that completes with an error is a walk fault at its start (R239).
[DEDUCED, log entry 102] -/
def State.kilnInput (s : State) (c : CmdRef) (desc : List Byte) (data : Option (List Byte)) (go : List Byte → State → State) :
    State :=
  match s.firstBad false (leAt desc 8 8) (leAt desc 16 4), data with
  | some a, _ => s.badAddress c a
  | none, none => (s.halt c.ring .walkFault (leAt desc 8 8)).complete c .walkFault 0
  | none, some d => go (sliceB d 0 (leAt desc 16 4)) (s.dmaRead (leAt desc 8 8) (leAt desc 16 4))

/-- A command that writes bytes: its effect stands only where the output buffer takes them. [DEDUCED, log entry 102] -/
def State.kilnOutput (s : State) (c : CmdRef) (desc bytes : List Byte) (result : Nat) (effect : State → State) : State :=
  if leAt desc 28 4 < bytes.length then s.complete c .badLength 0
  else match s.firstBad true (leAt desc 20 8) bytes.length with
    | some a => s.badAddress c a
    | none => ((effect s).dmaWrite (leAt desc 20 8) bytes).complete c .done result

/-- Checks in order: the first that fails completes the command. -/
def State.kilnChecks (s : State) (c : CmdRef) (l : List (Bool × Status)) (go : State → State) : State :=
  match l.find? (·.1) with
  | some p => s.complete c p.2 0
  | none => go s

/-- SLOT and SLOT2 of a descriptor. -/
def kSlot (d : List Byte) : Nat := leAt d 4 2
/-- SLOT2. -/
def kSlot2 (d : List Byte) : Nat := leAt d 6 2
/-- ATTR. -/
def kAttr (d : List Byte) : Nat := leAt d 32 4
/-- Input length. -/
def kInLen (d : List Byte) : Nat := leAt d 16 4

/-! ### Slots by blob and update (R284 to R286) -/

/-- Replaces slots. -/
def State.setSlots (s : State) (t : Tbl Slot) : State := s.setKiln { s.kiln with slots := t }

/-- The bytes of a key wrapped: 40, of which an AES-128 key takes 24. -/
def wrappedLen (attr : Nat) : Nat := if attrLen256 attr then 40 else 24

/-- A record of R285: slot, ATTR, wrapped key. -/
structure KeyRecord where
  slot : Nat
  attr : Nat
  wrapped : List Byte
deriving DecidableEq, Repr

/-- The records of a message from a byte on. -/
def keyRecords (m : List Byte) (at0 : Nat) : Nat → List KeyRecord
  | 0 => []
  | n + 1 =>
    let a := beAt m (at0 + 4) 4
    ⟨beAt m at0 2, a, sliceB m (at0 + 8) (wrappedLen a)⟩ :: keyRecords m (at0 + 48) n

/-- No two records name one slot, each slot is below 4,096 and each ATTR legal. -/
def recordsLegal (l : List KeyRecord) : Bool :=
  l.all (fun r => decide (r.slot < 4096) && attrLegal r.attr) && decide (l.map (·.slot)).Nodup

/-- The keys of records, or none where an integrity check fails. -/
def unwrapAll (kek : List Byte) : List KeyRecord → Option (List (Nat × Slot))
  | [] => some []
  | r :: l =>
    match kwUnwrap kek r.wrapped, unwrapAll kek l with
    | some k, some t => some ((r.slot, ⟨r.attr, k⟩) :: t)
    | _, _ => none

/-- The slots after records are installed. -/
def installed (t : Tbl Slot) (l : List (Nat × Slot)) : Tbl Slot := l.foldl (fun t p => Tbl.put t p.1 p.2) t

/-- One record of a blob set. [DEDUCED, log entry 104] -/
def blobRecord (kek : List Byte) (p : Nat × Slot) : List Byte :=
  let w := kwWrap kek p.2.key
  beBytes 2 p.1 ++ [0, 0] ++ beBytes 4 p.2.attr ++ w ++ List.replicate (40 - w.length) 0

/-- The blob set of slots under a counter (R284): the class N ones. [DEDUCED, log entry 104] -/
def State.blobSet (s : State) (counter : Nat) (t : Tbl Slot) : List Byte :=
  let l := t.filter fun p => attrClass p.2.attr = 2
  let body := beBytes 2 counter ++ beBytes 2 l.length ++ [0, 0, 0, 0] ++ l.flatMap (blobRecord s.blobKey)
  body ++ cmac s.blobMac body

/-- Class N slots of a table. -/
def classN (t : Tbl Slot) : List Nat := (t.filter fun p => attrClass p.2.attr = 2).map (·.1)

/-- KEY_LOAD_BLOBS: every class N slot is replaced at once. -/
def State.loadBlobs (s : State) (c : CmdRef) (l : List (Nat × Slot)) : State :=
  let old := classN s.kiln.slots
  let s := s.dropDerived (old ++ l.map (·.1))
  let s := s.setSlots (installed (s.kiln.slots.filter fun p => attrClass p.2.attr ≠ 2) l)
  s.complete c .done l.length

/-- The checks of R284 on a blob set. [DEDUCED, log entry 103] -/
def State.checkBlobs (s : State) (c : CmdRef) (m : List Byte) : State :=
  let n := m.length - 16
  let r := keyRecords m 8 (beAt m 2 2)
  s.kilnChecks c [(cmac s.blobMac (m.take n) ≠ m.drop n, .authFail), (beAt m 0 2 ≠ s.otp.updateCtr, .replay),
      (n ≠ 8 + 48 * beAt m 2 2 || !recordsLegal r || r.any (fun x => attrClass x.attr ≠ 2), .badField)] fun s =>
    match unwrapAll s.blobKey r with
    | some l => s.loadBlobs c l
    | none => s.complete c .badField 0

/-- KEY_LOAD_BLOBS. `data` is what host memory holds from the input address on, unlisted bytes 0; none where the read completes
with an error. -/
def execKeyLoadBlobs (n : Fin 4096) (desc : List Byte) (data : Option (List Byte)) (s : State) :
    Host.Outcome State Fault Refusal :=
  formed (.keyLoadBlobs n desc data) (s.kilnCommand n desc .plain fun c s =>
    if kInLen desc < 24 then s.complete c .badLength 0
    else if 8 + 48 * 4096 + 16 < kInLen desc then s.complete c .badLength 0
    else s.kilnInput c desc data fun m s => s.checkBlobs c m)

/-- The KEK of a key-update message (R285), none where the ephemeral key is no point of the curve. -/
def State.updateKek (s : State) (m : List Byte) : Option (List Byte) :=
  (ecdhZ s.updateKey (sliceB m 28 97)).map fun z =>
    (sha384 ([0, 0, 0, 1] ++ z ++ [0x57, 0x58, 0x4B, 0x55] ++ s.serialBytes ++ sliceB m 24 2)).take 32

/-- Checks 1 to 6 of R286, in order. [DEDUCED, log entry 103] -/
def State.updateChecks (s : State) (m : List Byte) : List (Bool × Status) :=
  let k := beAt m 5 1
  let r := keyRecords m 256 k
  let n := m.length - 96
  [(m.length ≠ 352 + 48 * k || k = 0 || decide (32 < k), .badLength),
   (beAt m 0 4 ≠ 0x57584B55 || beAt m 4 1 ≠ 1, .badField),
   (sliceB m 8 16 ≠ s.serialBytes, .badField),
   (s.enrolled ≠ some (sha384 (sliceB m 128 97)), .authFail),
   (!ecdsaVerify (sliceB m 128 97) (m.take n) (m.drop n), .authFail),
   (beAt m 24 2 ≤ s.otp.updateCtr, .replay),
   (4095 < beAt m 24 2 || !recordsLegal r, .badField)]

/-- A message that passes becomes the pending update, and the blob set after it is written. -/
def State.pendUpdate (s : State) (c : CmdRef) (desc m : List Byte) : State :=
  match (s.updateKek m).bind fun kek => unwrapAll kek (keyRecords m 256 (beAt m 5 1)) with
  | none => s.complete c .authFail 0
  | some l =>
    let ctr := beAt m 24 2
    let out := s.blobSet ctr (installed s.kiln.slots l)
    s.kilnOutput c desc out out.length fun s => s.setKiln { s.kiln with update := some ⟨ctr, l⟩ }

/-- KEY_UPDATE. -/
def execKeyUpdate (n : Fin 4096) (desc : List Byte) (data : Option (List Byte)) (s : State) :
    Host.Outcome State Fault Refusal :=
  formed (.keyUpdate n desc data) (s.kilnCommand n desc .plain fun c s =>
    if kInLen desc < 400 ∨ 1888 < kInLen desc then s.complete c .badLength 0
    else s.kilnInput c desc data fun m s => s.kilnChecks c (s.updateChecks m) fun s => s.pendUpdate c desc m)

/-- The commit: OTP counter, records, cache, event. [DEDUCED, log entry 105] -/
def State.commitUpdate (s : State) (c : CmdRef) (u : KeyUpdate) : State :=
  let s := { s with otp := { s.otp with updateCtr := u.counter } }.put Reg.KILN.STATUS.UPDATE_CTR u.counter
  let s := (s.dropDerived (u.records.map (·.1))).emptyCache fun _ => true
  let s := s.setKiln { s.kiln with slots := installed s.kiln.slots u.records, update := none }
  (s.fire 229).complete c .done u.counter

/-- KEY_COMMIT. -/
def execKeyCommit (n : Fin 4096) (desc : List Byte) (s : State) : Host.Outcome State Fault Refusal :=
  formed (.keyCommit n desc) (s.kilnCommand n desc .plain fun c s =>
    match s.kiln.update with
    | some u => if u.counter = kSlot desc then s.commitUpdate c u else s.complete c .notFound 0
    | none => s.complete c .notFound 0)

/-! ### Class S keys (R287) and slots by command (R298) -/

/-- The source slot of KEY_UNWRAP or KEY_DERIVE: its use allowed and its class N. -/
def State.sourceError (s : State) (k use : Nat) : Option Status :=
  match s.slotError k use none, s.slot? k with
  | some st, _ => some st
  | none, some x => if attrClass x.attr = 2 then none else some .badKeyUse
  | none, none => some .notFound

/-- Fields of KEY_UNWRAP and KEY_DERIVE that are wrong. -/
def State.targetBad (s : State) (desc : List Byte) : Bool :=
  4096 ≤ kSlot desc || 4096 ≤ kSlot2 desc || !attrLegal (kAttr desc) || attrClass (kAttr desc) ≠ 1
  || (s.slot? (kSlot2 desc)).isSome

/-- A key from a source slot goes into the target slot, or the use of the source fails. -/
def State.newClassS (s : State) (c : CmdRef) (desc : List Byte) (use : Nat) (key : Slot → Option (List Byte)) : State :=
  if s.targetBad desc then s.complete c .badField 0
  else match s.sourceError (kSlot desc) use, s.slot? (kSlot desc) with
    | some st, _ => (s.countKeyError st).complete c st 0
    | none, none => s.complete c .notFound 0
    | none, some x =>
      match key x with
      | some k => (s.setSlots (Tbl.put s.kiln.slots (kSlot2 desc) ⟨kAttr desc, k⟩)).complete c .done 0
      | none => s.complete c .authFail 0

/-- KEY_UNWRAP. [DEDUCED, log entry 103] -/
def execKeyUnwrap (n : Fin 4096) (desc : List Byte) (data : Option (List Byte)) (s : State) :
    Host.Outcome State Fault Refusal :=
  formed (.keyUnwrap n desc data) (s.kilnCommand n desc .plain fun c s =>
    if s.targetBad desc then s.complete c .badField 0
    else if kInLen desc ≠ wrappedLen (kAttr desc) then s.complete c .badLength 0
    else s.kilnInput c desc data fun m s => s.newClassS c desc useWrap fun x => kwUnwrap x.key m)

/-- KEY_DERIVE: label WXS1 and the host value in bytes 6 to 13. -/
def execKeyDerive (n : Fin 4096) (desc : List Byte) (s : State) : Host.Outcome State Fault Refusal :=
  formed (.keyDerive n desc) (s.kilnCommand n desc .plain fun c s =>
    (s.newClassS c desc useDerive fun x =>
      some (kdfKey x.key [0x57, 0x58, 0x53, 0x31] (sliceB desc 37 8) (attrLen256 (kAttr desc)))))

/-- An enabled KEYMAP entry names a slot. -/
def State.mapNames (s : State) (k : Nat) : Bool :=
  (List.range 4096).any fun i =>
    let n := i / 1024
    let kc := i / 256 % 4
    let ix := i % 256
    s.on (Reg.KILN.KEYMAP.EN n kc ix) && (s.get (Reg.KILN.KEYMAP.VSLOT n kc ix) = k
      || (!s.on (Reg.KILN.KEYMAP.DERIVED n kc ix) && s.get (Reg.KILN.KEYMAP.GSLOT n kc ix) = k))

/-- KEY_CLEAR. [DEDUCED, log entry 105] -/
def execKeyClear (n : Fin 4096) (desc : List Byte) (s : State) : Host.Outcome State Fault Refusal :=
  formed (.keyClear n desc) (s.kilnCommand n desc .plain fun c s =>
    if 4096 ≤ kSlot desc ∨ s.mapNames (kSlot desc) then s.complete c .badField 0
    else
      let s := s.dropDerived [kSlot desc]
      (s.setSlots (Tbl.erase s.kiln.slots (kSlot desc))).complete c .done 0)

/-- KEY_INFO: ATTR, 0 for an empty slot. [DEDUCED, log entry 105] -/
def execKeyInfo (n : Fin 4096) (desc : List Byte) (s : State) : Host.Outcome State Fault Refusal :=
  formed (.keyInfo n desc) (s.kilnCommand n desc .plain fun c s =>
    if 4096 ≤ kSlot desc then s.complete c .badField 0
    else
      let a := ((s.slot? (kSlot desc)).map (·.attr)).getD 0
      s.kilnOutput c desc (leBytes 4 a) a id)

/-! ### Host checks (R267, R279, R280) -/

/-- Bytes of a check's tag. -/
def kTrunc (d : List Byte) : Nat := cvBytes (leAt d 1 1 % 4)

/-- What both host checks require before their request enters the queue. [DEDUCED, log entry 98] -/
def State.hostCheck (s : State) (c : CmdRef) (desc : List Byte) (data : Option (List Byte)) (go : List Byte → State → State) :
    State :=
  if kTrunc desc = 0 ∨ 4096 ≤ kSlot desc then s.complete c .badField 0
  else if 65535 < kInLen desc then s.complete c .badLength 0
  else if s.approved ∧ kTrunc desc = 4 then s.approvedReject.complete c .badKeyUse 0
  else s.kilnInput c desc data fun m s => if s.queueRoom 2 then go m s else s.complete c .busy 0

/-- CHECK_GEN: the check value is written once the engine has computed it (CHECK_ADMIT, CHECK_DONE). -/
def execCheckGen (n : Fin 4096) (desc : List Byte) (data : Option (List Byte)) (s : State) : Host.Outcome State Fault Refusal :=
  formed (.checkGen n desc data) (s.kilnCommand n desc .plain fun c s =>
    s.hostCheck c desc data fun m s =>
      if leAt desc 28 4 < kTrunc desc then s.complete c .badLength 0
      else match s.firstBad true (leAt desc 20 8) (kTrunc desc) with
        | some a => s.badAddress c a
        | none => s.newReq { why := .hostGen c (leAt desc 20 8), key := .slot (kSlot desc), kc := none, verify := false,
                             trunc := kTrunc desc, msg := m, tag := [], admitted := none })

/-- CHECK_VERIFY: the check value stands inline. -/
def execCheckVerify (n : Fin 4096) (desc : List Byte) (data : Option (List Byte)) (s : State) :
    Host.Outcome State Fault Refusal :=
  formed (.checkVerify n desc data) (s.kilnCommand n desc .plain fun c s =>
    s.hostCheck c desc data fun m s =>
      s.newReq { why := .hostVerify c, key := .slot (kSlot desc), kc := none, verify := true, trunc := kTrunc desc,
                 msg := m, tag := sliceB desc 37 (kTrunc desc), admitted := none })

/-! ### Random output and attestation (R290, R292) -/

/-- RANDOM: the output length says how many bytes. [DEDUCED, log entry 103] -/
def execRandom (n : Fin 4096) (desc : List Byte) (s : State) : Host.Outcome State Fault Refusal :=
  formed (.random n desc) (s.kilnCommand n desc ⟨false, false, false, true⟩ fun c s =>
    let len := leAt desc 28 4
    if len = 0 ∨ 4096 < len then s.complete c .badLength 0
    else s.kilnOutput c desc (s.draw len).2 0 fun s => (s.draw len).1)

/-- The nonce of an ATTEST descriptor; bytes past the descriptor's end are free. [DEDUCED, log entry 106] -/
def nonceOf (desc : List Byte) (len : Nat) : List Byte :=
  (List.range len).map fun i => if i < 27 then desc.getD (37 + i) 0 else Config.nonceByte i

/-- A die id, 0 for an absent die: H0, H1, F0 to F5. [DESIGN CHOICE, log entry 94] -/
def State.dieIdBytes (s : State) (i : Nat) : List Byte :=
  beBytes 2 (if (if i < 2 then i < s.part.variant.headDies else s.present (i - 2)) then Config.dieId i else 0)

/-- Bytes 0 to 415 of the statement of R292. -/
def State.statement (s : State) (nonce : List Byte) : List Byte :=
  let flags := bit s.kilnReady + 2 * bit s.approved + 4 * bit (s.kilnState = 3) + 8 * bit (s.watch.tamper ≠ 0)
    + 16 * bit (s.on Reg.KILN.STATUS.DEBUG_OPEN) + 32 * bit (s.kilnState = 4)
  [0x57, 0x58, 0x41, 0x54, 1] ++ beBytes 1 flags ++ beBytes 1 nonce.length ++ beBytes 1 s.kilnState ++ s.serialBytes
    ++ (List.range 8).flatMap s.dieIdBytes ++ beBytes 4 Config.bootRomVersion ++ beBytes 4 s.otp.lockState
    ++ beBytes 2 s.otp.updateCtr ++ beBytes 1 s.otp.floor ++ beBytes 1 s.otp.active ++ beBytes 1 s.watch.tamper.toNat
    ++ [0, 0, 0] ++ beBytes 4 s.watch.nightCnt ++ beBytes 4 s.otp.zeroisations ++ sliceB nonce 0 32
    ++ beBytes 8 s.stampNow ++ List.replicate 24 0 ++ s.digests

/-- ATTEST: signed in READY, zeros in place of the signature elsewhere. [DESIGN CHOICE, log entry 95] -/
def State.attest (s : State) (c : CmdRef) (desc : List Byte) : State :=
  let len := leAt desc 36 1
  if 32 < len then s.complete c .badLength 0
  else
    let m := s.statement (nonceOf desc len)
    if s.kilnReady then
      let k := s.draw 56
      s.kilnOutput c desc (m ++ ecdsaSign s.attestKey (Config.signSecret k.2) m) 0 fun _ => k.1
    else s.kilnOutput c desc (m ++ List.replicate 96 0) 0 id

/-- ATTEST. -/
def execAttest (n : Fin 4096) (desc : List Byte) (s : State) : Host.Outcome State Fault Refusal :=
  formed (.attest n desc) (s.kilnCommand n desc ⟨true, false, false, true⟩ fun c s => s.attest c desc)

/-- PUBKEYS: attestation, then update. -/
def execPubkeys (n : Fin 4096) (desc : List Byte) (s : State) : Host.Outcome State Fault Refusal :=
  formed (.pubkeys n desc) (s.kilnCommand n desc .plain fun c s =>
    s.kilnOutput c desc (publicKey s.attestKey ++ publicKey s.updateKey) 0 id)

/-! ### Presence commands (R293, R294) -/

/-- A digest goes into the next enrolment record and is activated. -/
def State.enrolKey (s : State) (c : CmdRef) (digest : List Byte) : State :=
  let l := s.otp.enrol ++ [digest]
  let s := { s with otp := { s.otp with enrol := l, active := l.length } }.put Reg.KILN.STATUS.ENROL_REC l.length
  (s.draw 8).1.complete c .done l.length

/-- ENROL. [DEDUCED, log entries 103, 107] -/
def execEnrol (n : Fin 4096) (desc : List Byte) (data : Option (List Byte)) (s : State) : Host.Outcome State Fault Refusal :=
  formed (.enrol n desc data) (s.kilnCommand n desc ⟨false, false, true, true⟩ fun c s =>
    s.kilnChecks c [(s.otp.active ≠ 0, .badField), (decide (8 ≤ s.otp.enrol.length), .tableFull),
        (kInLen desc ≠ 97, .badLength)] fun s =>
      s.kilnInput c desc data fun m s => s.enrolKey c (sha384 m))

/-- ZEROISE_REENROL: a new code offset is drawn before the DRBG's state goes, new helper data is written, the record
deactivated, and the part resets. [DEDUCED, log entry 107] -/
def execZeroiseReenrol (n : Fin 4096) (desc : List Byte) (s : State) : Host.Outcome State Fault Refusal :=
  formed (.zeroiseReenrol n desc) (s.kilnCommand n desc ⟨false, false, true, true⟩ fun c s =>
    if 8 ≤ s.otp.enrol.length then s.complete c .tableFull 0
    else
      let r := s.draw 4096
      let s := r.1.zeroise
      let s := { s with otp := { s.otp with helper := beVal r.2, active := 0 } }
      ((s.emitNow (.flash 1 0x10000 4096)).complete c .done 0).resetPart)

/-- DEBUG_UNLOCK. [DEDUCED, log entries 107, 109] -/
def execDebugUnlock (n : Fin 4096) (desc : List Byte) (s : State) : Host.Outcome State Fault Refusal :=
  formed (.debugUnlock n desc) (s.kilnCommand n desc ⟨false, false, true, false⟩ fun c s =>
    if s.approved then s.approvedReject.complete c .badField 0
    else ((s.zeroiseTo 4 false).put Reg.KILN.STATUS.DEBUG_OPEN 1).complete c .done 0)

/-- TAMPER_ACK: the latches are cleared, and the part resets. [DEDUCED, log entries 107, 110] -/
def execTamperAck (n : Fin 4096) (desc : List Byte) (s : State) : Host.Outcome State Fault Refusal :=
  formed (.tamperAck n desc) (s.kilnCommand n desc ⟨false, true, true, false⟩ fun c s =>
    (((s.setWatch { s.watch with tamper := 0 }).complete c .done 0)).resetPart)

/-- CACHE_FLUSH: the entries of a network and address, or of a whole network. -/
def execCacheFlush (n : Fin 4096) (desc : List Byte) (s : State) : Host.Outcome State Fault Refusal :=
  formed (.cacheFlush n desc) (s.kilnCommand n desc .plain fun c s =>
    let a := leAt desc 8 4
    let p (e : CacheEntry) : Bool := e.net = leAt desc 36 1 && (a = 0xFFFFFFFF || e.addr = a)
    (s.emptyCache p).complete c .done (s.kiln.cache.filter fun e => p e.2).length)

/-- KILN_BAD_OPCODE. [DEDUCED, log entry 100] -/
def execKilnBadOpcode (n : Fin 4096) (desc : List Byte) (s : State) : Host.Outcome State Fault Refusal :=
  formed (.kilnBadOpcode n desc) (s.kilnCommand n desc .plain fun c s => s.complete c .badOpcode 0)

/-! ### Tamper (R295, R296) -/

/-- Tamper after the root is regenerated: the part zeroises unless it already has. [DEDUCED, log entry 109] -/
def State.tamperRunning (s : State) (src : TamperSource) : State :=
  let s := s.latchTamper src false
  (if s.kilnState < 3 then s.zeroiseTo 4 true else s).fire 226

/-- A tamper source fires, by the phase the part is in. [DEDUCED, log entry 109] -/
def State.tamper (s : State) (src : TamperSource) : State :=
  match s.power.phase with
  | .noVstby => s
  | .night => s.latchTamper src true
  | .committed => s.latchTamper src true
  | .powerDown _ => s.latchTamper src true
  | .boot => if s.kilnState < 2 then s.tamperHold [src] else s.tamperRunning src
  | .running => s.tamperRunning src
  | .quiescing => s.tamperRunning src
  | _ => s.latchTamper src false

/-- TAMPER. -/
def execTamper (src : TamperSource) (s : State) : Host.Outcome State Fault Refusal :=
  .next (s.when (s.fires src) fun s => s.tamper src)

/-! ### Presence (R293) -/

/-- PRESENCE_SAMPLE. -/
def execPresenceSample (low : Bool) (s : State) : Host.Outcome State Fault Refusal :=
  .next (s.when s.logicUp fun s =>
    let n := if low then min 1000 (s.kiln.present + 1) else 0
    (s.setKiln { s.kiln with present := n }).put Reg.KILN.STATUS.PRESENT (bit (n = 1000)))

end Sys2Proof.Machine
end

