-- ==== Sys2Proof/Machine/Safe.lean ====
section
/-! DEFINITION. Redundancy (R300 to R309) and errors (R311, R314): head lockstep and switch-over, rejoin of a head, field-die
mismatches, patrol, self-tests and fencing, what an error does to its unit, acknowledgements, FAULT_N. -/

namespace Sys2Proof.Machine

/-- Replaces the redundancy state. -/
def State.setSafe (s : State) (x : Safe) : State := { s with safe := x }

/-! ### Heads (R300 to R304) -/

/-- SIGNATURE_EXCHANGE: a match confirms what was sent; a mismatch holds bulk outputs. [DEDUCED, log entry 127] -/
def State.exchange (s : State) (match0 : Bool) : State :=
  if match0 then s.setSafe { s.safe with unconfirmed := [], unconfirmedJob := s.tx.nextJob }
  else ((s.setSafe { s.safe with hold := true, holdJob := s.tx.nextJob }).fire 256).logError 4 (Config.logUnit 4) false false 0 0

/-- SIGNATURE_EXCHANGE. -/
def execSignatureExchange (sig0 sig1 : BitVec 32) (s : State) : Host.Outcome State Fault Refusal :=
  .next (s.when (s.live && s.on Reg.SAFE.HEAD.CHECKED && !s.safe.hold) fun s => s.exchange (sig0 = sig1))

/-- An output of the head that was active, as the head active now sends it: MSI-X by its own function.
[DEDUCED, log entry 127] -/
def State.reissued (s : State) (o : Output) : Output :=
  match o with
  | .msix _ v _ _ =>
    .msix s.active v (s.msixWord s.active (4 * v + 1) * 2 ^ 32 + s.msixWord s.active (4 * v)) (s.msixWord s.active (4 * v + 2))
  | .ethFrame _ p b => .ethFrame s.active p b
  | .hostWrite _ a b => .hostWrite s.active a b
  | .hostRead _ a n => .hostRead s.active a n
  | o => o

/-- An unconfirmed transmit frame: before its check instant it is withdrawn and its item rewound.
[DEDUCED, log entry 128] -/
def State.withdrawJob (s : State) (id : Nat) : State :=
  match s.job? id with
  | some j =>
    match j.kind, s.down? j.queue with
    | .ack _, _ => s
    | _, some d =>
      let past := s.tx.jobs.any fun p => p.1 ∈ d.jobs && (p.2.stage = .cleared || p.2.stage = .onAir)
      if id ∈ d.jobs && (j.stage = .building || j.stage = .ready) && !past && !d.sent then
        s.rewindDown j.queue { d with replayed := true }
      else s
    | _, none => s
  | none => s

/-- Vectors that pend at the function of the former head are signalled by the one active now (R235, R253).
[DEDUCED, log entry 88] -/
def State.movePending (s : State) : State :=
  let was := 1 - s.active
  let vs := (s.evt.pba.filter (· / 256 = was)).map (· % 256)
  ({ s with evt := { s.evt with pba := s.evt.pba.filter (· / 256 ≠ was) } }).each vs State.signal

/-- The active head is fenced: the other reissues its unconfirmed outputs and withdraws its unconfirmed frames. Completions
are not issued again, and no ring goes on where the host has not set up its function (R235).
[DEDUCED, log entries 127, 128, 199] -/
def State.takeOver (s : State) : State :=
  let l := (s.safe.unconfirmed.filter Output.bulk).map s.reissued
  let master := bitsAt (s.cfgWord s.active 1) 2 1 = 1
  let s := { s with out := s.out ++ l, safe := { s.safe with unconfirmed := [], held := s.safe.held.map s.reissued },
                    rings := { s.rings with stalled := s.rings.stalled || !master } }
  let sent := (s.tx.jobs.map (·.1)).filter fun id => s.safe.unconfirmedJob ≤ id && id < s.safe.holdJob
  s.movePending.each sent State.withdrawJob

/-- Head h is fenced; the other is active from then on. [DEDUCED, log entry 128] -/
def State.fenceHead (s : State) (h : Nat) : State :=
  let was := s.active
  let s := (s.put Reg.SAFE.HEAD.FENCED (2 ^ h)).put Reg.SAFE.HEAD.CHECKED 0
  let s := (s.put Reg.SAFE.HEAD.REJOIN_STATE 0).latchCause 0
  if was = h then ((s.put Reg.SAFE.HEAD.ACTIVE (1 - h)).incSat Reg.SAFE.HEAD.SWITCHOVERS).takeOver
  else s.setSafe { s.safe with unconfirmed := [] }

/-- HEAD_SELFCHECK_DONE: H1 is fenced unless H0 alone failed. -/
def execHeadSelfcheckDone (pass0 pass1 : Bool) (s : State) : Host.Outcome State Fault Refusal :=
  .next (s.when (s.live && s.safe.hold && s.on Reg.SAFE.HEAD.CHECKED) fun s => s.fenceHead (if !pass0 && pass1 then 0 else 1))

/-- BULK_RESUME: what was held goes out in order. [DEDUCED, log entry 127] -/
def State.resumeBulk (s : State) : State :=
  ({ s with out := s.out ++ s.safe.held, safe := { s.safe with hold := false, held := [] } }).fire 257

/-- BULK_RESUME. -/
def execBulkResume (s : State) : Host.Outcome State Fault Refusal :=
  .next (s.when (s.live && s.safe.hold && !s.on Reg.SAFE.HEAD.CHECKED) State.resumeBulk)

/-- A write of SAFE.HEAD_CTL. -/
def State.headCtl (s : State) (v : Nat) : State :=
  if bitsAt v 0 1 = 1 ∧ s.get Reg.SAFE.HEAD.FENCED ≠ 0 ∧ !s.on Reg.SAFE.HEAD_CTL.REJOIN then
    (s.put Reg.SAFE.HEAD_CTL.REJOIN 1).put Reg.SAFE.HEAD.REJOIN_STATE 1
  else s

/-- HEAD_REJOIN. -/
def execHeadRejoin (v : BitVec 32) (s : State) : Host.Outcome State Fault Refusal :=
  .next (s.hostWriteReg 0x280004 v.toNat fun s => s.headCtl v.toNat)

/-- A rejoin fails: the head stays fenced. -/
def State.rejoinFails (s : State) : State :=
  ((s.put Reg.SAFE.HEAD_CTL.REJOIN 0).put Reg.SAFE.HEAD.REJOIN_STATE 3).fire 259

/-- HEAD_REJOIN_SELFTEST. -/
def execHeadRejoinSelftest (pass : Bool) (s : State) : Host.Outcome State Fault Refusal :=
  .next (s.when (s.live && s.get Reg.SAFE.HEAD.REJOIN_STATE = 1) fun s =>
    if pass then s.put Reg.SAFE.HEAD.REJOIN_STATE 2
    else (s.logError 6 ((1 - s.active) * 4096 + Config.logUnit 6 % 4096) false false 0 0).rejoinFails)

/-- A die's error history starts afresh (R311). [DEDUCED, log entry 132] -/
def State.forgetErrors (s : State) (die : Nat) : State :=
  s.setSafe { s.safe with uncorrectable := s.safe.uncorrectable.filter (·.1 / 4096 ≠ die)
                          degraded := s.safe.degraded.filter (· / 4096 ≠ die) }

/-- The fenced head rejoins as checker. [DEDUCED, log entry 132] -/
def State.headRejoins (s : State) : State :=
  let s := s.forgetErrors (1 - s.active)
  let s := ((s.put Reg.SAFE.HEAD.FENCED 0).put Reg.SAFE.HEAD.CHECKED 1).put Reg.SAFE.HEAD.REJOIN_STATE 0
  let s := s.setSafe { s.safe with unconfirmed := [], unconfirmedJob := s.tx.nextJob }
  (s.put Reg.SAFE.HEAD_CTL.REJOIN 0).fire 258

/-- HEAD_REJOIN_DONE. -/
def execHeadRejoinDone (ok : Bool) (s : State) : Host.Outcome State Fault Refusal :=
  .next (s.when (s.live && s.get Reg.SAFE.HEAD.REJOIN_STATE = 2) fun s => if ok then s.headRejoins else s.rejoinFails)

/-! ### Fencing a field die (R307) -/

/-- A transmit frame of a fenced die: past C it is cut off, before C it is withdrawn and its item rewound.
[DEDUCED, log entry 133] -/
def State.fenceJob (s : State) (id : Nat) : State :=
  match s.job? id with
  | some j =>
    match j.stage, j.kind, s.down? j.queue with
    | .onAir, _, _ => (s.cutJob j).failJob id j .dieFenced
    | .cleared, _, _ => s.failJob id j .dieFenced
    | _, .ack _, _ => s.dropJob id
    | _, _, some d =>
      let past := s.tx.jobs.any fun p => p.1 ∈ d.jobs && (p.2.stage = .cleared || p.2.stage = .onAir)
      if past || d.sent || id ∉ d.jobs then s.failJob id j .dieFenced else s.rewindDown j.queue d
    | _, _, none => s.dropJob id
  | none => s

/-- Jobs of a die, those past C first. -/
def State.jobsOf (s : State) (f : Nat) : List Nat :=
  let l := s.tx.jobs.filter fun p => p.2.f = f
  let past (p : Nat × TxJob) : Bool := p.2.stage = .cleared || p.2.stage = .onAir
  (l.filter past).map (·.1) ++ (l.filter (!past ·)).map (·.1)

/-- Copies that die f has in groups. -/
def State.copiesOf (s : State) (f : Nat) : List Nat :=
  s.rx.groups.flatMap fun g => (g.2.copies.filter fun c => c.info.f = f).map (·.info.serial)

/-- What a die's units hold of detections, contexts and messages is gone. [DEDUCED, log entry 133] -/
def State.dropAir (s : State) (f : Nat) : State :=
  let a := s.air
  { s with air := { a with
    trackers := a.trackers.filter (·.1 / 2048 ≠ f), ctxs := a.ctxs.filter (·.1 / 4096 ≠ f), up := Tbl.erase a.up f,
    sending := a.sending.filter (·.1 ≠ f) }, rx := { s.rx with down := Tbl.erase s.rx.down f } }

/-- The Tun cores of a die are held in reset. -/
def State.resetCores (s : State) (f : Nat) : State :=
  s.each [0, 2] fun s k => s.setCore (8 + 4 * f + k) .init

/-- Field die f is fenced. -/
def State.fenceDie (s : State) (f : Nat) : State :=
  let s := (s.put (Reg.SAFE.FDIE.FENCED f) 1).put (Reg.SAFE.FDIE.SELFTEST f) 0
  let s := s.setSafe { s.safe with selftests := Tbl.erase s.safe.selftests f, patrol := Tbl.erase s.safe.patrol f }
  let s := s.each (List.range 8) fun s n => s.runOutputs f n false false
  let copies := s.copiesOf f
  let s := (s.dropAir f).each copies State.noticeIn
  let s := s.each (s.jobsOf f) State.fenceJob
  let s := s.each [0, 1] fun s mode => s.when (s.feeds f mode) fun s =>
    s.updRef (4 - mode) fun r => { r with cycleOk := some false }
  ((s.resetCores f).latchCause 1).fire 261

/-- Field die f is the last one not fenced. -/
def State.lastDie (s : State) (f : Nat) : Bool := s.diesUp = [f]

/-! ### What an error does to its unit (R310, R311) -/

/-- A unit is marked DEGRADED (source 264). [DESIGN CHOICE, log entry 130] -/
def State.degrade (s : State) (unit : Nat) : State :=
  let s := s.setSafe { s.safe with degraded := addDie s.safe.degraded unit }
  let s := if 0x2000 ≤ unit then s.put (Reg.SAFE.FDIE.DEGRADED (unit / 4096 - 2)) 1 else s
  (s.latchCause 2).fire 264

/-- What the table of R310 fences for a unit: a head, a field die, a policy core. -/
inductive FenceOf where
  | head (h : Nat)
  | die (f : Nat)
  | core (k : Nat)
deriving DecidableEq, Repr

/-- The table of R310, none for a unit it does not name. -/
def fenceOf (unit : Nat) : Option FenceOf :=
  let d := unit / 4096
  let u := unit % 4096
  if d < 2 then
    if 0x044 ≤ u ∧ u ≤ 0x047 then some (.core (u - 0x040))
    else if 0x070 ≤ u ∧ u ≤ 0x075 then some (.die (u - 0x070))
    else if u ∈ [0x010, 0x011, 0x020, 0x021, 0x030, 0x040, 0x041, 0x042, 0x043, 0x050, 0x060] then some (.head d)
    else none
  else if u ∈ [0x100, 0x101, 0x102, 0x103, 0x104, 0x110] then some (.die (d - 2))
  else none

/-- The fence a unit calls for can be made: it does not remove the last head or field die. -/
def State.mayFence (s : State) (x : FenceOf) : Bool :=
  match x with
  | .head h => s.headUp (1 - h)
  | .die f => s.dieUp f && !s.lastDie f
  | .core _ => true

/-- Makes a fence. A head that was active hands over with a hold of bulk outputs. [DEDUCED, log entry 128] -/
def State.makeFence (s : State) (x : FenceOf) : State :=
  match x with
  | .head h => if s.active = h then (s.setSafe { s.safe with hold := true, holdJob := s.tx.nextJob }).fenceHead h else s.fenceHead h
  | .die f => s.fenceDie f
  | .core k => s.haltPolicy k

/-- A unit that is to be fenced at once: its entry says so, and a fence that cannot be made degrades it.
[DEDUCED, log entry 138] -/
def State.fenceUnit (s : State) (code unit addr detail : Nat) : State :=
  match fenceOf unit with
  | some x =>
    let fence := s.mayFence x
    let s := s.logError code unit true fence addr detail
    if fence then s.makeFence x else s.degrade unit
  | none => s.logError code unit true false addr detail

/-- An uncorrectable error of a unit: logged, and at the second one its unit is fenced or degraded.
[DEDUCED, log entry 138] -/
def State.uncorrectable (s : State) (code unit addr detail : Nat) : State :=
  let n := Tbl.getD s.safe.uncorrectable unit 0 + 1
  let s := s.setSafe { s.safe with uncorrectable := Tbl.put s.safe.uncorrectable unit n }
  if n = 2 then s.fenceUnit code unit addr detail else s.logError code unit true false addr detail

/-! ### Field dies (R305, R306, R309) -/

/-- A die starts its self-test. -/
def State.startSelftest (s : State) (f : Nat) (why : SelftestWhy) : State :=
  (s.put (Reg.SAFE.FDIE.SELFTEST f) 1).setSafe { s.safe with selftests := Tbl.put s.safe.selftests f why }

/-- UNIT of the Tun core pairs of die f. -/
def pairUnit (f : Nat) : Nat := (2 + f) * 4096 + 0x110

/-- UNIT of die f in an entry whose unit R310 leaves open. -/
def dieUnit (f code : Nat) : Nat := (2 + f) * 4096 + Config.logUnit code % 4096

/-- FIELD_CORE_MISMATCH. [DESIGN CHOICE, log entry 130] -/
def State.coreMismatch (s : State) (f : Nat) : State :=
  let last := s.lastDie f
  let s := s.logError 5 (pairUnit f) false (!last) 0 0
  if last then s.startSelftest f .coreMismatch else s.fenceDie f

/-- FIELD_CORE_MISMATCH. -/
def execFieldCoreMismatch (f : Fin 6) (s : State) : Host.Outcome State Fault Refusal :=
  .next (s.when (s.live && s.dieUp f) fun s => s.coreMismatch f)

/-- Die f has an idle demodulator context. -/
def State.idleCtx (s : State) (f : Nat) : Bool := (s.air.ctxs.filter fun p => p.1 / 4096 = f).length < 4096

/-- The patrol of a die in its slot: its signature, or a wait for an idle demodulator context. -/
def State.patrolRun (s : State) (f : Nat) (sig : BitVec 64) : State :=
  if s.idleCtx f then
    s.setSafe { s.safe with patrol := Tbl.put s.safe.patrol f sig, patrolAt := Tbl.erase s.safe.patrolAt f
                            patrolWait := s.safe.patrolWait.filter (· ≠ f) }
  else s.setSafe { s.safe with patrolWait := addDie s.safe.patrolWait f }

/-- PATROL: in the slot drawn for it, or at a later moment of the cycle when a context is idle.
[DESIGN CHOICE, log entry 131] -/
def execPatrol (f : Fin 6) (signature : BitVec 64) (s : State) : Host.Outcome State Fault Refusal :=
  .next (s.when (s.live && s.dieUp f && !Tbl.has s.safe.selftests f
      && (Tbl.find? s.safe.patrolAt f).any (· ≤ s.time.msc % 48)) fun s => s.patrolRun f signature)

/-- The dies that had no idle context have skipped the patrol, and each die's slot of the next cycle is drawn (R306).
[DESIGN CHOICE, log entry 131] -/
def State.drawPatrols (s : State) : State :=
  let s := s.each (s.safe.patrolWait.filter s.dieUp) fun s f => s.incSat (Reg.SAFE.FDIE.PATROL_SKIP f)
  let s := s.setSafe { s.safe with patrolWait := [], patrolAt := [] }
  if !s.live || (!s.on Reg.RNG.STATUS.SEEDED && !s.on Reg.RNG.STATUS.FALLBACK) then s
  else s.each s.diesUp fun s f =>
    let r := s.drawNum
    r.1.setSafe { r.1.safe with patrolAt := Tbl.put r.1.safe.patrolAt f (r.2 % 48) }

/-- The signature that more than half of the dies sent. [DESIGN CHOICE, log entry 131] -/
def majority (l : Tbl (BitVec 64)) : Option (BitVec 64) :=
  (l.map (·.2)).find? fun x => l.length < 2 * (l.filter (·.2 = x)).length

/-- The comparison at the end of a cycle. [DESIGN CHOICE, log entries 130, 131] -/
def State.comparePatrol (s : State) : State :=
  let l := s.safe.patrol.filter fun p => s.dieUp p.1
  let s := s.setSafe { s.safe with patrol := [] }
  let note (s : State) (f : Nat) (fenced : Bool) : State := s.logError 5 (dieUnit f 5) false fenced 0 0
  match l with
  | [] => s
  | [(f, x)] => if x = Config.patrolSignature then s else (note s f false).startSelftest f .patrolSingle
  | [(f, x), (g, y)] =>
    if x = y then s
    else
      let s := (note (note s f false) g false).startSelftest f .patrolPair
      s.setSafe { s.safe with selftestNext := [g], pairPassed := [] }
  | _ =>
    match majority l with
    | some m => s.each (l.filter (·.2 ≠ m)) fun s p => (note s p.1 true).fenceDie p.1
    | none => (s.logError 5 (Config.logUnit 5) false false 0 0).fire 260

/-- A die of a differing pair has been tested: the next one follows, and two passes leave the patrol unresolved. -/
def State.pairTested (s : State) (f : Nat) (pass : Bool) : State :=
  let s := if pass then s.setSafe { s.safe with pairPassed := s.safe.pairPassed ++ [f] } else s
  match s.safe.selftestNext with
  | g :: l =>
    let s := s.setSafe { s.safe with selftestNext := l }
    if s.dieUp g then s.startSelftest g .patrolPair else s
  | [] => if s.safe.pairPassed.length = 2 then s.fire 260 else s

/-- A self-test fails: logged, and the die is fenced, the last one included. [DESIGN CHOICE, log entry 130] -/
def State.selftestFails (s : State) (f : Nat) : State :=
  let fenced := !s.dieFenced f
  let s := s.logError 6 (dieUnit f 6) false fenced 0 0
  if fenced then s.fenceDie f else s

/-- A self-test ends. -/
def State.selftestDone (s : State) (f : Nat) (why : SelftestWhy) (pass : Bool) : State :=
  let s := (s.put (Reg.SAFE.FDIE.SELFTEST f) 0).setSafe { s.safe with selftests := Tbl.erase s.safe.selftests f }
  let t := if pass then s else s.selftestFails f
  match why with
  | .coreMismatch => if pass then (s.logError 7 (pairUnit f) false false 0 0).degrade (pairUnit f) else t
  | .patrolPair => t.pairTested f pass
  | .patrolSingle => t
  | .rejoin => if pass then s else t.put (Reg.SAFE.FDIE.REJOIN f) 0

/-- FIELD_SELFTEST_DONE. -/
def execFieldSelftestDone (f : Fin 6) (pass : Bool) (s : State) : Host.Outcome State Fault Refusal :=
  .next (match Tbl.find? s.safe.selftests f with
    | some why => s.when s.live fun s => s.selftestDone f why pass
    | none => s)

/-- A write of SAFE.FDIE[f]: REJOIN of a fenced die starts its self-test. -/
def State.fdieCtl (s : State) (f v : Nat) : State :=
  if !s.present f then s.accessFault (0x280010 + f * 4) .unimplemented true false
  else if bitsAt v 2 1 = 1 ∧ s.dieFenced f ∧ !s.on (Reg.SAFE.FDIE.REJOIN f) then
    (s.put (Reg.SAFE.FDIE.REJOIN f) 1).startSelftest f .rejoin
  else s

/-- FDIE_REJOIN. -/
def execFdieRejoin (f : Fin 6) (v : BitVec 32) (s : State) : Host.Outcome State Fault Refusal :=
  .next (s.hostWriteReg (0x280010 + f * 4) v.toNat fun s => s.fdieCtl f v.toNat)

/-! ### Acknowledgement and FAULT_N (R311, R314) -/

/-- LOG_ACK: the entry with that sequence number is free. -/
def State.logAck (s : State) (seq : Nat) : State :=
  let l := s.safe.log.filter fun p => p.2.seq ≠ seq
  (s.setSafe { s.safe with log := l }).put Reg.SAFE.LOG_CTL.IN_USE l.length

/-- LOG_ACK. -/
def execLogAck (v : BitVec 32) (s : State) : Host.Outcome State Fault Refusal :=
  .next (s.hostWriteReg 0x280044 v.toNat fun s => s.logAck v.toNat)

/-- The condition of cause k of R314 stands. -/
def State.causeStands (s : State) (k : Nat) : Bool :=
  match k with
  | 0 => s.get Reg.SAFE.HEAD.FENCED ≠ 0
  | 1 => (List.range 6).any s.dieFenced
  | 2 => !s.safe.degraded.isEmpty
  | 3 => s.kilnState = 4 || s.kilnState = 5
  | _ => false

/-- A write of SAFE.FAULT_CTL: MASK, and the causes whose condition has ended. -/
def State.faultCtl (s : State) (v : Nat) : State :=
  let s := s.put Reg.SAFE.FAULT_CTL.MASK (16 + bitsAt v 0 4)
  s.each (List.range 5) fun s k =>
    if bitsAt v (8 + k) 1 = 1 ∧ !s.causeStands k then
      s.put Reg.SAFE.FAULT_CTL.CAUSE (putBits (s.get Reg.SAFE.FAULT_CTL.CAUSE) k 1 0)
    else s

/-- FAULT_CAUSE_CLEAR. -/
def execFaultCauseClear (v : BitVec 32) (s : State) : Host.Outcome State Fault Refusal :=
  .next (s.hostWriteReg 0x280060 v.toNat fun s => s.faultCtl v.toNat)

/-- FAULT_N is driven low (R35, R314). -/
def State.faultN (s : State) : Bool :=
  s.watch.tripLow || bitsAt (s.get Reg.SAFE.FAULT_CTL.CAUSE &&& s.get Reg.SAFE.FAULT_CTL.MASK) 0 4 ≠ 0

end Sys2Proof.Machine
end

