-- ==== Sys2Proof/Machine/Seq.lean ====
section
/-! DEFINITION. The SEQ sequencer (R94 to R97): its instruction words, the effect of each, slot starts, bank swaps, and
the end of HCB transactions. -/

namespace Sys2Proof.Machine

/-- The word of SEQ's active bank at a word index. -/
def State.seqWord (s : State) (f pc : Nat) : Nat :=
  Tbl.getD (if s.on (Reg.SEQ.STATUS.ACTIVE_BANK f) then (s.seq f).bank1 else (s.seq f).bank0) pc 0

/-- SEQ's current word. -/
def State.seqCur (s : State) (f : Nat) : Nat := s.seqWord f (s.get (Reg.SEQ.STATUS.PC f))

/-- The unnamed bits of a word are 0, given the mask of its named ones. -/
def onlyBits (w mask : Nat) : Bool := w &&& (2 ^ 60 - 1 - mask) = 0

/-- A word is legal under R94 and R95; a GAIN index is bounded by the source. -/
def State.seqLegal (s : State) (f w : Nat) : Bool :=
  match bitsAt w 60 4 with
  | 0 => onlyBits w 0
  | 1 => onlyBits w (2 ^ 21 - 1) && bitsAt w 0 21 ≤ 1999999
  | 2 => onlyBits w (7 * 2 ^ 57 + (2 ^ 15 - 1)) && bitsAt w 57 3 ≤ 5 && fcLegal (bitsAt w 0 15)
  | 3 => onlyBits w (0x3FF * 2 ^ 50 + (2 ^ 32 - 1)) && (bitsAt w 50 5 + 1) % 8 = 0
  | 4 => onlyBits w (0x3F * 2 ^ 54 + 2 ^ 53 + 15) && bitsAt w 54 6 ≤ 43
          && (if bitsAt w 53 1 = 1 then bitsAt w 0 4 = 0 else bitsAt w 0 4 ≤ s.gainTop f (bitsAt w 54 6))
  | 5 => onlyBits w (15 * 2 ^ 56) && bitsAt w 56 2 ≤ 2
  | 6 => onlyBits w 255
  | 7 => onlyBits w (0xFFF * 2 ^ 48 + 1023) && 1 ≤ bitsAt w 54 6 && bitsAt w 54 6 ≤ 48 && bitsAt w 48 6 < bitsAt w 54 6
  | _ => false

/-- SEQ stands at a legal word of an opcode, ready to run it. -/
def State.seqAt (s : State) (f op : Nat) : Bool :=
  s.dieUp f && (s.seq f).st = .running && bitsAt (s.seqCur f) 60 4 = op && s.seqLegal f (s.seqCur f)

/-- SEQ goes on at a word. -/
def State.seqGoto (s : State) (f pc : Nat) : State :=
  (s.setSeq f { s.seq f with st := .running }).put (Reg.SEQ.STATUS.PC f) (pc % 1024)

/-- SEQ goes on at the next word. -/
def State.seqNext (s : State) (f : Nat) : State := s.seqGoto f (s.get (Reg.SEQ.STATUS.PC f) + 1)

/-- The banks swap if a swap is pending (R96). [DEDUCED, log entry 35] -/
def State.seqSwapNow (s : State) (f : Nat) : State :=
  if s.on (Reg.SEQ.STATUS.SWAP_PENDING f) then
    ((s.put (Reg.SEQ.STATUS.ACTIVE_BANK f) (1 - s.get (Reg.SEQ.STATUS.ACTIVE_BANK f))).put
      (Reg.SEQ.STATUS.SWAP_PENDING f) 0).put (Reg.SEQ.CTL.SWAP f) 0
  else s

/-- The idle point: the slot's program ends and a pending swap is made (R94, R96). [DEDUCED, log entry 35] -/
def State.seqToIdle (s : State) (f : Nat) : State := (s.setSeq f { s.seq f with st := .idle }).seqSwapNow f

/-- FAULT and source 326 + 32f. -/
def State.seqFault (s : State) (f : Nat) : State := s.raise (Reg.SEQ.STATUS.FAULT f) f 6

/-- A slot start (R94): from word 0, or OVERRUN when IDLE has not been reached. -/
def State.seqSlot (s : State) (f : Nat) : State :=
  if (s.seq f).st ≠ .idle then s.raise (Reg.SEQ.STATUS.OVERRUN f) f 6
  else if s.on (Reg.SEQ.CTL.RUN f) then (s.setSeq f { s.seq f with slot := s.time.msc }).seqGoto f 0
  else s

/-- SEQ instruction IDLE. -/
def execSeqIdle (f : Fin 6) (s : State) : Host.Outcome State Fault Refusal :=
  .next (s.when (s.seqAt f 0) fun s => s.seqToIdle f)

/-- An offset of the slot whose program runs has passed. -/
def State.offsetPassed (s : State) (f ofs : Nat) : Bool :=
  s.mscNow ≠ (s.seq f).slot || (ofs : Int) ≤ s.meshNs % 2000000

/-- SEQ instruction WAIT. -/
def execSeqWait (f : Fin 6) (s : State) : Host.Outcome State Fault Refusal :=
  .next (s.when (s.seqAt f 1) fun s =>
    let ofs := bitsAt (s.seqCur f) 0 21
    if s.offsetPassed f ofs then s.seqNext f else s.setSeq f { s.seq f with st := .waiting ofs })

/-- WAIT_REACHED. -/
def execSeqWaitReached (f : Fin 6) (s : State) : Host.Outcome State Fault Refusal :=
  .next (match (s.seq f).st with
    | .waiting ofs => s.when (s.dieUp f && s.offsetPassed f ofs) fun s => s.seqNext f
    | _ => s)

/-- The effect of HOP (R94, R139, R143): the chain retunes, a receive chain's demodulator contexts end with
SOURCE_LOST, and SEQ stalls until lock. [DEDUCED, log entry 34] -/
def State.seqHopTo (s : State) (f chain fc : Nat) : State :=
  let s := s.setSeq f { s.seq f with st := .hopping chain }
  if chain < 4 then
    let s := s.retuneRx f chain fc
    s.eachCtx f (40 + chain) fun s i => s.endCtxs f (fun d => d.ctx = i) false (Reg.DEMOD.SOURCE_LOST f)
  else (s.put (Reg.FRF.TXCH.FC f (chain - 4)) fc).emitNow (.retune f chain fc)

/-- SEQ instruction HOP. -/
def execSeqHop (f : Fin 6) (s : State) : Host.Outcome State Fault Refusal :=
  .next (s.when (s.seqAt f 2) fun s => s.seqHopTo f (bitsAt (s.seqCur f) 57 3) (bitsAt (s.seqCur f) 0 15))

/-- HOP_LOCK: a receive chain's samples flow again, and its noise windows have met zeros (R94, R137). -/
def execSeqHopLock (f : Fin 6) (s : State) : Host.Outcome State Fault Refusal :=
  .next (match (s.seq f).st with
    | .hopping c => s.when (s.dieUp f) fun s =>
        (if c < 4 then s.eachCtx f (40 + c) fun s i => s.spoil f i .whole else s).seqNext f
    | _ => s)

/-- HOP_LOCK_TIMEOUT: FAULT, the chain off, and the program continues (R94). [DEDUCED, log entry 34] -/
def execSeqHopLockTimeout (f : Fin 6) (s : State) : Host.Outcome State Fault Refusal :=
  .next (match (s.seq f).st with
    | .hopping c => s.when (s.dieUp f) fun s =>
        let s := if c < 4 then (s.put (Reg.FRF.RXCH.EN f c) 0).stopChain f c else s.put (Reg.FRF.TXCH.EN f (c - 4)) 0
        (s.seqNext f).seqFault f
    | _ => s)

/-- SEQ instruction HCB: SEQ stalls until its transaction is done (R94, R99). -/
def execSeqHcb (f : Fin 6) (s : State) : Host.Outcome State Fault Refusal :=
  .next (s.when (s.seqAt f 3) fun s =>
    let w := s.seqCur f
    (s.setSeq f { s.seq f with st := .hcb }).hcbSeq f (bitsAt w 58 2)
      ⟨bitsAt w 55 3, bitsAt w 50 5 + 1, bitsAt w 0 32 % 2 ^ (bitsAt w 50 5 + 1), .program⟩)

/-- SEQ instruction GAIN: an index set and held, or the release to R87. -/
def execSeqGain (f : Fin 6) (s : State) (sample : Nat := 0) : Host.Outcome State Fault Refusal :=
  .next (s.when (s.seqAt f 4) fun s =>
    let w := s.seqCur f
    let src := bitsAt w 54 6
    let s := if bitsAt w 53 1 = 1 then s.setGain f src { s.gain f src with held := false }
      else (s.setGain f src { s.gain f src with held := true }).gainStep f src (bitsAt w 0 4) sample
    s.seqNext f)

/-- SEQ instruction CAL. -/
def execSeqCal (f : Fin 6) (s : State) : Host.Outcome State Fault Refusal :=
  .next (s.when (s.seqAt f 5) fun s => (s.calDue f (bitsAt (s.seqCur f) 58 2) (bitsAt (s.seqCur f) 56 2)).seqNext f)

/-- SEQ instruction EVENT: source 327 + 32f with its code in SEQ.STATUS. -/
def execSeqEvent (f : Fin 6) (s : State) : Host.Outcome State Fault Refusal :=
  .next (s.when (s.seqAt f 6) fun s =>
    ((s.put (Reg.SEQ.STATUS.EVT_CODE f) (bitsAt (s.seqCur f) 0 8)).fire (dieSource f 7)).seqNext f)

/-- SEQ instruction BRANCH. -/
def execSeqBranch (f : Fin 6) (s : State) : Host.Outcome State Fault Refusal :=
  .next (s.when (s.seqAt f 7) fun s =>
    let w := s.seqCur f
    if s.time.msc % bitsAt w 54 6 = bitsAt w 48 6 then s.seqGoto f (bitsAt w 0 10) else s.seqNext f)

/-- SEQ_ILLEGAL: FAULT is set and SEQ goes to IDLE (R94, R95). -/
def execSeqIllegal (f : Fin 6) (s : State) : Host.Outcome State Fault Refusal :=
  .next (s.when (s.dieUp f && (s.seq f).st = .running && !s.seqLegal f (s.seqCur f)) fun s => (s.seqFault f).seqToIdle f)

/-- A SEQ.PROG write (R96): into the shadow bank, or dropped with BUSY while a swap is pending. -/
def State.seqProg (s : State) (f p v : Nat) : State :=
  if s.on (Reg.SEQ.STATUS.SWAP_PENDING f) then s.put (Reg.SEQ.STATUS.LAST_WR f) Status.busy.code
  else
    let q := s.seq f
    let s := if s.on (Reg.SEQ.STATUS.ACTIVE_BANK f) then s.setSeq f { q with bank0 := Tbl.put q.bank0 p v }
      else s.setSeq f { q with bank1 := Tbl.put q.bank1 p v }
    s.put (Reg.SEQ.STATUS.LAST_WR f) Status.done.code

/-- SEQ_PROG_WRITE. -/
def execSeqProgWrite (f : Fin 6) (p : Fin 1024) (v : BitVec 64) (s : State) : Host.Outcome State Fault Refusal :=
  .next (s.hostWrite64 (dieOffset f (0xC8000 + p * 8)) v.toNat fun s => s.seqProg f p v.toNat)

/-- A SEQ.CTL write (R96): SWAP reads 1 until the swap is made; at the idle point a swap is made at once; a second SWAP has no effect.
[DEDUCED, log entry 35] -/
def State.seqCtl (s : State) (f v : Nat) : State :=
  let s := s.put (Reg.SEQ.CTL.RUN f) (bitsAt v 0 1)
  if bitsAt v 1 1 = 1 then
    let s := (s.put (Reg.SEQ.STATUS.SWAP_PENDING f) 1).put (Reg.SEQ.CTL.SWAP f) 1
    if (s.seq f).st = .idle then s.seqSwapNow f else s
  else s

/-- SEQ_SWAP. A write of SEQ.CTL. -/
def execSeqSwap (f : Fin 6) (v : BitVec 32) (s : State) : Host.Outcome State Fault Refusal :=
  .next (s.hostWriteReg (dieOffset f 0xC0000) v.toNat fun s => s.seqCtl f v.toNat)

/-- What the end of a transaction does: SEQ goes on, a converter step waits for its settling, host data arrives. -/
def State.hcbEffect (s : State) (f : Nat) (t : HcbTx) (miso : Nat) : State :=
  match t.why with
  | .program => if (s.seq f).st = .hcb then s.seqNext f else s
  | .gain src n => s.setGain f src { s.gain f src with
      steps := (s.gain f src).steps.map fun x => if x.serial = n then { x with written := true } else x }
  | .host rd =>
    let s := s.put (Reg.SEQ.HCB_HOST.GO f) 0
    if rd then s.put (Reg.SEQ.HCB_HOST.DATA f) (miso % 2 ^ t.len) else s

/-- HCB_DONE. -/
def execHcbDone (f : Fin 6) (m : Fin 4) (miso : BitVec 32) (s : State) : Host.Outcome State Fault Refusal :=
  .next (match (s.hcb f m).cur with
    | some t => s.when (s.dieUp f) fun s =>
        ((s.setHcb f m { s.hcb f m with cur := none }).hcbEffect f t miso.toNat).hcbNext f m
    | none => s)

end Sys2Proof.Machine
end

