-- ==== Sys2Proof/Machine/Cycle.lean ====
section
/-! DEFINITION. The slot tick and the cycle tick (R51) with what starts at them, and the two writes that wait for a
cycle boundary: MAC.PROFILE (R8, R182) and MAC.NET_CFG (R109). -/

namespace Sys2Proof.Machine

/-! ### The slot tick (R51, R62, R81, R94, R227, R228) -/

/-- Group g counts as open in the slot that starts (R222): an entry that overlaps it opens a class, or there is no list. -/
def State.slotOpen (s : State) (g : Nat) : Bool :=
  let l := match Tbl.find? s.sched.pending g with
    | some p => if p.start = s.time.msc then p else s.gateList g
    | none => s.gateList g
  if l.entries.isEmpty then true
  else
    let p := ((s.time.msc : Int) - l.start) * 2000000 % (l.cycle : Int)
    (gateSpans 0 l.entries).any fun x => x.1 ≠ 0 && (x.2.1 : Int) < p + 2000000 && p < (x.2.2 : Int)

/-- A transmit group that uses chain c is open in the slot (R81). [DEDUCED, log entry 155] -/
def State.chainInUse (s : State) (f c : Nat) : Bool :=
  (List.range 512).any fun i =>
    s.ctxOnChain f c i && s.on (Reg.TX.SERVE.EN f i)
    && s.slotOpen (s.get (Reg.SCHED.OUT_GROUP.GROUP f (s.get (Reg.TX.SERVE.OUT f i))))

/-- The calibrations that start in this slot. [DEDUCED, log entry 155] -/
def State.slotCals (s : State) : State :=
  s.each s.diesUp fun s f => s.each (List.range 4) fun s c => s.runCals f c (!s.chainInUse f c)

/-- Frames that a PAUSE held back at a port, given by head and port, go out. -/
def State.drainAt (s : State) (x : Nat × Nat) : State := s.drainPort x.1 x.2

/-- What the units whose programs and queues go by the slot do at its start: SEQ of each die, then the ports. -/
def State.slotUnits (s : State) : State :=
  (s.each s.diesUp State.seqSlot).each [(0, 0), (0, 1), (1, 0), (1, 1)] State.drainAt

/-- A slot's start, in the model's order. [DEDUCED, log entries 18, 19] -/
def State.slotTick (s : State) (failed : List (Fin 6)) (trips : List (Fin 6 × Nat)) : State :=
  let s := { s with time := { s.time with msc := s.mscNow }, air := { s.air with clampTold := [] } }
  ((s.calibrateDies failed trips).timerSlot).slotCals.slotUnits.refill.starveScan

/-- SLOT_TICK. The field dies whose link calibration failed in this slot, and the round trips measured in ps. -/
def execSlotTick (failed : List (Fin 6)) (s : State) (trips : List (Fin 6 × Nat) := []) :
    Host.Outcome State Fault Refusal :=
  .next (s.when (s.logicUp && s.mscNow ≠ s.time.msc) fun s => s.slotTick failed trips)

/-! ### Profiles (R8, R182) -/

/-- Every field die that is present meets the capacity checks of Evening. [DEDUCED, log entry 154] -/
def State.thriftOk (s : State) : Bool :=
  ((List.range 6).filter s.present).all fun f =>
    (List.range 40).all (fun k => s.linkFits f k 2) && s.wCount f ≤ wLimit 2

/-- A MAC.PROFILE write. [DEDUCED, log entry 154] -/
def State.profileWrite (s : State) (v : Nat) : State :=
  let sel := bitsAt v 0 2
  if sel = 3 then (s.put Reg.MAC.PROFILE.LAST_WR Status.badField.code).illegal 0x180000
  else if sel = 2 ∧ !s.thriftOk then s.put Reg.MAC.PROFILE.LAST_WR Status.badField.code
  else
    let s := (s.put Reg.MAC.PROFILE.SEL sel).put Reg.MAC.PROFILE.PENDING (bit (sel ≠ s.profile))
    s.put Reg.MAC.PROFILE.LAST_WR Status.done.code

/-- PROFILE_WRITE. -/
def execProfileWrite (v : BitVec 32) (s : State) : Host.Outcome State Fault Refusal :=
  .next (s.hostWriteReg 0x180000 v.toNat fun s => s.profileWrite v.toNat)

/-- LEVEL_REQ with every present field die at Evening and the heads as they are. -/
def State.fieldsEvening (s : State) : Nat :=
  ((List.range 6).filter s.present).foldl (fun v f => withLevel v (2 + f) 2) s.levelReq

/-- The field dies move to Evening, unless they are there. -/
def State.toEvening (s : State) : State :=
  if ((List.range 6).filter s.present).all (fun f => s.fieldLevel f = 2) && s.power.change.isNone then
    s.putLevelReq s.fieldsEvening
  else (s.putLevelReq s.fieldsEvening).askChange

/-- The profile requested takes effect at the boundary. [DEDUCED, log entry 154] -/
def State.applyProfile (s : State) : State :=
  let sel := s.get Reg.MAC.PROFILE.SEL
  if sel = s.profile then s
  else
    let s := (s.put Reg.MAC.PROFILE.ACTIVE sel).put Reg.MAC.PROFILE.PENDING 0
    (if sel = 2 then s.toEvening else s).fire 179

/-- BLEND.CFG takes effect at the boundary (R157). -/
def State.applyBlend (s : State) : State :=
  { s with blendForce := ⟨s.get Reg.BLEND.CFG.WINDOW_US, s.on Reg.BLEND.CFG.REDECODE, s.get Reg.BLEND.CFG.TS_TOL⟩ }

/-! ### Networks (R109) -/

/-- A sync word that no network may use. -/
def syncBanned (w : Nat) : Bool :=
  w = 0 || w = 0xFFFFFFFF || hamming32 w 0x55555555 ≤ 8 || hamming32 w 0xAAAAAAAA ≤ 8

/-- Network m, as written, lies too close to a sync word with the same code set. -/
def State.syncClose (s : State) (m w codeSet err : Nat) : Bool :=
  s.on (Reg.MAC.NET_CFG.EN m) && s.get (Reg.MAC.NET_CFG.CODESET m) = codeSet
  && (hamming32 w (s.get (Reg.MAC.NET_SYNC.SYNC m)) ≤ 2 * err + 2
      || hamming32 w (0xFFFFFFFF - s.get (Reg.MAC.NET_SYNC.SYNC m)) ≤ 2 * err + 2)

/-- The sync word of network n fails the checks of a write that sets EN. -/
def State.syncBad (s : State) (n codeSet err : Nat) : Bool :=
  let w := s.get (Reg.MAC.NET_SYNC.SYNC n)
  syncBanned w || (List.range 4).any fun m => m ≠ n && s.syncClose m w codeSet err

/-- The illegal values of NET_CFG. [DEDUCED, log entry 154] -/
def State.netCfgIllegal (s : State) (n v : Nat) : Bool :=
  4 < bitsAt v 3 3
  || (s.on (Reg.MAC.NET_CFG.EN n) && bitsAt v 1 2 ≠ s.get (Reg.MAC.NET_CFG.CODESET n))
  || (!s.on (Reg.MAC.NET_CFG.EN n) && bitsAt v 0 1 = 1 && s.syncBad n (bitsAt v 1 2) (bitsAt v 3 3))

/-- A NET_CFG write; it reaches the air at the next boundary. -/
def State.netCfg (s : State) (n v : Nat) : State :=
  if s.netCfgIllegal n v then s.illegal (0x180204 + n * 8)
  else
    let s := (s.put (Reg.MAC.NET_CFG.EN n) (bitsAt v 0 1)).put (Reg.MAC.NET_CFG.CODESET n) (bitsAt v 1 2)
    (s.put (Reg.MAC.NET_CFG.SYNC_ERR n) (bitsAt v 3 3)).put (Reg.MAC.NET_CFG.NETID n) (bitsAt v 16 16)

/-- NET_CFG_WRITE. -/
def execNetCfgWrite (n : Fin 4) (v : BitVec 32) (s : State) : Host.Outcome State Fault Refusal :=
  .next (s.hostWriteReg (0x180204 + n * 8) v.toNat fun s => s.netCfg n v.toNat)

/-- A NET_SYNC write: illegal while EN is 1. -/
def State.netSync (s : State) (n v : Nat) : State :=
  if s.on (Reg.MAC.NET_CFG.EN n) then s.illegal (0x180200 + n * 8) else s.put (Reg.MAC.NET_SYNC.SYNC n) v

/-- The networks as written take effect at the boundary. -/
def State.applyNets (s : State) : State :=
  s.each (List.range 4) fun s n =>
    if s.on (Reg.MAC.NET_CFG.EN n) then
      { s with nets := Tbl.put s.nets n ⟨s.get (Reg.MAC.NET_SYNC.SYNC n), s.get (Reg.MAC.NET_CFG.CODESET n),
                                         s.get (Reg.MAC.NET_CFG.SYNC_ERR n), s.get (Reg.MAC.NET_CFG.NETID n)⟩ }
    else { s with nets := Tbl.erase s.nets n }

/-! ### The crystal (R82) -/

/-- The crystal is outside ±0.5 ppm by the addend: its direction, 0 within. -/
def State.xtalError (s : State) : Int :=
  let d := (s.time.base : Int) - nominalAddend
  if nominalAddend < d * 2000000 then 1 else if d * 2000000 < -nominalAddend then -1 else 0

/-- One 0.05 ppm step of the trim at most, within ±40 ppm, while a crystal is selected and a reference qualified.
[DESIGN CHOICE, log entry 24] -/
def State.trimStep (s : State) : State :=
  if s.watch.refSel || s.on Reg.CLK.XTAL_TRIM.HOLD || !([1, 2, 3, 4].any fun r => (s.time.ref r).qualified) then s
  else
    let t := signedOf 11 (s.get Reg.CLK.XTAL_TRIM.TRIM) + (if Config.trimRaises then s.xtalError else -s.xtalError)
    s.put Reg.CLK.XTAL_TRIM.TRIM (fieldOf 11 (max (-800) (min 800 t)))

/-! ### The cycle tick (R51) -/

/-- A mesh cycle boundary passes: the cycle that ended is reported and judged, and what waits for the boundary takes
effect. [DEDUCED, log entry 19] -/
def State.cycleTick (s : State) (pilots : List (Fin 6 × Int)) : State :=
  let s := (s.bcastCycle pilots).ptpCycle.peerCycle
  let s := s.timeCycle
  let s := { s with time := { s.time with lastCycle := some s.time.msc } }
  let s := s.trimStep.applyHclkSs
  let s := s.applyProfile.applyBlend.applyNets
  s.comparePatrol.drawPatrols.coolCycle

/-- CYCLE_TICK. The field dies whose chain saw the pilot throughout the cycle, with its frequency error in 10^-3 ppm.
[DEDUCED, log entry 19] -/
def execCycleTick (pilots : List (Fin 6 × Int)) (s : State) : Host.Outcome State Fault Refusal :=
  .next (s.when (s.logicUp && s.time.msc % 48 = 0 && s.time.lastCycle ≠ some s.time.msc) fun s => s.cycleTick pilots)

end Sys2Proof.Machine
end

