-- ==== Sys2Proof/Machine/Tun.lean ====
section
/-! DEFINITION. A Tun core's step (R340 to R352): modes, fetch, exceptions, interrupts, and the SYS group. A command is
one instruction that the core executes at its pc. -/

namespace Sys2Proof.Machine

/-! ### Cores -/

/-- The key of a core in the state: the cores of a lockstep pair share one. [DEDUCED, log entry 136] -/
def coreKey (c : TunCore) : Nat :=
  match c with
  | .head k => k
  | .field f k => 8 + 4 * f + 2 * (k / 2)

/-- A core runs in mode P (R340). -/
def policyMode (c : TunCore) : Bool :=
  match c with
  | .head k => 4 ≤ k.val
  | .field _ _ => false

/-- The unit of a core in the error log (R310). -/
def State.coreUnit (s : State) (c : TunCore) : Nat :=
  match c with
  | .head k => s.active * 4096 + 0x040 + k
  | .field f _ => pairUnit f

/-- CORE_ID (R344): the die as UNIT numbers it, and the core's number, the even one of a pair.
[DEDUCED, log entry 136] -/
def State.coreId (s : State) (c : TunCore) : Nat :=
  match c with
  | .head k => k + 8 * s.active
  | .field f k => 2 * (k / 2) + 8 * (2 + f)

/-- The core's die is up. -/
def State.coreThere (s : State) (c : TunCore) : Bool :=
  match c with
  | .head _ => true
  | .field f _ => s.dieUp f

/-- The core executes instructions: its die is up, it runs, and no WFE holds it. -/
def State.executes (s : State) (c : TunCore) : Bool :=
  s.logicUp && s.coreThere c && (s.core (coreKey c)).st = .running && !(s.core (coreKey c)).wfe

/-- A general register: g0 reads as 0 (R344). -/
def TunRun.rd (r : TunRun) (i : Fin 16) : Word := if i = 0 then 0 else r.g.getD i 0

/-- Writes a general register; writes to g0 are discarded. -/
def TunRun.wr (r : TunRun) (i : Fin 16) (v : Word) : TunRun := if i = 0 then r else { r with g := r.g.set i v }

/-- The core goes to the next instruction. -/
def TunRun.next (r : TunRun) : TunRun := { r with pc := r.pc + 4 }

/-! ### Exceptions and interrupts (R351, R352) -/

/-- The causes of R351. -/
def causeIllegal : Nat := 0x01
/-- ALIGN. -/
def causeAlign : Nat := 0x02
/-- ACCESS. -/
def causeAccess : Nat := 0x03
/-- BREAK. -/
def causeBreak : Nat := 0x04
/-- ECC. -/
def causeEcc : Nat := 0x05

/-- Entry to the handler at EVEC with a resume address. -/
def TunRun.enter (r : TunRun) (cause : Nat) (epc bad : Word) : TunRun :=
  { r with epc := epc, cause := BitVec.ofNat 32 cause, badaddr := bad, pie := r.ie, ie := false, pc := r.evec, wfe := false }

/-- An exception in mode F; inside the handler it is a double fault as well. [DEDUCED, log entry 138] -/
def State.excF (s : State) (c : TunCore) (cause : Nat) (bad : Word) : State :=
  let r := s.core (coreKey c)
  let s := if !r.ie && Config.inHandler r.evec r.epc then s.fenceUnit 8 (s.coreUnit c) r.pc.toNat cause else s
  if s.coreThere c then s.setCore (coreKey c) (r.enter cause r.pc bad) else s

/-- An exception in mode P: latched, reported, and the hook call ends. [DEDUCED, log entry 137] -/
def State.excP (s : State) (k cause : Nat) (bad : Word) : State :=
  let s := s.latchExc k cause (s.core k).pc.toNat bad.toNat
  ((s.bump Reg.TUN.EXCEPTIONS).fire (288 + (k - 4))).abandonCall k .wait

/-- An exception of the instruction at the core's pc. -/
def State.exception (s : State) (c : TunCore) (cause : Nat) (bad : Word) : State :=
  if policyMode c then s.excP (coreKey c) cause bad else s.excF c cause bad

/-- What an instruction of registers alone leads to: new registers, or a cause with its BADADDR. -/
inductive TunRes where
  | go (r : TunRun)
  | exc (cause : Nat) (bad : Word)
deriving DecidableEq, Repr

/-- The cause of a fetch that fails: a pc that is misaligned or outside TCM (R341, R345). -/
def fetchCause (pc : Word) : Option Nat :=
  if pc.toNat % 4 ≠ 0 ∧ (pc.toNat < 0x40000 ∨ Config.alignFirst pc.toNat) then some causeAlign
  else if 0x40000 ≤ pc.toNat then some causeAccess
  else none

/-- One instruction of a core: its fetch, then what it does. [DEDUCED, log entry 135] -/
def State.tunFetch (s : State) (c : TunCore) (go : TunRun → State) : State :=
  if !s.executes c then s
  else
    let r := s.core (coreKey c)
    match fetchCause r.pc with
    | some k => s.exception c k r.pc
    | none => go r

/-- An instruction that works on registers alone. [DEDUCED, log entry 135] -/
def State.tunStep (s : State) (c : TunCore) (f : TunRun → TunRes) : State :=
  s.tunFetch c fun r => match f r with
    | .go r' => s.setCore (coreKey c) r'
    | .exc k bad => s.exception c k bad

/-- An instruction that writes one value to gD. -/
def State.tunWrite (s : State) (c : TunCore) (d : Fin 16) (v : TunRun → Word) : State :=
  s.tunStep c fun r => .go (r.wr d (v r)).next

/-- An instruction of mode F only (R346). -/
def State.tunF (s : State) (c : TunCore) (f : TunRun → TunRun) : State :=
  s.tunStep c fun r => if policyMode c then .exc causeIllegal r.pc else .go (f r)

/-- The oldest interrupt line that waits is taken once IE is 1 (R352). [DEDUCED, log entry 142] -/
def TunRun.takeLine (r : TunRun) : TunRun :=
  match r.ie, r.lines with
  | true, l :: ls => { r with lines := ls }.enter (0x10 + l) r.pc 0
  | _, _ => r

/-- INTERRUPT: taken in mode F while IE is 1, else it waits; a WFE ends with it. [DEDUCED, log entry 142] -/
def State.interrupt (s : State) (c : TunCore) (line : Nat) : State :=
  let r := s.core (coreKey c)
  let lines := if line ∈ r.lines then r.lines else r.lines ++ [line]
  s.setCore (coreKey c) { r with lines := lines, wfe := false }.takeLine

/-- INTERRUPT. -/
def execTunInterrupt (c : TunCore) (line : Fin 16) (s : State) : Host.Outcome State Fault Refusal :=
  .next (s.when (s.logicUp && s.coreThere c && (s.core (coreKey c)).st = .running && !policyMode c) fun s => s.interrupt c line)

/-! ### SYS group (R344, R346, R355) -/

/-- NOP. -/
def execTunNop (c : TunCore) (s : State) : Host.Outcome State Fault Refusal := .next (s.tunStep c fun r => .go r.next)

/-- FENCE: a core's stores complete in order here. -/
def execTunFence (c : TunCore) (s : State) : Host.Outcome State Fault Refusal := .next (s.tunStep c fun r => .go r.next)

/-- DONE: the hook call of a policy core ends; ILLEGAL in mode F. [DEDUCED, log entry 141] -/
def State.tunDone (s : State) (c : TunCore) : State :=
  s.tunFetch c fun r =>
    if !policyMode c then s.exception c causeIllegal r.pc
    else match s.callOn (coreKey c) with
      | some (call, h) => (s.setCore (coreKey c) r.next).finishCall call (coreKey c) h
      | none => s.setCore (coreKey c) { r.next with st := .wait }

/-- DONE. -/
def execTunDone (c : TunCore) (s : State) : Host.Outcome State Fault Refusal := .next (s.tunDone c)

/-- BRK. -/
def execTunBrk (c : TunCore) (s : State) : Host.Outcome State Fault Refusal :=
  .next (s.tunStep c fun _ => .exc causeBreak 0)

/-- WFE: a line that waits ends it at once. [DEDUCED, log entry 142] -/
def execTunWfe (c : TunCore) (s : State) : Host.Outcome State Fault Refusal :=
  .next (s.tunF c fun r => { r.next with wfe := r.lines.isEmpty })

/-- ERET, after which a waiting line is taken if IE is 1. -/
def execTunEret (c : TunCore) (s : State) : Host.Outcome State Fault Refusal :=
  .next (s.tunF c fun r => { r with pc := r.epc, ie := r.pie }.takeLine)

/-- A control register as MFC reads it. [DEDUCED, log entry 141] -/
def State.control (s : State) (c : TunCore) (r : TunRun) (i : Nat) : Word :=
  match i with
  | 0 => BitVec.ofNat 32 (2 * bit r.ie + 4 * bit r.pie)
  | 1 => r.cause
  | 2 => r.epc
  | 3 => r.badaddr
  | 4 => r.evec
  | 5 => BitVec.ofNat 32 (Config.cycleCount s.free)
  | 6 => BitVec.ofNat 32 (s.coreId c)
  | 7 => 0
  | i => Config.openControl i s.free

/-- MFC: a read of CYCLE, or of a register R344 does not list, takes a free value. -/
def execTunMfc (c : TunCore) (d a : Fin 16) (s : State) : Host.Outcome State Fault Refusal :=
  .next ((s.tunF c fun r => (r.wr d (s.control c r a)).next).spend 1)

/-- A control register as MTC writes it: MODE, CYCLE and CORE_ID keep their values, EVEC stays word aligned.
[DEDUCED, log entry 141] -/
def TunRun.setControl (r : TunRun) (i : Nat) (v : Word) : TunRun :=
  match i with
  | 0 => { r with ie := v.getLsbD 1, pie := v.getLsbD 2 }
  | 1 => { r with cause := v }
  | 2 => { r with epc := v }
  | 3 => { r with badaddr := v }
  | 4 => { r with evec := v &&& 0xFFFFFFFC }
  | _ => r

/-- MTC, after which a waiting line is taken if IE is 1. -/
def execTunMtc (c : TunCore) (d a : Fin 16) (s : State) : Host.Outcome State Fault Refusal :=
  .next (s.tunF c fun r => (r.setControl d (r.rd a)).next.takeLine)

/-- TUN_ILLEGAL: an opcode, a function or a non-zero field that R345 and R346 do not list. -/
def execTunIllegal (c : TunCore) (word : BitVec 32) (s : State) : Host.Outcome State Fault Refusal :=
  if tunWordLegal word.toNat then .refused .illFormed else .next (s.tunStep c fun r => .exc causeIllegal r.pc)

end Sys2Proof.Machine
end

