-- ==== Sys2Proof/Machine/Errors.lean ====
section
/-! DEFINITION. Detected hardware errors (R220, R310, R311, R342): what each counts, logs and does to its unit. -/

namespace Sys2Proof.Machine

/-- The unit id of a die and a unit (R310). -/
def unitId (die unit : Nat) : Nat := die * 4096 + unit

/-- The unit is one that the table of R310 names, of a die that is present and not fenced. -/
def State.unitThere (s : State) (unit : Nat) : Bool :=
  (fenceOf unit).isSome && (if unit / 4096 < 2 then s.headUp (unit / 4096) else s.dieUp (unit / 4096 - 2))

/-- An error of a unit that has no outcome of its own beside R310 and R311. -/
def State.unitError (s : State) (unit : Nat) (uncorrectable : Bool) (addr detail : Nat) : State :=
  if !s.unitThere unit then s
  else if uncorrectable then s.uncorrectable 2 unit addr detail
  else s.logError 1 unit false false addr detail

/-- The unit of the Cask state and pool, on the active head. [DEDUCED, log entry 134] -/
def State.caskUnit (s : State) : Nat := unitId s.active 0x021

/-- A corrected error of Cask: counted and logged. [DEDUCED, log entry 134] -/
def State.caskCorrected (s : State) (count : Fld) (index : Nat) : State :=
  (s.bumpSat count).logError 1 s.caskUnit false false index 0

/-- An uncorrectable error of Cask: its outcome, then the log. [DEDUCED, log entry 134] -/
def State.caskLost (s : State) (q : Nat) (outcome : State → State) : State :=
  (outcome s).uncorrectable 2 s.caskUnit q 0

/-- An error in a word of a Tun core (R342). An uncorrectable one raises ECC in the core whose access met it.
[DEDUCED, log entry 145] -/
def State.tunError (s : State) (c : TunCore) (uncorrectable : Bool) (addr : Word) : State :=
  if !s.coreThere c then s
  else if !uncorrectable then s.logError 1 (s.coreUnit c) false false addr.toNat 0
  else if !s.executes c then s
  else
    let s := s.uncorrectable 2 (s.coreUnit c) addr.toNat 0
    if s.executes c then s.exception c causeEcc addr else s

/-- Stored bits of a node-table entry flip, which nothing detects before a lookup (R204).
[DESIGN CHOICE, log entry 184] -/
def State.flipNode (s : State) (i : Nat) (word : BitVec 128) (par : BitVec 4) : State :=
  match Tbl.find? s.node.tab i with
  | some e =>
    { s with node := { s.node with tab := Tbl.put s.node.tab i ⟨e.word ^^^ word.toNat, e.par ^^^ par.toNat⟩ } }
  | none => s

/-- What a detected error does. -/
def State.hwError (s : State) : HwError → State
  | .ofUnit die unit unc addr detail => s.unitError (unitId die unit.toNat) unc addr.toNat detail.toNat
  | .caskStateCorrected q => s.caskCorrected (Reg.CASK.ECC_QGRP (q / 65536)) q
  | .caskBufferCorrected b => s.caskCorrected (Reg.CASK.ECC_REGION (b / 1048576)) b
  | .caskItem q => s.caskLost q fun s => s.loseHead q
  | .caskLinkOne q => s.caskLost q fun s => s.caskFault q
  | .caskLinkBoth q => s.caskLost q fun s => s.loseLinks q
  | .caskState q => s.caskLost q fun s => s.loseQueue q
  | .nodeBits i word par => s.flipNode i word par
  | .tunWord c unc addr => s.tunError c unc addr

/-- The unit an error is logged under, none where nothing is logged. -/
def State.errorUnit (s : State) : HwError → Nat
  | .ofUnit die unit _ _ _ => unitId die unit.toNat
  | .nodeBits _ _ _ => 0
  | .tunWord c _ _ => s.coreUnit c
  | _ => s.caskUnit

/-- Puts an error behind those of lower and of its own unit. -/
def State.insertError (s : State) (l : List HwError) (e : HwError) : List HwError :=
  l.takeWhile (fun x => s.errorUnit x ≤ s.errorUnit e) ++ e :: l.dropWhile (fun x => s.errorUnit x ≤ s.errorUnit e)

/-- Errors detected in one HCLK cycle: in ascending unit order, the second of a unit NESTED (R312). -/
def State.hwErrors (s : State) (es : List HwError) : State :=
  let s := s.each (es.foldl s.insertError []) fun s e =>
    let t := s.hwError e
    t.setSafe { t.safe with thisCycle := s.errorUnit e :: t.safe.thisCycle }
  s.setSafe { s.safe with thisCycle := [] }

/-- ERROR_LOG: the errors detected in one HCLK cycle. -/
def execErrorLog (es : List HwError) (s : State) : Host.Outcome State Fault Refusal :=
  formed (.errorLog es) (s.when s.live fun s => s.hwErrors es)

end Sys2Proof.Machine
end

