-- ==== Sys2Proof/Machine/RegTable.lean ====
section
/-! DEFINITION. The register tables of the chapters as one list: where each register lies, its words, its arrays, its
fields with their access codes, stated ranges and reset values, and the operation that a write or a read of it is
beside storing its fields. -/

namespace Sys2Proof.Machine

/-- The access codes of R10; `st` is a read-only statistics word. RWL fields are locked by their own operation. -/
inductive Access where
  | rw | ro | wo | w1c | w1s | st
deriving DecidableEq, Repr

/-- A field of a register: its lowest bit, its width, the values its table allows, its reset value. -/
structure RegField where
  acc : Access
  lo : Nat
  width : Nat
  least : Nat
  most : Nat
  rst : Nat
deriving DecidableEq, Repr

/-- What an access to a register is beside its fields; `plain` is nothing. -/
inductive RegOp where
  | plain
  | statistic (src : Nat)
  | hclkSs
  | clkoutCtl
  | clkoutTiming
  | timeNow
  | addend
  | timeSet
  | msc
  | meshOffset
  | refPrio
  | timeCtl
  | ppsTod
  | timersGo
  | chCtl
  | count
  | compare
  | capture
  | linkCfg
  | linkStatus
  | stream
  | gainCtl
  | rxch
  | txch
  | cx
  | blankCtl
  | seqCtl
  | hcbCfg
  | hcbHost
  | seqProg
  | netSync
  | netCfg
  | rateAdv
  | lbtCfg
  | twinCfg
  | lbtBand
  | profile
  | spargeStream
  | steepCtl
  | startThr
  | steepRate
  | floorSel
  | floorData
  | track
  | ctx
  | hearCmd
  | elk
  | txOut
  | bcastCtl
  | bcastTune
  | bcastRing
  | bcastSubch
  | nodeCmd
  | nodeCfg
  | schedCfg
  | schedClass
  | outGroup
  | bucket
  | gateCtl
  | gateShadow
  | tokens
  | caskCfg
  | caskCmd
  | poolBase
  | pool
  | poolFree
  | held
  | ringCtl
  | ringStatus
  | ringArea
  | hostIdx
  | partIdx
  | dbBase
  | ringFault
  | ringFaultAddr
  | win
  | rxMap
  | evtMap
  | pend
  | again
  | portCfg
  | ptpCfg
  | fpMap
  | fpTplCtl
  | fpTpl
  | kilnCtl
  | tamper
  | dlFloor
  | kilnQueue
  | keymap
  | rngCtl
  | headCtl
  | fdie
  | logCtl
  | logAck
  | log
  | accessFault
  | faultCtl
  | levelReq
  | dusk
  | pmI2c
  | rail
  | wakeCause
  | nightCnt
  | nightCtl
  | watchCfg
  | bootCtl
  | tunCore
  | tunPc
  | policyCfg
  | ftunStatus
  | identDevice
  | identRev
  | identCap
  | identFunc
  | identSerial
deriving DecidableEq, Repr

/-- A register: offset, 32-bit words, its arrays from the outermost (entries, stride), its fields. -/
structure RegRow where
  base : Nat
  words : Nat
  dims : List (Nat × Nat)
  fields : List RegField
  op : RegOp
deriving DecidableEq, Repr

/-- A field of which every value is allowed. -/
def field (acc : Access) (lo width rst : Nat) : RegField := ⟨acc, lo, width, 0, 2 ^ width - 1, rst⟩

/-- A field with a stated range. -/
def fieldIn (lo width least most rst : Nat) : RegField := ⟨.rw, lo, width, least, most, rst⟩

/-- Registers of 02_package.md. -/
def regRows0 : List RegRow := [
  -- PKG.THERM
  ⟨0x10040, 1, [], [field .ro 0 10 0, field .ro 10 3 0, field .ro 16 1 0, field .ro 17 1 0], .plain⟩]

/-- Registers of 03_clocks_and_mesh_time.md. -/
def regRows1 : List RegRow := [
  -- CLK.HCLK_SS
  ⟨0x20010, 1, [], [field .rw 0 2 0, field .rw 2 4 0], .hclkSs⟩,
  -- F[f].FDIE.CLKOUT_CTL[n]
  ⟨0x1000200, 1, [(6, 0x400000), (8, 0x10)], [field .rw 0 1 0, field .rw 1 1 0, field .rw 2 2 0, field .rw 4 10 0xc, field .rw 16 16 1], .clkoutCtl⟩,
  -- F[f].FDIE.CLKOUT_TIMING[n]
  ⟨0x1000204, 1, [(6, 0x400000), (8, 0x10)], [field .rw 0 16 0, field .ro 16 1 0, field .rw 17 5 0xa], .clkoutTiming⟩,
  -- TIME.NOW
  ⟨0x30010, 4, [], [field .ro 0 30 0, field .ro 30 2 3, field .ro 32 32 0x6955b900, field .ro 64 16 0, field .ro 80 16 0], .timeNow⟩,
  -- TIME.ADDEND
  ⟨0x30020, 2, [], [field .ro 0 32 0x6a000000, field .ro 32 8 0x18], .addend⟩,
  -- TIME.SET
  ⟨0x30030, 4, [], [field .wo 0 30 0, field .wo 32 48 0, field .wo 127 1 0], .timeSet⟩,
  -- TIME.MSC
  ⟨0x30060, 2, [], [field .ro 0 48 0, field .ro 48 6 0], .msc⟩,
  -- TIME.MESH_OFFSET
  ⟨0x30050, 1, [], [field .rw 0 27 0], .meshOffset⟩,
  -- TIME.REF_PRIO
  ⟨0x30040, 1, [], [fieldIn 0 3 0 4 1, fieldIn 4 3 0 4 2, fieldIn 8 3 0 4 3, fieldIn 12 3 0 4 4, field .rw 16 1 1], .refPrio⟩,
  -- TIME.REF_STATUS
  ⟨0x30044, 1, [], [field .ro 0 16 0, field .ro 16 3 0, field .ro 19 3 0, field .ro 22 1 0, field .ro 23 4 0, field .ro 27 2 3], .plain⟩,
  -- TIME.CTL
  ⟨0x30000, 1, [], [field .rw 0 1 0, field .w1s 1 1 0, field .ro 2 8 0], .timeCtl⟩,
  -- TIME.PPS_TOD
  ⟨0x30070, 2, [], [field .rw 0 48 0], .ppsTod⟩,
  -- TIMERS.GO
  ⟨0x40000, 1, [], [field .wo 0 32 0], .timersGo⟩,
  -- TIMERS.CH_CTL[k]
  ⟨0x40100, 1, [(32, 0x20)], [field .rw 0 1 0, field .rw 1 2 0, field .rw 3 1 0, field .rw 4 1 0, field .rw 5 3 0, field .rw 8 1 0, field .rw 9 1 0, field .rw 10 1 0, field .rw 12 16 0], .chCtl⟩,
  -- TIMERS.CH_STATUS[k]
  ⟨0x40114, 1, [(32, 0x20)], [field .w1c 0 1 0, field .w1c 1 1 0, field .ro 2 1 0, field .w1c 3 1 0], .plain⟩]

/-- Registers of 04_aerial_front_end.md. -/
def regRows2 : List RegRow := [
  -- F[f].LINK.CFG[k]
  ⟨0x1040000, 1, [(6, 0x400000), (48, 0x20)], [field .rw 0 1 0, field .rw 1 2 0, field .rw 3 6 0, field .rw 9 5 2, field .rw 14 1 0, field .rw 15 3 4, field .rw 18 8 0, field .rw 26 3 0], .linkCfg⟩,
  -- F[f].LINK.STREAM[i]
  ⟨0x1041000, 1, [(6, 0x400000), (512, 0x4)], [field .rw 0 1 0, field .rw 1 1 0, field .rw 2 6 0, field .rw 8 4 0, field .rw 12 2 0, field .rw 14 4 8], .stream⟩,
  -- F[f].LINK.STATUS[k]
  ⟨0x1040008, 1, [(6, 0x400000), (48, 0x20)], [field .ro 0 3 0, field .w1c 3 1 0, field .w1c 4 1 0, field .ro 8 8 0, field .ro 16 16 0], .linkStatus⟩,
  -- F[f].FRF.RXCH[c]
  ⟨0x1080000, 1, [(6, 0x400000), (4, 0x10)], [field .rw 0 1 0, field .w1s 1 1 0, field .rw 2 15 0x1a90, field .ro 17 4 6, field .rw 21 1 0, field .w1c 22 1 0, field .ro 23 8 0, field .ro 31 1 0], .rxch⟩,
  -- F[f].FRF.TXCH[c]
  ⟨0x1080040, 1, [(6, 0x400000), (2, 0x10)], [field .rw 0 1 0, field .rw 1 15 0x1a90, field .rw 16 5 0, field .w1c 21 1 0, field .ro 22 1 0, field .ro 23 8 0], .txch⟩,
  -- F[f].FRF.CX[n]
  ⟨0x1080100, 1, [(6, 0x400000), (4, 0x10)], [field .rw 0 1 0, field .rw 1 1 0, field .rw 2 1 0, fieldIn 3 10 1 1000 0x64, field .rw 13 10 0, fieldIn 23 8 1 255 0xa], .cx⟩,
  -- F[f].SEQ.CTL
  ⟨0x10C0000, 1, [(6, 0x400000)], [field .rw 0 1 0, field .w1s 1 1 0], .seqCtl⟩,
  -- F[f].SEQ.STATUS
  ⟨0x10C0004, 1, [(6, 0x400000)], [field .ro 0 1 0, field .ro 1 1 0, field .w1c 2 1 0, field .w1c 3 1 0, field .ro 4 10 0, field .ro 14 8 0, field .ro 22 8 0], .plain⟩,
  -- F[f].SEQ.HCB_CFG[n]
  ⟨0x10C0020, 1, [(6, 0x400000), (4, 0x4)], [fieldIn 0 10 49 1023 0xc7, field .rw 10 16 0, field .rw 26 1 0], .hcbCfg⟩]

/-- Registers of 05_air_interface.md. -/
def regRows3 : List RegRow := [
  -- MAC.NET_SYNC[n]
  ⟨0x180200, 1, [(4, 0x8)], [field .rw 0 32 0], .netSync⟩,
  -- MAC.NET_CFG[n]
  ⟨0x180204, 1, [(4, 0x8)], [field .rw 0 1 0, field .rw 1 2 0, field .rw 3 3 2, field .rw 16 16 0], .netCfg⟩,
  -- MAC.UNSEC
  ⟨0x180240, 1, [], [fieldIn 0 8 0 63 0], .plain⟩,
  -- MAC.WAKE_CFG
  ⟨0x180244, 1, [], [fieldIn 0 8 1 254 0x2d, field .rw 8 24 0], .plain⟩,
  -- MAC.RATE_ADV
  ⟨0x180050, 1, [], [field .rw 0 1 0, field .rw 1 8 0x14, field .rw 9 8 6], .rateAdv⟩]

/-- Registers of 06_channel_extraction_and_steep.md. -/
def regRows4 : List RegRow := [
  -- F[f].SPARGE.STREAM[i]
  ⟨0x1100000, 1, [(6, 0x400000), (512, 0x4)], [field .rw 0 1 0, field .rw 1 6 0, field .ro 8 8 0], .spargeStream⟩,
  -- F[f].SPARGE.STATUS
  ⟨0x1100800, 1, [(6, 0x400000)], [field .ro 0 9 0, field .ro 9 17 0], .plain⟩,
  -- F[f].STEEP.CTL
  ⟨0x1140000, 1, [(6, 0x400000)], [field .rw 0 1 1, field .w1s 1 1 0], .steepCtl⟩,
  -- F[f].STEEP.START_THR
  ⟨0x1140004, 1, [(6, 0x400000)], [field .rw 0 16 0xfee0], .startThr⟩,
  -- F[f].STEEP.RATE[r]
  ⟨0x1140020, 1, [(6, 0x400000), (5, 0x4)], [fieldIn 0 8 1 255 0, field .rw 8 8 0, field .rw 16 1 1], .steepRate⟩,
  -- F[f].STEEP.FLOOR_SEL
  ⟨0x1140040, 1, [(6, 0x400000)], [field .rw 0 9 0, field .rw 9 8 0, field .rw 17 1 0], .floorSel⟩,
  -- F[f].STEEP.FLOOR_DATA
  ⟨0x1140044, 1, [(6, 0x400000)], [field .ro 0 16 0x8000, field .ro 16 9 0, field .ro 31 1 0], .floorData⟩,
  -- F[f].STEEP.TRACK
  ⟨0x1140048, 1, [(6, 0x400000)], [field .ro 0 12 0, field .ro 12 12 0], .track⟩]

/-- Registers of 07_demod_blend_decode.md. -/
def regRows5 : List RegRow := [
  -- F[f].DEMOD.CTL
  ⟨0x1180000, 1, [(6, 0x400000)], [fieldIn 0 10 1 1023 0x3c], .plain⟩,
  -- F[f].DEMOD.CTX
  ⟨0x1180004, 1, [(6, 0x400000)], [field .ro 0 13 0, field .ro 13 13 0], .ctx⟩,
  -- F[f].DEMOD.GRID[i]
  ⟨0x1181000, 1, [(6, 0x400000), (512, 0x4)], [field .rw 0 16 0], .plain⟩,
  -- BLEND.CFG
  ⟨0x1A0000, 1, [], [fieldIn 0 9 1 500 0x28, field .rw 9 1 0, fieldIn 10 7 1 80 0x10], .plain⟩,
  -- BLEND.ELK
  ⟨0x1A0004, 1, [], [field .rw 0 12 0, field .rw 12 1 0], .elk⟩]

/-- Registers of 08_medium_access.md. -/
def regRows6 : List RegRow := [
  -- F[f].TX.OUT[o]
  ⟨0x11C0000, 1, [(6, 0x400000), (98, 0x10)], [field .rw 0 1 0, field .rw 1 9 0, field .rw 10 5 6, field .rw 15 1 0, field .rw 16 3 0, field .rw 19 7 0], .txOut⟩,
  -- F[f].TX.SERVE[i]
  ⟨0x11C1000, 1, [(6, 0x400000), (512, 0x4)], [field .rw 0 7 0, field .rw 7 1 0], .plain⟩,
  -- MAC.PROFILE
  ⟨0x180000, 1, [], [field .rw 0 2 0, field .ro 2 2 0, field .ro 4 1 0, field .ro 5 8 0], .profile⟩,
  -- MAC.ACK_CFG
  ⟨0x180010, 1, [], [fieldIn 0 11 100 2000 0x1f4, fieldIn 11 11 100 2000 0x1f4, fieldIn 22 7 1 127 0x32, field .rw 29 3 3], .plain⟩,
  -- MAC.LBT_CFG
  ⟨0x180020, 1, [], [fieldIn 0 4 3 8 3, fieldIn 4 4 3 8 5, fieldIn 8 3 1 5 5], .lbtCfg⟩,
  -- MAC.GUARD_CFG
  ⟨0x180030, 1, [], [fieldIn 0 11 0 2000 0xc8, fieldIn 11 7 1 127 0x28, field .rw 18 5 5], .plain⟩,
  -- MAC.TWIN_CFG
  ⟨0x180040, 1, [], [field .rw 0 1 0, fieldIn 1 11 0 2000 0xc8, field .rw 12 8 2], .twinCfg⟩,
  -- MAC.WAKE_TX
  ⟨0x180248, 1, [], [fieldIn 0 11 0 1999 0x1f4, field .rw 11 5 0], .plain⟩,
  -- MAC.WAKE_FREQ[j]
  ⟨0x180250, 1, [(4, 0x4)], [field .rw 0 16 0, field .rw 16 1 0], .plain⟩,
  -- MAC.LBT_BAND[b]
  ⟨0x180280, 2, [(4, 0x8)], [field .rw 0 16 0, field .rw 16 16 0, field .rw 32 16 0xfea0, field .rw 48 8 0x28, field .rw 56 1 0, field .rw 57 1 1], .lbtBand⟩]

/-- Registers of 09_broadcast_tuner.md. -/
def regRows7 : List RegRow := [
  -- F[f].BCAST.CTL
  ⟨0x1200000, 1, [(6, 0x400000)], [field .rw 0 1 0, field .rw 1 1 0, field .rw 2 1 0, field .rw 3 1 0, field .rw 4 1 0, field .rw 5 1 0, field .rw 6 2 1, field .rw 8 8 0xa], .bcastCtl⟩,
  -- F[f].BCAST.TUNE
  ⟨0x1200004, 1, [(6, 0x400000)], [field .rw 0 18 0x15a18], .bcastTune⟩,
  -- F[f].BCAST.STATUS
  ⟨0x1200008, 1, [(6, 0x400000)], [field .ro 0 16 0, field .ro 16 1 0, field .ro 17 1 0, field .ro 18 1 0, field .ro 19 1 0, field .ro 20 8 0], .plain⟩,
  -- F[f].BCAST.TIMING
  ⟨0x1200010, 2, [(6, 0x400000)], [fieldIn 0 27 0 95999999 0, field .rw 32 20 0, field .rw 52 8 0, field .rw 63 1 0], .plain⟩,
  -- F[f].BCAST.RING
  ⟨0x1200018, 1, [(6, 0x400000)], [field .rw 0 12 0, field .rw 12 1 0, field .rw 16 12 0, field .rw 28 1 0], .bcastRing⟩,
  -- F[f].BCAST.SUBCH[j]
  ⟨0x1200020, 1, [(6, 0x400000), (4, 0x4)], [field .rw 0 6 0, field .rw 6 1 0, field .w1c 7 1 0], .bcastSubch⟩]

/-- Registers of 10_node_table.md. -/
def regRows8 : List RegRow := [
  -- F[f].DEMOD.HEAR_CMD
  ⟨0x1182000, 1, [(6, 0x400000)], [field .rw 0 2 0, field .w1s 2 1 0, field .ro 3 1 0, field .ro 4 8 0, field .rw 12 18 0], .hearCmd⟩,
  -- NODE.CMD
  ⟨0x140000, 1, [], [field .rw 0 3 0, field .w1s 3 1 0, field .ro 4 1 0, field .w1c 5 1 0, field .ro 8 8 0], .nodeCmd⟩,
  -- NODE.ARG
  ⟨0x140008, 2, [], [field .rw 0 32 0, field .rw 32 21 0], .plain⟩,
  -- NODE.DATA
  ⟨0x140010, 4, [], [field .rw 0 128 0], .plain⟩,
  -- NODE.RESULT
  ⟨0x140020, 1, [], [field .ro 0 21 0, field .ro 21 2 0, field .ro 23 1 0], .plain⟩,
  -- NODE.CFG
  ⟨0x140030, 1, [], [field .rw 0 18 0, field .rw 18 1 1, field .rw 19 1 0], .nodeCfg⟩,
  -- NODE.AGE
  ⟨0x140034, 1, [], [fieldIn 0 25 37500 27000000 0x602160, field .rw 25 1 1], .plain⟩,
  -- NODE.FLOOD[j]
  ⟨0x140040, 1, [(8, 0x4)], [fieldIn 0 12 0 3071 0, field .rw 12 1 0], .plain⟩,
  -- NODE.PERR
  ⟨0x140060, 1, [], [field .ro 0 21 0], .plain⟩]

/-- Registers of 11_cask_queues_and_scheduling.md. -/
def regRows9 : List RegRow := [
  -- SCHED.CFG
  ⟨0x100000, 1, [], [field .rw 0 1 1, fieldIn 1 3 0 4 2, fieldIn 4 11 50 2000 0x12c, fieldIn 15 11 0 2000 0x7d0, field .rw 26 6 0x3f], .schedCfg⟩,
  -- SCHED.CLASS[c]
  ⟨0x100020, 1, [(8, 0x4)], [fieldIn 0 18 1280 262143 0x800, fieldIn 18 11 0 2000 0], .schedClass⟩,
  -- SCHED.OUT_GROUP[f][o]
  ⟨0x100400, 1, [(6, 0x200), (98, 0x4)], [field .rw 0 6 0], .outGroup⟩,
  -- SCHED.BUCKET[g][c]
  ⟨0x101000, 2, [(64, 0x80), (8, 0x10)], [field .rw 0 20 0, fieldIn 20 20 1280 1048575 0x500, field .rw 40 1 0], .bucket⟩,
  -- SCHED.GATE_CTL[g]
  ⟨0x104000, 1, [(64, 0x10)], [field .rw 0 9 0, field .w1s 9 1 0, field .w1s 10 1 0, field .ro 11 1 0, field .ro 12 1 0, field .ro 13 1 0, field .ro 14 8 0, field .ro 22 8 0], .gateCtl⟩,
  -- SCHED.GATE_ENTRY[g][e]
  ⟨0x108000, 1, [(64, 0x400), (256, 0x4)], [field .rw 0 8 0, field .rw 8 16 0], .gateShadow⟩,
  -- CASK.CFG
  ⟨0x120000, 1, [], [field .rw 0 1 0, field .rw 1 16 0x100], .caskCfg⟩,
  -- CASK.CMD
  ⟨0x120100, 1, [], [field .rw 0 3 0, field .w1s 3 1 0, field .ro 4 1 0, field .ro 8 8 0], .caskCmd⟩]

/-- Registers of 12_host_rings_and_events.md. -/
def regRows10 : List RegRow := [
  -- RING.CTL[n]
  ⟨0x80000, 1, [(4096, 0x20)], [field .rw 0 1 0, field .rw 1 3 0, field .rw 4 5 4, field .rw 9 3 6, field .rw 12 12 0, field .w1s 24 1 0], .ringCtl⟩,
  -- RING.STATUS[n]
  ⟨0x80004, 1, [(4096, 0x20)], [field .ro 0 1 0, field .ro 1 8 0, field .ro 9 16 0], .ringStatus⟩,
  -- RING.POLL
  ⟨0xA0000, 1, [], [fieldIn 0 12 1 4000 8, field .rw 12 1 1], .plain⟩,
  -- RING.DB_BASE
  ⟨0xA0008, 2, [], [field .rw 15 49 0], .dbBase⟩,
  -- RING.FAULT
  ⟨0xA0010, 1, [], [field .ro 0 12 0, field .ro 12 8 0, field .ro 20 11 0, field .w1c 31 1 0], .ringFault⟩,
  -- RING.WIN[w]
  ⟨0xA0100, 4, [(16, 0x10)], [field .rw 0 1 0, field .rw 1 1 0, field .rw 2 1 0, field .rw 12 52 0, field .rw 76 52 0], .win⟩,
  -- RING.RX_MAP[n][t]
  ⟨0xA0200, 1, [(4, 0x20), (8, 0x4)], [field .rw 0 12 0, field .rw 12 1 0], .rxMap⟩,
  -- EVT.MAP[s]
  ⟨0xC0000, 1, [(512, 0x4)], [field .rw 0 1 0, field .rw 1 8 0, field .rw 9 1 0, field .rw 10 12 0, field .rw 22 1 0], .evtMap⟩]

/-- Registers of 13_ethernet_and_network_time.md. -/
def regRows11 : List RegRow := [
  -- ETH.PORT_CFG[h][p]
  ⟨0x1C0000, 1, [(2, 0x80), (2, 0x40)], [field .rw 0 1 0, field .rw 1 2 0, field .rw 3 1 1, field .rw 4 1 0, fieldIn 5 14 1518 9216 0x5f2], .portCfg⟩,
  -- ETH.PTP_CFG
  ⟨0x1C0100, 1, [], [field .rw 0 1 0, field .rw 1 8 0, field .rw 9 1 0, field .rw 10 1 0, field .rw 11 1 0, fieldIn 12 4 2 10 3, field .rw 16 1 1], .ptpCfg⟩,
  -- ETH.PTP_STATUS
  ⟨0x1C0104, 1, [], [field .ro 0 1 0, field .ro 1 1 0, field .ro 2 1 0], .plain⟩,
  -- ETH.PRP_CFG
  ⟨0x1C0140, 1, [], [field .rw 0 1 1, field .rw 1 1 1, fieldIn 2 12 100 4000 0x7d0, fieldIn 14 10 10 1000 0x190], .plain⟩,
  -- ETH.FP_MAP[n][t]
  ⟨0x1C0200, 1, [(4, 0x20), (8, 0x4)], [field .rw 0 5 0, field .rw 5 1 0, field .rw 6 1 0, field .rw 7 1 0], .fpMap⟩,
  -- ETH.FP_TPL_CTL[t]
  ⟨0x1C1040, 1, [(32, 0x80)], [field .rw 0 7 0x3e, field .w1s 7 1 0, field .ro 8 1 0], .fpTplCtl⟩]

/-- Registers of 14_kiln_security.md. -/
def regRows12 : List RegRow := [
  -- KILN.CTL
  ⟨0x200000, 1, [], [field .rw 0 1 0, field .w1s 1 1 0], .kilnCtl⟩,
  -- KILN.STATUS
  ⟨0x200004, 1, [], [field .ro 0 3 0, field .ro 3 1 0, field .ro 4 1 0, field .ro 5 1 0, field .ro 6 1 0, field .ro 7 12 0, field .ro 19 4 0, field .ro 23 1 0], .plain⟩,
  -- KILN.TAMPER
  ⟨0x200010, 1, [], [field .ro 0 4 0, field .ro 4 1 0, field .ro 5 1 0, field .ro 6 1 0, field .ro 7 1 0, field .rw 8 4 0xf], .tamper⟩,
  -- KILN.DL_FLOOR
  ⟨0x200020, 1, [], [field .rw 0 32 0], .dlFloor⟩,
  -- KILN.DL_HIGH
  ⟨0x200024, 1, [], [field .ro 0 32 0], .plain⟩,
  -- KILN.QUEUE
  ⟨0x200030, 1, [], [field .ro 0 11 0, field .ro 11 11 0], .kilnQueue⟩,
  -- KILN.KEYMAP[n][kc][ix]
  ⟨0x210000, 1, [(4, 0x1000), (4, 0x400), (256, 0x4)], [field .rw 0 12 0, field .rw 12 12 0, field .rw 24 1 0, field .rw 25 1 0, field .rw 26 1 0], .keymap⟩,
  -- RNG.CTL
  ⟨0x220000, 1, [], [field .w1s 0 1 0], .rngCtl⟩,
  -- RNG.STATUS
  ⟨0x220004, 1, [], [field .ro 0 1 0, field .ro 1 1 0, field .ro 2 1 0, field .ro 3 1 0, field .ro 4 1 0, field .ro 5 1 0], .plain⟩]

/-- Registers of 15_redundancy_and_errors.md. -/
def regRows13 : List RegRow := [
  -- SAFE.HEAD
  ⟨0x280000, 1, [], [field .ro 0 1 0, field .ro 1 1 0, field .ro 2 2 0, field .ro 4 2 0, field .ro 16 16 0], .plain⟩,
  -- SAFE.HEAD_CTL
  ⟨0x280004, 1, [], [field .w1s 0 1 0], .headCtl⟩,
  -- SAFE.FDIE[f]
  ⟨0x280010, 1, [(6, 0x4)], [field .ro 0 1 0, field .ro 1 1 0, field .w1s 2 1 0, field .ro 3 1 0, field .ro 16 16 0], .fdie⟩,
  -- SAFE.LOG_CTL
  ⟨0x280040, 1, [], [field .rw 0 12 0, field .rw 12 1 0, field .ro 13 7 0, field .ro 20 12 0], .logCtl⟩,
  -- SAFE.ACCESS_FAULT
  ⟨0x280050, 2, [], [field .ro 0 32 0, field .ro 32 2 0, field .ro 34 1 0, field .ro 35 1 0, field .ro 48 15 0, field .w1c 63 1 0], .accessFault⟩,
  -- SAFE.FAULT_CTL
  ⟨0x280060, 1, [], [field .rw 0 5 0x1f, field .w1c 8 5 0], .faultCtl⟩]

/-- Registers of 16_power_and_startup.md. -/
def regRows14 : List RegRow := [
  -- PWR.LEVEL_REQ
  ⟨0x50000, 1, [], [field .rw 0 2 0, field .rw 2 12 0], .levelReq⟩,
  -- PWR.LEVEL_STATUS
  ⟨0x50004, 1, [], [field .ro 0 14 0, field .ro 14 1 0, field .ro 16 8 0], .plain⟩,
  -- PWR.DUSK
  ⟨0x50008, 1, [], [field .rw 0 1 0, field .ro 1 1 0, field .ro 2 1 0], .dusk⟩,
  -- PWR.PM_I2C
  ⟨0x50010, 1, [], [field .rw 0 1 0, field .rw 1 1 1, field .ro 2 1 0, field .rw 3 10 0x64], .pmI2c⟩,
  -- PWR.RAIL[d]
  ⟨0x50020, 2, [(8, 0x8)], [field .rw 0 7 0, field .rw 7 1 0, field .rw 8 8 0, field .rw 16 8 0, field .rw 24 8 0, field .rw 32 8 0], .rail⟩,
  -- F[f].FDIE.LINK_PWR[k]
  ⟨0x1000400, 1, [(6, 0x400000), (40, 0x4)], [field .rw 0 4 0, field .rw 4 1 0, field .w1c 5 1 0], .plain⟩,
  -- WATCH.WAKE_CAUSE
  ⟨0x50100, 1, [], [field .ro 0 8 0, field .ro 8 2 0, field .ro 10 1 0, field .ro 11 1 0, field .ro 12 2 0], .wakeCause⟩]

/-- Registers of 17_firmware_update.md. -/
def regRows15 : List RegRow := [
  -- BOOT.STATUS
  ⟨0x240000, 1, [], [field .ro 0 1 0, field .ro 1 2 0, field .ro 3 1 0, field .ro 4 3 0, field .ro 7 1 0, field .ro 8 8 0, field .ro 16 8 0], .plain⟩,
  -- BOOT.HEALTH
  ⟨0x240004, 1, [], [field .ro 0 20 0], .plain⟩,
  -- BOOT.CTL
  ⟨0x240008, 1, [], [field .wo 0 8 0, field .wo 8 1 0], .bootCtl⟩]

/-- Registers of 18_tun_cores.md. -/
def regRows16 : List RegRow := [
  -- TUN.CORE[k]
  ⟨0x2C0000, 1, [(8, 0x10)], [field .ro 0 2 0, field .ro 2 1 0], .tunCore⟩,
  -- TUN.POLICY_CFG
  ⟨0x2C0100, 1, [], [field .rw 0 3 0, field .rw 3 1 0, field .rw 4 4 0xf], .policyCfg⟩,
  -- TUN.EXC[j]
  ⟨0x2C0200, 1, [(4, 0x10)], [field .ro 0 8 0, field .ro 8 2 0, field .w1c 31 1 0], .plain⟩,
  -- F[f].FTUN.STATUS
  ⟨0x1240000, 1, [(6, 0x400000)], [field .ro 0 2 0, field .ro 2 2 0], .ftunStatus⟩]

/-- Registers of 19_register_space.md. -/
def regRows17 : List RegRow := [
  -- IDENT.DEVICE
  ⟨0x0, 1, [], [field .ro 0 16 0xfa7a, field .ro 16 16 0], .identDevice⟩,
  -- IDENT.REV
  ⟨0x4, 1, [], [field .ro 0 8 0, field .ro 8 1 0], .identRev⟩,
  -- IDENT.CAP_PTR
  ⟨0x8, 1, [], [field .ro 0 32 0x100], .identCap⟩,
  -- IDENT.FUNC
  ⟨0xC, 1, [], [field .ro 0 1 0], .identFunc⟩]

/-- Registers of 04_aerial_front_end.md. -/
def regRows18 : List RegRow := [
  -- CLK.XTAL_TRIM
  ⟨0x20020, 1, [], [field .ro 0 11 0, field .rw 16 1 0], .plain⟩]

/-- Registers of 03_clocks_and_mesh_time.md. -/
def regRows19 : List RegRow := [
  -- TIMERS.COUNT[k]
  ⟨0x40104, 1, [(32, 0x20)], [field .rw 0 32 0], .count⟩,
  -- TIMERS.COMPARE[k]
  ⟨0x40108, 1, [(32, 0x20)], [field .rw 0 32 0], .compare⟩,
  -- TIMERS.INTERVAL[k]
  ⟨0x4010C, 1, [(32, 0x20)], [field .rw 0 32 0], .plain⟩,
  -- TIMERS.CAPTURE[k]
  ⟨0x40110, 1, [(32, 0x20)], [field .ro 0 32 0], .capture⟩]

/-- Registers of 04_aerial_front_end.md. -/
def regRows20 : List RegRow := [
  -- F[f].LINK.CONV_LAT[k]
  ⟨0x1040004, 1, [(6, 0x400000), (48, 0x20)], [field .rw 0 20 0], .plain⟩,
  -- F[f].LINK.RX_LAT[k]
  ⟨0x104000C, 1, [(6, 0x400000), (48, 0x20)], [field .ro 0 20 0, field .ro 31 1 0], .plain⟩,
  -- F[f].LINK.GAIN_CTL[k]
  ⟨0x1040010, 1, [(6, 0x400000), (40, 0x20)], [field .rw 0 1 0, field .rw 1 2 0, field .rw 3 3 0, field .rw 6 16 0, field .rw 22 4 0, field .rw 26 1 0, field .rw 27 5 0], .gainCtl⟩,
  -- F[f].FRF.BLANK_CTL
  ⟨0x1080080, 1, [(6, 0x400000)], [field .rw 0 8 0, field .ro 8 8 0], .blankCtl⟩,
  -- F[f].LINK.BLANK_CNT[n]
  ⟨0x1042000, 1, [(6, 0x400000), (8, 0x4)], [field .st 0 32 0], .plain⟩,
  -- F[f].SEQ.HCB_HOST
  ⟨0x10C0040, 2, [(6, 0x400000)], [field .rw 0 2 0, field .rw 2 3 0, field .rw 5 5 0, field .rw 10 32 0, field .rw 62 1 0, field .w1s 63 1 0], .hcbHost⟩,
  -- F[f].SEQ.PROG[p]
  ⟨0x10C8000, 2, [(6, 0x400000), (1024, 0x8)], [field .wo 0 64 0], .seqProg⟩]

/-- Registers of 06_channel_extraction_and_steep.md. -/
def regRows21 : List RegRow := [
  -- F[f].STEEP.CANDIDATES[r]
  ⟨0x1140100, 1, [(6, 0x400000), (5, 0x10)], [field .st 0 32 0], .plain⟩,
  -- F[f].STEEP.SYNC_MATCH[r]
  ⟨0x1140104, 1, [(6, 0x400000), (5, 0x10)], [field .st 0 32 0], .plain⟩,
  -- F[f].STEEP.SYNC_TIMEOUT[r]
  ⟨0x1140108, 1, [(6, 0x400000), (5, 0x10)], [field .st 0 32 0], .plain⟩,
  -- F[f].STEEP.CANCELLED[r]
  ⟨0x114010C, 1, [(6, 0x400000), (5, 0x10)], [field .st 0 32 0], .plain⟩,
  -- F[f].STEEP.TRACK_FULL
  ⟨0x1140180, 1, [(6, 0x400000)], [field .st 0 32 0], .plain⟩,
  -- F[f].STEEP.SOURCE_LOST
  ⟨0x1140184, 1, [(6, 0x400000)], [field .st 0 32 0], .plain⟩]

/-- Registers of 07_demod_blend_decode.md. -/
def regRows22 : List RegRow := [
  -- F[f].DEMOD.CTX_FULL
  ⟨0x1180100, 1, [(6, 0x400000)], [field .st 0 32 0], .plain⟩,
  -- F[f].DEMOD.GOOD
  ⟨0x1180104, 1, [(6, 0x400000)], [field .st 0 32 0], .plain⟩,
  -- F[f].DEMOD.DECODE_FAIL
  ⟨0x1180108, 1, [(6, 0x400000)], [field .st 0 32 0], .plain⟩,
  -- F[f].DEMOD.BAD_LENGTH
  ⟨0x118010C, 1, [(6, 0x400000)], [field .st 0 32 0], .plain⟩,
  -- F[f].DEMOD.LENGTH_BEYOND_BUFFER
  ⟨0x1180110, 1, [(6, 0x400000)], [field .st 0 32 0], .plain⟩,
  -- F[f].DEMOD.BAD_FIELD
  ⟨0x1180114, 1, [(6, 0x400000)], [field .st 0 32 0], .plain⟩,
  -- F[f].DEMOD.BAD_ADDRESS
  ⟨0x1180118, 1, [(6, 0x400000)], [field .st 0 32 0], .plain⟩,
  -- F[f].DEMOD.SOURCE_LOST
  ⟨0x118011C, 1, [(6, 0x400000)], [field .st 0 32 0], .plain⟩,
  -- F[f].DEMOD.ERASED
  ⟨0x1180120, 1, [(6, 0x400000)], [field .st 0 32 0], .plain⟩,
  -- F[f].DEMOD.TAIL_LATE
  ⟨0x1180124, 1, [(6, 0x400000)], [field .st 0 32 0], .plain⟩,
  -- BLEND.GROUPS
  ⟨0x1A0100, 1, [], [field .st 0 32 0], .plain⟩,
  -- BLEND.COPIES
  ⟨0x1A0104, 1, [], [field .st 0 32 0], .plain⟩,
  -- BLEND.LATE_COPIES
  ⟨0x1A0108, 1, [], [field .st 0 32 0], .plain⟩,
  -- BLEND.OVER_EIGHT
  ⟨0x1A010C, 1, [], [field .st 0 32 0], .plain⟩,
  -- BLEND.COMBINED_USED
  ⟨0x1A0110, 1, [], [field .st 0 32 0], .plain⟩,
  -- BLEND.RECOVERED
  ⟨0x1A0114, 1, [], [field .st 0 32 0], .plain⟩,
  -- BLEND.OVERLOAD
  ⟨0x1A0118, 1, [], [field .st 0 32 0], .plain⟩,
  -- BLEND.PROV_SEEN
  ⟨0x1A011C, 1, [], [field .st 0 32 0], .plain⟩,
  -- BLEND.ELK_CONFIRM
  ⟨0x1A0120, 1, [], [field .st 0 32 0], .plain⟩,
  -- BLEND.ELK_WITHDRAW
  ⟨0x1A0124, 1, [], [field .st 0 32 0], .plain⟩,
  -- BLEND.ELK_DEADLINE
  ⟨0x1A0128, 1, [], [field .st 0 32 0], .plain⟩]

/-- Registers of 08_medium_access.md. -/
def regRows23 : List RegRow := [
  -- F[f].TX.GRID[o]
  ⟨0x11C0004, 1, [(6, 0x400000), (98, 0x10)], [field .rw 0 16 0], .plain⟩,
  -- F[f].TX.CONV_LAT[o]
  ⟨0x11C0008, 1, [(6, 0x400000), (98, 0x10)], [field .rw 0 20 0], .plain⟩,
  -- F[f].TX.TX_LAT[o]
  ⟨0x11C000C, 1, [(6, 0x400000), (98, 0x10)], [field .ro 0 20 0, field .ro 31 1 0], .plain⟩,
  -- MAC.CONFIRMED
  ⟨0x180400, 1, [], [field .st 0 32 0], .plain⟩,
  -- MAC.REPLAY
  ⟨0x180404, 1, [], [field .st 0 32 0], .plain⟩,
  -- MAC.DUPLICATE
  ⟨0x180408, 1, [], [field .st 0 32 0], .plain⟩,
  -- MAC.RETRY
  ⟨0x18040C, 1, [], [field .st 0 32 0], .plain⟩,
  -- MAC.AUTH_FAIL
  ⟨0x180410, 1, [], [field .st 0 32 0], .plain⟩,
  -- MAC.ACK_SENT
  ⟨0x180414, 1, [], [field .st 0 32 0], .plain⟩,
  -- MAC.ACK_LATE
  ⟨0x180418, 1, [], [field .st 0 32 0], (.statistic 176)⟩,
  -- MAC.ACK_BUSY
  ⟨0x18041C, 1, [], [field .st 0 32 0], .plain⟩,
  -- MAC.ACK_NO_OUTPUT
  ⟨0x180420, 1, [], [field .st 0 32 0], .plain⟩,
  -- MAC.BUSY_CHECKS
  ⟨0x180424, 1, [], [field .st 0 32 0], .plain⟩,
  -- MAC.CHANNEL_BUSY_TIMEOUT
  ⟨0x180428, 1, [], [field .st 0 32 0], (.statistic 177)⟩,
  -- MAC.NO_ACK
  ⟨0x18042C, 1, [], [field .st 0 32 0], (.statistic 178)⟩,
  -- MAC.STRAY_ACK
  ⟨0x180430, 1, [], [field .st 0 32 0], .plain⟩,
  -- MAC.TWIN_SINGLE
  ⟨0x180434, 1, [], [field .st 0 32 0], .plain⟩,
  -- MAC.CONTACT_MISSED
  ⟨0x180438, 1, [], [field .st 0 32 0], .plain⟩,
  -- MAC.WAKES
  ⟨0x18043C, 1, [], [field .st 0 32 0], .plain⟩,
  -- MAC.TX_CLAMP
  ⟨0x180440, 1, [], [field .st 0 32 0], .plain⟩]

/-- Registers of 09_broadcast_tuner.md. -/
def regRows24 : List RegRow := [
  -- F[f].BCAST.RDS_GROUPS
  ⟨0x1200100, 1, [(6, 0x400000)], [field .st 0 32 0], .plain⟩,
  -- F[f].BCAST.RDS_BLOCK_ERR
  ⟨0x1200104, 1, [(6, 0x400000)], [field .st 0 32 0], .plain⟩,
  -- F[f].BCAST.FIB_GOOD
  ⟨0x1200108, 1, [(6, 0x400000)], [field .st 0 32 0], .plain⟩,
  -- F[f].BCAST.FIB_CRC_ERR
  ⟨0x120010C, 1, [(6, 0x400000)], [field .st 0 32 0], .plain⟩,
  -- F[f].BCAST.NULL_MISSED
  ⟨0x1200110, 1, [(6, 0x400000)], [field .st 0 32 0], .plain⟩,
  -- F[f].BCAST.AF_CHECKS
  ⟨0x1200114, 1, [(6, 0x400000)], [field .st 0 32 0], .plain⟩,
  -- F[f].BCAST.AF_SWITCHES
  ⟨0x1200118, 1, [(6, 0x400000)], [field .st 0 32 0], .plain⟩,
  -- F[f].BCAST.AF_VERIFY_FAIL
  ⟨0x120011C, 1, [(6, 0x400000)], [field .st 0 32 0], .plain⟩,
  -- F[f].BCAST.TOD_MISMATCH
  ⟨0x1200120, 1, [(6, 0x400000)], [field .st 0 32 0], .plain⟩]

/-- Registers of 10_node_table.md. -/
def regRows25 : List RegRow := [
  -- F[f].DEMOD.HEAR_ADDR
  ⟨0x1182004, 1, [(6, 0x400000)], [field .rw 0 32 0], .plain⟩,
  -- F[f].DEMOD.HEAR_W1
  ⟨0x1182008, 1, [(6, 0x400000)], [field .ro 0 9 0, field .ro 9 3 0, field .ro 12 8 0, field .ro 20 8 0], .plain⟩,
  -- F[f].DEMOD.HEAR_W2
  ⟨0x118200C, 1, [(6, 0x400000)], [field .ro 0 24 0, field .ro 24 1 0], .plain⟩,
  -- NODE.LEARNED_NEW
  ⟨0x140100, 1, [], [field .st 0 32 0], .plain⟩,
  -- NODE.SET_CHANGED
  ⟨0x140104, 1, [], [field .st 0 32 0], .plain⟩,
  -- NODE.LEARN_FULL
  ⟨0x140108, 1, [], [field .st 0 32 0], .plain⟩,
  -- NODE.PARITY_ERR
  ⟨0x14010C, 1, [], [field .st 0 32 0], .plain⟩,
  -- NODE.AGED_OUT
  ⟨0x140110, 1, [], [field .st 0 32 0], .plain⟩,
  -- NODE.FLOODED
  ⟨0x140114, 1, [], [field .st 0 32 0], .plain⟩,
  -- NODE.SCAN_DEL
  ⟨0x140118, 1, [], [field .st 0 32 0], .plain⟩,
  -- NODE.COVER2
  ⟨0x14011C, 1, [], [field .st 0 32 0], .plain⟩,
  -- NODE.VALID_LEARNED
  ⟨0x140120, 1, [], [field .st 0 32 0], .plain⟩,
  -- NODE.VALID_STATIC
  ⟨0x140124, 1, [], [field .st 0 32 0], .plain⟩]

/-- Registers of 11_cask_queues_and_scheduling.md. -/
def regRows26 : List RegRow := [
  -- SCHED.TOKENS[g][c]
  ⟨0x101008, 1, [(64, 0x80), (8, 0x10)], [field .ro 0 21 0], .tokens⟩,
  -- SCHED.GATE_TAKEOVER[g]
  ⟨0x104008, 2, [(64, 0x10)], [field .rw 0 48 0], .gateShadow⟩,
  -- CASK.POOL_BASE
  ⟨0x120008, 2, [], [field .rw 0 35 0], .poolBase⟩,
  -- CASK.POOL_COUNT
  ⟨0x120010, 1, [], [fieldIn 0 27 0 67108864 0], .pool⟩,
  -- CASK.POOL_FREE
  ⟨0x120014, 1, [], [field .ro 0 27 0], .poolFree⟩,
  -- CASK.FLOOR[r]
  ⟨0x120020, 1, [(3, 0x8)], [field .rw 0 27 0], .pool⟩,
  -- CASK.HELD[r]
  ⟨0x120024, 1, [(3, 0x8)], [field .ro 0 27 0], .held⟩,
  -- CASK.ARG
  ⟨0x120108, 2, [], [field .rw 0 20 0, field .rw 20 3 0, field .rw 32 32 0], .plain⟩,
  -- CASK.DATA
  ⟨0x120110, 8, [], [field .ro 0 256 0], .plain⟩,
  -- CASK.RESULT
  ⟨0x120130, 1, [], [field .ro 0 1 0], .plain⟩,
  -- CASK.ECC_FAULT
  ⟨0x120140, 1, [], [field .ro 0 20 0], .plain⟩,
  -- SCHED.DECISIONS
  ⟨0x100100, 1, [], [field .st 0 32 0], .plain⟩,
  -- SCHED.URGENT
  ⟨0x100104, 1, [], [field .st 0 32 0], (.statistic 132)⟩,
  -- SCHED.REWINDS
  ⟨0x100108, 1, [], [field .st 0 32 0], .plain⟩,
  -- SCHED.TAKEOVERS
  ⟨0x10010C, 1, [], [field .st 0 32 0], .plain⟩,
  -- CASK.ENQUEUED
  ⟨0x120200, 1, [], [field .st 0 32 0], .plain⟩,
  -- CASK.NO_BUFFER
  ⟨0x120204, 1, [], [field .st 0 32 0], (.statistic 128)⟩,
  -- CASK.QUEUE_FULL
  ⟨0x120208, 1, [], [field .st 0 32 0], (.statistic 130)⟩,
  -- CASK.RX_NO_BUFFER
  ⟨0x12020C, 1, [], [field .st 0 32 0], .plain⟩,
  -- CASK.FLUSHED
  ⟨0x120210, 1, [], [field .st 0 32 0], .plain⟩,
  -- CASK.INTERNAL
  ⟨0x120214, 1, [], [field .st 0 32 0], .plain⟩,
  -- CASK.LEAKED
  ⟨0x120218, 1, [], [field .st 0 32 0], .plain⟩,
  -- CASK.ECC_QGRP[j]
  ⟨0x120300, 1, [(16, 0x4)], [field .st 0 32 0], .plain⟩,
  -- CASK.ECC_REGION[j]
  ⟨0x120400, 1, [(64, 0x4)], [field .st 0 32 0], .plain⟩]

/-- Registers of 12_host_rings_and_events.md. -/
def regRows27 : List RegRow := [
  -- RING.BASE[n]
  ⟨0x80008, 2, [(4096, 0x20)], [field .rw 0 64 0], .ringArea⟩,
  -- RING.BUF_BASE[n]
  ⟨0x80010, 2, [(4096, 0x20)], [field .rw 0 64 0], .ringArea⟩,
  -- RING.HOST_IDX[n]
  ⟨0x80018, 1, [(4096, 0x20)], [field .ro 0 32 0], .hostIdx⟩,
  -- RING.PART_IDX[n]
  ⟨0x8001C, 1, [(4096, 0x20)], [field .ro 0 32 0], .partIdx⟩,
  -- RING.FAULT_ADDR
  ⟨0xA0018, 2, [], [field .ro 0 64 0], .ringFaultAddr⟩,
  -- RING.POLLS
  ⟨0xA0400, 1, [], [field .st 0 32 0], .plain⟩,
  -- RING.POLL_ERR
  ⟨0xA0404, 1, [], [field .st 0 32 0], .plain⟩,
  -- RING.KICKS
  ⟨0xA0408, 1, [], [field .st 0 32 0], .plain⟩,
  -- RING.COMMANDS
  ⟨0xA040C, 1, [], [field .st 0 32 0], .plain⟩,
  -- RING.RX_UNMAPPED
  ⟨0xA0410, 1, [], [field .st 0 32 0], .plain⟩,
  -- RING.ELK_SKIPPED
  ⟨0xA0414, 1, [], [field .st 0 32 0], .plain⟩,
  -- EVT.PEND[j]
  ⟨0xC1000, 1, [(16, 0x4)], [field .w1c 0 32 0], .pend⟩,
  -- EVT.AGAIN[j]
  ⟨0xC1040, 1, [(16, 0x4)], [field .w1c 0 32 0], .again⟩,
  -- EVT.VEC[v]
  ⟨0xC2000, 1, [(256, 0x4)], [field .rw 0 16 0], .plain⟩]

/-- Registers of 13_ethernet_and_network_time.md. -/
def regRows28 : List RegRow := [
  -- ETH.PORT_STATUS[h][p]
  ⟨0x1C0004, 1, [(2, 0x80), (2, 0x40)], [field .ro 0 1 0, field .w1c 1 1 0], .plain⟩,
  -- ETH.TX_PHY[h][p]
  ⟨0x1C0008, 1, [(2, 0x80), (2, 0x40)], [field .ro 0 20 0, field .ro 31 1 0], .plain⟩,
  -- ETH.RX_PHY[h][p]
  ⟨0x1C000C, 1, [(2, 0x80), (2, 0x40)], [field .ro 0 20 0, field .ro 31 1 0], .plain⟩,
  -- ETH.ASYM[h][p]
  ⟨0x1C0010, 1, [(2, 0x80), (2, 0x40)], [field .rw 0 21 0], .plain⟩,
  -- ETH.MAC[h][p]
  ⟨0x1C0018, 2, [(2, 0x80), (2, 0x40)], [field .rw 0 48 0], .plain⟩,
  -- ETH.IP6[h][p]
  ⟨0x1C0020, 4, [(2, 0x80), (2, 0x40)], [field .rw 0 128 0], .plain⟩,
  -- ETH.PTP_MASTER
  ⟨0x1C0108, 2, [], [field .ro 0 64 0], .plain⟩,
  -- ETH.PTP_OFFSET
  ⟨0x1C0110, 1, [], [field .ro 0 32 0], .plain⟩,
  -- ETH.PTP_DELAY
  ⟨0x1C0114, 1, [], [field .ro 0 32 0], .plain⟩,
  -- ETH.ALARM
  ⟨0x1C0180, 1, [], [field .rw 0 5 0, field .rw 5 1 0], .plain⟩,
  -- ETH.ALARM_SEL[j]
  ⟨0x1C01C0, 1, [(16, 0x4)], [field .rw 0 32 0], .plain⟩,
  -- ETH.FP_TPL[t]
  ⟨0x1C1000, 16, [(32, 0x80)], [field .rw 0 512 0], .fpTpl⟩,
  -- ETH.FP_SENT
  ⟨0x1C0300, 1, [], [field .st 0 32 0], .plain⟩,
  -- ETH.FP_DROP
  ⟨0x1C0304, 1, [], [field .st 0 32 0], (.statistic 196)⟩,
  -- ETH.PRIV_SENT
  ⟨0x1C0308, 1, [], [field .st 0 32 0], .plain⟩,
  -- ETH.RX_PTP
  ⟨0x1C030C, 1, [], [field .st 0 32 0], .plain⟩,
  -- ETH.RX_DISCARD
  ⟨0x1C0310, 1, [], [field .st 0 32 0], .plain⟩,
  -- ETH.PRP_DUP_DISCARD
  ⟨0x1C0314, 1, [], [field .st 0 32 0], .plain⟩,
  -- ETH.PRP_WRONG_LAN
  ⟨0x1C0318, 1, [], [field .st 0 32 0], .plain⟩,
  -- ETH.TC_FORWARDED
  ⟨0x1C031C, 1, [], [field .st 0 32 0], .plain⟩,
  -- ETH.OVERSIZE
  ⟨0x1C0320, 1, [], [field .st 0 32 0], .plain⟩]

/-- Registers of 14_kiln_security.md. -/
def regRows29 : List RegRow := [
  -- KILN.VERIFY_OK
  ⟨0x200100, 1, [], [field .st 0 32 0], .plain⟩,
  -- KILN.VERIFY_FAIL
  ⟨0x200104, 1, [], [field .st 0 32 0], .plain⟩,
  -- KILN.GENERATED
  ⟨0x200108, 1, [], [field .st 0 32 0], .plain⟩,
  -- KILN.DERIVED
  ⟨0x20010C, 1, [], [field .st 0 32 0], .plain⟩,
  -- KILN.CACHE_HIT
  ⟨0x200110, 1, [], [field .st 0 32 0], .plain⟩,
  -- KILN.CACHE_MISS
  ⟨0x200114, 1, [], [field .st 0 32 0], .plain⟩,
  -- KILN.CACHE_EVICT
  ⟨0x200118, 1, [], [field .st 0 32 0], .plain⟩,
  -- KILN.CACHE_SCRATCH
  ⟨0x20011C, 1, [], [field .st 0 32 0], (.statistic 231)⟩,
  -- KILN.BAD_KEY_USE
  ⟨0x200120, 1, [], [field .st 0 32 0], .plain⟩,
  -- KILN.KEY_EXPIRED
  ⟨0x200124, 1, [], [field .st 0 32 0], .plain⟩,
  -- KILN.APPROVED_REJECT
  ⟨0x200128, 1, [], [field .st 0 32 0], (.statistic 230)⟩,
  -- RNG.RESEEDS
  ⟨0x220100, 1, [], [field .st 0 32 0], .plain⟩]

/-- Registers of 15_redundancy_and_errors.md. -/
def regRows30 : List RegRow := [
  -- SAFE.LOG_ACK
  ⟨0x280044, 1, [], [field .wo 0 32 0], .logAck⟩,
  -- SAFE.LOG[i]
  ⟨0x280400, 8, [(64, 0x20)], [field .ro 0 256 0], .log⟩]

/-- Registers of 16_power_and_startup.md. -/
def regRows31 : List RegRow := [
  -- WATCH.NIGHT_CNT
  ⟨0x50104, 1, [], [field .ro 0 32 0], .nightCnt⟩,
  -- WATCH.NIGHT_CTL
  ⟨0x50108, 1, [], [field .wo 0 8 0, field .wo 8 1 0], .nightCtl⟩,
  -- WATCH.CFG
  ⟨0x5010C, 1, [], [field .rw 0 1 1, field .rw 1 1 1], .watchCfg⟩]

/-- Registers of 18_tun_cores.md. -/
def regRows32 : List RegRow := [
  -- TUN.PC[k]
  ⟨0x2C0004, 1, [(8, 0x10)], [field .ro 0 32 0], .tunPc⟩,
  -- TUN.EXC_PC[j]
  ⟨0x2C0204, 1, [(4, 0x10)], [field .st 0 32 0], .plain⟩,
  -- TUN.EXC_BADADDR[j]
  ⟨0x2C0208, 1, [(4, 0x10)], [field .st 0 32 0], .plain⟩,
  -- TUN.EXC_COUNT[j]
  ⟨0x2C020C, 1, [(4, 0x10)], [field .st 0 32 0], .plain⟩,
  -- TUN.CALLS[h]
  ⟨0x2C0300, 1, [(3, 0x4)], [field .st 0 32 0], .plain⟩,
  -- TUN.BUDGET
  ⟨0x2C030C, 1, [], [field .st 0 32 0], (.statistic 292)⟩,
  -- TUN.NO_CORE
  ⟨0x2C0310, 1, [], [field .st 0 32 0], (.statistic 293)⟩,
  -- TUN.INVALID
  ⟨0x2C0314, 1, [], [field .st 0 32 0], (.statistic 294)⟩,
  -- TUN.JOIN_REJECT
  ⟨0x2C0318, 1, [], [field .st 0 32 0], .plain⟩,
  -- TUN.EXCEPTIONS
  ⟨0x2C031C, 1, [], [field .st 0 32 0], .plain⟩]

/-- Registers of 19_register_space.md. -/
def regRows33 : List RegRow := [
  -- IDENT.SERIAL
  ⟨0x10, 4, [], [field .ro 0 128 0], .identSerial⟩]

/-- Every register of BAR0 (R360, R366). -/
def regRows : List RegRow :=
  regRows0 ++ regRows1 ++ regRows2 ++ regRows3 ++ regRows4 ++ regRows5 ++ regRows6 ++ regRows7 ++ regRows8 ++ regRows9 ++ regRows10 ++ regRows11 ++ regRows12 ++ regRows13 ++ regRows14 ++ regRows15 ++ regRows16 ++ regRows17 ++ regRows18 ++ regRows19 ++ regRows20 ++ regRows21 ++ regRows22 ++ regRows23 ++ regRows24 ++ regRows25 ++ regRows26 ++ regRows27 ++ regRows28 ++ regRows29 ++ regRows30 ++ regRows31 ++ regRows32 ++ regRows33

/-- The indexes of an offset, relative to the register's base, in its arrays, and what is left of it. -/
def locateIn : List (Nat × Nat) → Nat → Option (List Nat × Nat)
  | [], rel => some ([], rel)
  | (n, stride) :: ds, rel =>
    if rel / stride < n then (locateIn ds (rel % stride)).map fun p => (rel / stride :: p.1, p.2) else none

/-- The entry and the word of a register that an aligned offset names. -/
def RegRow.locate (r : RegRow) (off : Nat) : Option (List Nat × Nat) :=
  if off < r.base then none
  else match locateIn r.dims (off - r.base) with
    | some (ix, rel) => if rel < 4 * r.words then some (ix, rel / 4) else none
    | none => none

/-- The offset of an entry of a register. -/
def RegRow.offset (r : RegRow) (ix : List Nat) : Nat :=
  r.base + ((r.dims.zip ix).map fun p => p.1.2 * p.2).sum

/-- The first row of a list that holds an offset. -/
def findRow (off : Nat) : List RegRow → Option (RegRow × List Nat × Nat)
  | [] => none
  | r :: l => match r.locate off with
    | some p => some (r, p.1, p.2)
    | none => findRow off l

/-- The register, entry and word that an aligned BAR0 offset names. -/
def findWord (off : Nat) : Option (RegRow × List Nat × Nat) := findRow off regRows

end Sys2Proof.Machine
end

