-- ==== Sys2Proof/Machine/Update.lean ====
section
/-! DEFINITION. Firmware update (R334, R335, R337): staging sessions, the commands that write boot flash, restart and the
health window. -/

namespace Sys2Proof.Machine

/-- The slot not in force. -/
def State.staged (s : State) : Nat := 1 - s.get Reg.BOOT.STATUS.SLOT

/-- Offset of a slot in boot flash (R330). -/
def slotBase (k : Nat) : Nat := 0x100000 + k * slotSize

/-- Opens or closes the staging session. -/
def State.setSession (s : State) (n : Option Nat) : State :=
  (s.setBoot { s.boot with session := n }).put Reg.BOOT.STATUS.SESSION (bit n.isSome)

/-- A flash operation begins, and its command waits for it. [DEDUCED, log entry 122] -/
def State.startFlash (s : State) (c : CmdRef) (w : FlashWork) : State :=
  let o : Output := match w with
    | .erase k => .flash 0 (slotBase k) slotSize
    | .program k off d => .flash 1 (slotBase k + off) d.length
    | .select _ => .flash 2 0 16
    | .confirm _ => .flash 2 0 16
  (s.setBoot { s.boot with job := some ⟨c, w⟩ }).emitNow o

/-- Executes an update command in front of ring n; boot flash does one operation at a time. [DEDUCED, log entry 122] -/
def State.updateCommand (s : State) (n : Nat) (desc : List Byte) (effect : CmdRef → State → State) : State :=
  if s.boot.job.isSome then s else s.runCommand n desc effect

/-- Offset in the slot of a descriptor. [DEDUCED, log entry 123] -/
def uOffset (d : List Byte) : Nat := leAt d 20 4

/-- STAGE_ERASE. -/
def execStageErase (n : Fin 4096) (desc : List Byte) (s : State) : Host.Outcome State Fault Refusal :=
  formed (.stageErase n desc) (s.updateCommand n desc fun c s =>
    if s.boot.session.any (· ≠ n.val) || s.get Reg.BOOT.STATUS.STATE = 1 then s.complete c .busy 0
    else (s.setSession (some n)).startFlash c (.erase s.staged))

/-- STAGE_WRITE on a session of its ring. [DEDUCED, log entry 123] -/
def State.stageWrite (s : State) (c : CmdRef) (desc : List Byte) (data : Option (List Byte)) : State :=
  let len := kInLen desc
  if s.boot.session ≠ some c.ring ∨ uOffset desc % 256 ≠ 0 then s.complete c .badField 0
  else if len % 256 ≠ 0 ∨ 0x100000 < len ∨ slotSize < uOffset desc + len then s.complete c .badLength 0
  else s.kilnInput c desc data fun m s => s.startFlash c (.program s.staged (uOffset desc) m)

/-- STAGE_WRITE. `data` is what host memory holds from the host address on, unlisted bytes 0; none where the read completes with
an error. -/
def execStageWrite (n : Fin 4096) (desc : List Byte) (data : Option (List Byte)) (s : State) : Host.Outcome State Fault Refusal :=
  formed (.stageWrite n desc data) (s.updateCommand n desc fun c s => s.stageWrite c desc data)

/-- Bytes of the staged slot as STAGE_READ returns them. -/
def State.readSlot (s : State) (off len : Nat) : List Byte :=
  if s.boot.delivered s.staged then (List.range len).map fun i => Config.factoryByte (off + i)
  else s.boot.slotBytes s.staged off len

/-- STAGE_READ: the bytes go to the host address in one piece. [DEDUCED, log entry 123] -/
def State.stageRead (s : State) (c : CmdRef) (desc : List Byte) : State :=
  let len := kInLen desc
  let a := leAt desc 8 8
  if slotSize < uOffset desc + len then s.complete c .badLength 0
  else match s.firstBad true a len with
    | some b => s.badAddress c b
    | none => (s.dmaWrite a (s.readSlot (uOffset desc) len)).complete c .done 0

/-- STAGE_READ. -/
def execStageRead (n : Fin 4096) (desc : List Byte) (s : State) : Host.Outcome State Fault Refusal :=
  formed (.stageRead n desc) (s.updateCommand n desc fun c s => s.stageRead c desc)

/-- ACTIVATE. -/
def execActivate (n : Fin 4096) (desc : List Byte) (s : State) : Host.Outcome State Fault Refusal :=
  formed (.activate n desc) (s.updateCommand n desc fun c s =>
    if s.boot.session = some n.val then (s.setSession none).startFlash c (.select s.staged) else s.complete c .badField 0)

/-- The watchdog's expiry resets the part. -/
def State.healthExpires (s : State) : State := s.resetPart

/-- HEALTH_CONFIRM: the watchdog stops as the command starts. [DEDUCED, log entry 123] -/
def State.healthConfirm (s : State) (c : CmdRef) : State :=
  if s.get Reg.BOOT.STATUS.STATE ≠ 1 then s.complete c .notFound 0
  else ((s.setBoot { s.boot with watch := none }).put Reg.BOOT.HEALTH.LEFT_MS 0).startFlash c
    (.confirm (s.get Reg.BOOT.STATUS.SLOT))

/-- HEALTH_CONFIRM; an expiry in the same cycle wins. -/
def execHealthConfirm (n : Fin 4096) (desc : List Byte) (expiryNow : Bool) (s : State) : Host.Outcome State Fault Refusal :=
  formed (.healthConfirm n desc expiryNow)
    (if expiryNow && s.boot.watch.isSome then s.healthExpires else s.updateCommand n desc fun c s => s.healthConfirm c)

/-- ABORT. -/
def execAbort (n : Fin 4096) (desc : List Byte) (s : State) : Host.Outcome State Fault Refusal :=
  formed (.abort n desc) (s.updateCommand n desc fun c s =>
    if s.boot.session = some n.val then (s.setSession none).complete c .done 0 else s.complete c .badField 0)

/-- UPDATE_BAD_OPCODE. -/
def execUpdateBadOpcode (n : Fin 4096) (desc : List Byte) (s : State) : Host.Outcome State Fault Refusal :=
  formed (.updateBadOpcode n desc) (s.runCommand n desc fun c s => s.complete c .badOpcode 0)

/-- The CONFIRMED record stands: the floor follows, and the command completes. -/
def State.confirmed (s : State) (c : CmdRef) (slot : Nat) : State :=
  let s := (s.put Reg.BOOT.STATUS.STATE 2).fire 268
  (s.raiseFloor slot).complete c .done 0

/-- What a flash operation leaves when it ends. [PRESUMED, log entry 5; DEDUCED, log entry 124] -/
def State.flashDone (s : State) (j : FlashJob) : State :=
  let s := s.setBoot { s.boot with job := none }
  let b := s.boot
  match j.work with
  | .erase k => (s.setBoot (b.setImage k [])).complete j.cmd .done k
  | .program k off d => (s.setBoot (b.setImage k (programImage (b.image k) off d))).complete j.cmd .done 0
  | .select k => (s.setBoot (b.writeRec k 0 (s.get Reg.BOOT.STATUS.STATE))).complete j.cmd .done 0
  | .confirm k => (s.setBoot (b.writeRec k 2 ((b.newest.map (·.other)).getD 3))).confirmed j.cmd k

/-- BOOT_FLASH_DONE. -/
def execBootFlashDone (s : State) : Host.Outcome State Fault Refusal :=
  .next (match s.boot.job with
    | some j => s.when s.logicUp fun s => s.flashDone j
    | none => s)

/-- A write of BOOT.CTL. -/
def State.bootCtl (s : State) (v : Nat) : State :=
  if bitsAt v 0 8 ≠ 0x52 then s.illegal 0x240008
  else if bitsAt v 8 1 = 1 then s.resetPart
  else s

/-- BOOT_RESTART. -/
def execBootRestart (v : BitVec 32) (s : State) : Host.Outcome State Fault Refusal :=
  .next (s.hostWriteReg 0x240008 v.toNat fun s => s.bootCtl v.toNat)

/-- HEALTH_WINDOW_EXPIRY: the window has run down. -/
def execHealthWindowExpiry (s : State) : Host.Outcome State Fault Refusal :=
  .next (s.when (s.logicUp && s.boot.watch.any (· = 0)) State.healthExpires)

end Sys2Proof.Machine
end

