-- ==== Sys2Proof/Machine/RegWrite.lean ====
section
/-! DEFINITION. Writes of registers (R313, R364, R365): fields stored under their access codes and stated ranges, and
what each register's write is beside that. -/

namespace Sys2Proof.Machine

/-! ### Fields of the register tables -/

/-- The reset value of a field of an entry (R130, SCHED.CLASS depend on the index). -/
def RegRow.resetOf (r : RegRow) (ix : List Nat) (g : RegField) : Nat :=
  match r.op with
  | .steepRate =>
    if g.lo = 0 then [0x83, 0x83, 0x83, 0x41, 0x21].getD (ix.getD 1 0) 0
    else if g.lo = 8 then [0xF4, 0xF4, 0xF4, 0xE8, 0xDC].getD (ix.getD 1 0) 0 else g.rst
  | .schedClass =>
    if g.lo = 18 then (if ix.getD 0 0 = 0 then 0 else if ix.getD 0 0 = 7 then 0x3E8 else 0xFA) else g.rst
  | _ => g.rst

/-- A field of an entry in the register store. -/
def RegRow.fld (r : RegRow) (ix : List Nat) (g : RegField) : Fld :=
  ⟨8 * r.offset ix + g.lo, g.width, r.resetOf ix g⟩

/-- What the register store holds of a field. -/
def State.held? (s : State) (r : RegRow) (ix : List Nat) (g : RegField) : Nat :=
  if g.acc = .st then s.stat (r.fld ix g) else s.get (r.fld ix g)

/-- An entry's fields as one number. -/
def State.regValue (s : State) (r : RegRow) (ix : List Nat) : Nat :=
  (r.fields.map fun g => s.held? r ix g * 2 ^ g.lo).sum

/-- A field has a bit in word w. -/
def RegField.inWord (g : RegField) (w : Nat) : Bool := g.lo < 32 * (w + 1) && 32 * w < g.lo + g.width

/-- An entry's fields with word w replaced. -/
def State.afterWord (s : State) (r : RegRow) (ix : List Nat) (w v : Nat) : Nat :=
  putBits (s.regValue r ix) (32 * w) 32 v

/-- The RW fields of a written word lie in their stated ranges. -/
def State.rangeOk (s : State) (r : RegRow) (ix : List Nat) (w v : Nat) : Bool :=
  r.fields.all fun g =>
    let x := bitsAt (s.afterWord r ix w v) g.lo g.width
    g.acc ≠ .rw || !g.inWord w || (g.least ≤ x && x ≤ g.most)

/-- Stores a field of a written word: RW and WO fields take it, W1C bits written 1 clear. -/
def State.storeField (s : State) (r : RegRow) (ix : List Nat) (x : Nat) (g : RegField) : State :=
  match g.acc with
  | .rw | .wo => s.put (r.fld ix g) (bitsAt x g.lo g.width)
  | .w1c => s.put (r.fld ix g) (s.get (r.fld ix g) - (s.get (r.fld ix g) &&& bitsAt x g.lo g.width))
  | _ => s

/-- Stores a written word. -/
def State.storeWord (s : State) (r : RegRow) (ix : List Nat) (w v : Nat) : State :=
  let x := s.afterWord r ix w v
  let w1c := putBits 0 (32 * w) 32 v
  s.each (r.fields.filter (·.inWord w)) fun s g => s.storeField r ix (if g.acc = .w1c then w1c else x) g

/-- Stores a written word if it is legal, else reports it (R313). -/
def State.storeIf (s : State) (ok : Bool) (r : RegRow) (ix : List Nat) (w v : Nat) : State :=
  if ok && s.rangeOk r ix w v then s.storeWord r ix w v else s.illegal (r.offset ix + 4 * w)

/-! ### Registers whose writes do more -/

/-- TIME.REF_PRIO: the ranks of the references enabled differ. -/
def ranksOk (x : Nat) : Bool :=
  let l := [bitsAt x 0 3, bitsAt x 4 3, bitsAt x 8 3, bitsAt x 12 3].filter (· ≠ 0)
  l.eraseDups.length = l.length

/-- TIME.PPS_TOD is stored with the counter time of its write (R59). -/
def State.ppsTodWritten (s : State) : State :=
  { s with time := { s.time with ppsTod := some (s.get Reg.TIME.PPS_TOD.SEC, s.counterNs) } }

/-- The word of TIME.SET that holds GO loads the counter (R48, R364). [DEDUCED, log entry 21] -/
def State.timeSetWord (s : State) (w v : Nat) : State :=
  if w = 3 ∧ bitsAt v 31 1 = 1 then s.timeSetGo (s.get Reg.TIME.SET.NS) (s.get Reg.TIME.SET.SEC) else s

/-- TIME.CTL (R55, R58). -/
def State.timeCtl (s : State) (v : Nat) : State :=
  let s := s.put Reg.TIME.CTL.FREE_RUN_TX (bitsAt v 0 1)
  if bitsAt v 1 1 = 1 then s.forceSlew else s

/-- TIMERS.CH_CTL[k]: CASCADE is an even channel's (R64 to R67). -/
def State.chCtl (s : State) (k v : Nat) : State :=
  if bitsAt v 1 2 = 3 ∨ 6 ≤ bitsAt v 5 3 then s.illegal (0x40100 + k * 0x20)
  else
    let s := (s.put (Reg.TIMERS.CH_CTL.RUN k) (bitsAt v 0 1)).put (Reg.TIMERS.CH_CTL.SRC k) (bitsAt v 1 2)
    let s := if k % 2 = 0 then s.put (Reg.TIMERS.CH_CTL.CASCADE k) (bitsAt v 3 1) else s
    let s := (s.put (Reg.TIMERS.CH_CTL.CAP_EN k) (bitsAt v 4 1)).put (Reg.TIMERS.CH_CTL.CAP_SEL k) (bitsAt v 5 3)
    let s := (s.put (Reg.TIMERS.CH_CTL.IE_MATCH k) (bitsAt v 8 1)).put (Reg.TIMERS.CH_CTL.IE_OVF k) (bitsAt v 9 1)
    (s.put (Reg.TIMERS.CH_CTL.IE_CAP k) (bitsAt v 10 1)).put (Reg.TIMERS.CH_CTL.PRESCALE k) (bitsAt v 12 16)

/-- The channel that heads the counter of channel k (R65). -/
def State.timerHead (s : State) (k : Nat) : Nat := if s.cascadeOdd k then k - 1 else k

/-- TIMERS.COUNT[k]: a value written is not one counted to. [DEDUCED, log entry 27] -/
def State.countWrite (s : State) (k v : Nat) : State :=
  let h := s.timerHead k
  let s := s.setTimer h { s.timer h with fresh := 0 }
  if s.cascadeOdd k then s.put (Reg.TIMERS.COUNT k) (v + 2 ^ 32 - (s.timer (k - 1)).wraps % 2 ^ 32)
  else s.put (Reg.TIMERS.COUNT k) v

/-- TIMERS.COMPARE[k]: a match made before the write stands, and adds no interval. [DEDUCED, log entry 27] -/
def State.compareWrite (s : State) (k v : Nat) : State :=
  let h := s.timerHead k
  let s := if s.matchDue h then
      let s := s.put (Reg.TIMERS.CH_STATUS.MATCH h) 1
      if s.on (Reg.TIMERS.CH_CTL.IE_MATCH h) then s.fire (64 + h) else s
    else s
  (s.setTimer h { s.timer h with fresh := 0 }).put (Reg.TIMERS.COMPARE k) v

/-- LINK.GAIN_CTL[k]: automatic gain starts anew when EN changes (R87). -/
def State.gainCtl (s : State) (f k : Nat) (was : Bool) : State :=
  if s.on (Reg.LINK.GAIN_CTL.EN f k) = was then s else s.startGain f k

/-- FRF.TXCH[c] (R79, R83, R86). -/
def State.txch (s : State) (f c v : Nat) : State :=
  if !fcLegal (bitsAt v 1 15) || maxDbm (bitsAt v 1 15) < bitsAt v 16 5 then s.illegal (dieOffset f (0x80040 + c * 0x10))
  else
    let fc := bitsAt v 1 15
    let s := if fc = s.get (Reg.FRF.TXCH.FC f c) then s
      else (s.put (Reg.FRF.TXCH.FC f c) fc).emitNow (.retune f (4 + c) fc)
    let s := (s.put (Reg.FRF.TXCH.EN f c) (bitsAt v 0 1)).put (Reg.FRF.TXCH.PWR_DBM f c) (bitsAt v 16 5)
    if bitsAt v 21 1 = 1 then s.probeNext f c else s

/-- FRF.CX[n] stored; a pair switched on, off or over releases its output, and a granting side takes the pin as it stands (R92, R93).
[DEDUCED, log entry 181] -/
def State.cxWritten (s : State) (f n : Nat) (en role : Bool) : State :=
  if s.on (Reg.FRF.CX.EN f n) = en && s.on (Reg.FRF.CX.ROLE f n) = role then s
  else
    let c := s.cx f n
    let s := if en && (if role then c.gnt else c.req) then s.emitNow (.coex f n false) else s
    (s.setCx f n ⟨false, c.pin, false, false, []⟩).cxGrant f n

/-- SEQ.HCB_HOST, one word: the other as it stands, GO counting as 0 in it (R99, R364). [DEDUCED, log entry 85] -/
def State.hcbHostWord (s : State) (f whole w v : Nat) : State := s.hcbHost f (putBits (whole % 2 ^ 63) (32 * w) 32 v)

/-- SEQ.PROG[p], one word: the other as the shadow bank holds it (R96, R364). [DEDUCED, log entry 85] -/
def State.seqProgWord (s : State) (f p w v : Nat) : State :=
  let q := s.seq f
  let bank := if s.on (Reg.SEQ.STATUS.ACTIVE_BANK f) then q.bank0 else q.bank1
  s.seqProg f p (putBits (Tbl.getD bank p 0) (32 * w) 32 v)

/-- MAC.LBT_BAND[b] with the value given: GHI not below GLO, no overlap of enabled bands. -/
def State.bandOk (s : State) (b x : Nat) : Bool :=
  let lo := bitsAt x 0 16
  let hi := bitsAt x 16 16
  lo ≤ hi && (bitsAt x 56 1 = 0 || (List.range 4).all fun a =>
    a = b || !s.on (Reg.MAC.LBT_BAND.EN a) || s.get (Reg.MAC.LBT_BAND.GHI a) < lo || hi < s.get (Reg.MAC.LBT_BAND.GLO a))

/-- STEEP.FLOOR_SEL names a channel that exists on an enabled context. -/
def State.floorSelOk (s : State) (f x : Nat) : Bool :=
  let i := bitsAt x 0 9
  s.on (Reg.LINK.STREAM.EN f i) && s.channelExists f i (bitsAt x 17 1 = 1) (bitsAt x 9 8)

/-- TX.OUT[o] with the value given (chapter 8): judged when EN is 1. -/
def State.txOutOk (s : State) (f o x : Nat) : Bool :=
  bitsAt x 0 1 = 0 ||
  ((if 96 ≤ o then s.on (Reg.FRF.TXCH.EN f (o - 96))
      else s.on (Reg.LINK.CFG.EN f (40 + o / 12)) && o % 12 < s.linkStreams f (40 + o / 12))
    && s.on (Reg.LINK.STREAM.EN f (bitsAt x 1 9))
    && (bitsAt x 15 1 = 0 || (bitsAt x 16 3 ≠ f && s.present (bitsAt x 16 3) && bitsAt x 19 7 ≤ 97)))

/-- SCHED.BUCKET stored: a bucket enabled starts full (R227). [DEDUCED, log entry 73] -/
def State.bucketWritten (s : State) (g c : Nat) (was : Bool) : State :=
  if s.on (Reg.SCHED.BUCKET.EN g c) && !was then s.setTokens g c (s.get (Reg.SCHED.BUCKET.BURST g c)) else s

/-- The 4 KiB page range of a window value, as bytes: none while EN is 0. -/
def winSpan (x : Nat) : Option (Nat × Nat) :=
  if bitsAt x 0 1 = 0 then none else some (bitsAt x 12 52 * 4096, (bitsAt x 76 52 + 1) * 4096)

/-- A span meets the bytes a to a + len − 1. -/
def spanMeets (sp : Option (Nat × Nat)) (a len : Nat) : Bool :=
  match sp with
  | some (lo, hi) => a < hi && lo < a + len
  | none => false

/-- Bytes that a window change must leave alone (chapter 12): areas of enabled rings and the doorbell pages.
[DEDUCED, log entry 81] -/
def State.guarded (s : State) : List (Nat × Nat) :=
  if s.enabledRings.isEmpty then []
  else
    (s.get Reg.RING.DB_BASE.ADDR * 2 ^ 15, 32768) :: s.enabledRings.flatMap fun n =>
      let typ := s.get (Reg.RING.CTL.TYPE n)
      let lg := s.get (Reg.RING.CTL.LOG2_SIZE n)
      (s.get (Reg.RING.BASE.ADDR n), ringBytes typ lg) ::
        (if typ = 2 then [(s.get (Reg.RING.BUF_BASE.ADDR n), 2 ^ lg * 2 ^ (5 + s.get (Reg.RING.CTL.BUF_LOG2 n)))] else [])

/-- The fields of a window value. -/
def winFields (x : Nat) : List Nat := [bitsAt x 0 3, bitsAt x 12 52, bitsAt x 76 52]

/-- RING.WIN[w] may go from one value to another (chapter 12). -/
def State.winOk (s : State) (old new : Nat) : Bool :=
  (match winSpan new with
    | some (lo, hi) => lo < hi && s.bars.all fun b => hi ≤ b.base || b.base + b.size ≤ lo
    | none => true)
  && (winFields old = winFields new
    || s.guarded.all fun a => !spanMeets (winSpan old) a.1 a.2 && !spanMeets (winSpan new) a.1 a.2)

/-- RING.FAULT: clearing VALID also clears MORE. [DEDUCED, log entry 83] -/
def State.clearRingFault (s : State) (v : Nat) : State :=
  if bitsAt v 31 1 = 1 then { s with rings := { s.rings with faultValid := false, faultMore := 0 } } else s

/-- EVT.AGAIN[j]. -/
def State.againClear (s : State) (j v : Nat) : State :=
  { s with evt := { s.evt with again := s.evt.again &&& ~~~(BitVec.ofNat 512 (v % 2 ^ 32 * 2 ^ (32 * j))) } }

/-- ETH.PTP_CFG stored: a slave switched off drops its masters (R261). [DEDUCED, log entry 92] -/
def State.ptpCfgWritten (s : State) (was : Bool) : State :=
  if was && !s.on Reg.ETH.PTP_CFG.EN then
    ((s.setLan 0 .init).setLan 1 .init).showMasters s.usedMaster s.eth.lanUsed
  else s

/-- KILN.TAMPER.PIN_EN, locked by KILN.CTL.LOCK (R367). -/
def State.pinEn (s : State) (v : Nat) : State :=
  if s.on Reg.KILN.CTL.LOCK then s.accessFault 0x200010 .locked true false
  else s.setKiln { s.kiln with pinEn := BitVec.ofNat 4 (bitsAt v 8 4) }

/-- SAFE.ACCESS_FAULT: clearing VALID also clears MORE. -/
def State.clearAccessFault (s : State) (w v : Nat) : State :=
  if w = 1 ∧ bitsAt v 31 1 = 1 then s.setSafe { s.safe with fault := { s.safe.fault with valid := false, more := 0 } } else s

/-- TUN.POLICY_CFG names a hook without a program (chapter 18). -/
def State.hooksMissing (s : State) (v : Nat) : Bool :=
  (List.range 3).any fun h => bitsAt v h 1 = 1 && s.tun.entries.getD h 0 = 0

/-- TUN.POLICY_CFG stored: cores taken out are halted, cores put in wait for calls (R354). [DEDUCED, log entry 91] -/
def State.coresEnabled (s : State) (was : Nat) : State :=
  s.each policyCores fun s k =>
    let old := bitsAt was (k - 4) 1 = 1
    if old && !s.coreEnabled k then s.haltPolicy k
    else if !old && s.coreEnabled k then s.resumePolicy k else s

/-- An entry of a register exists on this part (R252, R366). -/
def State.entryPresent (s : State) (op : RegOp) (ix : List Nat) : Bool :=
  match op with
  | .fdie | .outGroup => s.present (ix.getD 0 0)
  | .rail => ix.getD 0 0 < 2 || s.present (ix.getD 0 0 - 2)
  | .evtMap => s.eventWord (ix.getD 0 0 / 32)
  | .pend | .again => s.eventWord (ix.getD 0 0)
  | _ => true

/-- A write of word w of an entry, by the register's own rule. -/
def State.writeEntry (s : State) (r : RegRow) (ix : List Nat) (w v : Nat) : State :=
  let a := ix.getD 0 0
  let b := ix.getD 1 0
  let x := s.afterWord r ix w v
  let old := s.regValue r ix
  let store (ok : Bool) : State := s.storeIf ok r ix w v
  match r.op with
  | .plain | .statistic _ | .linkStatus => store true
  | .hclkSs => s.hclkSs v
  | .clkoutCtl => s.clkoutCtl a b v
  | .clkoutTiming => s.clkoutTiming a b v
  | .timeNow | .addend | .msc => s
  | .timeSet => (store true).timeSetWord w v
  | .meshOffset => s.meshOffsetWrite v
  | .refPrio => store (ranksOk x)
  | .timeCtl => s.timeCtl v
  | .ppsTod => (store true).ppsTodWritten
  | .timersGo => s.timersGo v
  | .chCtl => s.chCtl a v
  | .count => s.countWrite a v
  | .compare => s.compareWrite a v
  | .capture => s
  | .linkCfg => s.linkCfg a b v
  | .stream => s.streamCfg a b v
  | .gainCtl => (store true).gainCtl a b (s.on (Reg.LINK.GAIN_CTL.EN a b))
  | .rxch => s.rxch a b v
  | .txch => s.txch a b v
  | .cx => (store true).cxWritten a b (s.on (Reg.FRF.CX.EN a b)) (s.on (Reg.FRF.CX.ROLE a b))
  | .blankCtl => s.blankPol a (v % 256)
  | .seqCtl => s.seqCtl a v
  | .hcbCfg => (store true).hcbNext a b
  | .hcbHost => s.hcbHostWord a old w v
  | .seqProg => s.seqProgWord a b w v
  | .netSync => s.netSync a v
  | .netCfg => s.netCfg a v
  | .rateAdv => store (bitsAt x 9 8 ≤ bitsAt x 1 8)
  | .lbtCfg => store (bitsAt x 0 4 ≤ bitsAt x 4 4)
  | .twinCfg => store (bitsAt x 0 1 = 0 || bitsAt x 12 8 ≠ 0)
  | .lbtBand => store (s.bandOk a x)
  | .profile => s.profileWrite v
  | .spargeStream => s.spargeStream a b v
  | .steepCtl => s.steepCtl a v
  | .startThr => (store (bitsAt x 0 16 ≠ 0x8000)).noteThr (16 * a + 8) (s.get (Reg.STEEP.START_THR.THR a))
  | .steepRate => (store true).noteThr (16 * a + b) (s.rateThr a b)
  | .floorSel => store (s.floorSelOk a x)
  | .floorData | .track | .ctx => s
  | .hearCmd => s.hearCmd a v
  | .elk => store (s.ringNamed (bitsAt x 0 12) 3 (bitsAt x 12 1 = 1))
  | .txOut => store (s.txOutOk a b x)
  | .bcastCtl => s.bcastCtl a v
  | .bcastTune => s.bcastTuneReg a v
  | .bcastRing => store (s.ringNamed (bitsAt x 0 12) 5 (bitsAt x 12 1 = 1) && s.ringNamed (bitsAt x 16 12) 5 (bitsAt x 28 1 = 1))
  | .bcastSubch => s.bcastSubch a b v
  | .nodeCmd => s.nodeCmd v
  | .nodeCfg => store (bitsAt x 0 18 = s.get Reg.NODE.CFG.SEED || s.stat Reg.NODE.VALID_LEARNED = 0)
  | .schedCfg => store (bitsAt x 4 11 < bitsAt x 15 11)
  | .schedClass | .outGroup => store true
  | .bucket => (store true).bucketWritten a b (s.on (Reg.SCHED.BUCKET.EN a b))
  | .gateCtl => s.gateCtl a v
  | .gateShadow =>
    if s.on (Reg.SCHED.GATE_CTL.PENDING a) then s.put (Reg.SCHED.GATE_CTL.LAST_WR a) Status.busy.code
    else (store true).put (Reg.SCHED.GATE_CTL.LAST_WR a) Status.done.code
  | .tokens => s
  | .caskCfg => s.poolEnable v
  | .caskCmd => s.caskCmd v
  | .poolBase => store (!s.on Reg.CASK.CFG.EN && bitsAt x 0 8 = 0)
  | .pool => store (!s.on Reg.CASK.CFG.EN)
  | .poolFree | .held => s
  | .ringCtl => s.ringCtl a v
  | .ringStatus => s
  | .ringArea => store (!s.on (Reg.RING.CTL.EN a) || x = old)
  | .hostIdx | .partIdx => s
  | .dbBase => store s.enabledRings.isEmpty
  | .ringFault => s.clearRingFault v
  | .ringFaultAddr => s
  | .win => store (s.winOk old x)
  | .rxMap => store (s.ringNamed (bitsAt x 0 12) 2 (bitsAt x 12 1 = 1))
  | .evtMap => store (s.ringNamed (bitsAt x 10 12) 4 (bitsAt x 22 1 = 1))
  | .pend => s.pendClear a v 0
  | .again => s.againClear a v
  | .portCfg => store (bitsAt old 0 1 = 0 || (bitsAt x 1 2 = bitsAt old 1 2 && bitsAt x 5 14 = bitsAt old 5 14))
  | .ptpCfg => (store true).ptpCfgWritten (s.on Reg.ETH.PTP_CFG.EN)
  | .fpMap => store (bitsAt x 5 1 = 0 || s.on (Reg.ETH.FP_TPL_CTL.VALID (bitsAt x 0 5)))
  | .fpTplCtl => s.fpTplCtl a v
  | .fpTpl =>
    if x = old then s
    else if s.tplInUse a then s.illegal (r.offset ix + 4 * w)
    else (store true).put (Reg.ETH.FP_TPL_CTL.VALID a) 0
  | .kilnCtl => s.kilnCtl v
  | .tamper => s.pinEn v
  | .dlFloor => s.dlFloor v
  | .kilnQueue => s
  | .keymap => store (bitsAt x 24 1 = 0 || decide ((bitsAt x 25 1 = 1) = (b = 0)))
  | .rngCtl => s.rngCtl v
  | .headCtl => s.headCtl v
  | .fdie => s.fdieCtl a v
  | .logCtl => store (s.ringNamed (bitsAt x 0 12) 6 (bitsAt x 12 1 = 1))
  | .logAck => s.logAck v
  | .log => s
  | .accessFault => s.clearAccessFault w v
  | .faultCtl => s.faultCtl v
  | .levelReq => s.levelWrite v
  | .dusk => s.duskWrite v
  | .pmI2c => s.pmWrite v 0
  | .rail => store (!s.on Reg.PWR.LEVEL_STATUS.CHANGING)
  | .wakeCause | .nightCnt => s
  | .nightCtl => if s.live then s.nightCtl v else s
  | .watchCfg => s.setWatch { s.watch with wakeNEn := bitsAt v 0 1 = 1, wsEn := bitsAt v 1 1 = 1 }
  | .bootCtl => s.bootCtl v
  | .tunCore | .tunPc => s
  | .policyCfg =>
    if s.hooksMissing v then s.illegal (r.offset ix)
    else (store true).coresEnabled (s.get Reg.TUN.POLICY_CFG.CORE_EN)
  | .ftunStatus => s
  | .identDevice | .identRev | .identCap | .identFunc | .identSerial => s

end Sys2Proof.Machine
end

