-- ==== Sys2Proof/Machine/RegSpace.lean ====
section
/-! DEFINITION. The register space (R312, R313, R359 to R369): the capability list, reads of registers, host accesses of
BAR0 and BAR2, and the replay of a rejoining field die's register writes (R309). -/

namespace Sys2Proof.Machine

/-! ### The capability list (R361, R362) -/

/-- Entries of an id that stand once per field die present: id, block offset in the die's window, PARAM. -/
def State.dieCaps (s : State) (id block : Nat) (param : Nat → Nat) : List (Nat × Nat × Nat) :=
  (List.range s.part.variant.fieldDies).map fun f => (id, dieOffset f block, param f)

/-- Dies present: bit 0 H0, bit 1 H1, bit 2 + f field die f. -/
def State.diesPresent (s : State) : Nat :=
  2 ^ s.part.variant.headDies - 1 + (2 ^ s.part.variant.fieldDies - 1) * 4

/-- The capability entries in order: ID, BASE, PARAM. -/
def State.caps (s : State) : List (Nat × Nat × Nat) :=
  let fields := s.part.variant.fieldDies
  [(0x01, 0, s.diesPresent), (0x02, 0x80000, 4096), (0x03, 0xC0000, 320 + 32 * fields + 256 * 2 ^ 10), (0x04, 0x30000, 0),
    (0x05, 0x40000, 32), (0x06, 0x140000, 20 + 16 * 2 ^ 5), (0x07, 0x100000, 20 + 26 * 2 ^ 5 + 64 * 2 ^ 10),
    (0x08, 0x180000, 4), (0x09, 0x1C0000, 2), (0x0A, 0x200000, 4096), (0x0B, 0x280000, s.part.variant.headDies),
    (0x0C, 0x50000, 0), (0x0D, 0x240000, 0), (0x0E, 0x2C0000, 8 + 4 * 2 ^ 4)]
  ++ s.dieCaps 0x10 0 (fun f => f + 40 * 2 ^ 3 + 8 * 2 ^ 9)
  ++ s.dieCaps 0x11 0x200000 (fun f => f)
  ++ s.dieCaps 0x12 0x80000 (fun f => f + 4 * 2 ^ 3 + 2 * 2 ^ 6)
  ++ [(0x13, 0x1A0000, 0), (0x14, 0x1A0000, bit (1 < fields) + 8 * 2 ^ 1)]

/-- The word of the capability list at an aligned offset. -/
def State.capWord (s : State) (off : Nat) : Option Nat :=
  if off < 0x100 ∨ 0x1000 ≤ off then none
  else
    let i := (off - 0x100) / 16
    match s.caps[i]? with
    | none => none
    | some (id, base, param) =>
      match (off - 0x100) % 16 / 4 with
      | 0 => some (id + 2 ^ 16 + 4 * 2 ^ 24)
      | 1 => some (if i + 1 < s.caps.length then 0x100 + 16 * (i + 1) else 0)
      | 2 => some base
      | _ => some param

/-! ### Reads -/

/-- The fields of an entry as they read: WO fields as 0. [DEDUCED, log entry 20] -/
def State.readValue (s : State) (r : RegRow) (ix : List Nat) : Nat :=
  ((r.fields.filter fun g => g.acc ≠ .wo).map fun g => s.held? r ix g * 2 ^ g.lo).sum

/-- The encoding of a core's state in TUN.CORE. -/
def CoreState.code : CoreState → Nat
  | .reset => 0
  | .running => 1
  | .wait => 2
  | .halted => 3

/-- A word of an entry of the error log (R249), VALID in bit 7 of byte 3; a free entry reads 0.
[DEDUCED, log entry 84] -/
def State.logWord (s : State) (i w : Nat) : Nat :=
  match Tbl.find? s.safe.log i with
  | some e => leAt (patchB e.bytes 3 [(e.bytes.getD 3 0) ||| 0x80]) (4 * w) 4
  | none => 0

/-- The 64 bits of SAFE.ACCESS_FAULT. -/
def AccessFault.value (a : AccessFault) : Nat :=
  a.offset % 2 ^ 32 + a.kind.code * 2 ^ 32 + bit a.write * 2 ^ 34 + bit a.bar2 * 2 ^ 35 + a.more * 2 ^ 48 + bit a.valid * 2 ^ 63

/-- KILN.QUEUE read: PEAK is reloaded. -/
def State.readKilnQueue (s : State) : State × Nat :=
  (s.reloadPeak Reg.KILN.QUEUE.IN_USE Reg.KILN.QUEUE.PEAK,
    s.get Reg.KILN.QUEUE.IN_USE + s.get Reg.KILN.QUEUE.PEAK * 2 ^ 11)

/-- A read of word w of an entry by function `func`: the state after it and the word. -/
def State.readEntry (s : State) (func : Nat) (r : RegRow) (ix : List Nat) (w : Nat) : State × Nat :=
  let a := ix.getD 0 0
  let b := ix.getD 1 0
  let word (v : Nat) : Nat := bitsAt v (32 * w) 32
  match r.op with
  | .statistic src => (s.rearm src, word (s.readValue r ix))
  | .timeNow =>
    if w = 0 then ({ s with time := { s.time with nowLatch := some (s.timeNow / 2 ^ 32) } }, word s.timeNow)
    else (s, bitsAt (s.time.nowLatch.getD (s.timeNow / 2 ^ 32)) (32 * (w - 1)) 32)
  | .msc =>
    if w = 0 then ({ s with time := { s.time with mscLatch := some (s.mscReg / 2 ^ 32) } }, word s.mscReg)
    else (s, (s.time.mscLatch.getD (s.mscReg / 2 ^ 32)) % 2 ^ 32)
  | .addend => (s, word s.time.addend)
  | .count => s.countRead a
  | .capture => s.captureRead a false
  | .linkStatus =>
    ({ s with air := { s.air with crcSince := Tbl.erase s.air.crcSince (48 * a + b) } }, word (s.readValue r ix))
  | .floorData => (s, s.floorData a)
  | .track => s.readTrack a
  | .ctx => s.readCtx a
  | .tokens => (s, fieldOf 21 (s.tokens a b))
  | .poolFree => (s, s.poolFree)
  | .held => (s, s.held a)
  | .ringStatus => (s, bit (s.ring a).halted + (s.ring a).faultStatus * 2 + (s.ring a).dropped * 2 ^ 9)
  | .hostIdx => (s, (s.ring a).host)
  | .partIdx => (s, (s.ring a).part)
  | .ringFault => (s, s.rings.faultRing + s.rings.faultStatus * 2 ^ 12 + s.rings.faultMore * 2 ^ 20 + bit s.rings.faultValid * 2 ^ 31)
  | .ringFaultAddr => (s, word s.rings.faultAddr)
  | .pend => (s, bitsAt s.evt.pend.toNat (32 * a) 32)
  | .again => (s, bitsAt s.evt.again.toNat (32 * a) 32)
  | .tamper => (s, s.watch.tamper.toNat + s.kiln.pinEn.toNat * 2 ^ 8)
  | .kilnQueue => s.readKilnQueue
  | .logCtl => ((s.put Reg.SAFE.LOG_CTL.LOST 0).rearm 265, word (s.readValue r ix))
  | .log => (s, s.logWord a w)
  | .accessFault => (s.rearm 266, word s.safe.fault.value)
  | .wakeCause => (s, s.watch.cause)
  | .nightCnt => (s, s.watch.nightCnt)
  | .watchCfg => (s, bit s.watch.wakeNEn + 2 * bit s.watch.wsEn)
  | .tunCore => (s, (s.core a).st.code + 4 * bit (4 ≤ a))
  | .tunPc => (s, (s.core a).pc.toNat)
  | .ftunStatus => (s, (s.core (8 + 4 * a)).st.code + 4 * (s.core (10 + 4 * a)).st.code)
  | .identDevice => (s, 0xFA7A + s.part.variant.deviceId * 2 ^ 16)
  | .identRev => (s, s.part.silicon.toNat + bit s.part.gradeE * 2 ^ 8)
  | .identCap => (s, 0x100)
  | .identFunc => (s, func)
  | .identSerial => (s, word s.part.serial.toNat)
  | _ => (s, word (s.readValue r ix))

/-! ### BAR0 words -/

/-- The policy data region of BAR0 (R357, R360). -/
def inPolicyRegion (off : Nat) : Bool := 0x300000 ≤ off && off < 0x380000

/-- Where the policy data region lies in the head's shared memory (R341). -/
def policyAddr (off : Nat) : Nat := 0x180000 + (off - 0x300000)

/-- The head's shared memory. -/
def State.headShared (s : State) : Memory := Tbl.getD s.tun.shared 0 []

/-- An aligned BAR0 offset holds a register of this part, or a word of the list or of the policy data region (R366).
[DEDUCED, log entry 87] -/
def State.implemented (s : State) (off : Nat) : Bool :=
  inPolicyRegion off || (s.capWord off).isSome ||
  match findWord off with
  | some (r, ix, _) => s.entryPresent r.op ix && ((dieOfOffset off).map s.present).getD true
  | none => false

/-- A read of an aligned, implemented BAR0 word. -/
def State.readWord (s : State) (func off : Nat) : State × Nat :=
  if inPolicyRegion off then (s, leVal (s.headShared.readBytes (policyAddr off) 4))
  else match s.capWord off with
    | some v => (s, v)
    | none => match findWord off with
      | some (r, ix, w) => s.readEntry func r ix w
      | none => (s, 0)

/-- A write of an aligned BAR0 word. [DEDUCED, log entry 85] -/
def State.writeWord (s : State) (off v : Nat) : State :=
  if !s.implemented off then s.accessFault off .unimplemented true false
  else if inPolicyRegion off then
    { s with tun := { s.tun with shared := Tbl.put s.tun.shared 0 (s.headShared.writeBytes (policyAddr off) (leBytes 4 v)) } }
  else match findWord off with
    | some (r, ix, w) => s.writeEntry r ix w v
    | none => s

/-! ### BAR2 words (R253, R359) -/

/-- A word of BAR2 exists. -/
def bar2Implemented (off : Nat) : Bool := off < 0x4000 || (0x8000 ≤ off && off < 0x9020)

/-- A read of an aligned BAR2 word: KICK is WO, the MSI-X table and its pending bits are the function's own.
[DEDUCED, log entry 88] -/
def State.readBar2 (s : State) (func off : Nat) : Nat :=
  if off < 0x4000 then 0
  else if off < 0x9000 then s.msixWord func ((off - 0x8000) / 4)
  else ((List.range 32).map fun b => bit (256 * func + (off - 0x9000) * 8 + b ∈ s.evt.pba) * 2 ^ b).sum

/-- A write of an MSI-X table word: a vector unmasked at the active head's function with its pending bit set sends its message,
after its holdoff (R235, R253). [DEDUCED, log entry 88] -/
def State.writeMsix (s : State) (func w v : Nat) : State :=
  let s := { s with evt := { s.evt with msixTable := Tbl.put s.evt.msixTable (1024 * func + w) (if w % 4 = 3 then v % 2 else v) } }
  if w % 4 = 3 ∧ v % 2 = 0 ∧ func = s.active ∧ 256 * func + w / 4 ∈ s.evt.pba then
    ({ s with evt := { s.evt with pba := s.evt.pba.filter (· ≠ 256 * func + w / 4) } }).signal (w / 4)
  else s

/-- A write of an aligned, implemented BAR2 word; the pending bits are read only. [DEDUCED, log entry 88] -/
def State.writeBar2 (s : State) (func off v : Nat) : State :=
  if off < 0x4000 then s.kick (off / 4) v
  else if off < 0x9000 then s.writeMsix func ((off - 0x8000) / 4) v
  else s

/-! ### Configuration space (R1, R237, R359) -/

/-- The bits of a configuration word that a write sets: memory space and bus master enables of the Command register, and the
address bits of BAR0, 64 MiB, and BAR2, 64 KiB. [PRESUMED, log entry 193] -/
def cfgMask (w : Nat) : Nat := [0, 6, 0, 0, 0xFC000000, 0xFFFFFFFF, 0xFFFF0000, 0xFFFFFFFF].getD w 0

/-- What a word of a function's configuration space always reads: the ids, and that both BARs are 64 bits wide.
[PRESUMED, log entry 193] -/
def State.cfgFixed (s : State) (w : Nat) : Nat :=
  match w with
  | 0 => 0xFA7A + s.part.variant.deviceId * 2 ^ 16
  | 4 => 4
  | 6 => 4
  | _ => 0

/-- A read of a configuration word. -/
def State.readCfg (s : State) (func w : Nat) : Nat := s.cfgWord func w + s.cfgFixed w

/-- A write of a configuration word. [DEDUCED, log entry 81] -/
def State.writeCfg (s : State) (func w v : Nat) : State :=
  if cfgMask w = 0 then s
  else { s with rings := { s.rings with cfg := Tbl.put s.rings.cfg (1024 * func + w) (v % 2 ^ 32 &&& cfgMask w) } }

/-! ### Accesses (R364, R368) -/

/-- 4 or 8 bytes, naturally aligned; 4 in the policy data region and in configuration space. -/
def accessAligned (a : BusAccess) : Bool :=
  match a.space with
  | .config => a.size = 4 && a.offset % 4 = 0
  | .bar2 => (a.size = 4 || a.size = 8) && a.offset % a.size = 0
  | .bar0 => (a.size = 4 || (a.size = 8 && !inPolicyRegion a.offset)) && a.offset % a.size = 0

/-- The words of an access, ascending. -/
def accessWords (a : BusAccess) : List Nat := (List.range (a.size / 4)).map fun i => a.offset + 4 * i

/-- A word of a space exists; of configuration space every one answers. -/
def State.wordExists (s : State) (sp : BusSpace) (off : Nat) : Bool :=
  match sp with
  | .bar0 => s.implemented off
  | .bar2 => bar2Implemented off
  | .config => off < 4096

/-- Every word of an access is implemented. [DEDUCED, log entry 87] -/
def State.accessExists (s : State) (a : BusAccess) : Bool := accessAligned a && (accessWords a).all (s.wordExists a.space)

/-- An access to the window of a fenced field die. [DEDUCED, log entry 87] -/
def State.accessFenced (s : State) (a : BusAccess) : Bool :=
  a.space = .bar0 && match dieOfOffset a.offset with
    | some f => s.present f && s.dieFenced f
    | none => false

/-- A read that completes with data. -/
def State.readable (s : State) (a : BusAccess) : Bool := s.accessExists a && !s.accessFenced a

/-- One word read in a space of a function. -/
def State.readUnit (s : State) (func : Nat) (sp : BusSpace) (o : Nat) : State × Nat :=
  match sp with
  | .bar0 => s.readWord func o
  | .bar2 => (s, s.readBar2 func o)
  | .config => (s, s.readCfg func (o / 4))

/-- Reads the words of an access, lower first. -/
def State.readWords (s : State) (func : Nat) (sp : BusSpace) : List Nat → State × Nat
  | [] => (s, 0)
  | o :: l =>
    let r := s.readUnit func sp o
    let t := State.readWords r.1 func sp l
    (t.1, r.2 + t.2 * 2 ^ 32)

/-- STATISTIC_READ. A read of registers that has no row of its own. [DEDUCED, log entry 86] -/
def execStatisticRead (func : Fin 2) (acc : BusAccess) (s : State) : Host.Outcome State Fault Refusal :=
  .next (s.when (s.functionUp func && s.readable acc) fun s =>
    (s.readWords func acc.space (accessWords acc)).1.emit
      (.readDone func acc.space acc.offset (s.readWords func acc.space (accessWords acc)).2))

/-- A read refused: reported where it is of a BAR, and answered with Unsupported Request (R313, R366, R368). -/
def State.readRefused (s : State) (func : Nat) (a : BusAccess) : State :=
  let k : AccessKind := if accessAligned a && s.accessFenced a then .locked else .unimplemented
  let s := if a.space = .config then s else s.accessFault a.offset k false a.bar2
  s.emit (.unsupported func a.space a.offset)

/-- UNSUPPORTED_READ. -/
def execUnsupportedRead (func : Fin 2) (acc : BusAccess) (s : State) : Host.Outcome State Fault Refusal :=
  .next (s.when (s.functionUp func && !s.readable acc) fun s => s.readRefused func acc)

/-- The offset and word of each half of a write. [DEDUCED, log entry 85] -/
def writeHalves (a : BusAccess) (v : Nat) : List (Nat × Nat) :=
  (List.range (a.size / 4)).map fun i => (a.offset + 4 * i, bitsAt v (32 * i) 32)

/-- Records the words written to a die's window (R309). [DEDUCED, log entry 90] -/
def State.recordWrites (s : State) (l : List (Nat × Nat)) : State :=
  s.setSafe { s.safe with dieWrites := s.safe.dieWrites ++ l.filterMap fun p => (dieOfOffset p.1).map fun f => (f, p.1, p.2) }

/-- A fault latched by an 8-byte access names the access itself (R364). [DEDUCED, log entry 87] -/
def State.faultAt (s : State) (was : Bool) (a : BusAccess) : State :=
  if !was && s.safe.fault.valid then s.setSafe { s.safe with fault := { s.safe.fault with offset := a.offset } } else s

/-- A host write (R364, R366, R368): its words take effect in ascending order. [DEDUCED, log entry 86] -/
def State.hostWriteAccess (s : State) (func : Nat) (a : BusAccess) (v : Nat) : State :=
  match a.space with
  | .config => if accessAligned a then s.writeCfg func (a.offset / 4) v else s
  | .bar2 =>
    if s.accessExists a then s.each (writeHalves a v) fun s p => s.writeBar2 func p.1 p.2
    else s.accessFault a.offset .unimplemented true true
  | .bar0 =>
    if accessAligned a && s.accessFenced a then s.recordWrites (writeHalves a v)
    else if !s.accessExists a then s.accessFault a.offset .unimplemented true false
    else ((s.recordWrites (writeHalves a v)).each (writeHalves a v) fun s p => s.writeWord p.1 p.2).faultAt s.safe.fault.valid a

/-- REGISTER_WRITE. A write of registers that has no row of its own. [DEDUCED, log entry 86] -/
def execRegisterWrite (func : Fin 2) (acc : BusAccess) (data : BitVec 64) (s : State) : Host.Outcome State Fault Refusal :=
  .next (s.when (s.functionUp func) fun s => s.hostWriteAccess func acc data.toNat)

/-! ### A field die rejoins (R309) -/

/-- A register field lies in the window of die f. -/
def keyInDie (f key : Nat) : Bool := dieOffset f 0 ≤ key / 8 && key / 8 < dieOffset f 0x400000

/-- What the front end of a die holds is as at reset; its BLANK pins stay as they are driven. [DEDUCED, log entry 90] -/
def Air.resetDie (a : Air) (f : Nat) : Air :=
  { a with
    reached := a.reached.filter (· / 48 ≠ f), searching := a.searching.filter (· / 48 ≠ f),
    crcSince := a.crcSince.filter (·.1 / 48 ≠ f), chains := a.chains.filter (·.1 / 4 ≠ f),
    probes := a.probes.filter (·.1 / 2 ≠ f), gains := a.gains.filter (·.1 / 44 ≠ f), cx := a.cx.filter (·.1 / 4 ≠ f),
    seqs := Tbl.erase a.seqs f, hcb := a.hcb.filter (·.1 / 4 ≠ f), trackers := a.trackers.filter (·.1 / 2048 ≠ f),
    floors := a.floors.filter (·.1 / 262144 ≠ f), powers := a.powers.filter (·.1 / 262144 ≠ f),
    floorsTold := a.floorsTold.filter (· ≠ f), clampTold := a.clampTold.filter (· ≠ f),
    dgain := a.dgain.filter (·.1 / 512 ≠ f), sending := a.sending.filter (·.1 ≠ f),
    ctxs := a.ctxs.filter (·.1 / 4096 ≠ f), up := Tbl.erase a.up f }

/-- The Tun unit of a die with its firmware reloaded. -/
def TunUnit.reloadDie (t : TunUnit) (f : Nat) : TunUnit :=
  { t with cores := Tbl.put (Tbl.put t.cores (8 + 4 * f) (loadedCore false)) (10 + 4 * f) (loadedCore false)
           tcm := Tbl.erase (Tbl.erase t.tcm (8 + 4 * f)) (10 + 4 * f), shared := Tbl.erase t.shared (1 + f) }

/-- Everything of die f takes its reset value, its firmware is reloaded, and its fence is gone.
[DEDUCED, log entry 90] -/
def State.resetDie (s : State) (f : Nat) : State :=
  let level := s.get (Reg.FRF.BLANK_CTL.LEVEL f)
  let s := { s with
    regs := s.regs.filter (fun p => !keyInDie f p.1), stats := s.stats.filter (fun p => !keyInDie f p.1)
    air := s.air.resetDie f
    clk := { s.clk with ckRun := s.clk.ckRun.filter (· / 8 ≠ f), srRun := s.clk.srRun.filter (· / 8 ≠ f)
                        phaseNow := s.clk.phaseNow.filter (·.1 / 8 ≠ f) }
    bcast := Tbl.erase s.bcast f, hear := s.hear.filter (·.1 / 2 ^ 18 ≠ f), tun := s.tun.reloadDie f }
  let s := (s.put (Reg.FRF.BLANK_CTL.LEVEL f) level).blankPol f 0
  ((s.put (Reg.SAFE.FDIE.FENCED f) 0).put (Reg.SAFE.FDIE.REJOIN f) 0).put (Reg.SAFE.FDIE.DEGRADED f) 0

/-- The register writes made to the window of die f since cold start, applied in order (R309, R368).
[DEDUCED, log entry 90] -/
def State.replay (s : State) (f : Nat) : State :=
  s.each (s.safe.dieWrites.filter fun p => p.1 = f) fun s p => s.writeWord p.2.1 p.2.2

/-- FDIE_REJOIN_DONE. -/
def execFdieRejoinDone (f : Fin 6) (s : State) : Host.Outcome State Fault Refusal :=
  .next (s.when (s.live && s.dieFenced f && s.on (Reg.SAFE.FDIE.REJOIN f) && !Tbl.has s.safe.selftests f) fun s =>
    (((s.resetDie f).forgetErrors (2 + f)).replay f).fire 262)

end Sys2Proof.Machine
end

