-- ==== Sys2Proof/Machine/TunAlu.lean ====
section
/-! DEFINITION. A Tun core's ALU group, immediates, branches and jumps (R346). -/

namespace Sys2Proof.Machine

/-- A relation as a compare writes it. -/
def relation (b : Bool) : Word := if b then 1 else 0

/-- An instruction of two source registers. -/
def State.tunAlu (s : State) (c : TunCore) (d a b : Fin 16) (f : Word → Word → Word) : State :=
  s.tunWrite c d fun r => f (r.rd a) (r.rd b)

/-! ### Immediates -/

/-- ADDI. -/
def execTunAddi (c : TunCore) (d a : Fin 16) (imm : BitVec 18) (s : State) : Host.Outcome State Fault Refusal :=
  .next (s.tunWrite c d fun r => r.rd a + imm.signExtend 32)

/-- ANDI. -/
def execTunAndi (c : TunCore) (d a : Fin 16) (imm : BitVec 18) (s : State) : Host.Outcome State Fault Refusal :=
  .next (s.tunWrite c d fun r => r.rd a &&& imm.setWidth 32)

/-- ORI. -/
def execTunOri (c : TunCore) (d a : Fin 16) (imm : BitVec 18) (s : State) : Host.Outcome State Fault Refusal :=
  .next (s.tunWrite c d fun r => r.rd a ||| imm.setWidth 32)

/-- XORI. -/
def execTunXori (c : TunCore) (d a : Fin 16) (imm : BitVec 18) (s : State) : Host.Outcome State Fault Refusal :=
  .next (s.tunWrite c d fun r => r.rd a ^^^ imm.setWidth 32)

/-- The shift that SHI's immediate names, none for an illegal one. -/
def shiftImm (imm : BitVec 18) (v : Word) : Option Word :=
  let n := imm.toNat % 32
  if 128 ≤ imm.toNat then none
  else match imm.toNat / 32 with
    | 0 => some (v <<< n)
    | 1 => some (v >>> n)
    | 2 => some (v.sshiftRight n)
    | _ => none

/-- SHI. -/
def execTunShi (c : TunCore) (d a : Fin 16) (imm : BitVec 18) (s : State) : Host.Outcome State Fault Refusal :=
  .next (s.tunStep c fun r => match shiftImm imm (r.rd a) with
    | some v => .go (r.wr d v).next
    | none => .exc causeIllegal r.pc)

/-- LUI. -/
def execTunLui (c : TunCore) (d : Fin 16) (imm : BitVec 22) (s : State) : Host.Outcome State Fault Refusal :=
  .next (s.tunWrite c d fun _ => imm.setWidth 32 <<< 10)

/-! ### ALU group -/

/-- ADD. -/
def execTunAdd (c : TunCore) (d a b : Fin 16) (s : State) : Host.Outcome State Fault Refusal :=
  .next (s.tunAlu c d a b fun x y => x + y)

/-- SUB. -/
def execTunSub (c : TunCore) (d a b : Fin 16) (s : State) : Host.Outcome State Fault Refusal :=
  .next (s.tunAlu c d a b fun x y => x - y)

/-- AND. -/
def execTunAnd (c : TunCore) (d a b : Fin 16) (s : State) : Host.Outcome State Fault Refusal :=
  .next (s.tunAlu c d a b fun x y => x &&& y)

/-- OR. -/
def execTunOr (c : TunCore) (d a b : Fin 16) (s : State) : Host.Outcome State Fault Refusal :=
  .next (s.tunAlu c d a b fun x y => x ||| y)

/-- XOR. -/
def execTunXor (c : TunCore) (d a b : Fin 16) (s : State) : Host.Outcome State Fault Refusal :=
  .next (s.tunAlu c d a b fun x y => x ^^^ y)

/-- SLL. -/
def execTunSll (c : TunCore) (d a b : Fin 16) (s : State) : Host.Outcome State Fault Refusal :=
  .next (s.tunAlu c d a b fun x y => x <<< (y.toNat % 32))

/-- SRL. -/
def execTunSrl (c : TunCore) (d a b : Fin 16) (s : State) : Host.Outcome State Fault Refusal :=
  .next (s.tunAlu c d a b fun x y => x >>> (y.toNat % 32))

/-- SRA. -/
def execTunSra (c : TunCore) (d a b : Fin 16) (s : State) : Host.Outcome State Fault Refusal :=
  .next (s.tunAlu c d a b fun x y => x.sshiftRight (y.toNat % 32))

/-- MUL. -/
def execTunMul (c : TunCore) (d a b : Fin 16) (s : State) : Host.Outcome State Fault Refusal :=
  .next (s.tunAlu c d a b fun x y => x * y)

/-- MULHU. -/
def execTunMulhu (c : TunCore) (d a b : Fin 16) (s : State) : Host.Outcome State Fault Refusal :=
  .next (s.tunAlu c d a b fun x y => BitVec.ofNat 32 (x.toNat * y.toNat / 2 ^ 32))

/-- Division, 0xFFFF_FFFF by 0. -/
def divU (x y : Word) : Word := if y = 0 then 0xFFFFFFFF else BitVec.ofNat 32 (x.toNat / y.toNat)

/-- Remainder, the dividend by 0. -/
def remU (x y : Word) : Word := if y = 0 then x else BitVec.ofNat 32 (x.toNat % y.toNat)

/-- DIVU. -/
def execTunDivu (c : TunCore) (d a b : Fin 16) (s : State) : Host.Outcome State Fault Refusal :=
  .next (s.tunAlu c d a b divU)

/-- REMU. -/
def execTunRemu (c : TunCore) (d a b : Fin 16) (s : State) : Host.Outcome State Fault Refusal :=
  .next (s.tunAlu c d a b remU)

/-- CEQ. -/
def execTunCeq (c : TunCore) (d a b : Fin 16) (s : State) : Host.Outcome State Fault Refusal :=
  .next (s.tunAlu c d a b fun x y => relation (x = y))

/-- CNE. -/
def execTunCne (c : TunCore) (d a b : Fin 16) (s : State) : Host.Outcome State Fault Refusal :=
  .next (s.tunAlu c d a b fun x y => relation (x ≠ y))

/-- CLT. -/
def execTunClt (c : TunCore) (d a b : Fin 16) (s : State) : Host.Outcome State Fault Refusal :=
  .next (s.tunAlu c d a b fun x y => relation (x.toInt < y.toInt))

/-- CLTU. -/
def execTunCltu (c : TunCore) (d a b : Fin 16) (s : State) : Host.Outcome State Fault Refusal :=
  .next (s.tunAlu c d a b fun x y => relation (x.toNat < y.toNat))

/-- CLE. -/
def execTunCle (c : TunCore) (d a b : Fin 16) (s : State) : Host.Outcome State Fault Refusal :=
  .next (s.tunAlu c d a b fun x y => relation (x.toInt ≤ y.toInt))

/-- CLEU. -/
def execTunCleu (c : TunCore) (d a b : Fin 16) (s : State) : Host.Outcome State Fault Refusal :=
  .next (s.tunAlu c d a b fun x y => relation (x.toNat ≤ y.toNat))

/-! ### Branches and jumps -/

/-- The target of a word offset from the branch's own address. -/
def branchTo (pc : Word) (off : BitVec 22) : Word := pc + off.signExtend 32 * 4

/-- A branch taken or not. -/
def State.tunBranch (s : State) (c : TunCore) (taken : TunRun → Bool) (off : BitVec 22) : State :=
  s.tunStep c fun r => .go (if taken r then { r with pc := branchTo r.pc off } else r.next)

/-- BZ. -/
def execTunBz (c : TunCore) (a : Fin 16) (off : BitVec 22) (s : State) : Host.Outcome State Fault Refusal :=
  .next (s.tunBranch c (fun r => r.rd a = 0) off)

/-- BNZ. -/
def execTunBnz (c : TunCore) (a : Fin 16) (off : BitVec 22) (s : State) : Host.Outcome State Fault Refusal :=
  .next (s.tunBranch c (fun r => r.rd a ≠ 0) off)

/-- JAL. -/
def execTunJal (c : TunCore) (d : Fin 16) (off : BitVec 22) (s : State) : Host.Outcome State Fault Refusal :=
  .next (s.tunStep c fun r => .go { r.wr d (r.pc + 4) with pc := branchTo r.pc off })

/-- JALR: a target that is not word aligned raises ALIGN and writes nothing. [DEDUCED, log entry 140] -/
def execTunJalr (c : TunCore) (d a : Fin 16) (imm : BitVec 18) (s : State) : Host.Outcome State Fault Refusal :=
  .next (s.tunStep c fun r =>
    let t := r.rd a + imm.signExtend 32
    if t.toNat % 4 ≠ 0 then .exc causeAlign t else .go { r.wr d (r.pc + 4) with pc := t })

end Sys2Proof.Machine
end

