-- ==== Sys2Proof/Machine/TunMem.lean ====
section
/-! DEFINITION. A Tun core's memory (R341, R342): regions and accesses; its loads and stores (R347) and block repeat
(R348, R349). -/

namespace Sys2Proof.Machine

/-! ### Regions (R341) -/

/-- Where an address that a core may access stands: TCM, the shared memory of its die, its mailbox, or the die control
space. -/
inductive Region where
  | tcm
  | shared
  | box
  | control
deriving DecidableEq, Repr

/-- The region of an address in the core's mode, none where it is refused. -/
def regionOf (c : TunCore) (a : Nat) : Option Region :=
  if a < 0x40000 then some .tcm
  else if 0x10000000 ≤ a ∧ a < 0x10180000 then (if policyMode c then none else some .shared)
  else if 0x10180000 ≤ a ∧ a < 0x10200000 then
    match c with
    | .head _ => some .shared
    | .field _ _ => none
  else if 0x20000000 ≤ a ∧ a < 0x20000100 then (if policyMode c then some .box else none)
  else if 0x40000000 ≤ a ∧ a < 0x50000000 then (if policyMode c then none else some .control)
  else none

/-- What an access of a size meets: a region, or the cause it raises. [DESIGN CHOICE, log entry 139] -/
def access (c : TunCore) (a size : Nat) : Except Nat Region :=
  match regionOf c a with
  | some r => if a % size ≠ 0 then .error causeAlign else .ok r
  | none => if a % size ≠ 0 ∧ Config.alignFirst a then .error causeAlign else .error causeAccess

/-- Key of the shared memory of a core's die. -/
def sharedKey (c : TunCore) : Nat :=
  match c with
  | .head _ => 0
  | .field f _ => 1 + f

/-- Bytes that a core reads in a region. [DESIGN CHOICE, log entry 4] -/
def State.tunLoad (s : State) (c : TunCore) (r : Region) (a size : Nat) : List Byte :=
  match r with
  | .tcm => (Tbl.getD s.tun.tcm (coreKey c) []).readBytes a size
  | .shared => (Tbl.getD s.tun.shared (sharedKey c) []).readBytes (a - 0x10000000) size
  | .box => (Tbl.getD s.tun.boxes (coreKey c) []).readBytes (a - 0x20000000) size
  | .control => []

/-- Bytes that a core writes in a region. -/
def State.tunStore (s : State) (c : TunCore) (r : Region) (a : Nat) (bs : List Byte) : State :=
  let put (t : Tbl Memory) (k base : Nat) : Tbl Memory := Tbl.put t k ((Tbl.getD t k []).writeBytes (a - base) bs)
  match r with
  | .tcm => { s with tun := { s.tun with tcm := put s.tun.tcm (coreKey c) 0 } }
  | .shared => { s with tun := { s.tun with shared := put s.tun.shared (sharedKey c) 0x10000000 } }
  | .box => { s with tun := { s.tun with boxes := put s.tun.boxes (coreKey c) 0x20000000 } }
  | .control => s

/-! ### Loads and stores (R347) -/

/-- The address of a mode, and the base register's value after it. -/
def effective (r : TunRun) (b : Fin 16) (m : AddrMode) (size : Nat) : Word × Word :=
  let g := r.rd b
  match m with
  | .offset k => (g + k.signExtend 32, g)
  | .postInc => (g, g + BitVec.ofNat 32 size)
  | .preDec => (g - BitVec.ofNat 32 size, g - BitVec.ofNat 32 size)
  | .indexed sh i => (g + (r.rd i <<< sh.val), g)

/-- A mode that moves the base. -/
def movesBase : AddrMode → Bool
  | .postInc => true
  | .preDec => true
  | _ => false

/-- The registers after a mode has moved its base. -/
def TunRun.moved (r : TunRun) (b : Fin 16) (m : AddrMode) (v : Word) : TunRun := if movesBase m then r.wr b v else r

/-- A core that will make an access in its die control space, which the spec gives no behaviour for.
[DESIGN CHOICE, log entry 143] -/
def State.atControl (s : State) (c : TunCore) (a : TunRun → Word) (size : Nat) : Bool :=
  s.executes c && (fetchCause (s.core (coreKey c)).pc).isNone
  && match access c (a (s.core (coreKey c))).toNat size with
    | .ok .control => true
    | _ => false

/-- A load of size bytes, whose bytes give gD a value. [DESIGN CHOICE, log entry 143] -/
def State.tunLoadOp (s : State) (c : TunCore) (d b : Fin 16) (m : AddrMode) (size : Nat) (val : Nat → Word) :
    Host.Outcome State Fault Refusal :=
  if !(movesBase m && d = b) && s.atControl c (fun r => (effective r b m size).1) size then .refused .controlSpace
  else .next (s.tunFetch c fun r =>
    let e := effective r b m size
    if movesBase m && d = b then s.exception c causeIllegal r.pc
    else match access c e.1.toNat size with
      | .ok reg => s.setCore (coreKey c) (((r.moved b m e.2).wr d (val (leVal (s.tunLoad c reg e.1.toNat size)))).next)
      | .error k => s.exception c k e.1)

/-- A store of the low size bytes of gD. [DESIGN CHOICE, log entry 143] -/
def State.tunStoreOp (s : State) (c : TunCore) (d b : Fin 16) (m : AddrMode) (size : Nat) : Host.Outcome State Fault Refusal :=
  if s.atControl c (fun r => (effective r b m size).1) size then .refused .controlSpace
  else .next (s.tunFetch c fun r =>
    let e := effective r b m size
    match access c e.1.toNat size with
    | .ok reg => (s.tunStore c reg e.1.toNat (leBytes size (r.rd d).toNat)).setCore (coreKey c) (r.moved b m e.2).next
    | .error k => s.exception c k e.1)

/-- LB. -/
def execTunLb (c : TunCore) (d b : Fin 16) (m : AddrMode) (s : State) : Host.Outcome State Fault Refusal :=
  s.tunLoadOp c d b m 1 fun v => (BitVec.ofNat 8 v).signExtend 32

/-- LBU. -/
def execTunLbu (c : TunCore) (d b : Fin 16) (m : AddrMode) (s : State) : Host.Outcome State Fault Refusal :=
  s.tunLoadOp c d b m 1 (BitVec.ofNat 32)

/-- LH. -/
def execTunLh (c : TunCore) (d b : Fin 16) (m : AddrMode) (s : State) : Host.Outcome State Fault Refusal :=
  s.tunLoadOp c d b m 2 fun v => (BitVec.ofNat 16 v).signExtend 32

/-- LHU. -/
def execTunLhu (c : TunCore) (d b : Fin 16) (m : AddrMode) (s : State) : Host.Outcome State Fault Refusal :=
  s.tunLoadOp c d b m 2 (BitVec.ofNat 32)

/-- LW. -/
def execTunLw (c : TunCore) (d b : Fin 16) (m : AddrMode) (s : State) : Host.Outcome State Fault Refusal :=
  s.tunLoadOp c d b m 4 (BitVec.ofNat 32)

/-- SB. -/
def execTunSb (c : TunCore) (d b : Fin 16) (m : AddrMode) (s : State) : Host.Outcome State Fault Refusal :=
  s.tunStoreOp c d b m 1

/-- SH. -/
def execTunSh (c : TunCore) (d b : Fin 16) (m : AddrMode) (s : State) : Host.Outcome State Fault Refusal :=
  s.tunStoreOp c d b m 2

/-- SW. -/
def execTunSw (c : TunCore) (d b : Fin 16) (m : AddrMode) (s : State) : Host.Outcome State Fault Refusal :=
  s.tunStoreOp c d b m 4

/-! ### Block repeat (R348, R349) -/

/-- The kinds of R348. -/
inductive BlkKind where
  | mov
  | set
  | scanEq
  | scanNe
  | cmp
  | crc
deriving DecidableEq, Repr

/-- The register fields a kind uses: D, S, N, V. -/
def BlkKind.uses : BlkKind → Bool × Bool × Bool
  | .mov => (true, true, false)
  | .set => (true, false, true)
  | .scanEq => (false, true, true)
  | .scanNe => (false, true, true)
  | .cmp => (true, true, true)
  | .crc => (false, true, true)

/-- V may name g0, which supplies 0. -/
def BlkKind.zeroV : BlkKind → Bool
  | .set => true
  | .scanEq => true
  | .scanNe => true
  | _ => false

/-- The register fields of a BLK are legal (R348). -/
def blkLegal (k : BlkKind) (b : BlkArgs) : Bool :=
  let u := k.uses
  let used := (if u.1 then [b.d] else []) ++ (if u.2.1 then [b.s] else []) ++ [b.n] ++ (if u.2.2 then [b.v] else [])
  let named := if k.zeroV then used.dropLast else used
  named.all (· ≠ 0) && decide used.Nodup && (u.1 || b.d = 0) && (u.2.1 || b.s = 0)

/-- How a BLK stands after an element: it goes on, stopped early, met a fault, or the die control space. -/
inductive BlkStop where
  | more
  | early
  | fault (cause : Nat) (bad : Word)
  | control
deriving DecidableEq, Repr

/-- Reads an element and goes on with its bytes. -/
def State.blkRead (s : State) (r : TunRun) (c : TunCore) (a : Word) (size : Nat)
    (go : List Byte → State × TunRun × BlkStop) : State × TunRun × BlkStop :=
  match access c a.toNat size with
  | .error k => (s, r, .fault k a)
  | .ok .control => (s, r, .control)
  | .ok reg => go (s.tunLoad c reg a.toNat size)

/-- Writes an element. -/
def State.blkWrite (s : State) (r : TunRun) (c : TunCore) (a : Word) (bs : List Byte) (go : TunRun) : State × TunRun × BlkStop :=
  match access c a.toNat bs.length with
  | .error k => (s, r, .fault k a)
  | .ok .control => (s, r, .control)
  | .ok reg => (s.tunStore c reg a.toNat bs, go, .more)

/-- One element, without the decrement of N. -/
def State.blkElem (s : State) (r : TunRun) (c : TunCore) (k : BlkKind) (b : BlkArgs) : State × TunRun × BlkStop :=
  let size := 2 ^ b.size.val
  let step := BitVec.ofNat 32 size
  let src := r.rd b.s
  let dst := r.rd b.d
  let v := (r.rd b.v).toNat
  match k with
  | .mov => s.blkRead r c src size fun bs => s.blkWrite r c dst bs ((r.wr b.d (dst + step)).wr b.s (src + step))
  | .set => s.blkWrite r c dst (leBytes size v) (r.wr b.d (dst + step))
  | .scanEq => s.blkRead r c src size fun bs => if leVal bs = v then (s, r, .early) else (s, r.wr b.s (src + step), .more)
  | .scanNe => s.blkRead r c src size fun bs => if leVal bs ≠ v then (s, r, .early) else (s, r.wr b.s (src + step), .more)
  | .cmp => s.blkRead r c src size fun x => s.blkRead r c dst size fun y =>
      if leVal x = leVal y then (s, (r.wr b.d (dst + step)).wr b.s (src + step), .more)
      else (s, r.wr b.v (if leVal x < leVal y then 0xFFFFFFFF else 1), .early)
  | .crc => s.blkRead r c src size fun bs =>
      (s, (r.wr b.v (BitVec.ofNat 32 (bs.foldl crcByte v))).wr b.s (src + step), .more)

/-- Elements one after another, N decremented after each; blk.cmp clears gV as N reaches 0. [DEDUCED, log entry 144] -/
def State.blkLoop (s : State) (r : TunRun) (c : TunCore) (k : BlkKind) (b : BlkArgs) : Nat → State × TunRun × BlkStop
  | 0 => (s, r, .more)
  | n + 1 =>
    if r.rd b.n = 0 then (s, r, .more)
    else match s.blkElem r c k b with
      | (s', r', .more) =>
        let r' := r'.wr b.n (r'.rd b.n - 1)
        let r' := if k = .cmp ∧ r'.rd b.n = 0 then r'.wr b.v 0 else r'
        State.blkLoop s' r' c k b n
      | x => x

/-- A BLK: at most `limit` elements, after which an interrupt or the budget stops it at itself (R349).
[DESIGN CHOICE, log entry 143; DEDUCED, log entry 144] -/
def State.tunBlk (s : State) (c : TunCore) (k : BlkKind) (b : BlkArgs) (limit : Nat) : Host.Outcome State Fault Refusal :=
  let r := s.core (coreKey c)
  if s.executes c && (fetchCause r.pc).isNone && blkLegal k b then
    match s.blkLoop r c k b limit with
    | (_, _, .control) => .refused .controlSpace
    | (s', r', .fault cause bad) => .next ((s'.setCore (coreKey c) r').exception c cause bad)
    | (s', r', .early) => .next (s'.setCore (coreKey c) r'.next)
    | (s', r', .more) => .next (s'.setCore (coreKey c) (if r'.rd b.n = 0 then r'.next else r'))
  else .next (s.tunFetch c fun r => s.exception c causeIllegal r.pc)

/-- BLK_MOV. -/
def execTunBlkMov (c : TunCore) (b : BlkArgs) (limit : Nat) (s : State) : Host.Outcome State Fault Refusal :=
  s.tunBlk c .mov b limit

/-- BLK_SET. -/
def execTunBlkSet (c : TunCore) (b : BlkArgs) (limit : Nat) (s : State) : Host.Outcome State Fault Refusal :=
  s.tunBlk c .set b limit

/-- BLK_SCAN_EQ. -/
def execTunBlkScanEq (c : TunCore) (b : BlkArgs) (limit : Nat) (s : State) : Host.Outcome State Fault Refusal :=
  s.tunBlk c .scanEq b limit

/-- BLK_SCAN_NE. -/
def execTunBlkScanNe (c : TunCore) (b : BlkArgs) (limit : Nat) (s : State) : Host.Outcome State Fault Refusal :=
  s.tunBlk c .scanNe b limit

/-- BLK_CMP. -/
def execTunBlkCmp (c : TunCore) (b : BlkArgs) (limit : Nat) (s : State) : Host.Outcome State Fault Refusal :=
  s.tunBlk c .cmp b limit

/-- BLK_CRC. -/
def execTunBlkCrc (c : TunCore) (b : BlkArgs) (limit : Nat) (s : State) : Host.Outcome State Fault Refusal :=
  s.tunBlk c .crc b limit

end Sys2Proof.Machine
end

