-- ==== Sys2Proof/Machine/Dispatch.lean ====
section
/-! DEFINITION. One arm per command: a direct call of its meaning. -/

namespace Sys2Proof.Machine

def exec (i : Instr) (s : State) : Host.Outcome State Fault Refusal :=
  match i with
  | .coldStart ws1 ws0 => Sys2Proof.Machine.execColdStart ws1 ws0 s
  | .pgoodRise n refSel => Sys2Proof.Machine.execPgoodRise n s refSel
  | .pgoodFall n => Sys2Proof.Machine.execPgoodFall n s
  | .startUpTimeout => Sys2Proof.Machine.execStartUpTimeout s
  | .oscRdy => Sys2Proof.Machine.execOscRdy s
  | .memRdy => Sys2Proof.Machine.execMemRdy s
  | .logicRdy tamper => Sys2Proof.Machine.execLogicRdy s tamper
  | .bootRdy pulses => Sys2Proof.Machine.execBootRdy s pulses
  | .resetNAssert => Sys2Proof.Machine.execResetNAssert s
  | .resetNRelease => Sys2Proof.Machine.execResetNRelease s
  | .nightCtlWrite v => Sys2Proof.Machine.execNightCtlWrite v s
  | .nightCommit => Sys2Proof.Machine.execNightCommit s
  | .wakeArm wakeNLow => Sys2Proof.Machine.execWakeArm wakeNLow s
  | .pwrEnDrop => Sys2Proof.Machine.execPwrEnDrop s
  | .addressMatch byte first => Sys2Proof.Machine.execAddressMatch byte s first
  | .wakeN => Sys2Proof.Machine.execWakeN s
  | .thermalTrip die => Sys2Proof.Machine.execThermalTrip die s
  | .tempSample readings => Sys2Proof.Machine.execTempSample readings s
  | .thermalDrop die => Sys2Proof.Machine.execThermalDrop die s
  | .dropRelease die => Sys2Proof.Machine.execDropRelease die s
  | .levelReqWrite v => Sys2Proof.Machine.execLevelReqWrite v s
  | .levelChangeStart => Sys2Proof.Machine.execLevelChangeStart s
  | .pmicWriteDone acked => Sys2Proof.Machine.execPmicWriteDone acked s
  | .vsettleExpiry => Sys2Proof.Machine.execVsettleExpiry s
  | .pllGlideDone => Sys2Proof.Machine.execPllGlideDone s
  | .duskReqWrite v => Sys2Proof.Machine.execDuskReqWrite v s
  | .duskEntry => Sys2Proof.Machine.execDuskEntry s
  | .duskExit => Sys2Proof.Machine.execDuskExit s
  | .pmI2cEnable v pulses => Sys2Proof.Machine.execPmI2cEnable v pulses s
  | .pmSclTimeout pulses => Sys2Proof.Machine.execPmSclTimeout pulses s
  | .timeTick cycles => Sys2Proof.Machine.execTimeTick cycles s
  | .timeSet v => Sys2Proof.Machine.execTimeSet v s
  | .meshOffsetWrite v => Sys2Proof.Machine.execMeshOffsetWrite v s
  | .slotTick failed trips => Sys2Proof.Machine.execSlotTick failed s trips
  | .cycleTick pilots => Sys2Proof.Machine.execCycleTick pilots s
  | .switchComplete => Sys2Proof.Machine.execSwitchComplete s
  | .forceSlew => Sys2Proof.Machine.execForceSlew s
  | .ppsEdge rising => Sys2Proof.Machine.execPpsEdge rising s
  | .calibrationFault f => Sys2Proof.Machine.execCalibrationFault f s
  | .hclkSsWrite v => Sys2Proof.Machine.execHclkSsWrite v s
  | .cpllLossOfLock f => Sys2Proof.Machine.execCpllLossOfLock f s
  | .clkoutCtlWrite f n v => Sys2Proof.Machine.execClkoutCtlWrite f n v s
  | .phaseWrite f n v => Sys2Proof.Machine.execPhaseWrite f n v s
  | .timeNowRead func => Sys2Proof.Machine.execTimeNowRead func s
  | .mscRead func => Sys2Proof.Machine.execMscRead func s
  | .timersGo v => Sys2Proof.Machine.execTimersGo v s
  | .timerMatch k => Sys2Proof.Machine.execTimerMatch k s
  | .timerOverflow k => Sys2Proof.Machine.execTimerOverflow k s
  | .timerCapture k edge => Sys2Proof.Machine.execTimerCapture k edge s
  | .captureRead func k edgeNow => Sys2Proof.Machine.execCaptureRead func k edgeNow s
  | .cascadeCountRead func k => Sys2Proof.Machine.execCascadeCountRead func k s
  | .linkCfgWrite f k v => Sys2Proof.Machine.execLinkCfgWrite f k v s
  | .linkDisable f k v => Sys2Proof.Machine.execLinkDisable f k v s
  | .streamCfgWrite f ix v => Sys2Proof.Machine.execStreamCfgWrite f ix v s
  | .streamDisable f ix v => Sys2Proof.Machine.execStreamDisable f ix v s
  | .linkSyncLock f k => Sys2Proof.Machine.execLinkSyncLock f k s
  | .linkEmbLock f k => Sys2Proof.Machine.execLinkEmbLock f k s
  | .linkAlign f k => Sys2Proof.Machine.execLinkAlign f k s
  | .linkRestart f k => Sys2Proof.Machine.execLinkRestart f k s
  | .searchResume f k => Sys2Proof.Machine.execSearchResume f k s
  | .crcMismatch f k lane => Sys2Proof.Machine.execCrcMismatch f k lane s
  | .sysrefError f k => Sys2Proof.Machine.execSysrefError f k s
  | .txLinkAlign f k => Sys2Proof.Machine.execTxLinkAlign f k s
  | .rxChainEnable f c v => Sys2Proof.Machine.execRxChainEnable f c v s
  | .calibrationDue f c cal => Sys2Proof.Machine.execCalibrationDue f c cal s
  | .calibrationDone f c cal ok imageDb => Sys2Proof.Machine.execCalibrationDone f c cal ok imageDb s
  | .calibrationForced f c cal => Sys2Proof.Machine.execCalibrationForced f c cal s
  | .calReq f c v => Sys2Proof.Machine.execCalReq f c v s
  | .txMismatch f c => Sys2Proof.Machine.execTxMismatch f c s
  | .txProbe f c forward reflected granted => Sys2Proof.Machine.execTxProbe f c forward reflected granted s
  | .txFaultWrite f c => Sys2Proof.Machine.execTxFaultWrite f c s
  | .gainWindow f src peak clamped sample => Sys2Proof.Machine.execGainWindow f src peak clamped s sample
  | .gainStepUpApply f src sample => Sys2Proof.Machine.execGainStepUpApply f src s sample
  | .gainSettle f k sample => Sys2Proof.Machine.execGainSettle f k s sample
  | .blankAssert f n => Sys2Proof.Machine.execBlankAssert f n s
  | .blankDeassert f n => Sys2Proof.Machine.execBlankDeassert f n s
  | .cxgntDrop f n => Sys2Proof.Machine.execCxgntDrop f n s
  | .cxreqChange f n active => Sys2Proof.Machine.execCxreqChange f n active s
  | .cxHoldExpiry f n => Sys2Proof.Machine.execCxHoldExpiry f n s
  | .seqIdle f => Sys2Proof.Machine.execSeqIdle f s
  | .seqWait f => Sys2Proof.Machine.execSeqWait f s
  | .seqWaitReached f => Sys2Proof.Machine.execSeqWaitReached f s
  | .seqHop f => Sys2Proof.Machine.execSeqHop f s
  | .seqHopLock f => Sys2Proof.Machine.execSeqHopLock f s
  | .seqHopLockTimeout f => Sys2Proof.Machine.execSeqHopLockTimeout f s
  | .seqHcb f => Sys2Proof.Machine.execSeqHcb f s
  | .seqGain f sample => Sys2Proof.Machine.execSeqGain f s sample
  | .seqCal f => Sys2Proof.Machine.execSeqCal f s
  | .seqEvent f => Sys2Proof.Machine.execSeqEvent f s
  | .seqBranch f => Sys2Proof.Machine.execSeqBranch f s
  | .seqIllegal f => Sys2Proof.Machine.execSeqIllegal f s
  | .seqProgWrite f p v => Sys2Proof.Machine.execSeqProgWrite f p v s
  | .seqSwap f v => Sys2Proof.Machine.execSeqSwap f v s
  | .hcbHostGo f v => Sys2Proof.Machine.execHcbHostGo f v s
  | .hcbDone f m miso => Sys2Proof.Machine.execHcbDone f m miso s
  | .steepCandidate f cand rhos => Sys2Proof.Machine.execSteepCandidate f cand s rhos
  | .trackerFreeze f t offset10Hz rho phase before => Sys2Proof.Machine.execTrackerFreeze f t offset10Hz rho s phase before
  | .syncMatch f t decided fclk peak others => Sys2Proof.Machine.execSyncMatch f t decided fclk peak others s
  | .syncTimeout f t => Sys2Proof.Machine.execSyncTimeout f t s
  | .floorWindow f ctx powers => Sys2Proof.Machine.execFloorWindow f ctx powers s
  | .rstFloors f v => Sys2Proof.Machine.execRstFloors f v s
  | .channelPowerUpdate f ctx powers => Sys2Proof.Machine.execChannelPowerUpdate f ctx powers s
  | .wEnWrite f ix v => Sys2Proof.Machine.execWEnWrite f ix v s
  | .trackRead func f => Sys2Proof.Machine.execTrackRead func f s
  | .demodCtxRead func f => Sys2Proof.Machine.execDemodCtxRead func f s
  | .demodSymbol f d sym => Sys2Proof.Machine.execDemodSymbol f d sym s
  | .trellisStep f d => Sys2Proof.Machine.execTrellisStep f d s
  | .traceback f d tailLate => Sys2Proof.Machine.execTraceback f d tailLate s
  | .segmentArrival f => Sys2Proof.Machine.execSegmentArrival f s
  | .frameRecordArrival f => Sys2Proof.Machine.execFrameRecordArrival f s
  | .endNoticeArrival f => Sys2Proof.Machine.execEndNoticeArrival f s
  | .segmentClose g seg => Sys2Proof.Machine.execSegmentClose g seg s
  | .windowClose g => Sys2Proof.Machine.execWindowClose g s
  | .blendDecodeDone g seg => Sys2Proof.Machine.execBlendDecodeDone g seg s
  | .blendOverload g => Sys2Proof.Machine.execBlendOverload g s
  | .groupHoldEnd g => Sys2Proof.Machine.execGroupHoldEnd g s
  | .elkDeadline g => Sys2Proof.Machine.execElkDeadline g s
  | .checkAdmit id => Sys2Proof.Machine.execCheckAdmit id s
  | .checkDone id => Sys2Proof.Machine.execCheckDone id s
  | .replayFilter g => Sys2Proof.Machine.execReplayFilter g s
  | .frameDelivery g => Sys2Proof.Machine.execFrameDelivery g s
  | .duplicateHoldExpiry src seq ctr => Sys2Proof.Machine.execDuplicateHoldExpiry src seq ctr s
  | .decisionRecordArrival f => Sys2Proof.Machine.execDecisionRecordArrival f s
  | .ackCheck id spanPower granted => Sys2Proof.Machine.execAckCheck id spanPower granted s
  | .piggybackCheck id granted => Sys2Proof.Machine.execPiggybackCheck id granted s
  | .lbtCheck id granted => Sys2Proof.Machine.execLbtCheck id granted s
  | .meetingCheck id granted => Sys2Proof.Machine.execMeetingCheck id granted s
  | .txStart id => Sys2Proof.Machine.execTxStart id s
  | .txEnd id clamped forward reflected => Sys2Proof.Machine.execTxEnd id clamped s forward reflected
  | .ackTimeout id => Sys2Proof.Machine.execAckTimeout id s
  | .contactWindowOpen id => Sys2Proof.Machine.execContactWindowOpen id s
  | .contactMissed id => Sys2Proof.Machine.execContactMissed id s
  | .profileWrite v => Sys2Proof.Machine.execProfileWrite v s
  | .netCfgWrite n v => Sys2Proof.Machine.execNetCfgWrite n v s
  | .bcastTune f ctl v => Sys2Proof.Machine.execBcastTune f ctl v s
  | .bcastRetuneDone f => Sys2Proof.Machine.execBcastRetuneDone f s
  | .rdsBlock f blk => Sys2Proof.Machine.execRdsBlock f blk s
  | .pcmRecord f us50 us75 backNs => Sys2Proof.Machine.execPcmRecord f us50 us75 backNs s
  | .dabNull f found backNs => Sys2Proof.Machine.execDabNull f found backNs s
  | .fibReceived f bytes => Sys2Proof.Machine.execFibReceived f bytes s
  | .subchRecord f j bytes backNs => Sys2Proof.Machine.execSubchRecord f j bytes backNs s
  | .afCheck f => Sys2Proof.Machine.execAfCheck f s
  | .afDwellEnd f level tuned => Sys2Proof.Machine.execAfDwellEnd f level tuned s
  | .tunedLoss f => Sys2Proof.Machine.execTunedLoss f s
  | .afVerify f identity => Sys2Proof.Machine.execAfVerify f identity s
  | .nodeRead => Sys2Proof.Machine.execNodeRead s
  | .nodeWrite => Sys2Proof.Machine.execNodeWrite s
  | .nodeInsert => Sys2Proof.Machine.execNodeInsert s
  | .nodeDelete => Sys2Proof.Machine.execNodeDelete s
  | .nodeSearch => Sys2Proof.Machine.execNodeSearch s
  | .ageScan => Sys2Proof.Machine.execAgeScan s
  | .ageScanDone => Sys2Proof.Machine.execAgeScanDone s
  | .nodeBadOpcode op => Sys2Proof.Machine.execNodeBadOpcode op s
  | .agingVisit ix => Sys2Proof.Machine.execAgingVisit ix s
  | .hearSearch f => Sys2Proof.Machine.execHearSearch f s
  | .hearRead f => Sys2Proof.Machine.execHearRead f s
  | .hearClear f => Sys2Proof.Machine.execHearClear f s
  | .hearClearDone f => Sys2Proof.Machine.execHearClearDone f s
  | .hearBadOpcode f => Sys2Proof.Machine.execHearBadOpcode f s
  | .caskBind => Sys2Proof.Machine.execCaskBind s
  | .caskUnbind => Sys2Proof.Machine.execCaskUnbind s
  | .caskRead => Sys2Proof.Machine.execCaskRead s
  | .caskPeek => Sys2Proof.Machine.execCaskPeek s
  | .caskFlush => Sys2Proof.Machine.execCaskFlush s
  | .caskBadOpcode op => Sys2Proof.Machine.execCaskBadOpcode op s
  | .poolEnable v => Sys2Proof.Machine.execPoolEnable v s
  | .schedDecision g => Sys2Proof.Machine.execSchedDecision g s
  | .gateCommit g v => Sys2Proof.Machine.execGateCommit g v s
  | .gateCancel g v => Sys2Proof.Machine.execGateCancel g v s
  | .gateTakeover g => Sys2Proof.Machine.execGateTakeover g s
  | .gateEntryChange g => Sys2Proof.Machine.execGateEntryChange g s
  | .ringCtlWrite n v => Sys2Proof.Machine.execRingCtlWrite n v s
  | .ringResume n v => Sys2Proof.Machine.execRingResume n v s
  | .pollRound => Sys2Proof.Machine.execPollRound s
  | .pollReadDone line result kicks => Sys2Proof.Machine.execPollReadDone line result s kicks
  | .kick func n v => Sys2Proof.Machine.execKick func n v s
  | .cmdVisit failed => Sys2Proof.Machine.execCmdVisit s failed
  | .cmdNop n desc => Sys2Proof.Machine.execCmdNop n desc s
  | .send n desc => Sys2Proof.Machine.execSend n desc s
  | .sendDataRead n walk => Sys2Proof.Machine.execSendDataRead n walk s
  | .contact n desc => Sys2Proof.Machine.execContact n desc s
  | .contactCancel n desc => Sys2Proof.Machine.execContactCancel n desc s
  | .badOpcode n desc => Sys2Proof.Machine.execBadOpcode n desc s
  | .msixHoldoffEnd v => Sys2Proof.Machine.execMsixHoldoffEnd v s
  | .evtPendClear j v firing => Sys2Proof.Machine.execEvtPendClear j v firing s
  | .ethFrameRx h p bytes stampPs => Sys2Proof.Machine.execEthFrameRx h p bytes stampPs s
  | .ptpEgress h p stampPs => Sys2Proof.Machine.execPtpEgress h p stampPs s
  | .announceTimeout lan => Sys2Proof.Machine.execAnnounceTimeout lan s
  | .prpSupervision => Sys2Proof.Machine.execPrpSupervision s
  | .ethLinkChange h p up txPhyPs rxPhyPs => Sys2Proof.Machine.execEthLinkChange h p up txPhyPs rxPhyPs s
  | .fpTplCommit t v => Sys2Proof.Machine.execFpTplCommit t v s
  | .approvedWrite v => Sys2Proof.Machine.execApprovedWrite v s
  | .selftestDone kat run same => Sys2Proof.Machine.execSelftestDone kat s run same
  | .rootRegen wrong helper => Sys2Proof.Machine.execRootRegen wrong s helper
  | .drbgSeeded => Sys2Proof.Machine.execDrbgSeeded s
  | .dlFloorWrite v => Sys2Proof.Machine.execDlFloorWrite v s
  | .keyLoadBlobs n desc data => Sys2Proof.Machine.execKeyLoadBlobs n desc data s
  | .keyUpdate n desc data => Sys2Proof.Machine.execKeyUpdate n desc data s
  | .keyCommit n desc => Sys2Proof.Machine.execKeyCommit n desc s
  | .keyUnwrap n desc data => Sys2Proof.Machine.execKeyUnwrap n desc data s
  | .keyDerive n desc => Sys2Proof.Machine.execKeyDerive n desc s
  | .keyClear n desc => Sys2Proof.Machine.execKeyClear n desc s
  | .keyInfo n desc => Sys2Proof.Machine.execKeyInfo n desc s
  | .checkGen n desc data => Sys2Proof.Machine.execCheckGen n desc data s
  | .checkVerify n desc data => Sys2Proof.Machine.execCheckVerify n desc data s
  | .random n desc => Sys2Proof.Machine.execRandom n desc s
  | .attest n desc => Sys2Proof.Machine.execAttest n desc s
  | .pubkeys n desc => Sys2Proof.Machine.execPubkeys n desc s
  | .enrol n desc data => Sys2Proof.Machine.execEnrol n desc data s
  | .zeroiseReenrol n desc => Sys2Proof.Machine.execZeroiseReenrol n desc s
  | .debugUnlock n desc => Sys2Proof.Machine.execDebugUnlock n desc s
  | .tamperAck n desc => Sys2Proof.Machine.execTamperAck n desc s
  | .cacheFlush n desc => Sys2Proof.Machine.execCacheFlush n desc s
  | .kilnBadOpcode n desc => Sys2Proof.Machine.execKilnBadOpcode n desc s
  | .tamper src => Sys2Proof.Machine.execTamper src s
  | .entropyFault run same => Sys2Proof.Machine.execEntropyFault run same s
  | .rngRestart v => Sys2Proof.Machine.execRngRestart v s
  | .rngRestartDone run same => Sys2Proof.Machine.execRngRestartDone run s same
  | .drbgReseed => Sys2Proof.Machine.execDrbgReseed s
  | .presenceSample low => Sys2Proof.Machine.execPresenceSample low s
  | .signatureExchange sig0 sig1 => Sys2Proof.Machine.execSignatureExchange sig0 sig1 s
  | .headSelfcheckDone pass0 pass1 => Sys2Proof.Machine.execHeadSelfcheckDone pass0 pass1 s
  | .bulkResume => Sys2Proof.Machine.execBulkResume s
  | .headRejoin v => Sys2Proof.Machine.execHeadRejoin v s
  | .headRejoinDone ok => Sys2Proof.Machine.execHeadRejoinDone ok s
  | .fieldCoreMismatch f => Sys2Proof.Machine.execFieldCoreMismatch f s
  | .patrol f signature => Sys2Proof.Machine.execPatrol f signature s
  | .fieldSelftestDone f pass => Sys2Proof.Machine.execFieldSelftestDone f pass s
  | .fdieRejoin f v => Sys2Proof.Machine.execFdieRejoin f v s
  | .fdieRejoinDone f => Sys2Proof.Machine.execFdieRejoinDone f s
  | .errorLog es => Sys2Proof.Machine.execErrorLog es s
  | .logAck v => Sys2Proof.Machine.execLogAck v s
  | .faultCauseClear v => Sys2Proof.Machine.execFaultCauseClear v s
  | .stageErase n desc => Sys2Proof.Machine.execStageErase n desc s
  | .stageWrite n desc data => Sys2Proof.Machine.execStageWrite n desc data s
  | .stageRead n desc => Sys2Proof.Machine.execStageRead n desc s
  | .activate n desc => Sys2Proof.Machine.execActivate n desc s
  | .healthConfirm n desc expiryNow => Sys2Proof.Machine.execHealthConfirm n desc expiryNow s
  | .abort n desc => Sys2Proof.Machine.execAbort n desc s
  | .updateBadOpcode n desc => Sys2Proof.Machine.execUpdateBadOpcode n desc s
  | .bootRestart v => Sys2Proof.Machine.execBootRestart v s
  | .healthWindowExpiry => Sys2Proof.Machine.execHealthWindowExpiry s
  | .joinRequest g => Sys2Proof.Machine.execJoinRequest g s
  | .routeChoice q => Sys2Proof.Machine.execRouteChoice q s
  | .frameClassify g => Sys2Proof.Machine.execFrameClassify g s
  | .hookQueueTimeout call => Sys2Proof.Machine.execHookQueueTimeout call s
  | .hookBudgetExpiry k => Sys2Proof.Machine.execHookBudgetExpiry k s
  | .tunInterrupt c line => Sys2Proof.Machine.execTunInterrupt c line s
  | .tunAddi c d a imm => Sys2Proof.Machine.execTunAddi c d a imm s
  | .tunAndi c d a imm => Sys2Proof.Machine.execTunAndi c d a imm s
  | .tunOri c d a imm => Sys2Proof.Machine.execTunOri c d a imm s
  | .tunXori c d a imm => Sys2Proof.Machine.execTunXori c d a imm s
  | .tunShi c d a imm => Sys2Proof.Machine.execTunShi c d a imm s
  | .tunLui c d imm => Sys2Proof.Machine.execTunLui c d imm s
  | .tunLb c d b m => Sys2Proof.Machine.execTunLb c d b m s
  | .tunLbu c d b m => Sys2Proof.Machine.execTunLbu c d b m s
  | .tunLh c d b m => Sys2Proof.Machine.execTunLh c d b m s
  | .tunLhu c d b m => Sys2Proof.Machine.execTunLhu c d b m s
  | .tunLw c d b m => Sys2Proof.Machine.execTunLw c d b m s
  | .tunSb c d b m => Sys2Proof.Machine.execTunSb c d b m s
  | .tunSh c d b m => Sys2Proof.Machine.execTunSh c d b m s
  | .tunSw c d b m => Sys2Proof.Machine.execTunSw c d b m s
  | .tunBz c a off => Sys2Proof.Machine.execTunBz c a off s
  | .tunBnz c a off => Sys2Proof.Machine.execTunBnz c a off s
  | .tunJal c d off => Sys2Proof.Machine.execTunJal c d off s
  | .tunJalr c d a imm => Sys2Proof.Machine.execTunJalr c d a imm s
  | .tunBlkMov c b limit => Sys2Proof.Machine.execTunBlkMov c b limit s
  | .tunBlkSet c b limit => Sys2Proof.Machine.execTunBlkSet c b limit s
  | .tunBlkScanEq c b limit => Sys2Proof.Machine.execTunBlkScanEq c b limit s
  | .tunBlkScanNe c b limit => Sys2Proof.Machine.execTunBlkScanNe c b limit s
  | .tunBlkCmp c b limit => Sys2Proof.Machine.execTunBlkCmp c b limit s
  | .tunBlkCrc c b limit => Sys2Proof.Machine.execTunBlkCrc c b limit s
  | .tunAdd c d a b => Sys2Proof.Machine.execTunAdd c d a b s
  | .tunSub c d a b => Sys2Proof.Machine.execTunSub c d a b s
  | .tunAnd c d a b => Sys2Proof.Machine.execTunAnd c d a b s
  | .tunOr c d a b => Sys2Proof.Machine.execTunOr c d a b s
  | .tunXor c d a b => Sys2Proof.Machine.execTunXor c d a b s
  | .tunSll c d a b => Sys2Proof.Machine.execTunSll c d a b s
  | .tunSrl c d a b => Sys2Proof.Machine.execTunSrl c d a b s
  | .tunSra c d a b => Sys2Proof.Machine.execTunSra c d a b s
  | .tunMul c d a b => Sys2Proof.Machine.execTunMul c d a b s
  | .tunMulhu c d a b => Sys2Proof.Machine.execTunMulhu c d a b s
  | .tunDivu c d a b => Sys2Proof.Machine.execTunDivu c d a b s
  | .tunRemu c d a b => Sys2Proof.Machine.execTunRemu c d a b s
  | .tunCeq c d a b => Sys2Proof.Machine.execTunCeq c d a b s
  | .tunCne c d a b => Sys2Proof.Machine.execTunCne c d a b s
  | .tunClt c d a b => Sys2Proof.Machine.execTunClt c d a b s
  | .tunCltu c d a b => Sys2Proof.Machine.execTunCltu c d a b s
  | .tunCle c d a b => Sys2Proof.Machine.execTunCle c d a b s
  | .tunCleu c d a b => Sys2Proof.Machine.execTunCleu c d a b s
  | .tunNop c => Sys2Proof.Machine.execTunNop c s
  | .tunDone c => Sys2Proof.Machine.execTunDone c s
  | .tunBrk c => Sys2Proof.Machine.execTunBrk c s
  | .tunWfe c => Sys2Proof.Machine.execTunWfe c s
  | .tunFence c => Sys2Proof.Machine.execTunFence c s
  | .tunEret c => Sys2Proof.Machine.execTunEret c s
  | .tunMfc c d a => Sys2Proof.Machine.execTunMfc c d a s
  | .tunMtc c d a => Sys2Proof.Machine.execTunMtc c d a s
  | .tunIllegal c word => Sys2Proof.Machine.execTunIllegal c word s
  | .registerWrite func acc data => Sys2Proof.Machine.execRegisterWrite func acc data s
  | .unsupportedRead func acc => Sys2Proof.Machine.execUnsupportedRead func acc s
  | .headRejoinSelftest pass => Sys2Proof.Machine.execHeadRejoinSelftest pass s
  | .vstbyLoss => Sys2Proof.Machine.execVstbyLoss s
  | .wakeNHigh => Sys2Proof.Machine.execWakeNHigh s
  | .cxListenLead f n probe id => Sys2Proof.Machine.execCxListenLead f n s probe id
  | .statisticRead func acc => Sys2Proof.Machine.execStatisticRead func acc s
  | .bootFlashDone => Sys2Proof.Machine.execBootFlashDone s

end Sys2Proof.Machine
end

