-- ==== Sys2Proof/Safety.lean ====
section
/-! DEFINITION. What counts as a safe run, the terms in which statements say what a command leaves unchanged, and the
invariants of the state. -/

namespace Sys2Proof.Machine

/-- A command is accepted in a state when its meaning answers a next state. -/
def Accepts (c : Instr) (s : State) : Prop := ∃ t, exec c s = .next t

/-- The next n steps from s are all accepted. -/
def SafeFor : Nat → State → Prop
  | 0, _ => True
  | n + 1, s => ∃ t, step s = .next t ∧ SafeFor n t

/-- The components of the state, register fields and statistics words apart. -/
inductive Component where
  | part | power | watch | time | clk | timers | evt | rings | eth | safe | air | nets | blendForce | node | hear | kiln
  | otp | rx | cask | sched | tx | tun | boot | bcast | pending | out | free
deriving DecidableEq, Repr

/-- Two states hold the same component. -/
def Component.Same (s t : State) : Component → Prop
  | .part => t.part = s.part
  | .power => t.power = s.power
  | .watch => t.watch = s.watch
  | .time => t.time = s.time
  | .clk => t.clk = s.clk
  | .timers => t.timers = s.timers
  | .evt => t.evt = s.evt
  | .rings => t.rings = s.rings
  | .eth => t.eth = s.eth
  | .safe => t.safe = s.safe
  | .air => t.air = s.air
  | .nets => t.nets = s.nets
  | .blendForce => t.blendForce = s.blendForce
  | .node => t.node = s.node
  | .hear => t.hear = s.hear
  | .kiln => t.kiln = s.kiln
  | .otp => t.otp = s.otp
  | .rx => t.rx = s.rx
  | .cask => t.cask = s.cask
  | .sched => t.sched = s.sched
  | .tx => t.tx = s.tx
  | .tun => t.tun = s.tun
  | .boot => t.boot = s.boot
  | .bcast => t.bcast = s.bcast
  | .pending => t.pending = s.pending
  | .out => t.out = s.out
  | .free => t.free = s.free

/-- The components that raising an event may write: PEND and the vectors, the rings, the sequence number of privileged
frames, the outputs held or sent. -/
def signalled : List Component := [.evt, .rings, .eth, .safe, .out]

/-- The words that raising an event may count in: an alarm datagram sent, or dropped (R259, R260). -/
def alarmWords : List Fld := [Reg.ETH.PRIV_SENT, Reg.ETH.FP_DROP]

/-- Nothing changes from s to t but the named components, register fields and statistics words. -/
def Frame (cs : List Component) (fields words : List Fld) (s t : State) : Prop :=
  (∀ c, c ∉ cs → c.Same s t) ∧ (∀ g : Fld, (∀ f ∈ fields, f.key ≠ g.key) → t.get g = s.get g)
    ∧ ∀ g : Fld, (∀ f ∈ words, f.key ≠ g.key) → t.stat g = s.stat g

/-- Nothing changes from s to t but the named components, the register fields of the BAR0 ranges given (first byte,
first byte after) and the named statistics words. -/
def FrameIn (cs : List Component) (ranges : List (Nat × Nat)) (words : List Fld) (s t : State) : Prop :=
  (∀ c, c ∉ cs → c.Same s t)
    ∧ (∀ g : Fld, (∀ r ∈ ranges, ¬ (8 * r.1 ≤ g.key ∧ g.key < 8 * r.2)) → t.get g = s.get g)
    ∧ ∀ g : Fld, (∀ f ∈ words, f.key ≠ g.key) → t.stat g = s.stat g

/-- The event source is pending. -/
abbrev State.pends (s : State) (src : Nat) : Prop := s.evt.pend.getLsbD src = true

/-! ### Terms of the statements -/

/-- A NODE.CMD operation has completed with a status: BUSY cleared, STATUS and PARITY set, source 163 where asked for. -/
abbrev NodeEnds (s t : State) (st : Status) (parity : Bool) : Prop :=
  t.node.op = none ∧ t.node.scan = none ∧ t.get Reg.NODE.CMD.STATUS = st.code ∧ t.get Reg.NODE.CMD.BUSY = 0
    ∧ t.get Reg.NODE.RESULT.PARITY = bit parity ∧ (s.on Reg.NODE.CFG.IE_DONE = true → t.pends 163)

/-- The register fields that the end of a NODE.CMD operation writes. -/
def nodeEndFields : List Fld := [Reg.NODE.CMD.STATUS, Reg.NODE.CMD.BUSY, Reg.NODE.RESULT.PARITY]

/-- The words that follow the node table. -/
def nodeTabWords : List Fld := [Reg.NODE.VALID_LEARNED, Reg.NODE.VALID_STATIC, Reg.ETH.PRIV_SENT, Reg.ETH.FP_DROP]

/-- A CASK.CMD operation has completed with a status. -/
abbrev CaskEnds (t : State) (st : Status) : Prop :=
  t.cask.op = none ∧ t.get Reg.CASK.CMD.STATUS = st.code ∧ t.get Reg.CASK.CMD.BUSY = 0

/-- A CASK.CMD operation of this opcode is in progress. -/
abbrev State.caskDue (s : State) (o : CaskOp) (op : Nat) : Prop := s.logicUp = true ∧ s.cask.op = some o ∧ o.op = op

/-- Ring n has a started command that Kiln takes: its state, presence and the entropy source allow it (R268, R290,
R293). -/
def State.kilnTakes (s : State) (n : Nat) (w : KilnNeeds) : Bool :=
  s.cmdDue n && !s.kilnWaits w && (s.kilnRefuses w).isNone

/-- The last thing done is the completion of a command. -/
abbrev Completes (t : State) (c : CmdRef) (st : Status) (result : Nat) : Prop := ∃ x : State, t = x.complete c st result

/-- The words that a command of a ring counts in whatever it does. -/
def ringWords : List Fld := [Reg.RING.COMMANDS, Reg.ETH.PRIV_SENT, Reg.ETH.FP_DROP]

/-- The register fields that a parity error of a node entry writes (R204). -/
def parityFields : List Fld := [Reg.NODE.PERR.INDEX, Reg.SAFE.LOG_CTL.IN_USE, Reg.SAFE.LOG_CTL.LOST]

/-- The words that count when a downlink item completes or is rewound: nothing else that the part counts. -/
def downWords : List Fld := [Reg.SCHED.REWINDS, Reg.NODE.PARITY_ERR, Reg.NODE.VALID_LEARNED, Reg.NODE.VALID_STATIC,
  Reg.ETH.PRIV_SENT, Reg.ETH.FP_DROP]

/-- A policy call starts on core k under the next call number: its mailbox, its registers and its entry address. -/
abbrev CallStarts (s t : State) (h : Hook) (k : Nat) : Prop :=
  h ∉ t.tun.due ∧ t.tun.nextCall = s.tun.nextCall + 1
    ∧ Tbl.find? t.tun.calls s.tun.nextCall = some { s.newCall h with core := some k }
    ∧ Tbl.find? t.tun.boxes k = some (s.callBox h s.tun.nextCall) ∧ (t.core k).st = .running
    ∧ (t.core k).pc = BitVec.ofNat 32 (s.tun.entries.getD (h.code - 1) 0)
    ∧ (t.core k).g = entryRegs (s.core k).g h.code s.tun.nextCall ∧ ∀ j, j ≠ k → t.core j = s.core j

/-- The fields that stand otherwise than at reset once the boot ROM has chosen a slot (R1, R314, R322, R327). -/
def bootFields : List Fld := [Reg.BOOT.STATUS.SLOT, Reg.BOOT.STATUS.STATE, Reg.BOOT.STATUS.REASON,
  Reg.BOOT.STATUS.FELL_BACK, Reg.BOOT.STATUS.SVN, Reg.BOOT.STATUS.FLOOR, Reg.KILN.STATUS.UPDATE_CTR,
  Reg.KILN.STATUS.ENROL_REC, Reg.SAFE.HEAD.CHECKED, Reg.SAFE.FAULT_CTL.CAUSE]

/-- The fields of PKG.THERM. -/
def thermFields : List Fld := [Reg.PKG.THERM.TJ_MAX, Reg.PKG.THERM.HOT_DIE, Reg.PKG.THERM.WARN, Reg.PKG.THERM.DROP]

/-- The fields that an entry of the error log writes. -/
def logFields : List Fld := [Reg.SAFE.LOG_CTL.IN_USE, Reg.SAFE.LOG_CTL.LOST]

/-- An error has been logged: its entry stands in the log where it has room, and source 263 is pending. -/
abbrev Logged (s t : State) (code unit : Nat) (uncorrectable fenced : Bool) : Prop :=
  t.pends 263 ∧ t.safe.nextSeq = (s.safe.nextSeq + 1) % 2 ^ 32
    ∧ ∀ i, Tbl.lowestFree s.safe.log 64 0 = some i → ∃ e, Tbl.find? t.safe.log i = some e ∧ e.seq = s.safe.nextSeq
      ∧ e.code = code ∧ e.unit = unit ∧ e.uncorrectable = uncorrectable ∧ e.fenced = fenced

/-- The core executes an instruction whose fetch succeeds, its registers being r (R341, R345). -/
abbrev State.fetches (s : State) (c : TunCore) (r : TunRun) : Prop :=
  s.executes c = true ∧ s.core (coreKey c) = r ∧ fetchCause r.pc = none

/-- The commands by which host software reads or writes a register. -/
def fromHost (c : Instr) : Bool :=
  match c with
  | .timeSet .. | .meshOffsetWrite .. | .timeNowRead .. | .mscRead .. | .forceSlew | .timersGo .. | .captureRead ..
  | .cascadeCountRead .. | .hclkSsWrite .. | .clkoutCtlWrite .. | .phaseWrite .. | .linkCfgWrite .. | .linkDisable ..
  | .streamCfgWrite .. | .streamDisable .. | .rxChainEnable .. | .calReq .. | .txFaultWrite .. | .hcbHostGo ..
  | .seqProgWrite .. | .seqSwap .. | .rstFloors .. | .wEnWrite .. | .trackRead .. | .demodCtxRead .. | .bcastTune ..
  | .profileWrite .. | .netCfgWrite .. | .gateCommit .. | .gateCancel .. | .poolEnable .. | .ringCtlWrite ..
  | .ringResume .. | .kick .. | .evtPendClear .. | .fpTplCommit .. | .approvedWrite .. | .dlFloorWrite ..
  | .rngRestart .. | .headRejoin .. | .fdieRejoin .. | .logAck .. | .faultCauseClear .. | .levelReqWrite ..
  | .duskReqWrite .. | .pmI2cEnable .. | .nightCtlWrite .. | .bootRestart .. | .statisticRead .. | .unsupportedRead ..
  | .registerWrite .. => true
  | _ => false

end Sys2Proof.Machine
end

