-- ==== Sys2Proof/Certificates/Slice0/Obligations.lean ====
section
/-! DEFINITION. The statements: what each command does, where it completes, what it leaves unchanged; the rules of the
whole part; and one invariant. Each docstring names the rules of spec/ that its statement rests on. -/

section

open Sys2Proof Sys2Proof.Machine

/-- The clock outputs and their spectrum (R42, R43, R44, R45, R46): each of the four commands completes, and a
CLK.HCLK_SS or CLKOUT value that the rules call illegal leaves the register as it was and latches an access fault.
Where the spec leaves a point of it open, the clause is the model's choice: log entries 25, 164, 165, 166. -/
def Obligations.ClockCommands : Prop :=
  -- HCLK_SS_WRITE of a legal value: the register takes it, nothing else moves (it takes effect at a cycle boundary)
  (∀ (s : State) (v : BitVec 32), s.hostUp = true → bitsAt v.toNat 0 2 ≠ 3 → bitsAt v.toNat 2 4 ≤ 10 →
    ∃ t, exec (.hclkSsWrite v) s = .next t ∧ t.get Reg.CLK.HCLK_SS.MODE = bitsAt v.toNat 0 2
      ∧ t.get Reg.CLK.HCLK_SS.DEPTH = bitsAt v.toNat 2 4
      ∧ Frame [] [Reg.CLK.HCLK_SS.MODE, Reg.CLK.HCLK_SS.DEPTH] [] s t)
  -- DEPTH above 10 or MODE 3: an illegal value
  ∧ (∀ (s : State) (v : BitVec 32), s.hostUp = true → (bitsAt v.toNat 0 2 = 3 ∨ 10 < bitsAt v.toNat 2 4) →
    ∃ t, exec (.hclkSsWrite v) s = .next t ∧ t.safe.fault.valid = true
      ∧ Frame signalled [] [Reg.ETH.PRIV_SENT, Reg.ETH.FP_DROP] s t)
  -- CLKOUT_CTL_WRITE of a legal value: the register takes it, and the outputs start and stop with their enables
  ∧ (∀ (s : State) (f : Fin 6) (n : Fin 8) (v : BitVec 32), s.hostUp = true → s.dieUp f = true →
      bitsAt v.toNat 2 2 ≠ 3 → 2 ≤ bitsAt v.toNat 4 10 → bitsAt v.toNat 16 16 ≠ 0 →
      (s.on (Reg.FDIE.CLKOUT_CTL.CK_EN f n) = true → bitsAt v.toNat 4 10 = s.get (Reg.FDIE.CLKOUT_CTL.DIV f n)) →
      (s.on (Reg.FDIE.CLKOUT_CTL.SR_EN f n) = true → bitsAt v.toNat 2 2 = s.get (Reg.FDIE.CLKOUT_CTL.SR_MODE f n)) →
    ∃ t, exec (.clkoutCtlWrite f n v) s = .next t
      ∧ t.get (Reg.FDIE.CLKOUT_CTL.CK_EN f n) = bitsAt v.toNat 0 1
      ∧ t.get (Reg.FDIE.CLKOUT_CTL.SR_EN f n) = bitsAt v.toNat 1 1
      ∧ t.get (Reg.FDIE.CLKOUT_CTL.SR_MODE f n) = bitsAt v.toNat 2 2
      ∧ t.get (Reg.FDIE.CLKOUT_CTL.DIV f n) = bitsAt v.toNat 4 10
      ∧ t.get (Reg.FDIE.CLKOUT_CTL.SR_COUNT f n) = bitsAt v.toNat 16 16
      ∧ (s.on (Reg.FDIE.CLKOUT_CTL.CK_EN f n) = false → (8 * f.val + n.val ∈ t.clk.ckRun ↔ bitsAt v.toNat 0 1 = 1))
      ∧ (bitsAt v.toNat 0 1 = 0 → 8 * f.val + n.val ∉ t.clk.ckRun)
      ∧ (s.on (Reg.FDIE.CLKOUT_CTL.SR_EN f n) = false → (8 * f.val + n.val ∈ t.clk.srRun ↔ bitsAt v.toNat 1 1 = 1))
      ∧ (bitsAt v.toNat 1 1 = 0 → 8 * f.val + n.val ∉ t.clk.srRun)
      -- the output pins follow, and a SYSREF that starts runs for its pulses (R43)
      ∧ t.out = s.out ++ [.clkout f n (decide (8 * f.val + n.val ∈ t.clk.ckRun)) (decide (8 * f.val + n.val ∈ t.clk.srRun))
          (bitsAt v.toNat 4 10) (s.get (Reg.FDIE.CLKOUT_TIMING.SR_LOG2 f n))]
      ∧ (s.on (Reg.FDIE.CLKOUT_CTL.SR_EN f n) = false → 8 * f.val + n.val ∉ s.clk.srRun → bitsAt v.toNat 1 1 = 1 →
          Tbl.find? t.clk.srLeft (8 * f.val + n.val) = if bitsAt v.toNat 2 2 = 0 then none
            else some ((if bitsAt v.toNat 2 2 = 1 then bitsAt v.toNat 16 16 else 1)
              * (bitsAt v.toNat 4 10 * 2 ^ s.get (Reg.FDIE.CLKOUT_TIMING.SR_LOG2 f n))))
      ∧ Frame [.clk, .safe, .out] [Reg.FDIE.CLKOUT_CTL.CK_EN f n, Reg.FDIE.CLKOUT_CTL.SR_EN f n,
          Reg.FDIE.CLKOUT_CTL.SR_MODE f n, Reg.FDIE.CLKOUT_CTL.DIV f n, Reg.FDIE.CLKOUT_CTL.SR_COUNT f n] [] s t)
  -- SR_MODE 3, DIV below 2, SR_COUNT 0, or DIV or SR_MODE changed while its enable is 1: an illegal value
  ∧ (∀ (s : State) (f : Fin 6) (n : Fin 8) (v : BitVec 32), s.hostUp = true → s.dieUp f = true →
      (bitsAt v.toNat 2 2 = 3 ∨ bitsAt v.toNat 4 10 < 2 ∨ bitsAt v.toNat 16 16 = 0
        ∨ (s.on (Reg.FDIE.CLKOUT_CTL.CK_EN f n) = true ∧ bitsAt v.toNat 4 10 ≠ s.get (Reg.FDIE.CLKOUT_CTL.DIV f n))
        ∨ (s.on (Reg.FDIE.CLKOUT_CTL.SR_EN f n) = true ∧ bitsAt v.toNat 2 2 ≠ s.get (Reg.FDIE.CLKOUT_CTL.SR_MODE f n))) →
    ∃ t, exec (.clkoutCtlWrite f n v) s = .next t ∧ t.safe.fault.valid = true
      ∧ Frame signalled [] [Reg.ETH.PRIV_SENT, Reg.ETH.FP_DROP] s t)
  -- PHASE_WRITE of a legal value: MOVING reads 1 until the walk has ended
  ∧ (∀ (s : State) (f : Fin 6) (n : Fin 8) (v : BitVec 32), s.hostUp = true → s.dieUp f = true →
      5 ≤ bitsAt v.toNat 17 5 → bitsAt v.toNat 17 5 ≤ 20 →
      (s.on (Reg.FDIE.CLKOUT_CTL.SR_EN f n) = true → bitsAt v.toNat 17 5 = s.get (Reg.FDIE.CLKOUT_TIMING.SR_LOG2 f n)) →
    ∃ t, exec (.phaseWrite f n v) s = .next t
      ∧ t.get (Reg.FDIE.CLKOUT_TIMING.PHASE f n) = bitsAt v.toNat 0 16
      ∧ t.get (Reg.FDIE.CLKOUT_TIMING.SR_LOG2 f n) = bitsAt v.toNat 17 5
      ∧ t.get (Reg.FDIE.CLKOUT_TIMING.MOVING f n)
          = (if Tbl.getD s.clk.phaseNow (8 * f.val + n.val) 0 = bitsAt v.toNat 0 16 then 0 else 1)
      ∧ Frame [.safe] [Reg.FDIE.CLKOUT_TIMING.PHASE f n, Reg.FDIE.CLKOUT_TIMING.SR_LOG2 f n,
          Reg.FDIE.CLKOUT_TIMING.MOVING f n] [] s t)
  -- SR_LOG2 outside 5 to 20, or changed while SR_EN is 1: an illegal value
  ∧ (∀ (s : State) (f : Fin 6) (n : Fin 8) (v : BitVec 32), s.hostUp = true → s.dieUp f = true →
      (bitsAt v.toNat 17 5 < 5 ∨ 20 < bitsAt v.toNat 17 5 ∨ (s.on (Reg.FDIE.CLKOUT_CTL.SR_EN f n) = true
        ∧ bitsAt v.toNat 17 5 ≠ s.get (Reg.FDIE.CLKOUT_TIMING.SR_LOG2 f n))) →
    ∃ t, exec (.phaseWrite f n v) s = .next t ∧ t.safe.fault.valid = true
      ∧ Frame signalled [] [Reg.ETH.PRIV_SENT, Reg.ETH.FP_DROP] s t)
  -- CPLL_LOSS_OF_LOCK: every CLKOUT and SYSREF of the die stops, source 2 fires
  ∧ (∀ (s : State) (f : Fin 6), s.logicUp = true → s.dieUp f = true →
    ∃ t, exec (.cpllLossOfLock f) s = .next t ∧ t.pends 2
      ∧ (∀ n, n < 8 → 8 * f.val + n ∉ t.clk.ckRun ∧ 8 * f.val + n ∉ t.clk.srRun)
      ∧ Frame (.clk :: signalled) [] [Reg.ETH.PRIV_SENT, Reg.ETH.FP_DROP] s t)

/-- The time unit's writes and reads (R48, R51, R54): a TIME.SET with GO loads while quality is 0b11 and is otherwise
rejected with BAD_FIELD, the counter unchanged; either raises source 41. A mesh offset is taken only at quality 0b11
and within ±48,000,000 ns. Reads of TIME.NOW and TIME.MSC latch the upper words. Where the spec leaves a point of it
open, the clause is the model's choice: log entries 18, 20, 21, 22. -/
def Obligations.TimeRegisters : Prop :=
  -- TIME_SET accepted: the value is loaded, quality becomes 0b10, LAST_WR reads DONE, source 41
  (∀ (s : State) (v : BitVec 128), s.hostUp = true → s.quality = 3 → bitsAt v.toNat 127 1 = 1 →
      bitsAt v.toNat 0 30 < 1000000000 →
    ∃ t, exec (.timeSet v) s = .next t ∧ t.time.sec = bitsAt v.toNat 32 48 ∧ t.time.ns = bitsAt v.toNat 0 30
      ∧ t.quality = 2 ∧ t.get Reg.TIME.CTL.LAST_WR = 0 ∧ t.time.msc = t.mscNow ∧ t.pends 41
      ∧ Frame (.time :: .bcast :: signalled) [Reg.TIME.SET.NS, Reg.TIME.SET.SEC, Reg.TIME.REF_STATUS.QUALITY,
          Reg.TIME.CTL.LAST_WR] [Reg.ETH.PRIV_SENT, Reg.ETH.FP_DROP] s t)
  -- TIME_SET rejected, once time is valid or with 10^9 ns or more: the counter keeps its value
  ∧ (∀ (s : State) (v : BitVec 128), s.hostUp = true → (s.quality ≠ 3 ∨ 1000000000 ≤ bitsAt v.toNat 0 30) →
      bitsAt v.toNat 127 1 = 1 →
    ∃ t, exec (.timeSet v) s = .next t ∧ t.get Reg.TIME.CTL.LAST_WR = 0x11 ∧ t.pends 41
      ∧ Frame signalled [Reg.TIME.SET.NS, Reg.TIME.SET.SEC, Reg.TIME.CTL.LAST_WR] [Reg.ETH.PRIV_SENT, Reg.ETH.FP_DROP] s t)
  -- TIME_SET without GO stores its fields
  ∧ (∀ (s : State) (v : BitVec 128), s.hostUp = true → bitsAt v.toNat 127 1 = 0 →
    ∃ t, exec (.timeSet v) s = .next t ∧ t.get Reg.TIME.SET.NS = bitsAt v.toNat 0 30
      ∧ t.get Reg.TIME.SET.SEC = bitsAt v.toNat 32 48
      ∧ Frame [] [Reg.TIME.SET.NS, Reg.TIME.SET.SEC] [] s t)
  -- MESH_OFFSET_WRITE accepted
  ∧ (∀ (s : State) (v : BitVec 32), s.hostUp = true → s.quality = 3 →
      (-48000000 : Int) ≤ signedOf 27 (bitsAt v.toNat 0 27) → signedOf 27 (bitsAt v.toNat 0 27) ≤ 48000000 →
    ∃ t, exec (.meshOffsetWrite v) s = .next t ∧ t.meshOffset = signedOf 27 (bitsAt v.toNat 0 27)
      ∧ t.get Reg.TIME.CTL.LAST_WR = 0 ∧ t.time.msc = t.mscNow
      ∧ Frame [.time] [Reg.TIME.MESH_OFFSET.OFFSET, Reg.TIME.CTL.LAST_WR] [] s t)
  -- MESH_OFFSET_WRITE rejected: the offset keeps its value
  ∧ (∀ (s : State) (v : BitVec 32), s.hostUp = true →
      (s.quality ≠ 3 ∨ signedOf 27 (bitsAt v.toNat 0 27) < -48000000 ∨ 48000000 < signedOf 27 (bitsAt v.toNat 0 27)) →
    ∃ t, exec (.meshOffsetWrite v) s = .next t ∧ t.get Reg.TIME.CTL.LAST_WR = 0x11
      ∧ Frame signalled [Reg.TIME.CTL.LAST_WR] [Reg.ETH.PRIV_SENT, Reg.ETH.FP_DROP] s t)
  -- TIME_NOW_READ: nanoseconds and quality are returned, seconds and fraction latched
  ∧ (∀ (s : State) (func : Fin 2), s.functionUp func = true → s.time.ns < 1000000000 → s.quality < 4 →
    ∃ t, exec (.timeNowRead func) s = .next t
      ∧ t.out = s.out ++ [.readDone func .bar0 0x30010 (s.time.ns + s.quality * 2 ^ 30)]
      ∧ t.time.nowLatch = some (s.time.sec + s.time.frac / 2 ^ 16 * 2 ^ 48)
      ∧ Frame [.time, .safe, .out] [] [] s t)
  -- MSC_READ: the low word is returned, the upper bits and SLOT latched
  ∧ (∀ (s : State) (func : Fin 2), s.functionUp func = true →
    ∃ t, exec (.mscRead func) s = .next t ∧ t.out = s.out ++ [.readDone func .bar0 0x30060 (s.time.msc % 2 ^ 32)]
      ∧ t.time.mscLatch = some (s.time.msc / 2 ^ 32 + s.time.msc % 48 * 2 ^ 16)
      ∧ Frame [.time, .safe, .out] [] [] s t)

/-- Time events (R56, R58, R63): a PPS edge, the end of a switch, a forced slew and a calibration fault complete and
do what their rules say. Where the spec leaves a point of it open, the clause is the model's choice: log entries 14,
15, 16, 17, 167, 168, 169, 171, 172, 173. -/
def Obligations.TimeEvents : Prop :=
  -- PPS_EDGE within 1 µs of the expected second, its time of day written at least 100 ms before: the phase is measured
  (∀ (s : State) (tod w : Nat), s.logicUp = true → s.time.ppsTod = some (tod, w) → 100000000 ≤ s.nsSince w →
      (∀ l, s.time.lastPps = some l → within (s.unslewed - l - 1000000000) 1000 = true) →
    ∃ t, exec (.ppsEdge true) s = .next t ∧ t.time.ppsTod = none
      ∧ t.time.pps.phase = some (s.unslewed - (tod * 1000000000 : Nat))
      ∧ (s.time.pps.cycleOk ≠ some false → t.time.pps.cycleOk = some true)
      ∧ Frame [.time] [] [] s t)
  -- PPS_EDGE without a fresh time of day: the cycle is bad and source 40 fires
  ∧ (∀ s : State, s.logicUp = true → s.time.ppsTod = none →
    ∃ t, exec (.ppsEdge true) s = .next t ∧ t.time.pps.cycleOk = some false ∧ t.pends 40
      ∧ Frame (.time :: signalled) [] [Reg.ETH.PRIV_SENT, Reg.ETH.FP_DROP] s t)
  -- a falling edge changes nothing of the time unit
  ∧ (∀ s : State, exec (.ppsEdge false) s = .next s)
  -- SWITCH_COMPLETE: the target is selected, quality returns to 0b00 or, for the FM pilot, 0b10; source 35
  ∧ (∀ s : State, s.logicUp = true → s.settled = true → s.get Reg.TIME.REF_STATUS.TARGET ≤ 4 →
    ∃ t, exec .switchComplete s = .next t
      ∧ t.get Reg.TIME.REF_STATUS.SELECTED = s.get Reg.TIME.REF_STATUS.TARGET
      ∧ t.quality = (if s.get Reg.TIME.REF_STATUS.TARGET = 4 then 2 else 0)
      ∧ t.get Reg.TIME.REF_STATUS.SWITCHING = 0 ∧ t.get Reg.TIME.REF_STATUS.TARGET = 0
      ∧ t.get Reg.TIME.CTL.FORCE_SLEW = (if s.time.forced = true then 0 else s.get Reg.TIME.CTL.FORCE_SLEW)
      ∧ t.time.addend = s.time.base ∧ t.pends 35
      ∧ Frame (.time :: signalled) [Reg.TIME.REF_STATUS.SELECTED, Reg.TIME.REF_STATUS.TARGET,
          Reg.TIME.REF_STATUS.SWITCHING, Reg.TIME.REF_STATUS.QUALITY, Reg.TIME.CTL.FORCE_SLEW] [Reg.ETH.PRIV_SENT, Reg.ETH.FP_DROP] s t)
  -- FORCE_SLEW while a reference is FAR: the slew to the best one begins at 200 ppm, quality 0b01, source 34
  ∧ (∀ (s : State) (r : Nat) (l : List Nat), s.hostUp = true → s.on Reg.TIME.REF_STATUS.SWITCHING = false →
      s.time.candidates true = r :: l → r ≤ 4 →
    ∃ t, exec .forceSlew s = .next t ∧ t.get Reg.TIME.REF_STATUS.TARGET = r
      ∧ t.get Reg.TIME.REF_STATUS.SWITCHING = 1 ∧ t.quality = 1 ∧ t.get Reg.TIME.CTL.FORCE_SLEW = 1
      ∧ t.time.slewGoal = s.phaseGoal r
      ∧ (0 ≤ t.time.slewGoal → t.time.addend = t.time.base + slew200ppm)
      ∧ (t.time.slewGoal < 0 → t.time.addend = t.time.base - slew200ppm) ∧ t.pends 34
      ∧ Frame (.time :: .free :: signalled) [Reg.TIME.REF_STATUS.TARGET, Reg.TIME.REF_STATUS.SWITCHING,
          Reg.TIME.REF_STATUS.SETTLE_LEFT, Reg.TIME.REF_STATUS.QUALITY, Reg.TIME.CTL.FORCE_SLEW]
          [Reg.ETH.PRIV_SENT, Reg.ETH.FP_DROP] s t)
  -- FORCE_SLEW that cannot begin yet: the bit stays set, nothing else changes
  ∧ (∀ s : State, s.hostUp = true → (s.on Reg.TIME.REF_STATUS.SWITCHING = true ∨ s.time.candidates true = []) →
    ∃ t, exec .forceSlew s = .next t ∧ t.get Reg.TIME.CTL.FORCE_SLEW = 1 ∧ Frame [] [Reg.TIME.CTL.FORCE_SLEW] [] s t)
  -- the slew of a switch: the rate that removes the phase difference over 8 mesh cycles, to one unit of the addend, toward
  -- the reference and never above 200 ppm
  ∧ (∀ (s : State) (goal : Int), (s.slewRate goal).natAbs ≤ slew200ppm
      ∧ (0 ≤ goal → 0 ≤ s.slewRate goal) ∧ (goal ≤ 0 → s.slewRate goal ≤ 0)
      ∧ (goal.natAbs ≤ slew200ppm * settleCycles → goal.natAbs ≤ ((s.slewRate goal).natAbs + 1) * settleCycles
          ∧ (s.slewRate goal).natAbs * settleCycles < goal.natAbs + settleCycles))
  -- CALIBRATION_FAULT after three consecutive failures: source 39, the die's timestamps are marked
  ∧ (∀ (s : State) (f : Fin 6), s.logicUp = true → 3 ≤ Tbl.getD s.time.calFails f 0 → f.val ∉ s.time.calMarked →
    ∃ t, exec (.calibrationFault f) s = .next t ∧ f.val ∈ t.time.calMarked ∧ t.dieQuality f = 1 ∧ t.pends 39
      ∧ Frame (.time :: signalled) [] [Reg.ETH.PRIV_SENT, Reg.ETH.FP_DROP] s t)

/-- Timer channels and the reference-cycle tick (R47, R64, R65, R66, R67, R68): each of the seven commands completes
with the effect its rule gives it. Where the spec leaves a point of it open, the clause is the model's choice: log
entries 25, 26, 27, 28, 170. -/
def Obligations.TimerCommands : Prop :=
  -- TIME_TICK: the counter advances by the addend once a reference cycle, carrying at 10^9 ns and wrapping at 2^48 s
  (∀ (s : State) (cycles : Nat), s.logicUp = true → s.time.sec < 2 ^ 48 →
    ∃ t, exec (.timeTick cycles) s = .next t
      ∧ t.counterNs * 2 ^ 32 + t.time.frac
          = (s.counterNs * 2 ^ 32 + s.time.frac + cycles * s.time.addend) % (2 ^ 48 * 1000000000 * 2 ^ 32)
      ∧ t.time.ns < 1000000000 ∧ t.time.addend = s.time.addend
      ∧ FrameIn [.time, .clk, .timers, .boot, .out, .free]
          ([(0x40100, 0x40500), (0x240004, 0x240008)] ++ (List.range 6).map fun f => (dieOffset f 0x200, dieOffset f 0x280))
          [] s t)
  -- TIMERS_GO: RUN is set on every channel whose bit is 1, the others keep theirs
  ∧ (∀ (s : State) (v : BitVec 32), s.hostUp = true →
    ∃ t, exec (.timersGo v) s = .next t
      ∧ (∀ k, k < 32 → t.get (Reg.TIMERS.CH_CTL.RUN k)
          = if bitsAt v.toNat k 1 = 1 then 1 else s.get (Reg.TIMERS.CH_CTL.RUN k))
      ∧ Frame [] ((List.range 32).map Reg.TIMERS.CH_CTL.RUN) [] s t)
  -- TIMER_MATCH of a channel that is not cascaded: MATCH, and INTERVAL is added to COMPARE
  ∧ (∀ (s : State) (k : Fin 32), s.logicUp = true → s.matchDue k = true → s.cascadeEven k = false →
    ∃ t, exec (.timerMatch k) s = .next t ∧ t.get (Reg.TIMERS.CH_STATUS.MATCH k) = 1
      ∧ t.get (Reg.TIMERS.COMPARE k)
          = (s.get (Reg.TIMERS.COMPARE k) + s.get (Reg.TIMERS.INTERVAL k)) % 2 ^ 32
      ∧ (s.on (Reg.TIMERS.CH_CTL.IE_MATCH k) = true → t.pends (64 + k.val))
      ∧ Frame (.timers :: signalled) [Reg.TIMERS.CH_STATUS.MATCH k, Reg.TIMERS.COMPARE k] [Reg.ETH.PRIV_SENT, Reg.ETH.FP_DROP] s t)
  -- TIMER_MATCH of a cascaded pair: INTERVAL is added on 64 bits
  ∧ (∀ (s : State) (k : Fin 32), s.logicUp = true → s.matchDue k = true → s.cascadeEven k = true →
    ∃ t, exec (.timerMatch k) s = .next t ∧ t.get (Reg.TIMERS.CH_STATUS.MATCH k) = 1
      ∧ t.get (Reg.TIMERS.COMPARE k) + 2 ^ 32 * t.get (Reg.TIMERS.COMPARE (k.val + 1))
          = (s.get (Reg.TIMERS.COMPARE k) + s.get (Reg.TIMERS.COMPARE (k.val + 1)) * 2 ^ 32
            + (s.get (Reg.TIMERS.INTERVAL k) + s.get (Reg.TIMERS.INTERVAL (k.val + 1)) * 2 ^ 32)) % 2 ^ 64
      ∧ Frame (.timers :: signalled) [Reg.TIMERS.CH_STATUS.MATCH k, Reg.TIMERS.COMPARE k, Reg.TIMERS.COMPARE (k.val + 1)]
          [Reg.ETH.PRIV_SENT, Reg.ETH.FP_DROP] s t)
  -- TIMER_OVERFLOW: OVF, and the odd half of a pair counts it
  ∧ (∀ (s : State) (k : Fin 32), s.logicUp = true → 0 < (s.timer k).wraps →
    ∃ t, exec (.timerOverflow k) s = .next t ∧ t.get (Reg.TIMERS.CH_STATUS.OVF k) = 1
      ∧ t.get (Reg.TIMERS.COUNT (k.val + 1)) = (if s.cascadeEven k = true
          then (s.get (Reg.TIMERS.COUNT (k.val + 1)) + 1) % 2 ^ 32 else s.get (Reg.TIMERS.COUNT (k.val + 1)))
      ∧ (s.on (Reg.TIMERS.CH_CTL.IE_OVF k) = true → t.pends (64 + k.val))
      ∧ Frame (.timers :: signalled) [Reg.TIMERS.CH_STATUS.OVF k, Reg.TIMERS.COUNT (k.val + 1)] [Reg.ETH.PRIV_SENT, Reg.ETH.FP_DROP] s t)
  -- TIMER_CAPTURE on the selected edge: COUNT is stored, an unread value is overwritten with OVERRUN
  ∧ (∀ (s : State) (k : Fin 32) (edge : Fin 8), s.logicUp = true → s.captures k edge = true →
      s.cascadeEven k = false → s.get (Reg.TIMERS.COUNT k) < 2 ^ 32 →
    ∃ t, exec (.timerCapture k edge) s = .next t ∧ t.get (Reg.TIMERS.CH_STATUS.CAP_VALID k) = 1
      ∧ t.get (Reg.TIMERS.CAPTURE k) = s.get (Reg.TIMERS.COUNT k)
      ∧ (s.on (Reg.TIMERS.CH_STATUS.CAP_VALID k) = true → t.get (Reg.TIMERS.CH_STATUS.OVERRUN k) = 1)
      ∧ (s.on (Reg.TIMERS.CH_CTL.IE_CAP k) = true → t.pends (64 + k.val))
      ∧ Frame signalled [Reg.TIMERS.CH_STATUS.CAP_VALID k, Reg.TIMERS.CH_STATUS.OVERRUN k, Reg.TIMERS.CAPTURE k]
          [Reg.ETH.PRIV_SENT, Reg.ETH.FP_DROP] s t)
  -- TIMER_CAPTURE of a cascaded pair stores both halves
  ∧ (∀ (s : State) (k : Fin 32) (edge : Fin 8), s.logicUp = true → s.captures k edge = true →
      s.cascadeEven k = true → s.get (Reg.TIMERS.COUNT k) < 2 ^ 32 →
    ∃ t, exec (.timerCapture k edge) s = .next t ∧ t.get (Reg.TIMERS.CH_STATUS.CAP_VALID k) = 1
      ∧ t.get (Reg.TIMERS.CAPTURE k) = s.get (Reg.TIMERS.COUNT k)
      ∧ t.get (Reg.TIMERS.CAPTURE (k.val + 1)) = s.oddCount (k.val + 1)
      ∧ Frame signalled [Reg.TIMERS.CH_STATUS.CAP_VALID k, Reg.TIMERS.CH_STATUS.OVERRUN k, Reg.TIMERS.CAPTURE k,
          Reg.TIMERS.CAPTURE (k.val + 1)] [Reg.ETH.PRIV_SENT, Reg.ETH.FP_DROP] s t)
  -- CAPTURE_READ without an edge in its cycle: the value is returned and CAP_VALID cleared
  ∧ (∀ (s : State) (func : Fin 2) (k : Fin 32), s.functionUp func = true →
    ∃ t, exec (.captureRead func k false) s = .next t ∧ t.get (Reg.TIMERS.CH_STATUS.CAP_VALID k) = 0
      ∧ t.out = s.out ++ [.readDone func .bar0 (0x40110 + k * 0x20) (s.get (Reg.TIMERS.CAPTURE k))]
      ∧ Frame [.safe, .out] [Reg.TIMERS.CH_STATUS.CAP_VALID k] [] s t)
  -- CASCADE_COUNT_READ: an even half latches its partner, the odd half returns and releases the latch
  ∧ (∀ (s : State) (func : Fin 2) (k : Fin 32), s.functionUp func = true →
      s.cascadeEven k = true →
    ∃ t, exec (.cascadeCountRead func k) s = .next t ∧ (t.timer (k.val + 1)).latch = some (s.oddCount (k.val + 1))
      ∧ t.out = s.out ++ [.readDone func .bar0 (0x40104 + k * 0x20) (s.get (Reg.TIMERS.COUNT k))]
      ∧ Frame [.timers, .safe, .out] [] [] s t)
  ∧ (∀ (s : State) (func : Fin 2) (k : Fin 32) (v : Nat), s.functionUp func = true →
      s.cascadeOdd k = true → (s.timer k).latch = some v →
    ∃ t, exec (.cascadeCountRead func k) s = .next t ∧ (t.timer k).latch = none
      ∧ t.out = s.out ++ [.readDone func .bar0 (0x40104 + k * 0x20) v] ∧ Frame [.timers, .safe, .out] [] [] s t)

/-- Ring set-up and doorbells (R232, R233, R234, R239): enables, resumes, poll rounds, their answers and kicks. Where
the spec leaves a point of it open, the clause is the model's choice: log entries 81, 82, 83, 195, 196, 199, 200. -/
def Obligations.RingCommands : Prop :=
  -- RING_CTL_WRITE that enables a ring within R232: the fields are taken, both indexes start at 0, the part's is written
  (∀ (s : State) (n : Fin 4096) (v : BitVec 32), s.hostUp = true → s.safe.hold = false →
      s.on (Reg.RING.CTL.EN n) = false → bitsAt v.toNat 0 1 = 1 → s.ringMayEnable n v.toNat = true →
    ∃ t, exec (.ringCtlWrite n v) s = .next t ∧ t.on (Reg.RING.CTL.EN n) = true
      ∧ t.get (Reg.RING.CTL.TYPE n) = bitsAt v.toNat 1 3 ∧ t.get (Reg.RING.CTL.LOG2_SIZE n) = bitsAt v.toNat 4 5
      ∧ t.get (Reg.RING.CTL.BUF_LOG2 n) = bitsAt v.toNat 9 3 ∧ t.get (Reg.RING.CTL.PEER n) = bitsAt v.toNat 12 12
      ∧ t.ring n = (s.ring n).enabled ∧ t.out = s.out ++ [.hostWrite s.active (s.doorbell n + 4) [0, 0, 0, 0]]
      ∧ Frame [.rings, .safe, .out] [Reg.RING.CTL.EN n, Reg.RING.CTL.TYPE n, Reg.RING.CTL.LOG2_SIZE n,
          Reg.RING.CTL.BUF_LOG2 n, Reg.RING.CTL.PEER n] [] s t)
  -- a field out of range, an area or the doorbell pages outside one window, or a PEER that is no enabled CPL ring
  ∧ (∀ (s : State) (n : Fin 4096) (v : BitVec 32), s.hostUp = true → s.on (Reg.RING.CTL.EN n) = false →
      bitsAt v.toNat 0 1 = 1 →
      (6 < bitsAt v.toNat 1 3 ∨ bitsAt v.toNat 4 5 < 4 ∨ 16 < bitsAt v.toNat 4 5 ∨ 6 < bitsAt v.toNat 9 3
        ∨ s.get (Reg.RING.BASE.ADDR n) % 4096 ≠ 0
        ∨ s.inOneWindow (s.get (Reg.RING.BASE.ADDR n)) (2 ^ bitsAt v.toNat 4 5 * recordSize (bitsAt v.toNat 1 3)) = false
        ∨ (bitsAt v.toNat 1 3 = 2 ∧ (s.get (Reg.RING.BUF_BASE.ADDR n) % 4096 ≠ 0
            ∨ s.inOneWindow (s.get (Reg.RING.BUF_BASE.ADDR n))
                (2 ^ bitsAt v.toNat 4 5 * 2 ^ (5 + bitsAt v.toNat 9 3)) = false))
        ∨ (bitsAt v.toNat 1 3 = 0 ∧ (s.on (Reg.RING.CTL.EN (bitsAt v.toNat 12 12)) = false
            ∨ s.get (Reg.RING.CTL.TYPE (bitsAt v.toNat 12 12)) ≠ 1))
        ∨ s.inOneWindow (s.get Reg.RING.DB_BASE.ADDR * 2 ^ 15) 32768 = false) →
    ∃ t, exec (.ringCtlWrite n v) s = .next t ∧ t.safe.fault.valid = true ∧ Frame signalled [] [Reg.ETH.PRIV_SENT, Reg.ETH.FP_DROP] s t)
  -- a write that changes another field while EN is 1: an illegal value
  ∧ (∀ (s : State) (n : Fin 4096) (v : BitVec 32), s.hostUp = true → s.on (Reg.RING.CTL.EN n) = true →
      s.ringSame n v.toNat = false →
    ∃ t, exec (.ringCtlWrite n v) s = .next t ∧ t.safe.fault.valid = true ∧ Frame signalled [] [Reg.ETH.PRIV_SENT, Reg.ETH.FP_DROP] s t)
  -- RING_RESUME: HALTED clears and the ring keeps its indexes; a CMD ring needs nothing else
  ∧ (∀ (s : State) (n : Fin 4096) (v : BitVec 32), s.hostUp = true → s.on (Reg.RING.CTL.EN n) = true →
      s.ringSame n v.toNat = true → bitsAt v.toNat 0 1 = 1 → bitsAt v.toNat 24 1 = 1 → (s.ring n).halted = true →
      s.get (Reg.RING.CTL.TYPE n) = 0 →
    ∃ t, exec (.ringResume n v) s = .next t ∧ t.ring n = { s.ring n with halted := false }
      ∧ t.on (Reg.RING.CTL.EN n) = true ∧ Frame [.rings] [Reg.RING.CTL.EN n] [] s t)
  -- POLL_ROUND: POLLS counts the round, and the line of every enabled ring is read
  ∧ (∀ s : State, s.up = true → s.rings.stalled = false → s.on Reg.RING.POLL.EN = true → s.enabledRings ≠ [] →
      (∀ n ∈ s.enabledRings, s.firstBad false (s.get Reg.RING.DB_BASE.ADDR * 2 ^ 15 + n / 8 * 64) 64 = none) →
    ∃ t, exec .pollRound s = .next t ∧ t.stat Reg.RING.POLLS = (s.stat Reg.RING.POLLS + 1) % 2 ^ 32
      ∧ (∀ n ∈ s.enabledRings, n / 8 ∈ t.rings.polling) ∧ (∀ n, t.ring n = s.ring n)
      ∧ Frame [.rings, .safe, .out] [] [Reg.RING.POLLS] s t)
  -- POLL_READ_DONE that failed: POLL_ERR counts it and source 97 fires
  ∧ (∀ (s : State) (line : Nat), line < 512 → s.logicUp = true → line ∈ s.rings.polling →
    ∃ t, exec (.pollReadDone line none []) s = .next t
      ∧ t.stat Reg.RING.POLL_ERR = (s.stat Reg.RING.POLL_ERR + 1) % 2 ^ 32 ∧ line ∉ t.rings.polling ∧ t.pends 97
      ∧ Frame signalled [] [Reg.RING.POLL_ERR, Reg.ETH.PRIV_SENT, Reg.ETH.FP_DROP] s t)
  -- POLL_READ_DONE with the line's host indexes, one of its rings enabled: that index is judged as a kick's is
  ∧ (∀ (s : State) (line : Nat) (ws : List (BitVec 32)) (i : Nat), line < 512 → s.logicUp = true →
      line ∈ s.rings.polling → ws.length = 8 → i < 8 →
      (∀ j, j < 8 → s.on (Reg.RING.CTL.EN (8 * line + j)) = decide (j = i)) →
    exec (.pollReadDone line (some ws) []) s
      = .next (({ s with rings := { s.rings with polling := s.rings.polling.filter (· ≠ line) } } : State).judgeIndex
          (8 * line + i) (ws.getD i 0).toNat))
  -- with a kick of that ring in the same cycle: the index further ahead is judged, and the other has no effect
  ∧ (∀ (s : State) (line : Nat) (ws : List (BitVec 32)) (func : Fin 2) (i : Fin 8) (v : BitVec 32), line < 512 →
      s.functionUp func = true → line ∈ s.rings.polling → ws.length = 8 →
      (∀ j, j < 8 → s.on (Reg.RING.CTL.EN (8 * line + j)) = decide (j = i.val)) →
    exec (.pollReadDone line (some ws) [(func, i, v)]) s
      = .next ((({ s with rings := { s.rings with polling := s.rings.polling.filter (· ≠ line) } } : State).bump
          Reg.RING.KICKS).judgeIndex (8 * line + i)
            (if s.ahead (8 * line + i) (ws.getD i 0).toNat < s.ahead (8 * line + i) v.toNat then v.toNat
             else (ws.getD i 0).toNat)))
  -- KICK of an enabled ring: an index ahead of the last one taken and within the ring is taken
  ∧ (∀ (s : State) (func : Fin 2) (n : Fin 4096) (v : BitVec 32), s.functionUp func = true →
      s.on (Reg.RING.CTL.EN n) = true → s.ringSize n < ((s.ring n).host + 2 ^ 32 - v.toNat) % 2 ^ 32 →
      (s.get (Reg.RING.CTL.TYPE n) = 0 → (v.toNat + 2 ^ 32 - (s.ring n).part) % 2 ^ 32 ≤ s.ringSize n) →
      (s.get (Reg.RING.CTL.TYPE n) ≠ 0 → ((s.ring n).part + 2 ^ 32 - v.toNat) % 2 ^ 32 ≤ s.ringSize n) →
    ∃ t, exec (.kick func n v) s = .next t ∧ t.ring n = { s.ring n with host := v.toNat }
      ∧ t.stat Reg.RING.KICKS = (s.stat Reg.RING.KICKS + 1) % 2 ^ 32 ∧ Frame [.rings] [] [Reg.RING.KICKS] s t)
  -- KICK with an index equal to the last or behind it has no effect on the ring
  ∧ (∀ (s : State) (func : Fin 2) (n : Fin 4096) (v : BitVec 32), s.functionUp func = true →
      s.on (Reg.RING.CTL.EN n) = true → ((s.ring n).host + 2 ^ 32 - v.toNat) % 2 ^ 32 ≤ s.ringSize n →
    ∃ t, exec (.kick func n v) s = .next t ∧ Frame [] [] [Reg.RING.KICKS] s t)
  -- KICK with an invalid index halts the ring with BAD_FIELD at its doorbell slot, source 96
  ∧ (∀ (s : State) (func : Fin 2) (n : Fin 4096) (v : BitVec 32), s.functionUp func = true →
      s.on (Reg.RING.CTL.EN n) = true → (s.ring n).halted = false → s.rings.faultValid = false →
      s.ringSize n < ((s.ring n).host + 2 ^ 32 - v.toNat) % 2 ^ 32 →
      (s.get (Reg.RING.CTL.TYPE n) = 0 → s.ringSize n < (v.toNat + 2 ^ 32 - (s.ring n).part) % 2 ^ 32) →
      (s.get (Reg.RING.CTL.TYPE n) ≠ 0 → s.ringSize n < ((s.ring n).part + 2 ^ 32 - v.toNat) % 2 ^ 32) →
    ∃ t, exec (.kick func n v) s = .next t ∧ (t.ring n).faultStatus = 0x11
      ∧ t.rings.faultValid = true ∧ t.rings.faultRing = n ∧ t.rings.faultAddr = s.doorbell n ∧ t.pends 96
      ∧ Frame signalled [] [Reg.RING.KICKS, Reg.ETH.PRIV_SENT, Reg.ETH.FP_DROP] s t)
  -- KICK of a disabled ring is dropped
  ∧ (∀ (s : State) (func : Fin 2) (n : Fin 4096) (v : BitVec 32), s.functionUp func = true →
      s.on (Reg.RING.CTL.EN n) = false → exec (.kick func n v) s = .next s)

/-- The ring controller's visit and the commands that complete at once (R240, R241, R245): up to 8 commands start,
each claiming a slot of its CPL ring; a NOP completes with DONE and an unknown opcode with BAD_OPCODE. Where the spec
leaves a point of it open, the clause is the model's choice: log entries 195, 196. -/
def Obligations.CommandVisits : Prop :=
  -- CMD_VISIT: min(8, pending, free CPL slots) commands of the next ring start
  (∀ (s : State) (n : Nat), s.up = true → s.rings.stalled = false → s.nextVisit = some n →
      s.get (Reg.RING.CTL.PEER n) ≠ n →
      (∀ i, i < 8 → s.firstBad false (s.descAddr n ((s.ring n).started.length - (s.ring n).stale + i)) 64 = none) →
    ∃ t, exec (.cmdVisit none) s = .next t ∧ t.rings.lastVisit = n
      ∧ (t.ring n).started = (s.ring n).started ++ List.replicate
          (min 8 (min (s.cmdPending n) (s.cplFree (s.get (Reg.RING.CTL.PEER n))))) (s.get (Reg.RING.CTL.PEER n))
      ∧ (t.ring (s.get (Reg.RING.CTL.PEER n))).claimed = (s.ring (s.get (Reg.RING.CTL.PEER n))).claimed
          + min 8 (min (s.cmdPending n) (s.cplFree (s.get (Reg.RING.CTL.PEER n))))
      ∧ Frame [.rings, .safe, .out] [] [] s t)
  -- the read of the first descriptor fails: the ring halts and its command completes with WALK_FAULT (log entry 196)
  ∧ (∀ (s : State) (n : Nat), s.up = true → s.rings.stalled = false → s.nextVisit = some n →
      s.get (Reg.RING.CTL.PEER n) ≠ n → s.cplFree (s.get (Reg.RING.CTL.PEER n)) ≠ 0 → (s.ring n).started = [] →
      s.firstBad false (s.descAddr n 0) 64 = none →
    ∃ t, exec (.cmdVisit (some 0)) s = .next t ∧ (t.ring n).halted = true ∧ t.pends 96
      ∧ Completes t ⟨n, s.get (Reg.RING.CTL.PEER n), 0, 0⟩ .walkFault 0 ∧ Frame signalled [] ringWords s t)
  -- CMD_NOP
  ∧ (∀ (s : State) (n : Fin 4096) (desc : List Byte), s.cmdDue n = true → Instr.wf (.cmdNop n desc) = true →
    ∃ t, exec (.cmdNop n desc) s = .next t ∧ t = (s.passDescriptor n).complete (s.cmdRef n desc) .done 0)
  -- BAD_OPCODE
  ∧ (∀ (s : State) (n : Fin 4096) (desc : List Byte), s.cmdDue n = true → Instr.wf (.badOpcode n desc) = true →
    ∃ t, exec (.badOpcode n desc) s = .next t ∧ t = (s.passDescriptor n).complete (s.cmdRef n desc) .badOpcode 0)
  -- what a completion does: the claimed slot is given back and the 16-byte record written, then the part's index
  ∧ (∀ (s : State) (c : CmdRef) (st : Status) (a r q : Nat), s.ringTakes c.cpl 1 = true →
      s.ringFill c.cpl < s.ringSize c.cpl → s.safe.hold = false →
      s.firstBad true (s.get (Reg.RING.BASE.ADDR c.cpl) + (s.ring c.cpl).part % s.ringSize c.cpl * 16) 16 = none →
      s.firstBad true (s.doorbell c.cpl + 4) 4 = none →
    ∃ t, s.completeX c st a r q = t ∧ (t.ring c.cpl).claimed = (s.ring c.cpl).claimed - 1
      ∧ (t.ring c.cpl).part = ((s.ring c.cpl).part + 1) % 2 ^ 32
      ∧ t.out = s.out ++ [.hostWrite s.active (s.get (Reg.RING.BASE.ADDR c.cpl) + (s.ring c.cpl).part % s.ringSize c.cpl * 16)
            (withPhase (cplRecord c st a r q) (s.ring c.cpl).part (s.ringSize c.cpl)),
          .hostWrite s.active (s.doorbell c.cpl + 4) (leBytes 4 (((s.ring c.cpl).part + 1) % 2 ^ 32))]
      ∧ Frame [.rings, .safe, .out] [] [] s t)
  -- where R237 does not allow its record, the CPL ring halts with BAD_ADDRESS at the lowest byte (R239)
  ∧ (∀ (s : State) (c : CmdRef) (st : Status) (a r q b : Nat), s.ringTakes c.cpl 1 = true →
      s.ringFill c.cpl < s.ringSize c.cpl → s.rings.faultValid = false →
      s.firstBad true (s.get (Reg.RING.BASE.ADDR c.cpl) + (s.ring c.cpl).part % s.ringSize c.cpl * 16) 16 = some b →
    ∃ t, s.completeX c st a r q = t ∧ (t.ring c.cpl).halted = true ∧ t.rings.faultRing = c.cpl ∧ t.rings.faultAddr = b
      ∧ t.pends 96 ∧ Frame signalled [] [Reg.ETH.PRIV_SENT, Reg.ETH.FP_DROP] s t)
  -- a completion that falls due while its CPL ring is halted is discarded, counted and raises source 101
  ∧ (∀ (s : State) (c : CmdRef) (st : Status) (a r q : Nat), (s.ring c.cpl).halted = true →
      s.on (Reg.RING.CTL.EN c.cpl) = true → s.get (Reg.RING.CTL.TYPE c.cpl) = 1 →
    ∃ t, s.completeX c st a r q = t ∧ t.pends 101 ∧ Frame signalled [] [Reg.ETH.PRIV_SENT, Reg.ETH.FP_DROP] s t)
  -- what passing a descriptor does: the part's index moves on and is written to the doorbell slot
  ∧ (∀ (s : State) (n : Nat), s.safe.hold = false → (s.ring n).stale = 0 → s.firstBad true (s.doorbell n + 4) 4 = none →
    ∃ t, s.passDescriptor n = t ∧ (t.ring n).part = ((s.ring n).part + 1) % 2 ^ 32
      ∧ (t.ring n).started = (s.ring n).started.tail
      ∧ t.out = s.out ++ [.hostWrite s.active (s.doorbell n + 4) (leBytes 4 (((s.ring n).part + 1) % 2 ^ 32))]
      ∧ t.stat Reg.RING.COMMANDS = (s.stat Reg.RING.COMMANDS + 1) % 2 ^ 32
      ∧ Frame [.rings, .safe, .out] [] [Reg.RING.COMMANDS] s t)
  -- a command started before its ring was enabled anew leaves the new index as it is (log entry 195)
  ∧ (∀ (s : State) (n : Nat), (s.ring n).stale ≠ 0 →
    ∃ t, s.passDescriptor n = t
      ∧ t.ring n = { s.ring n with started := (s.ring n).started.tail, stale := (s.ring n).stale - 1, sending := none }
      ∧ t.stat Reg.RING.COMMANDS = (s.stat Reg.RING.COMMANDS + 1) % 2 ^ 32 ∧ Frame [.rings] [] [Reg.RING.COMMANDS] s t)

/-- Events (R250, R252, R253): a firing source is pending, and pending again in EVT.AGAIN; the end of a
holdoff sends one message; W1C clears, but a source that fires in the cycle stays. -/
def Obligations.Events : Prop :=
  (∀ (s : State) (src detail : Nat), src < 512 → s.on (Reg.EVT.MAP.EN src) = false →
    ∃ t, s.fireD src detail = t ∧ t.pends src
      ∧ (s.pends src → t.evt.again.getLsbD src = true)
      ∧ (∀ k, k ∉ [src, 96, 99, 196] → (t.evt.pend.getLsbD k = s.evt.pend.getLsbD k ∧ t.evt.again.getLsbD k = s.evt.again.getLsbD k)))
  -- a firing touches nothing but PEND and AGAIN, the rings, the privileged frame of its alarm and what is sent
  ∧ (∀ (s : State) (src detail : Nat),
    ∃ t, s.fireD src detail = t ∧ Frame signalled [] [Reg.ETH.PRIV_SENT, Reg.ETH.FP_DROP] s t
      ∧ t.safe = { s.safe with held := t.safe.held, unconfirmed := t.safe.unconfirmed }
      ∧ t.eth = { s.eth with prpSeq := t.eth.prpSeq, tx := t.eth.tx })
  -- with its events disabled and no alarm, a firing only marks the source
  ∧ (∀ (s : State) (src detail : Nat), s.on (Reg.EVT.MAP.EN src) = false → s.on Reg.ETH.ALARM.EN = false →
    ∃ t, s.fireD src detail = t ∧ t.evt = s.evt.mark src ∧ Frame [.evt] [] [] s t)
  -- MSIX_HOLDOFF_END with a signal waiting: one message goes out, and the holdoff starts anew
  ∧ (∀ (s : State) (v : Fin 256), s.logicUp = true → s.safe.hold = false → v.val ∈ s.evt.holding →
      v.val ∈ s.evt.waiting → s.msixWord s.active (4 * v.val + 3) % 2 = 0 → s.get (Reg.EVT.VEC.HOLDOFF_US v) ≠ 0 →
    ∃ t, exec (.msixHoldoffEnd v) s = .next t ∧ v.val ∉ t.evt.waiting ∧ v.val ∈ t.evt.holding
      ∧ t.out = s.out ++ [.msix s.active v (s.msixWord s.active (4 * v.val + 1) * 2 ^ 32 + s.msixWord s.active (4 * v.val))
          (s.msixWord s.active (4 * v.val + 2))]
      ∧ Frame [.evt, .safe, .out] [] [] s t)
  -- while the vector is masked, its pending bit is set instead
  ∧ (∀ (s : State) (v : Fin 256), s.logicUp = true → v.val ∈ s.evt.holding → v.val ∈ s.evt.waiting →
      s.msixWord s.active (4 * v.val + 3) % 2 = 1 →
    ∃ t, exec (.msixHoldoffEnd v) s = .next t ∧ v.val ∉ t.evt.waiting ∧ v.val ∉ t.evt.holding
      ∧ (256 * s.active + v.val) ∈ t.evt.pba ∧ Frame [.evt] [] [] s t)
  -- MSIX_HOLDOFF_END with none: the vector is free to send
  ∧ (∀ (s : State) (v : Fin 256), s.logicUp = true → v.val ∈ s.evt.holding → v.val ∉ s.evt.waiting →
    ∃ t, exec (.msixHoldoffEnd v) s = .next t ∧ v.val ∉ t.evt.holding ∧ Frame [.evt] [] [] s t)
  -- EVT_PEND_CLEAR: written 1s clear their bits
  ∧ (∀ (s : State) (j : Fin 16) (v : BitVec 32), s.hostUp = true → s.eventWord j = true →
    ∃ t, exec (.evtPendClear j v 0) s = .next t
      ∧ (∀ k, k < 512 → t.evt.pend.getLsbD k
          = (s.evt.pend.getLsbD k && !(decide (k / 32 = j.val) && v.getLsbD (k % 32))))
      ∧ Frame [.evt] [] [] s t)
  -- a source that fires in the cycle of the write stays pending
  ∧ (∀ (s : State) (j : Fin 16) (v firing : BitVec 32) (b : Nat), s.hostUp = true → s.eventWord j = true → b < 32 →
      firing.getLsbD b = true →
    ∃ t, exec (.evtPendClear j v firing) s = .next t ∧ t.pends (32 * j.val + b)
      ∧ Frame signalled [] [Reg.ETH.PRIV_SENT, Reg.ETH.FP_DROP] s t)

/-- Ethernet, the fast path and PTP (R255, R256, R259, R260, R261, R263, R265): each of the six commands completes.
Where the spec leaves a point of it open, the clause is the model's choice: log entries 92, 156, 158, 194, 197, 198.
-/
def Obligations.EthernetCommands : Prop :=
  -- FP_TPL_COMMIT of an image that passes the checks of R259
  (∀ (s : State) (t' : Fin 32) (v : BitVec 32), s.hostUp = true → (bitsAt v.toNat 0 7 = 62 ∨ bitsAt v.toNat 0 7 = 66) →
      bitsAt v.toNat 7 1 = 1 → s.tplInUse t' = false →
      tplImageOk (bitsAt v.toNat 0 7) (leBytes 64 (s.get (Reg.ETH.FP_TPL.IMAGE t'))) = true →
    ∃ t, exec (.fpTplCommit t' v) s = .next t ∧ t.get (Reg.ETH.FP_TPL_CTL.HDR_LEN t') = bitsAt v.toNat 0 7
      ∧ t.get (Reg.ETH.FP_TPL_CTL.VALID t') = 1
      ∧ Frame [] [Reg.ETH.FP_TPL_CTL.HDR_LEN t', Reg.ETH.FP_TPL_CTL.VALID t'] [] s t)
  -- FP_TPL_COMMIT of an image that fails them, of another HDR_LEN, or of a template in use: an illegal value
  ∧ (∀ (s : State) (t' : Fin 32) (v : BitVec 32), s.hostUp = true → bitsAt v.toNat 7 1 = 1 →
      ((bitsAt v.toNat 0 7 ≠ 62 ∧ bitsAt v.toNat 0 7 ≠ 66) ∨ s.tplInUse t' = true
        ∨ tplImageOk (bitsAt v.toNat 0 7) (leBytes 64 (s.get (Reg.ETH.FP_TPL.IMAGE t'))) = false) →
    ∃ t, exec (.fpTplCommit t' v) s = .next t ∧ t.safe.fault.valid = true ∧ Frame signalled [] [Reg.ETH.PRIV_SENT, Reg.ETH.FP_DROP] s t)
  -- ETH_LINK_CHANGE up, on an enabled port, with PHY delays within 3 ns of its mode's: LINK, the PHY delays, source 192
  ∧ (∀ (s : State) (h p : Fin 2) (tx rx : Nat), s.logicUp = true → s.headUp h = true →
      s.on (Reg.ETH.PORT_STATUS.LINK h p) = false → s.on (Reg.ETH.PORT_CFG.EN h p) = true →
      phyOk (s.get (Reg.ETH.PORT_CFG.MODE h p)) tx rx = true →
    ∃ t, exec (.ethLinkChange h p true tx rx) s = .next t ∧ t.get (Reg.ETH.PORT_STATUS.LINK h p) = 1
      ∧ t.get (Reg.ETH.PORT_STATUS.LINK_CHG h p) = 1 ∧ t.get (Reg.ETH.TX_PHY.PS h p) = tx
      ∧ t.get (Reg.ETH.TX_PHY.VALID h p) = 1 ∧ t.get (Reg.ETH.RX_PHY.PS h p) = rx
      ∧ t.get (Reg.ETH.RX_PHY.VALID h p) = 1 ∧ t.pends 192
      ∧ Frame signalled [Reg.ETH.PORT_STATUS.LINK h p, Reg.ETH.PORT_STATUS.LINK_CHG h p, Reg.ETH.TX_PHY.PS h p,
          Reg.ETH.TX_PHY.VALID h p, Reg.ETH.RX_PHY.PS h p, Reg.ETH.RX_PHY.VALID h p] [Reg.ETH.PRIV_SENT, Reg.ETH.FP_DROP] s t)
  -- ETH_LINK_CHANGE down
  ∧ (∀ (s : State) (h p : Fin 2) (tx rx : Nat), s.logicUp = true → s.headUp h = true →
      s.on (Reg.ETH.PORT_STATUS.LINK h p) = true →
    ∃ t, exec (.ethLinkChange h p false tx rx) s = .next t ∧ t.get (Reg.ETH.PORT_STATUS.LINK h p) = 0
      ∧ t.get (Reg.ETH.PORT_STATUS.LINK_CHG h p) = 1 ∧ t.get (Reg.ETH.TX_PHY.VALID h p) = 0
      ∧ t.get (Reg.ETH.RX_PHY.VALID h p) = 0 ∧ t.pends 192
      ∧ Frame signalled [Reg.ETH.PORT_STATUS.LINK h p, Reg.ETH.PORT_STATUS.LINK_CHG h p, Reg.ETH.TX_PHY.VALID h p,
          Reg.ETH.RX_PHY.VALID h p] [Reg.ETH.PRIV_SENT, Reg.ETH.FP_DROP] s t)
  -- PRP_SUPERVISION: each LAN whose port can send carries one, both with one sequence number
  ∧ (∀ s : State, s.live = true → s.on Reg.ETH.PRP_CFG.SUPERVISION = true → s.on Reg.ETH.PRP_CFG.EN = false →
      s.portUp 0 0 = true → s.portUp 1 0 = true → s.eth.tx = [] → s.eth.lifeAt = none →
    ∃ t, exec .prpSupervision s = .next t
      ∧ t.out = s.out ++ [.ethFrame 0 0 (supervisionFrame (s.get (Reg.ETH.MAC.ADDR 0 0)) s.eth.prpSeq),
          .ethFrame 1 0 (supervisionFrame (s.get (Reg.ETH.MAC.ADDR 1 0)) s.eth.prpSeq)]
      ∧ t.eth = { s.eth with prpSeq := (s.eth.prpSeq + 1) % 65536, tx := t.eth.tx, lifeAt := some s.counterNs }
      ∧ Frame [.eth, .out] [] [] s t)
  -- LIFE_MS has not passed since the last
  ∧ (∀ (s : State) (t0 : Nat), s.eth.lifeAt = some t0 → s.nsSince t0 < s.get Reg.ETH.PRP_CFG.LIFE_MS * 1000000 →
    exec .prpSupervision s = .next s)
  -- ANNOUNCE_TIMEOUT, its master silent for ANN_TIMEOUT announce intervals: the LAN's slave has no master; LAN B is used when LAN A has none
  ∧ (∀ (s : State) (lan : Fin 2), s.logicUp = true → s.masterSilent lan = true →
    ∃ t, exec (.announceTimeout lan) s = .next t ∧ (t.eth.lan lan).master = none
      ∧ (lan = 0 → s.eth.lanB.master.isSome = true → t.get Reg.ETH.PTP_STATUS.LAN = 1
          ∧ t.get Reg.ETH.PTP_STATUS.MASTER_A = 0 ∧ t.get Reg.ETH.PTP_STATUS.MASTER_B = 1)
      ∧ Frame signalled [Reg.ETH.PTP_STATUS.MASTER_A, Reg.ETH.PTP_STATUS.MASTER_B, Reg.ETH.PTP_STATUS.LAN,
          Reg.ETH.PTP_MASTER.ID] [Reg.ETH.PRIV_SENT, Reg.ETH.FP_DROP] s t)
  -- ETH_FRAME_RX of a frame above MAX_FRAME, its FCS included: OVERSIZE
  ∧ (∀ (s : State) (h p : Fin 2) (bytes : List Byte) (ps : Nat), s.logicUp = true → s.portUp h p = true →
      60 ≤ bytes.length → s.get (Reg.ETH.PORT_CFG.MAX_FRAME h p) < bytes.length + 4 →
    ∃ t, exec (.ethFrameRx h p bytes ps) s = .next t
      ∧ t.stat Reg.ETH.OVERSIZE = (s.stat Reg.ETH.OVERSIZE + 1) % 2 ^ 32 ∧ Frame [] [] [Reg.ETH.OVERSIZE] s t)
  -- ETH_FRAME_RX of a PTP message on port 1: RX_PTP counts it
  ∧ (∀ (s : State) (h : Fin 2) (bytes : List Byte) (ps o : Nat), s.logicUp = true → s.portUp h 1 = true →
      60 ≤ bytes.length → bytes.length + 4 ≤ s.get (Reg.ETH.PORT_CFG.MAX_FRAME h 1) → s.ptpOffset bytes = some o →
      s.on Reg.ETH.PTP_CFG.EN = true →
    ∃ t, exec (.ethFrameRx h 1 bytes ps) s = .next t
      ∧ t.stat Reg.ETH.RX_PTP = (s.stat Reg.ETH.RX_PTP + 1) % 2 ^ 32
      ∧ Frame [.eth] [] [Reg.ETH.RX_PTP, Reg.ETH.TC_FORWARDED] s t)
  -- ETH_FRAME_RX of a Neighbour Solicitation for the port's address on port 1 is answered
  ∧ (∀ (s : State) (h : Fin 2) (bytes : List Byte) (ps : Nat), s.logicUp = true → s.portUp h 1 = true →
      60 ≤ bytes.length → bytes.length + 4 ≤ s.get (Reg.ETH.PORT_CFG.MAX_FRAME h 1) → s.ptpOffset bytes = none →
      s.isSolicitation h 1 bytes = true →
      s.active = h → s.eth.tx = [] → s.safe.hold = false →
    ∃ t, exec (.ethFrameRx h 1 bytes ps) s = .next t
      ∧ t.out = s.out ++ [.ethFrame h 1 (s.neighbourAdvert h 1 bytes)] ∧ Frame [.eth, .safe, .out] [] [] s t)
  -- on the other head it is not answered (R12, log entry 198)
  ∧ (∀ (s : State) (h : Fin 2) (bytes : List Byte) (ps : Nat), s.logicUp = true → s.portUp h 1 = true →
      60 ≤ bytes.length → bytes.length + 4 ≤ s.get (Reg.ETH.PORT_CFG.MAX_FRAME h 1) → s.ptpOffset bytes = none →
      s.isSolicitation h 1 bytes = true → s.active ≠ h →
    exec (.ethFrameRx h 1 bytes ps) s = .next s)
  -- a PAUSE frame stops the port where PAUSE_RX is 1
  ∧ (∀ (s : State) (h p : Fin 2) (bytes : List Byte) (ps q : Nat), s.logicUp = true → s.portUp h p = true →
      60 ≤ bytes.length → bytes.length + 4 ≤ s.get (Reg.ETH.PORT_CFG.MAX_FRAME h p) → pauseQuanta bytes = some q → 0 < q →
      s.on (Reg.ETH.PORT_CFG.PAUSE_RX h p) = true →
    ∃ t, exec (.ethFrameRx h p bytes ps) s = .next t ∧ t.paused h p = true ∧ Frame [.eth] [] [] s t)
  -- and is discarded where it is 0
  ∧ (∀ (s : State) (h p : Fin 2) (bytes : List Byte) (ps q : Nat), s.logicUp = true → s.portUp h p = true →
      60 ≤ bytes.length → bytes.length + 4 ≤ s.get (Reg.ETH.PORT_CFG.MAX_FRAME h p) → pauseQuanta bytes = some q →
      s.on (Reg.ETH.PORT_CFG.PAUSE_RX h p) = false →
    ∃ t, exec (.ethFrameRx h p bytes ps) s = .next t
      ∧ t.stat Reg.ETH.RX_DISCARD = (s.stat Reg.ETH.RX_DISCARD + 1) % 2 ^ 32 ∧ Frame [] [] [Reg.ETH.RX_DISCARD] s t)
  -- PTP_EGRESS of a frame the transparent clock forwards: it leaves with its correctionField rewritten
  ∧ (∀ (s : State) (h p : Fin 2) (ps : Nat) (e : EgressFrame) (rest : List EgressFrame), s.logicUp = true →
      s.portUp h p = true → Tbl.getD s.eth.egress (2 * h.val + p.val) [] = e :: rest → e.own = none →
      s.paused h p = false →
    ∃ t, exec (.ptpEgress h p ps) s = .next t
      ∧ t.out = s.out ++ [.ethFrame h p (s.stampEgress h p e (ofPs ((ps : Int) + s.get (Reg.ETH.TX_PHY.PS h p))))]
      ∧ Tbl.getD t.eth.egress (2 * h.val + p.val) [] = rest ∧ Frame [.eth, .out] [] [] s t)
  -- PTP_EGRESS of a frame that port originates: a privileged frame, with the PRP trailer of its LAN (log entry 197)
  ∧ (∀ (s : State) (h p : Fin 2) (ps q : Nat) (e : EgressFrame) (rest : List EgressFrame), s.logicUp = true →
      s.portUp h p = true → Tbl.getD s.eth.egress (2 * h.val + p.val) [] = e :: rest → e.own = some (h.val, some q) →
      s.paused h p = false → s.on Reg.ETH.PRP_CFG.EN = true →
    ∃ t, exec (.ptpEgress h p ps) s = .next t
      ∧ t.out = s.out ++ [.ethFrame h p (s.stampEgress h p e (ofPs ((ps : Int) + s.get (Reg.ETH.TX_PHY.PS h p)))
          ++ prpTrailer (s.stampEgress h p e (ofPs ((ps : Int) + s.get (Reg.ETH.TX_PHY.PS h p)))) q h)]
      ∧ t.stat Reg.ETH.PRIV_SENT = (s.stat Reg.ETH.PRIV_SENT + 1) % 2 ^ 32
      ∧ Tbl.getD t.eth.egress (2 * h.val + p.val) [] = rest ∧ Frame [.eth, .out] [] [Reg.ETH.PRIV_SENT] s t)
  -- its copy on the other LAN does not count again
  ∧ (∀ (s : State) (h p : Fin 2) (ps l : Nat) (seq : Option Nat) (e : EgressFrame) (rest : List EgressFrame),
      s.logicUp = true → s.portUp h p = true → Tbl.getD s.eth.egress (2 * h.val + p.val) [] = e :: rest →
      e.own = some (l, seq) → l ≠ h → s.paused h p = false →
    ∃ t, exec (.ptpEgress h p ps) s = .next t
      ∧ Tbl.getD t.eth.egress (2 * h.val + p.val) [] = rest ∧ Frame [.eth, .out] [] [] s t)

/-- JESD204C links (R70, R73, R74, R75, R76, R77, R78, R100): the state machine DISABLED 0, SEARCH 1, SYNC 2, ALIGN 3,
DATA 4. Where the spec leaves a point of it open, the clause is the model's choice: log entries 29, 30, 31. -/
def Obligations.LinkCommands : Prop :=
  -- LINK_CFG_WRITE that enables a receive link within R70: its search begins, the counters clear
  (∀ (s : State) (f : Fin 6) (k : Fin 48) (v : BitVec 32), s.hostUp = true → s.dieUp f = true → k.val < 40 →
      linkCfgRange v.toNat = true → bitsAt v.toNat 0 1 = 1 → s.on (Reg.LINK.CFG.EN f k) = false →
      s.linkCfgOk f k v.toNat = true →
    ∃ t, exec (.linkCfgWrite f k v) s = .next t ∧ t.get (Reg.LINK.STATUS.STATE f k) = 1
      ∧ t.on (Reg.LINK.CFG.EN f k) = true ∧ t.get (Reg.LINK.CFG.M f k) = bitsAt v.toNat 9 5
      ∧ t.get (Reg.LINK.CFG.WIDTH f k) = bitsAt v.toNat 15 3 ∧ t.get (Reg.LINK.STATUS.RESTARTS f k) = 0
      ∧ t.get (Reg.LINK.STATUS.CRC_ERR f k) = 0 ∧ t.get (Reg.LINK.RX_LAT.VALID f k) = 0
      ∧ FrameIn (.air :: signalled) [(dieOffset f (0x40000 + k.val * 0x20), dieOffset f (0x40010 + k.val * 0x20)),
          (dieOffset f 0x100800, dieOffset f 0x100804)] alarmWords s t)
  -- LINK_CFG_WRITE that enables a transmit link: ALIGN at once
  ∧ (∀ (s : State) (f : Fin 6) (k : Fin 48) (v : BitVec 32), s.hostUp = true → s.dieUp f = true → 40 ≤ k.val →
      linkCfgRange v.toNat = true → bitsAt v.toNat 0 1 = 1 → s.on (Reg.LINK.CFG.EN f k) = false →
      s.linkCfgOk f k v.toNat = true →
    ∃ t, exec (.linkCfgWrite f k v) s = .next t ∧ t.get (Reg.LINK.STATUS.STATE f k) = 3
      ∧ t.on (Reg.LINK.CFG.EN f k) = true
      ∧ FrameIn (.air :: signalled) [(dieOffset f (0x40000 + k.val * 0x20), dieOffset f (0x40010 + k.val * 0x20)),
          (dieOffset f 0x100800, dieOffset f 0x100804)] alarmWords s t)
  -- a value the table calls illegal, an EN that R70 refuses, or a change of another field while EN is 1
  ∧ (∀ (s : State) (f : Fin 6) (k : Fin 48) (v : BitVec 32), s.hostUp = true → s.dieUp f = true →
      (linkCfgRange v.toNat = false
        ∨ (bitsAt v.toNat 0 1 = 1 ∧ s.on (Reg.LINK.CFG.EN f k) = false ∧ s.linkCfgOk f k v.toNat = false)
        ∨ (bitsAt v.toNat 0 1 = 1 ∧ s.on (Reg.LINK.CFG.EN f k) = true ∧ bitsAt v.toNat 0 29 - 1 ≠ s.linkFields f k)) →
    ∃ t, exec (.linkCfgWrite f k v) s = .next t ∧ t.safe.fault.valid = true ∧ Frame signalled [] [Reg.ETH.PRIV_SENT, Reg.ETH.FP_DROP] s t)
  -- LINK_DISABLE of a receive link: DISABLED, and no tracker or demodulator context is left on its streams
  ∧ (∀ (s : State) (f : Fin 6) (k : Fin 48) (v : BitVec 32), s.hostUp = true → s.dieUp f = true → k.val < 40 →
      linkCfgRange (v.toNat / 2 * 2) = true → s.on (Reg.LINK.CFG.EN f k) = true →
    ∃ t, exec (.linkDisable f k v) s = .next t ∧ t.get (Reg.LINK.STATUS.STATE f k) = 0
      ∧ t.on (Reg.LINK.CFG.EN f k) = false ∧ t.get (Reg.LINK.RX_LAT.VALID f k) = 0
      ∧ (48 * f.val + k.val) ∉ t.air.searching
      ∧ (∀ e ∈ t.air.trackers, e ∈ s.air.trackers ∧ (e.1 / 2048 = f.val → e.2.ctx < 512 → s.ctxOnLink f k e.2.ctx = false))
      ∧ (∀ e ∈ t.air.ctxs, e ∈ s.air.ctxs ∧ (e.1 / 4096 = f.val → e.2.ctx < 512 → s.ctxOnLink f k e.2.ctx = false))
      ∧ FrameIn (.air :: signalled) [(dieOffset f (0x40000 + k.val * 0x20), dieOffset f (0x40010 + k.val * 0x20)),
          (dieOffset f 0x100800, dieOffset f 0x100804), (dieOffset f 0x140048, dieOffset f 0x14004C),
          (dieOffset f 0x180004, dieOffset f 0x180008)]
          [Reg.STEEP.SOURCE_LOST f, Reg.DEMOD.SOURCE_LOST f, Reg.ETH.PRIV_SENT, Reg.ETH.FP_DROP] s t)
  -- LINK_SYNC_LOCK, LINK_EMB_LOCK
  ∧ (∀ (s : State) (f : Fin 6) (k : Fin 48), s.dieUp f = true → k.val < 40 → s.get (Reg.LINK.STATUS.STATE f k) = 1 →
    ∃ t, exec (.linkSyncLock f k) s = .next t ∧ t.get (Reg.LINK.STATUS.STATE f k) = 2
      ∧ Frame [.air] [Reg.LINK.STATUS.STATE f k] [] s t)
  ∧ (∀ (s : State) (f : Fin 6) (k : Fin 48), s.dieUp f = true → k.val < 40 → s.get (Reg.LINK.STATUS.STATE f k) = 2 →
    ∃ t, exec (.linkEmbLock f k) s = .next t ∧ t.get (Reg.LINK.STATUS.STATE f k) = 3
      ∧ Frame [] [Reg.LINK.STATUS.STATE f k] [] s t)
  -- LINK_ALIGN: DATA, with a lane latency of 150 to 900 ns
  ∧ (∀ (s : State) (f : Fin 6) (k : Fin 48), s.dieUp f = true → k.val < 40 → s.get (Reg.LINK.STATUS.STATE f k) = 3 →
      s.sysrefRuns f k = true →
    ∃ t, exec (.linkAlign f k) s = .next t ∧ t.get (Reg.LINK.STATUS.STATE f k) = 4
      ∧ t.get (Reg.LINK.RX_LAT.VALID f k) = 1 ∧ 150000 ≤ t.get (Reg.LINK.RX_LAT.PS f k)
      ∧ t.get (Reg.LINK.RX_LAT.PS f k) ≤ 900000
      ∧ Frame [.air] [Reg.LINK.STATUS.STATE f k, Reg.LINK.RX_LAT.PS f k, Reg.LINK.RX_LAT.VALID f k] [] s t)
  -- links alike in S × w, L, N', WIDTH and E have one lane latency
  ∧ (∀ (s : State) (f g : Fin 6) (k j : Fin 40), s.latencyKey f k = s.latencyKey g j →
      s.laneLatency Config.rxLatency f k = s.laneLatency Config.rxLatency g j)
  -- LINK_RESTART: RESTARTS counts, the link searches again, source 320 + 32f
  ∧ (∀ (s : State) (f : Fin 6) (k : Fin 48), s.dieUp f = true → k.val < 40 → 2 ≤ s.get (Reg.LINK.STATUS.STATE f k) →
    ∃ t, exec (.linkRestart f k) s = .next t ∧ t.get (Reg.LINK.STATUS.STATE f k) = 1
      ∧ t.get (Reg.LINK.STATUS.RESTARTS f k) = min (s.get (Reg.LINK.STATUS.RESTARTS f k) + 1) 255
      ∧ ((48 * f.val + k.val) ∈ s.air.reached → t.get (Reg.LINK.STATUS.HOTPLUG f k) = 1)
      ∧ t.get (Reg.LINK.RX_LAT.VALID f k) = 0 ∧ t.pends (320 + 32 * f.val)
      ∧ FrameIn (.air :: signalled) [(dieOffset f (0x40008 + k.val * 0x20), dieOffset f (0x40010 + k.val * 0x20)),
          (dieOffset f 0x140048, dieOffset f 0x14004C), (dieOffset f 0x180004, dieOffset f 0x180008)]
          [Reg.STEEP.SOURCE_LOST f, Reg.DEMOD.SOURCE_LOST f, Reg.ETH.PRIV_SENT, Reg.ETH.FP_DROP] s t)
  -- SEARCH_RESUME
  ∧ (∀ (s : State) (f : Fin 6) (k : Fin 48), s.dieUp f = true → k.val < 40 → s.get (Reg.LINK.STATUS.STATE f k) = 4 →
      (48 * f.val + k.val) ∉ s.air.searching →
    ∃ t, exec (.searchResume f k) s = .next t ∧ (48 * f.val + k.val) ∈ t.air.searching ∧ Frame [.air] [] [] s t)
  -- CRC_MISMATCH: CRC_ERR counts up to its width; the link stays in DATA
  ∧ (∀ (s : State) (f : Fin 6) (k : Fin 48) (lane : Fin 8), s.dieUp f = true → k.val < 40 →
      s.get (Reg.LINK.STATUS.STATE f k) = 4 → lane.val < 2 ^ s.get (Reg.LINK.CFG.L_LOG2 f k) →
    ∃ t, exec (.crcMismatch f k lane) s = .next t
      ∧ t.get (Reg.LINK.STATUS.CRC_ERR f k) = min (s.get (Reg.LINK.STATUS.CRC_ERR f k) + 1) 65535
      ∧ t.get (Reg.LINK.STATUS.STATE f k) = 4
      ∧ (Tbl.getD s.air.crcSince (48 * f.val + k.val) 0 = 1024 → t.pends (322 + 32 * f.val))
      ∧ Frame (.air :: signalled) [Reg.LINK.STATUS.CRC_ERR f k] [Reg.ETH.PRIV_SENT, Reg.ETH.FP_DROP] s t)
  -- SYSREF_ERROR: the flag and source 321 + 32f; the alignment stays
  ∧ (∀ (s : State) (f : Fin 6) (k : Fin 48), s.dieUp f = true → s.get (Reg.LINK.STATUS.STATE f k) = 4 →
      s.sysrefRuns f k = true →
    ∃ t, exec (.sysrefError f k) s = .next t ∧ t.get (Reg.LINK.STATUS.SYSREF_ERR f k) = 1
      ∧ t.get (Reg.LINK.STATUS.STATE f k) = 4 ∧ t.pends (321 + 32 * f.val)
      ∧ Frame signalled [Reg.LINK.STATUS.SYSREF_ERR f k] [Reg.ETH.PRIV_SENT, Reg.ETH.FP_DROP] s t)
  -- TX_LINK_ALIGN: DATA, the lane latency of its outputs valid
  ∧ (∀ (s : State) (f : Fin 6) (k : Fin 48), s.dieUp f = true → 40 ≤ k.val → s.get (Reg.LINK.STATUS.STATE f k) = 3 →
      s.sysrefRuns f k = true → s.linkStreams f k ≤ 12 →
    ∃ t, exec (.txLinkAlign f k) s = .next t ∧ t.get (Reg.LINK.STATUS.STATE f k) = 4
      ∧ (∀ j, j < s.linkStreams f k → t.get (Reg.TX.TX_LAT.VALID f (12 * (k.val - 40) + j)) = 1
          ∧ 150000 ≤ t.get (Reg.TX.TX_LAT.PS f (12 * (k.val - 40) + j))
          ∧ t.get (Reg.TX.TX_LAT.PS f (12 * (k.val - 40) + j)) ≤ 900000)
      ∧ FrameIn [] [(dieOffset f (0x40008 + k.val * 0x20), dieOffset f (0x4000C + k.val * 0x20)),
          (dieOffset f (0x1C000C + 12 * (k.val - 40) * 0x10), dieOffset f (0x1C000C + (12 * (k.val - 40) + 12) * 0x10))] [] s t)

/-- Stream contexts (R72, R139, R371): a source serves one context, a context that loses its source loses what was
detected on it. Where the spec leaves a point of it open, the clause is the model's choice: log entry 31. -/
def Obligations.StreamCommands : Prop :=
  -- STREAM_CFG_WRITE that enables a context on a source that is free, its BLANK group inactive
  (∀ (s : State) (f : Fin 6) (i : Fin 512) (v : BitVec 32), s.hostUp = true → s.dieUp f = true →
      streamRange v.toNat = true → bitsAt v.toNat 0 1 = 1 → s.streamOk f i v.toNat = true →
      s.on (Reg.LINK.STREAM.EN f i) = false → (bitsAt v.toNat 14 4 < 8 → (8 * f.val + bitsAt v.toNat 14 4) ∉ s.air.blank) →
    ∃ t, exec (.streamCfgWrite f i v) s = .next t ∧ t.on (Reg.LINK.STREAM.EN f i) = true
      ∧ t.get (Reg.LINK.STREAM.SRC f i) = bitsAt v.toNat 2 6 ∧ t.get (Reg.LINK.STREAM.SRC_RF f i) = bitsAt v.toNat 1 1
      ∧ t.get (Reg.LINK.STREAM.SLOT f i) = bitsAt v.toNat 8 4 ∧ t.get (Reg.LINK.STREAM.PART f i) = bitsAt v.toNat 12 2
      ∧ t.get (Reg.LINK.STREAM.BLANK_GRP f i) = bitsAt v.toNat 14 4
      ∧ (∀ e ∈ t.air.floors, e.1 / 512 ≠ 512 * f.val + i.val)
      ∧ Frame (.air :: signalled) [Reg.LINK.STREAM.EN f i, Reg.LINK.STREAM.SRC f i, Reg.LINK.STREAM.SRC_RF f i,
          Reg.LINK.STREAM.SLOT f i, Reg.LINK.STREAM.PART f i, Reg.LINK.STREAM.BLANK_GRP f i, Reg.SPARGE.STREAM.SAT_WIN f i,
          Reg.SPARGE.STATUS.W_CONTEXTS f, Reg.SPARGE.STATUS.N_CHANNELS f] alarmWords s t)
  -- a value out of the table, or a source that R72 refuses
  ∧ (∀ (s : State) (f : Fin 6) (i : Fin 512) (v : BitVec 32), s.hostUp = true → s.dieUp f = true →
      (streamRange v.toNat = false ∨ (bitsAt v.toNat 0 1 = 1 ∧ s.streamOk f i v.toNat = false)) →
    ∃ t, exec (.streamCfgWrite f i v) s = .next t ∧ t.safe.fault.valid = true ∧ Frame signalled [] [Reg.ETH.PRIV_SENT, Reg.ETH.FP_DROP] s t)
  -- STREAM_DISABLE: its trackers and demodulator contexts end with SOURCE_LOST
  ∧ (∀ (s : State) (f : Fin 6) (i : Fin 512) (v : BitVec 32), s.hostUp = true → s.dieUp f = true →
      streamRange (v.toNat / 2 * 2) = true → s.on (Reg.LINK.STREAM.EN f i) = true →
    ∃ t, exec (.streamDisable f i v) s = .next t ∧ t.on (Reg.LINK.STREAM.EN f i) = false
      ∧ (∀ e ∈ t.air.trackers, e ∈ s.air.trackers ∧ ¬ (e.1 / 2048 = f.val ∧ e.2.ctx = i.val))
      ∧ (∀ e ∈ t.air.ctxs, e ∈ s.air.ctxs ∧ ¬ (e.1 / 4096 = f.val ∧ e.2.ctx = i.val))
      ∧ t.stat (Reg.DEMOD.SOURCE_LOST f) = (s.stat (Reg.DEMOD.SOURCE_LOST f)
          + (s.air.ctxs.filter fun e => e.1 / 4096 = f.val && e.2.ctx = i.val).length) % 2 ^ 32
      ∧ FrameIn (.air :: signalled) [(dieOffset f (0x41000 + i.val * 4), dieOffset f (0x41004 + i.val * 4)),
          (dieOffset f 0x100800, dieOffset f 0x100804), (dieOffset f 0x140048, dieOffset f 0x14004C),
          (dieOffset f 0x180004, dieOffset f 0x180008)]
          [Reg.STEEP.SOURCE_LOST f, Reg.DEMOD.SOURCE_LOST f, Reg.ETH.PRIV_SENT, Reg.ETH.FP_DROP] s t)

/-- Integrated receive chains and HCB masters (R79, R80, R81, R99, R100). Where the spec leaves a point of it open,
the clause is the model's choice: log entries 32, 33, 36, 155, 180. -/
def Obligations.ReceiveChains : Prop :=
  -- RX_CHAIN_ENABLE of a chain that is off, FC as it stands: all calibrations run before it delivers a sample
  (∀ (s : State) (f : Fin 6) (c : Fin 4) (v : BitVec 32), s.hostUp = true → s.dieUp f = true →
      bitsAt v.toNat 2 15 = s.get (Reg.FRF.RXCH.FC f c) → fcLegal (bitsAt v.toNat 2 15) = true → bitsAt v.toNat 0 1 = 1 →
      bitsAt v.toNat 1 1 = 0 → s.on (Reg.FRF.RXCH.EN f c) = false →
    ∃ t, exec (.rxChainEnable f c v) s = .next t ∧ t.on (Reg.FRF.RXCH.EN f c) = true
      ∧ t.get (Reg.FRF.RXCH.CAL_VALID f c) = 0 ∧ t.get (Reg.FRF.RXCH.GAIN f c) = 6
      ∧ (t.chain f c).running = [0, 1, 2] ∧ t.chainDelivers f c = false
      ∧ FrameIn [.air, .safe] [(dieOffset f (0x80000 + c.val * 0x10), dieOffset f (0x80004 + c.val * 0x10))] [] s t)
  -- an FC outside the ranges of R79: an illegal value
  ∧ (∀ (s : State) (f : Fin 6) (c : Fin 4) (v : BitVec 32), s.hostUp = true → s.dieUp f = true →
      (bitsAt v.toNat 2 15 < 4064 ∨ (9936 < bitsAt v.toNat 2 15 ∧ bitsAt v.toNat 2 15 < 24064) ∨ 24936 < bitsAt v.toNat 2 15) →
    ∃ t, exec (.rxChainEnable f c v) s = .next t ∧ t.safe.fault.valid = true ∧ Frame signalled [] [Reg.ETH.PRIV_SENT, Reg.ETH.FP_DROP] s t)
  -- CAL_REQ on a chain that is on: every calibration is due, one that runs again after it
  ∧ (∀ (s : State) (f : Fin 6) (c : Fin 4) (v : BitVec 32), s.hostUp = true → s.dieUp f = true →
      bitsAt (v.toNat ||| 2) 2 15 = s.get (Reg.FRF.RXCH.FC f c) → fcLegal (bitsAt (v.toNat ||| 2) 2 15) = true →
      bitsAt (v.toNat ||| 2) 0 1 = 1 → s.on (Reg.FRF.RXCH.EN f c) = true →
    ∃ t, exec (.calReq f c v) s = .next t ∧ t.get (Reg.FRF.RXCH.CAL_REQ f c) = 1
      ∧ (∀ cal, cal < 3 → cal ∈ (t.chain f c).due)
      ∧ FrameIn [.air, .safe] [(dieOffset f (0x80000 + c.val * 0x10), dieOffset f (0x80004 + c.val * 0x10))] [] s t)
  -- CALIBRATION_DUE
  ∧ (∀ (s : State) (f : Fin 6) (c : Fin 4) (cal : Fin 3), s.dieUp f = true → s.on (Reg.FRF.RXCH.EN f c) = true →
    ∃ t, exec (.calibrationDue f c cal) s = .next t
      ∧ cal.val ∈ (t.chain f c).due ∧ Frame [.air] [] [] s t)
  -- CALIBRATION_FORCED: source 323 + 32f
  ∧ (∀ (s : State) (f : Fin 6) (c : Fin 4) (cal : Fin 3), s.dieUp f = true → cal.val ∈ (s.chain f c).due →
      cal.val ∉ (s.chain f c).forced →
    ∃ t, exec (.calibrationForced f c cal) s = .next t ∧ cal.val ∈ (t.chain f c).forced ∧ t.pends (323 + 32 * f.val)
      ∧ Frame (.air :: signalled) [] [Reg.ETH.PRIV_SENT, Reg.ETH.FP_DROP] s t)
  -- CALIBRATION_DONE: CAL_VALID once all have completed since EN
  ∧ (∀ (s : State) (f : Fin 6) (c : Fin 4) (cal : Fin 3) (db : BitVec 8), s.dieUp f = true →
      cal.val ∈ (s.chain f c).running → (∀ k, k < 3 → k ≠ cal.val → k ∈ (s.chain f c).done) →
    ∃ t, exec (.calibrationDone f c cal true db) s = .next t ∧ t.get (Reg.FRF.RXCH.CAL_VALID f c) = 1
      ∧ (cal = 0 → t.get (Reg.FRF.RXCH.IMAGE_DB f c) = db.toNat) ∧ cal.val ∉ (t.chain f c).running
      ∧ Frame [.air] [Reg.FRF.RXCH.CAL_VALID f c, Reg.FRF.RXCH.IMAGE_DB f c] [] s t)
  -- a calibration that misses its target sets CAL_FAIL and raises source 323 + 32f
  ∧ (∀ (s : State) (f : Fin 6) (c : Fin 4) (cal : Fin 3) (db : BitVec 8), s.dieUp f = true →
      cal.val ∈ (s.chain f c).running →
    ∃ t, exec (.calibrationDone f c cal false db) s = .next t ∧ t.get (Reg.FRF.RXCH.CAL_FAIL f c) = 1
      ∧ t.pends (323 + 32 * f.val)
      ∧ Frame (.air :: signalled) [Reg.FRF.RXCH.CAL_FAIL f c, Reg.FRF.RXCH.CAL_VALID f c] [Reg.ETH.PRIV_SENT, Reg.ETH.FP_DROP] s t)
  -- HCB_HOST_GO on a free, enabled master: the transaction starts and GO reads 1
  ∧ (∀ (s : State) (f : Fin 6) (v : BitVec 64), s.hostUp = true → s.dieUp f = true →
      (bitsAt v.toNat 5 5 + 1) % 8 = 0 → bitsAt v.toNat 63 1 = 1 → s.on (Reg.SEQ.HCB_HOST.GO f) = false →
      (s.hcb f (bitsAt v.toNat 0 2)).cur = none → (s.hcb f (bitsAt v.toNat 0 2)).seqWait = [] →
      s.on (Reg.SEQ.HCB_CFG.EN f (bitsAt v.toNat 0 2)) = true →
    ∃ t, exec (.hcbHostGo f v) s = .next t ∧ t.get (Reg.SEQ.HCB_HOST.GO f) = 1
      ∧ t.out = s.out ++ [.hcb f (bitsAt v.toNat 0 2) (bitsAt v.toNat 2 3) (bitsAt v.toNat 5 5 + 1)
          (bitsAt v.toNat 10 32 % 2 ^ (bitsAt v.toNat 5 5 + 1))]
      ∧ Frame [.air, .safe, .out] [Reg.SEQ.HCB_HOST.MASTER f, Reg.SEQ.HCB_HOST.CS f, Reg.SEQ.HCB_HOST.LEN_M1 f,
          Reg.SEQ.HCB_HOST.DATA f, Reg.SEQ.HCB_HOST.READ f, Reg.SEQ.HCB_HOST.GO f] [] s t)
  -- a length that is no multiple of 8 bits: an illegal value
  ∧ (∀ (s : State) (f : Fin 6) (v : BitVec 64), s.hostUp = true → s.dieUp f = true → (bitsAt v.toNat 5 5 + 1) % 8 ≠ 0 →
    ∃ t, exec (.hcbHostGo f v) s = .next t ∧ t.safe.fault.valid = true ∧ Frame signalled [] [Reg.ETH.PRIV_SENT, Reg.ETH.FP_DROP] s t)
  -- a write with GO while GO reads 1 is dropped
  ∧ (∀ (s : State) (f : Fin 6) (v : BitVec 64), s.hostUp = true → s.dieUp f = true →
      (bitsAt v.toNat 5 5 + 1) % 8 = 0 → bitsAt v.toNat 63 1 = 1 → s.on (Reg.SEQ.HCB_HOST.GO f) = true →
    ∃ t, exec (.hcbHostGo f v) s = .next t ∧ Frame [.safe] [] [] s t)
  -- HCB_DONE of a host read, nothing waiting: GO clears and the data stands in DATA
  ∧ (∀ (s : State) (f : Fin 6) (m : Fin 4) (miso : BitVec 32) (tx : HcbTx), s.dieUp f = true →
      (s.hcb f m).cur = some tx → tx.why = .host true → tx.len ≤ 32 → (s.hcb f m).seqWait = [] →
      (s.hcb f m).hostWait = none →
    ∃ t, exec (.hcbDone f m miso) s = .next t ∧ t.get (Reg.SEQ.HCB_HOST.GO f) = 0
      ∧ t.get (Reg.SEQ.HCB_HOST.DATA f) = miso.toNat % 2 ^ tx.len ∧ (t.hcb f m).cur = none
      ∧ Frame [.air] [Reg.SEQ.HCB_HOST.GO f, Reg.SEQ.HCB_HOST.DATA f] [] s t)
  -- with both waiting, a host transaction follows one of SEQ's
  ∧ (∀ (s : State) (f : Fin 6) (m : Fin 4) (miso : BitVec 32) (tx u w : HcbTx) (rest : List HcbTx), s.dieUp f = true →
      (s.hcb f m).cur = some tx → tx.why = .program → (s.seq f).st = .hcb → s.on (Reg.SEQ.HCB_CFG.EN f m) = true →
      (s.hcb f m).lastSeq = true → (s.hcb f m).seqWait = w :: rest → (s.hcb f m).hostWait = some u →
    ∃ t, exec (.hcbDone f m miso) s = .next t ∧ (t.hcb f m).cur = some u ∧ (t.hcb f m).seqWait = w :: rest
      ∧ Frame [.air, .out] [Reg.SEQ.STATUS.PC f] [] s t)

/-- Stepped gain, blanking and the coexistence pairs (R87, R88, R89, R90, R91, R92, R93). Where the spec leaves a
point of it open, the clause is the model's choice: log entries 37, 38, 39, 157, 181. -/
def Obligations.GainBlankingCoexistence : Prop :=
  -- GAIN_WINDOW: the third consecutive window above −6 dBFS steps a chain's gain down
  (∀ (s : State) (f : Fin 6) (c : Fin 4) (at' : Nat), s.dieUp f = true → s.on (Reg.FRF.RXCH.EN f c) = true →
      s.on (Reg.FRF.RXCH.AGC_HOLD f c) = false → (s.gain f (40 + c.val)).held = false →
      (s.gain f (40 + c.val)).steps = [] → 2 ≤ (s.gain f (40 + c.val)).high → 0 < (s.gain f (40 + c.val)).idx →
      (s.gain f (40 + c.val)).idx < 16 →
    ∃ t, exec (.gainWindow f ⟨40 + c.val, by omega⟩ .high [] at') s = .next t
      ∧ (t.gain f (40 + c.val)).idx = (s.gain f (40 + c.val)).idx - 1
      ∧ (t.gain f (40 + c.val)).high = 0 ∧ (t.gain f (40 + c.val)).low = 0
      ∧ t.get (Reg.FRF.RXCH.GAIN f c) = (s.gain f (40 + c.val)).idx - 1
      ∧ Frame [.air] [Reg.FRF.RXCH.GAIN f c] [] s t)
  -- while AGC_HOLD is set no step is taken
  ∧ (∀ (s : State) (f : Fin 6) (c : Fin 4) (peak : PeakClass) (at' : Nat), s.dieUp f = true → s.on (Reg.FRF.RXCH.EN f c) = true →
      s.on (Reg.FRF.RXCH.AGC_HOLD f c) = true →
    ∃ t, exec (.gainWindow f ⟨40 + c.val, by omega⟩ peak [] at') s = .next t
      ∧ (t.gain f (40 + c.val)).idx = (s.gain f (40 + c.val)).idx ∧ Frame [.air] [Reg.FRF.RXCH.GAIN f c] [] s t)
  -- GAIN_STEP_UP_APPLY of a chain whose streams are free
  ∧ (∀ (s : State) (f : Fin 6) (c : Fin 4) (n at' : Nat), s.dieUp f = true → s.agcHeld f (40 + c.val) = false →
      (s.gain f (40 + c.val)).waitUp = some n → (s.sourceBusy f (40 + c.val) = false ∨ 16 ≤ n) →
      (s.gain f (40 + c.val)).idx < 11 →
    ∃ t, exec (.gainStepUpApply f ⟨40 + c.val, by omega⟩ at') s = .next t
      ∧ (t.gain f (40 + c.val)).idx = (s.gain f (40 + c.val)).idx + 1 ∧ (t.gain f (40 + c.val)).waitUp = none
      ∧ Frame [.air] [Reg.FRF.RXCH.GAIN f c] [] s t)
  -- GAIN_SETTLE: SETTLE_US after its write a converter's step takes effect
  ∧ (∀ (s : State) (f : Fin 6) (k : Fin 40) (a idx at' : Nat) (rest : List GainStep), s.dieUp f = true →
      (s.gain f k).steps = ⟨a, idx, true⟩ :: rest →
    ∃ t, exec (.gainSettle f k at') s = .next t ∧ (t.gain f k).idx = idx ∧ (t.gain f k).steps = rest
      ∧ Frame [.air] [] [] s t)
  -- while a detection or context is active on its streams, each carries a marker of 6 dB an index at that sample
  ∧ (∀ (s : State) (f : Fin 6) (k : Fin 40) (i : Fin 512) (a idx at' : Nat) (rest : List GainStep), s.dieUp f = true →
      (s.gain f k).steps = ⟨a, idx, true⟩ :: rest → idx ≠ (s.gain f k).idx → s.ctxOnLink f k i = true →
      s.streamBusy f i = true →
    ∃ t, exec (.gainSettle f k at') s = .next t
      ∧ Tbl.getD t.air.markers (512 * f.val + i.val) [] = Tbl.getD s.air.markers (512 * f.val + i.val) []
          ++ [(at', 6 * ((idx : Int) - (s.gain f k).idx))])
  -- BLANK_ASSERT: the raw level, and what was detected on the input's contexts is suppressed
  ∧ (∀ (s : State) (f : Fin 6) (n : Fin 8), s.dieUp f = true → (8 * f.val + n.val) ∉ s.air.blank →
    ∃ t, exec (.blankAssert f n) s = .next t ∧ (8 * f.val + n.val) ∈ t.air.blank
      ∧ bitsAt (t.get (Reg.FRF.BLANK_CTL.LEVEL f)) n 1 = (1 + bitsAt (s.get (Reg.FRF.BLANK_CTL.POL f)) n 1) % 2
      ∧ (∀ e ∈ t.air.trackers, e.1 / 2048 = f.val → e.2.ctx < 512 →
          ¬ (s.on (Reg.LINK.STREAM.EN f e.2.ctx) = true ∧ s.get (Reg.LINK.STREAM.BLANK_GRP f e.2.ctx) = n.val))
      ∧ FrameIn [.air] [(dieOffset f 0x80080, dieOffset f 0x80084), (dieOffset f 0x140048, dieOffset f 0x14004C),
          (dieOffset f 0x180004, dieOffset f 0x180008)] [Reg.LINK.BLANK_CNT f n] s t)
  -- BLANK_DEASSERT
  ∧ (∀ (s : State) (f : Fin 6) (n : Fin 8), s.dieUp f = true → (8 * f.val + n.val) ∈ s.air.blank →
    ∃ t, exec (.blankDeassert f n) s = .next t ∧ (8 * f.val + n.val) ∉ t.air.blank
      ∧ Frame [.air] [Reg.FRF.BLANK_CTL.LEVEL f] [] s t)
  -- CXREQ_CHANGE: the grant is given while CXREQ is asserted and nothing holds it back
  ∧ (∀ (s : State) (f : Fin 6) (n : Fin 4), s.dieUp f = true → s.on (Reg.FRF.CX.EN f n) = true →
      s.on (Reg.FRF.CX.ROLE f n) = true → s.cx f n = ⟨false, false, false, false, []⟩ → s.cxSending f n = false →
    ∃ t, exec (.cxreqChange f n true) s = .next t ∧ t.cx f n = ⟨false, true, true, false, []⟩
      ∧ t.out = s.out ++ [.coex f n true] ∧ Frame [.air, .out] [] [] s t)
  -- CXREQ released: the grant is dropped, and CXREQ is heard again
  ∧ (∀ (s : State) (f : Fin 6) (n : Fin 4), s.dieUp f = true → s.on (Reg.FRF.CX.EN f n) = true →
      s.on (Reg.FRF.CX.ROLE f n) = true →
    ∃ t, exec (.cxreqChange f n false) s = .next t ∧ (t.cx f n).gnt = false ∧ (t.cx f n).ignore = false
      ∧ Frame [.air, .out] [] [] s t)
  -- CX_HOLD_EXPIRY: CXGNT is dropped, CXREQ ignored until seen inactive, source 325 + 32f
  ∧ (∀ (s : State) (f : Fin 6) (n : Fin 4), s.dieUp f = true → s.on (Reg.FRF.CX.EN f n) = true →
      s.on (Reg.FRF.CX.ROLE f n) = true → (s.cx f n).gnt = true →
    ∃ t, exec (.cxHoldExpiry f n) s = .next t ∧ (t.cx f n).gnt = false ∧ (t.cx f n).ignore = true
      ∧ t.pends (325 + 32 * f.val) ∧ Frame (.air :: signalled) [] [Reg.ETH.PRIV_SENT, Reg.ETH.FP_DROP] s t)
  -- CX_LISTEN_LEAD, as requester
  ∧ (∀ (s : State) (f : Fin 6) (n : Fin 4) (probe : Bool) (id : Nat), s.dieUp f = true →
      s.on (Reg.FRF.CX.EN f n) = true → s.on (Reg.FRF.CX.ROLE f n) = false → (s.cx f n).req = false →
    ∃ t, exec (.cxListenLead f n probe id) s = .next t ∧ (t.cx f n).req = true ∧ (probe, id) ∈ (t.cx f n).lead ∧ t.out = s.out ++ [.coex f n true]
      ∧ Frame [.air, .out] [] [] s t)
  -- a requester that has asserted CXREQ keeps it for a further attempt
  ∧ (∀ (s : State) (f : Fin 6) (n : Fin 4) (probe : Bool) (id : Nat), s.dieUp f = true →
      s.on (Reg.FRF.CX.EN f n) = true → s.on (Reg.FRF.CX.ROLE f n) = false → (s.cx f n).req = true →
    ∃ t, exec (.cxListenLead f n probe id) s = .next t ∧ (t.cx f n).req = true ∧ (probe, id) ∈ (t.cx f n).lead
      ∧ Frame [.air] [] [] s t)

/-- SEQ (R94, R95, R96, R97): what each instruction word does, and the writes of its program. Where the spec leaves a
point of it open, the clause is the model's choice: log entries 34, 35. -/
def Obligations.SequencerCommands : Prop :=
  -- SEQ_IDLE: the program ends, and a pending swap is made
  (∀ (s : State) (f : Fin 6), s.seqAt f 0 = true → s.get (Reg.SEQ.STATUS.ACTIVE_BANK f) ≤ 1 →
    ∃ t, exec (.seqIdle f) s = .next t ∧ (t.seq f).st = .idle
      ∧ t.get (Reg.SEQ.STATUS.ACTIVE_BANK f) = (if s.on (Reg.SEQ.STATUS.SWAP_PENDING f) = true
          then 1 - s.get (Reg.SEQ.STATUS.ACTIVE_BANK f) else s.get (Reg.SEQ.STATUS.ACTIVE_BANK f))
      ∧ t.on (Reg.SEQ.STATUS.SWAP_PENDING f) = false
      ∧ t.get (Reg.SEQ.CTL.SWAP f) = (if s.on (Reg.SEQ.STATUS.SWAP_PENDING f) = true then 0 else s.get (Reg.SEQ.CTL.SWAP f))
      ∧ Frame [.air] [Reg.SEQ.STATUS.ACTIVE_BANK f, Reg.SEQ.STATUS.SWAP_PENDING f, Reg.SEQ.CTL.SWAP f] [] s t)
  -- SEQ_WAIT: no wait where the offset has passed, else SEQ waits for it
  ∧ (∀ (s : State) (f : Fin 6), s.seqAt f 1 = true → s.offsetPassed f (bitsAt (s.seqCur f) 0 21) = true →
    ∃ t, exec (.seqWait f) s = .next t ∧ (t.seq f).st = .running
      ∧ t.get (Reg.SEQ.STATUS.PC f) = (s.get (Reg.SEQ.STATUS.PC f) + 1) % 1024
      ∧ Frame [.air] [Reg.SEQ.STATUS.PC f] [] s t)
  ∧ (∀ (s : State) (f : Fin 6), s.seqAt f 1 = true → s.offsetPassed f (bitsAt (s.seqCur f) 0 21) = false →
    ∃ t, exec (.seqWait f) s = .next t ∧ (t.seq f).st = .waiting (bitsAt (s.seqCur f) 0 21) ∧ Frame [.air] [] [] s t)
  -- SEQ_WAIT_REACHED
  ∧ (∀ (s : State) (f : Fin 6) (ofs : Nat), s.dieUp f = true → (s.seq f).st = .waiting ofs → s.offsetPassed f ofs = true →
    ∃ t, exec (.seqWaitReached f) s = .next t ∧ (t.seq f).st = .running
      ∧ t.get (Reg.SEQ.STATUS.PC f) = (s.get (Reg.SEQ.STATUS.PC f) + 1) % 1024
      ∧ Frame [.air] [Reg.SEQ.STATUS.PC f] [] s t)
  -- SEQ_HOP of a transmit chain: it retunes and SEQ stalls
  ∧ (∀ (s : State) (f : Fin 6), s.seqAt f 2 = true → 4 ≤ bitsAt (s.seqCur f) 57 3 →
    ∃ t, exec (.seqHop f) s = .next t ∧ (t.seq f).st = .hopping (bitsAt (s.seqCur f) 57 3)
      ∧ t.get (Reg.FRF.TXCH.FC f (bitsAt (s.seqCur f) 57 3 - 4)) = bitsAt (s.seqCur f) 0 15
      ∧ t.out = s.out ++ [.retune f (bitsAt (s.seqCur f) 57 3) (bitsAt (s.seqCur f) 0 15)]
      ∧ Frame [.air, .out] [Reg.FRF.TXCH.FC f (bitsAt (s.seqCur f) 57 3 - 4)] [] s t)
  -- SEQ_HOP of a receive chain: its samples stop and its demodulator contexts end with SOURCE_LOST
  ∧ (∀ (s : State) (f : Fin 6), s.seqAt f 2 = true → bitsAt (s.seqCur f) 57 3 < 4 →
    ∃ t, exec (.seqHop f) s = .next t ∧ (t.seq f).st = .hopping (bitsAt (s.seqCur f) 57 3)
      ∧ t.get (Reg.FRF.RXCH.FC f (bitsAt (s.seqCur f) 57 3)) = bitsAt (s.seqCur f) 0 15
      ∧ t.chainDelivers f (bitsAt (s.seqCur f) 57 3) = false
      ∧ (∀ e ∈ t.air.ctxs, e.1 / 4096 = f.val → e.2.ctx < 512 → s.ctxOnChain f (bitsAt (s.seqCur f) 57 3) e.2.ctx = false)
      ∧ FrameIn [.air, .out] [(dieOffset f (0x80000 + bitsAt (s.seqCur f) 57 3 * 0x10),
          dieOffset f (0x80004 + bitsAt (s.seqCur f) 57 3 * 0x10)), (dieOffset f 0x180004, dieOffset f 0x180008)]
          [Reg.DEMOD.SOURCE_LOST f] s t)
  -- SEQ_HOP_LOCK
  ∧ (∀ (s : State) (f : Fin 6) (c : Nat), s.dieUp f = true → (s.seq f).st = .hopping c →
    ∃ t, exec (.seqHopLock f) s = .next t ∧ (t.seq f).st = .running
      ∧ t.get (Reg.SEQ.STATUS.PC f) = (s.get (Reg.SEQ.STATUS.PC f) + 1) % 1024
      ∧ Frame [.air] [Reg.SEQ.STATUS.PC f] [] s t)
  -- SEQ_HOP_LOCK_TIMEOUT: FAULT, source 326 + 32f, the chain is off and the program continues
  ∧ (∀ (s : State) (f : Fin 6) (c : Nat), s.dieUp f = true → (s.seq f).st = .hopping c → 4 ≤ c → c < 6 →
    ∃ t, exec (.seqHopLockTimeout f) s = .next t ∧ (t.seq f).st = .running ∧ t.get (Reg.SEQ.STATUS.FAULT f) = 1
      ∧ t.on (Reg.FRF.TXCH.EN f (c - 4)) = false ∧ t.get (Reg.SEQ.STATUS.PC f) = (s.get (Reg.SEQ.STATUS.PC f) + 1) % 1024
      ∧ t.pends (326 + 32 * f.val)
      ∧ Frame (.air :: signalled) [Reg.SEQ.STATUS.FAULT f, Reg.SEQ.STATUS.PC f, Reg.FRF.TXCH.EN f (c - 4)]
          [Reg.ETH.PRIV_SENT, Reg.ETH.FP_DROP] s t)
  ∧ (∀ (s : State) (f : Fin 6) (c : Nat), s.dieUp f = true → (s.seq f).st = .hopping c → c < 4 →
    ∃ t, exec (.seqHopLockTimeout f) s = .next t ∧ t.get (Reg.SEQ.STATUS.FAULT f) = 1
      ∧ t.on (Reg.FRF.RXCH.EN f c) = false ∧ t.chainDelivers f c = false ∧ t.pends (326 + 32 * f.val))
  -- SEQ_HCB on a free, enabled master: the write goes out and SEQ stalls
  ∧ (∀ (s : State) (f : Fin 6), s.seqAt f 3 = true → s.hcb f (bitsAt (s.seqCur f) 58 2) = .init →
      s.on (Reg.SEQ.HCB_CFG.EN f (bitsAt (s.seqCur f) 58 2)) = true →
    ∃ t, exec (.seqHcb f) s = .next t ∧ (t.seq f).st = .hcb
      ∧ t.out = s.out ++ [.hcb f (bitsAt (s.seqCur f) 58 2) (bitsAt (s.seqCur f) 55 3) (bitsAt (s.seqCur f) 50 5 + 1)
          (bitsAt (s.seqCur f) 0 32 % 2 ^ (bitsAt (s.seqCur f) 50 5 + 1))]
      ∧ Frame [.air, .out] [] [] s t)
  -- SEQ_GAIN of an integrated chain: the index is set and held; AUTO releases it
  ∧ (∀ (s : State) (f : Fin 6) (at' : Nat), s.seqAt f 4 = true → 40 ≤ bitsAt (s.seqCur f) 54 6 → bitsAt (s.seqCur f) 53 1 = 0 →
    ∃ t, exec (.seqGain f at') s = .next t ∧ (t.gain f (bitsAt (s.seqCur f) 54 6)).idx = bitsAt (s.seqCur f) 0 4
      ∧ (t.gain f (bitsAt (s.seqCur f) 54 6)).held = true
      ∧ t.get (Reg.SEQ.STATUS.PC f) = (s.get (Reg.SEQ.STATUS.PC f) + 1) % 1024
      ∧ Frame [.air] [Reg.SEQ.STATUS.PC f, Reg.FRF.RXCH.GAIN f (bitsAt (s.seqCur f) 54 6 - 40)] [] s t)
  ∧ (∀ (s : State) (f : Fin 6) (at' : Nat), s.seqAt f 4 = true → bitsAt (s.seqCur f) 53 1 = 1 →
    ∃ t, exec (.seqGain f at') s = .next t ∧ (t.gain f (bitsAt (s.seqCur f) 54 6)).held = false
      ∧ (t.gain f (bitsAt (s.seqCur f) 54 6)).idx = (s.gain f (bitsAt (s.seqCur f) 54 6)).idx
      ∧ t.get (Reg.SEQ.STATUS.PC f) = (s.get (Reg.SEQ.STATUS.PC f) + 1) % 1024
      ∧ Frame [.air] [Reg.SEQ.STATUS.PC f, Reg.FRF.RXCH.GAIN f (bitsAt (s.seqCur f) 54 6 - 40)] [] s t)
  -- SEQ_CAL
  ∧ (∀ (s : State) (f : Fin 6), s.seqAt f 5 = true →
    ∃ t, exec (.seqCal f) s = .next t
      ∧ bitsAt (s.seqCur f) 56 2 ∈ (t.chain f (bitsAt (s.seqCur f) 58 2)).due
      ∧ t.get (Reg.SEQ.STATUS.PC f) = (s.get (Reg.SEQ.STATUS.PC f) + 1) % 1024
      ∧ Frame [.air] [Reg.SEQ.STATUS.PC f] [] s t)
  -- SEQ_EVENT: source 327 + 32f, the code in SEQ.STATUS
  ∧ (∀ (s : State) (f : Fin 6), s.seqAt f 6 = true →
    ∃ t, exec (.seqEvent f) s = .next t ∧ t.get (Reg.SEQ.STATUS.EVT_CODE f) = bitsAt (s.seqCur f) 0 8
      ∧ t.pends (327 + 32 * f.val) ∧ t.get (Reg.SEQ.STATUS.PC f) = (s.get (Reg.SEQ.STATUS.PC f) + 1) % 1024
      ∧ Frame (.air :: signalled) [Reg.SEQ.STATUS.EVT_CODE f, Reg.SEQ.STATUS.PC f] [Reg.ETH.PRIV_SENT, Reg.ETH.FP_DROP] s t)
  -- SEQ_BRANCH: to TARGET when MSC mod MODULUS equals RESIDUE, else to the next word
  ∧ (∀ (s : State) (f : Fin 6), s.seqAt f 7 = true →
    ∃ t, exec (.seqBranch f) s = .next t ∧ (t.seq f).st = .running
      ∧ t.get (Reg.SEQ.STATUS.PC f)
          = (if s.time.msc % bitsAt (s.seqCur f) 54 6 = bitsAt (s.seqCur f) 48 6 then bitsAt (s.seqCur f) 0 10
             else (s.get (Reg.SEQ.STATUS.PC f) + 1) % 1024)
      ∧ Frame [.air] [Reg.SEQ.STATUS.PC f] [] s t)
  -- SEQ_ILLEGAL: FAULT, source 326 + 32f, and SEQ goes to IDLE
  ∧ (∀ (s : State) (f : Fin 6), s.dieUp f = true → (s.seq f).st = .running → s.seqLegal f (s.seqCur f) = false →
    ∃ t, exec (.seqIllegal f) s = .next t ∧ t.get (Reg.SEQ.STATUS.FAULT f) = 1 ∧ (t.seq f).st = .idle
      ∧ t.pends (326 + 32 * f.val)
      ∧ Frame (.air :: signalled) [Reg.SEQ.STATUS.FAULT f, Reg.SEQ.STATUS.ACTIVE_BANK f, Reg.SEQ.STATUS.SWAP_PENDING f,
          Reg.SEQ.CTL.SWAP f]
          [Reg.ETH.PRIV_SENT, Reg.ETH.FP_DROP] s t)
  -- SEQ_PROG_WRITE: the word lands in the bank not active
  ∧ (∀ (s : State) (f : Fin 6) (p : Fin 1024) (v : BitVec 64), s.hostUp = true → s.dieUp f = true →
      s.on (Reg.SEQ.STATUS.SWAP_PENDING f) = false →
    ∃ t, exec (.seqProgWrite f p v) s = .next t ∧ t.get (Reg.SEQ.STATUS.LAST_WR f) = 0
      ∧ Tbl.getD (if s.on (Reg.SEQ.STATUS.ACTIVE_BANK f) = true then (t.seq f).bank0 else (t.seq f).bank1) p 0 = v.toNat
      ∧ (∀ q, t.seqWord f q = s.seqWord f q) ∧ Frame [.air, .safe] [Reg.SEQ.STATUS.LAST_WR f] [] s t)
  -- while a swap is pending the write is dropped and LAST_WR reports BUSY
  ∧ (∀ (s : State) (f : Fin 6) (p : Fin 1024) (v : BitVec 64), s.hostUp = true → s.dieUp f = true →
      s.on (Reg.SEQ.STATUS.SWAP_PENDING f) = true →
    ∃ t, exec (.seqProgWrite f p v) s = .next t ∧ t.get (Reg.SEQ.STATUS.LAST_WR f) = 0x1B
      ∧ Frame [.safe] [Reg.SEQ.STATUS.LAST_WR f] [] s t)
  -- SEQ_SWAP away from the idle point: the swap is pending, and the program under way keeps its bank
  ∧ (∀ (s : State) (f : Fin 6) (v : BitVec 32), s.hostUp = true → s.dieUp f = true → bitsAt v.toNat 1 1 = 1 →
      (s.seq f).st ≠ .idle →
    ∃ t, exec (.seqSwap f v) s = .next t ∧ t.get (Reg.SEQ.STATUS.SWAP_PENDING f) = 1 ∧ t.get (Reg.SEQ.CTL.SWAP f) = 1
      ∧ t.get (Reg.SEQ.CTL.RUN f) = bitsAt v.toNat 0 1
      ∧ Frame [.safe] [Reg.SEQ.CTL.RUN f, Reg.SEQ.CTL.SWAP f, Reg.SEQ.STATUS.SWAP_PENDING f] [] s t)
  -- SEQ_SWAP at the idle point: the swap is made at once
  ∧ (∀ (s : State) (f : Fin 6) (v : BitVec 32), s.hostUp = true → s.dieUp f = true → bitsAt v.toNat 1 1 = 1 →
      (s.seq f).st = .idle → s.get (Reg.SEQ.STATUS.ACTIVE_BANK f) ≤ 1 →
    ∃ t, exec (.seqSwap f v) s = .next t ∧ t.get (Reg.SEQ.STATUS.SWAP_PENDING f) = 0 ∧ t.get (Reg.SEQ.CTL.SWAP f) = 0
      ∧ t.get (Reg.SEQ.STATUS.ACTIVE_BANK f) = 1 - s.get (Reg.SEQ.STATUS.ACTIVE_BANK f)
      ∧ Frame [.safe] [Reg.SEQ.CTL.RUN f, Reg.SEQ.CTL.SWAP f, Reg.SEQ.STATUS.SWAP_PENDING f,
          Reg.SEQ.STATUS.ACTIVE_BANK f] [] s t)

/-- The Steep search (R127, R130 to R135, R137 to R142): candidates and trackers, sync matches, timeouts and the
register commands of SPARGE and STEEP. Where the spec leaves a point of it open, the clause is the model's choice: log
entries 40, 41, 43, 44, 178, 179. -/
def Obligations.SearchCommands : Prop :=
  -- STEEP_CANDIDATE with a tracker free: it takes one, and CANDIDATES of its rate counts it
  (∀ (s : State) (f : Fin 6) (c : Candidate) (rhos : List (Fin 2048 × Frac)) (n : Nat), s.mayStart f c = true →
      s.crosses f c = true → ((s.takeRhos f rhos).trackersOn f).length < 2048 →
      n = (if c.sameCycle then s.air.born else s.air.born + 1) →
    ∃ t k, exec (.steepCandidate f c rhos) s = .next t ∧ k / 2048 = f.val
      ∧ Tbl.has (s.takeRhos f rhos).air.trackers k = false
      ∧ t.air = { s.air with born := n, trackers := (Tbl.put (s.takeRhos f rhos).air.trackers k (trackerOf c n)) }
      ∧ t.stat (Reg.STEEP.CANDIDATES f c.rate) = (s.stat (Reg.STEEP.CANDIDATES f c.rate) + 1) % 2 ^ 32
      ∧ t.get (Reg.STEEP.TRACK.IN_USE f) = ((s.takeRhos f rhos).trackersOn f).length + 1
      ∧ Frame [.air] [Reg.STEEP.TRACK.IN_USE f, Reg.STEEP.TRACK.PEAK f] [Reg.STEEP.CANDIDATES f c.rate] s t)
  -- with none free: the unfrozen tracker with the lowest ρ as last computed gives way to a higher one, else the candidate
  -- is dropped; either way TRACK_FULL is counted and source 328 + 32f fires
  ∧ (∀ (s : State) (f : Fin 6) (c : Candidate) (rhos : List (Fin 2048 × Frac)) (n : Nat), s.mayStart f c = true →
      s.crosses f c = true → 2048 ≤ ((s.takeRhos f rhos).trackersOn f).length → 328 + 32 * f.val ∉ s.evt.disarmed →
      n = (if c.sameCycle then s.air.born else s.air.born + 1) →
    ∃ t, exec (.steepCandidate f c rhos) s = .next t ∧ t.pends (328 + 32 * f.val)
      ∧ t.stat (Reg.STEEP.TRACK_FULL f) = (s.stat (Reg.STEEP.TRACK_FULL f) + 1) % 2 ^ 32
      ∧ t.air.trackers = (match (s.takeRhos f rhos).weakest f with
          | some (k, old) => if old.rho.lt c.rho then Tbl.put (s.takeRhos f rhos).air.trackers k (trackerOf c n)
              else (s.takeRhos f rhos).air.trackers
          | none => (s.takeRhos f rhos).air.trackers)
      ∧ Frame (.air :: signalled) [] [Reg.STEEP.CANDIDATES f c.rate, Reg.STEEP.TRACK_FULL f, Reg.ETH.PRIV_SENT, Reg.ETH.FP_DROP] s t)
  -- the ρ of an unfrozen tracker is the one it last computed; a frozen one keeps its own
  ∧ (∀ (s : State) (f : Nat) (k : Fin 2048) (rho : Frac) (x : Tracker),
      Tbl.find? s.air.trackers (2048 * f + k) = some x →
    ∃ t, s.takeRhos f [(k, rho)] = t
      ∧ Tbl.find? t.air.trackers (2048 * f + k) = some (if x.frozen then x else { x with rho := rho }))
  -- no candidate where one of the conditions of R130 does not hold, or where none may start
  ∧ (∀ (s : State) (f : Fin 6) (c : Candidate) (rhos : List (Fin 2048 × Frac)),
      (s.mayStart f c = false ∨ s.crosses f c = false) →
    exec (.steepCandidate f c rhos) s = .next s)
  -- the tracker displaced is unfrozen and none unfrozen has a lower ρ
  ∧ (∀ (s : State) (f k : Nat) (x : Tracker), (∀ e ∈ s.trackersOn f, 0 < e.2.rho.den) → s.weakest f = some (k, x) →
    (k, x) ∈ s.trackersOn f ∧ x.frozen = false ∧ ∀ e ∈ s.trackersOn f, e.2.frozen = false → x.rho.le e.2.rho = true)
  -- TRACKER_FREEZE: the tracker holds its offset, ρ and sample phase from then on, and its phase reference
  ∧ (∀ (s : State) (f : Fin 6) (t : Fin 2048) (o : Int) (rho : Frac) (phase : Fin 8) (before : List (Int × Int)) (x : Tracker),
      Tbl.find? s.air.trackers (2048 * f.val + t) = some x → s.dieUp f = true → x.frozen = false →
    ∃ t', exec (.trackerFreeze f t o rho phase before) s = .next t'
      ∧ t'.air = { s.air with trackers := (Tbl.put s.air.trackers (2048 * f.val + t)
          { x with frozen := true, frozen10Hz := o, rho := rho, phase := phase, phaseRef := sumVec (before.take 8) }) }
      ∧ Frame [.air] [] [] s t')
  -- SYNC_MATCH with a context free: the trackers that meet its channel go, and a context takes the tracker over
  ∧ (∀ (s : State) (f : Fin 6) (fclk : Nat) (h : SyncHit) (x : Tracker) (n : Nat) (nf : NetForce),
      s.hitNet f h = some (x, n, nf) → s.dieUp f = true → (s.ctxsOn f).length < 4096 →
    ∃ t d, exec (.syncMatch f h.t h.decided fclk h.peak []) s = .next t
      ∧ (∀ e, e ∈ t.air.trackers ↔ e ∈ s.air.trackers ∧ e.1 ≠ 2048 * f.val + h.t
          ∧ ¬ (e.1 / 2048 = f.val ∧ e.2.ctx = x.ctx ∧ e.2.chan = x.chan))
      ∧ d / 4096 = f.val ∧ Tbl.has s.air.ctxs d = false
      ∧ t.air.ctxs = Tbl.put s.air.ctxs d (newCtx x s.air.nextSerial n nf (s.syncInstant f x fclk h.peak.pos)
          (stamp64 ((s.syncInstant f x fclk h.peak.pos).toNat / 1000000000) ((s.syncInstant f x fclk h.peak.pos).toNat % 1000000000)
            (s.dieQuality f)) (s.get (Reg.DEMOD.GRID.BASE f x.ctx) + x.chan)
          (Tbl.getD s.air.markers (512 * f.val + x.ctx) []).length h.peak.power (s.reference f x.ctx x.w x.chan))
      ∧ t.get (Reg.DEMOD.CTX.IN_USE f) = (s.ctxsOn f).length + 1
      ∧ Frame [.air] [Reg.STEEP.TRACK.IN_USE f, Reg.STEEP.TRACK.PEAK f, Reg.DEMOD.CTX.IN_USE f, Reg.DEMOD.CTX.PEAK f]
          (Reg.STEEP.SYNC_MATCH f x.rate :: s.air.trackers.map fun e => Reg.STEEP.CANCELLED f e.2.rate) s t)
  -- SYNC_MATCH with none free: the frame is dropped, CTX_FULL counts and source 331 + 32f fires
  ∧ (∀ (s : State) (f : Fin 6) (fclk : Nat) (h : SyncHit) (x : Tracker) (n : Nat) (nf : NetForce),
      s.hitNet f h = some (x, n, nf) → s.dieUp f = true → 4096 ≤ (s.ctxsOn f).length →
      331 + 32 * f.val ∉ s.evt.disarmed → (∀ e ∈ s.air.trackers, e.2.rate < 5) →
    ∃ t, exec (.syncMatch f h.t h.decided fclk h.peak []) s = .next t ∧ t.pends (331 + 32 * f.val) ∧ t.air.ctxs = s.air.ctxs
      ∧ Tbl.has t.air.trackers (2048 * f.val + h.t) = false
      ∧ t.stat (Reg.DEMOD.CTX_FULL f) = (s.stat (Reg.DEMOD.CTX_FULL f) + 1) % 2 ^ 32)
  -- of two matches on one channel in one FCLK cycle the one with the larger correlated power is kept
  ∧ (∀ (s : State) (f : Fin 6) (fclk : Nat) (a b : SyncHit) (x y : Tracker) (n m : Nat × NetForce),
      s.hitNet f a = some (x, n) → s.hitNet f b = some (y, m) → y.ctx = x.ctx → y.chan = x.chan →
      (∀ e ∈ s.air.trackers, e.1 = 2048 * f.val + b.t → e.2 = y) → b.peak.power.lt a.peak.power = true →
    exec (.syncMatch f b.t b.decided fclk b.peak [a]) s = exec (.syncMatch f a.t a.decided fclk a.peak []) s)
  -- no network matches, or no symbol has been decided since the freeze: the tracker goes on
  ∧ (∀ (s : State) (f : Fin 6) (fclk : Nat) (h : SyncHit), s.hitNet f h = none →
    exec (.syncMatch f h.t h.decided fclk h.peak []) s = .next s)
  -- a hit stands for a frozen tracker that has decided a symbol and whose last 32 decisions match a network
  ∧ (∀ (s : State) (f : Nat) (h : SyncHit) (x : Tracker) (n : Nat) (nf : NetForce), s.hitNet f h = some (x, n, nf) →
    Tbl.find? s.air.trackers (2048 * f + h.t) = some x ∧ x.frozen = true ∧ 1 ≤ h.peak.since
      ∧ s.matchNet x (lastDecisions x.rate h.peak.since h.decided.toNat) = some (n, nf))
  -- decisions before the freeze stand as the preamble's: 0 at N4, N16 and N64
  ∧ (∀ (rate since d : Nat), 2 ≤ rate → since < 32 → lastDecisions rate since d = d % 2 ^ since)
  -- a network matches when its code set is followed and its sync word is within SYNC_ERR; the lowest is taken
  ∧ (∀ (s : State) (x : Tracker) (w n : Nat) (nf : NetForce), s.matchNet x w = some (n, nf) →
    (n, nf) ∈ s.nets ∧ (2 ≤ x.rate → nf.codeSet = x.codeSet) ∧ hamming32 w nf.sync ≤ nf.syncErr)
  -- SYNC_TIMEOUT: the tracker is freed and counted
  ∧ (∀ (s : State) (f : Fin 6) (k : Fin 2048) (x : Tracker), Tbl.find? s.air.trackers (2048 * f.val + k) = some x →
      s.dieUp f = true →
    ∃ t, exec (.syncTimeout f k) s = .next t
      ∧ t.air = { s.air with trackers := Tbl.erase s.air.trackers (2048 * f.val + k), spoilt := t.air.spoilt }
      ∧ t.stat (Reg.STEEP.SYNC_TIMEOUT f x.rate) = (s.stat (Reg.STEEP.SYNC_TIMEOUT f x.rate) + 1) % 2 ^ 32
      ∧ Frame [.air] [Reg.STEEP.TRACK.IN_USE f, Reg.STEEP.TRACK.PEAK f] [Reg.STEEP.SYNC_TIMEOUT f x.rate] s t)
  -- TRACK_READ and DEMOD_CTX_READ: the count and its peak are answered, PEAK is reloaded, the event re-armed
  ∧ (∀ (s : State) (func : Fin 2) (f : Fin 6), s.functionUp func = true → s.dieUp f = true →
    ∃ t, exec (.trackRead func f) s = .next t
      ∧ t.get (Reg.STEEP.TRACK.PEAK f) = s.get (Reg.STEEP.TRACK.IN_USE f) % 4096
      ∧ 328 + 32 * f.val ∉ t.evt.disarmed
      ∧ t.out = s.out ++ [.readDone func .bar0 (dieOffset f 0x140048)
          (s.get (Reg.STEEP.TRACK.IN_USE f) + s.get (Reg.STEEP.TRACK.PEAK f) * 2 ^ 12)]
      ∧ Frame [.evt, .safe, .out] [Reg.STEEP.TRACK.PEAK f] [] s t)
  ∧ (∀ (s : State) (func : Fin 2) (f : Fin 6), s.functionUp func = true → s.dieUp f = true →
    ∃ t, exec (.demodCtxRead func f) s = .next t
      ∧ t.get (Reg.DEMOD.CTX.PEAK f) = s.get (Reg.DEMOD.CTX.IN_USE f) % 8192
      ∧ 331 + 32 * f.val ∉ t.evt.disarmed
      ∧ t.out = s.out ++ [.readDone func .bar0 (dieOffset f 0x180004)
          (s.get (Reg.DEMOD.CTX.IN_USE f) + s.get (Reg.DEMOD.CTX.PEAK f) * 2 ^ 13)]
      ∧ Frame [.evt, .safe, .out] [Reg.DEMOD.CTX.PEAK f] [] s t)
  -- W_EN_WRITE within R127 and R128
  ∧ (∀ (s : State) (f : Fin 6) (i : Fin 512) (v : BitVec 32), s.hostUp = true → s.dieUp f = true →
      -12 ≤ signedOf 6 (bitsAt v.toNat 1 6) → signedOf 6 (bitsAt v.toNat 1 6) ≤ 24 →
      (bitsAt v.toNat 0 1 = 1 → s.wEnabled f i = false → s.wCount f < wLimit (s.capLevel f)) →
    ∃ t, exec (.wEnWrite f i v) s = .next t ∧ t.get (Reg.SPARGE.STREAM.W_EN f i) = bitsAt v.toNat 0 1
      ∧ t.get (Reg.SPARGE.STREAM.DGAIN f i) = bitsAt v.toNat 1 6
      ∧ t.get (Reg.SPARGE.STATUS.W_CONTEXTS f) = t.wCount f % 512
      ∧ Frame (.air :: signalled) [Reg.SPARGE.STREAM.W_EN f i, Reg.SPARGE.STREAM.DGAIN f i, Reg.SPARGE.STATUS.W_CONTEXTS f,
          Reg.SPARGE.STATUS.N_CHANNELS f] alarmWords s t)
  -- a digital gain outside −12 to 24 dB, or one W context more than the level allows: an illegal value
  ∧ (∀ (s : State) (f : Fin 6) (i : Fin 512) (v : BitVec 32), s.hostUp = true → s.dieUp f = true →
      (signedOf 6 (bitsAt v.toNat 1 6) < -12 ∨ 24 < signedOf 6 (bitsAt v.toNat 1 6)
        ∨ (bitsAt v.toNat 0 1 = 1 ∧ s.wEnabled f i = false ∧ wLimit (s.capLevel f) ≤ s.wCount f)) →
    ∃ t, exec (.wEnWrite f i v) s = .next t ∧ t.safe.fault.valid = true ∧ Frame signalled [] [Reg.ETH.PRIV_SENT, Reg.ETH.FP_DROP] s t)

/-- Noise floors and channel powers (R137 to R140). Where the spec leaves a point of it open, the clause is the
model's choice: log entries 41, 42, 175, 176, 177. -/
def Obligations.NoiseFloors : Prop :=
  -- FLOOR_WINDOW of a channel that is not idle leaves its floor; a new window begins with nothing that spoils it
  (∀ (s : State) (f : Fin 6) (i : Fin 512) (c : ChanPower), s.dieUp f = true → s.on (Reg.LINK.STREAM.EN f i) = true →
      s.windowIdle f i c = false →
    exec (.floorWindow f i [c]) s
      = .next { s with air := { s.air with spoilt := Tbl.erase s.air.spoilt (512 * f.val + i) } })
  -- an idle window of power p on a valid floor: P := P + (p − P) / 256
  ∧ (∀ (s : State) (f : Fin 6) (i : Fin 512) (c : ChanPower), s.dieUp f = true → s.on (Reg.LINK.STREAM.EN f i) = true →
      s.windowIdle f i c = true → (s.floorOf f i c.w c.chan).valid = true →
    ∃ t, exec (.floorWindow f i [c]) s = .next t ∧ (t.floorOf f i c.w c.chan).valid = true
      ∧ (t.floorOf f i c.w c.chan).power.num * (256 * (s.floorOf f i c.w c.chan).power.den * c.power.den)
          = (255 * (s.floorOf f i c.w c.chan).power.num * c.power.den
              + c.power.num * (s.floorOf f i c.w c.chan).power.den) * (t.floorOf f i c.w c.chan).power.den
      ∧ t.air = { s.air with floors := Tbl.put s.air.floors (chanKey f i c.w c.chan) (t.floorOf f i c.w c.chan),
                             spoilt := Tbl.erase s.air.spoilt (512 * f.val + i) }
      ∧ Frame [.air] [] [] s t)
  -- idle windows 1 to 255 are held toward the first value
  ∧ (∀ (s : State) (f : Fin 6) (i : Fin 512) (c : ChanPower), s.dieUp f = true → s.on (Reg.LINK.STREAM.EN f i) = true →
      s.windowIdle f i c = true → (s.floorOf f i c.w c.chan).valid = false →
      (s.floorOf f i c.w c.chan).held.length < 255 →
    ∃ t, exec (.floorWindow f i [c]) s = .next t ∧ (t.floorOf f i c.w c.chan).valid = false
      ∧ (t.floorOf f i c.w c.chan).idle = (s.floorOf f i c.w c.chan).held.length + 1
      ∧ (t.floorOf f i c.w c.chan).held = (s.floorOf f i c.w c.chan).held ++ [c.power]
      ∧ t.air = { s.air with floors := Tbl.put s.air.floors (chanKey f i c.w c.chan) (t.floorOf f i c.w c.chan),
                             spoilt := Tbl.erase s.air.spoilt (512 * f.val + i) }
      ∧ Frame [.air] [] [] s t)
  -- the 256th makes the floor valid: the mean of the 128 lowest, raised by 0.25 dB on an N channel and 0.17 dB on a W one
  ∧ (∀ (s : State) (f : Fin 6) (i : Fin 512) (c : ChanPower), s.dieUp f = true → s.on (Reg.LINK.STREAM.EN f i) = true →
      s.windowIdle f i c = true → (s.floorOf f i c.w c.chan).valid = false →
      (s.floorOf f i c.w c.chan).held.length = 255 →
    ∃ t, exec (.floorWindow f i [c]) s = .next t
      ∧ t.floorOf f i c.w c.chan = ⟨true, (meanLowest ((s.floorOf f i c.w c.chan).held ++ [c.power])).mul
          (if c.w then decade 1000 17 else decade 40 1), 256, []⟩
      ∧ (f.val ∉ s.air.floorsTold → t.floorsValid f = true → t.pends (329 + 32 * f.val))
      ∧ Frame (.air :: signalled) [] [Reg.ETH.PRIV_SENT, Reg.ETH.FP_DROP] s t)
  -- the windows of several channels, one after the other
  ∧ (∀ (s : State) (f : Fin 6) (i : Fin 512) (c : ChanPower) (l : List ChanPower), s.dieUp f = true →
      s.on (Reg.LINK.STREAM.EN f i) = true →
    exec (.floorWindow f i (c :: l)) s = exec (.floorWindow f i l) (s.floorWindow f i c))
  -- RST_FLOORS: every floor of the die returns to 0x8000 and the event may come again; without it only EN is written
  ∧ (∀ (s : State) (f : Fin 6) (v : BitVec 32), s.hostUp = true → s.dieUp f = true → bitsAt v.toNat 1 1 = 1 →
    ∃ t, exec (.rstFloors f v) s = .next t ∧ t.get (Reg.STEEP.CTL.EN f) = bitsAt v.toNat 0 1
      ∧ (∀ i w k, i < 512 → k < 256 → t.floorOf f i w k = .init ∧ ∀ g, g ≠ f.val → t.floorOf g i w k = s.floorOf g i w k)
      ∧ f.val ∉ t.air.floorsTold ∧ t.air = { s.air with floors := t.air.floors, floorsTold := t.air.floorsTold }
      ∧ Frame [.air, .safe] [Reg.STEEP.CTL.EN f] [] s t)
  ∧ (∀ (s : State) (f : Fin 6) (v : BitVec 32), s.hostUp = true → s.dieUp f = true → bitsAt v.toNat 1 1 = 0 →
    ∃ t, exec (.rstFloors f v) s = .next t ∧ t.get (Reg.STEEP.CTL.EN f) = bitsAt v.toNat 0 1
      ∧ Frame [.safe] [Reg.STEEP.CTL.EN f] [] s t)
  -- CHANNEL_POWER_UPDATE: the mean power of each existing channel is kept for listening
  ∧ (∀ (s : State) (f : Fin 6) (i : Fin 512) (l : List ChanPower), s.dieUp f = true →
      s.on (Reg.LINK.STREAM.EN f i) = true →
    ∃ t, exec (.channelPowerUpdate f i l) s = .next t ∧ t.air = { s.air with powers := t.air.powers }
      ∧ (∀ c, l.getLast? = some c → s.channelExists f i c.w c.chan = true →
          Tbl.find? t.air.powers (chanKey f i c.w c.chan) = some c.power)
      ∧ (∀ key, (∀ c ∈ l, chanKey f i c.w c.chan ≠ key) → Tbl.find? t.air.powers key = Tbl.find? s.air.powers key)
      ∧ Frame [.air] [] [] s t)
  -- the reference of the power tests: the floor, or START_THR where the floor reads 0x8000
  ∧ (∀ (s : State) (f i k : Nat) (w : Bool),
    ((s.floorOf f i w k).valid = false → s.reference f i w k = signedOf 16 (s.get (Reg.STEEP.START_THR.THR f)))
      ∧ ((s.floorOf f i w k).valid = true → s.reference f i w k = floorCode (s.floorOf f i w k).power))
  -- the power test: above the floor itself, or above START_THR while the floor is not valid
  ∧ (∀ (s : State) (f i k : Nat) (w : Bool) (thr above : Int) (p : Frac),
    ((s.floorOf f i w k).valid = true →
        s.powerOver f i w k thr above p = powGe 40 (fracOver p (s.floorOf f i w k).power) above)
      ∧ ((s.floorOf f i w k).valid = false → s.powerOver f i w k thr above p = powGe 40 p (thr + above)))

/-- Demodulator contexts (R111, R143 to R149): a symbol's LLR, the trellis steps, and what a traceback decides: a
check group, a segment, or the last segment with the verdict and the frame record. Where the spec leaves a point of it
open, the clause is the model's choice: log entries 45, 46, 47, 48, 156. -/
def Obligations.DemodulatorCommands : Prop :=
  -- DEMOD_SYMBOL: one LLR more, within ±31, within one step of 2a Re(ỹ) / σ² where not saturated, ỹ being the despread
  -- symbol turned by the phase reference; 0 and ERASED where the symbol is wholly erased
  (∀ (s : State) (f : Fin 6) (d : Fin 4096) (sym : SymbolIn) (c : DemodCtx) (l : List (Nat × Int)) (y : Int × Int)
      (sg : Frac), Instr.wf (.demodSymbol f d sym) = true → s.ctx? f d = some c → s.dieUp f = true →
      s.delivers f c.ctx = true → c.wants = true → sym.chips.length = spreadOf c.rate →
      l = c.marked (Tbl.getD s.air.markers (512 * f.val + c.ctx) []) →
      y = despread c.rate c.codeSet 0 (scaleChips l (s.chipSamples f c.ctx c.w) sym.first sym.chips) sym.erased →
      sg = s.sigma2 f c (Tbl.getD s.air.markers (512 * f.val + c.ctx) []) sym.first →
    ∃ t c' lam, exec (.demodSymbol f d sym) s = .next t
      ∧ t.air = { s.air with ctxs := Tbl.put s.air.ctxs (4096 * f.val + d) c' }
      ∧ c' = { c with llrs := c.llrs ++ [lam], symbols := c.symbols + 1, last := sym.first, recent := c'.recent, reals := c'.reals, phaseRef := c'.phaseRef, phase := c'.phase, energy := c'.energy, snrSum := c'.snrSum }
      ∧ c'.reals = ((turned y c.phaseRef).natAbs :: c.reals).take 8
      ∧ ((l.any fun m => decide (c.last < m.1) && decide (m.1 ≤ sym.first)) = true → c'.recent.length = 1)
      ∧ (sumVec c'.recent ≠ (0, 0) → c'.phaseRef = sumVec c'.recent)
      ∧ ((c.symbols + 1) % trackEvery c.rate ≠ 0 → c'.phase = c.phase)
      ∧ -31 ≤ lam ∧ lam ≤ 31
      ∧ (sym.erased.all (· = true) = true →
          lam = 0 ∧ t.stat (Reg.DEMOD.ERASED f) = (s.stat (Reg.DEMOD.ERASED f) + 1) % 2 ^ 32)
      ∧ (sym.erased.all (· = true) = false → t.stat (Reg.DEMOD.ERASED f) = s.stat (Reg.DEMOD.ERASED f))
      ∧ (sym.erased.all (· = true) = false → 0 < sg.num → lam ≠ 31 → lam ≠ -31 →
          8 * turned y c.phaseRef * ((c'.reals.foldl (· + ·) 0 * sg.den : Nat) : Int)
              - ((c'.reals.length * sg.num : Nat) : Int) < lam * ((c'.reals.length * sg.num : Nat) : Int)
            ∧ lam * ((c'.reals.length * sg.num : Nat) : Int)
              < 8 * turned y c.phaseRef * ((c'.reals.foldl (· + ·) 0 * sg.den : Nat) : Int)
                + ((c'.reals.length * sg.num : Nat) : Int))
      ∧ Frame [.air, .free] [] [Reg.DEMOD.ERASED f] s t)
  -- TRELLIS_STEP: 8 information bits, or what is left to the tail, as soon as their coded bits are there
  ∧ (∀ (s : State) (f : Fin 6) (d : Fin 4096) (c : DemodCtx), s.ctx? f d = some c → s.dieUp f = true → 0 < c.nextStep →
      2 * (c.steps + c.nextStep) ≤ c.llrs.length →
    ∃ t c', exec (.trellisStep f d) s = .next t
      ∧ t.air = { s.air with ctxs := Tbl.put s.air.ctxs (4096 * f.val + d) c' }
      ∧ c' = { c with metrics := c'.metrics, decisions := c'.decisions, steps := c.steps + c.nextStep, best := c'.best }
      ∧ c.nextStep ≤ 8 ∧ (∀ n, c.total? = some n → c'.steps ≤ n)
      ∧ c'.metrics.length = 64 ∧ c'.decisions.length = c.decisions.length + c.nextStep
      ∧ (keepsBest c'.steps = false → c'.best = c.best)
      ∧ (keepsBest c'.steps = true → ∃ b, c'.best = (c'.steps, b) :: c.best
          ∧ ∀ i, i < 64 → c'.metrics.getD i 0 ≤ c'.metrics.getD b 0)
      ∧ Frame [.air, .free] [] [] s t)
  -- each information bit keeps, for every state, the better of its two predecessors' paths
  ∧ (∀ (c : DemodCtx) (free ns : Nat), ns < 64 →
    (c.advance free 1).metrics.getD ns 0
      = max (c.metrics.getD (2 * ns % 64) 0
            + branch (ns / 32 * 64 + 2 * ns % 64) (c.llrs.getD (2 * c.steps) 0) (c.llrs.getD (2 * c.steps + 1) 0))
          (c.metrics.getD (2 * ns % 64 + 1) 0
            + branch (ns / 32 * 64 + 2 * ns % 64 + 1) (c.llrs.getD (2 * c.steps) 0) (c.llrs.getD (2 * c.steps + 1) 0)))
  -- nothing to advance yet
  ∧ (∀ (s : State) (f : Fin 6) (d : Fin 4096) (c : DemodCtx), s.ctx? f d = some c →
      c.llrs.length < 2 * (c.steps + c.nextStep) → exec (.trellisStep f d) s = .next s)
  -- TRACEBACK of a check group that passes: the checks go on
  ∧ (∀ (s : State) (f : Fin 6) (d : Fin 4096) (late : Bool) (c c' : DemodCtx) (start : Nat × Nat), s.ctx? f d = some c → s.dieUp f = true →
      c.checks < 3 → c.traceAt (groupAt c.checks) = some start →
      c' = c.decide (match c.total? with
        | some n => min (groupEnd c.checks) n
        | none => groupEnd c.checks) start → c'.check = none →
    ∃ t, exec (.traceback f d late) s = .next t
      ∧ t.air = { s.air with ctxs := Tbl.put s.air.ctxs (4096 * f.val + d) { c' with checks := c'.checks + 1 } }
      ∧ Frame [.air] [] [] s t)
  -- of a check group that fails: the frame ends there with its statistic, the context is free, nothing is sent up
  ∧ (∀ (s : State) (f : Fin 6) (d : Fin 4096) (late : Bool) (c c' : DemodCtx) (start : Nat × Nat) (st : Status),
      s.ctx? f d = some c → s.dieUp f = true → c.checks < 3 → c.traceAt (groupAt c.checks) = some start →
      c' = c.decide (match c.total? with
        | some n => min (groupEnd c.checks) n
        | none => groupEnd c.checks) start → c'.check = some st →
    ∃ t, exec (.traceback f d late) s = .next t ∧ t.air = { s.air with ctxs := Tbl.erase s.air.ctxs (4096 * f.val + d), spoilt := t.air.spoilt }
      ∧ t.stat (demodStat f st) = (s.stat (demodStat f st) + 1) % 2 ^ 32
      ∧ t.get (Reg.DEMOD.CTX.IN_USE f) = (t.ctxsOn f).length % 2 ^ 13
      ∧ Frame [.air] [Reg.DEMOD.CTX.IN_USE f, Reg.DEMOD.CTX.PEAK f] [demodStat f st] s t)
  -- what the checks of R111 end a frame with
  ∧ (∀ (c : DemodCtx) (st : Status), c.check = some st →
    st = .decodeFail ∨ st = .badLength ∨ st = .lengthBeyondBuffer ∨ st = .badField ∨ st = .badAddress)
  -- a segment that is not the last: its message goes up
  ∧ (∀ (s : State) (f : Fin 6) (d : Fin 4096) (late : Bool) (c c' : DemodCtx) (n : Nat) (start : Nat × Nat), s.ctx? f d = some c →
      s.dieUp f = true → c.checks = 3 → c.segmentDue = some (n, false, start) → c' = c.decide n start →
    ∃ t, exec (.traceback f d late) s = .next t ∧ n = 256 * (c.sent + 1) ∧ min (n + 48) (codedBits c.len) ≤ c.steps
      ∧ t.air = { s.air with up := Tbl.put s.air.up f (Tbl.getD s.air.up f [] ++ [c'.segMsg f]),
                             ctxs := Tbl.put s.air.ctxs (4096 * f.val + d) { c' with sent := c'.sent + 1 } }
      ∧ Frame [.air] [] [] s t)
  -- the last, which needs no bits beyond the tail: its message and the frame record go up, the verdict is counted, and the context is free
  ∧ (∀ (s : State) (f : Fin 6) (d : Fin 4096) (late : Bool) (c c' : DemodCtx) (n : Nat) (start : Nat × Nat), s.ctx? f d = some c →
      s.dieUp f = true → c.checks = 3 → c.segmentDue = some (n, true, start) → c' = c.decide n start →
    ∃ t dis lqi, exec (.traceback f d late) s = .next t ∧ n = codedBits c.len ∧ n ≤ c.steps ∧ start = (n, 0)
      ∧ dis = disagreements (convEncode 0 c'.bits) c'.llrs
      ∧ t.air = { s.air with up := Tbl.put s.air.up f (Tbl.getD s.air.up f [] ++ [c'.segMsg f, .record
            { info := c'.info f, lqi := lqi, disagree := dis, phy := c'.phy, head := c'.head, segments := c'.sent + 1,
              done := decide (dis * 1024 ≤ s.get (Reg.DEMOD.CTL.ERR_MAX f) * (convEncode 0 c'.bits).length) }]),
                             ctxs := Tbl.erase s.air.ctxs (4096 * f.val + d), spoilt := t.air.spoilt }
      ∧ (s.get (Reg.DEMOD.CTL.ERR_MAX f) * (convEncode 0 c'.bits).length < dis * 1024 → t.hear = s.hear
          ∧ t.stat (Reg.DEMOD.DECODE_FAIL f) = (s.stat (Reg.DEMOD.DECODE_FAIL f) + 1) % 2 ^ 32
          ∧ t.stat (Reg.DEMOD.GOOD f) = s.stat (Reg.DEMOD.GOOD f))
      ∧ (dis * 1024 ≤ s.get (Reg.DEMOD.CTL.ERR_MAX f) * (convEncode 0 c'.bits).length →
          t.stat (Reg.DEMOD.GOOD f) = (s.stat (Reg.DEMOD.GOOD f) + 1) % 2 ^ 32
          ∧ t.stat (Reg.DEMOD.DECODE_FAIL f) = s.stat (Reg.DEMOD.DECODE_FAIL f))
      ∧ t.stat (Reg.DEMOD.TAIL_LATE f) = (s.stat (Reg.DEMOD.TAIL_LATE f) + (if late then 1 else 0)) % 2 ^ 32
      ∧ Frame [.air, .hear] [Reg.DEMOD.CTX.IN_USE f, Reg.DEMOD.CTX.PEAK f]
          [Reg.DEMOD.GOOD f, Reg.DEMOD.DECODE_FAIL f, Reg.DEMOD.TAIL_LATE f] s t)
  -- no segment due: nothing
  ∧ (∀ (s : State) (f : Fin 6) (d : Fin 4096) (late : Bool) (c : DemodCtx), s.ctx? f d = some c → c.checks = 3 →
      c.segmentDue = none → exec (.traceback f d late) s = .next s)

/-- The node table's operations (R197 to R209, R373): READ, WRITE, INSERT, DELETE, SEARCH, AGE_SCAN, and the aging
walker. Where the spec leaves a point of it open, the clause is the model's choice: log entries 43, 63. -/
def Obligations.NodeTableCommands : Prop :=
  -- READ of a valid entry fills DATA and DIES; of an index that holds none it reads 0
  (∀ (s : State) (o : NodeOp) (e : NodeEntry), s.logicUp = true → s.nodeOp 0 = some o → o.index < nodeTop →
      Tbl.find? s.node.tab o.index = some e → e.sound = true →
    ∃ t, exec .nodeRead s = .next t ∧ NodeEnds s t .done false ∧ t.get Reg.NODE.DATA.ENTRY = e.word % 2 ^ 128
      ∧ t.get Reg.NODE.RESULT.DIES = s.setDies e.word % 4 ∧ t.node.tab = s.node.tab
      ∧ Frame (.node :: signalled) (Reg.NODE.DATA.ENTRY :: Reg.NODE.RESULT.DIES :: nodeEndFields) [Reg.ETH.PRIV_SENT, Reg.ETH.FP_DROP] s t)
  ∧ (∀ (s : State) (o : NodeOp), s.logicUp = true → s.nodeOp 0 = some o → o.index < nodeTop →
      Tbl.find? s.node.tab o.index = none →
    ∃ t, exec .nodeRead s = .next t ∧ NodeEnds s t .done false ∧ t.get Reg.NODE.DATA.ENTRY = 0
      ∧ t.get Reg.NODE.RESULT.DIES = 0 ∧ t.node.tab = s.node.tab)
  -- READ that meets a parity error: NOT_FOUND with PARITY, the entry invalidated, source 160
  ∧ (∀ (s : State) (o : NodeOp) (e : NodeEntry), s.logicUp = true → s.nodeOp 0 = some o → o.index < nodeTop →
      Tbl.find? s.node.tab o.index = some e → e.sound = false →
    ∃ t, exec .nodeRead s = .next t ∧ NodeEnds s t .notFound true ∧ t.node.tab = Tbl.erase s.node.tab o.index
      ∧ t.get Reg.NODE.PERR.INDEX = o.index ∧ t.pends 160 ∧ t.pends 263
      ∧ t.stat Reg.NODE.PARITY_ERR = (s.stat Reg.NODE.PARITY_ERR + 1) % 2 ^ 32)
  -- WRITE with VALID 0 clears the index
  ∧ (∀ (s : State) (o : NodeOp), s.logicUp = true → s.nodeOp 1 = some o → o.index < nodeTop → nodeValid o.data = false →
    ∃ t, exec .nodeWrite s = .next t ∧ NodeEnds s t .done false ∧ t.node.tab = Tbl.erase s.node.tab o.index
      ∧ Frame (.node :: signalled) (Reg.NODE.RESULT.DIES :: nodeEndFields) nodeTabWords s t)
  -- WRITE that passes every test stores the entry, TWIN recomputed, with its parity
  ∧ (∀ (s : State) (o : NodeOp), s.logicUp = true → s.nodeOp 1 = some o → o.index < nodeTop → nodeValid o.data = true →
      nodeImageError o.data = none → s.nodeWriteError o.index o.data = false → (s.nodeFind (nodeAddr o.data)).2.2 = false →
    ∃ t e, exec .nodeWrite s = .next t ∧ NodeEnds s t .done false ∧ t.node.tab = Tbl.put s.node.tab o.index e
      ∧ e.word = putBits (nodeImage o.data % 2 ^ 128) 107 1 1 ∧ e.sound = true
      ∧ t.stat Reg.NODE.VALID_STATIC = (t.node.tab.filter fun e => staticBase ≤ e.1).length
      ∧ Frame (.node :: signalled) (Reg.NODE.RESULT.DIES :: nodeEndFields) nodeTabWords s t)
  -- WRITE that fails a test changes no entry
  ∧ (∀ (s : State) (o : NodeOp) (st : Status), s.logicUp = true → s.nodeOp 1 = some o → o.index < nodeTop →
      nodeValid o.data = true → nodeImageError o.data = some st →
    ∃ t, exec .nodeWrite s = .next t ∧ NodeEnds s t st false ∧ t.node.tab = s.node.tab)
  ∧ (∀ (s : State) (o : NodeOp), s.logicUp = true → s.nodeOp 1 = some o → (nodeTop ≤ o.index ∨ (nodeValid o.data = true
      ∧ nodeImageError o.data = none ∧ s.nodeWriteError o.index o.data = true
      ∧ (s.nodeFind (nodeAddr o.data)).2.2 = false)) →
    ∃ t, exec .nodeWrite s = .next t ∧ NodeEnds s t .badField false ∧ t.node.tab = s.node.tab)
  -- WRITE whose lookup of the address meets a parity error reports it
  ∧ (∀ (s : State) (o : NodeOp), s.logicUp = true → s.nodeOp 1 = some o → o.index < nodeTop → nodeValid o.data = true →
      nodeImageError o.data = none → (s.nodeFind (nodeAddr o.data)).2.2 = true →
    ∃ t, exec .nodeWrite s = .next t ∧ t.node.op = none ∧ t.get Reg.NODE.RESULT.PARITY = 1 ∧ t.pends 160 ∧ t.pends 263)
  -- the tests of the image, in order: ADDR, then the aerials and RATE
  ∧ (∀ w : Nat, (nodeAddr w = 0 ∨ nodeAddr w = 0xFFFFFFFF → nodeImageError w = some .badAddress)
    ∧ (∀ j < 3, 3072 ≤ nodeAer w j → nodeAer w j ≤ 4094 → nodeImageError w = some .badAddress
        ∨ nodeImageError w = some .badField)
    ∧ (nodeRate w = 5 ∨ nodeRate w = 6 → nodeImageError w ≠ none))
  -- INSERT of a new learned address takes the lowest free way of its bucket
  ∧ (∀ (s : State) (o : NodeOp), s.logicUp = true → s.nodeOp 2 = some o → nodeImageError o.data = none →
      nodeStatic o.data = false → s.nodeIndex (nodeAddr o.data) = none →
      (∃ w < 4, Tbl.has s.node.tab (4 * s.bucket (nodeAddr o.data) + w) = false) →
    ∃ t w e, exec .nodeInsert s = .next t ∧ NodeEnds s t .done false ∧ w < 4
      ∧ Tbl.has s.node.tab (4 * s.bucket (nodeAddr o.data) + w) = false
      ∧ (∀ v < w, Tbl.has s.node.tab (4 * s.bucket (nodeAddr o.data) + v) = true)
      ∧ t.node.tab = Tbl.put s.node.tab (4 * s.bucket (nodeAddr o.data) + w) e
      ∧ e.word = putBits (nodeImage o.data % 2 ^ 128) 107 1 1 ∧ e.sound = true
      ∧ t.get Reg.NODE.RESULT.INDEX = (4 * s.bucket (nodeAddr o.data) + w) % 2 ^ 21
      ∧ Frame (.node :: signalled) (Reg.NODE.RESULT.INDEX :: Reg.NODE.RESULT.DIES :: nodeEndFields) nodeTabWords s t)
  -- with none free: TABLE_FULL
  ∧ (∀ (s : State) (o : NodeOp), s.logicUp = true → s.nodeOp 2 = some o → nodeImageError o.data = none →
      nodeStatic o.data = false → s.nodeIndex (nodeAddr o.data) = none →
      (∀ w < 4, Tbl.has s.node.tab (4 * s.bucket (nodeAddr o.data) + w) = true) →
    ∃ t, exec .nodeInsert s = .next t ∧ NodeEnds s t .tableFull false ∧ t.node.tab = s.node.tab)
  -- a learned image whose address is static: ENTRY_STATIC
  ∧ (∀ (s : State) (o : NodeOp) (i : Nat) (e : NodeEntry), s.logicUp = true → s.nodeOp 2 = some o →
      nodeImageError o.data = none → nodeStatic o.data = false → s.nodeIndex (nodeAddr o.data) = some i →
      Tbl.find? s.node.tab i = some e → e.sound = true → staticBase ≤ i →
    ∃ t, exec .nodeInsert s = .next t ∧ NodeEnds s t .entryStatic false ∧ t.node.tab = s.node.tab)
  -- DELETE and SEARCH of an address that is held, and of one that is not
  ∧ (∀ (s : State) (o : NodeOp) (i : Nat) (e : NodeEntry), s.logicUp = true → s.nodeOp 3 = some o →
      s.nodeIndex o.key = some i → Tbl.find? s.node.tab i = some e → e.sound = true →
    ∃ t, exec .nodeDelete s = .next t ∧ NodeEnds s t .done false ∧ t.node.tab = Tbl.erase s.node.tab i
      ∧ Frame (.node :: signalled) nodeEndFields nodeTabWords s t)
  ∧ (∀ (s : State) (o : NodeOp), s.logicUp = true → s.nodeOp 3 = some o → s.nodeIndex o.key = none →
    ∃ t, exec .nodeDelete s = .next t ∧ NodeEnds s t .notFound false ∧ t.node.tab = s.node.tab)
  ∧ (∀ (s : State) (o : NodeOp) (i : Nat) (e : NodeEntry), s.logicUp = true → s.nodeOp 4 = some o →
      s.nodeIndex o.key = some i → Tbl.find? s.node.tab i = some e → e.sound = true →
    ∃ t, exec .nodeSearch s = .next t ∧ NodeEnds s t .done false ∧ t.get Reg.NODE.DATA.ENTRY = e.word % 2 ^ 128
      ∧ t.get Reg.NODE.RESULT.INDEX = i % 2 ^ 21 ∧ t.get Reg.NODE.RESULT.DIES = s.setDies e.word % 4
      ∧ t.node.tab = s.node.tab
      ∧ Frame (.node :: signalled) (Reg.NODE.DATA.ENTRY :: Reg.NODE.RESULT.INDEX :: Reg.NODE.RESULT.DIES
          :: nodeEndFields) [Reg.ETH.PRIV_SENT, Reg.ETH.FP_DROP] s t)
  ∧ (∀ (s : State) (o : NodeOp), s.logicUp = true → s.nodeOp 4 = some o → s.nodeIndex o.key = none →
    ∃ t, exec .nodeSearch s = .next t ∧ NodeEnds s t .notFound false ∧ t.node.tab = s.node.tab)
  -- AGE_SCAN runs while its age is 1 to 33,554,431, else BAD_FIELD
  ∧ (∀ (s : State) (o : NodeOp), s.logicUp = true → s.node.scan = none → s.nodeOp 5 = some o → 1 ≤ o.key →
      o.key ≤ 33554431 →
    exec .ageScan s = .next { s with node := { s.node with scan := some o.key } })
  ∧ (∀ (s : State) (o : NodeOp), s.logicUp = true → s.node.scan = none → s.nodeOp 5 = some o →
      (o.key = 0 ∨ 33554431 < o.key) →
    ∃ t, exec .ageScan s = .next t ∧ NodeEnds s t .badField false ∧ t.node.tab = s.node.tab)
  -- AGE_SCAN_DONE: every learned entry of at least that age has gone, SCAN_DEL says how many, source 162
  ∧ (∀ (s : State) (age : Nat), s.logicUp = true → s.node.scan = some age → (∀ e ∈ s.node.tab, e.2.sound = true) →
    ∃ t, exec .ageScanDone s = .next t ∧ t.pends 162 ∧ t.node.op = none ∧ t.node.scan = none
      ∧ t.get Reg.NODE.CMD.STATUS = Status.done.code ∧ t.get Reg.NODE.CMD.BUSY = 0
      ∧ (Tbl.wf s.node.tab = true → ∀ e, e ∈ t.node.tab ↔ e ∈ s.node.tab
          ∧ ¬ (e.1 < staticBase ∧ age ≤ s.nodeAge e.2.word))
      ∧ t.stat Reg.NODE.SCAN_DEL
          = (s.node.tab.filter fun e => e.1 < staticBase && decide (age ≤ s.nodeAge e.2.word)).length
      ∧ Frame (.node :: signalled) nodeEndFields (Reg.NODE.SCAN_DEL :: nodeTabWords) s t)
  -- NODE_BAD_OPCODE
  ∧ (∀ (s : State) (op : Fin 8) (o : NodeOp), Instr.wf (.nodeBadOpcode op) = true → s.logicUp = true →
      s.nodeOp op = some o →
    ∃ t, exec (.nodeBadOpcode op) s = .next t ∧ NodeEnds s t .badOpcode false ∧ t.node.tab = s.node.tab
      ∧ Frame (.node :: signalled) nodeEndFields [Reg.ETH.PRIV_SENT, Reg.ETH.FP_DROP] s t)
  -- AGING_VISIT of an entry of at least AGE.LIMIT deletes it and counts AGED_OUT
  ∧ (∀ (s : State) (i : Nat) (e : NodeEntry), s.logicUp = true → s.on Reg.NODE.AGE.EN = true → i + 1 < staticBase →
      Tbl.find? s.node.tab i = some e → e.sound = true → s.get Reg.NODE.AGE.LIMIT ≤ s.nodeAge e.word →
    ∃ t, exec (.agingVisit i) s = .next t ∧ t.node = { s.node with tab := Tbl.erase s.node.tab i }
      ∧ t.stat Reg.NODE.AGED_OUT = (s.stat Reg.NODE.AGED_OUT + 1) % 2 ^ 32
      ∧ Frame [.node] [] (Reg.NODE.AGED_OUT :: nodeTabWords) s t)
  -- of a younger one with LONG 0 and h of at least 0xE0_0000: HEARD moves on, LONG is set, the age stays
  ∧ (∀ (s : State) (i : Nat) (e : NodeEntry), s.logicUp = true → s.on Reg.NODE.AGE.EN = true → i + 1 < staticBase →
      Tbl.find? s.node.tab i = some e → e.sound = true → s.nodeAge e.word < s.get Reg.NODE.AGE.LIMIT →
      nodeLong e.word = false → 0xE00000 ≤ (s.meshCycle + 2 ^ 24 - nodeHeard e.word) % 2 ^ 24 →
    ∃ t e', exec (.agingVisit i) s = .next t ∧ t.node = { s.node with tab := Tbl.put s.node.tab i e' }
      ∧ nodeHeard e'.word = (nodeHeard e.word + 0xC00000) % 2 ^ 24 ∧ nodeLong e'.word = true
      ∧ s.nodeAge e'.word = s.nodeAge e.word ∧ e'.sound = true ∧ Frame [.node] [] nodeTabWords s t)
  -- of any other: the entry stays
  ∧ (∀ (s : State) (i : Nat) (e : NodeEntry), s.logicUp = true → s.on Reg.NODE.AGE.EN = true → i + 1 < staticBase →
      Tbl.find? s.node.tab i = some e → e.sound = true → s.nodeAge e.word < s.get Reg.NODE.AGE.LIMIT →
      (nodeLong e.word = true ∨ (s.meshCycle + 2 ^ 24 - nodeHeard e.word) % 2 ^ 24 < 0xE00000) →
      nodeValid e.word = true → e.word < 2 ^ 128 →
    ∃ t, exec (.agingVisit i) s = .next t ∧ Tbl.find? t.node.tab i = some e ∧ Frame [.node] [] nodeTabWords s t)
  -- the visit of the last learned index latches COVER2
  ∧ (∀ s : State, s.logicUp = true → s.on Reg.NODE.AGE.EN = true → Tbl.find? s.node.tab 0xFFFFF = none →
    ∃ t, exec (.agingVisit 0xFFFFF) s = .next t
      ∧ t.stat Reg.NODE.COVER2 = (s.node.tab.filter fun e => bitsAt e.2.word 110 1 = 1).length
      ∧ Frame [] [] [Reg.NODE.COVER2] s t)
  -- where an address is held: a static entry answers first, else the four ways of its bucket
  ∧ (∀ (s : State) (a i : Nat), s.nodeIndex a = some i →
    ∃ e, (i, e) ∈ s.node.tab ∧ nodeAddr e.word = a ∧ (staticBase ≤ i ∨ i / 4 = s.bucket a)
      ∧ (i < staticBase → ∀ x ∈ s.node.tab, staticBase ≤ x.1 → nodeAddr x.2.word ≠ a))

/-- The hearing tables' operations (R210, R211). Where the spec leaves a point of it open, the clause is the model's
choice: log entries 62, 182. -/
def Obligations.HearingCommands : Prop :=
  -- HEAR_SEARCH of an address that a way of its bucket holds
  (∀ (s : State) (f : Fin 6) (o : HearOp) (w : Nat) (e : HearEntry), s.hearDue f 0 = some o → w < 4 →
      Tbl.find? s.hear (2 ^ 18 * f.val + o.addr * 0x85EBCA77 % 2 ^ 32 / 2 ^ 16 * 4 + w)
        = some e → e.addr = o.addr →
      (∀ v < w, (Tbl.find? s.hear (2 ^ 18 * f.val
        + o.addr * 0x85EBCA77 % 2 ^ 32 / 2 ^ 16 * 4 + v)).all (fun x => decide (x.addr ≠ e.addr)) = true) →
    ∃ t, exec (.hearSearch f) s = .next t ∧ t.get (Reg.DEMOD.HEAR_CMD.STATUS f) = Status.done.code
      ∧ t.get (Reg.DEMOD.HEAR_CMD.BUSY f) = 0 ∧ t.air = { s.air with hearOps := Tbl.erase s.air.hearOps f } ∧ t.get (Reg.DEMOD.HEAR_CMD.INDEX f)
          = (o.addr * 0x85EBCA77 % 2 ^ 32 / 2 ^ 16 * 4 + w) % 2 ^ 18
      ∧ t.get (Reg.DEMOD.HEAR_W1.CONTEXT f) = e.ctx % 2 ^ 9 ∧ t.get (Reg.DEMOD.HEAR_W1.RATE f) = e.rate % 8
      ∧ t.get (Reg.DEMOD.HEAR_W1.LQI f) = e.lqi % 256 ∧ t.get (Reg.DEMOD.HEAR_W1.COUNT f) = e.count % 256
      ∧ t.get (Reg.DEMOD.HEAR_W2.HEARD f) = e.heard % 2 ^ 24 ∧ t.on (Reg.DEMOD.HEAR_W2.VALID f) = true
      ∧ FrameIn [.air] [(dieOffset f 0x182000, dieOffset f 0x182010)] [] s t)
  -- of one that none holds
  ∧ (∀ (s : State) (f : Fin 6) (o : HearOp), s.hearDue f 0 = some o →
      (∀ w < 4, (Tbl.find? s.hear (2 ^ 18 * f.val
        + o.addr * 0x85EBCA77 % 2 ^ 32 / 2 ^ 16 * 4 + w)).all (fun x => decide (x.addr ≠ o.addr)) = true) →
    ∃ t, exec (.hearSearch f) s = .next t ∧ t.get (Reg.DEMOD.HEAR_CMD.STATUS f) = Status.notFound.code
      ∧ t.get (Reg.DEMOD.HEAR_CMD.BUSY f) = 0
      ∧ Frame [.air] [Reg.DEMOD.HEAR_CMD.STATUS f, Reg.DEMOD.HEAR_CMD.BUSY f] [] s t)
  -- HEAR_READ fills the entry words, also of an index that holds none
  ∧ (∀ (s : State) (f : Fin 6) (o : HearOp), s.hearDue f 1 = some o →
    ∃ t, exec (.hearRead f) s = .next t ∧ t.get (Reg.DEMOD.HEAR_CMD.STATUS f) = Status.done.code
      ∧ t.get (Reg.DEMOD.HEAR_CMD.BUSY f) = 0
      ∧ (∀ e, Tbl.find? s.hear (2 ^ 18 * f.val + o.index) = some e →
          t.on (Reg.DEMOD.HEAR_W2.VALID f) = true ∧ t.get (Reg.DEMOD.HEAR_ADDR.ADDR f) = e.addr % 2 ^ 32
          ∧ t.get (Reg.DEMOD.HEAR_W1.LQI f) = e.lqi % 256)
      ∧ (Tbl.find? s.hear (2 ^ 18 * f.val + o.index) = none →
          t.on (Reg.DEMOD.HEAR_W2.VALID f) = false)
      ∧ FrameIn [.air] [(dieOffset f 0x182000, dieOffset f 0x182010)] [] s t)
  -- HEAR_CLEAR begins; HEAR_CLEAR_DONE: every entry of the die's table is gone, every other stays
  ∧ (∀ (s : State) (f : Fin 6) (o : HearOp), s.hearDue f 2 = some o →
    ∃ t, exec (.hearClear f) s = .next t ∧ t.on (Reg.DEMOD.HEAR_CMD.BUSY f) = true
      ∧ Tbl.find? t.air.hearOps f = some { o with begun := true } ∧ Frame [.air] [] [] s t)
  ∧ (∀ (s : State) (f : Fin 6) (o : HearOp), s.hearDue f 2 = some o → o.begun = true →
    ∃ t, exec (.hearClearDone f) s = .next t ∧ t.get (Reg.DEMOD.HEAR_CMD.STATUS f) = Status.done.code
      ∧ t.get (Reg.DEMOD.HEAR_CMD.BUSY f) = 0 ∧ (∀ e, e ∈ t.hear ↔ e ∈ s.hear ∧ e.1 / 2 ^ 18 ≠ f.val)
      ∧ Frame [.air, .hear] [Reg.DEMOD.HEAR_CMD.STATUS f, Reg.DEMOD.HEAR_CMD.BUSY f] [] s t)
  -- HEAR_BAD_OPCODE
  ∧ (∀ (s : State) (f : Fin 6) (o : HearOp), s.hearDue f 3 = some o →
    ∃ t, exec (.hearBadOpcode f) s = .next t ∧ t.get (Reg.DEMOD.HEAR_CMD.STATUS f) = Status.badOpcode.code
      ∧ t.get (Reg.DEMOD.HEAR_CMD.BUSY f) = 0
      ∧ Frame [.air] [Reg.DEMOD.HEAR_CMD.STATUS f, Reg.DEMOD.HEAR_CMD.BUSY f] [] s t)
  -- an operation runs with its input as it stood at GO: a later write of HEAR_CMD without GO leaves it
  ∧ (∀ (s : State) (f : Fin 6) (v : Nat), bitsAt v 2 1 = 0 →
    ∃ t, s.hearCmd f v = t ∧ t.air = s.air ∧ t.get (Reg.DEMOD.HEAR_CMD.BUSY f) = s.get (Reg.DEMOD.HEAR_CMD.BUSY f)
      ∧ Frame [] [Reg.DEMOD.HEAR_CMD.OP f, Reg.DEMOD.HEAR_CMD.INDEX f] [] s t)
  -- what a good frame record writes: a new address takes a free way of its bucket and no other entry moves
  ∧ (∀ (s : State) (f src ctx rate lqi : Nat),
      (∀ w < 4, (Tbl.find? s.hear (2 ^ 18 * f + src * 0x85EBCA77 % 2 ^ 32 / 2 ^ 16 * 4 + w)).all (fun e => decide (e.addr ≠ src)) = true) →
      (∃ w < 4, Tbl.find? s.hear (2 ^ 18 * f + src * 0x85EBCA77 % 2 ^ 32 / 2 ^ 16 * 4 + w) = none) →
    ∃ w < 4, Tbl.find? s.hear (2 ^ 18 * f + src * 0x85EBCA77 % 2 ^ 32 / 2 ^ 16 * 4 + w) = none
      ∧ (s.hearUpdate f src ctx rate lqi).hear = Tbl.put s.hear (2 ^ 18 * f + src * 0x85EBCA77 % 2 ^ 32 / 2 ^ 16 * 4 + w)
          ⟨src, ctx, rate, lqi, s.time.msc / 48 % 2 ^ 24, 1⟩
      ∧ Frame [.hear] [] [] s (s.hearUpdate f src ctx rate lqi))

/-- CASK.CMD and the pool (R212 to R220, R229). Where the spec leaves a point of it open, the clause is the model's
choice: log entries 64, 65, 66, 67, 68, 69, 70. -/
def Obligations.CaskCommands : Prop :=
  -- BIND of an unbound queue to an address that has no queue of the class
  (∀ (s : State) (o : CaskOp), s.caskDue o 0 → o.addr ≠ 0 → (s.queue o.queue).addr = none →
      (∀ p ∈ s.cask.queues, ¬ (p.2.addr = some o.addr ∧ p.2.cls = o.cls)) →
    ∃ t, exec .caskBind s = .next t ∧ CaskEnds t .done
      ∧ t.queue o.queue = { s.queue o.queue with addr := some o.addr, cls := o.cls }
      ∧ (∀ q, q ≠ o.queue → t.queue q = s.queue q)
      ∧ t.cask = { s.cask with queues := t.cask.queues, op := none }
      ∧ Frame [.cask] [Reg.CASK.CMD.BUSY, Reg.CASK.CMD.STATUS] [] s t)
  -- of address 0, or where the queue or the pair of address and class is taken
  ∧ (∀ (s : State) (o : CaskOp), s.caskDue o 0 → o.addr = 0 →
    ∃ t, exec .caskBind s = .next t ∧ CaskEnds t .badAddress ∧ t.cask = { s.cask with op := none })
  ∧ (∀ (s : State) (o : CaskOp), s.caskDue o 0 → o.addr ≠ 0 → ((s.queue o.queue).addr ≠ none
      ∨ ∃ p ∈ s.cask.queues, p.2.addr = some o.addr ∧ p.2.cls = o.cls) →
    ∃ t, exec .caskBind s = .next t ∧ CaskEnds t .badField ∧ t.cask = { s.cask with op := none })
  -- UNBIND of an empty bound queue; BUSY where it holds or has sent an item
  ∧ (∀ (s : State) (o : CaskOp), s.caskDue o 1 → (s.queue o.queue).addr ≠ none → (s.queue o.queue).count = 0 →
      (s.queue o.queue).sent = false →
    ∃ t, exec .caskUnbind s = .next t ∧ CaskEnds t .done ∧ t.queue o.queue = { s.queue o.queue with addr := none }
      ∧ (∀ q, q ≠ o.queue → t.queue q = s.queue q)
      ∧ t.cask = { s.cask with queues := t.cask.queues, op := none }
      ∧ Frame [.cask] [Reg.CASK.CMD.BUSY, Reg.CASK.CMD.STATUS] [] s t)
  ∧ (∀ (s : State) (o : CaskOp), s.caskDue o 1 → (s.queue o.queue).addr ≠ none →
      (0 < (s.queue o.queue).count ∨ (s.queue o.queue).sent = true) →
    ∃ t, exec .caskUnbind s = .next t ∧ CaskEnds t .busy ∧ t.cask = { s.cask with op := none })
  -- READ shows the queue's state, PEEK the head item's header, or IDLE
  ∧ (∀ (s : State) (o : CaskOp), s.caskDue o 2 →
    ∃ t, exec .caskRead s = .next t ∧ CaskEnds t .done
      ∧ t.get Reg.CASK.DATA = (s.queue o.queue).word % 2 ^ Reg.CASK.DATA.width ∧ t.cask = { s.cask with op := none }
      ∧ Frame [.cask] [Reg.CASK.DATA, Reg.CASK.CMD.BUSY, Reg.CASK.CMD.STATUS] [] s t)
  ∧ (∀ (s : State) (o : CaskOp), s.caskDue o 3 → 0 < (s.queue o.queue).count → (s.queue o.queue).sent = false →
    ∃ t, exec .caskPeek s = .next t ∧ CaskEnds t .done ∧ t.on Reg.CASK.RESULT.IDLE = false
      ∧ t.get Reg.CASK.DATA = leVal (sliceB (s.itemData (s.queue o.queue).head) 0 32) % 2 ^ Reg.CASK.DATA.width
      ∧ t.cask = { s.cask with op := none }
      ∧ Frame [.cask] [Reg.CASK.DATA, Reg.CASK.RESULT.IDLE, Reg.CASK.CMD.BUSY, Reg.CASK.CMD.STATUS] [] s t)
  ∧ (∀ (s : State) (o : CaskOp), s.caskDue o 3 → ((s.queue o.queue).count = 0 ∨ (s.queue o.queue).sent = true) →
    ∃ t, exec .caskPeek s = .next t ∧ CaskEnds t .done ∧ t.on Reg.CASK.RESULT.IDLE = true ∧ t.get Reg.CASK.DATA = 0)
  -- FLUSH: every unsent item goes, the queue stands in no list
  ∧ (∀ (s : State) (o : CaskOp), s.caskDue o 4 → 0 < (s.queue o.queue).count →
    ∃ t, exec .caskFlush s = .next t ∧ CaskEnds t .done ∧ (t.queue o.queue).count = 0 ∧ t.listed o.queue = false
      ∧ (∀ b ∈ s.unsent o.queue, Tbl.has t.cask.items b = false)
      ∧ t.stat Reg.CASK.FLUSHED = (s.stat Reg.CASK.FLUSHED + (s.queue o.queue).count) % 2 ^ 32
      ∧ (∀ q, q ≠ o.queue → t.queue q = s.queue q)
      ∧ Frame (.cask :: .tun :: .tx :: .free :: signalled) [Reg.CASK.CMD.BUSY, Reg.CASK.CMD.STATUS]
          [Reg.CASK.FLUSHED, Reg.ETH.PRIV_SENT, Reg.ETH.FP_DROP] s t)
  -- CASK_BAD_OPCODE
  ∧ (∀ (s : State) (op : Fin 8) (o : CaskOp), Instr.wf (.caskBadOpcode op) = true → s.caskDue o op →
    ∃ t, exec (.caskBadOpcode op) s = .next t ∧ CaskEnds t .badOpcode ∧ t.cask = { s.cask with op := none }
      ∧ Frame [.cask] [Reg.CASK.CMD.BUSY, Reg.CASK.CMD.STATUS] [] s t)
  -- POOL_ENABLE within R218: every buffer is free
  ∧ (∀ (s : State) (v : BitVec 32), s.hostUp = true → bitsAt v.toNat 1 16 ≠ 0 → bitsAt v.toNat 0 1 = 1 →
      s.on Reg.CASK.CFG.EN = false → s.poolOk = true → s.caskIdle = true →
    ∃ t, exec (.poolEnable v) s = .next t ∧ t.on Reg.CASK.CFG.EN = true
      ∧ t.get Reg.CASK.CFG.MAX_ITEMS = bitsAt v.toNat 1 16 ∧ t.poolFree = s.get Reg.CASK.POOL_COUNT.N
      ∧ t.held 0 = 0 ∧ t.held 1 = 0 ∧ t.held 2 = 0
      ∧ Frame [.cask, .rx] [Reg.CASK.CFG.EN, Reg.CASK.CFG.MAX_ITEMS] [] s t)
  -- outside it: an illegal value
  ∧ (∀ (s : State) (v : BitVec 32), s.hostUp = true →
      (bitsAt v.toNat 1 16 = 0 ∨ (bitsAt v.toNat 0 1 = 1 ∧ s.poolOk = false)) →
    ∃ t, exec (.poolEnable v) s = .next t ∧ t.safe.fault.valid = true ∧ Frame signalled [] [Reg.ETH.PRIV_SENT, Reg.ETH.FP_DROP] s t)
  -- the pool of R218: no fewer than 1 nor more than 2^26 buffers, and the floors within the count
  ∧ (∀ s : State, s.poolOk = true → 1 ≤ s.get Reg.CASK.POOL_COUNT.N ∧ s.get Reg.CASK.POOL_COUNT.N ≤ 2 ^ 26
      ∧ s.get (Reg.CASK.FLOOR.N 0) + s.get (Reg.CASK.FLOOR.N 1) + s.get (Reg.CASK.FLOOR.N 2)
          ≤ s.get Reg.CASK.POOL_COUNT.N)
  -- a request for k buffers of a class is granted while k ≤ what is left of its floor plus the shared part
  ∧ (∀ (s : State) (r k : Nat), s.grants r k = true ↔ s.on Reg.CASK.CFG.EN = true
      ∧ (k : Int) ≤ ((s.get (Reg.CASK.FLOOR.N r) - s.held r : Nat) : Int) + (((s.poolFree : Nat) : Int)
        - (((s.get (Reg.CASK.FLOOR.N 0) - s.held 0) + (s.get (Reg.CASK.FLOOR.N 1) - s.held 1)
          + (s.get (Reg.CASK.FLOOR.N 2) - s.held 2) : Nat) : Int)))

/-- SEND and its data (R215, R237 to R239, R242, R243). Where the spec leaves a point of it open, the clause is the
model's choice: log entries 65, 71. -/
def Obligations.SendCommands : Prop :=
  -- SEND that fails a check of its descriptor completes with its status; one that passes waits for its data
  (∀ (s : State) (n : Fin 4096) (d : List Byte) (st : Status), Instr.wf (.send n d) = true → s.cmdDue n = true →
      sendError d = some st →
    exec (.send n d) s = .next ((s.passDescriptor n).complete (s.cmdRef n d) st 0))
  ∧ (∀ (s : State) (n : Fin 4096) (d : List Byte), Instr.wf (.send n d) = true → s.cmdDue n = true →
      sendError d = none →
    ∃ t, exec (.send n d) s = .next t ∧ t.ring n = { s.ring n with sending := some ⟨d⟩ }
      ∧ (∀ m, m ≠ n.val → t.ring m = s.ring m) ∧ Frame [.rings] [] [] s t)
  -- the checks, in order (R242)
  ∧ (∀ d : List Byte, (leAt d 1 1 % 4 = 3 ∨ itemType d = 1 ∨ 6 ≤ itemType d ∨ 4 ≤ itemClass d ∨ itemRate d = 5
        ∨ itemRate d = 6 ∨ (leAt d 1 1 % 4 = 2 ∧ 16 < itemPaylen d) → sendError d = some .badField)
    ∧ (leAt d 1 1 % 4 < 3 → itemType d = 4 → itemClass d < 4 → itemRate d < 5 → (leAt d 1 1 % 4 = 2 → itemPaylen d ≤ 16) →
        itemPaylen d ≠ 20 → sendError d = some .badLength))
  -- SEND_DATA_READ: the item is linked behind the queue's last one
  ∧ (∀ (s : State) (n : Fin 4096) (w : WalkIn) (d payload : List Byte), s.live = true → (s.ring n).stale = 0 →
      s.firstBad true (s.doorbell n + 4) 4 = none →
      (s.ring n).sending = some ⟨d⟩ → itemType d ≠ 4 →
      s.walkData w (leAt d 1 1 % 4) (leAt d 32 8) (leAt d 40 4) (itemPaylen d) (sliceB d 48 16) = .bytes payload →
      payloadError d payload = none → s.enqueueError (itemQueue d) (itemPaylen d) (cvBytes (itemCvlen d)) = none →
      0 < (s.queue (itemQueue d)).count → s.cask.held.length = 3 → payload.length = itemPaylen d →
    ∃ t bs, exec (.sendDataRead n w) s = .next t ∧ bs.length = bufsFor (itemPaylen d)
      ∧ (∀ b ∈ bs, Tbl.has s.cask.bufs b = false)
      ∧ Tbl.find? t.cask.items (bs.headD 0) = some ⟨bs, 1, some (s.cmdRef n d), itemQueue d⟩
      ∧ t.queue (itemQueue d) = { s.queue (itemQueue d) with
          tail := (bs.getLastD (bs.headD 0)), count := ((s.queue (itemQueue d)).count + 1) }
      ∧ t.held 1 = s.held 1 + bufsFor (itemPaylen d)
      ∧ t.stat Reg.CASK.ENQUEUED = (s.stat Reg.CASK.ENQUEUED + 1) % 2 ^ 32
      ∧ (t.ring n).sending = none ∧ (t.ring n).part = ((s.ring n).part + 1) % 2 ^ 32
      ∧ Frame [.rings, .cask, .safe, .out] [] [Reg.RING.COMMANDS, Reg.CASK.ENQUEUED] s t)
  -- the first item of an empty queue joins the tail of its class list
  ∧ (∀ (s : State) (n : Fin 4096) (w : WalkIn) (d payload : List Byte), s.live = true →
      (s.ring n).sending = some ⟨d⟩ → itemType d ≠ 4 →
      s.walkData w (leAt d 1 1 % 4) (leAt d 32 8) (leAt d 40 4) (itemPaylen d) (sliceB d 48 16) = .bytes payload →
      payloadError d payload = none → s.enqueueError (itemQueue d) (itemPaylen d) (cvBytes (itemCvlen d)) = none →
      (s.queue (itemQueue d)).count = 0 → (s.queue (itemQueue d)).sent = false →
      bitsAt (s.get Reg.TUN.POLICY_CFG.HOOK_EN) 1 1 = 0 →
    ∃ t g, exec (.sendDataRead n w) s = .next t ∧ (t.queue (itemQueue d)).count = 1
      ∧ (t.queue (itemQueue d)).deficit = 0 ∧ (t.queue (itemQueue d)).age = s.time.msc % 2048
      ∧ t.classList g (s.queue (itemQueue d)).cls = s.classList g (s.queue (itemQueue d)).cls ++ [itemQueue d]
      ∧ Frame (.cask :: .node :: signalled) parityFields (Reg.CASK.ENQUEUED :: Reg.RING.COMMANDS :: downWords) s t)
  -- a time frame reads no data: the part writes its payload (R121)
  ∧ (∀ (s : State) (n : Fin 4096) (w : WalkIn) (d : List Byte), s.live = true → (s.ring n).sending = some ⟨d⟩ →
      itemType d = 4 → exec (.sendDataRead n w) s = .next (s.sendPayload n d (List.replicate 20 0)))
  -- a payload that fails a check of R242 or R215 completes with its status
  ∧ (∀ (s : State) (n : Fin 4096) (w : WalkIn) (d payload : List Byte) (st : Status), s.live = true →
      (s.ring n).sending = some ⟨d⟩ → itemType d ≠ 4 →
      s.walkData w (leAt d 1 1 % 4) (leAt d 32 8) (leAt d 40 4) (itemPaylen d) (sliceB d 48 16) = .bytes payload →
      (payloadError d payload = some st ∨ (payloadError d payload = none
        ∧ s.enqueueError (itemQueue d) (itemPaylen d) (cvBytes (itemCvlen d)) = some st)) →
    exec (.sendDataRead n w) s = .next (((s.passDescriptor n).countRefusal st).complete (s.cmdRef n d) st 0))
  -- the checks of R215, in order
  ∧ (∀ (s : State) (q p cv : Nat), ((s.queue q).addr = none → s.enqueueError q p cv = some .badField)
    ∧ ((s.queue q).addr ≠ none → 1280 < 18 + p + cv → s.enqueueError q p cv = some .badLength)
    ∧ ((s.queue q).addr ≠ none → 18 + p + cv ≤ 1280 → s.get Reg.CASK.CFG.MAX_ITEMS ≤ (s.queue q).count →
        s.enqueueError q p cv = some .queueFull)
    ∧ ((s.queue q).addr ≠ none → 18 + p + cv ≤ 1280 → (s.queue q).count < s.get Reg.CASK.CFG.MAX_ITEMS →
        s.grants 1 (bufsFor p) = false → s.enqueueError q p cv = some .noBuffer))
  -- a read that fails halts the ring and completes the command with its status
  ∧ (∀ (s : State) (n : Fin 4096) (w : WalkIn) (d : List Byte) (st : Status) (a : Nat), s.live = true →
      (s.ring n).sending = some ⟨d⟩ → itemType d ≠ 4 →
      s.walkData w (leAt d 1 1 % 4) (leAt d 32 8) (leAt d 40 4) (itemPaylen d) (sliceB d 48 16) = .fault st a →
    exec (.sendDataRead n w) s = .next (((s.halt n st a).passDescriptor n).complete (s.cmdRef n d) st 0))

/-- Contacts (R172, R173, R244). Where the spec leaves a point of it open, the clause is the model's choice: log
entries 61, 79, 80. -/
def Obligations.ContactCommands : Prop :=
  -- CONTACT whose instant lies beyond its guard time is placed
  (∀ (s : State) (n : Fin 4096) (d : List Byte), Instr.wf (.contact n d) = true → s.cmdDue n = true →
      (s.nodeFind (leAt d 4 4)).2.2 = false →
      leAt d 4 4 ≠ 0 → leAt d 4 4 ≠ 0xFFFFFFFF → leAt d 16 4 ≤ 1999999 → bitsAt (leAt d 22 1) 0 3 ≤ 4 →
      (s.guardNs (leAt d 4 4) : Int) < s.untilNs (leAt d 8 6) (leAt d 16 4) → s.rx.contacts.length < 65536 →
    ∃ t, exec (.contact n d) s = .next t
      ∧ t.rx = { s.rx with nextContact := s.rx.nextContact + 1, contacts := (Tbl.put s.rx.contacts s.rx.nextContact
            (s.contactOf (s.cmdRef n d) d (s.guardNs (leAt d 4 4)))) }
      ∧ Frame (.rx :: .free :: signalled) [] ringWords s t)
  -- one with a field out of range or an instant within it completes with BAD_FIELD, one too many with TABLE_FULL
  ∧ (∀ (s : State) (n : Fin 4096) (d : List Byte), Instr.wf (.contact n d) = true → s.cmdDue n = true →
      (s.nodeFind (leAt d 4 4)).2.2 = false →
      (leAt d 4 4 = 0 ∨ leAt d 4 4 = 0xFFFFFFFF ∨ 1999999 < leAt d 16 4 ∨ 5 ≤ bitsAt (leAt d 22 1) 0 3
        ∨ s.untilNs (leAt d 8 6) (leAt d 16 4) ≤ s.guardNs (leAt d 4 4)) →
    exec (.contact n d) s = .next (((s.passDescriptor n).spend 1).complete (s.cmdRef n d) .badField 0))
  ∧ (∀ (s : State) (n : Fin 4096) (d : List Byte), Instr.wf (.contact n d) = true → s.cmdDue n = true →
      (s.nodeFind (leAt d 4 4)).2.2 = false →
      leAt d 4 4 ≠ 0 → leAt d 4 4 ≠ 0xFFFFFFFF → leAt d 16 4 ≤ 1999999 → bitsAt (leAt d 22 1) 0 3 ≤ 4 →
      (s.guardNs (leAt d 4 4) : Int) < s.untilNs (leAt d 8 6) (leAt d 16 4) → 65536 ≤ s.rx.contacts.length →
    exec (.contact n d) s = .next (((s.passDescriptor n).spend 1).complete (s.cmdRef n d) .tableFull 0))
  -- CONTACT_CANCEL: the pending contact completes with WITHDRAWN, the command with DONE; with none, NOT_FOUND
  ∧ (∀ (s : State) (n : Fin 4096) (d : List Byte) (id : Nat) (k : Contact), Instr.wf (.contactCancel n d) = true →
      s.cmdDue n = true → Tbl.wf s.rx.contacts = true → Tbl.find? s.rx.contacts id = some k →
      k.cmd.ring = n.val → k.cmd.tag = leAt d 4 2 →
      (∀ p ∈ s.rx.contacts, p.1 < id → ¬ (p.2.cmd.ring = n.val ∧ p.2.cmd.tag = leAt d 4 2)) →
    ∃ t, exec (.contactCancel n d) s = .next t ∧ t.rx = { s.rx with contacts := Tbl.erase s.rx.contacts id }
      ∧ t = ((({ s.passDescriptor n with rx := { s.rx with contacts := Tbl.erase s.rx.contacts id } } : State).complete
          k.cmd .withdrawn 0).complete (s.cmdRef n d) .done 0))
  ∧ (∀ (s : State) (n : Fin 4096) (d : List Byte), Instr.wf (.contactCancel n d) = true → s.cmdDue n = true →
      (∀ p ∈ s.rx.contacts, ¬ (p.2.cmd.ring = n.val ∧ p.2.cmd.tag = leAt d 4 2)) →
    exec (.contactCancel n d) s = .next ((s.passDescriptor n).complete (s.cmdRef n d) .notFound 0))
  -- CONTACT_WINDOW_OPEN at T − G
  ∧ (∀ (s : State) (id : Nat) (k : Contact), s.live = true → Tbl.find? s.rx.contacts id = some k →
      s.untilNs k.msc k.ofs ≤ k.guard →
    ∃ t, exec (.contactWindowOpen id) s = .next t
      ∧ t.rx = { s.rx with contacts := Tbl.put s.rx.contacts id { k with isOpen := true } }
      ∧ Frame [.rx] [] [] s t)
  ∧ (∀ (s : State) (id : Nat) (k : Contact), Tbl.find? s.rx.contacts id = some k →
      (k.guard : Int) < s.untilNs k.msc k.ofs → exec (.contactWindowOpen id) s = .next s)
  -- CONTACT_MISSED after T + G + WINDOW_US + 100 µs with no frame under decision
  ∧ (∀ (s : State) (id : Nat) (k : Contact), s.live = true → Tbl.find? s.rx.contacts id = some k →
      s.untilNs k.msc k.ofs ≤ -((k.guard + (k.windowUs + 100) * 1000 : Nat) : Int) → s.contactHeld k = false →
    ∃ t, exec (.contactMissed id) s = .next t ∧ t.rx = { s.rx with contacts := Tbl.erase s.rx.contacts id }
      ∧ t.stat Reg.MAC.CONTACT_MISSED = (s.stat Reg.MAC.CONTACT_MISSED + 1) % 2 ^ 32
      ∧ Frame (.rx :: signalled) [] [Reg.MAC.CONTACT_MISSED, Reg.ETH.PRIV_SENT, Reg.ETH.FP_DROP] s t)
  ∧ (∀ (s : State) (id : Nat) (k : Contact), Tbl.find? s.rx.contacts id = some k →
      -((k.guard + (k.windowUs + 100) * 1000 : Nat) : Int) < s.untilNs k.msc k.ofs →
    exec (.contactMissed id) s = .next s)
  -- the guard time of a node heard: base plus drift over the time since, at most 20 ms
  ∧ (∀ (s : State) (a i w : Nat), s.nodeSound a = some (i, w) →
    s.guardNs a = min (s.get Reg.MAC.GUARD_CFG.BASE_US * 1000
      + (if nodeContacts w < 3 then 4 * s.get Reg.MAC.GUARD_CFG.DEF_PPM
          else (nodeDrift w).natAbs + 4 * s.get Reg.MAC.GUARD_CFG.MARGIN_PPM)
        * ((s.meshCycle + 2 ^ 24 - nodeHeard w) % 2 ^ 24 + 1) * 24) 20000000)

/-- Kiln's states, its control registers, tamper, the entropy source and presence (R267 to R270, R283, R288, R291,
R293, R295, R296). Where the spec leaves a point of it open, the clause is the model's choice: log entries 99, 101,
108, 109, 110, 111. -/
def Obligations.KilnStates : Prop :=
  -- SELFTEST_DONE: ROOT, or ERROR with SELFTEST_FAIL and source 228
  (∀ (s : State) (run same : Nat), s.logicUp = true → s.kilnState = 0 → run < 41 → same < 841 →
    ∃ t, exec (.selftestDone true run same) s = .next t ∧ t.kilnState = 1
      ∧ Frame [] [Reg.KILN.STATUS.STATE, Reg.RNG.STATUS.TESTING] [] s t)
  ∧ (∀ (s : State) (run same : Nat), s.logicUp = true → s.kilnState = 0 → run < 41 → same < 841 →
    ∃ t, exec (.selftestDone false run same) s = .next t ∧ t.kilnState = 5 ∧ t.on Reg.KILN.STATUS.SELFTEST_FAIL = true
      ∧ t.pends 228 ∧ bitsAt (t.get Reg.SAFE.FAULT_CTL.CAUSE) 3 1 = 1
      ∧ Frame signalled [Reg.KILN.STATUS.STATE, Reg.KILN.STATUS.SELFTEST_FAIL, Reg.SAFE.FAULT_CTL.CAUSE,
          Reg.RNG.STATUS.TESTING] [Reg.ETH.PRIV_SENT, Reg.ETH.FP_DROP] s t)
  -- a start-up sample that fails a health test is an entropy fault as well (log entry 111)
  ∧ (∀ (s : State) (kat : Bool) (run same : Nat), s.logicUp = true → s.kilnState = 0 → run ≤ 1024 → same ≤ 1024 →
      (41 ≤ run ∨ 841 ≤ same) →
    ∃ t, exec (.selftestDone kat run same) s = .next t ∧ t.kilnState = 5 ∧ t.on Reg.KILN.STATUS.SELFTEST_FAIL = true
      ∧ t.on Reg.RNG.STATUS.FAULT = true ∧ t.on Reg.RNG.STATUS.FALLBACK = true ∧ t.pends 224 ∧ t.pends 228
      ∧ Frame (.kiln :: signalled) [Reg.KILN.STATUS.STATE, Reg.KILN.STATUS.SELFTEST_FAIL, Reg.SAFE.FAULT_CTL.CAUSE,
          Reg.RNG.STATUS.TESTING, Reg.RNG.STATUS.FAULT, Reg.RNG.STATUS.FALLBACK, Reg.RNG.STATUS.RCT_FAIL,
          Reg.RNG.STATUS.APT_FAIL] [Reg.ETH.PRIV_SENT, Reg.ETH.FP_DROP] s t)
  -- ROOT_REGEN with at most 12 % of the bits wrong and the helper data whole: READY with the root
  ∧ (∀ (s : State) (wrong : Nat), s.logicUp = true → s.kilnState = 1 → 100 * wrong ≤ 12 * 32768 →
    ∃ t, exec (.rootRegen wrong true) s = .next t ∧ t.kilnState = 2 ∧ t.kiln = { s.kiln with root := some s.freshRoot }
      ∧ s.freshRoot.length = 32 ∧ Frame [.kiln] [Reg.KILN.STATUS.STATE] [] s t)
  -- otherwise ERROR with ROOT_FAIL and source 228
  ∧ (∀ (s : State) (wrong : Nat) (helper : Bool), s.logicUp = true → s.kilnState = 1 → wrong ≤ 32768 →
      (helper = false ∨ 12 * 32768 < 100 * wrong) →
    ∃ t, exec (.rootRegen wrong helper) s = .next t ∧ t.kilnState = 5 ∧ t.on Reg.KILN.STATUS.ROOT_FAIL = true
      ∧ t.pends 228 ∧ Frame signalled [Reg.KILN.STATUS.STATE, Reg.KILN.STATUS.ROOT_FAIL, Reg.SAFE.FAULT_CTL.CAUSE]
          [Reg.ETH.PRIV_SENT, Reg.ETH.FP_DROP] s t)
  -- DRBG_SEEDED: 768 samples seed it
  ∧ (∀ s : State, s.logicUp = true → s.on Reg.RNG.STATUS.SEEDED = false → s.on Reg.RNG.STATUS.FAULT = false →
    ∃ t, exec .drbgSeeded s = .next t ∧ t.on Reg.RNG.STATUS.SEEDED = true
      ∧ t.kiln = { s.kiln with drbg := some (drbgSeed s.kiln.drbg (s.samples 96).2), gens := 0 }
      ∧ Frame [.kiln, .free] [Reg.RNG.STATUS.SEEDED] [] s t)
  -- APPROVED_WRITE that sets APPROVED in READY
  ∧ (∀ (s : State) (v : BitVec 32), s.hostUp = true → s.on Reg.KILN.CTL.LOCK = false → s.kilnReady = true →
      s.get Reg.KILN.CTL.APPROVED = 0 → bitsAt v.toNat 0 1 = 1 → s.on Reg.KILN.STATUS.DEBUG_OPEN = false →
    ∃ t, exec (.approvedWrite v) s = .next t ∧ t.approved = true
      ∧ t.on Reg.KILN.CTL.LOCK = decide (bitsAt v.toNat 1 1 = 1)
      ∧ Frame [] [Reg.KILN.CTL.APPROVED, Reg.KILN.CTL.LOCK] [] s t)
  -- one that clears it zeroises, and Kiln regenerates its root
  ∧ (∀ (s : State) (v : BitVec 32), s.hostUp = true → s.on Reg.KILN.CTL.LOCK = false → s.kilnReady = true →
      s.get Reg.KILN.CTL.APPROVED = 1 → bitsAt v.toNat 0 1 = 0 → s.kiln.reqs = [] → s.rx.groups = [] →
    ∃ t, exec (.approvedWrite v) s = .next t ∧ t.approved = false ∧ t.kilnState = 1
      ∧ t.kiln = { s.kiln with slots := [], cache := [], root := none, update := none, drbg := none, gens := 0 }
      ∧ t.otp = { s.otp with zeroisations := s.otp.zeroisations + 1 }
      ∧ Frame [.kiln, .otp] [Reg.KILN.CTL.APPROVED, Reg.KILN.CTL.LOCK, Reg.KILN.STATUS.STATE] [] s t)
  -- LOCK holds the register until reset; outside READY, or with the debug port open, it is an illegal value
  ∧ (∀ (s : State) (v : BitVec 32), s.on Reg.KILN.CTL.LOCK = true → exec (.approvedWrite v) s = .next s)
  ∧ (∀ (s : State) (v : BitVec 32), s.hostUp = true → s.on Reg.KILN.CTL.LOCK = false →
      bitsAt v.toNat 0 1 ≠ s.get Reg.KILN.CTL.APPROVED → (s.kilnReady = false
        ∨ (bitsAt v.toNat 0 1 = 1 ∧ s.on Reg.KILN.STATUS.DEBUG_OPEN = true)) →
    ∃ t, exec (.approvedWrite v) s = .next t ∧ t.safe.fault.valid = true ∧ Frame signalled [] [Reg.ETH.PRIV_SENT, Reg.ETH.FP_DROP] s t)
  -- DL_FLOOR_WRITE: once per reset
  ∧ (∀ (s : State) (v : BitVec 32), s.hostUp = true → s.on Reg.KILN.STATUS.FLOOR_SET = false →
    ∃ t, exec (.dlFloorWrite v) s = .next t ∧ t.get Reg.KILN.DL_FLOOR.FLOOR = v.toNat
      ∧ t.on Reg.KILN.STATUS.FLOOR_SET = true ∧ Frame [] [Reg.KILN.DL_FLOOR.FLOOR, Reg.KILN.STATUS.FLOOR_SET] [] s t)
  ∧ (∀ (s : State) (v : BitVec 32), s.hostUp = true → s.on Reg.KILN.STATUS.FLOOR_SET = true →
    ∃ t, exec (.dlFloorWrite v) s = .next t ∧ t.safe.fault.valid = true ∧ Frame signalled [] [Reg.ETH.PRIV_SENT, Reg.ETH.FP_DROP] s t)
  -- TAMPER of a running part in READY zeroises: Kiln is ZEROISED, source 226, FAULT_N's cause latched
  ∧ (∀ (s : State) (src : TamperSource), s.fires src = true → s.up = true → s.kilnState = 2 → s.kiln.reqs = [] →
      s.rx.groups = [] →
    ∃ t, exec (.tamper src) s = .next t ∧ t.kilnState = 4 ∧ t.pends 226
      ∧ t.kiln = { s.kiln with slots := [], cache := [], root := none, update := none, drbg := none, gens := 0 }
      ∧ t.otp = { s.otp with zeroisations := s.otp.zeroisations + 1 }
      ∧ t.watch = { s.watch with tamper := s.watch.tamper ||| BitVec.ofNat 8 (2 ^ tamperBit src) }
      ∧ bitsAt (t.get Reg.SAFE.FAULT_CTL.CAUSE) 3 1 = 1
      ∧ Frame (.kiln :: .otp :: .watch :: signalled) [Reg.KILN.STATUS.STATE, Reg.SAFE.FAULT_CTL.CAUSE]
          [Reg.ETH.PRIV_SENT, Reg.ETH.FP_DROP] s t)
  -- of a part in Night latches the source and NIGHT alone
  ∧ (∀ (s : State) (src : TamperSource), s.fires src = true → s.power.phase = .night →
    ∃ t, exec (.tamper src) s = .next t
      ∧ t.watch = { s.watch with tamperNight := true,
                                 tamper := s.watch.tamper ||| BitVec.ofNat 8 (2 ^ tamperBit src + 128) }
      ∧ Frame [.watch] [] [] s t)
  -- at a start, before the root is regenerated, Kiln stays TAMPER_HELD
  ∧ (∀ (s : State) (src : TamperSource), s.fires src = true → s.power.phase = .boot → s.kilnState < 2 →
    ∃ t, exec (.tamper src) s = .next t ∧ t.kilnState = 3
      ∧ t.watch = { s.watch with tamper := s.watch.tamper ||| BitVec.ofNat 8 (2 ^ tamperBit src) }
      ∧ Frame [.watch] [Reg.KILN.STATUS.STATE] [] s t)
  -- what fires (R295): a pin only while its PIN_EN bit is 1, and it, VSTBY and a stopped clock for at least 1 µs
  ∧ (∀ (s : State) (k : Fin 4) (ns : Nat), (s.kiln.pinEn.getLsbD k = false ∨ ns < 1000) →
    exec (.tamper (.pin k ns)) s = .next s)
  ∧ (∀ (s : State) (uv ns : Nat), (1500000 ≤ uv ∨ ns < 1000) → exec (.tamper (.vstby uv ns)) s = .next s)
  ∧ (∀ (s : State) (hz ns : Nat), 0 < hz → 95 * 40960000 ≤ 100 * hz → 100 * hz ≤ 105 * 40960000 →
    exec (.tamper (.clock hz ns)) s = .next s)
  -- ENTROPY_FAULT: the failed test's flag, FAULT, source 224 and the fallback generator
  ∧ (∀ (s : State) (run same : Nat), s.logicUp = true → run ≤ 1024 → same ≤ 1024 → (41 ≤ run ∨ 841 ≤ same) →
    ∃ t, exec (.entropyFault run same) s = .next t ∧ t.on Reg.RNG.STATUS.FAULT = true
      ∧ t.on Reg.RNG.STATUS.FALLBACK = true ∧ t.pends 224 ∧ (41 ≤ run → t.on Reg.RNG.STATUS.RCT_FAIL = true)
      ∧ (841 ≤ same → t.on Reg.RNG.STATUS.APT_FAIL = true)
      ∧ t.kiln = { s.kiln with
          fallback := (if s.on Reg.RNG.STATUS.FALLBACK = true then s.kiln.fallback else beVal (s.kiln.last.take 8)),
          restartBad := s.on Reg.RNG.CTL.RESTART }
      ∧ Frame (.kiln :: signalled) [Reg.RNG.STATUS.FAULT, Reg.RNG.STATUS.FALLBACK, Reg.RNG.STATUS.RCT_FAIL,
          Reg.RNG.STATUS.APT_FAIL] [Reg.ETH.PRIV_SENT, Reg.ETH.FP_DROP] s t)
  -- RNG_RESTART starts the start-up test, once; RNG_RESTART_DONE ends it
  ∧ (∀ (s : State) (v : BitVec 32), s.hostUp = true → bitsAt v.toNat 0 1 = 1 → s.on Reg.RNG.CTL.RESTART = false →
    ∃ t, exec (.rngRestart v) s = .next t ∧ t.on Reg.RNG.CTL.RESTART = true ∧ t.on Reg.RNG.STATUS.TESTING = true
      ∧ t.kiln = { s.kiln with restartBad := false }
      ∧ Frame [.kiln] [Reg.RNG.CTL.RESTART, Reg.RNG.STATUS.TESTING] [] s t)
  ∧ (∀ (s : State) (v : BitVec 32), s.on Reg.RNG.CTL.RESTART = true → exec (.rngRestart v) s = .next s)
  ∧ (∀ (s : State) (run same : Nat), s.logicUp = true → s.on Reg.RNG.CTL.RESTART = true → run < 41 → same < 841 →
      s.kiln.restartBad = false →
    ∃ t, exec (.rngRestartDone run same) s = .next t ∧ t.on Reg.RNG.CTL.RESTART = false
      ∧ t.on Reg.RNG.STATUS.TESTING = false ∧ t.on Reg.RNG.STATUS.FAULT = false ∧ t.on Reg.RNG.STATUS.FALLBACK = false
      ∧ t.on Reg.RNG.STATUS.SEEDED = true
      ∧ t.pends 225 ∧ t.stat Reg.RNG.RESEEDS = (s.stat Reg.RNG.RESEEDS + 1) % 2 ^ 32
      ∧ t.kiln = { s.kiln with drbg := some (drbgSeed s.kiln.drbg (s.samples 96).2), gens := 0 }
      ∧ Frame (.kiln :: .free :: signalled) [Reg.RNG.CTL.RESTART, Reg.RNG.STATUS.TESTING, Reg.RNG.STATUS.SEEDED,
          Reg.RNG.STATUS.FAULT, Reg.RNG.STATUS.FALLBACK] [Reg.RNG.RESEEDS, Reg.ETH.PRIV_SENT, Reg.ETH.FP_DROP] s t)
  -- a sample that fails, then or while the test ran, leaves or makes a fault (log entry 111)
  ∧ (∀ (s : State) (run same : Nat), s.logicUp = true → s.on Reg.RNG.CTL.RESTART = true → run ≤ 1024 → same ≤ 1024 →
      (41 ≤ run ∨ 841 ≤ same) →
    ∃ t, exec (.rngRestartDone run same) s = .next t ∧ t.on Reg.RNG.CTL.RESTART = false
      ∧ t.on Reg.RNG.STATUS.TESTING = false ∧ t.on Reg.RNG.STATUS.FAULT = true ∧ t.on Reg.RNG.STATUS.FALLBACK = true
      ∧ t.pends 224 ∧ Frame (.kiln :: signalled) [Reg.RNG.CTL.RESTART, Reg.RNG.STATUS.TESTING, Reg.RNG.STATUS.FAULT,
          Reg.RNG.STATUS.FALLBACK, Reg.RNG.STATUS.RCT_FAIL, Reg.RNG.STATUS.APT_FAIL]
          [Reg.ETH.PRIV_SENT, Reg.ETH.FP_DROP] s t)
  ∧ (∀ (s : State) (run same : Nat), s.logicUp = true → s.on Reg.RNG.CTL.RESTART = true → run < 41 → same < 841 →
      s.kiln.restartBad = true →
    ∃ t, exec (.rngRestartDone run same) s = .next t ∧ t.on Reg.RNG.CTL.RESTART = false
      ∧ t.on Reg.RNG.STATUS.TESTING = false ∧ Frame [] [Reg.RNG.CTL.RESTART, Reg.RNG.STATUS.TESTING] [] s t)
  -- DRBG_RESEED after 65,536 generate requests
  ∧ (∀ s : State, s.logicUp = true → s.on Reg.RNG.STATUS.SEEDED = true → s.on Reg.RNG.STATUS.FAULT = false →
      65536 ≤ s.kiln.gens →
    ∃ t, exec .drbgReseed s = .next t
      ∧ t.kiln = { s.kiln with drbg := some (drbgSeed s.kiln.drbg (s.samples 96).2), gens := 0 }
      ∧ t.stat Reg.RNG.RESEEDS = (s.stat Reg.RNG.RESEEDS + 1) % 2 ^ 32
      ∧ Frame [.kiln, .free] [] [Reg.RNG.RESEEDS] s t)
  ∧ (∀ s : State, s.kiln.gens < 65536 → exec .drbgReseed s = .next s)
  -- PRESENCE_SAMPLE: PRESENT after 1,000 consecutive low samples, and no longer at the first high one
  ∧ (∀ s : State, s.logicUp = true →
    ∃ t, exec (.presenceSample true) s = .next t ∧ t.kiln = { s.kiln with present := min 1000 (s.kiln.present + 1) }
      ∧ (t.on Reg.KILN.STATUS.PRESENT = true ↔ 999 ≤ s.kiln.present)
      ∧ Frame [.kiln] [Reg.KILN.STATUS.PRESENT] [] s t)
  ∧ (∀ s : State, s.logicUp = true →
    ∃ t, exec (.presenceSample false) s = .next t ∧ t.kiln = { s.kiln with present := 0 }
      ∧ t.on Reg.KILN.STATUS.PRESENT = false ∧ Frame [.kiln] [Reg.KILN.STATUS.PRESENT] [] s t)

/-- What Kiln answers in each of its states (R268, R290, R293, R298), for the commands that need nothing more than
READY. Where the spec leaves a point of it open, the clause is the model's choice: log entries 96, 99, 100, 101. -/
def Obligations.KilnRefusals : Prop :=
  (∀ (s : State) (n : Fin 4096) (d : List Byte) (data : Option (List Byte)) (st : Status), s.cmdDue n = true →
      s.kilnWaits .plain = false →
      s.kilnRefuses .plain = some st →
    (Instr.wf (.keyLoadBlobs n d data) = true →
      exec (.keyLoadBlobs n d data) s = .next ((s.passDescriptor n).complete (s.cmdRef n d) st 0))
    ∧ (Instr.wf (.keyUpdate n d data) = true →
      exec (.keyUpdate n d data) s = .next ((s.passDescriptor n).complete (s.cmdRef n d) st 0))
    ∧ (Instr.wf (.keyCommit n d) = true →
      exec (.keyCommit n d) s = .next ((s.passDescriptor n).complete (s.cmdRef n d) st 0))
    ∧ (Instr.wf (.keyUnwrap n d data) = true →
      exec (.keyUnwrap n d data) s = .next ((s.passDescriptor n).complete (s.cmdRef n d) st 0))
    ∧ (Instr.wf (.keyDerive n d) = true →
      exec (.keyDerive n d) s = .next ((s.passDescriptor n).complete (s.cmdRef n d) st 0))
    ∧ (Instr.wf (.keyClear n d) = true →
      exec (.keyClear n d) s = .next ((s.passDescriptor n).complete (s.cmdRef n d) st 0))
    ∧ (Instr.wf (.keyInfo n d) = true →
      exec (.keyInfo n d) s = .next ((s.passDescriptor n).complete (s.cmdRef n d) st 0))
    ∧ (Instr.wf (.checkGen n d data) = true →
      exec (.checkGen n d data) s = .next ((s.passDescriptor n).complete (s.cmdRef n d) st 0))
    ∧ (Instr.wf (.checkVerify n d data) = true →
      exec (.checkVerify n d data) s = .next ((s.passDescriptor n).complete (s.cmdRef n d) st 0))
    ∧ (Instr.wf (.pubkeys n d) = true →
      exec (.pubkeys n d) s = .next ((s.passDescriptor n).complete (s.cmdRef n d) st 0))
    ∧ (Instr.wf (.cacheFlush n d) = true →
      exec (.cacheFlush n d) s = .next ((s.passDescriptor n).complete (s.cmdRef n d) st 0))
    ∧ (Instr.wf (.kilnBadOpcode n d) = true →
      exec (.kilnBadOpcode n d) s = .next ((s.passDescriptor n).complete (s.cmdRef n d) st 0)))
  -- TAMPER_HELD and ZEROISED answer TAMPER_HELD, ERROR answers INTERNAL, READY answers the command
  ∧ (∀ s : State, (s.kilnState = 3 ∨ s.kilnState = 4 → s.kilnRefuses .plain = some .tamperHeld)
      ∧ (s.kilnState = 5 → s.kilnRefuses .plain = some .internal) ∧ (s.kilnState = 2 → s.kilnRefuses .plain = none))
  -- ENROL in READY without presence, and RANDOM while the entropy source has failed
  ∧ (∀ (s : State) (n : Fin 4096) (d : List Byte) (data : Option (List Byte)), s.cmdDue n = true → s.kilnState = 2 →
      s.on Reg.KILN.STATUS.PRESENT = false → Instr.wf (.enrol n d data) = true →
      (s.on Reg.RNG.STATUS.SEEDED = true ∨ s.on Reg.RNG.STATUS.FAULT = true) →
    exec (.enrol n d data) s = .next ((s.passDescriptor n).complete (s.cmdRef n d) .presenceRequired 0))
  ∧ (∀ (s : State) (n : Fin 4096) (d : List Byte), s.cmdDue n = true → s.kilnState = 2 →
      s.on Reg.RNG.STATUS.FAULT = true → Instr.wf (.random n d) = true →
    exec (.random n d) s = .next ((s.passDescriptor n).complete (s.cmdRef n d) .entropyFault 0))

/-- Keys that arrive, leave or change by command (R272, R284 to R287, R298). Where the spec leaves a point of it open,
the clause is the model's choice: log entries 94, 96, 102, 103, 104, 105. -/
def Obligations.KeyCommands : Prop :=
  -- KEY_LOAD_BLOBS: the checks of R284 in order, and then every class N slot replaced at once
  (∀ (s : State) (n : Fin 4096) (d data m : List Byte), Instr.wf (.keyLoadBlobs n d (some data)) = true →
      s.kilnTakes n .plain = true → 24 ≤ kInLen d → kInLen d ≤ 196632 →
      s.firstBad false (leAt d 8 8) (kInLen d) = none → m = sliceB data 0 (kInLen d) →
    ∃ t st r, exec (.keyLoadBlobs n d (some data)) s = .next t ∧ Completes t (s.cmdRef n d) st r
      ∧ (if cmac s.blobMac (m.take (m.length - 16)) ≠ m.drop (m.length - 16) then st = .authFail
        else if beAt m 0 2 ≠ s.otp.updateCtr then st = .replay
        else if m.length ≠ 24 + 48 * beAt m 2 2 ∨ recordsLegal (keyRecords m 8 (beAt m 2 2)) = false
            ∨ ∃ x ∈ keyRecords m 8 (beAt m 2 2), attrClass x.attr ≠ 2 then st = .badField
        else match unwrapAll s.blobKey (keyRecords m 8 (beAt m 2 2)) with
          | none => st = .badField
          | some l => st = .done ∧ r = l.length
              ∧ t.kiln.slots = installed (s.kiln.slots.filter fun p => attrClass p.2.attr ≠ 2) l)
      ∧ (st ≠ .done → t.kiln = s.kiln) ∧ Frame (.kiln :: .rx :: signalled) [] ringWords s t)
  ∧ (∀ (s : State) (n : Fin 4096) (d : List Byte) (data : Option (List Byte)), Instr.wf (.keyLoadBlobs n d data) = true →
      s.kilnTakes n .plain = true → (kInLen d < 24 ∨ 196632 < kInLen d) →
    exec (.keyLoadBlobs n d data) s = .next ((s.passDescriptor n).complete (s.cmdRef n d) .badLength 0))
  -- an input that R237 does not allow, or whose read completes with an error, halts the ring (R239)
  ∧ (∀ (s : State) (n : Fin 4096) (d : List Byte) (data : Option (List Byte)) (a : Nat),
      Instr.wf (.keyLoadBlobs n d data) = true → s.kilnTakes n .plain = true → 24 ≤ kInLen d → kInLen d ≤ 196632 →
      s.firstBad false (leAt d 8 8) (kInLen d) = some a →
    exec (.keyLoadBlobs n d data) s
      = .next (((s.passDescriptor n).halt n .badAddress a).complete (s.cmdRef n d) .badAddress 0))
  ∧ (∀ (s : State) (n : Fin 4096) (d : List Byte), Instr.wf (.keyLoadBlobs n d none) = true →
      s.kilnTakes n .plain = true → 24 ≤ kInLen d → kInLen d ≤ 196632 →
      s.firstBad false (leAt d 8 8) (kInLen d) = none →
    exec (.keyLoadBlobs n d none) s
      = .next (((s.passDescriptor n).halt n .walkFault (leAt d 8 8)).complete (s.cmdRef n d) .walkFault 0))
  -- KEY_UPDATE: the first check of R286 that fails ends it; a message that passes becomes the pending update, and the
  -- blob set after it is written
  ∧ (∀ (s : State) (n : Fin 4096) (d data m : List Byte), Instr.wf (.keyUpdate n d (some data)) = true →
      s.kilnTakes n .plain = true → 400 ≤ kInLen d → kInLen d ≤ 1888 →
      s.firstBad false (leAt d 8 8) (kInLen d) = none → m = sliceB data 0 (kInLen d) →
    ∃ t st r, exec (.keyUpdate n d (some data)) s = .next t ∧ Completes t (s.cmdRef n d) st r
      ∧ (match (s.updateChecks m).find? (·.1) with
        | some p => st = p.2 ∧ r = 0 ∧ t.kiln = s.kiln
        | none => match (s.updateKek m).bind fun kek => unwrapAll kek (keyRecords m 256 (beAt m 5 1)) with
          | none => st = .authFail ∧ r = 0 ∧ t.kiln = s.kiln
          | some l =>
            if leAt d 28 4 < (s.blobSet (beAt m 24 2) (installed s.kiln.slots l)).length then
              st = .badLength ∧ r = 0 ∧ t.kiln = s.kiln
            else if s.firstBad true (leAt d 20 8) (s.blobSet (beAt m 24 2) (installed s.kiln.slots l)).length ≠ none then
              st = .badAddress ∧ r = 0 ∧ t.kiln = s.kiln
            else st = .done ∧ r = (s.blobSet (beAt m 24 2) (installed s.kiln.slots l)).length
              ∧ t.kiln = { s.kiln with update := some ⟨beAt m 24 2, l⟩ })
      ∧ Frame (.kiln :: signalled) [] ringWords s t)
  -- KEY_COMMIT of the pending update: OTP counter, slots, cache and source 229
  ∧ (∀ (s : State) (n : Fin 4096) (d : List Byte) (u : KeyUpdate), Instr.wf (.keyCommit n d) = true →
      s.kilnTakes n .plain = true → s.kiln.update = some u → u.counter = kSlot d →
    ∃ t, exec (.keyCommit n d) s = .next t ∧ Completes t (s.cmdRef n d) .done u.counter
      ∧ t.otp = { s.otp with updateCtr := u.counter }
      ∧ t.get Reg.KILN.STATUS.UPDATE_CTR = u.counter % 4096 ∧ t.kiln.slots = installed s.kiln.slots u.records
      ∧ t.kiln.update = none ∧ (∀ e ∈ t.kiln.cache, s.cacheQueued e.1 = true) ∧ t.pends 229
      ∧ Frame (.kiln :: .otp :: .rx :: signalled) [Reg.KILN.STATUS.UPDATE_CTR] ringWords s t)
  ∧ (∀ (s : State) (n : Fin 4096) (d : List Byte), Instr.wf (.keyCommit n d) = true → s.kilnTakes n .plain = true →
      (∀ u, s.kiln.update = some u → u.counter ≠ kSlot d) →
    exec (.keyCommit n d) s = .next ((s.passDescriptor n).complete (s.cmdRef n d) .notFound 0))
  -- KEY_UNWRAP: an integrity check that fails stores nothing
  ∧ (∀ (s : State) (n : Fin 4096) (d data : List Byte) (x : Slot), Instr.wf (.keyUnwrap n d (some data)) = true →
      s.kilnTakes n .plain = true → s.targetBad d = false → kInLen d = wrappedLen (kAttr d) →
      s.firstBad false (leAt d 8 8) (kInLen d) = none → s.sourceError (kSlot d) useWrap = none →
      s.slot? (kSlot d) = some x →
    ∃ t st, exec (.keyUnwrap n d (some data)) s = .next t ∧ Completes t (s.cmdRef n d) st 0
      ∧ (match kwUnwrap x.key (sliceB data 0 (kInLen d)) with
        | some k => st = .done ∧ t.kiln = { s.kiln with slots := Tbl.put s.kiln.slots (kSlot2 d) ⟨kAttr d, k⟩ }
        | none => st = .authFail ∧ t.kiln = s.kiln)
      ∧ Frame (.kiln :: signalled) [] ringWords s t)
  -- KEY_DERIVE
  ∧ (∀ (s : State) (n : Fin 4096) (d : List Byte) (x : Slot), Instr.wf (.keyDerive n d) = true →
      s.kilnTakes n .plain = true → s.targetBad d = false → s.sourceError (kSlot d) useDerive = none →
      s.slot? (kSlot d) = some x →
    ∃ t, exec (.keyDerive n d) s = .next t ∧ Completes t (s.cmdRef n d) .done 0
      ∧ t.kiln = { s.kiln with slots := Tbl.put s.kiln.slots (kSlot2 d) ⟨kAttr d,
          kdfKey x.key [0x57, 0x58, 0x53, 0x31] (sliceB d 37 8) (attrLen256 (kAttr d))⟩ }
      ∧ Frame (.kiln :: signalled) [] ringWords s t)
  -- of a target or attributes that are wrong, or a source whose use fails
  ∧ (∀ (s : State) (n : Fin 4096) (d : List Byte) (data : Option (List Byte)), s.kilnTakes n .plain = true →
      s.targetBad d = true →
    (Instr.wf (.keyUnwrap n d data) = true →
      exec (.keyUnwrap n d data) s = .next ((s.passDescriptor n).complete (s.cmdRef n d) .badField 0))
    ∧ (Instr.wf (.keyDerive n d) = true →
      exec (.keyDerive n d) s = .next ((s.passDescriptor n).complete (s.cmdRef n d) .badField 0)))
  ∧ (∀ (s : State) (n : Fin 4096) (d : List Byte) (st : Status), Instr.wf (.keyDerive n d) = true →
      s.kilnTakes n .plain = true → s.targetBad d = false → s.sourceError (kSlot d) useDerive = some st →
    exec (.keyDerive n d) s = .next (((s.passDescriptor n).countKeyError st).complete (s.cmdRef n d) st 0))
  -- a source needs its USES bit and class N, and a count that has run out ends its use (R273)
  ∧ (∀ (s : State) (k use : Nat), (s.slot? k = none → s.sourceError k use = some .notFound)
    ∧ (∀ x, s.slot? k = some x → bitsAt x.attr use 1 = 0 → s.sourceError k use = some .badKeyUse)
    ∧ (∀ x, s.slot? k = some x → bitsAt x.attr use 1 = 1 → attrClass x.attr = 1 → attrCount x.attr = 0 →
        attrExp x.attr = false → s.sourceError k use = some .keyExpired)
    ∧ (∀ x, s.slot? k = some x → s.sourceError k use = none → attrClass x.attr = 2))
  -- KEY_CLEAR empties a slot that no enabled KEYMAP entry names
  ∧ (∀ (s : State) (n : Fin 4096) (d : List Byte), Instr.wf (.keyClear n d) = true → s.kilnTakes n .plain = true →
      kSlot d < 4096 → s.mapNames (kSlot d) = false →
    ∃ t, exec (.keyClear n d) s = .next t ∧ Completes t (s.cmdRef n d) .done 0
      ∧ t.kiln.slots = Tbl.erase s.kiln.slots (kSlot d)
      ∧ (∀ e ∈ t.kiln.cache, e.2.slot = kSlot d → s.cacheQueued e.1 = true)
      ∧ Frame (.kiln :: .rx :: signalled) [] ringWords s t)
  ∧ (∀ (s : State) (n : Fin 4096) (d : List Byte), Instr.wf (.keyClear n d) = true → s.kilnTakes n .plain = true →
      (4096 ≤ kSlot d ∨ s.mapNames (kSlot d) = true) →
    exec (.keyClear n d) s = .next ((s.passDescriptor n).complete (s.cmdRef n d) .badField 0))
  -- KEY_INFO writes ATTR, and never the key
  ∧ (∀ (s : State) (n : Fin 4096) (d : List Byte) (x : Slot), Instr.wf (.keyInfo n d) = true →
      s.kilnTakes n .plain = true → kSlot d < 4096 → s.slot? (kSlot d) = some x → 4 ≤ leAt d 28 4 →
      s.firstBad true (leAt d 20 8) 4 = none →
    exec (.keyInfo n d) s = .next (((s.passDescriptor n).dmaWrite (leAt d 20 8) (leBytes 4 x.attr)).complete
      (s.cmdRef n d) .done x.attr))

/-- Host checks, random output, attestation, the presence commands and the cache (R277, R279, R280, R290, R292 to
R294, R297, R298). Where the spec leaves a point of it open, the clause is the model's choice: log entries 95, 98,
101, 102, 103, 106, 107. -/
def Obligations.KilnServices : Prop :=
  -- CHECK_GEN and CHECK_VERIFY: their requests enter the check engine's queue
  (∀ (s : State) (n : Fin 4096) (d data : List Byte), Instr.wf (.checkGen n d (some data)) = true →
      s.kilnTakes n .plain = true → kTrunc d ≠ 0 → kSlot d < 4096 → kInLen d ≤ 65535 →
      (s.approved = true → kTrunc d ≠ 4) → s.firstBad false (leAt d 8 8) (kInLen d) = none → s.queueRoom 2 = true →
      kTrunc d ≤ leAt d 28 4 → s.firstBad true (leAt d 20 8) (kTrunc d) = none →
    ∃ t, exec (.checkGen n d (some data)) s = .next t
      ∧ t.kiln = { s.kiln with nextReq := s.kiln.nextReq + 1, reqs := (Tbl.put s.kiln.reqs s.kiln.nextReq
          { why := .hostGen (s.cmdRef n d) (leAt d 20 8), key := .slot (kSlot d), kc := none, verify := false,
            trunc := kTrunc d, msg := sliceB data 0 (kInLen d), tag := [], admitted := none, since := s.counterNs }) }
      ∧ Frame (.kiln :: signalled) [] ringWords s t)
  ∧ (∀ (s : State) (n : Fin 4096) (d data : List Byte), Instr.wf (.checkVerify n d (some data)) = true →
      s.kilnTakes n .plain = true → kTrunc d ≠ 0 → kSlot d < 4096 → kInLen d ≤ 65535 →
      (s.approved = true → kTrunc d ≠ 4) → s.firstBad false (leAt d 8 8) (kInLen d) = none → s.queueRoom 2 = true →
    ∃ t, exec (.checkVerify n d (some data)) s = .next t
      ∧ t.kiln = { s.kiln with nextReq := s.kiln.nextReq + 1, reqs := (Tbl.put s.kiln.reqs s.kiln.nextReq
          { why := .hostVerify (s.cmdRef n d), key := .slot (kSlot d), kc := none, verify := true,
            trunc := kTrunc d, msg := sliceB data 0 (kInLen d), tag := sliceB d 37 (kTrunc d), admitted := none, since := s.counterNs }) }
      ∧ Frame (.kiln :: signalled) [] ringWords s t)
  -- the rejections of both: a truncation of 0, a 4-byte one in approved mode, a full queue
  ∧ (∀ (s : State) (n : Fin 4096) (d : List Byte) (data : Option (List Byte)), s.kilnTakes n .plain = true →
    (Instr.wf (.checkGen n d data) = true → (kTrunc d = 0 ∨ 4096 ≤ kSlot d) →
      exec (.checkGen n d data) s = .next ((s.passDescriptor n).complete (s.cmdRef n d) .badField 0))
    ∧ (Instr.wf (.checkVerify n d data) = true → kSlot d < 4096 → kInLen d ≤ 65535 → s.approved = true → kTrunc d = 4 →
      exec (.checkVerify n d data) s
        = .next ((s.passDescriptor n).approvedReject.complete (s.cmdRef n d) .badKeyUse 0))
    ∧ (Instr.wf (.checkVerify n d data) = true → kTrunc d ≠ 0 → kSlot d < 4096 → kInLen d ≤ 65535 →
      (s.approved = true → kTrunc d ≠ 4) → s.firstBad false (leAt d 8 8) (kInLen d) = none → s.queueRoom 2 = false →
      data ≠ none → exec (.checkVerify n d data) s
        = .next (((s.passDescriptor n).dmaRead (leAt d 8 8) (kInLen d)).complete (s.cmdRef n d) .busy 0)))
  -- RANDOM: 1 to 4,096 bytes, fresh ones each time
  ∧ (∀ (s : State) (n : Fin 4096) (d : List Byte), Instr.wf (.random n d) = true →
      s.kilnTakes n ⟨false, false, false, true⟩ = true → 1 ≤ leAt d 28 4 → leAt d 28 4 ≤ 4096 →
      s.firstBad true (leAt d 20 8) (leAt d 28 4) = none →
    exec (.random n d) s = .next ((((s.passDescriptor n).draw (leAt d 28 4)).1.dmaWrite (leAt d 20 8)
      ((s.passDescriptor n).draw (leAt d 28 4)).2).complete (s.cmdRef n d) .done 0))
  -- a draw is one generate request of the DRBG, which is seeded first where its state is gone (R288)
  ∧ (∀ (s : State) (k : Nat), (s.draw k).2.length = k ∧ (s.draw k).1.kiln.last = (s.draw k).2
      ∧ (s.kiln.drbg ≠ none → (s.draw k).1.kiln.gens = s.kiln.gens + 1 ∧ Frame [.kiln] [] [] s (s.draw k).1)
      ∧ (s.kiln.drbg = none → (s.draw k).1.kiln.gens = 1 ∧ Frame [.kiln, .free] [] [] s (s.draw k).1))
  ∧ (∀ (s : State) (n : Fin 4096) (d : List Byte), Instr.wf (.random n d) = true →
      s.kilnTakes n ⟨false, false, false, true⟩ = true → (leAt d 28 4 = 0 ∨ 4096 < leAt d 28 4) →
    exec (.random n d) s = .next ((s.passDescriptor n).complete (s.cmdRef n d) .badLength 0))
  -- ATTEST: the statement, signed in READY, with zeros in place of the signature in TAMPER_HELD, ZEROISED and ERROR
  ∧ (∀ (s : State) (n : Fin 4096) (d m : List Byte), Instr.wf (.attest n d) = true →
      s.kilnTakes n ⟨true, false, false, true⟩ = true → leAt d 36 1 ≤ 32 → 3 ≤ s.kilnState →
      m = (s.passDescriptor n).statement (nonceOf d (leAt d 36 1)) → m.length + 96 ≤ leAt d 28 4 →
      s.firstBad true (leAt d 20 8) (m.length + 96) = none →
    exec (.attest n d) s = .next (((s.passDescriptor n).dmaWrite (leAt d 20 8)
      (m ++ List.replicate 96 0)).complete (s.cmdRef n d) .done 0))
  ∧ (∀ (s : State) (n : Fin 4096) (d m g : List Byte), Instr.wf (.attest n d) = true →
      s.kilnTakes n ⟨true, false, false, true⟩ = true → leAt d 36 1 ≤ 32 → s.kilnState = 2 →
      m = (s.passDescriptor n).statement (nonceOf d (leAt d 36 1)) →
      g = ecdsaSign s.attestKey (Config.signSecret ((s.passDescriptor n).draw 56).2) m → (m ++ g).length ≤ leAt d 28 4 →
      s.firstBad true (leAt d 20 8) (m ++ g).length = none →
    exec (.attest n d) s = .next ((((s.passDescriptor n).draw 56).1.dmaWrite (leAt d 20 8) (m ++ g)).complete
      (s.cmdRef n d) .done 0))
  -- PUBKEYS: the attestation key, then the update key
  ∧ (∀ (s : State) (n : Fin 4096) (d k : List Byte), Instr.wf (.pubkeys n d) = true → s.kilnTakes n .plain = true →
      k = publicKey s.attestKey ++ publicKey s.updateKey → k.length ≤ leAt d 28 4 →
      s.firstBad true (leAt d 20 8) k.length = none →
    exec (.pubkeys n d) s = .next (((s.passDescriptor n).dmaWrite (leAt d 20 8) k).complete
      (s.cmdRef n d) .done 0))
  -- ENROL: the digest goes into the next record, which becomes active
  ∧ (∀ (s : State) (n : Fin 4096) (d data : List Byte), Instr.wf (.enrol n d (some data)) = true →
      s.kilnTakes n ⟨false, false, true, true⟩ = true → s.otp.active = 0 → s.otp.enrol.length < 8 → kInLen d = 97 →
      s.firstBad false (leAt d 8 8) 97 = none →
    ∃ t, exec (.enrol n d (some data)) s = .next t ∧ Completes t (s.cmdRef n d) .done (s.otp.enrol.length + 1)
      ∧ t.otp = { s.otp with enrol := s.otp.enrol ++ [sha384 (sliceB data 0 97)], active := s.otp.enrol.length + 1 }
      ∧ t.get Reg.KILN.STATUS.ENROL_REC = s.otp.enrol.length + 1
      ∧ Frame (.kiln :: .otp :: .free :: signalled) [Reg.KILN.STATUS.ENROL_REC] ringWords s t)
  ∧ (∀ (s : State) (n : Fin 4096) (d : List Byte) (data : Option (List Byte)), Instr.wf (.enrol n d data) = true →
      s.kilnTakes n ⟨false, false, true, true⟩ = true → s.otp.active = 0 → 8 ≤ s.otp.enrol.length →
    exec (.enrol n d data) s = .next ((s.passDescriptor n).complete (s.cmdRef n d) .tableFull 0))
  -- ZEROISE_REENROL: zeroised, new helper data, the record deactivated, and the part resets
  ∧ (∀ (s : State) (n : Fin 4096) (d : List Byte), Instr.wf (.zeroiseReenrol n d) = true →
      s.kilnTakes n ⟨false, false, true, true⟩ = true → s.otp.enrol.length < 8 →
    ∃ t, exec (.zeroiseReenrol n d) s = .next t ∧ t.power.phase = .mem ∧ t.kiln = .init
      ∧ t.otp = { s.otp with helper := beVal ((s.passDescriptor n).draw 4096).2, active := 0,
                               zeroisations := s.otp.zeroisations + 1 }
      ∧ t.watch = s.watch)
  -- DEBUG_UNLOCK: zeroised, the debug port open; never in approved mode
  ∧ (∀ (s : State) (n : Fin 4096) (d : List Byte), Instr.wf (.debugUnlock n d) = true →
      s.kilnTakes n ⟨false, false, true, false⟩ = true → s.approved = false → s.kiln.reqs = [] → s.rx.groups = [] →
    ∃ t, exec (.debugUnlock n d) s = .next t ∧ Completes t (s.cmdRef n d) .done 0 ∧ t.kilnState = 4
      ∧ t.on Reg.KILN.STATUS.DEBUG_OPEN = true
      ∧ t.kiln = { s.kiln with slots := [], cache := [], root := none, update := none, drbg := none,
                                 gens := 0 }
      ∧ t.otp = { s.otp with zeroisations := s.otp.zeroisations + 1 }
      ∧ Frame (.kiln :: .otp :: signalled) [Reg.KILN.STATUS.STATE, Reg.KILN.STATUS.DEBUG_OPEN, Reg.SAFE.FAULT_CTL.CAUSE]
          ringWords s t)
  ∧ (∀ (s : State) (n : Fin 4096) (d : List Byte), Instr.wf (.debugUnlock n d) = true →
      s.kilnTakes n ⟨false, false, true, false⟩ = true → s.approved = true →
    exec (.debugUnlock n d) s = .next ((s.passDescriptor n).approvedReject.complete (s.cmdRef n d) .badField 0))
  -- TAMPER_ACK: the latches are cleared, and the part resets
  ∧ (∀ (s : State) (n : Fin 4096) (d : List Byte), Instr.wf (.tamperAck n d) = true →
      s.kilnTakes n ⟨false, true, true, false⟩ = true →
    ∃ t, exec (.tamperAck n d) s = .next t ∧ t.watch = { s.watch with tamper := 0 } ∧ t.power.phase = .mem
      ∧ t.otp = s.otp ∧ t.kiln = .init)
  -- CACHE_FLUSH: no entry of the network and address is left but those a request still uses
  ∧ (∀ (s : State) (n : Fin 4096) (d : List Byte), Instr.wf (.cacheFlush n d) = true → s.kilnTakes n .plain = true →
    ∃ t, exec (.cacheFlush n d) s = .next t
      ∧ (∀ e ∈ t.kiln.cache, e.2.net = leAt d 36 1 → (leAt d 8 4 = 0xFFFFFFFF ∨ e.2.addr = leAt d 8 4) →
          s.cacheQueued e.1 = true)
      ∧ (∀ e ∈ s.kiln.cache, e.2.doomed = false → (e.2.net ≠ leAt d 36 1
          ∨ (leAt d 8 4 ≠ 0xFFFFFFFF ∧ e.2.addr ≠ leAt d 8 4)) → e ∈ t.kiln.cache)
      ∧ Completes t (s.cmdRef n d) .done (s.kiln.cache.filter fun e => e.2.net = leAt d 36 1
          && (leAt d 8 4 = 0xFFFFFFFF || e.2.addr = leAt d 8 4)).length
      ∧ Frame (.kiln :: signalled) [] ringWords s t)
  -- KILN_BAD_OPCODE
  ∧ (∀ (s : State) (n : Fin 4096) (d : List Byte), Instr.wf (.kilnBadOpcode n d) = true →
      s.kilnTakes n .plain = true →
    exec (.kilnBadOpcode n d) s = .next ((s.passDescriptor n).complete (s.cmdRef n d) .badOpcode 0))

/-- Copies arrive at the active head (R151 to R155, R158): segments, frame records and END notices, the closing of
segments and windows, and the Blend decoders. Where the spec leaves a point of it open, the clause is the model's
choice: log entries 49, 50, 51, 52, 53. -/
def Obligations.GroupCommands : Prop :=
  -- SEGMENT_ARRIVAL: the first segment of a copy that no group takes opens a group
  (∀ (s : State) (f : Fin 6) (i : CopyInfo) (head : List Byte) (phy : Nat) (bits : List Bool) (llrs : List Int)
      (l : List UpMsg), s.live = true → s.upMsgs f = .segment i 0 head phy bits llrs :: l →
      s.groupOfCopy i.serial = none → s.groupFor i = none →
      (macClass head ≠ 0 ∨ macCvlen head = 0 ∨ s.kilnReady = false) →
    ∃ t, exec (.segmentArrival f) s = .next t ∧ t.upMsgs f = l
      ∧ t.rx = { s.rx with nextGroup := s.rx.nextGroup + 1, nextOrder := s.rx.nextOrder + 1, groups := (Tbl.put s.rx.groups
          s.rx.nextGroup { s.freshGroup i with
            copies := [⟨i, phy, head, [⟨0, bits, llrs, s.rx.nextOrder⟩], none, 0, false⟩] }) }
      ∧ (∀ g, g ≠ f.val → t.upMsgs g = s.upMsgs g) ∧ Frame [.air, .rx] [] [] s t)
  -- one that a group takes joins the oldest such group, late where the group has closed
  ∧ (∀ (s : State) (f : Fin 6) (i : CopyInfo) (head : List Byte) (phy : Nat) (bits : List Bool) (llrs : List Int)
      (l : List UpMsg) (id : Nat) (g : Group), s.live = true → s.upMsgs f = .segment i 0 head phy bits llrs :: l →
      s.groupOfCopy i.serial = none → s.groupFor i = some (id, g) → (∀ c ∈ g.copies, c.info.serial ≠ i.serial) →
      (macClass head ≠ 0 ∨ macCvlen head = 0 ∨ s.kilnReady = false) →
    ∃ t g' c, exec (.segmentArrival f) s = .next t ∧ t.upMsgs f = l ∧ t.group? id = some g'
      ∧ g'.copies = g.copies ++ [c] ∧ c.info = i ∧ c.record = none
      ∧ (g.profile ≠ 0 → g.closed = true → c.late = true ∧ c.segs = []
          ∧ t.stat Reg.BLEND.LATE_COPIES = (s.stat Reg.BLEND.LATE_COPIES + 1) % 2 ^ 32)
      ∧ (g.profile = 0 ∨ (g.closed = false ∧ g.closedSegs = []) → c.late = false ∧ c.segs = [⟨0, bits, llrs, s.rx.nextOrder⟩])
      ∧ (∀ j, j ≠ id → t.group? j = s.group? j) ∧ Frame [.air, .rx] [] [Reg.BLEND.LATE_COPIES] s t)
  -- a later segment of a copy that no group holds is discarded
  ∧ (∀ (s : State) (f : Fin 6) (i : CopyInfo) (ix : Nat) (head : List Byte) (phy : Nat) (bits : List Bool)
      (llrs : List Int) (l : List UpMsg), s.live = true → s.upMsgs f = .segment i (ix + 1) head phy bits llrs :: l →
      s.groupOfCopy i.serial = none →
    ∃ t, exec (.segmentArrival f) s = .next t ∧ t.upMsgs f = l ∧ Frame [.air] [] [] s t)
  -- what a group takes (R151): the same network, rate, grid channel and LEN, within TS_TOL of its first copy
  ∧ (∀ (g : Group) (b : BlendForce) (i : CopyInfo), g.takes b i = true →
    g.net = i.net ∧ g.rate = i.rate ∧ g.grid = i.grid ∧ g.len = i.len ∧ g.heldOut = false
      ∧ (∀ f, g.die = some f → f = i.f)
      ∧ i.syncNs - g.firstNs ≤ ((if g.prov then g.cfg.tsTol else b.tsTol) * 250 : Nat)
      ∧ g.firstNs - i.syncNs ≤ ((if g.prov then g.cfg.tsTol else b.tsTol) * 250 : Nat))
  -- FRAME_RECORD_ARRIVAL, Reach or Thrift: the first record of a group makes it provisional under the profile and
  -- BLEND.CFG in force, which settle whose copies it holds
  ∧ (∀ (s : State) (f : Fin 6) (r : FrameRecord) (l : List UpMsg) (id : Nat) (g x : Group) (c : Copy), s.live = true →
      s.upMsgs f = .record r :: l → s.groupOfCopy r.info.serial = some (id, g) → g.copy? r.info.serial = some c →
      c.late = false → s.profile ≠ 0 → g.prov = false → g.counted = false →
      x = (s.regroup id (g.setCopy { c with record := some (r.lqi, r.done), recordAt := s.rx.nextOrder, phy := r.phy,
                                            head := r.head }) r.info.f).2 → x.copies.length ≤ 8 →
    ∃ t, exec (.frameRecordArrival f) s = .next t ∧ t.upMsgs f = l
      ∧ t.group? id = some { x with prov := true, profile := s.profile, cfg := s.blendForce, closed := false }
      ∧ t.stat Reg.BLEND.PROV_SEEN = (s.stat Reg.BLEND.PROV_SEEN + 1) % 2 ^ 32
      ∧ Frame [.air, .rx] [] [Reg.BLEND.PROV_SEEN] s t)
  -- in Thrift the copies of the record's die (R157)
  ∧ (∀ (s : State) (id f : Nat) (g : Group), s.profile = 2 →
    (s.regroup id g f).2 = { g with die := some f, copies := g.copies.filter fun c => c.info.f = f })
  -- elsewhere those of every die: the copies of the groups not yet provisional that hold the same frame join it
  ∧ (∀ (s : State) (id f : Nat) (g : Group), s.profile ≠ 2 →
    ∃ l : List (Nat × Group), (s.regroup id g f).2 = { g with die := none, copies := g.copies ++ l.flatMap (·.2.copies) }
      ∧ (∀ p, p ∈ l ↔ p ∈ s.rx.groups ∧ p.1 ≠ id ∧ p.2.prov = false
          ∧ ∃ c, p.2.copies.head? = some c ∧ ({ g with die := none } : Group).takes s.blendForce c.info = true)
      ∧ ∀ p ∈ l, p ∉ (s.regroup id g f).1.rx.groups)
  -- a later one within the window joins, and of nine copies the lowest LQI goes; nothing is counted before the frame is
  -- confirmed or ends (R17, R156)
  ∧ (∀ (s : State) (f : Fin 6) (r : FrameRecord) (l : List UpMsg) (id : Nat) (g x : Group) (c : Copy), s.live = true →
      s.upMsgs f = .record r :: l → s.groupOfCopy r.info.serial = some (id, g) → g.copy? r.info.serial = some c →
      c.late = false → g.profile ≠ 0 → g.prov = true → g.closed = false → g.counted = false →
      x = g.setCopy { c with record := some (r.lqi, r.done), recordAt := s.rx.nextOrder, phy := r.phy, head := r.head } →
    ∃ t g', exec (.frameRecordArrival f) s = .next t ∧ t.group? id = some g'
      ∧ (x.kept.length ≤ 8 → g' = x)
      ∧ (8 < x.kept.length → g'.surplus = g.surplus + 1 ∧ ∃ b, (rankCopies x.kept).getLast? = some b
          ∧ g'.copies = x.copies.map fun y => if y.info.serial = b.info.serial then { b with late := true } else y)
      ∧ Frame [.air, .rx] [] [] s t)
  -- what a group counts once its frame is confirmed or ended (R17, R152, R156), and once only
  ∧ (∀ (s : State) (id : Nat) (g : Group), s.group? id = some g → g.prov = true → g.counted = false →
    ∃ t, s.countGroup id = t ∧ t.group? id = some { g with counted := true }
      ∧ t.stat Reg.BLEND.GROUPS = (s.stat Reg.BLEND.GROUPS + 1) % 2 ^ 32
      ∧ t.stat Reg.BLEND.COPIES = (s.stat Reg.BLEND.COPIES
          + ((g.copies.filter fun c => c.record.isSome && !c.late).length + g.surplus)) % 2 ^ 32
      ∧ t.stat Reg.BLEND.OVER_EIGHT = (s.stat Reg.BLEND.OVER_EIGHT + g.surplus) % 2 ^ 32
      ∧ Frame [.rx] [] [Reg.BLEND.GROUPS, Reg.BLEND.COPIES, Reg.BLEND.OVER_EIGHT] s t)
  ∧ (∀ (s : State) (id : Nat) (g : Group), s.group? id = some g → (g.prov = false ∨ g.counted = true) →
    s.countGroup id = s)
  -- one that arrives with the close or later is late; so is one whose group has been released
  ∧ (∀ (s : State) (f : Fin 6) (r : FrameRecord) (l : List UpMsg) (id : Nat) (g : Group) (c : Copy), s.live = true →
      s.upMsgs f = .record r :: l → s.groupOfCopy r.info.serial = some (id, g) → g.copy? r.info.serial = some c →
      c.late = false → g.profile ≠ 0 → g.prov = true → g.closed = true →
    ∃ t, exec (.frameRecordArrival f) s = .next t ∧ t.group? id = some (g.dropCopy r.info.serial)
      ∧ t.stat Reg.BLEND.LATE_COPIES = (s.stat Reg.BLEND.LATE_COPIES + 1) % 2 ^ 32
      ∧ Frame [.air, .rx] [] [Reg.BLEND.LATE_COPIES] s t)
  ∧ (∀ (s : State) (f : Fin 6) (r : FrameRecord) (l : List UpMsg), s.live = true → s.upMsgs f = .record r :: l →
      s.groupOfCopy r.info.serial = none →
    ∃ t, exec (.frameRecordArrival f) s = .next t
      ∧ t.stat Reg.BLEND.LATE_COPIES = (s.stat Reg.BLEND.LATE_COPIES + 1) % 2 ^ 32
      ∧ Frame [.air] [] [Reg.BLEND.LATE_COPIES] s t)
  -- END_NOTICE_ARRIVAL of the last copy of a group without a record: nothing is left of it
  ∧ (∀ (s : State) (f : Fin 6) (serial : Nat) (b : Bool) (l : List UpMsg) (id : Nat) (g : Group), s.live = true →
      s.upMsgs f = .endNotice serial b :: l → s.groupOfCopy serial = some (id, g) →
      (∀ c ∈ g.copies, c.info.serial = serial) → g.prov = false →
    ∃ t, exec (.endNoticeArrival f) s = .next t ∧ t.upMsgs f = l ∧ t.group? id = none
      ∧ (∀ j, j ≠ id → t.group? j = s.group? j) ∧ Frame [.air, .rx, .kiln] [] [] s t)
  -- of another: the copy leaves the group
  ∧ (∀ (s : State) (f : Fin 6) (serial : Nat) (b : Bool) (l : List UpMsg) (id : Nat) (g : Group), s.live = true →
      s.upMsgs f = .endNotice serial b :: l → s.groupOfCopy serial = some (id, g) →
      (∃ c ∈ g.copies, c.info.serial ≠ serial) → g.prov = false → g.todo = [] → g.heldOut = false →
    ∃ t, exec (.endNoticeArrival f) s = .next t ∧ t.group? id = some (g.dropCopy serial)
      ∧ Frame [.air, .rx] [] [] s t)
  -- SEGMENT_CLOSE
  ∧ (∀ (s : State) (id seg : Nat) (g : Group), s.live = true → s.group? id = some g → g.profile ≠ 0 →
      g.closed = false → seg + 1 < segCount (codedBits g.len) → seg ∉ g.closedSegs →
      (∃ c ∈ g.copies, ∃ x ∈ c.segs, x.ix = seg) →
    ∃ t, exec (.segmentClose id seg) s = .next t
      ∧ t.rx = { s.rx with groups := Tbl.put s.rx.groups id { g with closedSegs := g.closedSegs ++ [seg] } }
      ∧ Frame [.rx] [] [] s t)
  -- WINDOW_CLOSE with the combined result first on the list: every segment is closed, and Blend decodes
  ∧ (∀ (s : State) (id : Nat) (g : Group), s.live = true → s.group? id = some g → g.prov = true → g.closed = false →
      g.profile ≠ 0 → s.on Reg.BLEND.ELK.EN = false → g.results.1 = true → g.combined = none → g.checking = none →
      g.passed = none →
    ∃ t, exec (.windowClose id) s = .next t
      ∧ t.group? id = some { g with
            closed := true, closedSegs := List.range (segCount (codedBits g.len)), wantsCombined := true,
            todo := .combined :: g.doneCopies.map fun c => .copy c.info.serial }
      ∧ Frame [.rx] [] [] s t)
  -- WINDOW_CLOSE with one DONE copy and a check value: it goes to Kiln
  ∧ (∀ (s : State) (id : Nat) (g : Group) (n : Nat) (h : List Byte), s.live = true → s.group? id = some g →
      g.prov = true → g.closed = false → g.profile ≠ 0 → s.on Reg.BLEND.ELK.EN = false →
      g.results = (false, [.copy n]) → g.checking = none → g.passed = none → h = g.frame (.copy n) →
      cvBytes (macCvlen h) ≠ 0 → macClass h ≠ 0 → s.kilnReady = true → s.approved = false →
      s.on (Reg.KILN.KEYMAP.EN g.net (macClass h) (macIndex h)) = true →
    ∃ t, exec (.windowClose id) s = .next t
      ∧ Tbl.find? t.kiln.reqs s.kiln.nextReq = some {
            why := .receive id, kc := some (macClass h), verify := true, trunc := cvBytes (macCvlen h),
            key := .slot (s.get (Reg.KILN.KEYMAP.VSLOT g.net (macClass h) (macIndex h))),
            msg := h.take (g.len - cvBytes (macCvlen h)), tag := h.drop (g.len - cvBytes (macCvlen h)), admitted := none,
            since := s.counterNs }
      ∧ (∃ x, t.group? id = some x ∧ x.checking = some (.copy n, s.kiln.nextReq) ∧ x.closed = true ∧ x.todo = [])
      ∧ Frame [.rx, .kiln] [] [] s t)
  -- the list of R154: the combined result first where it is wanted, then the DONE copies by falling LQI
  ∧ (∀ g : Group, (g.results.1 = true ↔ 2 ≤ g.kept.length ∧ (g.cfg.always = true
        ∨ ∃ c ∈ g.kept, ∃ q, c.record = some (q, false)))
      ∧ g.results.2 = (if g.results.1 then [ResultSrc.combined] else [])
          ++ g.doneCopies.map (fun c => ResultSrc.copy c.info.serial)
      ∧ List.Pairwise (fun a b : Copy => b.lqi ≤ a.lqi) g.doneCopies)
  -- BLEND_DECODE_DONE of a segment that is not the last, and of the last
  ∧ (∀ (s : State) (id seg : Nat) (g : Group), s.live = true → s.group? id = some g → seg ∈ g.closedSegs →
      seg ∉ g.decodedSegs → (g.closed = false ∨ g.wantsCombined = true) → seg + 1 ≠ segCount (codedBits g.len) →
    ∃ t, exec (.blendDecodeDone id seg) s = .next t
      ∧ t.rx = { s.rx with groups := Tbl.put s.rx.groups id { g with decodedSegs := g.decodedSegs ++ [seg] } }
      ∧ Frame [.rx] [] [] s t)
  ∧ (∀ (s : State) (id seg : Nat) (g : Group), s.live = true → s.group? id = some g → seg ∈ g.closedSegs →
      seg ∉ g.decodedSegs → (g.closed = false ∨ g.wantsCombined = true) → seg + 1 = segCount (codedBits g.len) →
      g.checking.isSome = true →
    ∃ t r, exec (.blendDecodeDone id seg) s = .next t
      ∧ t.group? id = some { g with decodedSegs := g.decodedSegs ++ [seg], combined := some r }
      ∧ Frame [.rx, .free] [] [] s t)
  -- the sums of R153: 9 bits, saturating at ±255
  ∧ (∀ x : Int, -255 ≤ sat255 x ∧ sat255 x ≤ 255 ∧ (-255 ≤ x → x ≤ 255 → sat255 x = x))
  -- BLEND_OVERLOAD: counted, source 184; the combined result leaves the list where a DONE copy is held
  ∧ (∀ (s : State) (id : Nat) (g : Group), s.live = true → s.group? id = some g → g.closed = true →
      g.wantsCombined = true → g.combined = none → g.overload = false → g.doneCopies = [] →
    ∃ t, exec (.blendOverload id) s = .next t ∧ t.pends 184 ∧ t.group? id = some { g with overload := true }
      ∧ t.stat Reg.BLEND.OVERLOAD = (s.stat Reg.BLEND.OVERLOAD + 1) % 2 ^ 32
      ∧ Frame (.rx :: signalled) [] [Reg.BLEND.OVERLOAD, Reg.ETH.PRIV_SENT, Reg.ETH.FP_DROP] s t)
  ∧ (∀ (s : State) (id : Nat) (g : Group), s.live = true → s.group? id = some g → g.closed = true →
      g.wantsCombined = true → g.combined = none → g.overload = false → g.doneCopies ≠ [] → g.checking.isSome = true →
    ∃ t, exec (.blendOverload id) s = .next t ∧ t.pends 184
      ∧ t.group? id = some { g with overload := true, wantsCombined := false, todo := g.todo.filter (· ≠ .combined) }
      ∧ t.stat Reg.BLEND.OVERLOAD = (s.stat Reg.BLEND.OVERLOAD + 1) % 2 ^ 32)
  -- ELK_DEADLINE: a WITHDRAW with DEADLINE, counted, source 185
  ∧ (∀ (s : State) (id : Nat) (g : Group), s.live = true → s.group? id = some g → g.elkOpen = true →
    ∃ t, exec (.elkDeadline id) s = .next t ∧ t.pends 185
      ∧ (∀ x, t.group? id = some x → x = { g with elkOpen := false })
      ∧ t.stat Reg.BLEND.ELK_DEADLINE = (s.stat Reg.BLEND.ELK_DEADLINE + 1) % 2 ^ 32
      ∧ t.stat Reg.BLEND.ELK_WITHDRAW = (s.stat Reg.BLEND.ELK_WITHDRAW + 1) % 2 ^ 32
      ∧ Frame (.rx :: signalled) [] [Reg.BLEND.ELK_DEADLINE, Reg.BLEND.ELK_WITHDRAW, Reg.ETH.PRIV_SENT, Reg.ETH.FP_DROP] s t)
  -- GROUP_HOLD_END: a group that has ended is forgotten, one whose result is at Kiln stays
  ∧ (∀ (s : State) (id : Nat) (g : Group), s.live = true → s.group? id = some g → g.closed = true → g.heldOut = false →
      g.ended = true → g.confirmed = none → g.todo = [] → g.checking = none → g.passed = none → g.deliver = false →
      g.elkOpen = false → s.callOut id = false →
    ∃ t, exec (.groupHoldEnd id) s = .next t ∧ t.group? id = none ∧ (∀ j, j ≠ id → t.group? j = s.group? j)
      ∧ Frame [.rx] [] [] s t)
  ∧ (∀ (s : State) (id : Nat) (g : Group), s.live = true → s.group? id = some g → g.closed = true → g.heldOut = false →
      g.confirmed = none → g.checking.isSome = true →
    ∃ t, exec (.groupHoldEnd id) s = .next t ∧ t.group? id = some { g with heldOut := true } ∧ Frame [.rx] [] [] s t)

/-- The filters, deliveries and check requests of the receive side (R15, R17, R156, R157, R176, R177, R246, R273,
R274, R279). Where the spec leaves a point of it open, the clause is the model's choice: log entries 54, 55, 56, 57,
58, 59, 60, 183, 189. -/
def Obligations.ReceiveFilters : Prop :=
  -- REPLAY_FILTER of a result whose sequence number and counter are held: DUPLICATE
  (∀ (s : State) (id : Nat) (g : Group) (r : ResultSrc) (f : List Byte), s.live = true → s.group? id = some g →
      g.passed = some r → f = g.frame r → (macSeq f, macCtr f) ∈ s.pairsOf (macSrc f) → g.confirmed = none →
      g.todo = [] → g.closed = true → g.prov = true → g.ended = false → g.profile ≠ 0 → g.elkOpen = false →
      s.filterWaits id g r = false →
    ∃ t, exec (.replayFilter id) s = .next t
      ∧ t.stat Reg.MAC.DUPLICATE = (s.stat Reg.MAC.DUPLICATE + 1) % 2 ^ 32
      ∧ t.rx.replay = s.rx.replay ∧ t.rx.pairs = s.rx.pairs
      ∧ (∀ x, t.group? id = some x → x.ended = true ∧ x.last = .duplicate)
      ∧ Frame [.rx, .kiln] [] [Reg.MAC.DUPLICATE, Reg.BLEND.GROUPS, Reg.BLEND.COPIES, Reg.BLEND.OVER_EIGHT] s t)
  -- one that the replay window refuses: REPLAY
  ∧ (∀ (s : State) (id : Nat) (g : Group) (r : ResultSrc) (f : List Byte), s.live = true → s.group? id = some g →
      g.passed = some r → f = g.frame r → (macSeq f, macCtr f) ∉ s.pairsOf (macSrc f) →
      (replayTest (Tbl.find? s.rx.replay (8 * macSrc f + macClass f)) (macIndex f) (macCtr f)).2 = none →
      g.confirmed = none → g.todo = [] → g.closed = true → g.prov = true → g.ended = false → g.profile ≠ 0 →
      g.elkOpen = false → s.filterWaits id g r = false →
    ∃ t, exec (.replayFilter id) s = .next t ∧ t.stat Reg.MAC.REPLAY = (s.stat Reg.MAC.REPLAY + 1) % 2 ^ 32
      ∧ t.rx.replay = s.rx.replay ∧ t.rx.pairs = s.rx.pairs
      ∧ (∀ x, t.group? id = some x → x.ended = true ∧ x.last = .replay)
      ∧ Frame (.rx :: .kiln :: signalled) [] [Reg.MAC.REPLAY, Reg.BLEND.GROUPS, Reg.BLEND.COPIES, Reg.BLEND.OVER_EIGHT,
          Reg.ETH.PRIV_SENT, Reg.ETH.FP_DROP] s t)
  -- one that passes both confirms its frame: the window moves, the pair is held, CONFIRMED counts it
  ∧ (∀ (s : State) (id : Nat) (g : Group) (r : ResultSrc) (f : List Byte) (x : Replay), s.live = true →
      s.group? id = some g → g.passed = some r → f = g.frame r → (macSeq f, macCtr f) ∉ s.pairsOf (macSrc f) →
      (replayTest (Tbl.find? s.rx.replay (8 * macSrc f + macClass f)) (macIndex f) (macCtr f)).2 = some x →
      g.confirmed = none → s.filterWaits id g r = false →
    ∃ t, exec (.replayFilter id) s = .next t ∧ t.stat Reg.MAC.CONFIRMED = (s.stat Reg.MAC.CONFIRMED + 1) % 2 ^ 32
      ∧ t.rx.replay = Tbl.put s.rx.replay (8 * macSrc f + macClass f) x
      ∧ t.pairsOf (macSrc f) = ((macSeq f, macCtr f) :: s.pairsOf (macSrc f)).take 4
      ∧ t.stat Reg.MAC.RETRY = (if ∃ p ∈ s.pairsOf (macSrc f), p.1 = macSeq f then (s.stat Reg.MAC.RETRY + 1) % 2 ^ 32
          else s.stat Reg.MAC.RETRY))
  -- a result waits while one of the same source reached the filter before it, or with it and a lower counter (R178)
  ∧ (∀ (s : State) (id k : Nat) (g h : Group) (r q : ResultSrc), s.group? id = some g → g.passed = some r →
      (k, h) ∈ s.rx.groups → k ≠ id → h.passed = some q → macSrc (h.frame q) = macSrc (g.frame r) →
      (h.passedAt < g.passedAt ∨ (h.passedAt = g.passedAt ∧ macCtr (h.frame q) < macCtr (g.frame r))) →
    exec (.replayFilter id) s = .next s)
  -- the replay window of R176
  ∧ (∀ ix c : Nat, replayTest none ix c = (false, some ⟨ix, c, 1⟩))
  ∧ (∀ (x : Replay) (c : Nat), x.high < c → x.high ≠ 0xFFFFFFFF →
      replayTest (some x) x.index c = (false, some ⟨x.index, c, (x.seen <<< (c - x.high)) ||| 1⟩))
  ∧ (∀ (x : Replay) (c : Nat), x.high ≠ 0xFFFFFFFF → c ≤ x.high → (64 ≤ x.high - c ∨ x.seen.getLsbD (x.high - c) = true) →
      (replayTest (some x) x.index c).2 = none)
  ∧ (∀ (x : Replay) (c : Nat), x.high = 0xFFFFFFFF → replayTest (some x) x.index c = (true, none))
  ∧ (∀ (x : Replay) (ix c : Nat), ix ≠ x.index → replayTest (some x) ix c
      = (false, if (ix + 256 - x.index) % 256 ≤ 127 then some ⟨ix, c, 1⟩ else none))
  -- DUPLICATE_HOLD_EXPIRY
  ∧ (∀ (s : State) (src : BitVec 32) (seq : BitVec 8) (ctr : BitVec 32), s.live = true →
    ∃ t, exec (.duplicateHoldExpiry src seq ctr) s = .next t
      ∧ t.pairsOf src.toNat = (s.pairsOf src.toNat).filter (· ≠ (seq.toNat, ctr.toNat))
      ∧ (∀ a, a ≠ src.toNat → t.pairsOf a = s.pairsOf a) ∧ Frame [.rx] [] [] s t)
  -- DECISION_RECORD_ARRIVAL: the oldest decision record of the die becomes a queued ack, PENDING as it stands now
  ∧ (∀ (s : State) (f : Fin 6) (n : Nat) (l : List Nat) (j : TxJob), s.live = true → s.dieUp f = true →
      s.safe.hold = false → Tbl.getD s.rx.down f [] = n :: l → s.job? n = some j →
    ∃ t, exec (.decisionRecordArrival f) s = .next t ∧ Tbl.getD t.rx.down f [] = l
      ∧ t.job? n = some { j with stage := .ready, header := beBytes 2 (putBits (beAt j.header 0 2) 6 1
          (bit (s.pendingFor (macDst j.header) none))) ++ j.header.drop 2 }
      ∧ Frame [.rx, .tx] [] [] s t)
  -- FRAME_DELIVERY to an RXF ring with room: the buffer, then the record, then the index
  ∧ (∀ (s : State) (id : Nat) (g : Group) (c : Confirmed) (n a b : Nat), s.live = true → s.group? id = some g →
      g.confirmed = some c → g.deliver = true → s.callOut id = false →
      s.earlierWaits (macSrc (g.frame c.src)) c.order = false → s.rxRing g (macType (g.frame c.src)) = some n →
      s.ringTakes n 2 = true → s.ringFill n < s.ringSize n → s.safe.hold = false →
      a = s.get (Reg.RING.BUF_BASE.ADDR n)
          + (s.ring n).part % s.ringSize n * 2 ^ (5 + s.get (Reg.RING.CTL.BUF_LOG2 n)) →
      b = s.get (Reg.RING.BASE.ADDR n) + (s.ring n).part % s.ringSize n * 64 →
      s.firstBad true a (min (2 ^ (5 + s.get (Reg.RING.CTL.BUF_LOG2 n))) (g.body c.src).length) = none →
      s.firstBad true b 64 = none → s.firstBad true (s.doorbell n + 4) 4 = none →
    ∃ t d, exec (.frameDelivery id) s = .next t ∧ t.out = s.out ++ [.hostWrite s.active a
            ((g.body c.src).take (2 ^ (5 + s.get (Reg.RING.CTL.BUF_LOG2 n)))), .hostWrite s.active b d,
          .hostWrite s.active (s.doorbell n + 4) (leBytes 4 (((s.ring n).part + 1) % 2 ^ 32))]
      ∧ d = withPhase (g.rxf id c.src (min (2 ^ (5 + s.get (Reg.RING.CTL.BUF_LOG2 n))) (g.body c.src).length))
          (s.ring n).part (s.ringSize n)
      ∧ (∀ x, t.group? id = some x → x.deliver = false ∧ x.bufs = [])
      ∧ (∀ i ∈ g.bufs, Tbl.has t.cask.bufs i = false)
      ∧ Frame [.rx, .cask, .rings, .safe, .out] [] [] s t)
  -- of a frame whose network and type no ring is mapped to
  ∧ (∀ (s : State) (id : Nat) (g : Group) (c : Confirmed), s.live = true → s.group? id = some g →
      g.confirmed = some c → g.deliver = true → s.callOut id = false →
      s.earlierWaits (macSrc (g.frame c.src)) c.order = false → s.rxRing g (macType (g.frame c.src)) = none →
    ∃ t, exec (.frameDelivery id) s = .next t
      ∧ t.stat Reg.RING.RX_UNMAPPED = (s.stat Reg.RING.RX_UNMAPPED + 1) % 2 ^ 32
      ∧ Frame [.rx, .cask] [] [Reg.RING.RX_UNMAPPED] s t)
  -- CHECK_ADMIT of a request on a slot whose use is allowed: its key is taken as it stands
  ∧ (∀ (s : State) (id k : Nat) (r : CheckReq) (x : Slot), s.live = true → Tbl.find? s.kiln.reqs id = some r →
      s.admissible id r = true → r.key = .slot k →
      s.slot? k = some x → s.slotError k (if r.verify then useVerify else useGen) r.kc = none →
    ∃ t, exec (.checkAdmit id) s = .next t
      ∧ t.kiln.reqs = Tbl.put s.kiln.reqs id { r with admitted := some x.key }
      ∧ (attrClass x.attr = 1 → attrExp x.attr = false →
          t.slot? k = some { x with attr := putBits x.attr 8 16 (attrCount x.attr - 1) })
      ∧ ((attrClass x.attr ≠ 1 ∨ attrExp x.attr = true) → t.slot? k = some x)
      ∧ Frame [.kiln] [Reg.KILN.QUEUE.IN_USE, Reg.KILN.QUEUE.PEAK] [] s t)
  -- of a host request on a slot whose use fails: it completes with the status
  ∧ (∀ (s : State) (id k : Nat) (r : CheckReq) (c : CmdRef) (st : Status), s.live = true →
      Tbl.find? s.kiln.reqs id = some r → s.admissible id r = true →
      r.key = .slot k → r.why = .hostVerify c → s.slotError k (if r.verify then useVerify else useGen) r.kc = some st →
    ∃ t, exec (.checkAdmit id) s = .next t ∧ Completes t c st 0 ∧ Tbl.has t.kiln.reqs id = false)
  -- CHECK_DONE of a host request: the check value is written, or the verdict is the status
  ∧ (∀ (s : State) (id out : Nat) (r : CheckReq) (key : List Byte) (c : CmdRef), s.live = true →
      Tbl.find? s.kiln.reqs id = some r → r.admitted = some key → r.verify = false → r.why = .hostGen c out →
      s.firstBad true out ((cmac key r.msg).take r.trunc).length = none →
    ∃ t, exec (.checkDone id) s = .next t ∧ Tbl.has t.kiln.reqs id = false
      ∧ t = ((((s.countCheck r).endReq id r).dmaWrite out ((cmac key r.msg).take r.trunc)).complete c .done 0)
      ∧ t.stat Reg.KILN.GENERATED = (s.stat Reg.KILN.GENERATED + 1) % 2 ^ 32)
  ∧ (∀ (s : State) (id : Nat) (r : CheckReq) (key : List Byte) (c : CmdRef), s.live = true →
      Tbl.find? s.kiln.reqs id = some r → r.admitted = some key → r.verify = true → r.why = .hostVerify c →
    ∃ t st, exec (.checkDone id) s = .next t ∧ Tbl.has t.kiln.reqs id = false ∧ Completes t c st 0
      ∧ ((cmac key r.msg).take r.trunc = r.tag → st = .done
          ∧ t.stat Reg.KILN.VERIFY_OK = (s.stat Reg.KILN.VERIFY_OK + 1) % 2 ^ 32)
      ∧ ((cmac key r.msg).take r.trunc ≠ r.tag → st = .authFail
          ∧ t.stat Reg.KILN.VERIFY_FAIL = (s.stat Reg.KILN.VERIFY_FAIL + 1) % 2 ^ 32))
  -- of a received frame that is no ack and verifies: it goes on to the replay filter
  ∧ (∀ (s : State) (id q : Nat) (g : Group) (r : CheckReq) (key : List Byte) (src : ResultSrc), s.live = true →
      Tbl.find? s.kiln.reqs q = some r → r.admitted = some key → r.why = .receive id → s.group? id = some g →
      g.checking = some (src, q) → macType (g.frame src) ≠ 1 → (cmac key r.msg).take r.trunc = r.tag →
    ∃ t, exec (.checkDone q) s = .next t ∧ 
        t.group? id = some { g with checking := none, passed := some src, passedAt := s.counterNs })

/-- Transmissions (R85, R86, R92, R160, R163, R167, R175, R179, R180): matching, probes, grants, starts and ends.
Where the spec leaves a point of it open, the clause is the model's choice: log entries 74, 75, 76, 77, 78, 174, 185,
186, 187. -/
def Obligations.TransmitCommands : Prop :=
  -- TX_MISMATCH: every frame on the port is cut and its job ends; ABORTS counts, FAULT, source 324 + 32f
  (∀ (s : State) (f : Fin 6) (c : Fin 2) (i : Nat) (x : TxJob), s.dieUp f = true →
      Tbl.wf s.tx.jobs = true → s.job? i = some x → x.stage = .onAir →
      x.f = f.val → x.o = 96 + c.val →
    ∃ t, exec (.txMismatch f c) s = .next t ∧ t.get (Reg.FRF.TXCH.FAULT f c) = 1
      ∧ t.get (Reg.FRF.TXCH.ABORTS f c) = min (s.get (Reg.FRF.TXCH.ABORTS f c) + 1) 255 % 256
      ∧ t.pends (324 + 32 * f.val) ∧ Output.airCut f.val (96 + c.val) (s.jobFrame x) ∈ t.out ∧ t.job? i = none
      ∧ (∀ n y, s.job? n = some y → y.stage = .onAir → (y.f ≠ f.val ∨ y.o ≠ 96 + c.val) → t.job? n = some y)
      ∧ Frame (.air :: .tx :: .cask :: .tun :: .node :: signalled) ([Reg.FRF.TXCH.FAULT f c, Reg.FRF.TXCH.ABORTS f c]
          ++ parityFields) downWords s t)
  -- TX_PROBE that may be made (no contact's node entry has a parity error): a match within 3:1 clears the fault, which
  -- raises 324 + 32f once more; any other doubles the interval up to 64 s
  ∧ (∀ (s : State) (f : Fin 6) (c : Fin 2) (fw rv : Nat) (granted : Bool), 4 * rv ≤ fw → s.live = true → s.dieUp f = true →
      s.on (Reg.FRF.TXCH.FAULT f c) = true → s.lookContacts = s → s.mayRadiate = true → s.probeBusy f c = false →
      s.cxAllows f (96 + c) granted = true →
    ∃ t, exec (.txProbe f c fw rv granted) s = .next t ∧ Output.probe f c ∈ t.out
      ∧ t.get (Reg.FRF.TXCH.FAULT f c) = 0 ∧ t.pends (324 + 32 * f.val)
      ∧ Tbl.find? t.air.probes (2 * f + c) = none ∧ Frame (.air :: signalled) [Reg.FRF.TXCH.FAULT f c] alarmWords s t)
  ∧ (∀ (s : State) (f : Fin 6) (c : Fin 2) (fw rv : Nat) (granted : Bool), fw < 4 * rv → s.live = true → s.dieUp f = true →
      s.on (Reg.FRF.TXCH.FAULT f c) = true → s.lookContacts = s → s.mayRadiate = true → s.probeBusy f c = false →
      s.cxAllows f (96 + c) granted = true →
    ∃ t, exec (.txProbe f c fw rv granted) s = .next t ∧ Output.probe f c ∈ t.out
      ∧ Tbl.find? t.air.probes (2 * f + c)
          = some ⟨min 64 (2 * (Tbl.getD s.air.probes (2 * f + c) ⟨1, false⟩).interval), false⟩
      ∧ Frame [.air, .out] [] [] s t)
  -- one that may not be made is dropped
  ∧ (∀ (s : State) (f : Fin 6) (c : Fin 2) (fw rv : Nat) (granted : Bool), s.live = true → s.dieUp f = true →
      s.on (Reg.FRF.TXCH.FAULT f c) = true → s.lookContacts = s →
      (s.mayRadiate = false ∨ s.probeBusy f c = true ∨ s.cxAllows f (96 + c) granted = false) →
    ∃ t, exec (.txProbe f c fw rv granted) s = .next t ∧ t.air.sending = s.air.sending
      ∧ (∀ f' c', Output.probe f' c' ∈ t.out → Output.probe f' c' ∈ s.out)
      ∧ Frame [.air, .out] [] [] s t)
  -- a contact's window on a channel of the port holds a probe back (R172), as does a LISTEN context without a source
  ∧ (∀ (s : State) (f c : Nat), (s.sourceUp f (s.get (Reg.TX.OUT.LISTEN f (96 + c))) = false
        ∨ s.contactBlocks f (96 + c) (s.get (Reg.TX.GRID f (96 + c)) + 15) 1 (s.meshNs + 20000) = true
        ∨ s.contactBlocks f (96 + c) (s.get (Reg.TX.GRID f (96 + c)) + 16) 1 (s.meshNs + 20000) = true) →
    s.probeBusy f c = true)
  -- TX_FAULT_WRITE: a probe in the next slot
  ∧ (∀ (s : State) (f : Fin 6) (c : Fin 2), s.hostUp = true → s.dieUp f = true → s.on (Reg.FRF.TXCH.FAULT f c) = true →
    ∃ t p, exec (.txFaultWrite f c) s = .next t ∧ Tbl.find? t.air.probes (2 * f + c) = some p ∧ p.nextSlot = true
      ∧ Frame [.air, .safe] [] [] s t)
  -- CXGNT_DROP, requester: a downlink on a guarded output is cut and its attempt fails as a busy check
  ∧ (∀ (s : State) (f : Fin 6) (n : Fin 4) (id : Nat) (j : TxJob), s.dieUp f = true → s.on (Reg.FRF.CX.EN f n) = true →
      s.on (Reg.FRF.CX.ROLE f n) = false → (s.onAirOf fun j => j.f = f.val && s.guards f n j.o) = [(id, j)] →
      j.kind = .down → j.nb + 1 < (s.forceOf j).maxAttempts →
    ∃ t r, exec (.cxgntDrop f n) s = .next t ∧ r < 2 ^ j.be ∧ Output.airCut f.val j.o (s.jobFrame j) ∈ t.out
      ∧ t.job? id = some { j with nb := j.nb + 1, t0 := j.t0 + (r * 320000 : Nat),
                                  be := (min (j.be + 1) (s.forceOf j).maxBe),
                                  stage := (if j.key.isNone && j.cv ≠ 0 then .building else .ready) }
      ∧ t.air.sending = s.air.sending.erase (j.f, j.o, j.grid, decide (j.rate = 0))
      ∧ t.stat Reg.MAC.BUSY_CHECKS = (s.stat Reg.MAC.BUSY_CHECKS + 1) % 2 ^ 32
      ∧ Frame [.air, .tx, .out, .free, .kiln] [] [Reg.MAC.BUSY_CHECKS] s t)
  -- an ack is dropped and counted
  ∧ (∀ (s : State) (f : Fin 6) (n : Fin 4) (id g : Nat) (j : TxJob), s.dieUp f = true →
      s.on (Reg.FRF.CX.EN f n) = true → s.on (Reg.FRF.CX.ROLE f n) = false →
      (s.onAirOf fun j => j.f = f.val && s.guards f n j.o) = [(id, j)] → j.kind = .ack g →
    ∃ t, exec (.cxgntDrop f n) s = .next t ∧ Output.airCut f.val j.o (s.jobFrame j) ∈ t.out ∧ t.job? id = none
      ∧ t.stat Reg.MAC.ACK_BUSY = (s.stat Reg.MAC.ACK_BUSY + 1) % 2 ^ 32
      ∧ Frame [.air, .tx, .out] [] [Reg.MAC.ACK_BUSY] s t)
  -- TX_START at T0 − 20 µs − L_tx
  ∧ (∀ (s : State) (id : Nat) (j : TxJob), s.live = true → s.dieUp j.f = true → s.job? id = some j →
      j.stage = .cleared → s.portFaulted j.f j.o = false → s.atStart j = true →
    ∃ t, exec (.txStart id) s = .next t ∧ t.job? id = some { j with stage := .onAir }
      ∧ t.out = s.out ++ [.air j.f j.o j.grid j.rate j.t0.toNat (s.txLevel j) (s.jobFrame j) (s.jobWave j)]
      ∧ t.air.sending = (j.f, j.o, j.grid, decide (j.rate = 0)) :: s.air.sending
      ∧ (j.kind = .wake → t.stat Reg.MAC.WAKES = (s.stat Reg.MAC.WAKES + 1) % 2 ^ 32)
      ∧ (∀ g, j.kind = .ack g → t.stat Reg.MAC.ACK_SENT = (s.stat Reg.MAC.ACK_SENT + 1) % 2 ^ 32)
      ∧ (∀ n, n ≠ id → t.job? n = s.job? n)
      ∧ Frame [.air, .tx, .out] [] [Reg.MAC.WAKES, Reg.MAC.ACK_SENT] s t)
  -- what goes out: a wake burst is on-off keyed; a frame is preamble, sync word and the coded PHY header, frame and tail
  ∧ (∀ (s : State) (j : TxJob), j.kind = .wake → s.jobWave j = .ook (wakeHalves (s.jobFrame j)) 4000 30)
  ∧ (∀ (s : State) (j : TxJob) (l : List Int), j.kind ≠ .wake → l = preamble j.rate (s.netSpeech j.net).2
        ++ bitChips j.rate (s.netSpeech j.net).2 (bitsOf 32 (s.netSpeech j.net).1)
        ++ bitChips j.rate (s.netSpeech j.net).2 (convEncode 0 (bitsOf 24 (phyHeader (s.jobFrame j).length 0 false false)
            ++ (s.jobFrame j).flatMap (fun b => bitsOf 8 b.toNat) ++ List.replicate 6 false)) →
    s.jobWave j = .msk (evens l) (evens (l.drop 1)) (if j.rate = 0 then 200000 else 50000))
  -- on a port that has faulted since its check the frame ends with ABORT_MISMATCH; a piggyback whose check value has not
  -- come goes back to its queue
  ∧ (∀ (s : State) (id : Nat) (j : TxJob), s.live = true → s.dieUp j.f = true → s.job? id = some j →
      j.stage = .cleared → s.portFaulted j.f j.o = true → s.atStart j = true →
    exec (.txStart id) s = .next (s.failJob id j .abortMismatch))
  ∧ (∀ (s : State) (id : Nat) (j : TxJob) (d : Downlink), s.live = true → s.dieUp j.f = true → s.job? id = some j →
      j.kind = .piggyback → j.stage = .building → j.header ≠ [] → s.atStart j = true → s.down? j.queue = some d →
    exec (.txStart id) s = .next (((s.dropJob id).cxEnd j.f j.o (false, id)).rewindDown j.queue d))
  -- before that instant nothing starts
  ∧ (∀ (s : State) (id : Nat) (j : TxJob), s.job? id = some j → s.atStart j = false →
    exec (.txStart id) s = .next s)
  -- TX_END of an ack: the transmit context is free; clamped samples are counted; the tuner of its chain adapts
  ∧ (∀ (s : State) (id g fw rv : Nat) (j : TxJob) (clamped : Bool), s.live = true → s.job? id = some j → j.stage = .onAir →
      j.lastChip + 20000 ≤ s.meshNs → j.kind = .ack g →
    ∃ t, exec (.txEnd id clamped fw rv) s = .next t ∧ t.job? id = none
      ∧ t.air.sending = s.air.sending.erase (j.f, j.o, j.grid, decide (j.rate = 0))
      ∧ (clamped = true → t.stat Reg.MAC.TX_CLAMP = (s.stat Reg.MAC.TX_CLAMP + 1) % 2 ^ 32)
      ∧ (clamped = false → t.stat Reg.MAC.TX_CLAMP = s.stat Reg.MAC.TX_CLAMP)
      ∧ (96 ≤ j.o → t.get (Reg.FRF.TXCH.TUNER_LIMIT j.f (j.o - 96))
          = bit ((Tbl.getD t.air.tuners (2 * j.f + (j.o - 96)) 0).natAbs = Config.tunerReach))
      ∧ (j.o < 96 → t.air.tuners = s.air.tuners)
      ∧ Frame [.air, .tx, .out] (if 96 ≤ j.o then [Reg.FRF.TXCH.TUNER_LIMIT j.f (j.o - 96)] else []) [Reg.MAC.TX_CLAMP] s t)
  -- of the only copy of a downlink that asks for an ack: its ack is awaited from the tail end
  ∧ (∀ (s : State) (id fw rv : Nat) (j : TxJob) (d : Downlink) (clamped : Bool), s.live = true → s.job? id = some j →
      j.stage = .onAir → j.lastChip + 20000 ≤ s.meshNs → j.kind = .down → s.down? j.queue = some d → d.jobs = [id] →
      d.second = none → itemAckReq d.header = true → d.dst ≠ broadcast →
    ∃ t, exec (.txEnd id clamped fw rv) s = .next t ∧ t.job? id = none
      ∧ t.down? j.queue = some { d with jobs := [], sent := true, status := .done, awaiting := (some (j.lastChip, s.forceOf j)),
                                        attempts := (min 255 (d.attempts + bit !d.sent)) }
      ∧ Frame [.air, .tx, .out] (if 96 ≤ j.o then [Reg.FRF.TXCH.TUNER_LIMIT j.f (j.o - 96)] else []) [Reg.MAC.TX_CLAMP] s t)
  -- of one that asks for none: the item completes with DONE
  ∧ (∀ (s : State) (id fw rv : Nat) (j : TxJob) (d : Downlink), s.live = true → s.job? id = some j → j.stage = .onAir →
      j.lastChip + 20000 ≤ s.meshNs → j.kind = .down → s.down? j.queue = some d → d.jobs = [id] → d.second = none →
      itemAckReq d.header = false → d.dst ≠ broadcast → d.sent = false →
    ∃ x, exec (.txEnd id false fw rv) s = .next (x.completeDown j.queue { d with
        jobs := [], sent := true, status := .done, awaiting := (some (j.lastChip, s.forceOf j)),
        attempts := (min 255 (d.attempts + 1)) } .done)
      ∧ x.job? id = none ∧ Frame [.air, .tx, .out] (if 96 ≤ j.o then [Reg.FRF.TXCH.TUNER_LIMIT j.f (j.o - 96)] else []) [] s x)
  -- of a flooded one: the first copy sent completes the item with DONE, and the other copies go on
  ∧ (∀ (s : State) (id fw rv : Nat) (j : TxJob) (d : Downlink), s.live = true → s.job? id = some j → j.stage = .onAir →
      j.lastChip + 20000 ≤ s.meshNs → j.kind = .down → s.down? j.queue = some d → id ∈ d.jobs → d.dst = broadcast →
      d.sent = false →
    ∃ x, exec (.txEnd id false fw rv) s = .next (x.releaseDown j.queue { d with
        jobs := (d.jobs.filter (· ≠ id)), sent := true, status := .done, awaiting := (some (j.lastChip, s.forceOf j)),
        attempts := (min 255 (d.attempts + 1)) } .done)
      ∧ (∀ n, n ≠ id → x.job? n = s.job? n) ∧ x.job? id = none ∧ Frame [.air, .tx, .out] (if 96 ≤ j.o then [Reg.FRF.TXCH.TUNER_LIMIT j.f (j.o - 96)] else []) [] s x)
  -- of a wake burst: the frame meets the node in the next slot, MEET_US after its start
  ∧ (∀ (s : State) (id fw rv : Nat) (j : TxJob) (d : Downlink) (f o : Nat), s.live = true → s.job? id = some j →
      j.stage = .onAir → j.lastChip + 20000 ≤ s.meshNs → j.kind = .wake → s.down? j.queue = some d →
      (s.nodeFind d.dst).2.2 = false →
      (s.streamsFor d.dst (s.queue j.queue).slot).2.1.findSome? s.serveOf = some (f, o) →
      s.copyError f o (itemGrid d.header) d.rate = none →
    ∃ x, exec (.txEnd id false fw rv) s = .next (x.sendFrame .meeting j.queue { d with meets := j.nb } (s.itemPayload d.first)
        [(f, o, itemGrid d.header)]
        (s.twinFor d.cls (s.streamsFor d.dst (s.queue j.queue).slot).2.1 f o (itemGrid d.header) d.rate)
        (((j.lastChip - 1) / 2000000 + 1) * 2000000 + ((s.forceOf j).meetUs * 1000 : Nat)))
      ∧ x.job? id = none ∧ Frame [.air, .tx, .out] (if 96 ≤ j.o then [Reg.FRF.TXCH.TUNER_LIMIT j.f (j.o - 96)] else []) [] s x)
  -- an item completes with its status, its attempts, its last counter and its sequence number (R179, R245)
  ∧ (∀ (s : State) (q i : Nat) (d : Downlink) (st : Status) (x : ItemInfo) (c : CmdRef), s.safe.hold = false →
      (s.queue q).mark = i → Tbl.find? s.cask.items i = some x → x.cmd = some c → s.ringTakes c.cpl 1 = true →
      s.ringFill c.cpl < s.ringSize c.cpl →
      s.firstBad true (s.get (Reg.RING.BASE.ADDR c.cpl) + (s.ring c.cpl).part % s.ringSize c.cpl * 16) 16 = none →
      s.firstBad true (s.doorbell c.cpl + 4) 4 = none →
    ∃ t, s.completeDown q d st = t ∧ t.down? q = none ∧ Tbl.find? t.tx.kept d.first = none ∧ Tbl.has t.cask.items i = false
      ∧ (t.queue q).sent = false
      ∧ Output.hostWrite s.active (s.get (Reg.RING.BASE.ADDR c.cpl) + (s.ring c.cpl).part % s.ringSize c.cpl * 16)
          (withPhase (cplRecord c st d.attempts (d.ctrs.headD 0) d.seq) (s.ring c.cpl).part (s.ringSize c.cpl)) ∈ t.out)
  -- ACK_TIMEOUT with attempts left: the item is rewound
  ∧ (∀ (s : State) (q : Nat) (d : Downlink) (tail : Int) (m : MacForce), s.live = true → s.down? q = some d → d.awaiting = some (tail, m) →
      d.jobs = [] → ackWindowEnd tail m d.rate ≤ s.meshNs → d.retries < m.maxRetry →
    ∃ t, exec (.ackTimeout q) s = .next t ∧ t.down? q = none
      ∧ Tbl.find? t.tx.kept d.first = some { d with
          retries := d.retries + 1, meets := 0, jobs := [], sent := false, awaiting := none, second := none }
      ∧ (t.queue q).head = (s.queue q).mark ∧ (t.queue q).count = (s.queue q).count + 1 ∧ (t.queue q).sent = false
      ∧ t.stat Reg.SCHED.REWINDS = (s.stat Reg.SCHED.REWINDS + 1) % 2 ^ 32
      ∧ Frame (.tx :: .cask :: .tun :: .node :: signalled) parityFields downWords s t)
  -- with none left: NO_ACK
  ∧ (∀ (s : State) (q : Nat) (d : Downlink) (tail : Int) (m : MacForce), s.live = true → s.down? q = some d → d.awaiting = some (tail, m) →
      d.jobs = [] → ackWindowEnd tail m d.rate ≤ s.meshNs → m.maxRetry ≤ d.retries →
    exec (.ackTimeout q) s = .next (((s.bump Reg.MAC.NO_ACK).fireOnce 178).completeDown q d .noAck))
  ∧ (∀ (s : State) (q : Nat) (d : Downlink) (tail : Int) (m : MacForce), s.down? q = some d → d.awaiting = some (tail, m) →
      s.meshNs < ackWindowEnd tail m d.rate → exec (.ackTimeout q) s = .next s)

/-- The clear-channel test and the check of each kind of transmission (R55, R86, R165 to R171, R175, R182, R289),
where no contact's node entry has a parity error. The job x is the one checked as its first check takes it over. Where
the spec leaves a point of it open, the clause is the model's choice: log entries 74, 76, 78, 185, 190. -/
def Obligations.ClearChannelChecks : Prop :=
  -- the first check takes over the registers as they stand, a later one goes by those (R182)
  (∀ (s : State) (j : TxJob), (s.atFirstCheck j).force = some (j.force.getD (s.macForce j.grid))
    ∧ (j.force = none → (s.atFirstCheck j).be = s.get Reg.MAC.LBT_CFG.MIN_BE) ∧ (j.force ≠ none → s.atFirstCheck j = j))
  -- LBT_CHECK of a downlink or wake burst that finds the channel clear
  ∧ (∀ (s : State) (id : Nat) (b : Bool × Int × Int) (j x : TxJob) (granted : Bool), s.live = true → s.dieUp j.f = true →
      s.job? id = some j → (j.kind = .down ∨ j.kind = .wake) → j.stage = .ready → s.atCheck j = true →
      s.lookContacts = s → x = s.atFirstCheck j → s.portFaulted j.f j.o = false → (s.forceOf x).band = some b →
      s.listens j = true → s.jobBusy id x granted b = false → (∀ d, s.down? j.queue = some d → d.second = none) →
    ∃ t, exec (.lbtCheck id granted) s = .next t ∧ t.job? id = some { x with stage := .cleared }
      ∧ (∀ n, n ≠ id → t.job? n = s.job? n) ∧ Frame [.tx] [] [] s t)
  -- with a second sub-slot copy waiting, that copy gets its T0, its output's group and checks of its own (R181, R224)
  ∧ (∀ (s : State) (j : TxJob) (d : Downlink) (f o : Nat), s.down? j.queue = some d → d.second = some (f, o) →
    ∃ t, s.startSecond j = t ∧ t.down? j.queue = some { d with second := none, jobs := d.jobs ++ [s.tx.nextJob] }
      ∧ t.job? s.tx.nextJob = some { j with
          kind := .down, f := f, o := o, t0 := j.lastChip + ((s.forceOf j).gapUs * 1000 : Nat), nb := 0,
          be := s.get Reg.MAC.LBT_CFG.MIN_BE, force := none,
          stage := (if j.key.isNone && j.cv ≠ 0 then .building else .ready),
          group := s.get (Reg.SCHED.OUT_GROUP.GROUP f o) }
      ∧ (∀ n, n ≠ s.tx.nextJob → t.job? n = s.job? n) ∧ Frame [.tx] [] [] s t)
  -- busy, attempts left: T0 moves by a random number of 320 µs units
  ∧ (∀ (s : State) (id : Nat) (b : Bool × Int × Int) (j x : TxJob) (granted : Bool), s.live = true → s.dieUp j.f = true →
      s.job? id = some j → (j.kind = .down ∨ j.kind = .wake) → (j.stage = .ready ∨ j.stage = .building) →
      s.atCheck j = true → s.lookContacts = s → x = s.atFirstCheck j → s.portFaulted j.f j.o = false →
      (s.forceOf x).band = some b → s.listens j = true → s.jobBusy id x granted b = true →
      j.nb + 1 < (s.forceOf x).maxAttempts →
    ∃ t r, exec (.lbtCheck id granted) s = .next t ∧ r < 2 ^ x.be
      ∧ t.job? id = some { x with nb := j.nb + 1, t0 := j.t0 + (r * 320000 : Nat),
                                  be := (min (x.be + 1) (s.forceOf x).maxBe),
                                  stage := (if j.key.isNone && j.cv ≠ 0 then .building else .ready) }
      ∧ t.stat Reg.MAC.BUSY_CHECKS = (s.stat Reg.MAC.BUSY_CHECKS + 1) % 2 ^ 32
      ∧ Frame [.air, .tx, .out, .free, .kiln] [] [Reg.MAC.BUSY_CHECKS] s t)
  -- busy at the last attempt: CHANNEL_BUSY_TIMEOUT
  ∧ (∀ (s : State) (id : Nat) (b : Bool × Int × Int) (j x : TxJob) (granted : Bool), s.live = true → s.dieUp j.f = true →
      s.job? id = some j → (j.kind = .down ∨ j.kind = .wake) → (j.stage = .ready ∨ j.stage = .building) →
      s.atCheck j = true → s.lookContacts = s → x = s.atFirstCheck j → s.portFaulted j.f j.o = false →
      (s.forceOf x).band = some b → s.listens j = true → s.jobBusy id x granted b = true →
      (s.forceOf x).maxAttempts ≤ j.nb + 1 → (∀ d, s.down? j.queue = some d → d.second = none) →
    exec (.lbtCheck id granted) s
      = .next ((((s.bump Reg.MAC.BUSY_CHECKS).bump Reg.MAC.CHANNEL_BUSY_TIMEOUT).fireOnce 177).failJob id x
          .channelBusyTimeout))
  -- a faulted port, a channel in no enabled band, a LISTEN context that delivers nothing
  ∧ (∀ (s : State) (id : Nat) (j x : TxJob) (granted : Bool) (st : Status), s.live = true → s.dieUp j.f = true →
      s.job? id = some j → (j.kind = .down ∨ j.kind = .wake) → j.stage = .ready → s.atCheck j = true →
      s.lookContacts = s → x = s.atFirstCheck j →
      (if s.portFaulted j.f j.o = true then st = .abortMismatch
        else if (s.forceOf x).band = none then st = .badField else s.listens j = false ∧ st = .sourceLost) →
    exec (.lbtCheck id granted) s = .next (s.failCopy id x st))
  -- a job that fails ends its copy; the last copy of a frame that was not sent completes the item
  ∧ (∀ (s : State) (id : Nat) (j : TxJob) (d : Downlink) (st : Status), (j.kind = .down ∨ j.kind = .wake) →
      s.down? j.queue = some d → d.jobs = [id] → d.second = none → d.sent = false →
    ∃ x, s.failJob id j st = x.completeDown j.queue { d with
        jobs := [], status := st, attempts := (min 255 d.attempts), awaiting := d.awaiting } st
      ∧ x.job? id = none ∧ Frame [.air, .tx, .out] [] [] s x)
  -- a check is busy until its check value has come, while its group's gate is shut or the heads hold the frame (R167, R301)
  ∧ (∀ (s : State) (id : Nat) (j : TxJob) (granted : Bool) (b : Bool × Int × Int), s.jobBusy id j granted b = true ↔
    (j.stage = .building ∨ s.jobHeld id = true ∨ s.gateFits j.group j.cls j.t0 j.airNs = false
      ∨ s.busyFor id j granted b s.meanPower = true))
  -- what makes a channel busy, whatever the power: no time or seed, a blanked LISTEN context, coexistence, eight frames
  -- on the output, 256 on the die, a contact's window, a tracker or a frame under reception; where the band listens, a
  -- channel that the LISTEN context does not carry
  ∧ (∀ (s : State) (id : Nat) (b : Bool × Int × Int) (j : TxJob) (granted : Bool) (p : Nat → Option Frac),
      (s.mayRadiate = false ∨ s.ctxBlanked j.f (s.get (Reg.TX.OUT.LISTEN j.f j.o)) = true
        ∨ s.cxAllows j.f j.o granted = false ∨ 8 ≤ s.framesOn id j ∨ 256 ≤ s.txContexts j.f
        ∨ s.contactBlocks j.f j.o j.grid j.rate j.t0 = true
        ∨ (b.1 = true ∧ s.listenChannel j.f j.o j.grid j.rate = none)
        ∨ ∃ k, s.listenChannel j.f j.o j.grid j.rate = some k
            ∧ s.channelTaken j.f (s.get (Reg.TX.OUT.LISTEN j.f j.o)) (decide (j.rate = 0)) k = true) →
    s.busyFor id j granted b p = true)
  -- a frame's own channel counts, the N channels k − 1 to k + 1 with a W frame's, the W channel k with an N frame's (R165)
  ∧ (∀ (s : State) (f i k n : Nat) (w v : Bool), s.engaged f i v n = true →
      (n = k ∨ (w = true ∧ v = false ∧ (n + 1 = k ∨ n = k + 1))) → s.channelTaken f i w k = true)
  ∧ (∀ s : State, s.mayRadiate = true ↔ ((s.get Reg.TIME.REF_STATUS.QUALITY ≠ 3 ∨ s.on Reg.TIME.CTL.FREE_RUN_TX = true)
      ∧ s.on Reg.RNG.STATUS.SEEDED = true))
  -- with LBT 1 no power, or one at the threshold or at the floor's margin, is busy; with LBT 0 none is
  ∧ (∀ (s : State) (f i k : Nat) (b : Bool × Int × Int) (w : Bool) (p : Option Frac), s.powerBusy f i w k b p = true ↔
      (b.1 = true ∧ (p = none ∨ ∃ x, p = some x
        ∧ (powGe 40 x b.2.1 = true ∨ s.powerOver f i w k (s.startThr f) b.2.2 x = true))))
  ∧ (∀ (s : State) (g n : Nat), s.band g = some n → (s.macForce g).band = some (s.on (Reg.MAC.LBT_BAND.LBT n),
      signedOf 16 (s.get (Reg.MAC.LBT_BAND.THR n)), signedOf 8 (s.get (Reg.MAC.LBT_BAND.REL n))))
  -- MEETING_CHECK that finds the channel clear
  ∧ (∀ (s : State) (id : Nat) (b : Bool × Int × Int) (j x : TxJob) (granted : Bool), s.live = true → s.dieUp j.f = true →
      s.job? id = some j → j.kind = .meeting → j.stage = .ready → s.atCheck j = true → s.lookContacts = s →
      x = s.atFirstCheck j → s.portFaulted j.f j.o = false → (s.forceOf x).band = some b → s.listens j = true →
      s.jobBusy id x granted b = false → (∀ d, s.down? j.queue = some d → d.second = none) →
    ∃ t, exec (.meetingCheck id granted) s = .next t ∧ t.job? id = some { x with stage := .cleared }
      ∧ Frame [.tx] [] [] s t)
  -- busy, the only copy: one attempt gone, the item is rewound and its wake repeated
  ∧ (∀ (s : State) (id : Nat) (b : Bool × Int × Int) (j x : TxJob) (d : Downlink) (granted : Bool), s.live = true →
      s.dieUp j.f = true → s.job? id = some j → j.kind = .meeting → j.stage = .ready → s.atCheck j = true →
      s.lookContacts = s → x = s.atFirstCheck j → s.portFaulted j.f j.o = false → (s.forceOf x).band = some b →
      s.listens j = true → s.jobBusy id x granted b = true → s.down? j.queue = some d → d.jobs = [id] → d.second = none →
      d.meets + 1 < (s.forceOf x).maxAttempts →
    ∃ t, exec (.meetingCheck id granted) s = .next t ∧ t.job? id = none ∧ t.down? j.queue = none
      ∧ Tbl.find? t.tx.kept d.first = some { d with
          meets := d.meets + 1, jobs := [], sent := false, awaiting := none, second := none }
      ∧ (t.queue j.queue).head = (s.queue j.queue).mark ∧ (t.queue j.queue).count = (s.queue j.queue).count + 1
      ∧ t.stat Reg.MAC.BUSY_CHECKS = (s.stat Reg.MAC.BUSY_CHECKS + 1) % 2 ^ 32)
  -- ACK_CHECK that finds the channel clear; PENDING in it adds a piggyback after the ack's last chip
  ∧ (∀ (s : State) (id g : Nat) (b : Bool × Int × Int) (j x : TxJob) (p : Frac) (granted : Bool), s.live = true →
      s.dieUp j.f = true → s.job? id = some j → j.kind = .ack g → j.stage = .ready → s.atCheck j = true →
      s.lookContacts = s → s.portFaulted j.f j.o = false → x = s.atFirstCheck j → (s.forceOf x).band = some b →
      s.listens j = true → s.busyFor id x granted b (fun _ => some p) = false → bitsAt (beAt j.header 0 2) 6 1 = 0 →
    ∃ t, exec (.ackCheck id p granted) s = .next t ∧ t.job? id = some { x with stage := .cleared }
      ∧ Frame [.tx] [] [] s t)
  ∧ (∀ (s : State) (id g q : Nat) (b : Bool × Int × Int) (j x : TxJob) (p : Frac) (granted : Bool), s.live = true →
      s.dieUp j.f = true → s.job? id = some j → id < s.tx.nextJob → j.kind = .ack g → j.stage = .ready →
      s.atCheck j = true → s.lookContacts = s → s.portFaulted j.f j.o = false → x = s.atFirstCheck j →
      (s.forceOf x).band = some b → s.listens j = true → s.busyFor id x granted b (fun _ => some p) = false →
      bitsAt (beAt j.header 0 2) 6 1 = 1 → s.piggyQueue (macDst j.header) = some q →
    ∃ t y, exec (.ackCheck id p granted) s = .next t ∧ t.job? id = some { x with stage := .cleared }
      ∧ t.job? s.tx.nextJob = some y ∧ y.kind = .piggyback ∧ y.queue = q ∧ y.f = j.f ∧ y.o = j.o ∧ y.grid = j.grid
      ∧ y.t0 = j.lastChip + (s.get Reg.MAC.ACK_CFG.TURN_US * 1000 : Nat) ∧ Frame [.tx] [] [] s t)
  -- busy: dropped, no retry
  ∧ (∀ (s : State) (id g : Nat) (j x : TxJob) (p : Frac) (granted : Bool), s.live = true → s.dieUp j.f = true →
      s.job? id = some j → j.kind = .ack g → j.stage = .ready → s.atCheck j = true → s.lookContacts = s →
      s.portFaulted j.f j.o = false → x = s.atFirstCheck j →
      (∀ b, (s.forceOf x).band = some b → s.listens j = false ∨ s.busyFor id x granted b (fun _ => some p) = true) →
    ∃ t, exec (.ackCheck id p granted) s = .next t ∧ t.job? id = none
      ∧ t.stat Reg.MAC.ACK_BUSY = (s.stat Reg.MAC.ACK_BUSY + 1) % 2 ^ 32
      ∧ Frame [.air, .tx, .out] [] [Reg.MAC.ACK_BUSY] s t)
  -- on a faulted port: dropped
  ∧ (∀ (s : State) (id g : Nat) (j : TxJob) (p : Frac) (granted : Bool), s.live = true → s.dieUp j.f = true →
      s.job? id = some j → j.kind = .ack g → j.stage = .ready → s.atCheck j = true → s.lookContacts = s →
      s.portFaulted j.f j.o = true →
    ∃ t, exec (.ackCheck id p granted) s = .next t ∧ t.job? id = none ∧ Frame [.air, .tx, .out] [] [] s t)
  -- not ready: late
  ∧ (∀ (s : State) (id g : Nat) (j : TxJob) (p : Frac) (granted : Bool), s.live = true → s.dieUp j.f = true →
      s.job? id = some j → j.kind = .ack g → j.stage = .building → s.atCheck j = true → s.lookContacts = s →
    ∃ t, exec (.ackCheck id p granted) s = .next t ∧ t.job? id = none
      ∧ t.stat Reg.MAC.ACK_LATE = (s.stat Reg.MAC.ACK_LATE + 1) % 2 ^ 32 ∧ (176 ∉ s.evt.disarmed → t.pends 176)
      ∧ Frame (.air :: .tx :: signalled) [] (Reg.MAC.ACK_LATE :: alarmWords) s t)
  -- PIGGYBACK_CHECK of a queue emptied or taken from meanwhile, in no band, or on a faulted port: nothing is sent
  ∧ (∀ (s : State) (id : Nat) (j : TxJob) (granted : Bool), s.live = true → s.dieUp j.f = true → s.job? id = some j →
      j.kind = .piggyback → j.header = [] → s.atCheck j = true → s.lookContacts = s →
      ((s.queue j.queue).count = 0 ∨ (s.queue j.queue).sent = true ∨ s.portFaulted j.f j.o = true
        ∨ (s.forceOf (s.piggyCand j)).band = none) →
    ∃ t, exec (.piggybackCheck id granted) s = .next t ∧ t.job? id = none ∧ Frame [.air, .tx, .out] [] [] s t)
  -- busy: nothing is sent, and the item stays at its queue's head
  ∧ (∀ (s : State) (id : Nat) (b : Bool × Int × Int) (j : TxJob) (granted : Bool), s.live = true → s.dieUp j.f = true →
      s.job? id = some j → j.kind = .piggyback → j.header = [] → s.atCheck j = true → s.lookContacts = s →
      0 < (s.queue j.queue).count → (s.queue j.queue).sent = false → s.portFaulted j.f j.o = false →
      (s.forceOf (s.piggyCand j)).band = some b →
      (s.listens j = false ∨ s.busyFor id (s.piggyCand j) granted b s.meanPower = true) →
    ∃ t, exec (.piggybackCheck id granted) s = .next t ∧ t.job? id = none
      ∧ t.stat Reg.MAC.BUSY_CHECKS = (s.stat Reg.MAC.BUSY_CHECKS + 1) % 2 ^ 32
      ∧ Frame [.air, .tx, .out] [] [Reg.MAC.BUSY_CHECKS] s t)
  -- that passes its one check: the item is taken and charged, and its frame follows the ack without a further check, a
  -- class 0 frame with its twin
  ∧ (∀ (s : State) (id len : Nat) (b : Bool × Int × Int) (j cand : TxJob) (h : List Byte) (granted : Bool),
      s.live = true → s.dieUp j.f = true → s.job? id = some j → j.kind = .piggyback → j.header = [] →
      s.atCheck j = true → s.lookContacts = s → 0 < (s.queue j.queue).count → (s.queue j.queue).sent = false →
      s.portFaulted j.f j.o = false → cand = s.piggyCand j → (s.forceOf cand).band = some b →
      h = sliceB (s.itemData (s.queue j.queue).head) 0 32 → len = s.headLen j.queue → s.listens j = true →
      s.busyFor id cand granted b s.meanPower = false → s.frameError h cand.rate j.grid = none →
      s.outCovers j.f j.o j.grid cand.rate = true →
    ∃ x r y d t, exec (.piggybackCheck id granted) s = .next (match t.job? y.tx.nextJob with
        | some k => t.startSecond k
        | none => t)
      ∧ t = y.sendFrame .piggyback j.queue d (y.itemPayload d.first) [(j.f, j.o, j.grid)]
          (r.1.twinFor (s.queue j.queue).cls r.2.1 j.f j.o j.grid cand.rate) j.t0
      ∧ r.1.openDown j.queue j.group ⟨cand.rate, [(j.f, j.o, j.grid)], none, none, false, none⟩ = (y, d)
      ∧ r = x.streamsFor ((s.queue j.queue).addr.getD broadcast) (s.queue j.queue).slot
      ∧ x.job? id = none ∧ (x.queue j.queue).sent = true ∧ (x.queue j.queue).count = (s.queue j.queue).count - 1
      ∧ (x.queue j.queue).mark = (s.queue j.queue).head ∧ (x.queue j.queue).deficit = (s.queue j.queue).deficit - len
      ∧ x.tokens j.group (s.queue j.queue).cls
          = (if s.on (Reg.SCHED.BUCKET.EN j.group (s.queue j.queue).cls) = true
              then max (-1279) (s.tokens j.group (s.queue j.queue).cls - len)
              else s.tokens j.group (s.queue j.queue).cls)
      ∧ x.listed j.queue = false ∧ Frame [.tx, .cask, .tun, .sched, .free] [] [] s x)
  -- a frame without a check value goes to its output at its instant, under the counter of its attempt; that of a piggyback
  -- has had its check
  ∧ (∀ (s y : State) (k : JobKind) (q f o grid c : Nat) (d : Downlink) (payload : List Byte) (t0 : Int),
      itemCvlen d.header = 0 → s.downCounter d = (y, some c) →
    ∃ t, s.sendCopies k q d payload [(f, o, grid)] t0 = t
      ∧ t.down? q = some { d with ctrs := c :: d.ctrs, jobs := [s.tx.nextJob], sent := false, awaiting := none,
                                  status := .internal }
      ∧ t.job? s.tx.nextJob = some {
          kind := k, queue := q, f := f, o := o, grid := grid, rate := d.rate, net := itemNet d.header, t0 := t0,
          header := s.downHeader q d c, payload := payload, cv := 0, key := none,
          stage := (if k = .piggyback then .cleared else .ready), nb := 0, be := s.get Reg.MAC.LBT_CFG.MIN_BE,
          force := none, group := s.get (Reg.SCHED.OUT_GROUP.GROUP f o), cls := d.cls }
      ∧ Frame [.tx, .kiln] [Reg.KILN.DL_HIGH.HIGH] [] s t)

/-- Gate lists and the scheduler's decisions (R221 to R228, R283). Where the spec leaves a point of it open, the
clause is the model's choice: log entries 68, 71, 72, 73, 75, 77, 185, 188. -/
def Obligations.SchedulerCommands : Prop :=
  -- GATE_COMMIT of a shadow list that may be committed: the takeover is pending, LAST_WR is DONE
  (∀ (s : State) (g : Fin 64) (v : BitVec 32), s.hostUp = true → bitsAt v.toNat 9 1 = 1 → bitsAt v.toNat 10 1 = 0 →
      bitsAt v.toNat 0 9 = s.get (Reg.SCHED.GATE_CTL.LEN g) → s.get (Reg.SCHED.GATE_CTL.LEN g) ≤ 256 →
      s.on (Reg.SCHED.GATE_CTL.PENDING g) = false → s.commitOk g = true →
    ∃ t, exec (.gateCommit g v) s = .next t ∧ t.get (Reg.SCHED.GATE_CTL.PENDING g) = 1
      ∧ t.get (Reg.SCHED.GATE_CTL.LAST_WR g) = 0
      ∧ Tbl.find? t.sched.pending g = some ⟨s.shadowList g, s.get (Reg.SCHED.GATE_TAKEOVER.MSC g),
          s.meshNs + s.untilNs (s.get (Reg.SCHED.GATE_TAKEOVER.MSC g)) 0⟩
      ∧ t.sched.gates = s.sched.gates ∧ t.sched.tokens = s.sched.tokens
      ∧ Frame [.sched] [Reg.SCHED.GATE_CTL.PENDING g, Reg.SCHED.GATE_CTL.COMMIT g, Reg.SCHED.GATE_CTL.LAST_WR g] [] s t)
  -- one that may not is rejected with BAD_FIELD, and the write latches an access fault
  ∧ (∀ (s : State) (g : Fin 64) (v : BitVec 32), s.hostUp = true → bitsAt v.toNat 9 1 = 1 → bitsAt v.toNat 10 1 = 0 →
      bitsAt v.toNat 0 9 = s.get (Reg.SCHED.GATE_CTL.LEN g) → s.get (Reg.SCHED.GATE_CTL.LEN g) ≤ 256 →
      s.on (Reg.SCHED.GATE_CTL.PENDING g) = false → s.commitOk g = false →
    ∃ t, exec (.gateCommit g v) s = .next t ∧ t.get (Reg.SCHED.GATE_CTL.LAST_WR g) = 0x11
      ∧ t.safe.fault.valid = true ∧ Frame signalled [Reg.SCHED.GATE_CTL.LAST_WR g] alarmWords s t)
  -- what a commit requires: no DUR of 0, a cycle of whole slots, a takeover ahead in MSC order
  ∧ (∀ (s : State) (g : Nat), s.commitOk g = true ↔
      ((∀ e, e < s.get (Reg.SCHED.GATE_CTL.LEN g) → s.get (Reg.SCHED.GATE_ENTRY.DUR g e) ≠ 0)
      ∧ (((List.range (s.get (Reg.SCHED.GATE_CTL.LEN g))).map fun e => s.get (Reg.SCHED.GATE_ENTRY.DUR g e)).sum) % 200 = 0
      ∧ 1 ≤ (s.get (Reg.SCHED.GATE_TAKEOVER.MSC g) + 2 ^ 48 - s.time.msc) % 2 ^ 48
      ∧ (s.get (Reg.SCHED.GATE_TAKEOVER.MSC g) + 2 ^ 48 - s.time.msc) % 2 ^ 48 ≤ 2 ^ 47 - 1))
  -- COMMIT while a takeover is pending is ignored; a write of LEN then is dropped with BUSY
  ∧ (∀ (s : State) (g : Fin 64) (v : BitVec 32), s.hostUp = true → bitsAt v.toNat 10 1 = 0 →
      bitsAt v.toNat 0 9 = s.get (Reg.SCHED.GATE_CTL.LEN g) → s.get (Reg.SCHED.GATE_CTL.LEN g) ≤ 256 →
      s.on (Reg.SCHED.GATE_CTL.PENDING g) = true → exec (.gateCommit g v) s = .next s)
  ∧ (∀ (s : State) (g : Fin 64) (v : BitVec 32), s.hostUp = true → bitsAt v.toNat 9 1 = 1 → bitsAt v.toNat 10 1 = 0 →
      bitsAt v.toNat 0 9 ≤ 256 → bitsAt v.toNat 0 9 ≠ s.get (Reg.SCHED.GATE_CTL.LEN g) →
      s.on (Reg.SCHED.GATE_CTL.PENDING g) = true →
    ∃ t, exec (.gateCommit g v) s = .next t ∧ t.get (Reg.SCHED.GATE_CTL.LAST_WR g) = 0x1B
      ∧ Frame [] [Reg.SCHED.GATE_CTL.LAST_WR g] [] s t)
  -- GATE_CANCEL
  ∧ (∀ (s : State) (g : Fin 64) (v : BitVec 32), s.hostUp = true → bitsAt v.toNat 9 1 = 0 → bitsAt v.toNat 10 1 = 1 →
      bitsAt v.toNat 0 9 = s.get (Reg.SCHED.GATE_CTL.LEN g) → s.get (Reg.SCHED.GATE_CTL.LEN g) ≤ 256 →
    ∃ t, exec (.gateCancel g v) s = .next t ∧ t.get (Reg.SCHED.GATE_CTL.PENDING g) = 0
      ∧ t.sched = { s.sched with pending := Tbl.erase s.sched.pending g }
      ∧ Frame [.sched] [Reg.SCHED.GATE_CTL.PENDING g, Reg.SCHED.GATE_CTL.COMMIT g] [] s t)
  -- GATE_TAKEOVER at the start of its slot: the shadow list is in force from entry 0, the banks change places, source 129
  ∧ (∀ (s : State) (g : Fin 64) (l : GateList), s.live = true → Tbl.find? s.sched.pending g = some l →
      l.startNs ≤ s.meshNs → s.get (Reg.SCHED.GATE_CTL.ACTIVE_BANK g) ≤ 1 →
    ∃ t, exec (.gateTakeover g) s = .next t
      ∧ Tbl.find? t.sched.gates g = (if l.entries = [] then none else some l)
      ∧ (∀ k, k ≠ g.val → Tbl.find? t.sched.gates k = Tbl.find? s.sched.gates k)
      ∧ Tbl.find? t.sched.pending g = none ∧ t.get (Reg.SCHED.GATE_CTL.PENDING g) = 0
      ∧ t.get (Reg.SCHED.GATE_CTL.HAS_LIST g) = (if l.entries = [] then 0 else 1)
      ∧ t.get (Reg.SCHED.GATE_CTL.ACTIVE_BANK g) = 1 - s.get (Reg.SCHED.GATE_CTL.ACTIVE_BANK g)
      ∧ t.get (Reg.SCHED.GATE_CTL.ENTRY_NOW g) = 0 ∧ t.pends 129
      ∧ (∀ e, e < 256 → (t.bank g).getD e (0, 0)
          = (s.get (Reg.SCHED.GATE_ENTRY.OPEN g e), s.get (Reg.SCHED.GATE_ENTRY.DUR g e)))
      ∧ (∀ e, e < 256 → t.get (Reg.SCHED.GATE_ENTRY.OPEN g e) = ((s.bank g).getD e (0, 0)).1 % 2 ^ (Reg.SCHED.GATE_ENTRY.OPEN g e).width
          ∧ t.get (Reg.SCHED.GATE_ENTRY.DUR g e)
            = ((s.bank g).getD e (0, 0)).2 % 2 ^ (Reg.SCHED.GATE_ENTRY.DUR g e).width)
      ∧ t.stat Reg.SCHED.TAKEOVERS = (s.stat Reg.SCHED.TAKEOVERS + 1) % 2 ^ 32
      ∧ Frame (.sched :: signalled) ([Reg.SCHED.GATE_CTL.PENDING g, Reg.SCHED.GATE_CTL.COMMIT g,
            Reg.SCHED.GATE_CTL.HAS_LIST g, Reg.SCHED.GATE_CTL.ACTIVE_BANK g, Reg.SCHED.GATE_CTL.ENTRY_NOW g]
          ++ (List.range 256).flatMap fun e => [Reg.SCHED.GATE_ENTRY.OPEN g e, Reg.SCHED.GATE_ENTRY.DUR g e])
          (Reg.SCHED.TAKEOVERS :: alarmWords) s t)
  ∧ (∀ (s : State) (g : Fin 64) (l : GateList), Tbl.find? s.sched.pending g = some l →
      s.meshNs < l.startNs → exec (.gateTakeover g) s = .next s)
  -- GATE_ENTRY_CHANGE
  ∧ (∀ (s : State) (g : Fin 64) (l : GateList), s.live = true → Tbl.find? s.sched.gates g = some l → l.entries ≠ [] →
    ∃ t, exec (.gateEntryChange g) s = .next t
      ∧ t.get (Reg.SCHED.GATE_CTL.ENTRY_NOW g) = l.entryAt s.meshNs % 2 ^ 8
      ∧ Frame [] [Reg.SCHED.GATE_CTL.ENTRY_NOW g] [] s t)
  -- SCHED_DECISION with an item that may go and room for it: it is served at the instant found
  ∧ (∀ (s x : State) (g : Fin 64) (q : Nat) (p : Plan) (t0 : Int), s.live = true → s.on Reg.SCHED.CFG.EN = true →
      s.on Reg.KILN.STATUS.FLOOR_SET = true → s.lookContacts = s → s.committed g ≤ s.get Reg.SCHED.CFG.DEPTH →
      s.offer g = some (x, q, p, t0) → s.contextsFree p = true →
    exec (.schedDecision g) s = .next (x.serve g q p t0))
  -- with none, with as many items committed as DEPTH allows, or with no transmit context free, none is served
  ∧ (∀ (s : State) (g : Fin 64), s.lookContacts = s → (s.get Reg.SCHED.CFG.DEPTH < s.committed g
        ∨ ∀ r, s.offer g = some r → s.contextsFree r.2.2.1 = false) →
    exec (.schedDecision g) s = .next s)
  -- no item is served before the downlink counters have a floor (R283)
  ∧ (∀ (s : State) (g : Fin 64), s.on Reg.KILN.STATUS.FLOOR_SET = false → exec (.schedDecision g) s = .next s)
  -- the order of the lists: class 0, urgent, classes 1 to 7; an empty list or an empty bucket is passed over (R225, R227)
  ∧ (∀ (s : State) (g : Nat) (x : State × Nat × Plan × Int), s.offerClass g 0 = some x → s.offer g = some x)
  ∧ (∀ (s : State) (g : Nat) (x : State × Nat × Plan × Int), s.offerClass g 0 = none → s.offerUrgent g = some x →
      s.offer g = some x)
  ∧ (∀ (s : State) (g c : Nat) (x : State × Nat × Plan × Int), c < 7 → s.offerClass g 0 = none → s.offerUrgent g = none →
      (∀ k, k < c → s.offerClass g (k + 1) = none) → s.offerClass g (c + 1) = some x → s.offer g = some x)
  ∧ (∀ (s : State) (g c : Nat), (s.classList g c = [] ∨ (s.on (Reg.SCHED.BUCKET.EN g c) = true ∧ s.tokens g c ≤ 0)) →
      s.offerClass g c = none)
  -- deficit round robin (R226): a front queue whose deficit is positive is offered; one whose deficit is not gains
  -- QUANTUM and goes to the tail
  ∧ (∀ (s : State) (g c n q : Nat) (l : List Nat), s.classList g c = q :: l → 0 < (s.queue q).deficit →
      s.frontOf g c n = s)
  ∧ (∀ (s : State) (g c n q : Nat) (l : List Nat), s.classList g c = q :: l → (s.queue q).deficit ≤ 0 →
    ∃ x, s.frontOf g c (n + 1) = x.frontOf g c n ∧ x.classList g c = l ++ [q]
      ∧ (x.queue q).deficit = (s.queue q).deficit + s.get (Reg.SCHED.CLASS.QUANTUM c)
      ∧ (∀ k, k ≠ q → x.queue k = s.queue k) ∧ Frame [.cask] [] [] s x)
  -- with a QUANTUM of 1,280 or more the round robin ends at a queue whose deficit is positive
  ∧ (∀ (s x : State) (g c q : Nat) (l : List Nat), 1280 ≤ s.get (Reg.SCHED.CLASS.QUANTUM c) →
      x = s.frontOf g c (s.frontFuel (s.classList g c)) → x.classList g c = q :: l → 0 < (x.queue q).deficit)
  -- what serving does: the item is taken, deficit and bucket are charged its MAC bytes, DECISIONS counts, and the frame
  -- of a class above 0 is built for its outputs at the instant found
  ∧ (∀ (s : State) (g q : Nat) (p : Plan) (t0 : Int), p.error = none → p.wake = none → p.flood = false →
      (s.queue q).cls ≠ 0 → (∀ d, Tbl.find? s.tx.kept (s.queue q).head = some d → d.cls ≠ 0) →
    ∃ (x y : State) (d : Downlink), s.serve g q p t0
        = (y.bumpBy Reg.NODE.FLOODED 0).sendCopies .down q d (y.itemPayload d.first) p.copies t0
      ∧ x.openDown q g p = (y, d) ∧ (x.queue q).sent = true ∧ (x.queue q).count = (s.queue q).count - 1
      ∧ (x.queue q).mark = (s.queue q).head ∧ (x.queue q).deficit = (s.queue q).deficit - s.headLen q
      ∧ x.tokens g (s.queue q).cls = (if s.on (Reg.SCHED.BUCKET.EN g (s.queue q).cls) = true
          then max (-1279) (s.tokens g (s.queue q).cls - s.headLen q) else s.tokens g (s.queue q).cls)
      ∧ x.listed q = false ∧ x.stat Reg.SCHED.DECISIONS = (s.stat Reg.SCHED.DECISIONS + 1) % 2 ^ 32
      ∧ Frame [.cask, .tun, .sched, .free] [] [Reg.SCHED.DECISIONS] s x)
  -- an item that cannot radiate completes with its status
  ∧ (∀ (s : State) (g q : Nat) (p : Plan) (t0 : Int) (st : Status), p.error = some st → p.flood = false →
    ∃ (x y : State) (d : Downlink), s.serve g q p t0 = (y.bumpBy Reg.NODE.FLOODED 0).completeDown q d st
      ∧ x.openDown q g p = (y, d) ∧ (x.queue q).sent = true)
  -- a frame of class 0 with a second output goes twice: in sub-slot mode its second copy waits for the first, in channel
  -- mode both go at once (R181); one without counts in TWIN_SINGLE at its first attempt
  ∧ (∀ (s : State) (k : JobKind) (q : Nat) (d : Downlink) (l : List Byte) (c : List (Nat × Nat × Nat)) (o : Nat × Nat)
      (t0 : Int), d.cls = 0 → d.flood = false → s.sendFrame k q d l c (some o) t0
        = (if s.on Reg.MAC.TWIN_CFG.MODE = true
            then s.sendCopies k q d l (c ++ [(o.1, o.2, s.twinGrid (itemGrid d.header))]) t0
            else s.sendCopies k q { d with second := some o } l c t0))
  ∧ (∀ (s : State) (k : JobKind) (q : Nat) (d : Downlink) (l : List Byte) (c : List (Nat × Nat × Nat)) (t0 : Int),
      d.cls = 0 → d.flood = false →
    ∃ x : State, s.sendFrame k q d l c none t0 = x.sendCopies k q d l c t0
      ∧ x.stat Reg.MAC.TWIN_SINGLE = (s.stat Reg.MAC.TWIN_SINGLE + bit d.ctrs.isEmpty) % 2 ^ 32
      ∧ Frame [] [] [Reg.MAC.TWIN_SINGLE] s x)
  -- a bucket never goes below −1,279 (R227)
  ∧ (∀ (s : State) (g c : Nat) (v : Int), -1279 ≤ (s.setTokens g c v).tokens g c)
  -- a first attempt opens its record under the node's next sequence number, a later one goes on with the same (R179)
  ∧ (∀ (s : State) (q g : Nat) (p : Plan), Tbl.find? s.tx.kept (s.queue q).mark = none →
    ∃ y d, s.openDown q g p = (y, d) ∧ d.first = (s.queue q).mark ∧ d.attempts = 0 ∧ d.ctrs = [] ∧ d.retries = 0
      ∧ d.seq = Tbl.getD s.tx.seqs ((s.queue q).addr.getD broadcast) 0
      ∧ Tbl.find? y.tx.seqs ((s.queue q).addr.getD broadcast) = some ((d.seq + 1) % 256) ∧ Frame [.tx] [] [] s y)
  ∧ (∀ (s : State) (q g : Nat) (p : Plan) (d : Downlink), Tbl.find? s.tx.kept (s.queue q).mark = some d →
    s.openDown q g p = (s, { d with rate := p.rate, group := g, flood := p.flood, second := none }))

/-- A span that a gate list leaves open is one at every instant of which the entry in force opens the class (R222,
R224). -/
def Obligations.GateSpans : Prop :=
  ∀ (l : GateList) (c : Nat) (a b x : Int), l.entries ≠ [] → (∀ e ∈ l.entries, e.2 ≠ 0) → l.opens c a b = true →
    a ≤ x → x ≤ b → bitsAt (l.entries.getD (l.entryAt x) (0, 0)).1 c 1 = 1

/-- Policy calls (R353 to R356): when one starts, waits, or ends by default. Where the spec leaves a point of it open,
the clause is the model's choice: log entries 91, 125, 126. -/
def Obligations.PolicyCalls : Prop :=
  -- a call that falls due starts on the lowest core that waits, with its mailbox and entry registers
  (∀ (s : State) (g k : Nat), s.live = true → Hook.join g ∈ s.tun.due →
      s.hookOn (.join g) = true → s.freeCore (s.get Reg.TUN.POLICY_CFG.CORE_EN) = some k →
      (∀ p ∈ s.tun.calls, p.2.core ≠ none) →
    ∃ t, exec (.joinRequest g) s = .next t ∧ CallStarts s t (.join g) k
      ∧ t.stat (Reg.TUN.CALLS 0) = (s.stat (Reg.TUN.CALLS 0) + 1) % 2 ^ 32 ∧ Frame [.tun] [] [Reg.TUN.CALLS 0] s t)
  ∧ (∀ (s : State) (q k : Nat) (u : Bool), s.live = true →
      s.tun.due.find? (fun h => match h with | .route q' _ => q' = q | _ => false) = some (.route q u) →
      s.hookOn (.route q u) = true → s.freeCore (s.get Reg.TUN.POLICY_CFG.CORE_EN) = some k →
      (∀ p ∈ s.tun.calls, p.2.core ≠ none) →
    ∃ t, exec (.routeChoice q) s = .next t ∧ CallStarts s t (.route q u) k
      ∧ t.stat (Reg.TUN.CALLS 1) = (s.stat (Reg.TUN.CALLS 1) + 1) % 2 ^ 32 ∧ Frame [.tun] [] [Reg.TUN.CALLS 1] s t)
  ∧ (∀ (s : State) (g k : Nat), s.live = true → Hook.classify g ∈ s.tun.due →
      s.hookOn (.classify g) = true → s.freeCore (s.get Reg.TUN.POLICY_CFG.CORE_EN) = some k →
      (∀ p ∈ s.tun.calls, p.2.core ≠ none) →
    ∃ t, exec (.frameClassify g) s = .next t ∧ CallStarts s t (.classify g) k
      ∧ t.stat (Reg.TUN.CALLS 2) = (s.stat (Reg.TUN.CALLS 2) + 1) % 2 ^ 32 ∧ Frame [.tun] [] [Reg.TUN.CALLS 2] s t)
  -- with no core free it waits, up to 256 of them
  ∧ (∀ (s : State) (g : Nat), s.live = true → Hook.join g ∈ s.tun.due →
      s.hookOn (.join g) = true → (∀ k ∈ policyCores, (s.core k).st ≠ .wait) → s.callsWaiting < 256 →
    ∃ t, exec (.joinRequest g) s = .next t ∧ Hook.join g ∉ t.tun.due
      ∧ Tbl.find? t.tun.calls s.tun.nextCall = some (s.newCall (.join g))
      ∧ t.tun.cores = s.tun.cores ∧ Frame [.tun] [] [Reg.TUN.CALLS 0] s t)
  -- past that it takes its default at once: NO_CORE, source 293
  ∧ (∀ (s : State) (g : Nat), s.live = true → Hook.classify g ∈ s.tun.due →
      s.hookOn (.classify g) = true → (∀ k ∈ policyCores, (s.core k).st ≠ .wait) → 256 ≤ s.callsWaiting →
    ∃ t, exec (.frameClassify g) s = .next t ∧ Hook.classify g ∉ t.tun.due ∧ t.tun.calls = s.tun.calls
      ∧ t.stat Reg.TUN.NO_CORE = (s.stat Reg.TUN.NO_CORE + 1) % 2 ^ 32 ∧ (293 ∉ s.evt.disarmed → t.pends 293))
  -- the lowest core: enabled in the CORE_EN of the call's arrival and waiting
  ∧ (∀ (s : State) (k n : Nat), s.freeCore n = some k → 4 ≤ k ∧ k ≤ 7
      ∧ bitsAt n (k - 4) 1 = 1 ∧ (s.core k).st = .wait
      ∧ ∀ j, 4 ≤ j → j < k → ¬ (bitsAt n (j - 4) 1 = 1 ∧ (s.core j).st = .wait))
  -- HOOK_QUEUE_TIMEOUT: the call is forgotten, NO_CORE, and its hook takes its default
  ∧ (∀ (s : State) (call : Nat) (h : HookCall), s.live = true → Tbl.find? s.tun.calls call = some h → h.core = none →
    ∃ x, exec (.hookQueueTimeout call) s = .next (x.defaultCall h) ∧ Tbl.has x.tun.calls call = false
      ∧ x.stat Reg.TUN.NO_CORE = (s.stat Reg.TUN.NO_CORE + 1) % 2 ^ 32 ∧ (293 ∉ s.evt.disarmed → x.pends 293)
      ∧ Frame (.tun :: signalled) [] [Reg.TUN.NO_CORE, Reg.ETH.PRIV_SENT, Reg.ETH.FP_DROP] s x)
  ∧ (∀ (s : State) (call : Nat) (h : HookCall), Tbl.find? s.tun.calls call = some h → h.core ≠ none →
    exec (.hookQueueTimeout call) s = .next s)
  -- HOOK_BUDGET_EXPIRY: BUDGET is latched with the hook, the core waits, and its hook takes its default
  ∧ (∀ (s : State) (k : Fin 4) (call : Nat) (h : HookCall), s.live = true → s.callOn (4 + k) = some (call, h) →
      (s.core (4 + k)).st = .running →
    ∃ x, exec (.hookBudgetExpiry k) s = .next ((x.defaultCall h).serveCalls) ∧ (x.core (4 + k)).st = .wait
      ∧ Tbl.has x.tun.calls call = false ∧ x.get (Reg.TUN.EXC.CAUSE k) = 6 ∧ x.get (Reg.TUN.EXC.VALID k) = 1
      ∧ x.get (Reg.TUN.EXC.HOOK k) = h.hook.code ∧ x.stat (Reg.TUN.EXC_PC k) = (s.core (4 + k)).pc.toNat
      ∧ x.stat Reg.TUN.BUDGET = (s.stat Reg.TUN.BUDGET + 1) % 2 ^ 32 ∧ (292 ∉ s.evt.disarmed → x.pends 292)
      ∧ Frame (.tun :: signalled) [Reg.TUN.EXC.CAUSE k, Reg.TUN.EXC.HOOK k, Reg.TUN.EXC.VALID k]
          [Reg.TUN.EXC_PC k, Reg.TUN.EXC_BADADDR k, Reg.TUN.EXC_COUNT k, Reg.TUN.BUDGET, Reg.ETH.PRIV_SENT, Reg.ETH.FP_DROP] s x)
  -- the defaults: JOIN_DEFAULT as the call's arrival found it; a queue joins its list unless it need not
  ∧ (∀ (s : State) (g : Nat) (h : HookCall), h.hook = .join g → s.defaultCall h = s.joinEnds g (!h.reject))
  ∧ (∀ (s : State) (q : Nat) (u : Bool) (h : HookCall), h.hook = .route q u → (s.queue q).sent = false →
      s.listed q = false → 0 < (s.queue q).count → s.defaultCall h = s.joinNow q u none)
  ∧ (∀ (s : State) (q : Nat) (u : Bool) (h : HookCall), h.hook = .route q u →
      ((s.queue q).sent = true ∨ s.listed q = true ∨ (s.queue q).count = 0) → s.defaultCall h = s)
  ∧ (∀ (s : State) (g : Nat) (h : HookCall), h.hook = .classify g → s.defaultCall h = s.releaseGroup g)
  ∧ (∀ (s : State) (h : Hook), (s.newCall h).reject = s.on Reg.TUN.POLICY_CFG.JOIN_DEFAULT
      ∧ (s.newCall h).takers = s.get Reg.TUN.POLICY_CFG.CORE_EN ∧ (s.newCall h).args = s.callBox h s.tun.nextCall)
  -- a call whose hook is disabled by then takes its default without a core
  ∧ (∀ (s : State) (g : Nat), s.live = true → Hook.join g ∈ s.tun.due → s.hookOn (.join g) = false →
    exec (.joinRequest g) s = .next (({ s with tun := { s.tun with due := s.tun.due.filter (· ≠ Hook.join g) } }).defaultCall
      (s.newCall (.join g))))

/-- The start-up order, RESET_N and what a reset leaves (R37, R322, R325 to R327). Where the spec leaves a point of it
open, the clause is the model's choice: log entries 6, 112, 114, 115, 116, 117, 118, 163, 202. -/
def Obligations.StartUpCommands : Prop :=
  -- COLD_START: the watch domain afresh, WS_ADDR sampled, PWR_EN[0]
  (∀ (s : State) (a b : Bool), s.power.phase = .noVstby →
    ∃ t, exec (.coldStart a b) s = .next t ∧ t.power = { s.power with phase := .railUp 0, pwrEn := 1 }
      ∧ t.watch = { Watch.init with wsAddr := BitVec.ofNat 2 (2 * a.toNat + b.toNat) } ∧ Frame [.power, .watch] [] [] s t)
  -- PGOOD_RISE: the next PWR_EN, or the oscillator that REF_SEL names, sampled at every start
  ∧ (∀ (s : State) (n : Fin 4) (r : Bool), s.power.phase = .railUp n → n.val < 3 →
    ∃ t, exec (.pgoodRise n r) s = .next t ∧ t.power = { s.power with
        phase := .railUp (n.val + 1), pwrEn := (s.power.pwrEn ||| BitVec.ofNat 4 (2 ^ (n.val + 1))) }
      ∧ Frame [.power] [] [] s t)
  ∧ (∀ (s : State) (r : Bool), s.power.phase = .railUp 3 →
    ∃ t, exec (.pgoodRise 3 r) s = .next t ∧ t.power = { s.power with phase := .osc }
      ∧ t.watch = { s.watch with refSel := r } ∧ Frame [.power, .watch] [] [] s t)
  -- OSC_RDY: step 3, unless RESET_N is low; MEM_RDY
  ∧ (∀ s : State, s.power.phase = .osc →
    ∃ t, exec .oscRdy s = .next t
      ∧ t.power = { s.power with phase := (if s.power.resetN = true then .resetHeld else .mem) } ∧ Frame [.power] [] [] s t)
  ∧ (∀ s : State, s.power.phase = .mem →
    ∃ t, exec .memRdy s = .next t ∧ t.power = { s.power with phase := .pll } ∧ Frame [.power] [] [] s t)
  -- LOGIC_RDY with no tamper source active: every register at its reset value but those that show OTP, the slot chosen
  -- and the start of Kiln's tests; a thermal trip is reported
  ∧ (∀ (s : State) (l : List TamperSource), s.power.phase = .pll → (∀ x ∈ l, s.start.fires x = false) →
    ∃ t, exec (.logicRdy l) s = .next t ∧ t.power.phase = .boot ∧ t.power.pwrEn = s.power.pwrEn ∧ t.part = s.part
      ∧ t.watch = { s.watch with tripReport := false } ∧ t.get Reg.KILN.STATUS.UPDATE_CTR = s.otp.updateCtr % 2 ^ 12
      ∧ t.get Reg.RNG.STATUS.TESTING = 1
      ∧ t.get Reg.SAFE.FAULT_CTL.CAUSE = (if s.watch.tripReport = true then 16 else 0)
      ∧ (∀ g : Fld, (∀ f ∈ Reg.RNG.STATUS.TESTING :: bootFields, f.key ≠ g.key) → t.get g = g.rst)
      ∧ (∀ c : Component, c ∉ [.part, .power, .watch, .otp, .boot, .pending, .out, .free] → c ∉ signalled →
          c.Same State.reset t) ∧ t.pending = s.pending ∧ t.free = s.free)
  -- with one active boot stops: the source is latched, Kiln is held, no slot is chosen (R296)
  ∧ (∀ (s : State) (l : List TamperSource), s.power.phase = .pll → (∃ x ∈ l, s.start.fires x = true) →
    ∃ t, exec (.logicRdy l) s = .next t ∧ t.power.phase = .boot ∧ t.get Reg.KILN.STATUS.STATE = 3
      ∧ t.boot = s.start.boot ∧ (∀ x ∈ l, s.start.fires x = true → t.watch.tamper.getLsbD (tamperBit x) = true)
      ∧ Frame [.watch] [Reg.KILN.STATUS.STATE, Reg.RNG.STATUS.TESTING] [] s.start t)
  -- BOOT_RDY: the part runs, the fault count is cleared; out of TAMPER_HELD the cores are loaded, the PM I2C master is
  -- enabled after a check of its bus and every enabled rail's Noon code written, a wake is reported
  ∧ (∀ (s : State) (p : Nat), s.bootable = true → s.get Reg.KILN.STATUS.STATE ≠ 3 → p ≤ 10 →
    ∃ t, exec (.bootRdy p) s = .next t ∧ t.power = { s.power with phase := .running }
      ∧ t.watch = { s.watch with faults := 0 } ∧ t.get Reg.PWR.PM_I2C.EN = 1
      ∧ t.get Reg.PWR.PM_I2C.BUS_STUCK = bit (p = 10) ∧ (p = 10 → t.pends 9)
      ∧ (∀ d, d < 8 → p < 10 → s.dieThere d = true → s.on (Reg.PWR.RAIL.EN d) = true →
          Output.pmic (s.get (Reg.PWR.RAIL.ADDR d)) (s.get (Reg.PWR.RAIL.REG d)) (s.get (Reg.PWR.RAIL.CODE_NOON d)) ∈ t.out)
      ∧ (∀ k, k < 4 → (t.core k).st = .running) ∧ (∀ k, 4 ≤ k → k < 8 → (t.core k).st = .wait)
      ∧ (s.boot.woke = true → t.pends 0 ∧ t.boot.woke = false)
      ∧ (s.boot.woke = true → s.watch.tamperNight = true → t.pends 226)
      ∧ Frame (.power :: .watch :: .tun :: .boot :: signalled)
          [Reg.PWR.PM_I2C.EN, Reg.PWR.PM_I2C.BUS_STUCK, Reg.BOOT.HEALTH.LEFT_MS] alarmWords s t)
  -- held after a tamper it brings up the functions alone
  ∧ (∀ (s : State) (p : Nat), s.bootable = true → s.get Reg.KILN.STATUS.STATE = 3 → p ≤ 10 →
    ∃ t, exec (.bootRdy p) s = .next t ∧ t.power = { s.power with phase := .running }
      ∧ t.watch = { s.watch with faults := 0 } ∧ t.live = false ∧ Frame [.power, .watch] [] [] s t)
  -- it waits for a slot that passed its checks, for Kiln's self-test and for the seed
  ∧ (∀ (s : State) (p : Nat), p ≤ 10 → (s.power.phase ≠ .boot ∨ s.get Reg.KILN.STATUS.STATE ≤ 1
        ∨ (s.get Reg.KILN.STATUS.STATE = 2
      ∧ (s.boot.halted = true ∨ (s.on Reg.RNG.STATUS.SEEDED = false ∧ s.on Reg.RNG.STATUS.FAULT = false)))) →
    exec (.bootRdy p) s = .next s)
  -- START_UP_TIMEOUT and PGOOD_FALL: the code in ENTRY, the consecutive faults counted, PWR_EN drops from the highest
  ∧ (∀ (s : State) (c : Nat), stepFault s.power.phase = some c →
    ∃ t, exec .startUpTimeout s = .next t ∧ t.power = { s.power with phase := (.powerDown (highestOn s.power.pwrEn)) }
      ∧ t.watch.entry = c ∧ t.watch.faults = min 3 (s.watch.faults + 1) ∧ t.watch.nightCnt = s.watch.nightCnt
      ∧ Frame [.power, .watch] [] [] s t)
  ∧ ((∀ n, stepFault (.railUp n) = some (0x10 + n)) ∧ stepFault .osc = some 0x14 ∧ stepFault .mem = some 0x15
      ∧ stepFault .pll = some 0x16 ∧ stepFault .boot = some 0x17)
  ∧ (∀ (s : State) (n : Fin 4), railPassed s.power.phase n = true →
    ∃ t, exec (.pgoodFall n) s = .next t ∧ t.power = { s.power with phase := (.powerDown (highestOn s.power.pwrEn)) }
      ∧ t.watch.entry = 0x18 + n.val ∧ t.watch.faults = min 3 (s.watch.faults + 1) ∧ Frame [.power, .watch] [] [] s t)
  ∧ (∀ (s : State) (n : Fin 4), s.power.phase = .railUp n → exec (.pgoodFall n) s = .next s)
  -- RESET_N: everything but the watch domain, OTP and boot flash takes its reset value; step 3 follows its release
  ∧ (∀ s : State, holdable s.power.phase = true → exec .resetNAssert s = .next
      (({ s with power := { s.power with resetN := true }, boot := { s.boot with woke := false } }).wipe .resetHeld))
  -- before step 3 it is noted, and the order stops there
  ∧ (∀ s : State, holdable s.power.phase = false →
    ∃ t, exec .resetNAssert s = .next t ∧ t.power = { s.power with resetN := true } ∧ Frame [.power] [] [] s t)
  -- what it leaves; configuration space lasts while the supplies do (the model's reading, log entry 202)
  ∧ (∀ (s : State) (p : Phase), (s.wipe p).power.phase = p ∧ (s.wipe p).power.pwrEn = s.power.pwrEn
      ∧ (s.wipe p).power.resetN = s.power.resetN
      ∧ (s.wipe p).watch = s.watch ∧ (s.wipe p).otp = s.otp ∧ (s.wipe p).part = s.part
      ∧ (s.wipe p).boot.imageA = s.boot.imageA ∧ (s.wipe p).boot.imageB = s.boot.imageB
      ∧ (s.wipe p).boot.sec0 = s.boot.sec0 ∧ (s.wipe p).boot.sec1 = s.boot.sec1
      ∧ (s.wipe p).get Reg.SAFE.HEAD.CHECKED = bit (s.part.variant ≠ .wxb2)
      ∧ (s.wipe p).rings = { State.reset.rings with cfg := (if p = .night ∨ p = .noVstby then [] else s.rings.cfg) }
      ∧ Frame [.part, .power, .watch, .rings, .otp, .boot, .pending, .out, .free] [Reg.SAFE.HEAD.CHECKED] []
          State.reset (s.wipe p))
  ∧ (∀ s : State, s.power.phase = .resetHeld →
    ∃ t, exec .resetNRelease s = .next t ∧ t.power = { s.power with phase := .mem, resetN := false }
      ∧ Frame [.power] [] [] s t)

/-- Night and its wakes (R35, R322 to R326). Where the spec leaves a point of it open, the clause is the model's
choice: log entries 89, 109, 117, 162, 163, 202. -/
def Obligations.NightCommands : Prop :=
  -- NIGHT_CTL_WRITE with KEY 0x4E, some wake enabled and GO
  (∀ (s : State) (v : BitVec 32), s.up = true → bitsAt v.toNat 0 8 = 0x4E → bitsAt v.toNat 8 1 = 1 →
      (s.watch.wakeNEn = true ∨ s.watch.wsEn = true) →
    ∃ t, exec (.nightCtlWrite v) s = .next t ∧ t.power = { s.power with phase := .quiescing } ∧ Frame [.power] [] [] s t)
  -- with another KEY, or no wake enabled: illegal
  ∧ (∀ (s : State) (v : BitVec 32), s.up = true →
      (bitsAt v.toNat 0 8 ≠ 0x4E ∨ (s.watch.wakeNEn = false ∧ s.watch.wsEn = false)) →
    ∃ t, exec (.nightCtlWrite v) s = .next t ∧ t.power.phase = .running ∧ t.safe.fault.valid = true
      ∧ Frame signalled [] alarmWords s t)
  -- NIGHT_COMMIT: NIGHT_CNT counts, ENTRY is 01, WATCH.CFG is captured
  ∧ (∀ s : State, s.power.phase = .quiescing →
    ∃ t, exec .nightCommit s = .next t ∧ t.power = { s.power with phase := .committed }
      ∧ t.watch = { s.watch with entry := 1, nightCnt := (min (s.watch.nightCnt + 1) (2 ^ 32 - 1)), latched := none,
                                 capWakeN := s.watch.wakeNEn, capWs := s.watch.wsEn }
      ∧ Frame [.power, .watch] [] [] s t)
  -- WAKE_ARM: the power-down begins; a WAKE_N that is low is latched where it may wake the part
  ∧ (∀ (s : State) (low : Bool), s.power.phase = .committed →
    ∃ t, exec (.wakeArm low) s = .next t ∧ t.power = { s.power with phase := (.powerDown (highestOn s.power.pwrEn)) }
      ∧ t.watch = { s.watch with latched := (if (low && s.watch.wakeNOk) = true then s.watch.latched <|> some 2
          else s.watch.latched) }
      ∧ Frame [.power, .watch] [] [] s t)
  -- PWR_EN_DROP, one output after the other; then Night, or the start of a wake latched meanwhile
  ∧ (∀ (s : State) (n : Nat), s.power.phase = .powerDown (n + 1) →
    ∃ t, exec .pwrEnDrop s = .next t ∧ t.power = { s.power with
        phase := (.powerDown n), pwrEn := (s.power.pwrEn &&& ~~~(BitVec.ofNat 4 (2 ^ (n + 1)))) }
      ∧ Frame [.power] [] [] s t)
  ∧ (∀ s : State, s.power.phase = .powerDown 0 → s.watch.latched = none →
    ∃ t, exec .pwrEnDrop s = .next t ∧ t.power.phase = .night ∧ t.power.pwrEn = s.power.pwrEn &&& ~~~(1#4)
      ∧ t.watch = s.watch ∧ t.otp = s.otp ∧ t.part = s.part
      ∧ Frame [.part, .power, .watch, .otp, .boot, .pending, .out, .free] [Reg.SAFE.HEAD.CHECKED] [] State.reset t)
  ∧ (∀ (s : State) (w : Nat), s.power.phase = .powerDown 0 → s.watch.latched = some w →
    ∃ t, exec .pwrEnDrop s = .next t ∧ t.power.phase = .railUp 0 ∧ t.watch.wake = w ∧ t.watch.fromNight = true
      ∧ t.watch.tripLow = false ∧ t.boot.woke = true)
  -- ADDRESS_MATCH in Night of the slave's own address, enabled at commit: acknowledged, and the part wakes
  ∧ (∀ (s : State) (b : BitVec 8), s.power.phase = .night → s.watch.capWs = true →
      b.toNat / 2 = 0b10110 * 4 + s.watch.wsAddr.toNat →
    ∃ t, exec (.addressMatch b true) s = .next t ∧ t.out = s.out ++ [.watchReply true]
      ∧ t.power = { s.power with phase := .railUp 0, pwrEn := (s.power.pwrEn ||| 1#4) }
      ∧ t.watch = { s.watch with wake := 1, fromNight := true, latched := none, tripLow := false } ∧ t.boot.woke = true
      ∧ Frame [.power, .watch, .boot, .out] [] [] s t)
  -- of any other, outside Night, or of a byte that no START goes before: not acknowledged, no effect
  ∧ (∀ (s : State) (b : BitVec 8) (first : Bool), s.power.phase ≠ .noVstby → (first = false ∨ b.toNat / 2 ≠ 0b10110 * 4 + s.watch.wsAddr.toNat
      ∨ s.watch.capWs = false ∨ s.power.phase = .running) →
    ∃ t, exec (.addressMatch b first) s = .next t ∧ t.out = s.out ++ [.watchReply false] ∧ Frame [.out] [] [] s t)
  -- WAKE_N: in Night the part wakes, while the rails drop the wake is latched
  ∧ (∀ s : State, s.power.phase = .night → s.watch.wakeNOk = true →
    ∃ t, exec .wakeN s = .next t ∧ t.power = { s.power with phase := .railUp 0, pwrEn := (s.power.pwrEn ||| 1#4) }
      ∧ t.watch = { s.watch with wake := 2, fromNight := true, latched := none, tripLow := false } ∧ t.boot.woke = true
      ∧ Frame [.power, .watch, .boot] [] [] s t)
  ∧ (∀ (s : State) (n : Nat), s.power.phase = .powerDown n → s.watch.wakeNOk = true → s.watch.latched = none →
    ∃ t, exec .wakeN s = .next t ∧ t.watch = { s.watch with latched := some 2 } ∧ Frame [.watch] [] [] s t)
  -- after three consecutive start-up faults it counts only once it has been seen high (R325)
  ∧ (∀ w : Watch, w.wakeNOk = true ↔ (w.capWakeN = true ∧ (w.faults < 3 ∨ w.seenHigh = true)))
  ∧ (∀ s : State, s.power.phase ≠ .noVstby →
    ∃ t, exec .wakeNHigh s = .next t ∧ t.watch = { s.watch with seenHigh := true } ∧ Frame [.watch] [] [] s t)
  -- VSTBY_LOSS: OTP and boot flash are kept, nothing else
  ∧ (∀ s : State, s.power.phase ≠ .noVstby →
    ∃ t, exec .vstbyLoss s = .next t ∧ t.power.phase = .noVstby ∧ t.power.pwrEn = 0 ∧ t.watch = .init ∧ t.otp = s.otp
      ∧ t.boot.imageA = s.boot.imageA ∧ t.boot.imageB = s.boot.imageB ∧ t.boot.sec0 = s.boot.sec0
      ∧ t.boot.sec1 = s.boot.sec1 ∧ t.part = s.part
      ∧ Frame [.part, .power, .watch, .otp, .boot, .pending, .out, .free] [Reg.SAFE.HEAD.CHECKED] [] State.reset t)
  -- THERMAL_TRIP: Night with ENTRY 02 and FAULT_N low, from any phase in which a rail may be on
  ∧ (∀ (s : State) (d : Fin 8), s.dieThere d = true → s.power.phase ≠ .noVstby → s.power.phase ≠ .night →
      s.power.phase ≠ .committed → (∀ n, s.power.phase ≠ .powerDown n) →
    ∃ t, exec (.thermalTrip d) s = .next t ∧ t.power = { s.power with phase := .committed }
      ∧ t.watch.entry = 2 ∧ t.watch.tripLow = true ∧ t.watch.tripReport = true
      ∧ t.watch.nightCnt = min (s.watch.nightCnt + 1) (2 ^ 32 - 1) ∧ Frame [.power, .watch] [] [] s t)
  -- an entry into Night already past its commit takes the trip's cause
  ∧ (∀ (s : State) (d : Fin 8), s.dieThere d = true → (s.power.phase = .committed ∨ ∃ n, s.power.phase = .powerDown n) →
    ∃ t, exec (.thermalTrip d) s = .next t
      ∧ t.watch = { s.watch with entry := 2, tripLow := true, tripReport := true } ∧ Frame [.watch] [] [] s t)

/-- Temperatures, thermal drops, level changes, Dusk and the PM I2C master (R33, R34, R316 to R321, R328). Where the
spec leaves a point of it open, the clause is the model's choice: log entries 119, 120, 160, 161, 162, 163. -/
def Obligations.PowerCommands : Prop :=
  -- TEMP_SAMPLE: 105 °C warns with source 4, below 100 °C the warning ends, 115 °C calls for a drop with source 5
  (∀ (s : State) (r : List (List Int)), Instr.wf (.tempSample r) = true → s.logicUp = true →
    ∃ t, exec (.tempSample r) s = .next t
      ∧ (∀ d x, highest (r.getD d []) = some x → s.dieThere d = true → Tbl.find? t.power.temps d = some x
        ∧ (420 ≤ x → d ∈ t.power.warn ∧ d ∈ t.power.hot ∧ (d ∉ s.power.warn → t.pends 4))
        ∧ (x < 400 → d ∉ t.power.warn) ∧ (400 ≤ x → x < 420 → (d ∈ t.power.warn ↔ d ∈ s.power.warn))
        ∧ (460 ≤ x → Tbl.getD s.power.temps d 0 < 460 → d ∉ s.power.drop → d ∉ s.power.called →
            d ∈ t.power.called ∧ t.pends 5))
      ∧ t.get Reg.PKG.THERM.WARN = bit (!t.power.warn.isEmpty) ∧ t.get Reg.PKG.THERM.DROP = bit (!s.power.drop.isEmpty)
      ∧ t.power.drop = s.power.drop ∧ t.power.phase = s.power.phase ∧ t.power.change = s.power.change
      ∧ Frame (.power :: signalled) thermFields alarmWords s t)
  -- THERMAL_DROP of a head die at Noon, no change under way: the heads go to Afternoon
  ∧ (∀ (s : State) (d : Fin 8), s.logicUp = true → d.val ∈ s.power.called → d.val < 2 → s.dieThere d = true →
      levelOf (s.get Reg.PWR.LEVEL_STATUS.NOW) d = 0 → s.power.change = none →
      s.get Reg.PWR.LEVEL_REQ.HEAD < 4 →
    ∃ t c, exec (.thermalDrop d) s = .next t ∧ d.val ∈ t.power.drop ∧ d.val ∉ t.power.called
      ∧ t.get Reg.PWR.LEVEL_REQ.HEAD = 1 ∧ t.get Reg.PWR.LEVEL_REQ.FIELD = s.get Reg.PWR.LEVEL_REQ.FIELD % 2 ^ 12
      ∧ t.power.change = some c ∧ levelOf c.target d = 1
      ∧ Frame [.power, .out] (Reg.PWR.LEVEL_REQ.HEAD :: Reg.PWR.LEVEL_REQ.FIELD :: Reg.PWR.LEVEL_STATUS.CHANGING
          :: thermFields) [] s t)
  -- of a field die at Noon: it sheds receive links until every one left fits, and W contexts above 96, and goes to
  -- Afternoon; source 7
  ∧ (∀ (s : State) (d : Fin 8), s.logicUp = true → d.val ∈ s.power.called → 2 ≤ d.val → s.dieThere d = true →
      levelOf (s.get Reg.PWR.LEVEL_STATUS.NOW) d = 0 → s.power.change = none →
    ∃ t, exec (.thermalDrop d) s = .next t ∧ d.val ∈ t.power.drop ∧ t.pends 7
      ∧ (∀ k, k < 40 → t.linkFits (d - 2) k 1 = true) ∧ t.wCount (d - 2) ≤ 96
      ∧ (∀ k, k < 40 → s.on (Reg.LINK.CFG.EN (d - 2) k) = true → t.on (Reg.LINK.CFG.EN (d - 2) k) = false →
          t.on (Reg.FDIE.LINK_PWR.SHED (d - 2) k) = true)
      ∧ levelOf t.levelReq d = 1 ∧ (t.power.change.map fun c => levelOf c.target d) = some 1
      ∧ (∀ c : Component, c ∉ .air :: .power :: signalled → c.Same s t))
  -- of a die below Noon: it stays at its level, and no request for Noon is left
  ∧ (∀ (s : State) (d : Fin 8), s.logicUp = true → d.val ∈ s.power.called →
      levelOf (s.get Reg.PWR.LEVEL_STATUS.NOW) d ≠ 0 → s.power.change = none →
    ∃ t, exec (.thermalDrop d) s = .next t ∧ d.val ∈ t.power.drop ∧ d.val ∉ t.power.called ∧ t.power.change = none
      ∧ levelOf t.levelReq d
          = (if levelOf s.levelReq d = 0 then levelOf (s.get Reg.PWR.LEVEL_STATUS.NOW) d else levelOf s.levelReq d)
      ∧ Frame [.power] (Reg.PWR.LEVEL_REQ.HEAD :: Reg.PWR.LEVEL_REQ.FIELD :: thermFields) [] s t)
  -- a raise of it to Noon whose glide has not begun is stopped; with one whose glide has, the drop follows the change
  ∧ (∀ (s : State) (d : Fin 8) (c : LevelChange), s.logicUp = true → d.val ∈ s.power.called → s.power.change = some c →
      (c.stage = .railsUp ∨ c.stage = .settleUp) → levelOf c.target d < levelOf (s.get Reg.PWR.LEVEL_STATUS.NOW) d →
    ∃ t, exec (.thermalDrop d) s = .next t ∧ d.val ∈ t.power.drop
      ∧ (t.power.change.map (·.target)) = some (withLevel c.target d (levelOf (s.get Reg.PWR.LEVEL_STATUS.NOW) d))
      ∧ Frame [.power] (Reg.PWR.LEVEL_REQ.HEAD :: Reg.PWR.LEVEL_REQ.FIELD :: Reg.PWR.LEVEL_STATUS.CHANGING
          :: thermFields) [] s t)
  ∧ (∀ (s : State) (d : Fin 8) (c : LevelChange), s.logicUp = true → d.val ∈ s.power.called → s.power.change = some c →
      (c.stage = .glide ∨ c.stage = .railsDown ∨ c.stage = .settleDown) → levelOf c.target d = 0 →
    ∃ t, exec (.thermalDrop d) s = .next t ∧ d.val ∈ t.power.drop ∧ t.power.change = some c
      ∧ d.val ∈ t.power.dropNext ∧ levelOf t.levelReq d = 1)
  -- DROP_RELEASE after 16 whole mesh cycles below 105 °C, source 6
  ∧ (∀ (s : State) (d : Fin 8), s.logicUp = true → d.val ∈ s.power.drop → 16 ≤ Tbl.getD s.power.cool d 0 →
    ∃ t, exec (.dropRelease d) s = .next t ∧ t.power.drop = s.power.drop.filter (· ≠ d.val) ∧ t.pends 6
      ∧ t.get Reg.PKG.THERM.DROP = bit (!t.power.drop.isEmpty) ∧ Frame (.power :: signalled) thermFields alarmWords s t)
  ∧ (∀ (s : State) (d : Fin 8), Tbl.getD s.power.cool d 0 < 16 → exec (.dropRelease d) s = .next s)
  -- LEVEL_REQ_WRITE: accepted as a whole, rejected as a whole, or dropped while a change is under way
  ∧ (∀ (s : State) (v : BitVec 32), s.hostUp = true → s.on Reg.PWR.LEVEL_STATUS.CHANGING = false → s.levelsOk v.toNat = true →
    ∃ t, exec (.levelReqWrite v) s = .next t ∧ t.get Reg.PWR.LEVEL_REQ.HEAD = bitsAt v.toNat 0 2
      ∧ t.get Reg.PWR.LEVEL_REQ.FIELD = bitsAt v.toNat 2 12 ∧ t.get Reg.PWR.LEVEL_STATUS.LAST_WR = 0
      ∧ t.power = { s.power with reqPending := true }
      ∧ Frame [.power] [Reg.PWR.LEVEL_REQ.HEAD, Reg.PWR.LEVEL_REQ.FIELD, Reg.PWR.LEVEL_STATUS.LAST_WR] [] s t)
  ∧ (∀ (s : State) (v : BitVec 32), s.hostUp = true → s.on Reg.PWR.LEVEL_STATUS.CHANGING = false → s.levelsOk v.toNat = false →
    ∃ t, exec (.levelReqWrite v) s = .next t ∧ t.get Reg.PWR.LEVEL_STATUS.LAST_WR = 0x11
      ∧ Frame [] [Reg.PWR.LEVEL_STATUS.LAST_WR] [] s t)
  ∧ (∀ (s : State) (v : BitVec 32), s.hostUp = true → s.on Reg.PWR.LEVEL_STATUS.CHANGING = true →
    ∃ t, exec (.levelReqWrite v) s = .next t ∧ t.get Reg.PWR.LEVEL_STATUS.LAST_WR = 0x1B
      ∧ Frame [] [Reg.PWR.LEVEL_STATUS.LAST_WR] [] s t)
  ∧ (∀ (s : State) (v : Nat), s.levelsOk v = true → bitsAt v 0 2 ≤ 2 ∧ ((0 ∈ s.power.drop ∨ 1 ∈ s.power.drop) → bitsAt v 0 2 ≠ 0)
      ∧ s.on Reg.PWR.DUSK.ACTIVE = false ∧ s.on Reg.PWR.DUSK.REQ = false ∧ ∀ f, f < 6 → s.present f = true → bitsAt v (2 + 2 * f) 2 ≤ 2
        ∧ ((2 + f) ∈ s.power.drop → bitsAt v (2 + 2 * f) 2 ≠ 0) ∧ s.wCount f ≤ wLimit (bitsAt v (2 + 2 * f) 2)
        ∧ ∀ k, k < 40 → s.linkFits f k (bitsAt v (2 + 2 * f) 2) = true)
  -- LEVEL_CHANGE_START: rails that rise are written first, then the clocks glide
  ∧ (∀ s : State, s.live = true → s.power.reqPending = true → s.power.change = none →
      (s.moved s.levelReq true ≠ [] ∨ s.moved s.levelReq false ≠ []) →
    ∃ t c, exec .levelChangeStart s = .next t ∧ t.power = { s.power with reqPending := false, change := some c }
      ∧ c.target = s.levelReq ∧ c.attempts = 0 ∧ t.get Reg.PWR.LEVEL_STATUS.CHANGING = 1
      ∧ c.up = s.railsOf s.levelReq (s.moved s.levelReq true) ∧ c.down = s.railsOf s.levelReq (s.moved s.levelReq false)
      ∧ (s.moved s.levelReq true = [] → c.stage = .glide ∧ t.out = s.out)
      ∧ (c.up ≠ [] → c.stage = .railsUp)
      ∧ (∀ d l r, c.up = (d, l) :: r → s.pmReady = true → t.out = s.out
          ++ [.pmic (s.get (Reg.PWR.RAIL.ADDR d)) (s.get (Reg.PWR.RAIL.REG d)) (s.railCode d l)])
      ∧ Frame [.power, .out] [Reg.PWR.LEVEL_STATUS.CHANGING] [] s t)
  -- a request that moves no die is complete at once
  ∧ (∀ s : State, s.live = true → s.power.reqPending = true → s.power.change = none → s.moved s.levelReq true = [] →
      s.moved s.levelReq false = [] →
    ∃ t, exec .levelChangeStart s = .next t ∧ t.power = { s.power with reqPending := false } ∧ t.pends 1
      ∧ Frame (.power :: signalled) [] alarmWords s t)
  -- PMIC_WRITE_DONE acknowledged: the next rail, or the settle wait
  ∧ (∀ (s : State) (c : LevelChange) (x y : Nat × Nat) (l : List (Nat × Nat)), s.logicUp = true → s.power.change = some c →
      c.stage = .railsUp → c.up = x :: y :: l → s.pmReady = true →
    ∃ t, exec (.pmicWriteDone true) s = .next t ∧ t.power.change = some { c with up := y :: l, attempts := 0 }
      ∧ t.out = s.out ++ [.pmic (s.get (Reg.PWR.RAIL.ADDR y.1)) (s.get (Reg.PWR.RAIL.REG y.1)) (s.railCode y.1 y.2)]
      ∧ Frame [.power, .out] [Reg.PWR.LEVEL_STATUS.CHANGING] [] s t)
  ∧ (∀ (s : State) (c : LevelChange) (x : Nat × Nat), s.logicUp = true → s.power.change = some c → c.stage = .railsDown →
      c.down = [x] →
    ∃ t, exec (.pmicWriteDone true) s = .next t ∧ t.out = s.out
      ∧ t.power.change = some { c with down := [], attempts := 0, stage := .settleDown }
      ∧ Frame [.power] [Reg.PWR.LEVEL_STATUS.CHANGING] [] s t)
  -- refused: twice more, then the change fails with INTERNAL and source 3
  ∧ (∀ (s : State) (c : LevelChange), s.logicUp = true → s.power.change = some c → c.rails ≠ [] → c.attempts < 2 →
    ∃ t, exec (.pmicWriteDone false) s = .next t ∧ t.power.change = some { c with attempts := c.attempts + 1 }
      ∧ Frame [.power, .out] [Reg.PWR.LEVEL_STATUS.CHANGING] [] s t)
  ∧ (∀ (s : State) (c : LevelChange), s.logicUp = true → s.power.change = some c → c.rails ≠ [] → 2 ≤ c.attempts →
      s.power.dropNext = [] →
    ∃ t, exec (.pmicWriteDone false) s = .next t ∧ t.power.change = none ∧ t.get Reg.PWR.LEVEL_STATUS.CHANGING = 0
      ∧ t.get Reg.PWR.LEVEL_STATUS.LAST_WR = 0xFF ∧ t.get Reg.PWR.LEVEL_STATUS.NOW = s.get Reg.PWR.LEVEL_STATUS.NOW
      ∧ t.pends 3 ∧ Frame (.power :: signalled) [Reg.PWR.LEVEL_STATUS.CHANGING, Reg.PWR.LEVEL_STATUS.LAST_WR]
          alarmWords s t)
  -- VSETTLE_EXPIRY: the glide after a rise, the end after a fall, source 1
  ∧ (∀ (s : State) (c : LevelChange), s.logicUp = true → s.power.change = some c → c.stage = .settleUp →
    ∃ t, exec .vsettleExpiry s = .next t ∧ t.power = { s.power with change := some { c with stage := .glide } }
      ∧ Frame [.power] [Reg.PWR.LEVEL_STATUS.CHANGING] [] s t)
  ∧ (∀ (s : State) (c : LevelChange), s.logicUp = true → s.power.change = some c → c.stage = .settleDown →
      s.power.dropNext = [] →
    ∃ t, exec .vsettleExpiry s = .next t ∧ t.power.change = none ∧ t.get Reg.PWR.LEVEL_STATUS.CHANGING = 0 ∧ t.pends 1
      ∧ Frame (.power :: signalled) [Reg.PWR.LEVEL_STATUS.CHANGING] alarmWords s t)
  -- a drop that waited for the change begins without waiting for a slot start
  ∧ (∀ (s : State) (c : LevelChange) (d : Nat), s.logicUp = true → s.power.change = some c → c.stage = .settleDown →
      d < 8 → s.dieThere d = true → s.power.dropNext = [d] → levelOf (s.get Reg.PWR.LEVEL_STATUS.NOW) d = 0 →
    ∃ t, exec .vsettleExpiry s = .next t ∧ t.pends 1 ∧ t.power.dropNext = []
      ∧ (t.power.change.map (·.target)) = some (withLevel (s.get Reg.PWR.LEVEL_STATUS.NOW) d 1))
  -- PLL_GLIDE_DONE: the new levels are in force
  ∧ (∀ (s : State) (c : LevelChange), s.logicUp = true → s.power.change = some c → c.stage = .glide →
      s.power.dropNext = [] →
    ∃ t, exec .pllGlideDone s = .next t ∧ t.get Reg.PWR.LEVEL_STATUS.NOW = c.target % 2 ^ 14
      ∧ (s.moved c.target false = [] → c.down = [] → t.power.change = none ∧ t.pends 1)
      ∧ ((s.moved c.target false ≠ [] ∨ c.down ≠ []) → t.power.change
          = some { c with attempts := 0, stage := (if c.down.isEmpty then .settleDown else .railsDown) })
      ∧ Frame (.power :: signalled) [Reg.PWR.LEVEL_STATUS.NOW, Reg.PWR.LEVEL_STATUS.CHANGING] alarmWords s t)
  -- DUSK_REQ_WRITE
  ∧ (∀ (s : State) (v : BitVec 32), s.hostUp = true → (bitsAt v.toNat 0 1 = 0 ∨ s.duskOk = true) →
    ∃ t, exec (.duskReqWrite v) s = .next t ∧ t.get Reg.PWR.DUSK.REQ = bitsAt v.toNat 0 1
      ∧ t.get Reg.PWR.DUSK.PENDING = bit (bitsAt v.toNat 0 1 ≠ s.get Reg.PWR.DUSK.ACTIVE)
      ∧ t.get Reg.PWR.LEVEL_STATUS.LAST_WR = 0
      ∧ Frame [] [Reg.PWR.DUSK.REQ, Reg.PWR.DUSK.PENDING, Reg.PWR.LEVEL_STATUS.LAST_WR] [] s t)
  ∧ (∀ (s : State) (v : BitVec 32), s.hostUp = true → bitsAt v.toNat 0 1 = 1 → s.duskOk = false →
    ∃ t, exec (.duskReqWrite v) s = .next t ∧ t.get Reg.PWR.LEVEL_STATUS.LAST_WR = 0x11
      ∧ Frame [] [Reg.PWR.LEVEL_STATUS.LAST_WR] [] s t)
  -- DUSK_ENTRY: links not marked DUSK are off and remembered, the policy cores halt, every die goes to Evening; source 8
  ∧ (∀ s : State, s.live = true → s.on Reg.PWR.DUSK.REQ = true → s.on Reg.PWR.DUSK.ACTIVE = false →
    ∃ t, exec .duskEntry s = .next t ∧ t.get Reg.PWR.DUSK.ACTIVE = 1 ∧ t.get Reg.PWR.DUSK.PENDING = 0 ∧ t.pends 8
      ∧ t.power.duskLinks = s.duskOff ∧ (∀ p ∈ s.duskOff, t.on (Reg.LINK.CFG.EN p.1 p.2) = false)
      ∧ (∀ k, 4 ≤ k → k < 8 → (t.core k).st = .halted ∨ ((s.core k).st = .reset ∧ (t.core k).st = .reset))
      ∧ t.get Reg.PWR.LEVEL_REQ.HEAD = 2
      ∧ (∀ f, f < 6 → bitsAt (t.get Reg.PWR.LEVEL_REQ.FIELD) (2 * f) 2 = if s.present f = true then 2 else 0)
      ∧ (∀ c : Component, c ∉ .air :: .cask :: .free :: .node :: .power :: .rx :: .tun :: signalled → c.Same s t))
  -- DUSK_EXIT: the remembered links are on again, the levels stay; source 8
  ∧ (∀ s : State, s.live = true → s.get Reg.PWR.DUSK.REQ = 0 → s.on Reg.PWR.DUSK.ACTIVE = true →
    ∃ t, exec .duskExit s = .next t ∧ t.get Reg.PWR.DUSK.ACTIVE = 0 ∧ t.get Reg.PWR.DUSK.PENDING = 0 ∧ t.pends 8
      ∧ t.power = { s.power with duskLinks := [] }
      ∧ (∀ p ∈ s.power.duskLinks, s.dieUp p.1 = true → t.on (Reg.LINK.CFG.EN p.1 p.2) = true)
      ∧ (∀ c : Component, c ∉ .air :: .power :: .tun :: signalled → c.Same s t))
  -- PM_I2C_ENABLE from 0 to 1: the bus is recovered, or found stuck with source 9
  ∧ (∀ (s : State) (v : BitVec 32) (p : Nat), s.hostUp = true → bitsAt v.toNat 0 1 = 1 → s.pmReady = false →
      1 ≤ bitsAt v.toNat 3 10 → bitsAt v.toNat 3 10 ≤ 1000 → p < 10 →
    ∃ t, exec (.pmI2cEnable v p) s = .next t ∧ t.get Reg.PWR.PM_I2C.EN = 1
      ∧ t.get Reg.PWR.PM_I2C.FAST = bitsAt v.toNat 1 1 ∧ t.get Reg.PWR.PM_I2C.VSETTLE_US = bitsAt v.toNat 3 10
      ∧ t.get Reg.PWR.PM_I2C.BUS_STUCK = 0 ∧ t.out = s.out ++ [.pmRecovery p true]
      ∧ Frame [.out] [Reg.PWR.PM_I2C.EN, Reg.PWR.PM_I2C.FAST, Reg.PWR.PM_I2C.VSETTLE_US, Reg.PWR.PM_I2C.BUS_STUCK] [] s t)
  ∧ (∀ (s : State) (v : BitVec 32), s.hostUp = true → bitsAt v.toNat 0 1 = 1 → s.pmReady = false →
      1 ≤ bitsAt v.toNat 3 10 → bitsAt v.toNat 3 10 ≤ 1000 →
    ∃ t, exec (.pmI2cEnable v 10) s = .next t ∧ t.get Reg.PWR.PM_I2C.BUS_STUCK = 1 ∧ t.pends 9)
  -- VSETTLE_US outside 1 to 1,000: illegal
  ∧ (∀ (s : State) (v : BitVec 32) (p : Nat), s.hostUp = true → p ≤ 10 →
      (bitsAt v.toNat 3 10 = 0 ∨ 1000 < bitsAt v.toNat 3 10) →
    ∃ t, exec (.pmI2cEnable v p) s = .next t ∧ t.safe.fault.valid = true ∧ Frame signalled [] alarmWords s t)
  -- PM_SCL_TIMEOUT: the write on the bus fails, the bus is recovered
  ∧ (∀ (s : State) (c : LevelChange) (p : Nat), s.logicUp = true → s.power.change = some c → c.rails ≠ [] →
      c.attempts < 2 → p < 10 →
    ∃ t, exec (.pmSclTimeout p) s = .next t ∧ t.power.change = some { c with attempts := c.attempts + 1 }
      ∧ Output.pmRecovery p true ∈ t.out ∧ t.get Reg.PWR.PM_I2C.BUS_STUCK = 0
      ∧ Frame [.power, .out] [Reg.PWR.LEVEL_STATUS.CHANGING, Reg.PWR.PM_I2C.BUS_STUCK] [] s t)

/-- Head lockstep, switch-over and rejoin; field-die mismatches, patrol, self-tests and fencing (R300 to R309). Where
the spec leaves a point of it open, the clause is the model's choice: log entries 127, 128, 129, 130, 131, 132, 133,
199. -/
def Obligations.RedundancyCommands : Prop :=
  -- SIGNATURE_EXCHANGE that matches confirms what was sent
  (∀ (s : State) (a : BitVec 32), s.live = true → s.on Reg.SAFE.HEAD.CHECKED = true → s.safe.hold = false →
    ∃ t, exec (.signatureExchange a a) s = .next t
      ∧ t.safe = { s.safe with unconfirmed := [], unconfirmedJob := s.tx.nextJob } ∧ Frame [.safe] [] [] s t)
  -- one that does not holds bulk outputs, source 256, and is logged
  ∧ (∀ (s : State) (a b : BitVec 32), s.live = true → s.on Reg.SAFE.HEAD.CHECKED = true → s.safe.hold = false → a ≠ b →
    ∃ t, exec (.signatureExchange a b) s = .next t ∧ t.safe.hold = true ∧ t.pends 256
      ∧ Logged s t 4 (Config.logUnit 4) false false ∧ t.safe.holdJob = s.tx.nextJob
      ∧ (∀ h x l, Output.hostWrite h x l ∈ t.out → Output.hostWrite h x l ∈ s.out)
      ∧ Frame signalled logFields alarmWords s t)
  -- HEAD_SELFCHECK_DONE: H1 is fenced unless H0 alone failed
  ∧ (∀ (s : State) (p q : Bool), s.live = true → s.safe.hold = true → s.on Reg.SAFE.HEAD.CHECKED = true →
      (p = true ∨ q = false) → s.get Reg.SAFE.HEAD.ACTIVE = 0 →
    ∃ t, exec (.headSelfcheckDone p q) s = .next t ∧ t.get Reg.SAFE.HEAD.FENCED = 2 ∧ t.get Reg.SAFE.HEAD.ACTIVE = 0
      ∧ t.get Reg.SAFE.HEAD.CHECKED = 0 ∧ bitsAt (t.get Reg.SAFE.FAULT_CTL.CAUSE) 0 1 = 1
      ∧ t.safe = { s.safe with unconfirmed := [] }
      ∧ Frame [.safe] [Reg.SAFE.HEAD.FENCED, Reg.SAFE.HEAD.CHECKED, Reg.SAFE.HEAD.REJOIN_STATE, Reg.SAFE.FAULT_CTL.CAUSE] [] s t)
  -- the active head is fenced: the other takes over, SWITCHOVERS counts, unconfirmed outputs are sent again, but for
  -- completions; without bus mastering at its function no ring goes on (R235)
  ∧ (∀ s : State, s.live = true → s.safe.hold = true → s.on Reg.SAFE.HEAD.CHECKED = true →
      s.get Reg.SAFE.HEAD.ACTIVE = 0 → (∀ p ∈ s.tx.jobs, p.1 < s.safe.unconfirmedJob) →
      (∀ p ∈ s.evt.pba, p / 256 ≠ 0) →
    ∃ t, exec (.headSelfcheckDone false true) s = .next t ∧ t.get Reg.SAFE.HEAD.FENCED = 1
      ∧ t.get Reg.SAFE.HEAD.ACTIVE = 1 ∧ t.get Reg.SAFE.HEAD.CHECKED = 0
      ∧ t.get Reg.SAFE.HEAD.SWITCHOVERS = min (s.get Reg.SAFE.HEAD.SWITCHOVERS + 1) 0xFFFF
      ∧ t.out = s.out ++ (s.safe.unconfirmed.filter Output.bulk).map t.reissued ∧ t.safe.held = s.safe.held.map t.reissued
      ∧ t.safe.unconfirmed = [] ∧ t.safe.hold = true
      ∧ t.rings = { s.rings with stalled := s.rings.stalled || bitsAt (s.cfgWord 1 1) 2 1 = 0 }
      ∧ Frame [.safe, .rings, .out] [Reg.SAFE.HEAD.FENCED, Reg.SAFE.HEAD.ACTIVE, Reg.SAFE.HEAD.CHECKED,
          Reg.SAFE.HEAD.REJOIN_STATE, Reg.SAFE.HEAD.SWITCHOVERS, Reg.SAFE.FAULT_CTL.CAUSE] [] s t)
  -- an unconfirmed frame before its check is withdrawn and its item rewound, marked as replayed
  ∧ (∀ (s : State) (id : Nat) (j : TxJob) (d : Downlink), s.job? id = some j → j.kind = .down →
      s.down? j.queue = some d → id ∈ d.jobs → (j.stage = .building ∨ j.stage = .ready) → d.sent = false →
      (∀ p ∈ s.tx.jobs, p.1 ∈ d.jobs → p.2.stage ≠ .cleared ∧ p.2.stage ≠ .onAir) →
    s.withdrawJob id = s.rewindDown j.queue { d with replayed := true })
  ∧ (∀ (s : State) (id : Nat) (j : TxJob), s.job? id = some j → (j.stage = .cleared ∨ j.stage = .onAir) →
    s.withdrawJob id = s)
  -- BULK_RESUME: what was held goes out in order, source 257
  ∧ (∀ s : State, s.live = true → s.safe.hold = true → s.on Reg.SAFE.HEAD.CHECKED = false →
    ∃ t l, exec .bulkResume s = .next t ∧ t.out = s.out ++ s.safe.held ++ l ∧ t.safe.hold = false ∧ t.safe.held = []
      ∧ t.pends 257 ∧ Frame signalled [] alarmWords s t)
  -- HEAD_REJOIN of a fenced head
  ∧ (∀ (s : State) (v : BitVec 32), s.hostUp = true → bitsAt v.toNat 0 1 = 1 → s.get Reg.SAFE.HEAD.FENCED ≠ 0 →
      s.on Reg.SAFE.HEAD_CTL.REJOIN = false →
    ∃ t, exec (.headRejoin v) s = .next t ∧ t.get Reg.SAFE.HEAD_CTL.REJOIN = 1 ∧ t.get Reg.SAFE.HEAD.REJOIN_STATE = 1
      ∧ Frame [] [Reg.SAFE.HEAD_CTL.REJOIN, Reg.SAFE.HEAD.REJOIN_STATE] [] s t)
  -- HEAD_REJOIN_SELFTEST
  ∧ (∀ s : State, s.live = true → s.get Reg.SAFE.HEAD.REJOIN_STATE = 1 →
    ∃ t, exec (.headRejoinSelftest true) s = .next t ∧ t.get Reg.SAFE.HEAD.REJOIN_STATE = 2
      ∧ Frame [] [Reg.SAFE.HEAD.REJOIN_STATE] [] s t)
  ∧ (∀ s : State, s.live = true → s.get Reg.SAFE.HEAD.REJOIN_STATE = 1 →
    ∃ t, exec (.headRejoinSelftest false) s = .next t ∧ t.get Reg.SAFE.HEAD.REJOIN_STATE = 3
      ∧ t.get Reg.SAFE.HEAD_CTL.REJOIN = 0 ∧ t.pends 259 ∧ t.pends 263
      ∧ Frame signalled (Reg.SAFE.HEAD.REJOIN_STATE :: Reg.SAFE.HEAD_CTL.REJOIN :: logFields) alarmWords s t)
  -- HEAD_REJOIN_DONE: the head is the checker again, source 258; a rejoin that failed leaves it fenced, source 259
  ∧ (∀ s : State, s.live = true → s.get Reg.SAFE.HEAD.REJOIN_STATE = 2 →
    ∃ t, exec (.headRejoinDone true) s = .next t ∧ t.get Reg.SAFE.HEAD.FENCED = 0 ∧ t.get Reg.SAFE.HEAD.CHECKED = 1
      ∧ t.get Reg.SAFE.HEAD.REJOIN_STATE = 0 ∧ t.get Reg.SAFE.HEAD_CTL.REJOIN = 0 ∧ t.pends 258
      ∧ t.safe.uncorrectable = s.safe.uncorrectable.filter (·.1 / 4096 ≠ 1 - s.get Reg.SAFE.HEAD.ACTIVE)
      ∧ Frame signalled [Reg.SAFE.HEAD.FENCED, Reg.SAFE.HEAD.CHECKED, Reg.SAFE.HEAD.REJOIN_STATE, Reg.SAFE.HEAD_CTL.REJOIN]
          alarmWords s t)
  ∧ (∀ s : State, s.live = true → s.get Reg.SAFE.HEAD.REJOIN_STATE = 2 →
    ∃ t, exec (.headRejoinDone false) s = .next t ∧ t.get Reg.SAFE.HEAD.REJOIN_STATE = 3
      ∧ t.get Reg.SAFE.HEAD.FENCED = s.get Reg.SAFE.HEAD.FENCED ∧ t.pends 259)
  -- FIELD_CORE_MISMATCH: the die is fenced, source 261; its frames end, what it has received is gone
  ∧ (∀ (s : State) (f : Fin 6), s.live = true → s.dieUp f = true → s.diesUp ≠ [f.val] →
      Tbl.wf s.tx.jobs = true →
    ∃ t, exec (.fieldCoreMismatch f) s = .next t ∧ t.dieFenced f = true ∧ t.dieUp f = false ∧ t.pends 261 ∧ t.pends 263
      ∧ bitsAt (t.get Reg.SAFE.FAULT_CTL.CAUSE) 1 1 = 1 ∧ (∀ g, g ≠ f.val → t.dieFenced g = s.dieFenced g)
      ∧ (∀ id j, s.job? id = some j → j.f = f.val → t.job? id = none)
      ∧ (∀ id j, s.job? id = some j → j.f = f.val → j.stage = .onAir → Output.airCut f.val j.o (s.jobFrame j) ∈ t.out)
      ∧ (∀ e ∈ t.air.trackers, e.1 / 2048 ≠ f.val) ∧ (∀ e ∈ t.air.ctxs, e.1 / 4096 ≠ f.val)
      ∧ (t.core (8 + 4 * f)).st = .reset ∧ (t.core (10 + 4 * f)).st = .reset
      ∧ (∀ c : Component, c ∉ .air :: .cask :: .clk :: .kiln :: .node :: .rx :: .time :: .tun :: .tx :: signalled → c.Same s t))
  -- the last die is not fenced: it tests itself
  ∧ (∀ (s : State) (f : Fin 6), s.live = true → s.dieUp f = true → s.diesUp = [f.val] →
    ∃ t, exec (.fieldCoreMismatch f) s = .next t ∧ t.get (Reg.SAFE.FDIE.SELFTEST f) = 1 ∧ t.dieUp f = true
      ∧ Tbl.find? t.safe.selftests f = some .coreMismatch ∧ Logged s t 5 ((2 + f) * 4096 + 0x110) false false
      ∧ Frame signalled (Reg.SAFE.FDIE.SELFTEST f :: logFields) alarmWords s t)
  -- PATROL in the slot drawn for the die, or later in the cycle: its signature, or with no context idle it waits
  ∧ (∀ (s : State) (f : Fin 6) (x : BitVec 64) (n : Nat), s.live = true → s.dieUp f = true →
      Tbl.has s.safe.selftests f = false → Tbl.find? s.safe.patrolAt f = some n → n ≤ s.time.msc % 48 → s.idleCtx f = true →
    ∃ t, exec (.patrol f x) s = .next t ∧ Tbl.find? t.safe.patrol f = some x ∧ Tbl.find? t.safe.patrolAt f = none
      ∧ f.val ∉ t.safe.patrolWait
      ∧ (∀ g, g ≠ f.val → Tbl.find? t.safe.patrol g = Tbl.find? s.safe.patrol g) ∧ Frame [.safe] [] [] s t)
  ∧ (∀ (s : State) (f : Fin 6) (x : BitVec 64) (n : Nat), s.live = true → s.dieUp f = true →
      Tbl.has s.safe.selftests f = false → Tbl.find? s.safe.patrolAt f = some n → n ≤ s.time.msc % 48 →
      s.idleCtx f = false →
    ∃ t, exec (.patrol f x) s = .next t ∧ f.val ∈ t.safe.patrolWait ∧ t.safe.patrol = s.safe.patrol
      ∧ Frame [.safe] [] [] s t)
  ∧ (∀ (s : State) (f : Fin 6) (x : BitVec 64), (∀ n, Tbl.find? s.safe.patrolAt f = some n → s.time.msc % 48 < n) →
    exec (.patrol f x) s = .next s)
  -- at the cycle's end a die that still waits has skipped its patrol; the slots of the next cycle are drawn
  ∧ (∀ (s : State) (f : Nat), s.safe.patrolWait = [f] → s.dieUp f = true →
    ∃ t, s.drawPatrols = t
      ∧ t.get (Reg.SAFE.FDIE.PATROL_SKIP f) = min (s.get (Reg.SAFE.FDIE.PATROL_SKIP f) + 1) 0xFFFF
      ∧ t.safe.patrolWait = [] ∧ Frame [.safe, .free, .kiln] [Reg.SAFE.FDIE.PATROL_SKIP f] [] s t)
  ∧ (∀ (s : State) (f n : Nat), Tbl.find? s.drawPatrols.safe.patrolAt f = some n → n < 48)
  -- the comparison of a cycle: equal signatures pass; of two that differ the lower die tests itself first
  ∧ (∀ (s : State) (f g : Nat) (x : BitVec 64), (s.safe.patrol.filter fun p => s.dieUp p.1) = [(f, x), (g, x)] →
    s.comparePatrol = { s with safe := { s.safe with patrol := [] } })
  ∧ (∀ (s : State) (f g : Nat) (x y : BitVec 64), (s.safe.patrol.filter fun p => s.dieUp p.1) = [(f, x), (g, y)] → x ≠ y →
    ∃ t, s.comparePatrol = t ∧ Tbl.find? t.safe.selftests f = some .patrolPair ∧ t.safe.selftestNext = [g]
      ∧ t.safe.pairPassed = [] ∧ t.safe.patrol = [] ∧ t.get (Reg.SAFE.FDIE.SELFTEST f) = 1 ∧ t.pends 263
      ∧ Frame signalled (Reg.SAFE.FDIE.SELFTEST f :: logFields) alarmWords s t)
  -- FIELD_SELFTEST_DONE after a core mismatch: passed, its unit is degraded; failed, it is fenced
  ∧ (∀ (s : State) (f : Fin 6), s.live = true → Tbl.find? s.safe.selftests f = some .coreMismatch →
    ∃ t, exec (.fieldSelftestDone f true) s = .next t ∧ t.get (Reg.SAFE.FDIE.SELFTEST f) = 0
      ∧ Tbl.find? t.safe.selftests f = none ∧ t.get (Reg.SAFE.FDIE.DEGRADED f) = 1 ∧ t.pends 264 ∧ t.pends 263
      ∧ bitsAt (t.get Reg.SAFE.FAULT_CTL.CAUSE) 2 1 = 1
      ∧ Frame signalled (Reg.SAFE.FDIE.SELFTEST f :: Reg.SAFE.FDIE.DEGRADED f :: Reg.SAFE.FAULT_CTL.CAUSE :: logFields)
          alarmWords s t)
  ∧ (∀ (s : State) (f : Fin 6) (w : SelftestWhy), s.live = true → Tbl.find? s.safe.selftests f = some w →
      s.dieFenced f = false → w ≠ .patrolPair →
    ∃ t, exec (.fieldSelftestDone f false) s = .next t ∧ t.dieFenced f = true ∧ t.pends 261 ∧ t.pends 263
      ∧ Tbl.find? t.safe.selftests f = none)
  -- of a rejoin: passed, the rejoin goes on; failed, REJOIN reads 0 and the die stays fenced
  ∧ (∀ (s : State) (f : Fin 6), s.live = true → Tbl.find? s.safe.selftests f = some .rejoin →
    ∃ t, exec (.fieldSelftestDone f true) s = .next t ∧ t.get (Reg.SAFE.FDIE.SELFTEST f) = 0
      ∧ Tbl.find? t.safe.selftests f = none ∧ Frame [.safe] [Reg.SAFE.FDIE.SELFTEST f] [] s t)
  ∧ (∀ (s : State) (f : Fin 6), s.live = true → Tbl.find? s.safe.selftests f = some .rejoin → s.dieFenced f = true →
    ∃ t, exec (.fieldSelftestDone f false) s = .next t ∧ t.get (Reg.SAFE.FDIE.REJOIN f) = 0 ∧ t.dieFenced f = true
      ∧ t.pends 263)
  -- of a differing pair, second and last: two passes leave the patrol unresolved, source 260
  ∧ (∀ (s : State) (f : Fin 6), s.live = true → Tbl.find? s.safe.selftests f = some .patrolPair →
      s.safe.selftestNext = [] → s.safe.pairPassed.length = 1 →
    ∃ t, exec (.fieldSelftestDone f true) s = .next t ∧ t.pends 260 ∧ t.get (Reg.SAFE.FDIE.SELFTEST f) = 0
      ∧ Frame signalled [Reg.SAFE.FDIE.SELFTEST f] alarmWords s t)
  -- FDIE_REJOIN of a fenced die: its self-test starts; of a die not fenced it is ignored
  ∧ (∀ (s : State) (f : Fin 6) (v : BitVec 32), s.hostUp = true → s.present f = true → bitsAt v.toNat 2 1 = 1 →
      s.dieFenced f = true → s.on (Reg.SAFE.FDIE.REJOIN f) = false →
    ∃ t, exec (.fdieRejoin f v) s = .next t ∧ t.get (Reg.SAFE.FDIE.REJOIN f) = 1 ∧ t.get (Reg.SAFE.FDIE.SELFTEST f) = 1
      ∧ Tbl.find? t.safe.selftests f = some .rejoin
      ∧ Frame [.safe] [Reg.SAFE.FDIE.REJOIN f, Reg.SAFE.FDIE.SELFTEST f] [] s t)
  ∧ (∀ (s : State) (f : Fin 6) (v : BitVec 32), s.hostUp = true → s.present f = true → s.dieFenced f = false →
    exec (.fdieRejoin f v) s = .next s)

/-- Detected errors, their log and FAULT_N (R220, R310, R311, R314, R342). Where the spec leaves a point of it open,
the clause is the model's choice: log entries 84, 130, 134, 145, 184. -/
def Obligations.ErrorCommands : Prop :=
  -- a corrected error is logged under its unit, source 263
  (∀ (s : State) (die : Fin 8) (u : BitVec 12) (a : BitVec 64) (d : BitVec 32), s.live = true →
      s.unitThere (die * 4096 + u.toNat) = true →
    ∃ t, exec (.errorLog [.ofUnit die u false a d]) s = .next t ∧ Logged s t 1 (die * 4096 + u.toNat) false false
      ∧ Frame signalled logFields alarmWords s t)
  -- the first uncorrectable error of a unit is logged and counted
  ∧ (∀ (s : State) (die : Fin 8) (u : BitVec 12) (a : BitVec 64) (d : BitVec 32), s.live = true →
      s.unitThere (die * 4096 + u.toNat) = true → Tbl.find? s.safe.uncorrectable (die * 4096 + u.toNat) = none →
    ∃ t, exec (.errorLog [.ofUnit die u true a d]) s = .next t ∧ Logged s t 2 (die * 4096 + u.toNat) true false
      ∧ Tbl.find? t.safe.uncorrectable (die * 4096 + u.toNat) = some 1
      ∧ Frame signalled logFields alarmWords s t)
  -- the second fences what R310 names, where that leaves a head and a field die; else the unit is degraded
  ∧ (∀ (s : State) (die : Fin 8) (u : BitVec 12) (a : BitVec 64) (d : BitVec 32) (f : Nat), s.live = true → f < 6 →
      s.unitThere (die * 4096 + u.toNat) = true → Tbl.find? s.safe.uncorrectable (die * 4096 + u.toNat) = some 1 →
      fenceOf (die * 4096 + u.toNat) = some (.die f) → s.dieUp f = true → s.lastDie f = false →
    ∃ t, exec (.errorLog [.ofUnit die u true a d]) s = .next t ∧ t.dieFenced f = true ∧ t.pends 261 ∧ t.pends 263)
  ∧ (∀ (s : State) (die : Fin 8) (u : BitVec 12) (a : BitVec 64) (d : BitVec 32) (x : FenceOf), s.live = true →
      s.unitThere (die * 4096 + u.toNat) = true → Tbl.find? s.safe.uncorrectable (die * 4096 + u.toNat) = some 1 →
      fenceOf (die * 4096 + u.toNat) = some x → s.mayFence x = false →
    ∃ t, exec (.errorLog [.ofUnit die u true a d]) s = .next t ∧ (die * 4096 + u.toNat) ∈ t.safe.degraded ∧ t.pends 264
      ∧ bitsAt (t.get Reg.SAFE.FAULT_CTL.CAUSE) 2 1 = 1 ∧ t.pends 263
      ∧ (∀ f, t.dieFenced f = s.dieFenced f) ∧ t.get Reg.SAFE.HEAD.FENCED = s.get Reg.SAFE.HEAD.FENCED)
  -- Cask: a corrected error of a queue's state or of a buffer counts in its group or region
  ∧ (∀ (s : State) (q : Fin 1048576), s.live = true →
    ∃ t, exec (.errorLog [.caskStateCorrected q]) s = .next t
      ∧ t.stat (Reg.CASK.ECC_QGRP (q / 65536)) = min (s.stat (Reg.CASK.ECC_QGRP (q / 65536)) + 1) (2 ^ 32 - 1)
      ∧ Logged s t 1 (s.active * 4096 + 0x021) false false
      ∧ Frame signalled logFields (Reg.CASK.ECC_QGRP (q / 65536) :: alarmWords) s t)
  ∧ (∀ (s : State) (b : Fin 67108864), s.live = true →
    ∃ t, exec (.errorLog [.caskBufferCorrected b]) s = .next t
      ∧ t.stat (Reg.CASK.ECC_REGION (b / 1048576)) = min (s.stat (Reg.CASK.ECC_REGION (b / 1048576)) + 1) (2 ^ 32 - 1)
      ∧ Frame signalled logFields (Reg.CASK.ECC_REGION (b / 1048576) :: alarmWords) s t)
  -- one copy of a link lost: the other serves, source 131
  ∧ (∀ (s : State) (q : Fin 1048576), s.live = true →
      Tbl.find? s.safe.uncorrectable (s.active * 4096 + 0x021) = none →
    ∃ t, exec (.errorLog [.caskLinkOne q]) s = .next t ∧ t.get Reg.CASK.ECC_FAULT.QUEUE = q.val ∧ t.pends 131 ∧ t.pends 263
      ∧ Frame signalled (Reg.CASK.ECC_FAULT.QUEUE :: logFields) alarmWords s t)
  -- an item, both copies of a link, the state of a queue: items end with INTERNAL; the last loses its binding too
  ∧ (∀ (s : State) (q : Fin 1048576), s.live = true → 0 < (s.queue q).count → (s.queue q).sent = false →
      Tbl.find? s.safe.uncorrectable (s.active * 4096 + 0x021) = none →
    ∃ t, exec (.errorLog [.caskItem q]) s = .next t ∧ (t.queue q).count = (s.queue q).count - 1
      ∧ (t.queue q).sent = false ∧ Tbl.has t.cask.items (s.queue q).head = false
      ∧ t.stat Reg.CASK.INTERNAL = (s.stat Reg.CASK.INTERNAL + 1) % 2 ^ 32
      ∧ t.get Reg.CASK.ECC_FAULT.QUEUE = q.val ∧ t.pends 131)
  ∧ (∀ (s : State) (q : Fin 1048576), s.live = true → (s.queue q).sent = false → 0 < (s.queue q).count →
      Tbl.find? s.safe.uncorrectable (s.active * 4096 + 0x021) = none →
    ∃ t, exec (.errorLog [.caskLinkBoth q]) s = .next t ∧ (t.queue q).count = 0 ∧ (t.queue q).addr = (s.queue q).addr
      ∧ t.listed q = false ∧ t.stat Reg.CASK.INTERNAL = (s.stat Reg.CASK.INTERNAL + (s.queue q).count) % 2 ^ 32
      ∧ t.get Reg.CASK.ECC_FAULT.QUEUE = q.val ∧ t.pends 131)
  ∧ (∀ (s : State) (q : Fin 1048576), s.live = true → (s.queue q).sent = false →
      Tbl.find? s.safe.uncorrectable (s.active * 4096 + 0x021) = none →
    ∃ t, exec (.errorLog [.caskState q]) s = .next t ∧ (t.queue q).count = 0 ∧ (t.queue q).addr = none
      ∧ t.get Reg.CASK.ECC_FAULT.QUEUE = q.val ∧ t.pends 131)
  -- a corrected word of a Tun core's memory is logged; an uncorrectable one raises ECC in the core that executes
  ∧ (∀ (s : State) (c : TunCore) (a : BitVec 32), s.live = true → s.coreThere c = true →
    ∃ t, exec (.errorLog [.tunWord c false a]) s = .next t ∧ Logged s t 1 (s.coreUnit c) false false
      ∧ Frame signalled logFields alarmWords s t)
  ∧ (∀ (s : State) (c : TunCore) (a : BitVec 32), s.live = true → s.coreThere c = true → s.executes c = true →
      Tbl.find? s.safe.uncorrectable (s.coreUnit c) = none →
    ∃ x, exec (.errorLog [.tunWord c true a]) s
        = .next ((x.exception c causeEcc a).setSafe { (x.exception c causeEcc a).safe with thisCycle := [] }) ∧ Logged s x 2 (s.coreUnit c) true false
      ∧ Frame signalled logFields alarmWords s x)
  -- flipped bits of a node-table entry stay unseen until a lookup
  ∧ (∀ (s : State) (i : Fin 1114112) (w : BitVec 128) (p : BitVec 4) (e : NodeEntry), s.live = true →
      Tbl.find? s.node.tab i = some e →
    ∃ t, exec (.errorLog [.nodeBits i w p]) s = .next t
      ∧ Tbl.find? t.node.tab i = some ⟨e.word ^^^ w.toNat, e.par ^^^ p.toNat⟩
      ∧ (∀ k, k ≠ i.val → Tbl.find? t.node.tab k = Tbl.find? s.node.tab k) ∧ Frame [.node, .safe] [] [] s t)
  -- errors of one HCLK cycle are handled in ascending unit order (R312)
  ∧ (∀ (s : State) (d e : HwError), s.errorUnit e < s.errorUnit d →
    ∃ x y, x = (s.hwError e).setSafe { (s.hwError e).safe with thisCycle := (s.errorUnit e :: (s.hwError e).safe.thisCycle) }
      ∧ y = (x.hwError d).setSafe { (x.hwError d).safe with thisCycle := (x.errorUnit d :: (x.hwError d).safe.thisCycle) }
      ∧ s.hwErrors [d, e] = y.setSafe { y.safe with thisCycle := [] })
  -- LOG_ACK frees the entry
  ∧ (∀ (s : State) (v : BitVec 32), s.hostUp = true →
    ∃ t, exec (.logAck v) s = .next t ∧ t.safe.log = s.safe.log.filter (fun p => p.2.seq ≠ v.toNat)
      ∧ t.get Reg.SAFE.LOG_CTL.IN_USE = (s.safe.log.filter (fun p => p.2.seq ≠ v.toNat)).length % 2 ^ 7
      ∧ Frame [.safe] [Reg.SAFE.LOG_CTL.IN_USE] [] s t)
  -- FAULT_CAUSE_CLEAR: MASK, and each cause named whose condition has ended
  ∧ (∀ (s : State) (v : BitVec 32), s.hostUp = true →
    ∃ t, exec (.faultCauseClear v) s = .next t ∧ t.get Reg.SAFE.FAULT_CTL.MASK = 16 + bitsAt v.toNat 0 4
      ∧ (∀ k, k < 5 → bitsAt (t.get Reg.SAFE.FAULT_CTL.CAUSE) k 1
          = if bitsAt v.toNat (8 + k) 1 = 1 ∧ s.causeStands k = false then 0 else bitsAt (s.get Reg.SAFE.FAULT_CTL.CAUSE) k 1)
      ∧ Frame [] [Reg.SAFE.FAULT_CTL.MASK, Reg.SAFE.FAULT_CTL.CAUSE] [] s t)

/-- The ALU group and the immediates of a Tun core (R344, R346): gD, the pc, nothing else. Where the spec leaves a
point of it open, the clause is the model's choice: log entries 135, 136. -/
def Obligations.TunArithmetic : Prop :=
  (∀ (s : State) (c : TunCore) (r : TunRun) (d a b : Fin 16), s.fetches c r →
    exec (.tunAdd c d a b) s = .next (s.setCore (coreKey c) (r.wr d (r.rd a + r.rd b)).next)
    ∧ exec (.tunSub c d a b) s = .next (s.setCore (coreKey c) (r.wr d (r.rd a - r.rd b)).next)
    ∧ exec (.tunAnd c d a b) s = .next (s.setCore (coreKey c) (r.wr d (r.rd a &&& r.rd b)).next)
    ∧ exec (.tunOr c d a b) s = .next (s.setCore (coreKey c) (r.wr d (r.rd a ||| r.rd b)).next)
    ∧ exec (.tunXor c d a b) s = .next (s.setCore (coreKey c) (r.wr d (r.rd a ^^^ r.rd b)).next)
    ∧ exec (.tunSll c d a b) s = .next (s.setCore (coreKey c) (r.wr d (r.rd a <<< ((r.rd b).toNat % 32))).next)
    ∧ exec (.tunSrl c d a b) s = .next (s.setCore (coreKey c) (r.wr d (r.rd a >>> ((r.rd b).toNat % 32))).next)
    ∧ exec (.tunSra c d a b) s
        = .next (s.setCore (coreKey c) (r.wr d (BitVec.ofInt 32 ((r.rd a).toInt / 2 ^ ((r.rd b).toNat % 32)))).next)
    ∧ exec (.tunMul c d a b) s
        = .next (s.setCore (coreKey c) (r.wr d (BitVec.ofNat 32 ((r.rd a).toNat * (r.rd b).toNat))).next)
    ∧ exec (.tunMulhu c d a b) s
        = .next (s.setCore (coreKey c) (r.wr d (BitVec.ofNat 32 ((r.rd a).toNat * (r.rd b).toNat / 2 ^ 32))).next)
    ∧ exec (.tunDivu c d a b) s = .next (s.setCore (coreKey c)
        (r.wr d (if r.rd b = 0 then 0xFFFFFFFF else BitVec.ofNat 32 ((r.rd a).toNat / (r.rd b).toNat))).next)
    ∧ exec (.tunRemu c d a b) s = .next (s.setCore (coreKey c)
        (r.wr d (if r.rd b = 0 then r.rd a else BitVec.ofNat 32 ((r.rd a).toNat % (r.rd b).toNat))).next))
  -- the compares write 1 where the relation holds, else 0
  ∧ (∀ (s : State) (c : TunCore) (r : TunRun) (d a b : Fin 16), s.fetches c r →
    exec (.tunCeq c d a b) s = .next (s.setCore (coreKey c) (r.wr d (if r.rd a = r.rd b then 1 else 0)).next)
    ∧ exec (.tunCne c d a b) s = .next (s.setCore (coreKey c) (r.wr d (if r.rd a = r.rd b then 0 else 1)).next)
    ∧ exec (.tunClt c d a b) s = .next (s.setCore (coreKey c) (r.wr d (if (r.rd a).toInt < (r.rd b).toInt then 1 else 0)).next)
    ∧ exec (.tunCltu c d a b) s = .next (s.setCore (coreKey c) (r.wr d (if (r.rd a).toNat < (r.rd b).toNat then 1 else 0)).next)
    ∧ exec (.tunCle c d a b) s = .next (s.setCore (coreKey c) (r.wr d (if (r.rd a).toInt ≤ (r.rd b).toInt then 1 else 0)).next)
    ∧ exec (.tunCleu c d a b) s = .next (s.setCore (coreKey c) (r.wr d (if (r.rd a).toNat ≤ (r.rd b).toNat then 1 else 0)).next))
  -- immediates: ADDI sign-extends, the logical ones zero-extend, LUI sets bits 31:10
  ∧ (∀ (s : State) (c : TunCore) (r : TunRun) (d a : Fin 16) (i : BitVec 18) (u : BitVec 22), s.fetches c r →
    exec (.tunAddi c d a i) s = .next (s.setCore (coreKey c) (r.wr d (r.rd a + BitVec.ofInt 32 i.toInt)).next)
    ∧ exec (.tunAndi c d a i) s = .next (s.setCore (coreKey c) (r.wr d (r.rd a &&& BitVec.ofNat 32 i.toNat)).next)
    ∧ exec (.tunOri c d a i) s = .next (s.setCore (coreKey c) (r.wr d (r.rd a ||| BitVec.ofNat 32 i.toNat)).next)
    ∧ exec (.tunXori c d a i) s = .next (s.setCore (coreKey c) (r.wr d (r.rd a ^^^ BitVec.ofNat 32 i.toNat)).next)
    ∧ exec (.tunLui c d u) s = .next (s.setCore (coreKey c) (r.wr d (BitVec.ofNat 32 (u.toNat * 1024))).next))
  -- SHI: IMM18[6:5] picks the shift, IMM18[4:0] is its amount; 3 or any higher bit is ILLEGAL
  ∧ (∀ (s : State) (c : TunCore) (r : TunRun) (d a : Fin 16) (i : BitVec 18), s.fetches c r →
    (i.toNat < 32 → exec (.tunShi c d a i) s = .next (s.setCore (coreKey c) (r.wr d (r.rd a <<< i.toNat)).next))
    ∧ (32 ≤ i.toNat → i.toNat < 64 →
        exec (.tunShi c d a i) s = .next (s.setCore (coreKey c) (r.wr d (r.rd a >>> (i.toNat - 32))).next))
    ∧ (64 ≤ i.toNat → i.toNat < 96 → exec (.tunShi c d a i) s
        = .next (s.setCore (coreKey c) (r.wr d (BitVec.ofInt 32 ((r.rd a).toInt / 2 ^ (i.toNat - 64)))).next))
    ∧ (96 ≤ i.toNat → exec (.tunShi c d a i) s = .next (s.exception c 1 r.pc)))
  -- g0 reads as 0 and discards writes; another register holds what was written; the others stay
  ∧ (∀ r : TunRun, r.rd 0 = 0) ∧ (∀ (r : TunRun) (v : Word), r.wr 0 v = r)
  ∧ (∀ (r : TunRun) (i : Fin 16) (v : Word), i ≠ 0 → r.g.length = 16 → (r.wr i v).rd i = v)
  ∧ (∀ (r : TunRun) (i j : Fin 16) (v : Word), i ≠ j → (r.wr i v).rd j = r.rd j)
  -- a core's registers change, no other core's, nothing else
  ∧ (∀ (s : State) (k : Nat) (r : TunRun), (s.setCore k r).core k = r ∧ (∀ j, j ≠ k → (s.setCore k r).core j = s.core j)
      ∧ (s.setCore k r).tun = { s.tun with cores := (s.setCore k r).tun.cores } ∧ Frame [.tun] [] [] s (s.setCore k r))

/-- Branches, jumps, the SYS group, exceptions and interrupts of a Tun core (R341, R344 to R346, R351, R352, R355).
Where the spec leaves a point of it open, the clause is the model's choice: log entries 135, 136, 137, 138, 140, 141,
142. -/
def Obligations.TunControl : Prop :=
  -- BZ, BNZ: a word offset from the branch's own address
  (∀ (s : State) (c : TunCore) (r : TunRun) (a : Fin 16) (o : BitVec 22), s.fetches c r →
    exec (.tunBz c a o) s = .next (s.setCore (coreKey c)
        { r with pc := (if r.rd a = 0 then r.pc + BitVec.ofInt 32 (4 * o.toInt) else r.pc + 4) })
    ∧ exec (.tunBnz c a o) s = .next (s.setCore (coreKey c)
        { r with pc := (if r.rd a = 0 then r.pc + 4 else r.pc + BitVec.ofInt 32 (4 * o.toInt)) }))
  -- JAL, JALR
  ∧ (∀ (s : State) (c : TunCore) (r : TunRun) (d : Fin 16) (o : BitVec 22), s.fetches c r →
    exec (.tunJal c d o) s = .next (s.setCore (coreKey c)
      { r.wr d (r.pc + 4) with pc := r.pc + BitVec.ofInt 32 (4 * o.toInt) }))
  ∧ (∀ (s : State) (c : TunCore) (r : TunRun) (d a : Fin 16) (i : BitVec 18) (x : Word), s.fetches c r →
      x = r.rd a + BitVec.ofInt 32 i.toInt → x.toNat % 4 = 0 →
    exec (.tunJalr c d a i) s = .next (s.setCore (coreKey c) { r.wr d (r.pc + 4) with pc := x }))
  ∧ (∀ (s : State) (c : TunCore) (r : TunRun) (d a : Fin 16) (i : BitVec 18) (x : Word), s.fetches c r →
      x = r.rd a + BitVec.ofInt 32 i.toInt → x.toNat % 4 ≠ 0 →
    exec (.tunJalr c d a i) s = .next (s.exception c 2 x))
  -- NOP and FENCE only go on
  ∧ (∀ (s : State) (c : TunCore) (r : TunRun), s.fetches c r →
    exec (.tunNop c) s = .next (s.setCore (coreKey c) { r with pc := r.pc + 4 })
    ∧ exec (.tunFence c) s = .next (s.setCore (coreKey c) { r with pc := r.pc + 4 }))
  -- BRK raises BREAK; a word that R345 and R346 do not list raises ILLEGAL with the pc in BADADDR
  ∧ (∀ (s : State) (c : TunCore) (r : TunRun), s.fetches c r → exec (.tunBrk c) s = .next (s.exception c 4 0))
  ∧ (∀ (s : State) (c : TunCore) (r : TunRun) (w : BitVec 32), s.fetches c r → tunWordLegal w.toNat = false →
    exec (.tunIllegal c w) s = .next (s.exception c 1 r.pc))
  -- WFE, ERET, MFC, MTC in mode F
  ∧ (∀ (s : State) (c : TunCore) (r : TunRun), s.fetches c r → policyMode c = false →
    exec (.tunWfe c) s = .next (s.setCore (coreKey c) { r with pc := r.pc + 4, wfe := r.lines.isEmpty })
    ∧ exec (.tunEret c) s = .next (s.setCore (coreKey c) ({ r with pc := r.epc, ie := r.pie } : TunRun).takeLine))
  ∧ (∀ (s : State) (c : TunCore) (r : TunRun) (d a : Fin 16), s.fetches c r → policyMode c = false →
    ∃ t v, exec (.tunMfc c d a) s = .next t ∧ t.core (coreKey c) = (r.wr d v).next
      ∧ (a = 0 → v.getLsbD 0 = false ∧ v.getLsbD 1 = r.ie ∧ v.getLsbD 2 = r.pie) ∧ (a = 1 → v = r.cause)
      ∧ (a = 2 → v = r.epc) ∧ (a = 3 → v = r.badaddr) ∧ (a = 4 → v = r.evec)
      ∧ (a = 6 → v = BitVec.ofNat 32 (s.coreId c))
      ∧ (∀ j, j ≠ coreKey c → t.core j = s.core j) ∧ Frame [.tun, .free] [] [] s t)
  ∧ (∀ (s : State) (c : TunCore) (r : TunRun) (a : Fin 16), s.fetches c r → policyMode c = false →
    exec (.tunMtc c 0 a) s = .next (s.setCore (coreKey c)
        ({ r with pc := r.pc + 4, ie := ((r.rd a).getLsbD 1), pie := ((r.rd a).getLsbD 2) } : TunRun).takeLine)
    ∧ exec (.tunMtc c 1 a) s = .next (s.setCore (coreKey c) ({ r with pc := r.pc + 4, cause := r.rd a } : TunRun).takeLine)
    ∧ exec (.tunMtc c 2 a) s = .next (s.setCore (coreKey c) ({ r with pc := r.pc + 4, epc := r.rd a } : TunRun).takeLine)
    ∧ exec (.tunMtc c 3 a) s = .next (s.setCore (coreKey c) ({ r with pc := r.pc + 4, badaddr := r.rd a } : TunRun).takeLine)
    ∧ ∃ v : Word, exec (.tunMtc c 4 a) s = .next (s.setCore (coreKey c) ({ r with pc := r.pc + 4, evec := v } : TunRun).takeLine)
        ∧ v.toNat = (r.rd a).toNat / 4 * 4)
  -- in mode P each is ILLEGAL, and DONE in mode F
  ∧ (∀ (s : State) (c : TunCore) (r : TunRun) (d a : Fin 16), s.fetches c r → policyMode c = true →
    exec (.tunWfe c) s = .next (s.exception c 1 r.pc) ∧ exec (.tunEret c) s = .next (s.exception c 1 r.pc)
    ∧ exec (.tunMfc c d a) s = .next ((s.exception c 1 r.pc).spend 1)
    ∧ exec (.tunMtc c d a) s = .next (s.exception c 1 r.pc))
  ∧ (∀ (s : State) (c : TunCore) (r : TunRun), s.fetches c r → policyMode c = false →
    exec (.tunDone c) s = .next (s.exception c 1 r.pc))
  -- DONE in mode P ends the call: ACTION and VALUE are read from the mailbox, the core waits
  ∧ (∀ (s : State) (c : TunCore) (r : TunRun) (call : Nat) (h : HookCall), s.fetches c r → policyMode c = true →
      s.callOn (coreKey c) = some (call, h) →
    ∃ x, exec (.tunDone c) s = .next ((x.applyCall h
        (leVal ((Tbl.getD s.tun.boxes (coreKey c) []).readBytes 0xC0 2))
        (leVal ((Tbl.getD s.tun.boxes (coreKey c) []).readBytes 0xC2 2))).serveCalls)
      ∧ x.core (coreKey c) = { r with pc := r.pc + 4, st := .wait } ∧ x.tun.calls = Tbl.erase s.tun.calls call
      ∧ Frame [.tun] [] [] s x)
  -- what a result does
  ∧ (∀ (s : State) (h : HookCall) (v : Nat), s.applyCall h 0 v = s.defaultCall h)
  ∧ (∀ (s : State) (g v : Nat) (h : HookCall), h.hook = .join g →
    s.applyCall h 1 v = s.joinEnds g true ∧ s.applyCall h 2 v = s.joinEnds g false)
  ∧ (∀ (s : State) (g v : Nat) (h : HookCall), h.hook = .classify g →
    s.applyCall h 2 v = (s.rxDrop g).releaseGroup g
      ∧ (v < 4096 → s.on (Reg.RING.CTL.EN v) = true → s.get (Reg.RING.CTL.TYPE v) = 2 →
          s.applyCall h 1 v = (s.onGroup g fun x => { x with ring := some v }).releaseGroup g))
  ∧ (∀ (s : State) (q v : Nat) (u : Bool) (h : HookCall), h.hook = .route q u → s.slotUsable q v = true →
    s.applyCall h 1 v = s.routeEnd q u (some v))
  ∧ (∀ (s : State) (h : HookCall) (a v : Nat), 3 ≤ a → s.applyCall h a v = s.invalidCall h)
  -- an exception in mode F outside the handler: EPC, CAUSE, BADADDR and PIE are saved, IE is 0, execution goes on at EVEC
  ∧ (∀ (s : State) (c : TunCore) (r : TunRun) (k : Nat) (bad : Word), s.core (coreKey c) = r → policyMode c = false →
      s.coreThere c = true → r.ie = true →
    s.exception c k bad = s.setCore (coreKey c) { r with
      epc := r.pc, cause := BitVec.ofNat 32 k, badaddr := bad, pie := true, ie := false, pc := r.evec, wfe := false })
  -- in mode P: TUN.EXC holds it, EXCEPTIONS counts, source 288 + k − 4, and the hook takes its default
  ∧ (∀ (s : State) (c : TunCore) (r : TunRun) (k call : Nat) (bad : Word) (h : HookCall), s.core (coreKey c) = r →
      policyMode c = true → k < 8 → s.callOn (coreKey c) = some (call, h) →
    ∃ x, s.exception c k bad = (x.defaultCall h).serveCalls ∧ (x.core (coreKey c)).st = .wait
      ∧ Tbl.has x.tun.calls call = false ∧ x.get (Reg.TUN.EXC.CAUSE (coreKey c - 4)) = k
      ∧ x.get (Reg.TUN.EXC.VALID (coreKey c - 4)) = 1 ∧ x.stat (Reg.TUN.EXC_PC (coreKey c - 4)) = r.pc.toNat
      ∧ x.stat (Reg.TUN.EXC_BADADDR (coreKey c - 4)) = bad.toNat
      ∧ x.stat Reg.TUN.EXCEPTIONS = (s.stat Reg.TUN.EXCEPTIONS + 1) % 2 ^ 32 ∧ x.pends (284 + coreKey c)
      ∧ Frame (.tun :: signalled) [Reg.TUN.EXC.CAUSE (coreKey c - 4), Reg.TUN.EXC.HOOK (coreKey c - 4),
          Reg.TUN.EXC.VALID (coreKey c - 4)] [Reg.TUN.EXC_PC (coreKey c - 4), Reg.TUN.EXC_BADADDR (coreKey c - 4),
          Reg.TUN.EXC_COUNT (coreKey c - 4), Reg.TUN.EXCEPTIONS, Reg.ETH.PRIV_SENT, Reg.ETH.FP_DROP] s x)
  -- a fetch from a word-aligned address of TCM succeeds, from beyond TCM it raises ACCESS
  ∧ (∀ pc : Word, pc.toNat % 4 = 0 → fetchCause pc = if pc.toNat < 0x40000 then none else some 3)
  ∧ (∀ pc : Word, pc.toNat % 4 ≠ 0 → pc.toNat < 0x40000 → fetchCause pc = some 2)
  ∧ (∀ (s : State) (c : TunCore) (k : Nat), s.executes c = true → fetchCause (s.core (coreKey c)).pc = some k →
    exec (.tunNop c) s = .next (s.exception c k (s.core (coreKey c)).pc))
  -- INTERRUPT, mode F: taken while IE is 1, else it waits; it ends a WFE either way
  ∧ (∀ (s : State) (c : TunCore) (r : TunRun) (n : Fin 16), s.logicUp = true → s.coreThere c = true →
      s.core (coreKey c) = r → r.st = .running → policyMode c = false → r.ie = true →
      r.lines = [] →
    exec (.tunInterrupt c n) s = .next (s.setCore (coreKey c) { r with
      epc := r.pc, cause := BitVec.ofNat 32 (16 + n.val), badaddr := 0, pie := true, ie := false, pc := r.evec, wfe := false }))
  ∧ (∀ (s : State) (c : TunCore) (r : TunRun) (n : Fin 16), s.logicUp = true → s.coreThere c = true →
      s.core (coreKey c) = r → r.st = .running → policyMode c = false → r.ie = false →
    exec (.tunInterrupt c n) s = .next (s.setCore (coreKey c) { r with
      wfe := false, lines := (if n.val ∈ r.lines then r.lines else r.lines ++ [n.val]) }))
  -- a line that waits is taken, the oldest first, once IE is 1
  ∧ (∀ (r : TunRun) (n : Nat) (l : List Nat), r.ie = true → r.lines = n :: l → r.takeLine = { r with
      lines := l, epc := r.pc, cause := BitVec.ofNat 32 (16 + n), badaddr := 0, pie := true, ie := false, pc := r.evec,
      wfe := false })
  ∧ (∀ r : TunRun, (r.ie = false ∨ r.lines = []) → r.takeLine = r)
  -- a policy core takes none
  ∧ (∀ (s : State) (c : TunCore) (n : Fin 16), policyMode c = true → exec (.tunInterrupt c n) s = .next s)

/-- Loads, stores and block repeats of a Tun core (R341, R347 to R349). Where the spec leaves a point of it open, the
clause is the model's choice: log entries 4, 139, 143, 144. -/
def Obligations.TunMemory : Prop :=
  -- loads: the effective address is read in the core's region, the base moves, gD takes the value
  (∀ (s : State) (c : TunCore) (r : TunRun) (d b : Fin 16) (m : AddrMode) (reg : Region) (e : Word × Word), s.fetches c r →
      (movesBase m = true → d ≠ b) → reg ≠ .control →
    (e = effective r b m 1 → access c e.1.toNat 1 = .ok reg →
      exec (.tunLb c d b m) s = .next (s.setCore (coreKey c) ((r.moved b m e.2).wr d
          (BitVec.ofInt 32 (BitVec.ofNat 8 (leVal (s.tunLoad c reg e.1.toNat 1))).toInt)).next)
      ∧ exec (.tunLbu c d b m) s = .next (s.setCore (coreKey c) ((r.moved b m e.2).wr d
          (BitVec.ofNat 32 (leVal (s.tunLoad c reg e.1.toNat 1)))).next))
    ∧ (e = effective r b m 2 → access c e.1.toNat 2 = .ok reg →
      exec (.tunLh c d b m) s = .next (s.setCore (coreKey c) ((r.moved b m e.2).wr d
          (BitVec.ofInt 32 (BitVec.ofNat 16 (leVal (s.tunLoad c reg e.1.toNat 2))).toInt)).next)
      ∧ exec (.tunLhu c d b m) s = .next (s.setCore (coreKey c) ((r.moved b m e.2).wr d
          (BitVec.ofNat 32 (leVal (s.tunLoad c reg e.1.toNat 2)))).next))
    ∧ (e = effective r b m 4 → access c e.1.toNat 4 = .ok reg →
      exec (.tunLw c d b m) s = .next (s.setCore (coreKey c) ((r.moved b m e.2).wr d
          (BitVec.ofNat 32 (leVal (s.tunLoad c reg e.1.toNat 4)))).next)))
  -- stores
  ∧ (∀ (s : State) (c : TunCore) (r : TunRun) (d b : Fin 16) (m : AddrMode) (reg : Region) (e : Word × Word), s.fetches c r →
      reg ≠ .control →
    (e = effective r b m 1 → access c e.1.toNat 1 = .ok reg → exec (.tunSb c d b m) s
      = .next ((s.tunStore c reg e.1.toNat (leBytes 1 (r.rd d).toNat)).setCore (coreKey c) (r.moved b m e.2).next))
    ∧ (e = effective r b m 2 → access c e.1.toNat 2 = .ok reg → exec (.tunSh c d b m) s
      = .next ((s.tunStore c reg e.1.toNat (leBytes 2 (r.rd d).toNat)).setCore (coreKey c) (r.moved b m e.2).next))
    ∧ (e = effective r b m 4 → access c e.1.toNat 4 = .ok reg → exec (.tunSw c d b m) s
      = .next ((s.tunStore c reg e.1.toNat (leBytes 4 (r.rd d).toNat)).setCore (coreKey c) (r.moved b m e.2).next)))
  -- the address modes
  ∧ (∀ (r : TunRun) (b i : Fin 16) (k : BitVec 12) (n : Fin 4) (z : Nat),
    effective r b (.offset k) z = (r.rd b + BitVec.ofInt 32 k.toInt, r.rd b)
    ∧ effective r b .postInc z = (r.rd b, r.rd b + BitVec.ofNat 32 z)
    ∧ effective r b .preDec z = (r.rd b - BitVec.ofNat 32 z, r.rd b - BitVec.ofNat 32 z)
    ∧ effective r b (.indexed n i) z = (r.rd b + r.rd i <<< n.val, r.rd b))
  -- a load that moves the base it writes is ILLEGAL; a refused or misaligned access raises ACCESS or ALIGN at its address
  ∧ (∀ (s : State) (c : TunCore) (r : TunRun) (d : Fin 16) (m : AddrMode), s.fetches c r → movesBase m = true →
    exec (.tunLw c d d m) s = .next (s.exception c 1 r.pc))
  ∧ (∀ (s : State) (c : TunCore) (r : TunRun) (d b : Fin 16) (m : AddrMode) (k : Nat), s.fetches c r →
      (movesBase m = true → d ≠ b) → access c (effective r b m 4).1.toNat 4 = .error k →
    exec (.tunLw c d b m) s = .next (s.exception c k (effective r b m 4).1))
  -- the die control space is a device the spec says nothing of
  ∧ (∀ (s : State) (c : TunCore) (r : TunRun) (d b : Fin 16) (m : AddrMode), s.fetches c r →
      access c (effective r b m 4).1.toNat 4 = .ok .control → exec (.tunSw c d b m) s = .refused .controlSpace)
  -- what a store leaves: its bytes, and every other byte as it was
  ∧ (∀ (s : State) (c : TunCore) (a : Nat) (bs : List Byte), a + bs.length ≤ 0x40000 →
    (∀ i, i < bs.length → (s.tunStore c .tcm a bs).tunLoad c .tcm (a + i) 1 = [bs.getD i 0])
    ∧ (∀ x, (x < a ∨ a + bs.length ≤ x) → (s.tunStore c .tcm a bs).tunLoad c .tcm x 1 = s.tunLoad c .tcm x 1)
    ∧ (s.tunStore c .tcm a bs).tun = { s.tun with tcm := (s.tunStore c .tcm a bs).tun.tcm }
    ∧ (∀ k, k ≠ coreKey c → Tbl.find? (s.tunStore c .tcm a bs).tun.tcm k = Tbl.find? s.tun.tcm k)
    ∧ Frame [.tun] [] [] s (s.tunStore c .tcm a bs))
  ∧ (∀ (s : State) (c : TunCore) (a : Nat) (bs : List Byte), 0x10000000 ≤ a →
    (∀ i, i < bs.length → (s.tunStore c .shared a bs).tunLoad c .shared (a + i) 1 = [bs.getD i 0])
    ∧ (∀ x, 0x10000000 ≤ x → (x < a ∨ a + bs.length ≤ x) →
        (s.tunStore c .shared a bs).tunLoad c .shared x 1 = s.tunLoad c .shared x 1)
    ∧ (s.tunStore c .shared a bs).tun.tcm = s.tun.tcm ∧ Frame [.tun] [] [] s (s.tunStore c .shared a bs))
  -- the regions: mode P reaches TCM and its mailbox alone
  ∧ (∀ (c : TunCore) (a z : Nat), a % z = 0 → a < 0x40000 → access c a z = .ok .tcm)
  ∧ (∀ (c : TunCore) (a z : Nat), a % z = 0 → policyMode c = true → 0x40000 ≤ a →
      (a < 0x10180000 ∨ 0x10200000 ≤ a) → (a < 0x20000000 ∨ 0x20000100 ≤ a) → access c a z = .error 3)
  ∧ (∀ (c : TunCore) (a z : Nat), a % z = 0 → policyMode c = true → 0x20000000 ≤ a → a < 0x20000100 → access c a z = .ok .box)
  ∧ (∀ (c : TunCore) (a z : Nat), a % z = 0 → policyMode c = false → 0x10000000 ≤ a → a < 0x10180000 →
      access c a z = .ok .shared)
  ∧ (∀ (c : TunCore) (a z : Nat), a % z ≠ 0 → a < 0x40000 → access c a z = .error 2)
  -- a block repeat whose N is 0 does nothing but go on
  ∧ (∀ (s : State) (c : TunCore) (r : TunRun) (b : BlkArgs) (n : Nat), s.fetches c r → r.rd b.n = 0 →
    (blkLegal .mov b = true → exec (.tunBlkMov c b n) s = .next (s.setCore (coreKey c) r.next))
    ∧ (blkLegal .set b = true → exec (.tunBlkSet c b n) s = .next (s.setCore (coreKey c) r.next))
    ∧ (blkLegal .scanEq b = true → exec (.tunBlkScanEq c b n) s = .next (s.setCore (coreKey c) r.next))
    ∧ (blkLegal .scanNe b = true → exec (.tunBlkScanNe c b n) s = .next (s.setCore (coreKey c) r.next))
    ∧ (blkLegal .cmp b = true → exec (.tunBlkCmp c b n) s = .next (s.setCore (coreKey c) r.next))
    ∧ (blkLegal .crc b = true → exec (.tunBlkCrc c b n) s = .next (s.setCore (coreKey c) r.next)))
  -- BLK_MOV and BLK_SET of one element
  ∧ (∀ (s : State) (c : TunCore) (r : TunRun) (b : BlkArgs) (n : Nat) (p q : Region), s.fetches c r → r.rd b.n = 1 →
      r.g.length = 16 → blkLegal .mov b = true → access c (r.rd b.s).toNat (2 ^ b.size.val) = .ok p →
      access c (r.rd b.d).toNat (2 ^ b.size.val) = .ok q → p ≠ .control → q ≠ .control →
    exec (.tunBlkMov c b (n + 1)) s
      = .next ((s.tunStore c q (r.rd b.d).toNat (s.tunLoad c p (r.rd b.s).toNat (2 ^ b.size.val))).setCore (coreKey c)
          ((((r.wr b.d (r.rd b.d + BitVec.ofNat 32 (2 ^ b.size.val))).wr b.s
            (r.rd b.s + BitVec.ofNat 32 (2 ^ b.size.val))).wr b.n 0).next)))
  ∧ (∀ (s : State) (c : TunCore) (r : TunRun) (b : BlkArgs) (n : Nat) (q : Region), s.fetches c r → r.rd b.n = 1 →
      r.g.length = 16 → blkLegal .set b = true → access c (r.rd b.d).toNat (2 ^ b.size.val) = .ok q → q ≠ .control →
    exec (.tunBlkSet c b (n + 1)) s
      = .next ((s.tunStore c q (r.rd b.d).toNat (leBytes (2 ^ b.size.val) (r.rd b.v).toNat)).setCore (coreKey c)
          (((r.wr b.d (r.rd b.d + BitVec.ofNat 32 (2 ^ b.size.val))).wr b.n 0).next)))
  -- a scan stops at its first hit, with gS and gN as they stand there
  ∧ (∀ (s : State) (c : TunCore) (r : TunRun) (b : BlkArgs) (n : Nat) (p : Region), s.fetches c r → r.rd b.n ≠ 0 →
      access c (r.rd b.s).toNat (2 ^ b.size.val) = .ok p → p ≠ .control →
    (blkLegal .scanEq b = true → leVal (s.tunLoad c p (r.rd b.s).toNat (2 ^ b.size.val)) = (r.rd b.v).toNat →
      exec (.tunBlkScanEq c b (n + 1)) s = .next (s.setCore (coreKey c) r.next))
    ∧ (blkLegal .scanNe b = true → leVal (s.tunLoad c p (r.rd b.s).toNat (2 ^ b.size.val)) ≠ (r.rd b.v).toNat →
      exec (.tunBlkScanNe c b (n + 1)) s = .next (s.setCore (coreKey c) r.next)))
  -- BLK_CMP stops at the first difference, which gV says; equal to the end, gV is 0
  ∧ (∀ (s : State) (c : TunCore) (r : TunRun) (b : BlkArgs) (n x y : Nat) (p q : Region), s.fetches c r → r.rd b.n ≠ 0 →
      blkLegal .cmp b = true → access c (r.rd b.s).toNat (2 ^ b.size.val) = .ok p →
      access c (r.rd b.d).toNat (2 ^ b.size.val) = .ok q → p ≠ .control → q ≠ .control →
      x = leVal (s.tunLoad c p (r.rd b.s).toNat (2 ^ b.size.val)) →
      y = leVal (s.tunLoad c q (r.rd b.d).toNat (2 ^ b.size.val)) →
    (x ≠ y → exec (.tunBlkCmp c b (n + 1)) s
      = .next (s.setCore (coreKey c) (r.wr b.v (if x < y then 0xFFFFFFFF else 1)).next))
    ∧ (x = y → r.rd b.n = 1 → r.g.length = 16 → ∃ r' : TunRun, exec (.tunBlkCmp c b (n + 1)) s = .next (s.setCore (coreKey c) r'.next)
        ∧ r'.rd b.v = 0 ∧ r'.rd b.n = 0 ∧ r'.rd b.d = r.rd b.d + BitVec.ofNat 32 (2 ^ b.size.val)
        ∧ r'.rd b.s = r.rd b.s + BitVec.ofNat 32 (2 ^ b.size.val) ∧ r'.pc = r.pc))
  -- BLK_CRC of one element
  ∧ (∀ (s : State) (c : TunCore) (r : TunRun) (b : BlkArgs) (n : Nat) (p : Region), s.fetches c r → r.rd b.n = 1 →
      r.g.length = 16 → blkLegal .crc b = true → access c (r.rd b.s).toNat (2 ^ b.size.val) = .ok p → p ≠ .control →
    exec (.tunBlkCrc c b (n + 1)) s
      = .next (s.setCore (coreKey c) ((((r.wr b.v (BitVec.ofNat 32
          ((s.tunLoad c p (r.rd b.s).toNat (2 ^ b.size.val)).foldl crcByte (r.rd b.v).toNat))).wr b.s
            (r.rd b.s + BitVec.ofNat 32 (2 ^ b.size.val))).wr b.n 0).next)))
  -- elements that succeed follow one another, N going down by one after each
  ∧ (∀ (s x : State) (r y : TunRun) (c : TunCore) (k : BlkKind) (b : BlkArgs) (n : Nat), r.rd b.n ≠ 0 → k ≠ .cmp →
      s.blkElem r c k b = (x, y, .more) →
    s.blkLoop r c k b (n + 1) = x.blkLoop (y.wr b.n (y.rd b.n - 1)) c k b n)
  -- an element that cannot be accessed raises its exception; illegal fields raise ILLEGAL
  ∧ (∀ (s : State) (c : TunCore) (r : TunRun) (b : BlkArgs) (n k : Nat), s.fetches c r → r.rd b.n ≠ 0 →
      blkLegal .crc b = true → access c (r.rd b.s).toNat (2 ^ b.size.val) = .error k →
    exec (.tunBlkCrc c b (n + 1)) s = .next ((s.setCore (coreKey c) r).exception c k (r.rd b.s)))
  ∧ (∀ (s : State) (c : TunCore) (r : TunRun) (b : BlkArgs) (n : Nat), s.fetches c r → blkLegal .mov b = false →
    exec (.tunBlkMov c b n) s = .next (s.exception c 1 r.pc))

/-- Firmware update (R331, R334 to R338): sessions, flash operations, restart, the health window and the choice of a
slot. Where the spec leaves a point of it open, the clause is the model's choice: log entries 112, 113, 114, 116, 121,
122, 123, 124, 201. -/
def Obligations.UpdateCommands : Prop :=
  -- STAGE_ERASE opens the ring's session and erases the slot not in force
  (∀ (s : State) (n : Fin 4096) (d : List Byte), Instr.wf (.stageErase n d) = true → s.cmdDue n = true → s.boot.job = none →
      (s.boot.session = none ∨ s.boot.session = some n.val) → s.get Reg.BOOT.STATUS.STATE ≠ 1 →
    ∃ t, exec (.stageErase n d) s = .next t ∧ t.boot.session = some n.val ∧ t.get Reg.BOOT.STATUS.SESSION = 1
      ∧ t.boot.job = some ⟨s.cmdRef n d, .erase (1 - s.get Reg.BOOT.STATUS.SLOT)⟩
      ∧ t.out = (s.passDescriptor n).out
          ++ [.flash 0 (0x100000 + (1 - s.get Reg.BOOT.STATUS.SLOT) * 0xF80000) 0xF80000]
      ∧ t.boot.imageA = s.boot.imageA ∧ t.boot.imageB = s.boot.imageB
      ∧ Frame (.boot :: signalled) [Reg.BOOT.STATUS.SESSION] ringWords s t)
  ∧ (∀ (s : State) (n : Fin 4096) (d : List Byte), Instr.wf (.stageErase n d) = true → s.cmdDue n = true → s.boot.job = none →
      ((∃ m, s.boot.session = some m ∧ m ≠ n.val) ∨ s.get Reg.BOOT.STATUS.STATE = 1) →
    exec (.stageErase n d) s = .next ((s.passDescriptor n).complete (s.cmdRef n d) .busy 0))
  -- while a flash operation is under way the next command waits
  ∧ (∀ (s : State) (n : Fin 4096) (d : List Byte) (j : FlashJob), s.boot.job = some j →
      Instr.wf (.activate n d) = true →
    exec (.activate n d) s = .next s)
  -- STAGE_WRITE on the ring's session, whole pages within the slot
  ∧ (∀ (s : State) (n : Fin 4096) (d m : List Byte), Instr.wf (.stageWrite n d (some m)) = true → s.cmdDue n = true →
      s.boot.job = none → s.boot.session = some n.val → uOffset d % 256 = 0 → kInLen d % 256 = 0 → kInLen d ≤ 0x100000 →
      uOffset d + kInLen d ≤ 0xF80000 → (s.passDescriptor n).firstBad false (leAt d 8 8) (kInLen d) = none →
    ∃ t, exec (.stageWrite n d (some m)) s = .next t
      ∧ t.boot.job = some ⟨s.cmdRef n d, .program (1 - s.get Reg.BOOT.STATUS.SLOT) (uOffset d) (sliceB m 0 (kInLen d))⟩
      ∧ t.boot.session = s.boot.session ∧ Frame (.boot :: signalled) [] ringWords s t)
  -- an access not allowed, or a read that completes with an error, halts the ring
  ∧ (∀ (s : State) (n : Fin 4096) (d : List Byte), Instr.wf (.stageWrite n d none) = true → s.cmdDue n = true →
      s.boot.job = none → s.boot.session = some n.val → uOffset d % 256 = 0 → kInLen d % 256 = 0 → kInLen d ≤ 0x100000 →
      uOffset d + kInLen d ≤ 0xF80000 → (s.passDescriptor n).firstBad false (leAt d 8 8) (kInLen d) = none →
    exec (.stageWrite n d none) s = .next (((s.passDescriptor n).halt n .walkFault (leAt d 8 8)).complete (s.cmdRef n d)
      .walkFault 0))
  ∧ (∀ (s : State) (n : Fin 4096) (d : List Byte) (a : Nat), Instr.wf (.stageRead n d) = true → s.cmdDue n = true →
      s.boot.job = none → uOffset d + kInLen d ≤ 0xF80000 →
      (s.passDescriptor n).firstBad true (leAt d 8 8) (kInLen d) = some a →
    exec (.stageRead n d) s = .next (((s.passDescriptor n).halt n .badAddress a).complete (s.cmdRef n d) .badAddress 0))
  ∧ (∀ (s : State) (n : Fin 4096) (d : List Byte) (data : Option (List Byte)), Instr.wf (.stageWrite n d data) = true →
      s.cmdDue n = true → s.boot.job = none → s.boot.session ≠ some n.val →
    exec (.stageWrite n d data) s = .next ((s.passDescriptor n).complete (s.cmdRef n d) .badField 0))
  ∧ (∀ (s : State) (n : Fin 4096) (d : List Byte) (data : Option (List Byte)), Instr.wf (.stageWrite n d data) = true →
      s.cmdDue n = true → s.boot.job = none → s.boot.session = some n.val → uOffset d % 256 = 0 →
      (kInLen d % 256 ≠ 0 ∨ 0x100000 < kInLen d ∨ 0xF80000 < uOffset d + kInLen d) →
    exec (.stageWrite n d data) s = .next ((s.passDescriptor n).complete (s.cmdRef n d) .badLength 0))
  -- STAGE_READ
  ∧ (∀ (s : State) (n : Fin 4096) (d : List Byte), Instr.wf (.stageRead n d) = true → s.cmdDue n = true →
      s.boot.job = none → uOffset d + kInLen d ≤ 0xF80000 →
      (s.passDescriptor n).firstBad true (leAt d 8 8) (kInLen d) = none →
    exec (.stageRead n d) s = .next (((s.passDescriptor n).dmaWrite (leAt d 8 8)
      (s.readSlot (uOffset d) (kInLen d))).complete (s.cmdRef n d) .done 0))
  -- ACTIVATE closes the session and writes a record; ABORT only closes it; neither without the ring's session
  ∧ (∀ (s : State) (n : Fin 4096) (d : List Byte), Instr.wf (.activate n d) = true → s.cmdDue n = true → s.boot.job = none →
      s.boot.session = some n.val →
    ∃ t, exec (.activate n d) s = .next t ∧ t.boot.session = none ∧ t.get Reg.BOOT.STATUS.SESSION = 0
      ∧ t.boot.job = some ⟨s.cmdRef n d, .select (1 - s.get Reg.BOOT.STATUS.SLOT)⟩
      ∧ Frame (.boot :: signalled) [Reg.BOOT.STATUS.SESSION] ringWords s t)
  ∧ (∀ (s : State) (n : Fin 4096) (d : List Byte), Instr.wf (.abort n d) = true → s.cmdDue n = true → s.boot.job = none →
      s.boot.session = some n.val →
    ∃ t x, exec (.abort n d) s = .next t ∧ t = State.complete x (s.cmdRef n d) .done 0 ∧ x.boot = { s.boot with session := none }
      ∧ x.get Reg.BOOT.STATUS.SESSION = 0
      ∧ Frame (.boot :: signalled) [Reg.BOOT.STATUS.SESSION] ringWords s x)
  ∧ (∀ (s : State) (n : Fin 4096) (d : List Byte), Instr.wf (.activate n d) = true → s.cmdDue n = true → s.boot.job = none →
      s.boot.session ≠ some n.val →
    exec (.activate n d) s = .next ((s.passDescriptor n).complete (s.cmdRef n d) .badField 0))
  ∧ (∀ (s : State) (n : Fin 4096) (d : List Byte), Instr.wf (.abort n d) = true → s.cmdDue n = true → s.boot.job = none →
      s.boot.session ≠ some n.val →
    exec (.abort n d) s = .next ((s.passDescriptor n).complete (s.cmdRef n d) .badField 0))
  -- HEALTH_CONFIRM of a slot in trial stops the watchdog; an expiry in the same cycle wins
  ∧ (∀ (s : State) (n : Fin 4096) (d : List Byte), Instr.wf (.healthConfirm n d false) = true → s.cmdDue n = true →
      s.boot.job = none → s.get Reg.BOOT.STATUS.STATE = 1 →
    ∃ t, exec (.healthConfirm n d false) s = .next t ∧ t.boot.watch = none ∧ t.get Reg.BOOT.HEALTH.LEFT_MS = 0
      ∧ t.boot.job = some ⟨s.cmdRef n d, .confirm (s.get Reg.BOOT.STATUS.SLOT)⟩
      ∧ Frame (.boot :: signalled) [Reg.BOOT.HEALTH.LEFT_MS] ringWords s t)
  ∧ (∀ (s : State) (n : Fin 4096) (d : List Byte), Instr.wf (.healthConfirm n d false) = true → s.cmdDue n = true →
      s.boot.job = none → s.get Reg.BOOT.STATUS.STATE ≠ 1 →
    exec (.healthConfirm n d false) s = .next ((s.passDescriptor n).complete (s.cmdRef n d) .notFound 0))
  ∧ (∀ (s : State) (n : Fin 4096) (d : List Byte) (k : Nat), Instr.wf (.healthConfirm n d true) = true →
      s.boot.watch = some k → exec (.healthConfirm n d true) s = .next (s.wipe .mem))
  -- an opcode outside the set
  ∧ (∀ (s : State) (n : Fin 4096) (d : List Byte), Instr.wf (.updateBadOpcode n d) = true → s.cmdDue n = true →
    exec (.updateBadOpcode n d) s = .next ((s.passDescriptor n).complete (s.cmdRef n d) .badOpcode 0))
  -- BOOT_FLASH_DONE: an erase leaves FF in the slot
  ∧ (∀ (s : State) (c : CmdRef) (k : Nat), s.logicUp = true → s.boot.job = some ⟨c, .erase k⟩ → k ≤ 1 →
    ∃ x, exec .bootFlashDone s = .next (State.complete x c .done k) ∧ x.boot.job = none
      ∧ (∀ off n, x.boot.slotBytes k off n = List.replicate n 255)
      ∧ (∀ off n, x.boot.slotBytes (1 - k) off n = s.boot.slotBytes (1 - k) off n) ∧ Frame [.boot] [] [] s x)
  -- a program operation clears bits of the bytes it names, and of no other
  ∧ (∀ (s : State) (c : CmdRef) (k off : Nat) (d : List Byte), s.logicUp = true → s.boot.job = some ⟨c, .program k off d⟩ →
      k ≤ 1 →
    ∃ x, exec .bootFlashDone s = .next (State.complete x c .done 0) ∧ x.boot.job = none
      ∧ (∀ i, i < d.length → x.boot.slotBytes k (off + i) 1
          = [(s.boot.slotBytes k (off + i) 1).headD 0 &&& d.getD i 0])
      ∧ (∀ a, (a < off ∨ off + d.length ≤ a) → x.boot.slotBytes k a 1 = s.boot.slotBytes k a 1)
      ∧ (∀ a n, x.boot.slotBytes (1 - k) a n = s.boot.slotBytes (1 - k) a n) ∧ Frame [.boot] [] [] s x)
  -- ACTIVATE's record is the newest: the slot, not yet tried
  ∧ (∀ (s : State) (c : CmdRef) (k : Nat) (r : SelRec), s.logicUp = true → s.boot.job = some ⟨c, .select k⟩ →
      s.boot.newest = some r → r.seq + 1 < 2 ^ 32 → k ≤ 1 →
    ∃ x, exec .bootFlashDone s = .next (State.complete x c .done 0) ∧ x.boot.job = none
      ∧ x.boot.newest = some ⟨r.seq + 1, k, 0, s.get Reg.BOOT.STATUS.STATE⟩ ∧ x.boot.imageA = s.boot.imageA
      ∧ x.boot.imageB = s.boot.imageB ∧ Frame [.boot] [] [] s x)
  -- HEALTH_CONFIRM's: CONFIRMED, source 268; the floor rises to the slot's SVN where ADVANCE asks for it
  ∧ (∀ (s : State) (c : CmdRef) (k : Nat) (r : SelRec), s.logicUp = true → s.boot.job = some ⟨c, .confirm k⟩ →
      s.boot.newest = some r → r.seq + 1 < 2 ^ 32 → k ≤ 1 →
    ∃ x, exec .bootFlashDone s = .next (State.complete x c .done 0) ∧ x.boot.job = none
      ∧ x.boot.newest = some ⟨r.seq + 1, k, 2, r.other⟩ ∧ x.get Reg.BOOT.STATUS.STATE = 2 ∧ x.pends 268
      ∧ x.otp.floor = (if s.boot.advance k = true then max s.otp.floor (s.boot.svn k) else s.otp.floor)
      ∧ (s.boot.advance k = true → s.otp.floor < s.boot.svn k → x.pends 270)
      ∧ Frame (.boot :: .otp :: signalled) [Reg.BOOT.STATUS.STATE, Reg.BOOT.STATUS.FLOOR] alarmWords s x)
  -- BOOT_RESTART with KEY 0x52 and RESTART, and HEALTH_WINDOW_EXPIRY, reset the part as RESET_N does
  ∧ (∀ (s : State) (v : BitVec 32), s.hostUp = true → bitsAt v.toNat 0 8 = 0x52 → bitsAt v.toNat 8 1 = 1 →
    exec (.bootRestart v) s = .next (s.wipe .mem))
  ∧ (∀ (s : State) (v : BitVec 32), s.hostUp = true → bitsAt v.toNat 0 8 ≠ 0x52 →
    ∃ t, exec (.bootRestart v) s = .next t ∧ t.safe.fault.valid = true ∧ Frame signalled [] alarmWords s t)
  ∧ (∀ s : State, s.logicUp = true → s.boot.watch = some 0 → exec .healthWindowExpiry s = .next (s.wipe .mem))
  ∧ (∀ s : State, s.boot.watch ≠ some 0 → exec .healthWindowExpiry s = .next s)
  -- the choice at a start: a slot in trial that was not confirmed falls back to the other, a slot not yet tried is tried
  ∧ (∀ (s : State) (r : SelRec), s.boot.newest = some r → r.st = 1 → r.slot ≤ 1 → r.seq + 1 < 2 ^ 32 →
      s.slotFails (1 - r.slot) = 0 →
    ∃ t, s.bootSelect = t ∧ t.get Reg.BOOT.STATUS.SLOT = 1 - r.slot ∧ t.get Reg.BOOT.STATUS.STATE = 2
      ∧ t.get Reg.BOOT.STATUS.FELL_BACK = 1 ∧ t.get Reg.BOOT.STATUS.REASON = 0
      ∧ t.boot.newest = some ⟨r.seq + 1, 1 - r.slot, 2, 3⟩ ∧ t.boot.halted = s.boot.halted)
  ∧ (∀ (s : State) (r : SelRec), s.boot.newest = some r → r.st = 0 → r.slot ≤ 1 → r.seq + 1 < 2 ^ 32 →
      s.slotFails r.slot = 0 →
    ∃ t, s.bootSelect = t ∧ t.get Reg.BOOT.STATUS.SLOT = r.slot ∧ t.get Reg.BOOT.STATUS.STATE = 1
      ∧ t.get Reg.BOOT.STATUS.FELL_BACK = 0 ∧ t.boot.newest = some ⟨r.seq + 1, r.slot, 1, r.other⟩)
  -- a slot that fails a check hands over to the other with the check's code; none good, BOOT_RDY never rises
  ∧ (∀ (s : State) (r : SelRec), s.boot.newest = some r → r.st = 2 → r.slot ≤ 1 → r.seq + 1 < 2 ^ 32 →
      s.slotFails r.slot ≠ 0 →
      s.slotFails (1 - r.slot) = 0 →
    ∃ t, s.bootSelect = t ∧ t.get Reg.BOOT.STATUS.SLOT = 1 - r.slot ∧ t.get Reg.BOOT.STATUS.FELL_BACK = 1
      ∧ t.get Reg.BOOT.STATUS.REASON = s.slotFails r.slot ∧ t.get Reg.BOOT.STATUS.STATE = 2)
  ∧ (∀ (s : State) (r : SelRec), s.boot.newest = some r → r.st = 2 → r.slot ≤ 1 → r.seq + 1 < 2 ^ 32 →
      s.slotFails r.slot ≠ 0 →
      s.slotFails (1 - r.slot) ≠ 0 → s.bootSelect.boot.halted = true)

/-- Tuning, alternatives and RDS of the broadcast chains (R184, R186, R193, R194, R196). Where the spec leaves a point
of it open, the clause is the model's choice: log entries 146, 147, 148, 149, 150, 192. -/
def Obligations.TuningCommands : Prop :=
  -- BCAST_TUNE, TUNE of a chain that is on: it re-acquires from nothing, the record numbers go on
  (∀ (s : State) (f : Fin 6) (v : BitVec 32), s.hostUp = true → s.dieUp f = true → s.on (Reg.BCAST.CTL.EN f) = true →
      65000 ≤ bitsAt v.toNat 0 18 → bitsAt v.toNat 0 18 ≤ 240000 →
    ∃ t, exec (.bcastTune f false v) s = .next t ∧ t.get (Reg.BCAST.TUNE.FREQ_KHZ f) = bitsAt v.toNat 0 18
      ∧ t.get (Reg.BCAST.STATUS.SYNC f) = 0 ∧ t.get (Reg.BCAST.STATUS.RDS_SYNC f) = 0
      ∧ t.get (Reg.BCAST.STATUS.ID_VALID f) = 0 ∧ t.get (Reg.BCAST.STATUS.DWELL f) = 0
      ∧ t.chainB f = { BcastRun.init with
          retuning := true, gaps := ((s.chainB f).dwellEnds s.counterNs).gaps, seqs := (s.chainB f).seqs }
      ∧ t.out = s.out ++ [.retune f 6 (bitsAt v.toNat 0 18)]
      ∧ Frame [.bcast, .safe, .out] [Reg.BCAST.TUNE.FREQ_KHZ f, Reg.BCAST.STATUS.SYNC f, Reg.BCAST.STATUS.RDS_SYNC f,
          Reg.BCAST.STATUS.DWELL f, Reg.BCAST.STATUS.ID_VALID f, Reg.BCAST.STATUS.ID f] [] s t)
  -- a frequency outside 65,000 to 240,000 kHz is an illegal value
  ∧ (∀ (s : State) (f : Fin 6) (v : BitVec 32), s.hostUp = true → s.dieUp f = true →
      (bitsAt v.toNat 0 18 < 65000 ∨ 240000 < bitsAt v.toNat 0 18) →
    ∃ t, exec (.bcastTune f false v) s = .next t ∧ t.safe.fault.valid = true ∧ Frame signalled [] alarmWords s t)
  -- CTL that turns a chain on, or changes the MODE of one that is on, retunes it
  ∧ (∀ (s : State) (f : Fin 6) (v : BitVec 32), s.hostUp = true → s.dieUp f = true → bitsAt v.toNat 6 2 ≠ 3 →
      bitsAt v.toNat 8 8 ≠ 0 → bitsAt v.toNat 2 1 = 0 → bitsAt v.toNat 0 1 = 1 →
      (s.on (Reg.BCAST.CTL.EN f) = false ∨ s.get (Reg.BCAST.CTL.MODE f) ≠ bitsAt v.toNat 1 1) →
    ∃ t, exec (.bcastTune f true v) s = .next t ∧ t.get (Reg.BCAST.CTL.EN f) = 1
      ∧ t.get (Reg.BCAST.CTL.MODE f) = bitsAt v.toNat 1 1 ∧ t.get (Reg.BCAST.CTL.INTERVAL f) = bitsAt v.toNat 8 8
      ∧ (t.chainB f).retuning = true ∧ (t.chainB f).alts = [] ∧ t.get (Reg.BCAST.STATUS.ID_VALID f) = 0
      ∧ FrameIn [.bcast, .time, .safe, .out] [(dieOffset f 0x200000, dieOffset f 0x200004),
          (dieOffset f 0x200008, dieOffset f 0x20000C)] [] s t)
  -- REF on a second die, DAB_FOLLOW 3 and INTERVAL 0 are illegal values
  ∧ (∀ (s : State) (f g : Fin 6) (v : BitVec 32), s.hostUp = true → s.dieUp f = true →
      (bitsAt v.toNat 6 2 = 3 ∨ bitsAt v.toNat 8 8 = 0
        ∨ (bitsAt v.toNat 2 1 = 1 ∧ g ≠ f ∧ s.on (Reg.BCAST.CTL.REF g) = true)) →
    ∃ t, exec (.bcastTune f true v) s = .next t ∧ t.safe.fault.valid = true ∧ Frame signalled [] alarmWords s t)
  -- BCAST_RETUNE_DONE
  ∧ (∀ (s : State) (f : Fin 6), s.live = true → s.dieUp f = true → (s.chainB f).retuning = true →
    ∃ t, exec (.bcastRetuneDone f) s = .next t ∧ (t.chainB f).retuning = false ∧ (t.chainB f).alts = (s.chainB f).alts
      ∧ Frame [.bcast] [] [] s t)
  -- AF_CHECK: the next alternative's dwell begins once INTERVAL cycles, and in DAB mode 2 ms since a null end, have passed
  ∧ (∀ (s : State) (f : Fin 6) (a : AltFreq), s.chainRuns f (s.get (Reg.BCAST.CTL.MODE f)) = true →
      s.on (Reg.BCAST.CTL.AF_EN f) = true → (s.chainB f).dwell = none →
      s.get (Reg.BCAST.CTL.INTERVAL f) ≤ (s.chainB f).since →
      (s.get (Reg.BCAST.CTL.MODE f) = 0 ∨ ∃ n, (s.chainB f).nullAt = some n ∧ 2000000 ≤ s.nsSince n) →
      (s.chainB f).alts[(s.chainB f).nextAlt]? = some a → a.skipped = false →
    ∃ t, exec (.afCheck f) s = .next t ∧ (t.chainB f).dwell = some (.check a.khz) ∧ (t.chainB f).since = 0
      ∧ (t.chainB f).nextAlt = (s.chainB f).nextAlt + 1 ∧ t.get (Reg.BCAST.STATUS.DWELL f) = 1
      ∧ t.stat (Reg.BCAST.AF_CHECKS f) = (s.stat (Reg.BCAST.AF_CHECKS f) + 1) % 2 ^ 32
      ∧ Frame [.bcast] [Reg.BCAST.STATUS.DWELL f] [Reg.BCAST.AF_CHECKS f] s t)
  -- AF_DWELL_END: less than 6 dB above the tuned frequency starts the count of the alternative over
  ∧ (∀ (s : State) (f : Fin 6) (k : Nat) (level tuned : Int), s.live = true → s.dieUp f = true →
      (s.chainB f).dwell = some (.check k) → (s.chainB f).cand = none → level < tuned + 6 →
    ∃ t, exec (.afDwellEnd f level tuned) s = .next t ∧ (t.chainB f).dwell = none ∧ (t.chainB f).cand = none
      ∧ (∀ a ∈ (t.chainB f).alts, a.khz = k → a.good = 0 ∧ a.last = some (level, s.time.msc))
      ∧ t.get (Reg.BCAST.STATUS.DWELL f) = 0
      ∧ Frame [.bcast] [Reg.BCAST.STATUS.DWELL f, Reg.BCAST.STATUS.LEVEL f] [] s t)
  -- the third good check in a row: the candidate is verified in one further dwell
  ∧ (∀ (s : State) (f : Fin 6) (a : AltFreq) (level tuned : Int), s.live = true → s.dieUp f = true →
      (s.chainB f).dwell = some (.check a.khz) → (s.chainB f).cand = none → a ∈ (s.chainB f).alts → a.skipped = false →
      2 ≤ a.good → tuned + 6 ≤ level → s.maySwitch f false = true →
      s.on (Reg.BCAST.STATUS.ID_VALID f) = true →
    ∃ t, exec (.afDwellEnd f level tuned) s = .next t ∧ (t.chainB f).dwell = some (.verify a.khz false)
      ∧ (t.chainB f).cand = none ∧ t.get (Reg.BCAST.STATUS.DWELL f) = 1
      ∧ Frame [.bcast] [Reg.BCAST.STATUS.DWELL f, Reg.BCAST.STATUS.LEVEL f] [] s t)
  -- TUNED_LOSS: the best alternative checked within the last 10 s is verified at once
  ∧ (∀ (s : State) (f : Fin 6) (a : AltFreq), s.chainRuns f (s.get (Reg.BCAST.CTL.MODE f)) = true →
      s.maySwitch f true = true → (s.chainB f).dwell = none →
      ((s.get (Reg.BCAST.CTL.MODE f) = 0 ∧ ∃ u, (s.chainB f).lostAt = some u ∧ 1000000000 ≤ s.nsSince u)
        ∨ (s.get (Reg.BCAST.CTL.MODE f) = 1 ∧ 3 ≤ (s.chainB f).missed)) →
      (s.chainB f).bestAlt s.time.msc = some a → s.on (Reg.BCAST.STATUS.ID_VALID f) = true →
    ∃ t, exec (.tunedLoss f) s = .next t ∧ (t.chainB f).dwell = some (.verify a.khz true)
      ∧ t.get (Reg.BCAST.STATUS.DWELL f) = 1 ∧ Frame [.bcast] [Reg.BCAST.STATUS.DWELL f] [] s t)
  ∧ (∀ (r : BcastRun) (msc : Nat) (a : AltFreq), r.bestAlt msc = some a →
      a ∈ r.alts ∧ a.skipped = false
      ∧ ∃ l m, a.last = some (l, m) ∧ (msc + 2 ^ 48 - m) % 2 ^ 48 ≤ 5000
        ∧ ∀ b ∈ r.alts, b.skipped = false → ∀ l' m', b.last = some (l', m') → (msc + 2 ^ 48 - m') % 2 ^ 48 ≤ 5000 →
            l' ≤ l)
  -- on the REF die in DAB mode with DAB_FOLLOW 0 nothing follows a loss
  ∧ (∀ (s : State) (f : Fin 6), s.on (Reg.BCAST.CTL.REF f) = true → s.get (Reg.BCAST.CTL.MODE f) = 1 →
      s.get (Reg.BCAST.CTL.DAB_FOLLOW f) = 0 → exec (.tunedLoss f) s = .next s)
  -- AF_VERIFY that gives the learned identity: the alternative is tuned, its identity kept, source 332 + 32f
  ∧ (∀ (s : State) (f : Fin 6) (k : Nat) (loss : Bool) (i : BitVec 16), s.live = true → s.dieUp f = true →
      (s.chainB f).dwell = some (.verify k loss) → i.toNat = s.get (Reg.BCAST.STATUS.ID f) → k < 2 ^ 18 →
      s.maySwitch f loss = true → s.feeds f 1 = false →
    ∃ t, exec (.afVerify f (some i)) s = .next t ∧ t.get (Reg.BCAST.TUNE.FREQ_KHZ f) = k
      ∧ t.get (Reg.BCAST.STATUS.SYNC f) = 0 ∧ t.get (Reg.BCAST.STATUS.ID f) = s.get (Reg.BCAST.STATUS.ID f)
      ∧ (t.chainB f).retuning = true ∧ (t.chainB f).dwell = none ∧ t.pends (332 + 32 * f.val)
      ∧ t.stat (Reg.BCAST.AF_SWITCHES f) = (s.stat (Reg.BCAST.AF_SWITCHES f) + 1) % 2 ^ 32
      ∧ Frame (.bcast :: signalled) [Reg.BCAST.TUNE.FREQ_KHZ f, Reg.BCAST.STATUS.SYNC f, Reg.BCAST.STATUS.RDS_SYNC f,
          Reg.BCAST.STATUS.DWELL f] (Reg.BCAST.AF_SWITCHES f :: alarmWords) s t)
  -- a switch of the REF die in DAB mode ends the DAB reference's qualification
  ∧ (∀ (s : State) (f : Fin 6) (k : Nat) (loss : Bool) (i : BitVec 16), s.live = true → s.dieUp f = true →
      (s.chainB f).dwell = some (.verify k loss) → i.toNat = s.get (Reg.BCAST.STATUS.ID f) → s.feeds f 1 = true →
      s.maySwitch f loss = true → s.time.dab.qualified = true →
    ∃ t, exec (.afVerify f (some i)) s = .next t ∧ t.time.dab.qualified = false ∧ t.pends 33 ∧ t.pends (332 + 32 * f.val)
      ∧ Frame (.bcast :: .time :: signalled) [Reg.BCAST.TUNE.FREQ_KHZ f, Reg.BCAST.STATUS.SYNC f,
          Reg.BCAST.STATUS.RDS_SYNC f, Reg.BCAST.STATUS.DWELL f, Reg.TIME.REF_STATUS.PER_REF]
          (Reg.BCAST.AF_SWITCHES f :: alarmWords) s t)
  -- another identity, or none: the alternative is skipped
  ∧ (∀ (s : State) (f : Fin 6) (k : Nat) (loss : Bool) (o : Option (BitVec 16)), s.live = true → s.dieUp f = true →
      (s.chainB f).dwell = some (.verify k loss) → (s.chainB f).cand = none →
      (∀ i, o = some i → i.toNat ≠ s.get (Reg.BCAST.STATUS.ID f)) →
    ∃ t, exec (.afVerify f o) s = .next t ∧ (t.chainB f).dwell = none
      ∧ (∀ a ∈ (t.chainB f).alts, a.khz = k → a.skipped = true) ∧ t.get (Reg.BCAST.STATUS.DWELL f) = 0
      ∧ t.stat (Reg.BCAST.AF_VERIFY_FAIL f) = (s.stat (Reg.BCAST.AF_VERIFY_FAIL f) + 1) % 2 ^ 32
      ∧ Frame [.bcast] [Reg.BCAST.STATUS.DWELL f] [Reg.BCAST.AF_VERIFY_FAIL f] s t)
  -- where following has been turned off since the dwell began, no switch is made
  ∧ (∀ (s : State) (f : Fin 6) (k : Nat) (loss : Bool) (i : BitVec 16), s.live = true → s.dieUp f = true →
      (s.chainB f).dwell = some (.verify k loss) → (s.chainB f).cand = none → i.toNat = s.get (Reg.BCAST.STATUS.ID f) →
      (s.on (Reg.BCAST.CTL.AF_EN f) = false ∨ (s.on (Reg.BCAST.CTL.REF f) = true ∧ s.get (Reg.BCAST.CTL.MODE f) = 1
        ∧ s.get (Reg.BCAST.CTL.DAB_FOLLOW f) = 0)) →
    ∃ t, exec (.afVerify f (some i)) s = .next t ∧ (t.chainB f).dwell = none ∧ (t.chainB f).alts = (s.chainB f).alts
      ∧ t.get (Reg.BCAST.STATUS.DWELL f) = 0 ∧ Frame [.bcast] [Reg.BCAST.STATUS.DWELL f] [] s t)

/-- What the broadcast chains receive (R186, R188 to R191, R248). Where the spec leaves a point of it open, the clause
is the model's choice: log entries 146, 149, 151, 152, 153, 191. -/
def Obligations.BroadcastReception : Prop :=
  -- RDS_BLOCK: the second clean block in place gains sync, source 333 + 32f
  (∀ (s : State) (f : Fin 6) (b : RdsIn), s.chainRuns f 0 = true → (s.chainB f).dwell = none →
      s.on (Reg.BCAST.STATUS.RDS_SYNC f) = false → 1 ≤ (s.chainB f).valid →
      b.follows = true → rdsPlace b.bits.toNat = some (s.chainB f).place →
    ∃ t, exec (.rdsBlock f b) s = .next t ∧ t.get (Reg.BCAST.STATUS.RDS_SYNC f) = 1 ∧ t.pends (333 + 32 * f.val)
      ∧ Frame (.bcast :: signalled) [Reg.BCAST.STATUS.RDS_SYNC f, Reg.BCAST.STATUS.ID f, Reg.BCAST.STATUS.ID_VALID f]
          alarmWords s t)
  -- the eighth uncorrectable block in a run of 16 loses it
  ∧ (∀ (s : State) (f : Fin 6) (b : RdsIn), s.chainRuns f 0 = true → (s.chainB f).dwell = none →
      s.on (Reg.BCAST.STATUS.RDS_SYNC f) = true → (rdsDecode b.bits.toNat (s.chainB f).offsets).1 = 2 →
      7 ≤ (((s.chainB f).recent.take 15).filter id).length →
    ∃ t, exec (.rdsBlock f b) s = .next t ∧ t.get (Reg.BCAST.STATUS.RDS_SYNC f) = 0 ∧ t.pends (333 + 32 * f.val)
      ∧ t.stat (Reg.BCAST.RDS_BLOCK_ERR f) = (s.stat (Reg.BCAST.RDS_BLOCK_ERR f) + 1) % 2 ^ 32
      ∧ Frame (.bcast :: signalled) [Reg.BCAST.STATUS.RDS_SYNC f] (Reg.BCAST.RDS_BLOCK_ERR f :: alarmWords) s t)
  -- PI: the same in two consecutive unflagged A blocks
  ∧ (∀ (s : State) (f : Fin 6) (b : RdsIn) (c pi : Nat), s.chainRuns f 0 = true → (s.chainB f).dwell = none →
      s.on (Reg.BCAST.STATUS.RDS_SYNC f) = true → (s.chainB f).place = 0 →
      rdsDecode b.bits.toNat (rdsOffsets 0) = (c, pi) → c ≠ 2 →
      (((s.chainB f).recent.take 15).filter id).length < 8 → (s.chainB f).lastId = some pi →
    ∃ t, exec (.rdsBlock f b) s = .next t ∧ t.get (Reg.BCAST.STATUS.ID f) = pi
      ∧ t.get (Reg.BCAST.STATUS.ID_VALID f) = 1
      ∧ Frame [.bcast] [Reg.BCAST.STATUS.ID f, Reg.BCAST.STATUS.ID_VALID f] [] s t)
  -- the fourth block completes the group: its record, and no more where the part does not parse its type
  ∧ (∀ (s : State) (f : Fin 6) (b : RdsIn) (b0 b1 b2 : RdsBlk) (c d : Nat), s.chainRuns f 0 = true →
      (s.chainB f).dwell = none → s.on (Reg.BCAST.STATUS.RDS_SYNC f) = true → (s.chainB f).place = 3 →
      rdsDecode b.bits.toNat (rdsOffsets 3) = (c, d) → c ≠ 2 →
      (((s.chainB f).recent.take 15).filter id).length < 8 → (s.chainB f).group = [b0, b1, b2] →
      b1.data / 2 ^ 11 ≠ 0 → b1.data / 2 ^ 11 ≠ 8 →
    ∃ x, exec (.rdsBlock f b) s = .next ((State.side x f 0 0 12 b0.stamp
        (leBytes 2 b0.data ++ leBytes 2 b1.data ++ leBytes 2 b2.data ++ leBytes 2 d
          ++ [BitVec.ofNat 8 b0.code, BitVec.ofNat 8 b1.code, BitVec.ofNat 8 b2.code, BitVec.ofNat 8 c])).bump
            (Reg.BCAST.RDS_GROUPS f))
      ∧ (x.chainB f).group = [] ∧ Frame [.bcast] [] [] s x)
  -- PCM_RECORD: the samples of one record, of the time constant DEEMPH selects; the left ones on both sides while the pilot
  -- is unlocked
  ∧ (∀ (s : State) (f : Fin 6) (us50 us75 : List (BitVec 16 × BitVec 16)) (back : Nat), us50.length = 12 →
      us75.length = 12 → s.chainRuns f 0 = true → s.on (Reg.BCAST.CTL.PCM_EN f) = true → (s.chainB f).dwell = none →
      (s.chainB f).gaps = [] →
    exec (.pcmRecord f us50 us75 back) s = .next (s.stream f 4 0 48 (s.stampAgo f back)
      ((if s.on (Reg.BCAST.CTL.DEEMPH f) = true then us75 else us50).flatMap fun p => leBytes 2 p.1.toNat
        ++ leBytes 2 (if s.on (Reg.BCAST.STATUS.SYNC f) = true then p.2 else p.1).toNat)))
  -- within a dwell the samples are zero and the record is flagged GAP
  ∧ (∀ (s : State) (f : Fin 6) (us50 us75 : List (BitVec 16 × BitVec 16)) (back : Nat) (d : Dwell), us50.length = 12 →
      us75.length = 12 → s.chainRuns f 0 = true → s.on (Reg.BCAST.CTL.PCM_EN f) = true → (s.chainB f).dwell = some d →
      (s.chainB f).dwellAt ≤ s.counterNs - back →
    exec (.pcmRecord f us50 us75 back) s
      = .next (s.stream f 4 1 48 (s.stampAgo f back) (List.replicate 48 0)))
  -- a record of the stream ring carries the next sequence number of that ring; without STREAM_EN there is none
  ∧ (∀ (s : State) (f k flags n st q : Nat) (data : List Byte), s.on (Reg.BCAST.RING.STREAM_EN f) = true →
      Tbl.getD (s.chainB f).seqs (s.get (Reg.BCAST.RING.STREAM f)) 0 = q →
    ∃ x, s.stream f k flags n st data = State.record x (s.get (Reg.BCAST.RING.STREAM f)) 5
        (leBytes 1 k ++ leBytes 1 flags ++ leBytes 1 f ++ leBytes 1 n ++ leBytes 4 q
          ++ leBytes 8 st ++ (data ++ List.replicate 48 0).take 48)
      ∧ x.chainB f = { s.chainB f with
          seqs := Tbl.put (s.chainB f).seqs (s.get (Reg.BCAST.RING.STREAM f)) ((q + 1) % 2 ^ 32) } ∧ Frame [.bcast] [] [] s x)
  ∧ (∀ (s : State) (f k flags n st : Nat) (data : List Byte), s.on (Reg.BCAST.RING.STREAM_EN f) = false →
    s.stream f k flags n st data = s)
  -- DAB_NULL: the null end is stamped less the latency of 2,500 ns, sync is gained
  ∧ (∀ (s : State) (f : Fin 6) (back : Nat), s.chainRuns f 1 = true → s.feeds f 1 = false →
      s.on (Reg.BCAST.STATUS.SYNC f) = false →
    ∃ t, exec (.dabNull f true back) s = .next t ∧ t.get (Reg.BCAST.STATUS.SYNC f) = 1 ∧ t.pends (333 + 32 * f.val)
      ∧ (t.chainB f).missed = 0 ∧ (t.chainB f).nullStamp = s.stampAgo f (back + 2500)
      ∧ Frame (.bcast :: signalled) [Reg.BCAST.STATUS.SYNC f] (Reg.BCAST.TOD_MISMATCH f :: alarmWords) s t)
  -- the third frame without a null symbol loses it
  ∧ (∀ (s : State) (f : Fin 6) (back : Nat), s.chainRuns f 1 = true → s.feeds f 1 = false →
      s.on (Reg.BCAST.STATUS.SYNC f) = true → 2 ≤ (s.chainB f).missed →
    ∃ t, exec (.dabNull f false back) s = .next t ∧ t.get (Reg.BCAST.STATUS.SYNC f) = 0 ∧ t.pends (333 + 32 * f.val)
      ∧ t.stat (Reg.BCAST.NULL_MISSED f) = (s.stat (Reg.BCAST.NULL_MISSED f) + 1) % 2 ^ 32
      ∧ Frame (.bcast :: signalled) [Reg.BCAST.STATUS.SYNC f] (Reg.BCAST.NULL_MISSED f :: alarmWords) s t)
  -- on the REF die, time being valid: e = T_null − PROP_NS − FRAME_OFS − B
  ∧ (∀ (s : State) (f : Fin 6) (back : Nat), s.chainRuns f 1 = true → s.feeds f 1 = true → s.quality ≠ 3 →
      s.on (Reg.BCAST.STATUS.SYNC f) = true →
    ∃ (t : State) (b : Int), exec (.dabNull f true back) s = .next t
      ∧ t.lead t.time.dab = some ((s.counterNs : Int) - (back + 2500 : Nat)
          - s.get (Reg.BCAST.TIMING.PROP_NS f) - s.get (Reg.BCAST.TIMING.FRAME_OFS f) - b)
      ∧ (∃ k : Int, b = (meshEpoch * 1000000000 : Nat) + s.meshOffset + k * 96000000)
      ∧ (∀ e, t.lead t.time.dab = some e → -48000000 ≤ e ∧ e < 48000000)
      ∧ Frame [.bcast, .time] [] [Reg.BCAST.TOD_MISMATCH f] s t)
  -- FIB_RECEIVED: delivered raw and counted where its CRC passes, only counted where it fails
  ∧ (∀ (s : State) (f : Fin 6) (d : List Byte), d.length = 32 → s.chainRuns f 1 = true →
      s.on (Reg.BCAST.STATUS.SYNC f) = true → fibCrc (d.take 30) = beAt d 30 2 → d.headD 0 = 0xFF →
    exec (.fibReceived f d) s
      = .next ((s.side f 3 0 32 (s.chainB f).nullStamp d).bump (Reg.BCAST.FIB_GOOD f)))
  ∧ (∀ (s : State) (f : Fin 6) (d : List Byte), d.length = 32 → s.chainRuns f 1 = true →
      s.on (Reg.BCAST.STATUS.SYNC f) = true → fibCrc (d.take 30) ≠ beAt d 30 2 →
    exec (.fibReceived f d) s = .next (s.bump (Reg.BCAST.FIB_CRC_ERR f)))
  -- the ensemble id of FIG 0/0 is learned once it agrees with the frame before
  ∧ (∀ (s : State) (f : Fin 6) (d : List Byte), d.length = 32 → s.chainRuns f 1 = true →
      s.on (Reg.BCAST.STATUS.SYNC f) = true → fibCrc (d.take 30) = beAt d 30 2 → s.on (Reg.BCAST.RING.SIDE_EN f) = false →
      d.getD 0 0 = 5 → d.getD 1 0 = 0 → d.getD 6 0 = 0xFF → (s.chainB f).lastId = some (beAt d 2 2) →
    ∃ t, exec (.fibReceived f d) s = .next t ∧ t.get (Reg.BCAST.STATUS.ID f) = beAt d 2 2
      ∧ t.get (Reg.BCAST.STATUS.ID_VALID f) = 1
      ∧ Frame [.bcast] [Reg.BCAST.STATUS.ID f, Reg.BCAST.STATUS.ID_VALID f] [Reg.BCAST.FIB_GOOD f] s t)
  -- SUBCH_RECORD: 48 bytes of a subchannel that FIG 0/1 has shown;
  -- the record in hand when a subchannel is stopped for rate is flagged OVER_RATE
  ∧ (∀ (s : State) (f : Fin 6) (j : Fin 4) (d : List Byte) (back : Nat), d.length = 48 → s.chainRuns f 1 = true →
      s.on (Reg.BCAST.SUBCH.EN f j) = true →
      Tbl.has (s.chainB f).subchs (s.get (Reg.BCAST.SUBCH.SUBCHID f j)) = true → j.val ∉ (s.chainB f).stopping →
    ∃ x, exec (.subchRecord f j d back) s = .next (State.stream x f 5 (4 * s.get (Reg.BCAST.SUBCH.SUBCHID f j)) 48
        (s.stampAgo f back) d)
      ∧ x.chainB f = s.chainB f ∧ Frame [.bcast] [] [] s x)
  ∧ (∀ (s : State) (f : Fin 6) (j : Fin 4) (d : List Byte) (back : Nat), d.length = 48 → s.chainRuns f 1 = true →
      j.val ∈ (s.chainB f).stopping →
    ∃ x, exec (.subchRecord f j d back) s = .next (State.stream x f 5 (2 + 4 * s.get (Reg.BCAST.SUBCH.SUBCHID f j)) 48
        (s.stampAgo f back) d)
      ∧ j.val ∉ (x.chainB f).stopping ∧ Frame [.bcast] [] [] s x)

/-- The slot tick and the cycle tick (R51, R56, R57, R60, R109, R157, R182, R227, R228). Where the spec leaves a point
of it open, the clause is the model's choice: log entries 16, 18, 19, 155, 168, 171, 173, 180, 188, 190, 191, 192. -/
def Obligations.BoundaryTicks : Prop :=
  -- SLOT_TICK: MSC is the slot that the grid gives, every enabled bucket is refilled up to BURST
  (∀ (s : State) (l : List (Fin 6)) (trips : List (Fin 6 × Nat)), s.logicUp = true → s.mscNow ≠ s.time.msc →
    ∃ t, exec (.slotTick l trips) s = .next t ∧ t.time.msc = s.mscNow
      ∧ (∀ g c, g < 64 → c < 8 → t.tokens g c = if s.on (Reg.SCHED.BUCKET.EN g c) = true
          then min (s.tokens g c + s.get (Reg.SCHED.BUCKET.RATE g c)) (s.get (Reg.SCHED.BUCKET.BURST g c))
          else s.tokens g c)
      ∧ ∀ c, c ∉ [.air, .cask, .eth, .evt, .node, .out, .rings, .safe, .sched, .time, .timers, .tun] → Component.Same s t c)
  ∧ (∀ (s : State) (l : List (Fin 6)) (trips : List (Fin 6 × Nat)), s.mscNow = s.time.msc →
    exec (.slotTick l trips) s = .next s)
  -- a queue that has waited STARVE slots in its class list joins the urgent list
  ∧ (∀ (s : State) (l : List (Fin 6)) (trips : List (Fin 6 × Nat)) (q : Nat), s.logicUp = true → s.mscNow ≠ s.time.msc →
      s.listed q = true →
      Tbl.wf s.cask.lists = true → Tbl.wf s.cask.urgent = true → Tbl.wf s.cask.queues = true →
      0 < (s.queue q).count → (s.queue q).sent = false → (s.queue q).urgent = false →
      s.get (Reg.SCHED.CLASS.STARVE (s.queue q).cls) ≠ 0 →
      s.get (Reg.SCHED.CLASS.STARVE (s.queue q).cls) ≤ (s.mscNow + 2048 - (s.queue q).age) % 2048 →
      bitsAt (s.get Reg.TUN.POLICY_CFG.HOOK_EN) 1 1 = 0 →
    ∃ t, exec (.slotTick l trips) s = .next t ∧ (t.queue q).urgent = true ∧ (t.queue q).count = (s.queue q).count
      ∧ t.listed q = true)
  -- CYCLE_TICK: what was written during the cycle takes effect, networks and combining among it
  ∧ (∀ (s : State) (l : List (Fin 6 × Int)), s.logicUp = true → s.time.msc % 48 = 0 → s.time.lastCycle ≠ some s.time.msc →
    ∃ t, exec (.cycleTick l) s = .next t ∧ t.time.lastCycle = some t.time.msc
      ∧ (∀ n, n < 4 → Tbl.find? t.nets n = if s.on (Reg.MAC.NET_CFG.EN n) = true
          then some ⟨s.get (Reg.MAC.NET_SYNC.SYNC n), s.get (Reg.MAC.NET_CFG.CODESET n),
            s.get (Reg.MAC.NET_CFG.SYNC_ERR n), s.get (Reg.MAC.NET_CFG.NETID n)⟩ else none)
      ∧ t.blendForce = ⟨s.get Reg.BLEND.CFG.WINDOW_US, s.on Reg.BLEND.CFG.REDECODE, s.get Reg.BLEND.CFG.TS_TOL⟩
      ∧ t.safe.patrol = [] ∧ t.safe.patrolWait = [] ∧ t.power.hot = []
      -- each field die that is up has a random slot of the cycle for its patrol test
      ∧ (s.safe.patrol = [] → s.live = true → s.on Reg.RNG.STATUS.SEEDED = true → ∀ f, f < 6 → s.dieUp f = true →
          ∃ k, k < 48 ∧ Tbl.find? t.safe.patrolAt f = some k)
      ∧ (s.safe.patrol = [] → ∀ c, c ∉ [.bcast, .time, .eth, .evt, .free, .out, .rings, .safe, .clk, .power, .nets,
          .blendForce, .kiln] → Component.Same s t c))
  -- once at each boundary
  ∧ (∀ (s : State) (l : List (Fin 6 × Int)), (s.time.msc % 48 ≠ 0 ∨ s.time.lastCycle = some s.time.msc) →
    exec (.cycleTick l) s = .next s)
  -- a profile requested takes effect there: source 179
  ∧ (∀ (s : State) (l : List (Fin 6 × Int)), s.logicUp = true → s.time.msc % 48 = 0 → s.time.lastCycle ≠ some s.time.msc →
      s.get Reg.MAC.PROFILE.SEL ≤ 2 → s.get Reg.MAC.PROFILE.SEL ≠ s.profile →
    ∃ t, exec (.cycleTick l) s = .next t ∧ t.profile = s.get Reg.MAC.PROFILE.SEL ∧ t.get Reg.MAC.PROFILE.PENDING = 0
      ∧ t.get Reg.MAC.PROFILE.SEL = s.get Reg.MAC.PROFILE.SEL ∧ t.pends 179)
  -- a reference qualifies after its sixteenth good cycle in a row, source 32
  ∧ (∀ (s : State) (l : List (Fin 6 × Int)), s.logicUp = true → s.time.msc % 48 = 0 → s.time.lastCycle ≠ some s.time.msc →
      s.time.rank 1 ≠ 0 → s.time.pps.cycleOk = some true → s.time.pps.qualified = false → 15 ≤ s.time.pps.goodRun →
    ∃ t, exec (.cycleTick l) s = .next t ∧ t.time.pps.qualified = true ∧ t.pends 32)
  -- the third bad cycle in a row ends it, source 33; were it selected and no other is enabled, holdover follows, source 37
  ∧ (∀ (s : State) (l : List (Fin 6 × Int)), s.logicUp = true → s.time.msc % 48 = 0 → s.time.lastCycle ≠ some s.time.msc →
      s.time.rank 1 ≠ 0 → s.time.pps.cycleOk = some false → s.time.pps.qualified = true → 2 ≤ s.time.pps.badRun →
    ∃ t, exec (.cycleTick l) s = .next t ∧ t.time.pps.qualified = false ∧ t.pends 33
      ∧ (s.get Reg.TIME.REF_STATUS.SELECTED = 1 → s.on Reg.TIME.REF_STATUS.SWITCHING = false → s.quality ≠ 3 →
          s.get Reg.TIME.REF_PRIO.PTP_RANK = 0 → s.get Reg.TIME.REF_PRIO.DAB_RANK = 0 →
          s.get Reg.TIME.REF_PRIO.FM_RANK = 0 →
          t.get Reg.TIME.REF_STATUS.SELECTED = 0 ∧ t.quality = 2 ∧ t.pends 37))

/-- The writes that wait for a mesh cycle boundary (R8, R109, R182): they change registers only, on air nothing. Where
the spec leaves a point of it open, the clause is the model's choice: log entry 154. -/
def Obligations.BoundaryWrites : Prop :=
  -- PROFILE_WRITE of Swift or Reach, or of Thrift while the field dies fit Evening
  (∀ (s : State) (v : BitVec 32), s.hostUp = true →
      (bitsAt v.toNat 0 2 ≤ 1 ∨ (bitsAt v.toNat 0 2 = 2 ∧ ∀ f, f < 6 → s.present f = true →
        s.wCount f ≤ 64 ∧ ∀ k, k < 40 → s.linkFits f k 2 = true)) →
    ∃ t, exec (.profileWrite v) s = .next t ∧ t.get Reg.MAC.PROFILE.SEL = bitsAt v.toNat 0 2
      ∧ t.get Reg.MAC.PROFILE.LAST_WR = Status.done.code ∧ t.profile = s.profile
      ∧ t.get Reg.MAC.PROFILE.PENDING = bit (decide (bitsAt v.toNat 0 2 ≠ s.profile))
      ∧ Frame [] [Reg.MAC.PROFILE.SEL, Reg.MAC.PROFILE.PENDING, Reg.MAC.PROFILE.LAST_WR] [] s t)
  -- Thrift while a die's links exceed Evening, or its searches with W_EN the limit there: BAD_FIELD, SEL keeps its value
  ∧ (∀ (s : State) (v : BitVec 32) (f : Nat), s.hostUp = true → bitsAt v.toNat 0 2 = 2 → f < 6 → s.present f = true →
      (64 < s.wCount f ∨ ∃ k, k < 40 ∧ s.linkFits f k 2 = false) →
    ∃ t, exec (.profileWrite v) s = .next t ∧ t.get Reg.MAC.PROFILE.LAST_WR = Status.badField.code
      ∧ Frame [] [Reg.MAC.PROFILE.LAST_WR] [] s t)
  -- SEL 3 is illegal
  ∧ (∀ (s : State) (v : BitVec 32), s.hostUp = true → bitsAt v.toNat 0 2 = 3 →
    ∃ t, exec (.profileWrite v) s = .next t ∧ t.get Reg.MAC.PROFILE.LAST_WR = Status.badField.code
      ∧ t.safe.fault.valid = true ∧ Frame signalled [Reg.MAC.PROFILE.LAST_WR] alarmWords s t)
  -- NET_CFG_WRITE that sets EN with a sync word far enough from the others
  ∧ (∀ (s : State) (n : Fin 4) (v : BitVec 32) (w : Nat), s.hostUp = true → s.on (Reg.MAC.NET_CFG.EN n) = false →
      bitsAt v.toNat 0 1 = 1 → bitsAt v.toNat 3 3 ≤ 4 → w = s.get (Reg.MAC.NET_SYNC.SYNC n) → w ≠ 0 → w ≠ 0xFFFFFFFF →
      8 < hamming32 w 0x55555555 → 8 < hamming32 w 0xAAAAAAAA →
      (∀ m, m < 4 → m ≠ n.val → s.on (Reg.MAC.NET_CFG.EN m) = true →
        s.get (Reg.MAC.NET_CFG.CODESET m) = bitsAt v.toNat 1 2 →
        2 * bitsAt v.toNat 3 3 + 2 < hamming32 w (s.get (Reg.MAC.NET_SYNC.SYNC m))
        ∧ 2 * bitsAt v.toNat 3 3 + 2 < hamming32 w (0xFFFFFFFF - s.get (Reg.MAC.NET_SYNC.SYNC m))) →
    ∃ t, exec (.netCfgWrite n v) s = .next t ∧ t.get (Reg.MAC.NET_CFG.EN n) = 1
      ∧ t.get (Reg.MAC.NET_CFG.CODESET n) = bitsAt v.toNat 1 2 ∧ t.get (Reg.MAC.NET_CFG.SYNC_ERR n) = bitsAt v.toNat 3 3
      ∧ t.get (Reg.MAC.NET_CFG.NETID n) = bitsAt v.toNat 16 16
      ∧ Frame [] [Reg.MAC.NET_CFG.EN n, Reg.MAC.NET_CFG.CODESET n, Reg.MAC.NET_CFG.SYNC_ERR n, Reg.MAC.NET_CFG.NETID n]
          [] s t)
  -- a network that is on takes NETID, SYNC_ERR and EN
  ∧ (∀ (s : State) (n : Fin 4) (v : BitVec 32), s.hostUp = true → s.on (Reg.MAC.NET_CFG.EN n) = true →
      bitsAt v.toNat 3 3 ≤ 4 → bitsAt v.toNat 1 2 = s.get (Reg.MAC.NET_CFG.CODESET n) →
    ∃ t, exec (.netCfgWrite n v) s = .next t ∧ t.get (Reg.MAC.NET_CFG.EN n) = bitsAt v.toNat 0 1
      ∧ t.get (Reg.MAC.NET_CFG.NETID n) = bitsAt v.toNat 16 16 ∧ t.nets = s.nets
      ∧ Frame [] [Reg.MAC.NET_CFG.EN n, Reg.MAC.NET_CFG.CODESET n, Reg.MAC.NET_CFG.SYNC_ERR n, Reg.MAC.NET_CFG.NETID n]
          [] s t)
  -- illegal: a banned sync word, one too close to another network of the code set, CODESET while EN is 1, SYNC_ERR over 4
  ∧ (∀ (s : State) (n m : Fin 4) (v : BitVec 32) (w : Nat), s.hostUp = true → w = s.get (Reg.MAC.NET_SYNC.SYNC n) →
      (4 < bitsAt v.toNat 3 3
        ∨ (s.on (Reg.MAC.NET_CFG.EN n) = true ∧ bitsAt v.toNat 1 2 ≠ s.get (Reg.MAC.NET_CFG.CODESET n))
        ∨ (s.on (Reg.MAC.NET_CFG.EN n) = false ∧ bitsAt v.toNat 0 1 = 1
            ∧ (w = 0 ∨ w = 0xFFFFFFFF ∨ hamming32 w 0x55555555 ≤ 8 ∨ hamming32 w 0xAAAAAAAA ≤ 8
              ∨ (m ≠ n ∧ s.on (Reg.MAC.NET_CFG.EN m) = true ∧ s.get (Reg.MAC.NET_CFG.CODESET m) = bitsAt v.toNat 1 2
                  ∧ hamming32 w (s.get (Reg.MAC.NET_SYNC.SYNC m)) ≤ 2 * bitsAt v.toNat 3 3 + 2)))) →
    ∃ t, exec (.netCfgWrite n v) s = .next t ∧ t.safe.fault.valid = true
      ∧ Frame signalled [] alarmWords s t)

/-- Reads of registers by the host (R312, R313, R359, R361, R364, R366, R368). Where the spec leaves a point of it
open, the clause is the model's choice: log entries 20, 84, 86, 87, 88, 193. -/
def Obligations.RegisterReads : Prop :=
  -- STATISTIC_READ: the value completes through the function that asked
  (∀ (s : State) (func : Fin 2), s.functionUp func = true →
    exec (.statisticRead func ⟨.bar0, 0, 4⟩) s
      = .next (s.emit (.readDone func .bar0 0 (0xFA7A + s.part.variant.deviceId * 2 ^ 16)))
    ∧ exec (.statisticRead func ⟨.bar0, 0xC, 4⟩) s = .next (s.emit (.readDone func .bar0 0xC func)))
  ∧ (∀ (s : State) (func : Fin 2) (f : Fin 6), s.functionUp func = true → s.dieUp f = true →
    exec (.statisticRead func ⟨.bar0, dieOffset f 0x200108, 4⟩) s
      = .next (s.emit (.readDone func .bar0 (dieOffset f 0x200108) (s.stat (Reg.BCAST.FIB_GOOD f) % 2 ^ 32))))
  -- a statistic whose source fires once is armed again by its read
  ∧ (∀ (s : State) (func : Fin 2), s.functionUp func = true →
    ∃ x, exec (.statisticRead func ⟨.bar0, 0x180418, 4⟩) s
        = .next (State.emit x (.readDone func .bar0 0x180418 (s.stat Reg.MAC.ACK_LATE % 2 ^ 32)))
      ∧ 176 ∉ x.evt.disarmed ∧ (∀ j, j ≠ 176 → (j ∈ x.evt.disarmed ↔ j ∈ s.evt.disarmed)) ∧ Frame [.evt] [] [] s x)
  -- the capability list: ID, VER 1 and LEN 4; NEXT; BASE; PARAM
  ∧ (∀ (s : State) (func : Fin 2) (i id base param : Nat), s.functionUp func = true → s.caps[i]? = some (id, base, param) →
    exec (.statisticRead func ⟨.bar0, 0x100 + 16 * i, 4⟩) s
      = .next (s.emit (.readDone func .bar0 (0x100 + 16 * i) (id + 0x4010000)))
    ∧ exec (.statisticRead func ⟨.bar0, 0x104 + 16 * i, 4⟩) s = .next (s.emit (.readDone func .bar0 (0x104 + 16 * i)
        (if i + 1 < s.caps.length then 0x110 + 16 * i else 0)))
    ∧ exec (.statisticRead func ⟨.bar0, 0x108 + 16 * i, 4⟩) s = .next (s.emit (.readDone func .bar0 (0x108 + 16 * i) base))
    ∧ exec (.statisticRead func ⟨.bar0, 0x10C + 16 * i, 4⟩) s
      = .next (s.emit (.readDone func .bar0 (0x10C + 16 * i) param)))
  -- UNSUPPORTED_READ: another size, a misaligned access, a hole of BAR2, the window of an absent die: KIND 1
  ∧ (∀ (s : State) (func : Fin 2) (a : BusAccess), s.functionUp func = true → a.space ≠ .config →
      ((a.size ≠ 4 ∧ a.size ≠ 8) ∨ a.offset % 4 ≠ 0 ∨ (a.size = 8 ∧ a.offset % 8 ≠ 0)
        ∨ (a.space = .bar2 ∧ a.size = 4 ∧ (0x4000 ≤ a.offset ∧ a.offset < 0x8000 ∨ 0x9020 ≤ a.offset))
        ∨ (a.space = .bar0 ∧ a.size = 4 ∧ ∃ f, dieOfOffset a.offset = some f ∧ s.present f = false)) →
    exec (.unsupportedRead func a) s
      = .next ((s.accessFault a.offset .unimplemented false a.bar2).emit (.unsupported func a.space a.offset)))
  -- of configuration space 4 bytes at a time are read, nothing is reported
  ∧ (∀ (s : State) (func : Fin 2) (off n : Nat), s.functionUp func = true → (n ≠ 4 ∨ off % 4 ≠ 0 ∨ 4096 ≤ off) →
    exec (.unsupportedRead func ⟨.config, off, n⟩) s = .next (s.emit (.unsupported func .config off)))
  ∧ (∀ (s : State) (func : Fin 2), s.functionUp func = true →
    exec (.statisticRead func ⟨.config, 0, 4⟩) s
      = .next (s.emit (.readDone func .config 0 (s.cfgWord func 0 + (0xFA7A + s.part.variant.deviceId * 2 ^ 16)))))
  -- the window of a fenced die: KIND 2
  ∧ (∀ (s : State) (func : Fin 2) (off f : Nat), s.functionUp func = true → off % 4 = 0 → dieOfOffset off = some f →
      s.present f = true → s.dieFenced f = true →
    exec (.unsupportedRead func ⟨.bar0, off, 4⟩) s
      = .next ((s.accessFault off .locked false false).emit (.unsupported func .bar0 off)))
  -- what an access fault latches: the first one's offset, kind and direction; the later ones are counted
  ∧ (∀ (s : State) (off : Nat) (k : AccessKind) (w b : Bool), s.safe.fault.valid = false → 266 ∉ s.evt.disarmed →
    ∃ t, s.accessFault off k w b = t ∧ t.safe.fault = ⟨true, off, k, w, b, s.safe.fault.more⟩ ∧ t.pends 266
      ∧ 266 ∈ t.evt.disarmed ∧ Frame signalled [] alarmWords s t)
  ∧ (∀ (s : State) (off : Nat) (k : AccessKind) (w b : Bool), s.safe.fault.valid = true → 266 ∈ s.evt.disarmed →
    ∃ t, s.accessFault off k w b = t
      ∧ t.safe.fault = { s.safe.fault with more := min (s.safe.fault.more + 1) 0x7FFF } ∧ Frame [.safe] [] [] s t)
  -- the function of a fenced head answers nothing
  ∧ (∀ (s : State) (func : Fin 2) (a : BusAccess), s.functionUp func = false →
    exec (.statisticRead func a) s = .next s ∧ exec (.unsupportedRead func a) s = .next s)

/-- Writes of registers that have no row of their own, and what a rejoining die does with those recorded for it (R253,
R309, R313, R357, R359, R364 to R368). Where the spec leaves a point of it open, the clause is the model's choice: log
entries 85, 86, 87, 88, 90, 182, 193. -/
def Obligations.RegisterWrites : Prop :=
  -- a plain register: its fields as written, within their ranges
  (∀ (s : State) (func : Fin 2) (v : BitVec 64), s.functionUp func = true → bitsAt v.toNat 0 11 ≤ 2000 →
      bitsAt v.toNat 11 7 ≠ 0 →
    ∃ t, exec (.registerWrite func ⟨.bar0, 0x180030, 4⟩ v) s = .next t
      ∧ t.get Reg.MAC.GUARD_CFG.BASE_US = bitsAt v.toNat 0 11 ∧ t.get Reg.MAC.GUARD_CFG.DEF_PPM = bitsAt v.toNat 11 7
      ∧ t.get Reg.MAC.GUARD_CFG.MARGIN_PPM = bitsAt v.toNat 18 5
      ∧ Frame [] [Reg.MAC.GUARD_CFG.BASE_US, Reg.MAC.GUARD_CFG.DEF_PPM, Reg.MAC.GUARD_CFG.MARGIN_PPM] [] s t)
  ∧ (∀ (s : State) (func : Fin 2) (v : BitVec 64), s.functionUp func = true →
      (2000 < bitsAt v.toNat 0 11 ∨ bitsAt v.toNat 11 7 = 0) →
    ∃ t, exec (.registerWrite func ⟨.bar0, 0x180030, 4⟩ v) s = .next t ∧ t.safe.fault.valid = true
      ∧ (s.safe.fault.valid = false → t.safe.fault.offset = 0x180030 ∧ t.safe.fault.kind = .illegalValue)
      ∧ Frame signalled [] alarmWords s t)
  -- both words of a 64-bit register in one access, in a die's window: recorded there as well
  ∧ (∀ (s : State) (func : Fin 2) (f : Fin 6) (v : BitVec 64), s.functionUp func = true → s.dieUp f = true →
      bitsAt v.toNat 0 27 ≤ 95999999 →
    ∃ t, exec (.registerWrite func ⟨.bar0, dieOffset f 0x200010, 8⟩ v) s = .next t
      ∧ t.get (Reg.BCAST.TIMING.FRAME_OFS f) = bitsAt v.toNat 0 27
      ∧ t.get (Reg.BCAST.TIMING.PROP_NS f) = bitsAt v.toNat 32 20
      ∧ t.get (Reg.BCAST.TIMING.TAI_UTC f) = bitsAt v.toNat 52 8
      ∧ t.get (Reg.BCAST.TIMING.TAI_UTC_VALID f) = bitsAt v.toNat 63 1
      ∧ t.safe.dieWrites = s.safe.dieWrites ++ [(f.val, dieOffset f 0x200010, bitsAt v.toNat 0 32),
          (f.val, dieOffset f 0x200014, bitsAt v.toNat 32 32)]
      ∧ Frame [.safe] [Reg.BCAST.TIMING.FRAME_OFS f, Reg.BCAST.TIMING.PROP_NS f, Reg.BCAST.TIMING.TAI_UTC f,
          Reg.BCAST.TIMING.TAI_UTC_VALID f] [] s t)
  -- a register that is read only keeps its value
  ∧ (∀ (s : State) (func : Fin 2) (v : BitVec 64), s.functionUp func = true →
    exec (.registerWrite func ⟨.bar0, 0, 4⟩ v) s = .next s)
  -- GO starts an operation: NODE.CMD, CASK.CMD, DEMOD.HEAR_CMD
  ∧ (∀ (s : State) (func : Fin 2) (v : BitVec 64), s.functionUp func = true → s.on Reg.NODE.CMD.BUSY = false →
      bitsAt v.toNat 3 1 = 1 →
    ∃ t, exec (.registerWrite func ⟨.bar0, 0x140000, 4⟩ v) s = .next t ∧ t.get Reg.NODE.CMD.BUSY = 1
      ∧ t.node.op = some ⟨bitsAt v.toNat 0 3, s.get Reg.NODE.ARG.KEY, s.get Reg.NODE.ARG.INDEX, s.get Reg.NODE.DATA.ENTRY⟩
      ∧ Frame [.node] [Reg.NODE.CMD.OP, Reg.NODE.CMD.REJECTED, Reg.NODE.CMD.BUSY] [] s t)
  ∧ (∀ (s : State) (func : Fin 2) (v : BitVec 64), s.functionUp func = true → s.on Reg.NODE.CMD.BUSY = true →
      bitsAt v.toNat 3 1 = 1 →
    ∃ t, exec (.registerWrite func ⟨.bar0, 0x140000, 4⟩ v) s = .next t ∧ t.get Reg.NODE.CMD.REJECTED = 1
      ∧ Frame [] [Reg.NODE.CMD.REJECTED] [] s t)
  ∧ (∀ (s : State) (func : Fin 2) (v : BitVec 64), s.functionUp func = true → s.on Reg.CASK.CMD.BUSY = false →
      bitsAt v.toNat 3 1 = 1 →
    ∃ t, exec (.registerWrite func ⟨.bar0, 0x120100, 4⟩ v) s = .next t ∧ t.get Reg.CASK.CMD.BUSY = 1
      ∧ t.cask = { s.cask with op := some ⟨bitsAt v.toNat 0 3, s.get Reg.CASK.ARG.QUEUE, s.get Reg.CASK.ARG.CLASS,
          s.get Reg.CASK.ARG.ADDR⟩ }
      ∧ Frame [.cask] [Reg.CASK.CMD.OP, Reg.CASK.CMD.BUSY] [] s t)
  ∧ (∀ (s : State) (func : Fin 2) (f : Fin 6) (v : BitVec 64), s.functionUp func = true → s.dieUp f = true →
      s.on (Reg.DEMOD.HEAR_CMD.BUSY f) = false → bitsAt v.toNat 2 1 = 1 →
    ∃ t, exec (.registerWrite func ⟨.bar0, dieOffset f 0x182000, 4⟩ v) s = .next t
      ∧ t.get (Reg.DEMOD.HEAR_CMD.BUSY f) = 1 ∧ t.get (Reg.DEMOD.HEAR_CMD.OP f) = bitsAt v.toNat 0 2
      ∧ t.get (Reg.DEMOD.HEAR_CMD.INDEX f) = bitsAt v.toNat 12 18
      ∧ Tbl.find? t.air.hearOps f
        = some ⟨bitsAt v.toNat 0 2, bitsAt v.toNat 12 18, s.get (Reg.DEMOD.HEAR_ADDR.ADDR f), false⟩
      ∧ Frame [.safe, .air] [Reg.DEMOD.HEAR_CMD.OP f, Reg.DEMOD.HEAR_CMD.INDEX f, Reg.DEMOD.HEAR_CMD.BUSY f] [] s t)
  ∧ (∀ (s : State) (func : Fin 2) (f : Fin 6) (v : BitVec 64), s.functionUp func = true → s.dieUp f = true →
      s.on (Reg.DEMOD.HEAR_CMD.BUSY f) = true → bitsAt v.toNat 2 1 = 1 →
    ∃ t, exec (.registerWrite func ⟨.bar0, dieOffset f 0x182000, 4⟩ v) s = .next t ∧ Frame [.safe] [] [] s t)
  -- the policy data region: the bytes of the head's shared memory, no other
  ∧ (∀ (s : State) (func : Fin 2) (off : Nat) (v : BitVec 64), s.functionUp func = true → 0x300000 ≤ off → off < 0x380000 →
      off % 4 = 0 →
    ∃ t, exec (.registerWrite func ⟨.bar0, off, 4⟩ v) s = .next t
      ∧ (∀ i, i < 4 → t.headShared.read (policyAddr off + i) = BitVec.ofNat 8 (v.toNat / 256 ^ i))
      ∧ (∀ a, (a < policyAddr off ∨ policyAddr off + 4 ≤ a) → t.headShared.read a = s.headShared.read a)
      ∧ t.tun = { s.tun with shared := t.tun.shared } ∧ Frame [.tun] [] [] s t)
  -- BAR2: KICK, a vector masked, a vector unmasked with its pending bit set
  ∧ (∀ (s : State) (func : Fin 2) (n : Fin 4096) (v : BitVec 64), s.functionUp func = true →
    exec (.registerWrite func ⟨.bar2, 4 * n.val, 4⟩ v) s = exec (.kick func n (BitVec.ofNat 32 v.toNat)) s)
  ∧ (∀ (s : State) (func : Fin 2) (x : Fin 256) (v : BitVec 64), s.functionUp func = true → bitsAt v.toNat 0 1 = 1 →
    ∃ t, exec (.registerWrite func ⟨.bar2, 0x800C + 16 * x.val, 4⟩ v) s = .next t
      ∧ t.msixWord func (4 * x.val + 3) = 1 ∧ t.evt = { s.evt with msixTable := t.evt.msixTable } ∧ Frame [.evt] [] [] s t)
  ∧ (∀ (s : State) (func : Fin 2) (x : Fin 256) (v : BitVec 64), s.functionUp func = true → bitsAt v.toNat 0 1 = 0 →
      func.val = s.active → 256 * func.val + x.val ∈ s.evt.pba → x.val ∉ s.evt.holding →
      s.get (Reg.EVT.VEC.HOLDOFF_US x) = 0 →
    ∃ y, exec (.registerWrite func ⟨.bar2, 0x800C + 16 * x.val, 4⟩ v) s = .next (State.emit y (.msix func x
        (s.msixWord func (4 * x.val + 1) * 2 ^ 32 + s.msixWord func (4 * x.val)) (s.msixWord func (4 * x.val + 2))))
      ∧ 256 * func.val + x.val ∉ y.evt.pba ∧ y.msixWord func (4 * x.val + 3) = 0 ∧ Frame [.evt] [] [] s y)
  -- within the holdoff its message waits; a function that is not the active head's sends none
  ∧ (∀ (s : State) (func : Fin 2) (x : Fin 256) (v : BitVec 64), s.functionUp func = true → bitsAt v.toNat 0 1 = 0 →
      func.val = s.active → 256 * func.val + x.val ∈ s.evt.pba → x.val ∈ s.evt.holding →
    ∃ t, exec (.registerWrite func ⟨.bar2, 0x800C + 16 * x.val, 4⟩ v) s = .next t ∧ x.val ∈ t.evt.waiting
      ∧ 256 * func.val + x.val ∉ t.evt.pba ∧ t.msixWord func (4 * x.val + 3) = 0 ∧ Frame [.evt] [] [] s t)
  ∧ (∀ (s : State) (func : Fin 2) (x : Fin 256) (v : BitVec 64), s.functionUp func = true → bitsAt v.toNat 0 1 = 0 →
      func.val ≠ s.active →
    ∃ t, exec (.registerWrite func ⟨.bar2, 0x800C + 16 * x.val, 4⟩ v) s = .next t
      ∧ t.msixWord func (4 * x.val + 3) = 0 ∧ t.evt = { s.evt with msixTable := t.evt.msixTable } ∧ Frame [.evt] [] [] s t)
  -- configuration space: the Command register holds its two enables, no other bit
  ∧ (∀ (s : State) (func : Fin 2) (v : BitVec 64), s.functionUp func = true →
    ∃ t, exec (.registerWrite func ⟨.config, 4, 4⟩ v) s = .next t ∧ t.cfgWord func 1 = v.toNat % 2 ^ 32 &&& 6
      ∧ (∀ h w, h < 2 → w < 1024 → (h ≠ func ∨ w ≠ 1) → t.cfgWord h w = s.cfgWord h w)
      ∧ t.rings = { s.rings with cfg := t.rings.cfg } ∧ Frame [.rings] [] [] s t)
  -- an unimplemented offset: dropped and reported
  ∧ (∀ (s : State) (func : Fin 2) (a : BusAccess) (v : BitVec 64), s.functionUp func = true → a.space ≠ .config →
      ((a.size ≠ 4 ∧ a.size ≠ 8) ∨ a.offset % 4 ≠ 0
        ∨ (a.space = .bar0 ∧ a.size = 4 ∧ ∃ f, dieOfOffset a.offset = some f ∧ s.present f = false)) →
    exec (.registerWrite func a v) s = .next (s.accessFault a.offset .unimplemented true a.bar2))
  -- the window of a fenced die: only recorded
  ∧ (∀ (s : State) (func : Fin 2) (off f : Nat) (v : BitVec 64), s.functionUp func = true → off % 4 = 0 →
      dieOfOffset off = some f → s.present f = true → s.dieFenced f = true →
    ∃ t, exec (.registerWrite func ⟨.bar0, off, 4⟩ v) s = .next t
      ∧ t.safe = { s.safe with dieWrites := s.safe.dieWrites ++ [(f, off, bitsAt v.toNat 0 32)] }
      ∧ Frame [.safe] [] [] s t)
  -- FDIE_REJOIN_DONE: the window is as at reset, its BLANK pins as driven; the fence is gone; source 262
  ∧ (∀ (s : State) (f : Fin 6), s.live = true → s.present f = true → s.dieFenced f = true →
      s.on (Reg.SAFE.FDIE.REJOIN f) = true → Tbl.has s.safe.selftests f = false → (∀ w ∈ s.safe.dieWrites, w.1 ≠ f.val) →
    ∃ t, exec (.fdieRejoinDone f) s = .next t ∧ t.dieUp f = true ∧ t.get (Reg.SAFE.FDIE.REJOIN f) = 0
      ∧ t.get (Reg.SAFE.FDIE.DEGRADED f) = 0 ∧ t.pends 262
      ∧ (∀ g : Fld, dieOffset f 0 ≤ g.key / 8 → g.key / 8 < dieOffset f 0x400000 →
          g.key ≠ (Reg.FRF.BLANK_CTL.LEVEL f).key → g.key ≠ (Reg.FRF.BLANK_CTL.POL f).key → t.get g = g.rst ∧ t.stat g = 0)
      ∧ (∀ g : Fld, (g.key / 8 < dieOffset f 0 ∨ dieOffset f 0x400000 ≤ g.key / 8) →
          g.key ≠ (Reg.SAFE.FDIE.FENCED f).key → g.key ≠ (Reg.SAFE.FDIE.REJOIN f).key →
          g.key ≠ (Reg.SAFE.FDIE.DEGRADED f).key → t.get g = s.get g)
      ∧ ∀ c, c ∉ [.air, .clk, .bcast, .hear, .tun, .evt, .rings, .eth, .safe, .out] → Component.Same s t c)
  -- the writes recorded for it are applied
  ∧ (∀ (s : State) (f : Fin 6) (khz : Nat), s.live = true → s.present f = true → s.dieFenced f = true →
      s.on (Reg.SAFE.FDIE.REJOIN f) = true → Tbl.has s.safe.selftests f = false → 65000 ≤ khz → khz ≤ 240000 →
      s.safe.dieWrites.filter (fun w => w.1 = f.val) = [(f.val, dieOffset f 0x200004, khz)] →
    ∃ t, exec (.fdieRejoinDone f) s = .next t ∧ t.get (Reg.BCAST.TUNE.FREQ_KHZ f) = khz ∧ t.dieUp f = true ∧ t.pends 262)

/-- One step takes the command at the front of the queue and executes it on the state with the queue's rest; on an empty
queue the block idles (log entry 1: the model's choice). -/
def Obligations.StepRunsFront : Prop :=
  (∀ (s : State) (c : Instr) (l : List Instr), s.pending = c :: l → step s = exec c { s with pending := l })
  ∧ (∀ s : State, s.pending = [] → step s = .next s)

/-- What reset leaves, of the values the register tables and R48, R52, R268 and R343 give. Where the spec leaves a
point of it open, the clause is the model's choice: log entries 2, 3, 6, 7. -/
def Obligations.ResetValues : Prop :=
  State.reset.time.sec = 1767225600 ∧ State.reset.time.ns = 0 ∧ State.reset.quality = 3 ∧ State.reset.kilnState = 0
  ∧ State.reset.evt.pend = 0 ∧ State.reset.get Reg.MAC.PROFILE.SEL = 0 ∧ State.reset.profile = 0
  ∧ State.reset.get Reg.TIME.REF_PRIO.PPS_RANK = 1 ∧ State.reset.get Reg.TIME.REF_PRIO.PTP_RANK = 2
  ∧ State.reset.get Reg.TIME.REF_PRIO.DAB_RANK = 3 ∧ State.reset.get Reg.TIME.REF_PRIO.FM_RANK = 4
  ∧ State.reset.get Reg.MAC.GUARD_CFG.BASE_US = 200 ∧ State.reset.get Reg.MAC.GUARD_CFG.DEF_PPM = 40
  ∧ (∀ f : Nat, f < 6 → State.reset.get (Reg.BCAST.TUNE.FREQ_KHZ f) = 88600 ∧ State.reset.get (Reg.BCAST.CTL.INTERVAL f) = 10)
  ∧ (∀ n : Fin 4096, State.reset.get (Reg.RING.CTL.EN n) = 0)
  ∧ (∀ k : Nat, k < 8 → (State.reset.core k).g = List.replicate 16 0 ∧ (State.reset.core k).ie = false
      ∧ (State.reset.core k).evec = 0x100)
  ∧ State.reset.live = false ∧ State.reset.hostUp = false

/-- The capability list (R361, R362): its entries on each variant, and the words of R363's example on a WXB4. Where
the spec leaves a point of it open, the clause is the model's choice: log entry 2. -/
def Obligations.CapabilityList : Prop :=
  (∀ s : State, s.caps.length = 16 + 3 * s.part.variant.fieldDies)
  ∧ (∀ (s : State) (i j : Nat) (a b : Nat × Nat × Nat), i < j → s.caps[i]? = some a → s.caps[j]? = some b →
      a.1 < b.1 ∨ (a.1 = b.1 ∧ a.2.1 < b.2.1))
  ∧ (∀ (s : State) (f : Nat), f < s.part.variant.fieldDies → (0x10, 0x1000000 + f * 0x400000, f + 40 * 8 + 8 * 512) ∈ s.caps)
  ∧ (∀ s : State, s.part.variant = .wxb4 →
    s.capWord 0x100 = some 0x04010001 ∧ s.capWord 0x104 = some 0x110 ∧ s.capWord 0x108 = some 0 ∧ s.capWord 0x10C = some 0xF
    ∧ s.capWord 0x1A0 = some 0x0401000B ∧ s.capWord 0x1A4 = some 0x1B0 ∧ s.capWord 0x1A8 = some 0x280000
    ∧ s.capWord 0x1AC = some 2 ∧ s.capWord 0x1E0 = some 0x04010010 ∧ s.capWord 0x1E4 = some 0x1F0
    ∧ s.capWord 0x1E8 = some 0x1000000 ∧ s.capWord 0x1EC = some 0x1140 ∧ s.capWord 0x1F8 = some 0x1400000
    ∧ s.capWord 0x1FC = some 0x1141 ∧ s.capWord 0x250 = some 0x04010014 ∧ s.capWord 0x254 = some 0
    ∧ s.capWord 0x258 = some 0x1A0000 ∧ s.capWord 0x25C = some 0x11 ∧ s.capWord 0x260 = none)
  ∧ (∀ s : State, s.part.variant = .wxb2 → s.capWord 0x22C = some 0x10)

/-- Every command whose operands have their shape is executed; the one exception is a Tun core in mode F that accesses
its die control space, a device without a stated behaviour (R341). A command of another shape does not exist. Where
the spec leaves a point of it open, the clause is the model's choice: log entries 10, 11, 143. -/
def Obligations.EveryCommandCompletes : Prop :=
  (∀ (c : Instr) (s : State), c.wf = true → (∃ t, exec c s = .next t) ∨ exec c s = .refused .controlSpace)
  ∧ (∀ (c : Instr) (s : State), c.wf = false → exec c s = .refused .illFormed)
  ∧ (∀ (c : Instr) (s : State), exec c s = .refused .controlSpace → ∃ k : TunCore, policyMode k = false ∧ s.executes k = true)

/-- A host access has no effect before BOOT_RDY, nor once Night entry has committed (R323, R326, R359). Where the spec
leaves a point of it open, the clause is the model's choice: log entry 10. -/
def Obligations.HostAccessNeedsBootRdy : Prop :=
  (∀ (c : Instr) (s : State), fromHost c = true → c.wf = true → s.hostUp = false → exec c s = .next s)
  ∧ (∀ s : State, s.hostUp = true ↔ s.power.phase = .running ∨ s.power.phase = .quiescing)

/-- R67: the capture register of a channel. -/
def Obligations.CaptureRegister : Prop :=
  -- on the selected edge COUNT is stored and CAP_VALID set; over a value not read, OVERRUN is set
  (∀ (s : State) (k : Fin 32) (e : Fin 8), s.logicUp = true → s.on (Reg.TIMERS.CH_CTL.CAP_EN k) = true →
      s.get (Reg.TIMERS.CH_CTL.CAP_SEL k) = e.val → e.val < 6 → s.cascadeOdd k = false → s.cascadeEven k = false →
      s.get (Reg.TIMERS.COUNT k) < 2 ^ 32 →
    ∃ t, exec (.timerCapture k e) s = .next t ∧ t.get (Reg.TIMERS.CAPTURE k) = s.get (Reg.TIMERS.COUNT k)
      ∧ t.get (Reg.TIMERS.CH_STATUS.CAP_VALID k) = 1
      ∧ t.get (Reg.TIMERS.CH_STATUS.OVERRUN k) = (if s.on (Reg.TIMERS.CH_STATUS.CAP_VALID k) = true then 1
          else s.get (Reg.TIMERS.CH_STATUS.OVERRUN k))
      ∧ Frame signalled [Reg.TIMERS.CH_STATUS.CAP_VALID k, Reg.TIMERS.CH_STATUS.OVERRUN k, Reg.TIMERS.CAPTURE k]
          alarmWords s t)
  -- another edge stores nothing
  ∧ (∀ (s : State) (k : Fin 32) (e : Fin 8), s.get (Reg.TIMERS.CH_CTL.CAP_SEL k) ≠ e.val →
    exec (.timerCapture k e) s = .next s)
  -- a cascaded pair captures both halves at once
  ∧ (∀ (s : State) (k : Fin 32) (e : Fin 8), s.logicUp = true → s.on (Reg.TIMERS.CH_CTL.CAP_EN k) = true →
      s.get (Reg.TIMERS.CH_CTL.CAP_SEL k) = e.val → e.val < 6 → s.cascadeEven k = true → s.get (Reg.TIMERS.COUNT k) < 2 ^ 32 →
    ∃ t, exec (.timerCapture k e) s = .next t ∧ t.get (Reg.TIMERS.CAPTURE k) = s.get (Reg.TIMERS.COUNT k)
      ∧ t.get (Reg.TIMERS.CAPTURE (k.val + 1)) = s.oddCount (k.val + 1))
  -- a read returns the value and clears CAP_VALID
  ∧ (∀ (s : State) (func : Fin 2) (k : Fin 32), s.functionUp func = true →
    ∃ x, exec (.captureRead func k false) s
        = .next (State.readDone x func (0x40110 + k * 0x20) (s.get (Reg.TIMERS.CAPTURE k)))
      ∧ x.get (Reg.TIMERS.CH_STATUS.CAP_VALID k) = 0 ∧ Frame [] [Reg.TIMERS.CH_STATUS.CAP_VALID k] [] s x)
  -- an edge in the cycle of the read: the read returns the old value, the new one stands, without OVERRUN
  ∧ (∀ (s : State) (func : Fin 2) (k : Fin 32), s.functionUp func = true → s.on (Reg.TIMERS.CH_CTL.CAP_EN k) = true →
      s.cascadeOdd k = false → s.cascadeEven k = false → s.get (Reg.TIMERS.COUNT k) < 2 ^ 32 →
    ∃ x, exec (.captureRead func k true) s
        = .next (State.readDone x func (0x40110 + k * 0x20) (s.get (Reg.TIMERS.CAPTURE k)))
      ∧ x.get (Reg.TIMERS.CAPTURE k) = s.get (Reg.TIMERS.COUNT k) ∧ x.get (Reg.TIMERS.CH_STATUS.CAP_VALID k) = 1
      ∧ x.get (Reg.TIMERS.CH_STATUS.OVERRUN k) = s.get (Reg.TIMERS.CH_STATUS.OVERRUN k))

/-- R325: start-up faults and the wakes that follow them. -/
def Obligations.StartUpFaults : Prop :=
  -- a step that times out counts a fault; the third begins the wait for WAKE_N high
  (∀ (s : State) (n : Nat), s.power.phase = .railUp n →
    ∃ t, exec .startUpTimeout s = .next t ∧ t.watch.faults = min 3 (s.watch.faults + 1) ∧ t.watch.entry = 0x10 + n
      ∧ (2 ≤ s.watch.faults → t.watch.seenHigh = false) ∧ t.watch.capWakeN = s.watch.wakeNEn
      ∧ t.power.phase = .powerDown (highestOn s.power.pwrEn) ∧ Frame [.power, .watch] [] [] s t)
  -- after three WAKE_N has no effect until it has been seen high
  ∧ (∀ s : State, s.power.phase = .night → s.watch.faults = 3 → s.watch.seenHigh = false → exec .wakeN s = .next s)
  ∧ (∀ s : State, s.power.phase = .night → s.watch.faults = 3 →
    ∃ x, exec .wakeNHigh s = .next x ∧ Frame [.watch] [] [] s x
      ∧ (s.watch.capWakeN = true → ∃ t, exec .wakeN x = .next t ∧ t.power.phase = .railUp 0 ∧ t.watch.wake = 2))
  -- fewer leave it as it is
  ∧ (∀ s : State, s.power.phase = .night → s.watch.faults < 3 → s.watch.capWakeN = true →
    ∃ t, exec .wakeN s = .next t ∧ t.power.phase = .railUp 0 ∧ t.watch.wake = 2 ∧ t.watch.faults = s.watch.faults)
  -- an address match wakes the part whatever the count
  ∧ (∀ (s : State) (b : BitVec 8), s.power.phase = .night → s.watch.capWs = true →
      b.toNat / 2 = 0b10110 * 4 + s.watch.wsAddr.toNat →
    ∃ t, exec (.addressMatch b true) s = .next t ∧ t.power.phase = .railUp 0 ∧ t.watch.wake = 1)
  -- BOOT_RDY clears the count
  ∧ (∀ (s : State) (p : Nat), s.bootable = true → p ≤ 10 → ∃ t, exec (.bootRdy p) s = .next t ∧ t.watch.faults = 0)

/-- R297: what zeroisation overwrites, and what it keeps. -/
def Obligations.Zeroisation : Prop :=
  ∀ s : State, ∃ t, s.zeroise = t ∧ t.kiln.root = none ∧ t.kiln.slots = [] ∧ t.kiln.cache = [] ∧ t.kiln.update = none
    ∧ t.kiln.drbg = none ∧ t.kiln.gens = 0 ∧ (∀ p ∈ t.rx.groups, ∀ key, p.2.key ≠ some (.scratch key))
    ∧ t.kiln.counters = s.kiln.counters ∧ t.get Reg.KILN.DL_HIGH.HIGH = s.get Reg.KILN.DL_HIGH.HIGH
    ∧ t.otp = { s.otp with zeroisations := s.otp.zeroisations + 1 } ∧ Frame [.kiln, .otp, .rx] [] [] s t

/-- No command changes the part's identity or writes the queue of commands. Where the spec leaves a point of it open,
the clause is the model's choice: log entry 1. -/
def Obligations.QueueUntouched : Prop :=
  ∀ (c : Instr) (s t : State), exec c s = .next t → t.pending = s.pending ∧ t.part = s.part

/-- Every step keeps the part's identity and its capability list, word for word (R361: the list is fixed; fencing,
levels, profiles and Dusk do not change it), and takes at most the command at the front of the queue. Where the spec
leaves a point of it open, the clause is the model's choice: log entries 1, 2. -/
def Obligations.CapabilitiesFixed : Prop :=
  ∀ (s t : State) (l : List (Nat × Nat × Nat)), s.caps = l → step s = .next t →
    t.caps = l ∧ t.part = s.part ∧ t.pending = s.pending.tail ∧ (∀ off, t.capWord off = s.capWord off)
    ∧ (∀ f, t.present f = s.present f)

/-- What the commands that report and acknowledge do wherever they act, and KEY_UPDATE with its next state written out
(R253, R286, R310, R311, R312, R314). Where the spec leaves a point of it open, the clause is the model's choice: log
entries 84, 102, 103, 130. -/
def Obligations.ReportsAndAcknowledgements : Prop :=
  -- MSIX_HOLDOFF_END ends the vector's span; a waiting signal sends its message, which begins a new span, or sets the
  -- pending bit while the vector is masked
  (∀ (s : State) (v : Fin 256), s.logicUp = true → v.val ∈ s.evt.holding →
    ∃ t, exec (.msixHoldoffEnd v) s = .next t ∧ v.val ∉ t.evt.waiting
      ∧ (v.val ∈ t.evt.holding ↔ v.val ∈ s.evt.waiting ∧ s.msixWord s.active (4 * v.val + 3) % 2 = 0
          ∧ s.get (Reg.EVT.VEC.HOLDOFF_US v) ≠ 0)
      ∧ (256 * s.active + v.val ∈ t.evt.pba ↔ 256 * s.active + v.val ∈ s.evt.pba
          ∨ (v.val ∈ s.evt.waiting ∧ s.msixWord s.active (4 * v.val + 3) % 2 = 1))
      ∧ (∀ w : Nat, w ≠ v.val → (w ∈ t.evt.holding ↔ w ∈ s.evt.holding) ∧ (w ∈ t.evt.waiting ↔ w ∈ s.evt.waiting))
      ∧ Frame [.evt, .safe, .out] [] [] s t)
  -- EVT_PEND_CLEAR: a bit written 1 clears unless its source fires in the same cycle; every other bit stays
  ∧ (∀ (s : State) (j : Fin 16) (v firing : BitVec 32), s.hostUp = true → s.eventWord j = true →
    ∃ t, exec (.evtPendClear j v firing) s = .next t
      ∧ (∀ b, b < 32 → firing.getLsbD b = true → t.pends (32 * j.val + b))
      ∧ (∀ k, s.pends k → (k / 32 ≠ j.val ∨ v.getLsbD (k % 32) = false) → t.pends k)
      ∧ (firing = 0 → ∀ b, b < 32 → v.getLsbD b = true → t.evt.pend.getLsbD (32 * j.val + b) = false)
      ∧ Frame signalled [] alarmWords s t)
  -- ERROR_LOG completes whatever was detected
  ∧ (∀ (s : State) (es : List HwError), s.live = true → es ≠ [] →
    ∃ t, exec (.errorLog es) s = .next t ∧ t.safe.thisCycle = [])
  -- corrected errors of one HCLK cycle: each takes a sequence number, source 263
  ∧ (∀ (s : State) (es : List (Fin 8 × BitVec 12 × BitVec 64 × BitVec 32)), s.live = true → es ≠ [] →
      (es.all fun e => s.unitThere (e.1 * 4096 + e.2.1.toNat)) = true →
    ∃ t, exec (.errorLog (es.map fun e => .ofUnit e.1 e.2.1 false e.2.2.1 e.2.2.2)) s = .next t ∧ t.pends 263
      ∧ t.safe.nextSeq = (s.safe.nextSeq + es.length) % 2 ^ 32 ∧ t.safe.thisCycle = []
      ∧ Frame signalled logFields alarmWords s t)
  -- LOG_ACK frees the entry of that sequence number, no other
  ∧ (∀ (s : State) (v : BitVec 32), s.hostUp = true →
    ∃ t, exec (.logAck v) s = .next t ∧ (∀ p, p ∈ t.safe.log ↔ p ∈ s.safe.log ∧ p.2.seq ≠ v.toNat)
      ∧ t.get Reg.SAFE.LOG_CTL.IN_USE = t.safe.log.length % 2 ^ 7 ∧ Frame [.safe] [Reg.SAFE.LOG_CTL.IN_USE] [] s t)
  -- FAULT_CAUSE_CLEAR: MASK, and the causes named whose condition has ended; FAULT_N follows
  ∧ (∀ (s : State) (v : BitVec 32), s.hostUp = true →
    ∃ t, exec (.faultCauseClear v) s = .next t ∧ t.get Reg.SAFE.FAULT_CTL.MASK = 16 + bitsAt v.toNat 0 4
      ∧ (∀ k, k < 5 → (bitsAt (t.get Reg.SAFE.FAULT_CTL.CAUSE) k 1 = 1 ↔ bitsAt (s.get Reg.SAFE.FAULT_CTL.CAUSE) k 1 = 1
          ∧ (bitsAt v.toNat (8 + k) 1 = 0 ∨ s.causeStands k = true)))
      ∧ (t.faultN = true ↔ s.watch.tripLow = true ∨ ∃ k, k < 4 ∧ bitsAt (t.get Reg.SAFE.FAULT_CTL.CAUSE) k 1 = 1
          ∧ bitsAt v.toNat k 1 = 1)
      ∧ Frame [] [Reg.SAFE.FAULT_CTL.MASK, Reg.SAFE.FAULT_CTL.CAUSE] [] s t)
  -- KEY_UPDATE: a message that passes is the pending update, the blob set after it goes to the output buffer
  ∧ (∀ (s x : State) (n : Fin 4096) (d data m : List Byte), Instr.wf (.keyUpdate n d (some data)) = true →
      s.kilnTakes n .plain = true → 400 ≤ kInLen d → kInLen d ≤ 1888 →
      (s.passDescriptor n).firstBad false (leAt d 8 8) (kInLen d) = none → m = sliceB data 0 (kInLen d) →
      x = (s.passDescriptor n).dmaRead (leAt d 8 8) (kInLen d) →
    exec (.keyUpdate n d (some data)) s = .next (match (x.updateChecks m).find? (·.1) with
      | some p => x.complete (s.cmdRef n d) p.2 0
      | none => match (x.updateKek m).bind fun kek => unwrapAll kek (keyRecords m 256 (beAt m 5 1)) with
        | none => x.complete (s.cmdRef n d) .authFail 0
        | some l =>
          if leAt d 28 4 < (x.blobSet (beAt m 24 2) (installed x.kiln.slots l)).length then
            x.complete (s.cmdRef n d) .badLength 0
          else match x.firstBad true (leAt d 20 8) (x.blobSet (beAt m 24 2) (installed x.kiln.slots l)).length with
            | some a => (x.halt n .badAddress a).complete (s.cmdRef n d) .badAddress 0
            | none => ((x.setKiln { x.kiln with update := some ⟨beAt m 24 2, l⟩ }).dmaWrite (leAt d 20 8)
                (x.blobSet (beAt m 24 2) (installed x.kiln.slots l))).complete (s.cmdRef n d) .done
                  (x.blobSet (beAt m 24 2) (installed x.kiln.slots l)).length))

end
end

