-- ==== Sys2Proof/Laws/Maps.lean ====
section
/-! SUPPORT. The laws of sparse tables and byte memories: what a put, an erasure and a byte write leave to read, and that
they keep the canonical form. -/

namespace Sys2Proof.Machine

variable {α : Type}

@[simp] theorem Tbl.find?_nil (i : Nat) : Tbl.find? ([] : Tbl α) i = none := rfl

theorem Tbl.find?_cons (k : Nat) (v : α) (m : Tbl α) (i : Nat) :
    Tbl.find? ((k, v) :: m) i = if k = i then some v else Tbl.find? m i := rfl

/-- A key below the head of a table in order is not in its tail. -/
theorem Tbl.wf_cons {k : Nat} {v : α} {m : Tbl α} :
    Tbl.wf ((k, v) :: m) = true ↔ (∀ p ∈ m, k < p.1) ∧ Tbl.wf m = true := by
  induction m generalizing k v with
  | nil => simp [Tbl.wf]
  | cons q m ih =>
    obtain ⟨k', v'⟩ := q
    simp only [Tbl.wf, Bool.and_eq_true, decide_eq_true_eq, List.mem_cons, forall_eq_or_imp]
    rw [ih]
    constructor
    · rintro ⟨h, h1, h2⟩
      exact ⟨⟨h, fun p hp => h.trans (h1 p hp)⟩, h1, h2⟩
    · rintro ⟨⟨h, _⟩, h1, h2⟩
      exact ⟨h, h1, h2⟩

/-- What a put leaves at every key, whatever the table's order. -/
@[simp] theorem Tbl.find?_put (m : Tbl α) (i : Nat) (a : α) (j : Nat) :
    Tbl.find? (Tbl.put m i a) j = if i = j then some a else Tbl.find? m j := by
  induction m with
  | nil => simp [Tbl.put, Tbl.find?]
  | cons p m ih =>
    obtain ⟨k, v⟩ := p
    simp only [Tbl.put]
    split
    · simp [Tbl.find?]
    · split
      · subst_vars; simp only [Tbl.find?]; split <;> rfl
      · simp only [Tbl.find?, ih]; split_ifs <;> simp_all

@[simp] theorem Tbl.getD_put (m : Tbl α) (i : Nat) (a : α) (j : Nat) (d : α) :
    Tbl.getD (Tbl.put m i a) j d = if i = j then a else Tbl.getD m j d := by
  simp only [Tbl.getD, Tbl.find?_put]; split <;> rfl

/-- What an erasure leaves at every key. -/
@[simp] theorem Tbl.find?_erase (m : Tbl α) (i j : Nat) :
    Tbl.find? (Tbl.erase m i) j = if i = j then none else Tbl.find? m j := by
  induction m with
  | nil => simp [Tbl.erase, Tbl.find?]
  | cons p m ih =>
    obtain ⟨k, v⟩ := p
    simp only [Tbl.erase] at ih ⊢
    simp only [List.filter_cons, ne_eq, decide_not]
    by_cases hk : k = i
    · subst hk; simp only [decide_true, Bool.not_true, Bool.false_eq_true, if_false]
      simp only [ne_eq, decide_not] at ih
      rw [ih]; simp only [Tbl.find?]; split <;> rfl
    · simp only [hk, decide_false, Bool.not_false, if_true, Tbl.find?]
      simp only [ne_eq, decide_not] at ih
      rw [ih]; split_ifs <;> simp_all

@[simp] theorem Tbl.getD_erase (m : Tbl α) (i j : Nat) (d : α) :
    Tbl.getD (Tbl.erase m i) j d = if i = j then d else Tbl.getD m j d := by
  simp only [Tbl.getD, Tbl.find?_erase]; split <;> rfl

theorem Tbl.mem_put {m : Tbl α} {i : Nat} {a : α} {p : Nat × α} (h : p ∈ Tbl.put m i a) : p = (i, a) ∨ p ∈ m := by
  induction m with
  | nil => simpa [Tbl.put] using h
  | cons q m ih =>
    obtain ⟨k, v⟩ := q
    simp only [Tbl.put] at h
    split_ifs at h with h1 h2
    · simpa using h
    · simp only [List.mem_cons] at h ⊢; tauto
    · simp only [List.mem_cons] at h ⊢
      rcases h with h | h
      · exact .inr (.inl h)
      · rcases ih h with h | h <;> tauto

/-- A put keeps the canonical form. -/
theorem Tbl.wf_put {m : Tbl α} (h : Tbl.wf m = true) (i : Nat) (a : α) : Tbl.wf (Tbl.put m i a) = true := by
  induction m with
  | nil => rfl
  | cons q m ih =>
    obtain ⟨k, v⟩ := q
    rw [Tbl.wf_cons] at h
    simp only [Tbl.put]
    split_ifs with h1 h2
    · rw [Tbl.wf_cons, Tbl.wf_cons]
      refine ⟨fun p hp => ?_, h⟩
      rcases List.mem_cons.1 hp with rfl | hp
      · exact h1
      · exact h1.trans (h.1 p hp)
    · subst h2; rw [Tbl.wf_cons]; exact h
    · rw [Tbl.wf_cons]
      refine ⟨fun p hp => ?_, ih h.2⟩
      rcases Tbl.mem_put hp with rfl | hp
      · simp only; omega
      · exact h.1 p hp

/-- A filter keeps the canonical form. -/
theorem Tbl.wf_filter {m : Tbl α} (h : Tbl.wf m = true) (f : Nat × α → Bool) : Tbl.wf (List.filter f m) = true := by
  induction m with
  | nil => rfl
  | cons q m ih =>
    obtain ⟨k, v⟩ := q
    rw [Tbl.wf_cons] at h
    rw [List.filter_cons]
    split_ifs
    · rw [Tbl.wf_cons]
      exact ⟨fun p hp => h.1 p (List.mem_of_mem_filter hp), ih h.2⟩
    · exact ih h.2

/-- An erasure keeps the canonical form. -/
theorem Tbl.wf_erase {m : Tbl α} (h : Tbl.wf m = true) (i : Nat) : Tbl.wf (Tbl.erase m i) = true := Tbl.wf_filter h _

/-- Tables in canonical form that read the same everywhere are equal. -/
theorem Tbl.find?_none_of_lt {m : Tbl α} {i : Nat} (h : ∀ p ∈ m, i < p.1) : Tbl.find? m i = none := by
  induction m with
  | nil => rfl
  | cons q m ih =>
    obtain ⟨k, v⟩ := q
    have := h (k, v) (List.mem_cons_self ..)
    simp only [Tbl.find?]
    rw [if_neg (by simp only at this; omega)]
    exact ih fun p hp => h p (List.mem_cons_of_mem _ hp)

theorem Tbl.ext_wf {m n : Tbl α} (hm : Tbl.wf m = true) (hn : Tbl.wf n = true)
    (h : ∀ i, Tbl.find? m i = Tbl.find? n i) : m = n := by
  induction m generalizing n with
  | nil =>
    cases n with
    | nil => rfl
    | cons q n => have := h q.1; simp [Tbl.find?] at this
  | cons p m ih =>
    cases n with
    | nil => have := h p.1; simp [Tbl.find?] at this
    | cons q n =>
      obtain ⟨k, v⟩ := p
      obtain ⟨l, w⟩ := q
      rw [Tbl.wf_cons] at hm hn
      have hkl : k = l := by
        rcases Nat.lt_trichotomy k l with hlt | heq | hgt
        · have := h k
          rw [Tbl.find?_cons, if_pos rfl, Tbl.find?_cons, if_neg (by omega),
            Tbl.find?_none_of_lt fun p hp => hlt.trans (hn.1 p hp)] at this
          cases this
        · exact heq
        · have := h l
          rw [Tbl.find?_cons, if_neg (by omega), Tbl.find?_none_of_lt (fun p hp => hgt.trans (hm.1 p hp)),
            Tbl.find?_cons, if_pos rfl] at this
          cases this
      subst hkl
      have hv := h k
      rw [Tbl.find?_cons, if_pos rfl, Tbl.find?_cons, if_pos rfl] at hv
      cases hv
      refine congrArg _ (ih hm.2 hn.2 fun i => ?_)
      by_cases hi : k = i
      · subst hi; rw [Tbl.find?_none_of_lt hm.1, Tbl.find?_none_of_lt hn.1]
      · have := h i; rwa [Tbl.find?_cons, if_neg hi, Tbl.find?_cons, if_neg hi] at this

/-! ### Byte memories -/

/-- A byte written reads back, and every other byte stays. -/
@[simp] theorem Memory.read_write (m : Memory) (a : Nat) (b : Byte) (c : Nat) :
    Memory.read (Memory.write m a b) c = if a = c then b else Memory.read m c := by
  simp only [Memory.read, Memory.write]
  split_ifs with h1 h2 h2
  · subst h1 h2; simp
  · simp [h2]
  · simp [h2]
  · simp [h2]

theorem Memory.wf_iff (m : Memory) : Memory.wf m = true ↔ Tbl.wf m = true ∧ ∀ c ∈ m, c.2 ≠ 0 := by
  simp [Memory.wf]

/-- A byte write keeps the canonical form. -/
theorem Memory.wf_write {m : Memory} (h : Memory.wf m = true) (a : Nat) (b : Byte) :
    Memory.wf (Memory.write m a b) = true := by
  rw [Memory.wf_iff] at h ⊢
  simp only [Memory.write]
  split_ifs with hb
  · exact ⟨Tbl.wf_erase h.1 a, fun c hc => h.2 c (List.mem_of_mem_filter hc)⟩
  · refine ⟨Tbl.wf_put h.1 a b, fun c hc => ?_⟩
    rcases Tbl.mem_put hc with rfl | hc
    · exact hb
    · exact h.2 c hc

/-- A write of bytes keeps the canonical form. -/
theorem Memory.wf_writeBytes {m : Memory} (h : Memory.wf m = true) (a : Nat) (l : List Byte) :
    Memory.wf (Memory.writeBytes m a l) = true := by
  induction l generalizing m a with
  | nil => exact h
  | cons b l ih => exact ih (Memory.wf_write h a b) (a + 1)

/-- What a write of bytes leaves: the bytes written from a on, everything else as before. -/
theorem Memory.read_writeBytes (m : Memory) (a : Nat) (l : List Byte) (c : Nat) :
    Memory.read (Memory.writeBytes m a l) c
      = if a ≤ c ∧ c < a + l.length then l.getD (c - a) 0 else Memory.read m c := by
  induction l generalizing m a with
  | nil => rw [if_neg (by simp only [List.length_nil]; omega)]; rfl
  | cons b l ih =>
    simp only [Memory.writeBytes, ih, Memory.read_write, List.length_cons]
    by_cases h1 : a = c
    · subst h1; simp
    · by_cases h2 : a + 1 ≤ c ∧ c < a + 1 + l.length
      · rw [if_pos h2, if_pos (by omega)]
        obtain ⟨k, hk⟩ : ∃ k, c = a + 1 + k := ⟨c - (a + 1), by omega⟩
        subst hk
        rw [show a + 1 + k - a = k + 1 by omega]; simp
      · rw [if_neg h2, if_neg h1, if_neg (by omega)]

@[simp] theorem Memory.readBytes_length (m : Memory) (a n : Nat) : (Memory.readBytes m a n).length = n := by
  induction n generalizing a with
  | zero => rfl
  | succ n ih => simp [Memory.readBytes, ih]

@[simp] theorem leBytes_length (n v : Nat) : (leBytes n v).length = n := by
  induction n generalizing v with
  | zero => rfl
  | succ n ih => simp [leBytes, ih]

/-- A number below 256^n is the value of its n bytes (R236). -/
theorem leVal_leBytes (n v : Nat) : leVal (leBytes n v) = v % 256 ^ n := by
  induction n generalizing v with
  | zero => simp [leBytes, leVal, Nat.mod_one]
  | succ n ih =>
    simp only [leBytes, leVal, ih, BitVec.toNat_ofNat]
    rw [show (256 : Nat) ^ (n + 1) = 256 * 256 ^ n from Nat.pow_succ', Nat.mod_mul]

end Sys2Proof.Machine
end

