-- ==== Sys2Proof/Laws/State.lean ====
section
/-! SUPPORT. The laws of the register store and of the shared operations of Ops.lean and Flags.lean: what each leaves
unchanged, component by component, and what a register field or a statistics word reads afterwards. -/

namespace Sys2Proof.Machine

/-! ### Register fields and statistics words -/

/-- What a register field reads after a write of a field. -/
@[simp] theorem State.get_put (s : State) (f : Fld) (v : Nat) (g : Fld) :
    (s.put f v).get g = if f.key = g.key then v % 2 ^ f.width else s.get g := by
  simp [State.get, State.put]

theorem State.get_put_same (s : State) (f : Fld) (v : Nat) : (s.put f v).get f = v % 2 ^ f.width := by simp

theorem State.get_put_other (s : State) (f g : Fld) (v : Nat) (h : f.key ≠ g.key) :
    (s.put f v).get g = s.get g := by simp [h]

/-- A field reads by the register store alone. -/
theorem State.get_of_regs {s t : State} (h : t.regs = s.regs) (f : Fld) : t.get f = s.get f := by
  simp [State.get, h]

/-- A one-bit field reads by the register store alone. -/
theorem State.on_of_regs {s t : State} (h : t.regs = s.regs) (f : Fld) : t.on f = s.on f := by
  unfold State.on; rw [State.get_of_regs h]

@[simp] theorem State.on_put (s : State) (f : Fld) (v : Nat) (g : Fld) :
    (s.put f v).on g = if f.key = g.key then decide (v % 2 ^ f.width = 1) else s.on g := by
  simp only [State.on, State.get_put]; split <;> rfl

/-- What a statistics word reads after an addition to one. -/
@[simp] theorem State.stat_bumpBy (s : State) (f : Fld) (n : Nat) (g : Fld) :
    (s.bumpBy f n).stat g = if f.key = g.key then (s.stat f + n) % 2 ^ 32 else s.stat g := by
  simp [State.stat, State.bumpBy]

@[simp] theorem State.stat_bump (s : State) (f g : Fld) :
    (s.bump f).stat g = if f.key = g.key then (s.stat f + 1) % 2 ^ 32 else s.stat g := State.stat_bumpBy s f 1 g

@[simp] theorem State.stat_bumpSat (s : State) (f g : Fld) :
    (s.bumpSat f).stat g = if f.key = g.key then min (s.stat f + 1) (2 ^ 32 - 1) else s.stat g := by
  simp [State.stat, State.bumpSat]

/-- A statistics word reads by the statistics store alone. -/
theorem State.stat_of_stats {s t : State} (h : t.stats = s.stats) (f : Fld) : t.stat f = s.stat f := by
  simp [State.stat, h]

/-- A field counted up reads one more, up to its width. -/
@[simp] theorem State.get_incSat (s : State) (f g : Fld) :
    (s.incSat f).get g = if f.key = g.key then min (s.get f + 1) (2 ^ f.width - 1) else s.get g := by
  simp only [State.incSat, State.get_put]
  split
  · exact Nat.mod_eq_of_lt (by have := Nat.two_pow_pos f.width; omega)
  · rfl

/-! ### Guards -/

@[simp] theorem State.when_true (s : State) (f : State → State) : s.when true f = f s := rfl

@[simp] theorem State.when_false (s : State) (f : State → State) : s.when false f = s := rfl

@[simp] theorem State.each_nil {α : Type} (s : State) (f : State → α → State) : s.each [] f = s := rfl

@[simp] theorem State.each_cons {α : Type} (s : State) (a : α) (l : List α) (f : State → α → State) :
    s.each (a :: l) f = (f s a).each l f := rfl

/-- Folding an operation that keeps a reading keeps it. -/
theorem State.each_keeps {α β : Type} (r : State → β) (l : List α) (f : State → α → State)
    (h : ∀ s a, r (f s a) = r s) (s : State) : r (s.each l f) = r s := by
  induction l generalizing s with
  | nil => rfl
  | cons a l ih => rw [State.each_cons, ih, h]

/-! ### What a choice between states leaves in each component -/

@[simp] theorem State.ite_part (c : Prop) [Decidable c] (a b : State) :
    (if c then a else b).part = if c then a.part else b.part := by split <;> rfl

@[simp] theorem State.ite_regs (c : Prop) [Decidable c] (a b : State) :
    (if c then a else b).regs = if c then a.regs else b.regs := by split <;> rfl

@[simp] theorem State.ite_stats (c : Prop) [Decidable c] (a b : State) :
    (if c then a else b).stats = if c then a.stats else b.stats := by split <;> rfl

@[simp] theorem State.ite_power (c : Prop) [Decidable c] (a b : State) :
    (if c then a else b).power = if c then a.power else b.power := by split <;> rfl

@[simp] theorem State.ite_watch (c : Prop) [Decidable c] (a b : State) :
    (if c then a else b).watch = if c then a.watch else b.watch := by split <;> rfl

@[simp] theorem State.ite_time (c : Prop) [Decidable c] (a b : State) :
    (if c then a else b).time = if c then a.time else b.time := by split <;> rfl

@[simp] theorem State.ite_clk (c : Prop) [Decidable c] (a b : State) :
    (if c then a else b).clk = if c then a.clk else b.clk := by split <;> rfl

@[simp] theorem State.ite_timers (c : Prop) [Decidable c] (a b : State) :
    (if c then a else b).timers = if c then a.timers else b.timers := by split <;> rfl

@[simp] theorem State.ite_evt (c : Prop) [Decidable c] (a b : State) :
    (if c then a else b).evt = if c then a.evt else b.evt := by split <;> rfl

@[simp] theorem State.ite_rings (c : Prop) [Decidable c] (a b : State) :
    (if c then a else b).rings = if c then a.rings else b.rings := by split <;> rfl

@[simp] theorem State.ite_eth (c : Prop) [Decidable c] (a b : State) :
    (if c then a else b).eth = if c then a.eth else b.eth := by split <;> rfl

@[simp] theorem State.ite_safe (c : Prop) [Decidable c] (a b : State) :
    (if c then a else b).safe = if c then a.safe else b.safe := by split <;> rfl

@[simp] theorem State.ite_air (c : Prop) [Decidable c] (a b : State) :
    (if c then a else b).air = if c then a.air else b.air := by split <;> rfl

@[simp] theorem State.ite_nets (c : Prop) [Decidable c] (a b : State) :
    (if c then a else b).nets = if c then a.nets else b.nets := by split <;> rfl

@[simp] theorem State.ite_blendForce (c : Prop) [Decidable c] (a b : State) :
    (if c then a else b).blendForce = if c then a.blendForce else b.blendForce := by split <;> rfl

@[simp] theorem State.ite_node (c : Prop) [Decidable c] (a b : State) :
    (if c then a else b).node = if c then a.node else b.node := by split <;> rfl

@[simp] theorem State.ite_hear (c : Prop) [Decidable c] (a b : State) :
    (if c then a else b).hear = if c then a.hear else b.hear := by split <;> rfl

@[simp] theorem State.ite_kiln (c : Prop) [Decidable c] (a b : State) :
    (if c then a else b).kiln = if c then a.kiln else b.kiln := by split <;> rfl

@[simp] theorem State.ite_otp (c : Prop) [Decidable c] (a b : State) :
    (if c then a else b).otp = if c then a.otp else b.otp := by split <;> rfl

@[simp] theorem State.ite_rx (c : Prop) [Decidable c] (a b : State) :
    (if c then a else b).rx = if c then a.rx else b.rx := by split <;> rfl

@[simp] theorem State.ite_cask (c : Prop) [Decidable c] (a b : State) :
    (if c then a else b).cask = if c then a.cask else b.cask := by split <;> rfl

@[simp] theorem State.ite_sched (c : Prop) [Decidable c] (a b : State) :
    (if c then a else b).sched = if c then a.sched else b.sched := by split <;> rfl

@[simp] theorem State.ite_tx (c : Prop) [Decidable c] (a b : State) :
    (if c then a else b).tx = if c then a.tx else b.tx := by split <;> rfl

@[simp] theorem State.ite_tun (c : Prop) [Decidable c] (a b : State) :
    (if c then a else b).tun = if c then a.tun else b.tun := by split <;> rfl

@[simp] theorem State.ite_boot (c : Prop) [Decidable c] (a b : State) :
    (if c then a else b).boot = if c then a.boot else b.boot := by split <;> rfl

@[simp] theorem State.ite_bcast (c : Prop) [Decidable c] (a b : State) :
    (if c then a else b).bcast = if c then a.bcast else b.bcast := by split <;> rfl

@[simp] theorem State.ite_pending (c : Prop) [Decidable c] (a b : State) :
    (if c then a else b).pending = if c then a.pending else b.pending := by split <;> rfl

@[simp] theorem State.ite_out (c : Prop) [Decidable c] (a b : State) :
    (if c then a else b).out = if c then a.out else b.out := by split <;> rfl

@[simp] theorem State.ite_free (c : Prop) [Decidable c] (a b : State) :
    (if c then a else b).free = if c then a.free else b.free := by split <;> rfl

/-! ### What each shared operation leaves unchanged -/

@[simp] theorem State.put_frame (s : State) (f : Fld) (v : Nat) :
    (s.put f v).part = s.part ∧ (s.put f v).stats = s.stats ∧ (s.put f v).power = s.power ∧
      (s.put f v).watch = s.watch ∧ (s.put f v).time = s.time ∧ (s.put f v).clk = s.clk ∧
      (s.put f v).timers = s.timers ∧ (s.put f v).evt = s.evt ∧ (s.put f v).rings = s.rings ∧
      (s.put f v).eth = s.eth ∧ (s.put f v).safe = s.safe ∧ (s.put f v).air = s.air ∧
      (s.put f v).nets = s.nets ∧ (s.put f v).blendForce = s.blendForce ∧ (s.put f v).node = s.node ∧
      (s.put f v).hear = s.hear ∧ (s.put f v).kiln = s.kiln ∧ (s.put f v).otp = s.otp ∧
      (s.put f v).rx = s.rx ∧ (s.put f v).cask = s.cask ∧ (s.put f v).sched = s.sched ∧
      (s.put f v).tx = s.tx ∧ (s.put f v).tun = s.tun ∧ (s.put f v).boot = s.boot ∧
      (s.put f v).bcast = s.bcast ∧ (s.put f v).pending = s.pending ∧ (s.put f v).out = s.out ∧
      (s.put f v).free = s.free := by
  and_intros <;> rfl

@[simp] theorem State.bumpBy_frame (s : State) (f : Fld) (n : Nat) :
    (s.bumpBy f n).part = s.part ∧ (s.bumpBy f n).regs = s.regs ∧ (s.bumpBy f n).power = s.power ∧
      (s.bumpBy f n).watch = s.watch ∧ (s.bumpBy f n).time = s.time ∧ (s.bumpBy f n).clk = s.clk ∧
      (s.bumpBy f n).timers = s.timers ∧ (s.bumpBy f n).evt = s.evt ∧ (s.bumpBy f n).rings = s.rings ∧
      (s.bumpBy f n).eth = s.eth ∧ (s.bumpBy f n).safe = s.safe ∧ (s.bumpBy f n).air = s.air ∧
      (s.bumpBy f n).nets = s.nets ∧ (s.bumpBy f n).blendForce = s.blendForce ∧ (s.bumpBy f n).node = s.node ∧
      (s.bumpBy f n).hear = s.hear ∧ (s.bumpBy f n).kiln = s.kiln ∧ (s.bumpBy f n).otp = s.otp ∧
      (s.bumpBy f n).rx = s.rx ∧ (s.bumpBy f n).cask = s.cask ∧ (s.bumpBy f n).sched = s.sched ∧
      (s.bumpBy f n).tx = s.tx ∧ (s.bumpBy f n).tun = s.tun ∧ (s.bumpBy f n).boot = s.boot ∧
      (s.bumpBy f n).bcast = s.bcast ∧ (s.bumpBy f n).pending = s.pending ∧ (s.bumpBy f n).out = s.out ∧
      (s.bumpBy f n).free = s.free := by
  and_intros <;> rfl

@[simp] theorem State.bump_frame (s : State) (f : Fld) :
    (s.bump f).part = s.part ∧ (s.bump f).regs = s.regs ∧ (s.bump f).power = s.power ∧
      (s.bump f).watch = s.watch ∧ (s.bump f).time = s.time ∧ (s.bump f).clk = s.clk ∧
      (s.bump f).timers = s.timers ∧ (s.bump f).evt = s.evt ∧ (s.bump f).rings = s.rings ∧
      (s.bump f).eth = s.eth ∧ (s.bump f).safe = s.safe ∧ (s.bump f).air = s.air ∧
      (s.bump f).nets = s.nets ∧ (s.bump f).blendForce = s.blendForce ∧ (s.bump f).node = s.node ∧
      (s.bump f).hear = s.hear ∧ (s.bump f).kiln = s.kiln ∧ (s.bump f).otp = s.otp ∧
      (s.bump f).rx = s.rx ∧ (s.bump f).cask = s.cask ∧ (s.bump f).sched = s.sched ∧
      (s.bump f).tx = s.tx ∧ (s.bump f).tun = s.tun ∧ (s.bump f).boot = s.boot ∧
      (s.bump f).bcast = s.bcast ∧ (s.bump f).pending = s.pending ∧ (s.bump f).out = s.out ∧
      (s.bump f).free = s.free := by
  and_intros <;> simp [State.bump]

@[simp] theorem State.bumpSat_frame (s : State) (f : Fld) :
    (s.bumpSat f).part = s.part ∧ (s.bumpSat f).regs = s.regs ∧ (s.bumpSat f).power = s.power ∧
      (s.bumpSat f).watch = s.watch ∧ (s.bumpSat f).time = s.time ∧ (s.bumpSat f).clk = s.clk ∧
      (s.bumpSat f).timers = s.timers ∧ (s.bumpSat f).evt = s.evt ∧ (s.bumpSat f).rings = s.rings ∧
      (s.bumpSat f).eth = s.eth ∧ (s.bumpSat f).safe = s.safe ∧ (s.bumpSat f).air = s.air ∧
      (s.bumpSat f).nets = s.nets ∧ (s.bumpSat f).blendForce = s.blendForce ∧ (s.bumpSat f).node = s.node ∧
      (s.bumpSat f).hear = s.hear ∧ (s.bumpSat f).kiln = s.kiln ∧ (s.bumpSat f).otp = s.otp ∧
      (s.bumpSat f).rx = s.rx ∧ (s.bumpSat f).cask = s.cask ∧ (s.bumpSat f).sched = s.sched ∧
      (s.bumpSat f).tx = s.tx ∧ (s.bumpSat f).tun = s.tun ∧ (s.bumpSat f).boot = s.boot ∧
      (s.bumpSat f).bcast = s.bcast ∧ (s.bumpSat f).pending = s.pending ∧ (s.bumpSat f).out = s.out ∧
      (s.bumpSat f).free = s.free := by
  and_intros <;> rfl

@[simp] theorem State.incSat_frame (s : State) (f : Fld) :
    (s.incSat f).part = s.part ∧ (s.incSat f).stats = s.stats ∧ (s.incSat f).power = s.power ∧
      (s.incSat f).watch = s.watch ∧ (s.incSat f).time = s.time ∧ (s.incSat f).clk = s.clk ∧
      (s.incSat f).timers = s.timers ∧ (s.incSat f).evt = s.evt ∧ (s.incSat f).rings = s.rings ∧
      (s.incSat f).eth = s.eth ∧ (s.incSat f).safe = s.safe ∧ (s.incSat f).air = s.air ∧
      (s.incSat f).nets = s.nets ∧ (s.incSat f).blendForce = s.blendForce ∧ (s.incSat f).node = s.node ∧
      (s.incSat f).hear = s.hear ∧ (s.incSat f).kiln = s.kiln ∧ (s.incSat f).otp = s.otp ∧
      (s.incSat f).rx = s.rx ∧ (s.incSat f).cask = s.cask ∧ (s.incSat f).sched = s.sched ∧
      (s.incSat f).tx = s.tx ∧ (s.incSat f).tun = s.tun ∧ (s.incSat f).boot = s.boot ∧
      (s.incSat f).bcast = s.bcast ∧ (s.incSat f).pending = s.pending ∧ (s.incSat f).out = s.out ∧
      (s.incSat f).free = s.free := by
  and_intros <;> simp [State.incSat]

@[simp] theorem State.spend_frame (s : State) (n : Nat) :
    (s.spend n).part = s.part ∧ (s.spend n).regs = s.regs ∧ (s.spend n).stats = s.stats ∧
      (s.spend n).power = s.power ∧ (s.spend n).watch = s.watch ∧ (s.spend n).time = s.time ∧
      (s.spend n).clk = s.clk ∧ (s.spend n).timers = s.timers ∧ (s.spend n).evt = s.evt ∧
      (s.spend n).rings = s.rings ∧ (s.spend n).eth = s.eth ∧ (s.spend n).safe = s.safe ∧
      (s.spend n).air = s.air ∧ (s.spend n).nets = s.nets ∧ (s.spend n).blendForce = s.blendForce ∧
      (s.spend n).node = s.node ∧ (s.spend n).hear = s.hear ∧ (s.spend n).kiln = s.kiln ∧
      (s.spend n).otp = s.otp ∧ (s.spend n).rx = s.rx ∧ (s.spend n).cask = s.cask ∧
      (s.spend n).sched = s.sched ∧ (s.spend n).tx = s.tx ∧ (s.spend n).tun = s.tun ∧
      (s.spend n).boot = s.boot ∧ (s.spend n).bcast = s.bcast ∧ (s.spend n).pending = s.pending ∧
      (s.spend n).out = s.out := by
  and_intros <;> rfl

@[simp] theorem State.samples_frame (s : State) (n : Nat) :
    (s.samples n).1.part = s.part ∧ (s.samples n).1.regs = s.regs ∧ (s.samples n).1.stats = s.stats ∧
      (s.samples n).1.power = s.power ∧ (s.samples n).1.watch = s.watch ∧ (s.samples n).1.time = s.time ∧
      (s.samples n).1.clk = s.clk ∧ (s.samples n).1.timers = s.timers ∧ (s.samples n).1.evt = s.evt ∧
      (s.samples n).1.rings = s.rings ∧ (s.samples n).1.eth = s.eth ∧ (s.samples n).1.safe = s.safe ∧
      (s.samples n).1.air = s.air ∧ (s.samples n).1.nets = s.nets ∧ (s.samples n).1.blendForce = s.blendForce ∧
      (s.samples n).1.node = s.node ∧ (s.samples n).1.hear = s.hear ∧ (s.samples n).1.kiln = s.kiln ∧
      (s.samples n).1.otp = s.otp ∧ (s.samples n).1.rx = s.rx ∧ (s.samples n).1.cask = s.cask ∧
      (s.samples n).1.sched = s.sched ∧ (s.samples n).1.tx = s.tx ∧ (s.samples n).1.tun = s.tun ∧
      (s.samples n).1.boot = s.boot ∧ (s.samples n).1.bcast = s.bcast ∧ (s.samples n).1.pending = s.pending ∧
      (s.samples n).1.out = s.out := by
  and_intros <;> rfl

@[simp] theorem State.seedDrbg_frame (s : State) :
    s.seedDrbg.part = s.part ∧ s.seedDrbg.regs = s.regs ∧ s.seedDrbg.stats = s.stats ∧
      s.seedDrbg.power = s.power ∧ s.seedDrbg.watch = s.watch ∧ s.seedDrbg.time = s.time ∧
      s.seedDrbg.clk = s.clk ∧ s.seedDrbg.timers = s.timers ∧ s.seedDrbg.evt = s.evt ∧
      s.seedDrbg.rings = s.rings ∧ s.seedDrbg.eth = s.eth ∧ s.seedDrbg.safe = s.safe ∧
      s.seedDrbg.air = s.air ∧ s.seedDrbg.nets = s.nets ∧ s.seedDrbg.blendForce = s.blendForce ∧
      s.seedDrbg.node = s.node ∧ s.seedDrbg.hear = s.hear ∧ s.seedDrbg.otp = s.otp ∧
      s.seedDrbg.rx = s.rx ∧ s.seedDrbg.cask = s.cask ∧ s.seedDrbg.sched = s.sched ∧
      s.seedDrbg.tx = s.tx ∧ s.seedDrbg.tun = s.tun ∧ s.seedDrbg.boot = s.boot ∧
      s.seedDrbg.bcast = s.bcast ∧ s.seedDrbg.pending = s.pending ∧ s.seedDrbg.out = s.out := by
  and_intros <;> rfl

@[simp] theorem State.draw_frame (s : State) (n : Nat) :
    (s.draw n).1.part = s.part ∧ (s.draw n).1.regs = s.regs ∧ (s.draw n).1.stats = s.stats ∧
      (s.draw n).1.power = s.power ∧ (s.draw n).1.watch = s.watch ∧ (s.draw n).1.time = s.time ∧
      (s.draw n).1.clk = s.clk ∧ (s.draw n).1.timers = s.timers ∧ (s.draw n).1.evt = s.evt ∧
      (s.draw n).1.rings = s.rings ∧ (s.draw n).1.eth = s.eth ∧ (s.draw n).1.safe = s.safe ∧
      (s.draw n).1.air = s.air ∧ (s.draw n).1.nets = s.nets ∧ (s.draw n).1.blendForce = s.blendForce ∧
      (s.draw n).1.node = s.node ∧ (s.draw n).1.hear = s.hear ∧ (s.draw n).1.otp = s.otp ∧
      (s.draw n).1.rx = s.rx ∧ (s.draw n).1.cask = s.cask ∧ (s.draw n).1.sched = s.sched ∧
      (s.draw n).1.tx = s.tx ∧ (s.draw n).1.tun = s.tun ∧ (s.draw n).1.boot = s.boot ∧
      (s.draw n).1.bcast = s.bcast ∧ (s.draw n).1.pending = s.pending ∧ (s.draw n).1.out = s.out := by
  and_intros <;> (simp only [State.draw]; split <;> split <;> simp)

@[simp] theorem State.drawNum_frame (s : State) :
    s.drawNum.1.part = s.part ∧ s.drawNum.1.regs = s.regs ∧ s.drawNum.1.stats = s.stats ∧
      s.drawNum.1.power = s.power ∧ s.drawNum.1.watch = s.watch ∧ s.drawNum.1.time = s.time ∧
      s.drawNum.1.clk = s.clk ∧ s.drawNum.1.timers = s.timers ∧ s.drawNum.1.evt = s.evt ∧
      s.drawNum.1.rings = s.rings ∧ s.drawNum.1.eth = s.eth ∧ s.drawNum.1.safe = s.safe ∧
      s.drawNum.1.air = s.air ∧ s.drawNum.1.nets = s.nets ∧ s.drawNum.1.blendForce = s.blendForce ∧
      s.drawNum.1.node = s.node ∧ s.drawNum.1.hear = s.hear ∧ s.drawNum.1.otp = s.otp ∧
      s.drawNum.1.rx = s.rx ∧ s.drawNum.1.cask = s.cask ∧ s.drawNum.1.sched = s.sched ∧
      s.drawNum.1.tx = s.tx ∧ s.drawNum.1.tun = s.tun ∧ s.drawNum.1.boot = s.boot ∧
      s.drawNum.1.bcast = s.bcast ∧ s.drawNum.1.pending = s.pending ∧ s.drawNum.1.out = s.out := by
  and_intros <;> (simp only [State.drawNum]; (try repeat' split) <;> simp_all)

@[simp] theorem State.emit_frame (s : State) (o : Output) :
    (s.emit o).part = s.part ∧ (s.emit o).regs = s.regs ∧ (s.emit o).stats = s.stats ∧
      (s.emit o).power = s.power ∧ (s.emit o).watch = s.watch ∧ (s.emit o).time = s.time ∧
      (s.emit o).clk = s.clk ∧ (s.emit o).timers = s.timers ∧ (s.emit o).evt = s.evt ∧
      (s.emit o).rings = s.rings ∧ (s.emit o).eth = s.eth ∧ (s.emit o).air = s.air ∧
      (s.emit o).nets = s.nets ∧ (s.emit o).blendForce = s.blendForce ∧ (s.emit o).node = s.node ∧
      (s.emit o).hear = s.hear ∧ (s.emit o).kiln = s.kiln ∧ (s.emit o).otp = s.otp ∧
      (s.emit o).rx = s.rx ∧ (s.emit o).cask = s.cask ∧ (s.emit o).sched = s.sched ∧
      (s.emit o).tx = s.tx ∧ (s.emit o).tun = s.tun ∧ (s.emit o).boot = s.boot ∧
      (s.emit o).bcast = s.bcast ∧ (s.emit o).pending = s.pending ∧ (s.emit o).free = s.free := by
  and_intros <;> (simp only [State.emit]; (try repeat' split) <;> simp_all)

@[simp] theorem State.emitNow_frame (s : State) (o : Output) :
    (s.emitNow o).part = s.part ∧ (s.emitNow o).regs = s.regs ∧ (s.emitNow o).stats = s.stats ∧
      (s.emitNow o).power = s.power ∧ (s.emitNow o).watch = s.watch ∧ (s.emitNow o).time = s.time ∧
      (s.emitNow o).clk = s.clk ∧ (s.emitNow o).timers = s.timers ∧ (s.emitNow o).evt = s.evt ∧
      (s.emitNow o).rings = s.rings ∧ (s.emitNow o).eth = s.eth ∧ (s.emitNow o).safe = s.safe ∧
      (s.emitNow o).air = s.air ∧ (s.emitNow o).nets = s.nets ∧ (s.emitNow o).blendForce = s.blendForce ∧
      (s.emitNow o).node = s.node ∧ (s.emitNow o).hear = s.hear ∧ (s.emitNow o).kiln = s.kiln ∧
      (s.emitNow o).otp = s.otp ∧ (s.emitNow o).rx = s.rx ∧ (s.emitNow o).cask = s.cask ∧
      (s.emitNow o).sched = s.sched ∧ (s.emitNow o).tx = s.tx ∧ (s.emitNow o).tun = s.tun ∧
      (s.emitNow o).boot = s.boot ∧ (s.emitNow o).bcast = s.bcast ∧ (s.emitNow o).pending = s.pending ∧
      (s.emitNow o).free = s.free := by
  and_intros <;> rfl

@[simp] theorem State.setRing_frame (s : State) (n : Nat) (r : RingRun) :
    (s.setRing n r).part = s.part ∧ (s.setRing n r).regs = s.regs ∧ (s.setRing n r).stats = s.stats ∧
      (s.setRing n r).power = s.power ∧ (s.setRing n r).watch = s.watch ∧ (s.setRing n r).time = s.time ∧
      (s.setRing n r).clk = s.clk ∧ (s.setRing n r).timers = s.timers ∧ (s.setRing n r).evt = s.evt ∧
      (s.setRing n r).eth = s.eth ∧ (s.setRing n r).safe = s.safe ∧ (s.setRing n r).air = s.air ∧
      (s.setRing n r).nets = s.nets ∧ (s.setRing n r).blendForce = s.blendForce ∧ (s.setRing n r).node = s.node ∧
      (s.setRing n r).hear = s.hear ∧ (s.setRing n r).kiln = s.kiln ∧ (s.setRing n r).otp = s.otp ∧
      (s.setRing n r).rx = s.rx ∧ (s.setRing n r).cask = s.cask ∧ (s.setRing n r).sched = s.sched ∧
      (s.setRing n r).tx = s.tx ∧ (s.setRing n r).tun = s.tun ∧ (s.setRing n r).boot = s.boot ∧
      (s.setRing n r).bcast = s.bcast ∧ (s.setRing n r).pending = s.pending ∧ (s.setRing n r).out = s.out ∧
      (s.setRing n r).free = s.free := by
  and_intros <;> rfl

@[simp] theorem State.drop_frame (s : State) (n : Nat) :
    (s.drop n).part = s.part ∧ (s.drop n).regs = s.regs ∧ (s.drop n).stats = s.stats ∧
      (s.drop n).power = s.power ∧ (s.drop n).watch = s.watch ∧ (s.drop n).time = s.time ∧
      (s.drop n).clk = s.clk ∧ (s.drop n).timers = s.timers ∧ (s.drop n).evt = s.evt ∧
      (s.drop n).eth = s.eth ∧ (s.drop n).safe = s.safe ∧ (s.drop n).air = s.air ∧
      (s.drop n).nets = s.nets ∧ (s.drop n).blendForce = s.blendForce ∧ (s.drop n).node = s.node ∧
      (s.drop n).hear = s.hear ∧ (s.drop n).kiln = s.kiln ∧ (s.drop n).otp = s.otp ∧
      (s.drop n).rx = s.rx ∧ (s.drop n).cask = s.cask ∧ (s.drop n).sched = s.sched ∧
      (s.drop n).tx = s.tx ∧ (s.drop n).tun = s.tun ∧ (s.drop n).boot = s.boot ∧
      (s.drop n).bcast = s.bcast ∧ (s.drop n).pending = s.pending ∧ (s.drop n).out = s.out ∧
      (s.drop n).free = s.free := by
  and_intros <;> simp [State.drop]

@[simp] theorem State.dmaWrite_frame (s : State) (a : Nat) (b : List Byte) :
    (s.dmaWrite a b).part = s.part ∧ (s.dmaWrite a b).regs = s.regs ∧ (s.dmaWrite a b).stats = s.stats ∧
      (s.dmaWrite a b).power = s.power ∧ (s.dmaWrite a b).watch = s.watch ∧ (s.dmaWrite a b).time = s.time ∧
      (s.dmaWrite a b).clk = s.clk ∧ (s.dmaWrite a b).timers = s.timers ∧ (s.dmaWrite a b).evt = s.evt ∧
      (s.dmaWrite a b).rings = s.rings ∧ (s.dmaWrite a b).eth = s.eth ∧ (s.dmaWrite a b).air = s.air ∧
      (s.dmaWrite a b).nets = s.nets ∧ (s.dmaWrite a b).blendForce = s.blendForce ∧ (s.dmaWrite a b).node = s.node ∧
      (s.dmaWrite a b).hear = s.hear ∧ (s.dmaWrite a b).kiln = s.kiln ∧ (s.dmaWrite a b).otp = s.otp ∧
      (s.dmaWrite a b).rx = s.rx ∧ (s.dmaWrite a b).cask = s.cask ∧ (s.dmaWrite a b).sched = s.sched ∧
      (s.dmaWrite a b).tx = s.tx ∧ (s.dmaWrite a b).tun = s.tun ∧ (s.dmaWrite a b).boot = s.boot ∧
      (s.dmaWrite a b).bcast = s.bcast ∧ (s.dmaWrite a b).pending = s.pending ∧ (s.dmaWrite a b).free = s.free := by
  and_intros <;> simp [State.dmaWrite]

@[simp] theorem State.dmaRead_frame (s : State) (a n : Nat) :
    (s.dmaRead a n).part = s.part ∧ (s.dmaRead a n).regs = s.regs ∧ (s.dmaRead a n).stats = s.stats ∧
      (s.dmaRead a n).power = s.power ∧ (s.dmaRead a n).watch = s.watch ∧ (s.dmaRead a n).time = s.time ∧
      (s.dmaRead a n).clk = s.clk ∧ (s.dmaRead a n).timers = s.timers ∧ (s.dmaRead a n).evt = s.evt ∧
      (s.dmaRead a n).rings = s.rings ∧ (s.dmaRead a n).eth = s.eth ∧ (s.dmaRead a n).air = s.air ∧
      (s.dmaRead a n).nets = s.nets ∧ (s.dmaRead a n).blendForce = s.blendForce ∧ (s.dmaRead a n).node = s.node ∧
      (s.dmaRead a n).hear = s.hear ∧ (s.dmaRead a n).kiln = s.kiln ∧ (s.dmaRead a n).otp = s.otp ∧
      (s.dmaRead a n).rx = s.rx ∧ (s.dmaRead a n).cask = s.cask ∧ (s.dmaRead a n).sched = s.sched ∧
      (s.dmaRead a n).tx = s.tx ∧ (s.dmaRead a n).tun = s.tun ∧ (s.dmaRead a n).boot = s.boot ∧
      (s.dmaRead a n).bcast = s.bcast ∧ (s.dmaRead a n).pending = s.pending ∧ (s.dmaRead a n).free = s.free := by
  and_intros <;> simp [State.dmaRead]

@[simp] theorem State.postIndex_frame (s : State) (n : Nat) :
    (s.postIndex n).1.part = s.part ∧ (s.postIndex n).1.regs = s.regs ∧ (s.postIndex n).1.stats = s.stats ∧
      (s.postIndex n).1.power = s.power ∧ (s.postIndex n).1.watch = s.watch ∧ (s.postIndex n).1.time = s.time ∧
      (s.postIndex n).1.clk = s.clk ∧ (s.postIndex n).1.timers = s.timers ∧ (s.postIndex n).1.evt = s.evt ∧
      (s.postIndex n).1.eth = s.eth ∧ (s.postIndex n).1.air = s.air ∧ (s.postIndex n).1.nets = s.nets ∧
      (s.postIndex n).1.blendForce = s.blendForce ∧ (s.postIndex n).1.node = s.node ∧ (s.postIndex n).1.hear = s.hear ∧
      (s.postIndex n).1.kiln = s.kiln ∧ (s.postIndex n).1.otp = s.otp ∧ (s.postIndex n).1.rx = s.rx ∧
      (s.postIndex n).1.cask = s.cask ∧ (s.postIndex n).1.sched = s.sched ∧ (s.postIndex n).1.tx = s.tx ∧
      (s.postIndex n).1.tun = s.tun ∧ (s.postIndex n).1.boot = s.boot ∧ (s.postIndex n).1.bcast = s.bcast ∧
      (s.postIndex n).1.pending = s.pending ∧ (s.postIndex n).1.free = s.free := by
  and_intros <;> (simp only [State.postIndex]; split <;> simp)

@[simp] theorem State.post_frame (s : State) (n typ : Nat) (b : List Byte) :
    (s.post n typ b).1.part = s.part ∧ (s.post n typ b).1.regs = s.regs ∧ (s.post n typ b).1.stats = s.stats ∧
      (s.post n typ b).1.power = s.power ∧ (s.post n typ b).1.watch = s.watch ∧ (s.post n typ b).1.time = s.time ∧
      (s.post n typ b).1.clk = s.clk ∧ (s.post n typ b).1.timers = s.timers ∧ (s.post n typ b).1.evt = s.evt ∧
      (s.post n typ b).1.eth = s.eth ∧ (s.post n typ b).1.air = s.air ∧ (s.post n typ b).1.nets = s.nets ∧
      (s.post n typ b).1.blendForce = s.blendForce ∧ (s.post n typ b).1.node = s.node ∧ (s.post n typ b).1.hear = s.hear ∧
      (s.post n typ b).1.kiln = s.kiln ∧ (s.post n typ b).1.otp = s.otp ∧ (s.post n typ b).1.rx = s.rx ∧
      (s.post n typ b).1.cask = s.cask ∧ (s.post n typ b).1.sched = s.sched ∧ (s.post n typ b).1.tx = s.tx ∧
      (s.post n typ b).1.tun = s.tun ∧ (s.post n typ b).1.boot = s.boot ∧ (s.post n typ b).1.bcast = s.bcast ∧
      (s.post n typ b).1.pending = s.pending ∧ (s.post n typ b).1.free = s.free := by
  and_intros <;> (simp only [State.post]; split <;> [skip; split <;> [skip; split]]) <;> ((try dsimp only); (try split) <;> simp)

@[simp] theorem State.haltRing_frame (s : State) (n : Nat) (st : Status) (a : Nat) :
    (s.haltRing n st a).part = s.part ∧ (s.haltRing n st a).regs = s.regs ∧ (s.haltRing n st a).stats = s.stats ∧
      (s.haltRing n st a).power = s.power ∧ (s.haltRing n st a).watch = s.watch ∧ (s.haltRing n st a).time = s.time ∧
      (s.haltRing n st a).clk = s.clk ∧ (s.haltRing n st a).timers = s.timers ∧ (s.haltRing n st a).evt = s.evt ∧
      (s.haltRing n st a).eth = s.eth ∧ (s.haltRing n st a).safe = s.safe ∧ (s.haltRing n st a).air = s.air ∧
      (s.haltRing n st a).nets = s.nets ∧ (s.haltRing n st a).blendForce = s.blendForce ∧ (s.haltRing n st a).node = s.node ∧
      (s.haltRing n st a).hear = s.hear ∧ (s.haltRing n st a).kiln = s.kiln ∧ (s.haltRing n st a).otp = s.otp ∧
      (s.haltRing n st a).rx = s.rx ∧ (s.haltRing n st a).cask = s.cask ∧ (s.haltRing n st a).sched = s.sched ∧
      (s.haltRing n st a).tx = s.tx ∧ (s.haltRing n st a).tun = s.tun ∧ (s.haltRing n st a).boot = s.boot ∧
      (s.haltRing n st a).bcast = s.bcast ∧ (s.haltRing n st a).pending = s.pending ∧ (s.haltRing n st a).out = s.out ∧
      (s.haltRing n st a).free = s.free := by
  and_intros <;> (simp only [State.haltRing]; (try repeat' split) <;> simp_all)

@[simp] theorem State.sendVector_frame (s : State) (v : Nat) :
    (s.sendVector v).part = s.part ∧ (s.sendVector v).regs = s.regs ∧ (s.sendVector v).stats = s.stats ∧
      (s.sendVector v).power = s.power ∧ (s.sendVector v).watch = s.watch ∧ (s.sendVector v).time = s.time ∧
      (s.sendVector v).clk = s.clk ∧ (s.sendVector v).timers = s.timers ∧ (s.sendVector v).rings = s.rings ∧
      (s.sendVector v).eth = s.eth ∧ (s.sendVector v).air = s.air ∧ (s.sendVector v).nets = s.nets ∧
      (s.sendVector v).blendForce = s.blendForce ∧ (s.sendVector v).node = s.node ∧ (s.sendVector v).hear = s.hear ∧
      (s.sendVector v).kiln = s.kiln ∧ (s.sendVector v).otp = s.otp ∧ (s.sendVector v).rx = s.rx ∧
      (s.sendVector v).cask = s.cask ∧ (s.sendVector v).sched = s.sched ∧ (s.sendVector v).tx = s.tx ∧
      (s.sendVector v).tun = s.tun ∧ (s.sendVector v).boot = s.boot ∧ (s.sendVector v).bcast = s.bcast ∧
      (s.sendVector v).pending = s.pending ∧ (s.sendVector v).free = s.free := by
  and_intros <;> (simp only [State.sendVector]; (try repeat' split) <;> simp_all)

@[simp] theorem State.signal_frame (s : State) (v : Nat) :
    (s.signal v).part = s.part ∧ (s.signal v).regs = s.regs ∧ (s.signal v).stats = s.stats ∧
      (s.signal v).power = s.power ∧ (s.signal v).watch = s.watch ∧ (s.signal v).time = s.time ∧
      (s.signal v).clk = s.clk ∧ (s.signal v).timers = s.timers ∧ (s.signal v).rings = s.rings ∧
      (s.signal v).eth = s.eth ∧ (s.signal v).air = s.air ∧ (s.signal v).nets = s.nets ∧
      (s.signal v).blendForce = s.blendForce ∧ (s.signal v).node = s.node ∧ (s.signal v).hear = s.hear ∧
      (s.signal v).kiln = s.kiln ∧ (s.signal v).otp = s.otp ∧ (s.signal v).rx = s.rx ∧
      (s.signal v).cask = s.cask ∧ (s.signal v).sched = s.sched ∧ (s.signal v).tx = s.tx ∧
      (s.signal v).tun = s.tun ∧ (s.signal v).boot = s.boot ∧ (s.signal v).bcast = s.bcast ∧
      (s.signal v).pending = s.pending ∧ (s.signal v).free = s.free := by
  and_intros <;> (simp only [State.signal]; (try repeat' split) <;> simp_all)

@[simp] theorem State.setTxPort_frame (s : State) (h p : Nat) (t : TxPort) :
    (s.setTxPort h p t).part = s.part ∧ (s.setTxPort h p t).regs = s.regs ∧ (s.setTxPort h p t).stats = s.stats ∧
      (s.setTxPort h p t).power = s.power ∧ (s.setTxPort h p t).watch = s.watch ∧ (s.setTxPort h p t).time = s.time ∧
      (s.setTxPort h p t).clk = s.clk ∧ (s.setTxPort h p t).timers = s.timers ∧ (s.setTxPort h p t).evt = s.evt ∧
      (s.setTxPort h p t).rings = s.rings ∧ (s.setTxPort h p t).safe = s.safe ∧ (s.setTxPort h p t).air = s.air ∧
      (s.setTxPort h p t).nets = s.nets ∧ (s.setTxPort h p t).blendForce = s.blendForce ∧ (s.setTxPort h p t).node = s.node ∧
      (s.setTxPort h p t).hear = s.hear ∧ (s.setTxPort h p t).kiln = s.kiln ∧ (s.setTxPort h p t).otp = s.otp ∧
      (s.setTxPort h p t).rx = s.rx ∧ (s.setTxPort h p t).cask = s.cask ∧ (s.setTxPort h p t).sched = s.sched ∧
      (s.setTxPort h p t).tx = s.tx ∧ (s.setTxPort h p t).tun = s.tun ∧ (s.setTxPort h p t).boot = s.boot ∧
      (s.setTxPort h p t).bcast = s.bcast ∧ (s.setTxPort h p t).pending = s.pending ∧ (s.setTxPort h p t).out = s.out ∧
      (s.setTxPort h p t).free = s.free := by
  and_intros <;> rfl

@[simp] theorem State.toLine_frame (s : State) (h p : Nat) (b : Bool) (f : List Byte) :
    (s.toLine h p b f).part = s.part ∧ (s.toLine h p b f).regs = s.regs ∧ (s.toLine h p b f).stats = s.stats ∧
      (s.toLine h p b f).power = s.power ∧ (s.toLine h p b f).watch = s.watch ∧ (s.toLine h p b f).time = s.time ∧
      (s.toLine h p b f).clk = s.clk ∧ (s.toLine h p b f).timers = s.timers ∧ (s.toLine h p b f).evt = s.evt ∧
      (s.toLine h p b f).rings = s.rings ∧ (s.toLine h p b f).air = s.air ∧ (s.toLine h p b f).nets = s.nets ∧
      (s.toLine h p b f).blendForce = s.blendForce ∧ (s.toLine h p b f).node = s.node ∧ (s.toLine h p b f).hear = s.hear ∧
      (s.toLine h p b f).kiln = s.kiln ∧ (s.toLine h p b f).otp = s.otp ∧ (s.toLine h p b f).rx = s.rx ∧
      (s.toLine h p b f).cask = s.cask ∧ (s.toLine h p b f).sched = s.sched ∧ (s.toLine h p b f).tx = s.tx ∧
      (s.toLine h p b f).tun = s.tun ∧ (s.toLine h p b f).boot = s.boot ∧ (s.toLine h p b f).bcast = s.bcast ∧
      (s.toLine h p b f).pending = s.pending ∧ (s.toLine h p b f).free = s.free := by
  and_intros <;> (simp only [State.toLine]; (try repeat' split) <;> simp_all)

@[simp] theorem State.drainPort_frame (s : State) (h p : Nat) :
    (s.drainPort h p).part = s.part ∧ (s.drainPort h p).regs = s.regs ∧ (s.drainPort h p).stats = s.stats ∧
      (s.drainPort h p).power = s.power ∧ (s.drainPort h p).watch = s.watch ∧ (s.drainPort h p).time = s.time ∧
      (s.drainPort h p).clk = s.clk ∧ (s.drainPort h p).timers = s.timers ∧ (s.drainPort h p).evt = s.evt ∧
      (s.drainPort h p).rings = s.rings ∧ (s.drainPort h p).air = s.air ∧ (s.drainPort h p).nets = s.nets ∧
      (s.drainPort h p).blendForce = s.blendForce ∧ (s.drainPort h p).node = s.node ∧ (s.drainPort h p).hear = s.hear ∧
      (s.drainPort h p).kiln = s.kiln ∧ (s.drainPort h p).otp = s.otp ∧ (s.drainPort h p).rx = s.rx ∧
      (s.drainPort h p).cask = s.cask ∧ (s.drainPort h p).sched = s.sched ∧ (s.drainPort h p).tx = s.tx ∧
      (s.drainPort h p).tun = s.tun ∧ (s.drainPort h p).boot = s.boot ∧ (s.drainPort h p).bcast = s.bcast ∧
      (s.drainPort h p).pending = s.pending ∧ (s.drainPort h p).free = s.free := by
  simp only [State.drainPort]
  split
  · and_intros <;> rfl
  · and_intros <;> exact (State.each_keeps _ _ _ (fun _ _ => by simp) _).trans (by simp)

@[simp] theorem State.queueFrame_frame (s : State) (h p : Nat) (b : Bool) (f : List Byte) :
    (s.queueFrame h p b f).1.part = s.part ∧ (s.queueFrame h p b f).1.regs = s.regs ∧ (s.queueFrame h p b f).1.stats = s.stats ∧
      (s.queueFrame h p b f).1.power = s.power ∧ (s.queueFrame h p b f).1.watch = s.watch ∧ (s.queueFrame h p b f).1.time = s.time ∧
      (s.queueFrame h p b f).1.clk = s.clk ∧ (s.queueFrame h p b f).1.timers = s.timers ∧ (s.queueFrame h p b f).1.evt = s.evt ∧
      (s.queueFrame h p b f).1.rings = s.rings ∧ (s.queueFrame h p b f).1.air = s.air ∧ (s.queueFrame h p b f).1.nets = s.nets ∧
      (s.queueFrame h p b f).1.blendForce = s.blendForce ∧ (s.queueFrame h p b f).1.node = s.node ∧ (s.queueFrame h p b f).1.hear = s.hear ∧
      (s.queueFrame h p b f).1.kiln = s.kiln ∧ (s.queueFrame h p b f).1.otp = s.otp ∧ (s.queueFrame h p b f).1.rx = s.rx ∧
      (s.queueFrame h p b f).1.cask = s.cask ∧ (s.queueFrame h p b f).1.sched = s.sched ∧ (s.queueFrame h p b f).1.tx = s.tx ∧
      (s.queueFrame h p b f).1.tun = s.tun ∧ (s.queueFrame h p b f).1.boot = s.boot ∧ (s.queueFrame h p b f).1.bcast = s.bcast ∧
      (s.queueFrame h p b f).1.pending = s.pending ∧ (s.queueFrame h p b f).1.free = s.free := by
  and_intros <;> (simp only [State.queueFrame]; split <;> [skip; split] <;> simp)

@[simp] theorem State.privCopies_frame (s : State) (frame : List Byte) :
    (s.privCopies frame).1.part = s.part ∧ (s.privCopies frame).1.regs = s.regs ∧ (s.privCopies frame).1.stats = s.stats ∧
      (s.privCopies frame).1.power = s.power ∧ (s.privCopies frame).1.watch = s.watch ∧ (s.privCopies frame).1.time = s.time ∧
      (s.privCopies frame).1.clk = s.clk ∧ (s.privCopies frame).1.timers = s.timers ∧ (s.privCopies frame).1.evt = s.evt ∧
      (s.privCopies frame).1.rings = s.rings ∧ (s.privCopies frame).1.air = s.air ∧ (s.privCopies frame).1.nets = s.nets ∧
      (s.privCopies frame).1.blendForce = s.blendForce ∧ (s.privCopies frame).1.node = s.node ∧ (s.privCopies frame).1.hear = s.hear ∧
      (s.privCopies frame).1.kiln = s.kiln ∧ (s.privCopies frame).1.otp = s.otp ∧ (s.privCopies frame).1.rx = s.rx ∧
      (s.privCopies frame).1.cask = s.cask ∧ (s.privCopies frame).1.sched = s.sched ∧ (s.privCopies frame).1.tx = s.tx ∧
      (s.privCopies frame).1.tun = s.tun ∧ (s.privCopies frame).1.boot = s.boot ∧ (s.privCopies frame).1.bcast = s.bcast ∧
      (s.privCopies frame).1.pending = s.pending ∧ (s.privCopies frame).1.free = s.free := by
  and_intros <;> simp [State.privCopies]

@[simp] theorem State.nextPrp_frame (s : State) :
    s.nextPrp.part = s.part ∧ s.nextPrp.regs = s.regs ∧ s.nextPrp.stats = s.stats ∧
      s.nextPrp.power = s.power ∧ s.nextPrp.watch = s.watch ∧ s.nextPrp.time = s.time ∧
      s.nextPrp.clk = s.clk ∧ s.nextPrp.timers = s.timers ∧ s.nextPrp.evt = s.evt ∧
      s.nextPrp.rings = s.rings ∧ s.nextPrp.safe = s.safe ∧ s.nextPrp.air = s.air ∧
      s.nextPrp.nets = s.nets ∧ s.nextPrp.blendForce = s.blendForce ∧ s.nextPrp.node = s.node ∧
      s.nextPrp.hear = s.hear ∧ s.nextPrp.kiln = s.kiln ∧ s.nextPrp.otp = s.otp ∧
      s.nextPrp.rx = s.rx ∧ s.nextPrp.cask = s.cask ∧ s.nextPrp.sched = s.sched ∧
      s.nextPrp.tx = s.tx ∧ s.nextPrp.tun = s.tun ∧ s.nextPrp.boot = s.boot ∧
      s.nextPrp.bcast = s.bcast ∧ s.nextPrp.pending = s.pending ∧ s.nextPrp.out = s.out ∧
      s.nextPrp.free = s.free := by
  and_intros <;> rfl

@[simp] theorem State.sendPriv_frame (s : State) (frame : List Byte) :
    (s.sendPriv frame).1.part = s.part ∧ (s.sendPriv frame).1.regs = s.regs ∧ (s.sendPriv frame).1.power = s.power ∧
      (s.sendPriv frame).1.watch = s.watch ∧ (s.sendPriv frame).1.time = s.time ∧ (s.sendPriv frame).1.clk = s.clk ∧
      (s.sendPriv frame).1.timers = s.timers ∧ (s.sendPriv frame).1.evt = s.evt ∧ (s.sendPriv frame).1.rings = s.rings ∧
      (s.sendPriv frame).1.air = s.air ∧ (s.sendPriv frame).1.nets = s.nets ∧ (s.sendPriv frame).1.blendForce = s.blendForce ∧
      (s.sendPriv frame).1.node = s.node ∧ (s.sendPriv frame).1.hear = s.hear ∧ (s.sendPriv frame).1.kiln = s.kiln ∧
      (s.sendPriv frame).1.otp = s.otp ∧ (s.sendPriv frame).1.rx = s.rx ∧ (s.sendPriv frame).1.cask = s.cask ∧
      (s.sendPriv frame).1.sched = s.sched ∧ (s.sendPriv frame).1.tx = s.tx ∧ (s.sendPriv frame).1.tun = s.tun ∧
      (s.sendPriv frame).1.boot = s.boot ∧ (s.sendPriv frame).1.bcast = s.bcast ∧ (s.sendPriv frame).1.pending = s.pending ∧
      (s.sendPriv frame).1.free = s.free := by
  and_intros <;> (simp only [State.sendPriv]; split <;> simp)

@[simp] theorem State.alarm_frame (s : State) (src detail : Nat) :
    (s.alarm src detail).1.part = s.part ∧ (s.alarm src detail).1.regs = s.regs ∧ (s.alarm src detail).1.power = s.power ∧
      (s.alarm src detail).1.watch = s.watch ∧ (s.alarm src detail).1.time = s.time ∧ (s.alarm src detail).1.clk = s.clk ∧
      (s.alarm src detail).1.timers = s.timers ∧ (s.alarm src detail).1.evt = s.evt ∧ (s.alarm src detail).1.rings = s.rings ∧
      (s.alarm src detail).1.air = s.air ∧ (s.alarm src detail).1.nets = s.nets ∧ (s.alarm src detail).1.blendForce = s.blendForce ∧
      (s.alarm src detail).1.node = s.node ∧ (s.alarm src detail).1.hear = s.hear ∧ (s.alarm src detail).1.kiln = s.kiln ∧
      (s.alarm src detail).1.otp = s.otp ∧ (s.alarm src detail).1.rx = s.rx ∧ (s.alarm src detail).1.cask = s.cask ∧
      (s.alarm src detail).1.sched = s.sched ∧ (s.alarm src detail).1.tx = s.tx ∧ (s.alarm src detail).1.tun = s.tun ∧
      (s.alarm src detail).1.boot = s.boot ∧ (s.alarm src detail).1.bcast = s.bcast ∧ (s.alarm src detail).1.pending = s.pending ∧
      (s.alarm src detail).1.free = s.free := by
  and_intros <;> (simp only [State.alarm]; split <;> simp)

@[simp] theorem State.deliverEvent_frame (s : State) (src detail : Nat) :
    (s.deliverEvent src detail).1.part = s.part ∧ (s.deliverEvent src detail).1.regs = s.regs ∧ (s.deliverEvent src detail).1.stats = s.stats ∧
      (s.deliverEvent src detail).1.power = s.power ∧ (s.deliverEvent src detail).1.watch = s.watch ∧ (s.deliverEvent src detail).1.time = s.time ∧
      (s.deliverEvent src detail).1.clk = s.clk ∧ (s.deliverEvent src detail).1.timers = s.timers ∧ (s.deliverEvent src detail).1.eth = s.eth ∧
      (s.deliverEvent src detail).1.air = s.air ∧ (s.deliverEvent src detail).1.nets = s.nets ∧ (s.deliverEvent src detail).1.blendForce = s.blendForce ∧
      (s.deliverEvent src detail).1.node = s.node ∧ (s.deliverEvent src detail).1.hear = s.hear ∧ (s.deliverEvent src detail).1.kiln = s.kiln ∧
      (s.deliverEvent src detail).1.otp = s.otp ∧ (s.deliverEvent src detail).1.rx = s.rx ∧ (s.deliverEvent src detail).1.cask = s.cask ∧
      (s.deliverEvent src detail).1.sched = s.sched ∧ (s.deliverEvent src detail).1.tx = s.tx ∧ (s.deliverEvent src detail).1.tun = s.tun ∧
      (s.deliverEvent src detail).1.boot = s.boot ∧ (s.deliverEvent src detail).1.bcast = s.bcast ∧ (s.deliverEvent src detail).1.pending = s.pending ∧
      (s.deliverEvent src detail).1.free = s.free := by
  and_intros <;> (simp only [State.deliverEvent]; split <;> split <;> simp)

@[simp] theorem State.fire1_frame (s : State) (src detail : Nat) :
    (s.fire1 src detail).state.part = s.part ∧ (s.fire1 src detail).state.regs = s.regs ∧ (s.fire1 src detail).state.power = s.power ∧
      (s.fire1 src detail).state.watch = s.watch ∧ (s.fire1 src detail).state.time = s.time ∧ (s.fire1 src detail).state.clk = s.clk ∧
      (s.fire1 src detail).state.timers = s.timers ∧ (s.fire1 src detail).state.air = s.air ∧ (s.fire1 src detail).state.nets = s.nets ∧
      (s.fire1 src detail).state.blendForce = s.blendForce ∧ (s.fire1 src detail).state.node = s.node ∧ (s.fire1 src detail).state.hear = s.hear ∧
      (s.fire1 src detail).state.kiln = s.kiln ∧ (s.fire1 src detail).state.otp = s.otp ∧ (s.fire1 src detail).state.rx = s.rx ∧
      (s.fire1 src detail).state.cask = s.cask ∧ (s.fire1 src detail).state.sched = s.sched ∧ (s.fire1 src detail).state.tx = s.tx ∧
      (s.fire1 src detail).state.tun = s.tun ∧ (s.fire1 src detail).state.boot = s.boot ∧ (s.fire1 src detail).state.bcast = s.bcast ∧
      (s.fire1 src detail).state.pending = s.pending ∧ (s.fire1 src detail).state.free = s.free := by
  and_intros <;> (simp only [State.fire1]; split <;> simp)

@[simp] theorem State.disarm_frame (s : State) (src : Nat) :
    (s.disarm src).part = s.part ∧ (s.disarm src).regs = s.regs ∧ (s.disarm src).stats = s.stats ∧
      (s.disarm src).power = s.power ∧ (s.disarm src).watch = s.watch ∧ (s.disarm src).time = s.time ∧
      (s.disarm src).clk = s.clk ∧ (s.disarm src).timers = s.timers ∧ (s.disarm src).rings = s.rings ∧
      (s.disarm src).eth = s.eth ∧ (s.disarm src).safe = s.safe ∧ (s.disarm src).air = s.air ∧
      (s.disarm src).nets = s.nets ∧ (s.disarm src).blendForce = s.blendForce ∧ (s.disarm src).node = s.node ∧
      (s.disarm src).hear = s.hear ∧ (s.disarm src).kiln = s.kiln ∧ (s.disarm src).otp = s.otp ∧
      (s.disarm src).rx = s.rx ∧ (s.disarm src).cask = s.cask ∧ (s.disarm src).sched = s.sched ∧
      (s.disarm src).tx = s.tx ∧ (s.disarm src).tun = s.tun ∧ (s.disarm src).boot = s.boot ∧
      (s.disarm src).bcast = s.bcast ∧ (s.disarm src).pending = s.pending ∧ (s.disarm src).out = s.out ∧
      (s.disarm src).free = s.free := by
  and_intros <;> rfl

@[simp] theorem State.fireN_frame (k : Nat) (s : State) (src detail : Nat) :
    (State.fireN k s src detail).part = s.part ∧ (State.fireN k s src detail).regs = s.regs ∧ (State.fireN k s src detail).power = s.power ∧
      (State.fireN k s src detail).watch = s.watch ∧ (State.fireN k s src detail).time = s.time ∧ (State.fireN k s src detail).clk = s.clk ∧
      (State.fireN k s src detail).timers = s.timers ∧ (State.fireN k s src detail).air = s.air ∧ (State.fireN k s src detail).nets = s.nets ∧
      (State.fireN k s src detail).blendForce = s.blendForce ∧ (State.fireN k s src detail).node = s.node ∧ (State.fireN k s src detail).hear = s.hear ∧
      (State.fireN k s src detail).kiln = s.kiln ∧ (State.fireN k s src detail).otp = s.otp ∧ (State.fireN k s src detail).rx = s.rx ∧
      (State.fireN k s src detail).cask = s.cask ∧ (State.fireN k s src detail).sched = s.sched ∧ (State.fireN k s src detail).tx = s.tx ∧
      (State.fireN k s src detail).tun = s.tun ∧ (State.fireN k s src detail).boot = s.boot ∧ (State.fireN k s src detail).bcast = s.bcast ∧
      (State.fireN k s src detail).pending = s.pending ∧ (State.fireN k s src detail).free = s.free := by
  induction k generalizing s src detail with
  | zero => and_intros <;> simp [State.fireN]
  | succ k ih => and_intros <;> (simp only [State.fireN]; (repeat' split) <;> simp [ih])

@[simp] theorem State.fireD_frame (s : State) (src detail : Nat) :
    (s.fireD src detail).part = s.part ∧ (s.fireD src detail).regs = s.regs ∧ (s.fireD src detail).power = s.power ∧
      (s.fireD src detail).watch = s.watch ∧ (s.fireD src detail).time = s.time ∧ (s.fireD src detail).clk = s.clk ∧
      (s.fireD src detail).timers = s.timers ∧ (s.fireD src detail).air = s.air ∧ (s.fireD src detail).nets = s.nets ∧
      (s.fireD src detail).blendForce = s.blendForce ∧ (s.fireD src detail).node = s.node ∧ (s.fireD src detail).hear = s.hear ∧
      (s.fireD src detail).kiln = s.kiln ∧ (s.fireD src detail).otp = s.otp ∧ (s.fireD src detail).rx = s.rx ∧
      (s.fireD src detail).cask = s.cask ∧ (s.fireD src detail).sched = s.sched ∧ (s.fireD src detail).tx = s.tx ∧
      (s.fireD src detail).tun = s.tun ∧ (s.fireD src detail).boot = s.boot ∧ (s.fireD src detail).bcast = s.bcast ∧
      (s.fireD src detail).pending = s.pending ∧ (s.fireD src detail).free = s.free := by
  and_intros <;> simp [State.fireD]

@[simp] theorem State.fire_frame (s : State) (src : Nat) :
    (s.fire src).part = s.part ∧ (s.fire src).regs = s.regs ∧ (s.fire src).power = s.power ∧
      (s.fire src).watch = s.watch ∧ (s.fire src).time = s.time ∧ (s.fire src).clk = s.clk ∧
      (s.fire src).timers = s.timers ∧ (s.fire src).air = s.air ∧ (s.fire src).nets = s.nets ∧
      (s.fire src).blendForce = s.blendForce ∧ (s.fire src).node = s.node ∧ (s.fire src).hear = s.hear ∧
      (s.fire src).kiln = s.kiln ∧ (s.fire src).otp = s.otp ∧ (s.fire src).rx = s.rx ∧
      (s.fire src).cask = s.cask ∧ (s.fire src).sched = s.sched ∧ (s.fire src).tx = s.tx ∧
      (s.fire src).tun = s.tun ∧ (s.fire src).boot = s.boot ∧ (s.fire src).bcast = s.bcast ∧
      (s.fire src).pending = s.pending ∧ (s.fire src).free = s.free := by
  and_intros <;> simp [State.fire]

@[simp] theorem State.fireOnce_frame (s : State) (src : Nat) :
    (s.fireOnce src).part = s.part ∧ (s.fireOnce src).regs = s.regs ∧ (s.fireOnce src).power = s.power ∧
      (s.fireOnce src).watch = s.watch ∧ (s.fireOnce src).time = s.time ∧ (s.fireOnce src).clk = s.clk ∧
      (s.fireOnce src).timers = s.timers ∧ (s.fireOnce src).air = s.air ∧ (s.fireOnce src).nets = s.nets ∧
      (s.fireOnce src).blendForce = s.blendForce ∧ (s.fireOnce src).node = s.node ∧ (s.fireOnce src).hear = s.hear ∧
      (s.fireOnce src).kiln = s.kiln ∧ (s.fireOnce src).otp = s.otp ∧ (s.fireOnce src).rx = s.rx ∧
      (s.fireOnce src).cask = s.cask ∧ (s.fireOnce src).sched = s.sched ∧ (s.fireOnce src).tx = s.tx ∧
      (s.fireOnce src).tun = s.tun ∧ (s.fireOnce src).boot = s.boot ∧ (s.fireOnce src).bcast = s.bcast ∧
      (s.fireOnce src).pending = s.pending ∧ (s.fireOnce src).free = s.free := by
  and_intros <;> (simp only [State.fireOnce]; (try repeat' split) <;> simp_all)

@[simp] theorem State.rearm_frame (s : State) (src : Nat) :
    (s.rearm src).part = s.part ∧ (s.rearm src).regs = s.regs ∧ (s.rearm src).stats = s.stats ∧
      (s.rearm src).power = s.power ∧ (s.rearm src).watch = s.watch ∧ (s.rearm src).time = s.time ∧
      (s.rearm src).clk = s.clk ∧ (s.rearm src).timers = s.timers ∧ (s.rearm src).rings = s.rings ∧
      (s.rearm src).eth = s.eth ∧ (s.rearm src).safe = s.safe ∧ (s.rearm src).air = s.air ∧
      (s.rearm src).nets = s.nets ∧ (s.rearm src).blendForce = s.blendForce ∧ (s.rearm src).node = s.node ∧
      (s.rearm src).hear = s.hear ∧ (s.rearm src).kiln = s.kiln ∧ (s.rearm src).otp = s.otp ∧
      (s.rearm src).rx = s.rx ∧ (s.rearm src).cask = s.cask ∧ (s.rearm src).sched = s.sched ∧
      (s.rearm src).tx = s.tx ∧ (s.rearm src).tun = s.tun ∧ (s.rearm src).boot = s.boot ∧
      (s.rearm src).bcast = s.bcast ∧ (s.rearm src).pending = s.pending ∧ (s.rearm src).out = s.out ∧
      (s.rearm src).free = s.free := by
  and_intros <;> rfl

@[simp] theorem State.halt_frame (s : State) (n : Nat) (st : Status) (a : Nat) :
    (s.halt n st a).part = s.part ∧ (s.halt n st a).regs = s.regs ∧ (s.halt n st a).power = s.power ∧
      (s.halt n st a).watch = s.watch ∧ (s.halt n st a).time = s.time ∧ (s.halt n st a).clk = s.clk ∧
      (s.halt n st a).timers = s.timers ∧ (s.halt n st a).air = s.air ∧ (s.halt n st a).nets = s.nets ∧
      (s.halt n st a).blendForce = s.blendForce ∧ (s.halt n st a).node = s.node ∧ (s.halt n st a).hear = s.hear ∧
      (s.halt n st a).kiln = s.kiln ∧ (s.halt n st a).otp = s.otp ∧ (s.halt n st a).rx = s.rx ∧
      (s.halt n st a).cask = s.cask ∧ (s.halt n st a).sched = s.sched ∧ (s.halt n st a).tx = s.tx ∧
      (s.halt n st a).tun = s.tun ∧ (s.halt n st a).boot = s.boot ∧ (s.halt n st a).bcast = s.bcast ∧
      (s.halt n st a).pending = s.pending ∧ (s.halt n st a).free = s.free := by
  and_intros <;> simp [State.halt]

@[simp] theorem State.afterPost_frame (s : State) (typ : Nat) (p : Posted) :
    (s.afterPost typ p).part = s.part ∧ (s.afterPost typ p).regs = s.regs ∧ (s.afterPost typ p).power = s.power ∧
      (s.afterPost typ p).watch = s.watch ∧ (s.afterPost typ p).time = s.time ∧ (s.afterPost typ p).clk = s.clk ∧
      (s.afterPost typ p).timers = s.timers ∧ (s.afterPost typ p).air = s.air ∧ (s.afterPost typ p).nets = s.nets ∧
      (s.afterPost typ p).blendForce = s.blendForce ∧ (s.afterPost typ p).node = s.node ∧ (s.afterPost typ p).hear = s.hear ∧
      (s.afterPost typ p).kiln = s.kiln ∧ (s.afterPost typ p).otp = s.otp ∧ (s.afterPost typ p).rx = s.rx ∧
      (s.afterPost typ p).cask = s.cask ∧ (s.afterPost typ p).sched = s.sched ∧ (s.afterPost typ p).tx = s.tx ∧
      (s.afterPost typ p).tun = s.tun ∧ (s.afterPost typ p).boot = s.boot ∧ (s.afterPost typ p).bcast = s.bcast ∧
      (s.afterPost typ p).pending = s.pending ∧ (s.afterPost typ p).free = s.free := by
  and_intros <;> (simp only [State.afterPost]; (repeat' split) <;> simp)

@[simp] theorem State.record_frame (s : State) (n typ : Nat) (b : List Byte) :
    (s.record n typ b).part = s.part ∧ (s.record n typ b).regs = s.regs ∧ (s.record n typ b).power = s.power ∧
      (s.record n typ b).watch = s.watch ∧ (s.record n typ b).time = s.time ∧ (s.record n typ b).clk = s.clk ∧
      (s.record n typ b).timers = s.timers ∧ (s.record n typ b).air = s.air ∧ (s.record n typ b).nets = s.nets ∧
      (s.record n typ b).blendForce = s.blendForce ∧ (s.record n typ b).node = s.node ∧ (s.record n typ b).hear = s.hear ∧
      (s.record n typ b).kiln = s.kiln ∧ (s.record n typ b).otp = s.otp ∧ (s.record n typ b).rx = s.rx ∧
      (s.record n typ b).cask = s.cask ∧ (s.record n typ b).sched = s.sched ∧ (s.record n typ b).tx = s.tx ∧
      (s.record n typ b).tun = s.tun ∧ (s.record n typ b).boot = s.boot ∧ (s.record n typ b).bcast = s.bcast ∧
      (s.record n typ b).pending = s.pending ∧ (s.record n typ b).free = s.free := by
  and_intros <;> simp [State.record]

@[simp] theorem State.storeLog_frame (s : State) (e : LogEntry) :
    (s.storeLog e).part = s.part ∧ (s.storeLog e).power = s.power ∧ (s.storeLog e).watch = s.watch ∧
      (s.storeLog e).time = s.time ∧ (s.storeLog e).clk = s.clk ∧ (s.storeLog e).timers = s.timers ∧
      (s.storeLog e).air = s.air ∧ (s.storeLog e).nets = s.nets ∧ (s.storeLog e).blendForce = s.blendForce ∧
      (s.storeLog e).node = s.node ∧ (s.storeLog e).hear = s.hear ∧ (s.storeLog e).kiln = s.kiln ∧
      (s.storeLog e).otp = s.otp ∧ (s.storeLog e).rx = s.rx ∧ (s.storeLog e).cask = s.cask ∧
      (s.storeLog e).sched = s.sched ∧ (s.storeLog e).tx = s.tx ∧ (s.storeLog e).tun = s.tun ∧
      (s.storeLog e).boot = s.boot ∧ (s.storeLog e).bcast = s.bcast ∧ (s.storeLog e).pending = s.pending ∧
      (s.storeLog e).free = s.free := by
  and_intros <;> (simp only [State.storeLog]; (try repeat' split) <;> simp_all)

@[simp] theorem State.logError_frame (s : State) (code unit : Nat) (uncorrectable fenced : Bool) (addr detail : Nat) :
    (s.logError code unit uncorrectable fenced addr detail).part = s.part ∧
      (s.logError code unit uncorrectable fenced addr detail).power = s.power ∧
      (s.logError code unit uncorrectable fenced addr detail).watch = s.watch ∧
      (s.logError code unit uncorrectable fenced addr detail).time = s.time ∧
      (s.logError code unit uncorrectable fenced addr detail).clk = s.clk ∧
      (s.logError code unit uncorrectable fenced addr detail).timers = s.timers ∧
      (s.logError code unit uncorrectable fenced addr detail).air = s.air ∧
      (s.logError code unit uncorrectable fenced addr detail).nets = s.nets ∧
      (s.logError code unit uncorrectable fenced addr detail).blendForce = s.blendForce ∧
      (s.logError code unit uncorrectable fenced addr detail).node = s.node ∧
      (s.logError code unit uncorrectable fenced addr detail).hear = s.hear ∧
      (s.logError code unit uncorrectable fenced addr detail).kiln = s.kiln ∧
      (s.logError code unit uncorrectable fenced addr detail).otp = s.otp ∧
      (s.logError code unit uncorrectable fenced addr detail).rx = s.rx ∧
      (s.logError code unit uncorrectable fenced addr detail).cask = s.cask ∧
      (s.logError code unit uncorrectable fenced addr detail).sched = s.sched ∧
      (s.logError code unit uncorrectable fenced addr detail).tx = s.tx ∧
      (s.logError code unit uncorrectable fenced addr detail).tun = s.tun ∧
      (s.logError code unit uncorrectable fenced addr detail).boot = s.boot ∧
      (s.logError code unit uncorrectable fenced addr detail).bcast = s.bcast ∧
      (s.logError code unit uncorrectable fenced addr detail).pending = s.pending ∧
      (s.logError code unit uncorrectable fenced addr detail).free = s.free := by
  and_intros <;> simp [State.logError]

@[simp] theorem State.accessFault_frame (s : State) (off : Nat) (k : AccessKind) (write bar2 : Bool) :
    (s.accessFault off k write bar2).part = s.part ∧ (s.accessFault off k write bar2).regs = s.regs ∧
      (s.accessFault off k write bar2).power = s.power ∧ (s.accessFault off k write bar2).watch = s.watch ∧
      (s.accessFault off k write bar2).time = s.time ∧ (s.accessFault off k write bar2).clk = s.clk ∧
      (s.accessFault off k write bar2).timers = s.timers ∧ (s.accessFault off k write bar2).air = s.air ∧
      (s.accessFault off k write bar2).nets = s.nets ∧ (s.accessFault off k write bar2).blendForce = s.blendForce ∧
      (s.accessFault off k write bar2).node = s.node ∧ (s.accessFault off k write bar2).hear = s.hear ∧
      (s.accessFault off k write bar2).kiln = s.kiln ∧ (s.accessFault off k write bar2).otp = s.otp ∧
      (s.accessFault off k write bar2).rx = s.rx ∧ (s.accessFault off k write bar2).cask = s.cask ∧
      (s.accessFault off k write bar2).sched = s.sched ∧ (s.accessFault off k write bar2).tx = s.tx ∧
      (s.accessFault off k write bar2).tun = s.tun ∧ (s.accessFault off k write bar2).boot = s.boot ∧
      (s.accessFault off k write bar2).bcast = s.bcast ∧ (s.accessFault off k write bar2).pending = s.pending ∧
      (s.accessFault off k write bar2).free = s.free := by
  and_intros <;> simp [State.accessFault]

@[simp] theorem State.illegal_frame (s : State) (off : Nat) :
    (s.illegal off).part = s.part ∧ (s.illegal off).regs = s.regs ∧ (s.illegal off).power = s.power ∧
      (s.illegal off).watch = s.watch ∧ (s.illegal off).time = s.time ∧ (s.illegal off).clk = s.clk ∧
      (s.illegal off).timers = s.timers ∧ (s.illegal off).air = s.air ∧ (s.illegal off).nets = s.nets ∧
      (s.illegal off).blendForce = s.blendForce ∧ (s.illegal off).node = s.node ∧ (s.illegal off).hear = s.hear ∧
      (s.illegal off).kiln = s.kiln ∧ (s.illegal off).otp = s.otp ∧ (s.illegal off).rx = s.rx ∧
      (s.illegal off).cask = s.cask ∧ (s.illegal off).sched = s.sched ∧ (s.illegal off).tx = s.tx ∧
      (s.illegal off).tun = s.tun ∧ (s.illegal off).boot = s.boot ∧ (s.illegal off).bcast = s.bcast ∧
      (s.illegal off).pending = s.pending ∧ (s.illegal off).free = s.free := by
  and_intros <;> simp [State.illegal]

@[simp] theorem State.readDone_frame (s : State) (func off data : Nat) :
    (s.readDone func off data).part = s.part ∧ (s.readDone func off data).regs = s.regs ∧ (s.readDone func off data).stats = s.stats ∧
      (s.readDone func off data).power = s.power ∧ (s.readDone func off data).watch = s.watch ∧ (s.readDone func off data).time = s.time ∧
      (s.readDone func off data).clk = s.clk ∧ (s.readDone func off data).timers = s.timers ∧ (s.readDone func off data).evt = s.evt ∧
      (s.readDone func off data).rings = s.rings ∧ (s.readDone func off data).eth = s.eth ∧ (s.readDone func off data).air = s.air ∧
      (s.readDone func off data).nets = s.nets ∧ (s.readDone func off data).blendForce = s.blendForce ∧ (s.readDone func off data).node = s.node ∧
      (s.readDone func off data).hear = s.hear ∧ (s.readDone func off data).kiln = s.kiln ∧ (s.readDone func off data).otp = s.otp ∧
      (s.readDone func off data).rx = s.rx ∧ (s.readDone func off data).cask = s.cask ∧ (s.readDone func off data).sched = s.sched ∧
      (s.readDone func off data).tx = s.tx ∧ (s.readDone func off data).tun = s.tun ∧ (s.readDone func off data).boot = s.boot ∧
      (s.readDone func off data).bcast = s.bcast ∧ (s.readDone func off data).pending = s.pending ∧ (s.readDone func off data).free = s.free := by
  and_intros <;> simp [State.readDone]

@[simp] theorem State.completeX_frame (s : State) (c : CmdRef) (st : Status) (attempts result seq : Nat) :
    (s.completeX c st attempts result seq).part = s.part ∧ (s.completeX c st attempts result seq).regs = s.regs ∧
      (s.completeX c st attempts result seq).power = s.power ∧ (s.completeX c st attempts result seq).watch = s.watch ∧
      (s.completeX c st attempts result seq).time = s.time ∧ (s.completeX c st attempts result seq).clk = s.clk ∧
      (s.completeX c st attempts result seq).timers = s.timers ∧ (s.completeX c st attempts result seq).air = s.air ∧
      (s.completeX c st attempts result seq).nets = s.nets ∧ (s.completeX c st attempts result seq).blendForce = s.blendForce ∧
      (s.completeX c st attempts result seq).node = s.node ∧ (s.completeX c st attempts result seq).hear = s.hear ∧
      (s.completeX c st attempts result seq).kiln = s.kiln ∧ (s.completeX c st attempts result seq).otp = s.otp ∧
      (s.completeX c st attempts result seq).rx = s.rx ∧ (s.completeX c st attempts result seq).cask = s.cask ∧
      (s.completeX c st attempts result seq).sched = s.sched ∧ (s.completeX c st attempts result seq).tx = s.tx ∧
      (s.completeX c st attempts result seq).tun = s.tun ∧ (s.completeX c st attempts result seq).boot = s.boot ∧
      (s.completeX c st attempts result seq).bcast = s.bcast ∧ (s.completeX c st attempts result seq).pending = s.pending ∧
      (s.completeX c st attempts result seq).free = s.free := by
  and_intros <;> simp [State.completeX]

@[simp] theorem State.complete_frame (s : State) (c : CmdRef) (st : Status) (result : Nat) :
    (s.complete c st result).part = s.part ∧ (s.complete c st result).regs = s.regs ∧ (s.complete c st result).power = s.power ∧
      (s.complete c st result).watch = s.watch ∧ (s.complete c st result).time = s.time ∧ (s.complete c st result).clk = s.clk ∧
      (s.complete c st result).timers = s.timers ∧ (s.complete c st result).air = s.air ∧ (s.complete c st result).nets = s.nets ∧
      (s.complete c st result).blendForce = s.blendForce ∧ (s.complete c st result).node = s.node ∧ (s.complete c st result).hear = s.hear ∧
      (s.complete c st result).kiln = s.kiln ∧ (s.complete c st result).otp = s.otp ∧ (s.complete c st result).rx = s.rx ∧
      (s.complete c st result).cask = s.cask ∧ (s.complete c st result).sched = s.sched ∧ (s.complete c st result).tx = s.tx ∧
      (s.complete c st result).tun = s.tun ∧ (s.complete c st result).boot = s.boot ∧ (s.complete c st result).bcast = s.bcast ∧
      (s.complete c st result).pending = s.pending ∧ (s.complete c st result).free = s.free := by
  and_intros <;> simp [State.complete]

@[simp] theorem State.passDescriptor_frame (s : State) (n : Nat) :
    (s.passDescriptor n).part = s.part ∧ (s.passDescriptor n).regs = s.regs ∧ (s.passDescriptor n).power = s.power ∧
      (s.passDescriptor n).watch = s.watch ∧ (s.passDescriptor n).time = s.time ∧ (s.passDescriptor n).clk = s.clk ∧
      (s.passDescriptor n).timers = s.timers ∧ (s.passDescriptor n).air = s.air ∧ (s.passDescriptor n).nets = s.nets ∧
      (s.passDescriptor n).blendForce = s.blendForce ∧ (s.passDescriptor n).node = s.node ∧ (s.passDescriptor n).hear = s.hear ∧
      (s.passDescriptor n).kiln = s.kiln ∧ (s.passDescriptor n).otp = s.otp ∧ (s.passDescriptor n).rx = s.rx ∧
      (s.passDescriptor n).cask = s.cask ∧ (s.passDescriptor n).sched = s.sched ∧ (s.passDescriptor n).tx = s.tx ∧
      (s.passDescriptor n).tun = s.tun ∧ (s.passDescriptor n).boot = s.boot ∧ (s.passDescriptor n).bcast = s.bcast ∧
      (s.passDescriptor n).pending = s.pending ∧ (s.passDescriptor n).free = s.free := by
  and_intros <;> (simp only [State.passDescriptor]; split <;> simp)

@[simp] theorem State.w1c_frame (s : State) (f : Fld) (v : Nat) :
    (s.w1c f v).part = s.part ∧ (s.w1c f v).stats = s.stats ∧ (s.w1c f v).power = s.power ∧
      (s.w1c f v).watch = s.watch ∧ (s.w1c f v).time = s.time ∧ (s.w1c f v).clk = s.clk ∧
      (s.w1c f v).timers = s.timers ∧ (s.w1c f v).evt = s.evt ∧ (s.w1c f v).rings = s.rings ∧
      (s.w1c f v).eth = s.eth ∧ (s.w1c f v).safe = s.safe ∧ (s.w1c f v).air = s.air ∧
      (s.w1c f v).nets = s.nets ∧ (s.w1c f v).blendForce = s.blendForce ∧ (s.w1c f v).node = s.node ∧
      (s.w1c f v).hear = s.hear ∧ (s.w1c f v).kiln = s.kiln ∧ (s.w1c f v).otp = s.otp ∧
      (s.w1c f v).rx = s.rx ∧ (s.w1c f v).cask = s.cask ∧ (s.w1c f v).sched = s.sched ∧
      (s.w1c f v).tx = s.tx ∧ (s.w1c f v).tun = s.tun ∧ (s.w1c f v).boot = s.boot ∧
      (s.w1c f v).bcast = s.bcast ∧ (s.w1c f v).pending = s.pending ∧ (s.w1c f v).out = s.out ∧
      (s.w1c f v).free = s.free := by
  and_intros <;> simp [State.w1c]

@[simp] theorem State.raise_frame (s : State) (flag : Fld) (f j : Nat) :
    (s.raise flag f j).part = s.part ∧ (s.raise flag f j).power = s.power ∧ (s.raise flag f j).watch = s.watch ∧
      (s.raise flag f j).time = s.time ∧ (s.raise flag f j).clk = s.clk ∧ (s.raise flag f j).timers = s.timers ∧
      (s.raise flag f j).air = s.air ∧ (s.raise flag f j).nets = s.nets ∧ (s.raise flag f j).blendForce = s.blendForce ∧
      (s.raise flag f j).node = s.node ∧ (s.raise flag f j).hear = s.hear ∧ (s.raise flag f j).kiln = s.kiln ∧
      (s.raise flag f j).otp = s.otp ∧ (s.raise flag f j).rx = s.rx ∧ (s.raise flag f j).cask = s.cask ∧
      (s.raise flag f j).sched = s.sched ∧ (s.raise flag f j).tx = s.tx ∧ (s.raise flag f j).tun = s.tun ∧
      (s.raise flag f j).boot = s.boot ∧ (s.raise flag f j).bcast = s.bcast ∧ (s.raise flag f j).pending = s.pending ∧
      (s.raise flag f j).free = s.free := by
  and_intros <;> simp [State.raise]

@[simp] theorem State.showUse_frame (s : State) (use peak : Fld) (n : Nat) :
    (s.showUse use peak n).part = s.part ∧ (s.showUse use peak n).stats = s.stats ∧ (s.showUse use peak n).power = s.power ∧
      (s.showUse use peak n).watch = s.watch ∧ (s.showUse use peak n).time = s.time ∧ (s.showUse use peak n).clk = s.clk ∧
      (s.showUse use peak n).timers = s.timers ∧ (s.showUse use peak n).evt = s.evt ∧ (s.showUse use peak n).rings = s.rings ∧
      (s.showUse use peak n).eth = s.eth ∧ (s.showUse use peak n).safe = s.safe ∧ (s.showUse use peak n).air = s.air ∧
      (s.showUse use peak n).nets = s.nets ∧ (s.showUse use peak n).blendForce = s.blendForce ∧ (s.showUse use peak n).node = s.node ∧
      (s.showUse use peak n).hear = s.hear ∧ (s.showUse use peak n).kiln = s.kiln ∧ (s.showUse use peak n).otp = s.otp ∧
      (s.showUse use peak n).rx = s.rx ∧ (s.showUse use peak n).cask = s.cask ∧ (s.showUse use peak n).sched = s.sched ∧
      (s.showUse use peak n).tx = s.tx ∧ (s.showUse use peak n).tun = s.tun ∧ (s.showUse use peak n).boot = s.boot ∧
      (s.showUse use peak n).bcast = s.bcast ∧ (s.showUse use peak n).pending = s.pending ∧ (s.showUse use peak n).out = s.out ∧
      (s.showUse use peak n).free = s.free := by
  and_intros <;> simp [State.showUse]

@[simp] theorem State.reloadPeak_frame (s : State) (use peak : Fld) :
    (s.reloadPeak use peak).part = s.part ∧ (s.reloadPeak use peak).stats = s.stats ∧ (s.reloadPeak use peak).power = s.power ∧
      (s.reloadPeak use peak).watch = s.watch ∧ (s.reloadPeak use peak).time = s.time ∧ (s.reloadPeak use peak).clk = s.clk ∧
      (s.reloadPeak use peak).timers = s.timers ∧ (s.reloadPeak use peak).evt = s.evt ∧ (s.reloadPeak use peak).rings = s.rings ∧
      (s.reloadPeak use peak).eth = s.eth ∧ (s.reloadPeak use peak).safe = s.safe ∧ (s.reloadPeak use peak).air = s.air ∧
      (s.reloadPeak use peak).nets = s.nets ∧ (s.reloadPeak use peak).blendForce = s.blendForce ∧ (s.reloadPeak use peak).node = s.node ∧
      (s.reloadPeak use peak).hear = s.hear ∧ (s.reloadPeak use peak).kiln = s.kiln ∧ (s.reloadPeak use peak).otp = s.otp ∧
      (s.reloadPeak use peak).rx = s.rx ∧ (s.reloadPeak use peak).cask = s.cask ∧ (s.reloadPeak use peak).sched = s.sched ∧
      (s.reloadPeak use peak).tx = s.tx ∧ (s.reloadPeak use peak).tun = s.tun ∧ (s.reloadPeak use peak).boot = s.boot ∧
      (s.reloadPeak use peak).bcast = s.bcast ∧ (s.reloadPeak use peak).pending = s.pending ∧ (s.reloadPeak use peak).out = s.out ∧
      (s.reloadPeak use peak).free = s.free := by
  and_intros <;> simp [State.reloadPeak]

@[simp] theorem State.latchCause_frame (s : State) (k : Nat) :
    (s.latchCause k).part = s.part ∧ (s.latchCause k).stats = s.stats ∧ (s.latchCause k).power = s.power ∧
      (s.latchCause k).watch = s.watch ∧ (s.latchCause k).time = s.time ∧ (s.latchCause k).clk = s.clk ∧
      (s.latchCause k).timers = s.timers ∧ (s.latchCause k).evt = s.evt ∧ (s.latchCause k).rings = s.rings ∧
      (s.latchCause k).eth = s.eth ∧ (s.latchCause k).safe = s.safe ∧ (s.latchCause k).air = s.air ∧
      (s.latchCause k).nets = s.nets ∧ (s.latchCause k).blendForce = s.blendForce ∧ (s.latchCause k).node = s.node ∧
      (s.latchCause k).hear = s.hear ∧ (s.latchCause k).kiln = s.kiln ∧ (s.latchCause k).otp = s.otp ∧
      (s.latchCause k).rx = s.rx ∧ (s.latchCause k).cask = s.cask ∧ (s.latchCause k).sched = s.sched ∧
      (s.latchCause k).tx = s.tx ∧ (s.latchCause k).tun = s.tun ∧ (s.latchCause k).boot = s.boot ∧
      (s.latchCause k).bcast = s.bcast ∧ (s.latchCause k).pending = s.pending ∧ (s.latchCause k).out = s.out ∧
      (s.latchCause k).free = s.free := by
  and_intros <;> simp [State.latchCause]

/-! ### Fields that an operation leaves -/

@[simp] theorem State.bumpBy_get (s : State) (f : Fld) (n : Nat) (g : Fld) :
    (s.bumpBy f n).get g = s.get g :=
  State.get_of_regs (by simp) g

@[simp] theorem State.bumpBy_on (s : State) (f : Fld) (n : Nat) (g : Fld) :
    (s.bumpBy f n).on g = s.on g :=
  State.on_of_regs (by simp) g

@[simp] theorem State.bump_get (s : State) (f : Fld) (g : Fld) :
    (s.bump f).get g = s.get g :=
  State.get_of_regs (by simp) g

@[simp] theorem State.bump_on (s : State) (f : Fld) (g : Fld) :
    (s.bump f).on g = s.on g :=
  State.on_of_regs (by simp) g

@[simp] theorem State.bumpSat_get (s : State) (f : Fld) (g : Fld) :
    (s.bumpSat f).get g = s.get g :=
  State.get_of_regs (by simp) g

@[simp] theorem State.bumpSat_on (s : State) (f : Fld) (g : Fld) :
    (s.bumpSat f).on g = s.on g :=
  State.on_of_regs (by simp) g

@[simp] theorem State.spend_get (s : State) (n : Nat) (g : Fld) :
    (s.spend n).get g = s.get g :=
  State.get_of_regs (by simp) g

@[simp] theorem State.spend_on (s : State) (n : Nat) (g : Fld) :
    (s.spend n).on g = s.on g :=
  State.on_of_regs (by simp) g

@[simp] theorem State.samples_get (s : State) (n : Nat) (g : Fld) :
    (s.samples n).1.get g = s.get g :=
  State.get_of_regs (by simp) g

@[simp] theorem State.samples_on (s : State) (n : Nat) (g : Fld) :
    (s.samples n).1.on g = s.on g :=
  State.on_of_regs (by simp) g

@[simp] theorem State.seedDrbg_get (s : State) (g : Fld) :
    s.seedDrbg.get g = s.get g :=
  State.get_of_regs (by simp) g

@[simp] theorem State.seedDrbg_on (s : State) (g : Fld) :
    s.seedDrbg.on g = s.on g :=
  State.on_of_regs (by simp) g

@[simp] theorem State.draw_get (s : State) (n : Nat) (g : Fld) :
    (s.draw n).1.get g = s.get g :=
  State.get_of_regs (by simp) g

@[simp] theorem State.draw_on (s : State) (n : Nat) (g : Fld) :
    (s.draw n).1.on g = s.on g :=
  State.on_of_regs (by simp) g

@[simp] theorem State.drawNum_get (s : State) (g : Fld) :
    s.drawNum.1.get g = s.get g :=
  State.get_of_regs (by simp) g

@[simp] theorem State.drawNum_on (s : State) (g : Fld) :
    s.drawNum.1.on g = s.on g :=
  State.on_of_regs (by simp) g

@[simp] theorem State.emit_get (s : State) (o : Output) (g : Fld) :
    (s.emit o).get g = s.get g :=
  State.get_of_regs (by simp) g

@[simp] theorem State.emit_on (s : State) (o : Output) (g : Fld) :
    (s.emit o).on g = s.on g :=
  State.on_of_regs (by simp) g

@[simp] theorem State.emitNow_get (s : State) (o : Output) (g : Fld) :
    (s.emitNow o).get g = s.get g :=
  State.get_of_regs (by simp) g

@[simp] theorem State.emitNow_on (s : State) (o : Output) (g : Fld) :
    (s.emitNow o).on g = s.on g :=
  State.on_of_regs (by simp) g

@[simp] theorem State.setRing_get (s : State) (n : Nat) (r : RingRun) (g : Fld) :
    (s.setRing n r).get g = s.get g :=
  State.get_of_regs (by simp) g

@[simp] theorem State.setRing_on (s : State) (n : Nat) (r : RingRun) (g : Fld) :
    (s.setRing n r).on g = s.on g :=
  State.on_of_regs (by simp) g

@[simp] theorem State.drop_get (s : State) (n : Nat) (g : Fld) :
    (s.drop n).get g = s.get g :=
  State.get_of_regs (by simp) g

@[simp] theorem State.drop_on (s : State) (n : Nat) (g : Fld) :
    (s.drop n).on g = s.on g :=
  State.on_of_regs (by simp) g

@[simp] theorem State.dmaWrite_get (s : State) (a : Nat) (b : List Byte) (g : Fld) :
    (s.dmaWrite a b).get g = s.get g :=
  State.get_of_regs (by simp) g

@[simp] theorem State.dmaWrite_on (s : State) (a : Nat) (b : List Byte) (g : Fld) :
    (s.dmaWrite a b).on g = s.on g :=
  State.on_of_regs (by simp) g

@[simp] theorem State.dmaRead_get (s : State) (a n : Nat) (g : Fld) :
    (s.dmaRead a n).get g = s.get g :=
  State.get_of_regs (by simp) g

@[simp] theorem State.dmaRead_on (s : State) (a n : Nat) (g : Fld) :
    (s.dmaRead a n).on g = s.on g :=
  State.on_of_regs (by simp) g

@[simp] theorem State.postIndex_get (s : State) (n : Nat) (g : Fld) :
    (s.postIndex n).1.get g = s.get g :=
  State.get_of_regs (by simp) g

@[simp] theorem State.postIndex_on (s : State) (n : Nat) (g : Fld) :
    (s.postIndex n).1.on g = s.on g :=
  State.on_of_regs (by simp) g

@[simp] theorem State.post_get (s : State) (n typ : Nat) (b : List Byte) (g : Fld) :
    (s.post n typ b).1.get g = s.get g :=
  State.get_of_regs (by simp) g

@[simp] theorem State.post_on (s : State) (n typ : Nat) (b : List Byte) (g : Fld) :
    (s.post n typ b).1.on g = s.on g :=
  State.on_of_regs (by simp) g

@[simp] theorem State.haltRing_get (s : State) (n : Nat) (st : Status) (a : Nat) (g : Fld) :
    (s.haltRing n st a).get g = s.get g :=
  State.get_of_regs (by simp) g

@[simp] theorem State.haltRing_on (s : State) (n : Nat) (st : Status) (a : Nat) (g : Fld) :
    (s.haltRing n st a).on g = s.on g :=
  State.on_of_regs (by simp) g

@[simp] theorem State.sendVector_get (s : State) (v : Nat) (g : Fld) :
    (s.sendVector v).get g = s.get g :=
  State.get_of_regs (by simp) g

@[simp] theorem State.sendVector_on (s : State) (v : Nat) (g : Fld) :
    (s.sendVector v).on g = s.on g :=
  State.on_of_regs (by simp) g

@[simp] theorem State.signal_get (s : State) (v : Nat) (g : Fld) :
    (s.signal v).get g = s.get g :=
  State.get_of_regs (by simp) g

@[simp] theorem State.signal_on (s : State) (v : Nat) (g : Fld) :
    (s.signal v).on g = s.on g :=
  State.on_of_regs (by simp) g

@[simp] theorem State.setTxPort_get (s : State) (h p : Nat) (t : TxPort) (g : Fld) :
    (s.setTxPort h p t).get g = s.get g :=
  State.get_of_regs (by simp) g

@[simp] theorem State.setTxPort_on (s : State) (h p : Nat) (t : TxPort) (g : Fld) :
    (s.setTxPort h p t).on g = s.on g :=
  State.on_of_regs (by simp) g

@[simp] theorem State.toLine_get (s : State) (h p : Nat) (b : Bool) (f : List Byte) (g : Fld) :
    (s.toLine h p b f).get g = s.get g :=
  State.get_of_regs (by simp) g

@[simp] theorem State.toLine_on (s : State) (h p : Nat) (b : Bool) (f : List Byte) (g : Fld) :
    (s.toLine h p b f).on g = s.on g :=
  State.on_of_regs (by simp) g

@[simp] theorem State.drainPort_get (s : State) (h p : Nat) (g : Fld) :
    (s.drainPort h p).get g = s.get g :=
  State.get_of_regs (by simp) g

@[simp] theorem State.drainPort_on (s : State) (h p : Nat) (g : Fld) :
    (s.drainPort h p).on g = s.on g :=
  State.on_of_regs (by simp) g

@[simp] theorem State.queueFrame_get (s : State) (h p : Nat) (b : Bool) (f : List Byte) (g : Fld) :
    (s.queueFrame h p b f).1.get g = s.get g :=
  State.get_of_regs (by simp) g

@[simp] theorem State.queueFrame_on (s : State) (h p : Nat) (b : Bool) (f : List Byte) (g : Fld) :
    (s.queueFrame h p b f).1.on g = s.on g :=
  State.on_of_regs (by simp) g

@[simp] theorem State.privCopies_get (s : State) (frame : List Byte) (g : Fld) :
    (s.privCopies frame).1.get g = s.get g :=
  State.get_of_regs (by simp) g

@[simp] theorem State.privCopies_on (s : State) (frame : List Byte) (g : Fld) :
    (s.privCopies frame).1.on g = s.on g :=
  State.on_of_regs (by simp) g

@[simp] theorem State.nextPrp_get (s : State) (g : Fld) :
    s.nextPrp.get g = s.get g :=
  State.get_of_regs (by simp) g

@[simp] theorem State.nextPrp_on (s : State) (g : Fld) :
    s.nextPrp.on g = s.on g :=
  State.on_of_regs (by simp) g

@[simp] theorem State.sendPriv_get (s : State) (frame : List Byte) (g : Fld) :
    (s.sendPriv frame).1.get g = s.get g :=
  State.get_of_regs (by simp) g

@[simp] theorem State.sendPriv_on (s : State) (frame : List Byte) (g : Fld) :
    (s.sendPriv frame).1.on g = s.on g :=
  State.on_of_regs (by simp) g

@[simp] theorem State.alarm_get (s : State) (src detail : Nat) (g : Fld) :
    (s.alarm src detail).1.get g = s.get g :=
  State.get_of_regs (by simp) g

@[simp] theorem State.alarm_on (s : State) (src detail : Nat) (g : Fld) :
    (s.alarm src detail).1.on g = s.on g :=
  State.on_of_regs (by simp) g

@[simp] theorem State.deliverEvent_get (s : State) (src detail : Nat) (g : Fld) :
    (s.deliverEvent src detail).1.get g = s.get g :=
  State.get_of_regs (by simp) g

@[simp] theorem State.deliverEvent_on (s : State) (src detail : Nat) (g : Fld) :
    (s.deliverEvent src detail).1.on g = s.on g :=
  State.on_of_regs (by simp) g

@[simp] theorem State.fire1_get (s : State) (src detail : Nat) (g : Fld) :
    (s.fire1 src detail).state.get g = s.get g :=
  State.get_of_regs (by simp) g

@[simp] theorem State.fire1_on (s : State) (src detail : Nat) (g : Fld) :
    (s.fire1 src detail).state.on g = s.on g :=
  State.on_of_regs (by simp) g

@[simp] theorem State.disarm_get (s : State) (src : Nat) (g : Fld) :
    (s.disarm src).get g = s.get g :=
  State.get_of_regs (by simp) g

@[simp] theorem State.disarm_on (s : State) (src : Nat) (g : Fld) :
    (s.disarm src).on g = s.on g :=
  State.on_of_regs (by simp) g

@[simp] theorem State.fireN_get (k : Nat) (s : State) (src detail : Nat) (g : Fld) :
    (State.fireN k s src detail).get g = s.get g :=
  State.get_of_regs (by simp) g

@[simp] theorem State.fireN_on (k : Nat) (s : State) (src detail : Nat) (g : Fld) :
    (State.fireN k s src detail).on g = s.on g :=
  State.on_of_regs (by simp) g

@[simp] theorem State.fireD_get (s : State) (src detail : Nat) (g : Fld) :
    (s.fireD src detail).get g = s.get g :=
  State.get_of_regs (by simp) g

@[simp] theorem State.fireD_on (s : State) (src detail : Nat) (g : Fld) :
    (s.fireD src detail).on g = s.on g :=
  State.on_of_regs (by simp) g

@[simp] theorem State.fire_get (s : State) (src : Nat) (g : Fld) :
    (s.fire src).get g = s.get g :=
  State.get_of_regs (by simp) g

@[simp] theorem State.fire_on (s : State) (src : Nat) (g : Fld) :
    (s.fire src).on g = s.on g :=
  State.on_of_regs (by simp) g

@[simp] theorem State.fireOnce_get (s : State) (src : Nat) (g : Fld) :
    (s.fireOnce src).get g = s.get g :=
  State.get_of_regs (by simp) g

@[simp] theorem State.fireOnce_on (s : State) (src : Nat) (g : Fld) :
    (s.fireOnce src).on g = s.on g :=
  State.on_of_regs (by simp) g

@[simp] theorem State.rearm_get (s : State) (src : Nat) (g : Fld) :
    (s.rearm src).get g = s.get g :=
  State.get_of_regs (by simp) g

@[simp] theorem State.rearm_on (s : State) (src : Nat) (g : Fld) :
    (s.rearm src).on g = s.on g :=
  State.on_of_regs (by simp) g

@[simp] theorem State.halt_get (s : State) (n : Nat) (st : Status) (a : Nat) (g : Fld) :
    (s.halt n st a).get g = s.get g :=
  State.get_of_regs (by simp) g

@[simp] theorem State.halt_on (s : State) (n : Nat) (st : Status) (a : Nat) (g : Fld) :
    (s.halt n st a).on g = s.on g :=
  State.on_of_regs (by simp) g

@[simp] theorem State.afterPost_get (s : State) (typ : Nat) (p : Posted) (g : Fld) :
    (s.afterPost typ p).get g = s.get g :=
  State.get_of_regs (by simp) g

@[simp] theorem State.afterPost_on (s : State) (typ : Nat) (p : Posted) (g : Fld) :
    (s.afterPost typ p).on g = s.on g :=
  State.on_of_regs (by simp) g

@[simp] theorem State.record_get (s : State) (n typ : Nat) (b : List Byte) (g : Fld) :
    (s.record n typ b).get g = s.get g :=
  State.get_of_regs (by simp) g

@[simp] theorem State.record_on (s : State) (n typ : Nat) (b : List Byte) (g : Fld) :
    (s.record n typ b).on g = s.on g :=
  State.on_of_regs (by simp) g

@[simp] theorem State.accessFault_get (s : State) (off : Nat) (k : AccessKind) (write bar2 : Bool) (g : Fld) :
    (s.accessFault off k write bar2).get g = s.get g :=
  State.get_of_regs (by simp) g

@[simp] theorem State.accessFault_on (s : State) (off : Nat) (k : AccessKind) (write bar2 : Bool) (g : Fld) :
    (s.accessFault off k write bar2).on g = s.on g :=
  State.on_of_regs (by simp) g

@[simp] theorem State.illegal_get (s : State) (off : Nat) (g : Fld) :
    (s.illegal off).get g = s.get g :=
  State.get_of_regs (by simp) g

@[simp] theorem State.illegal_on (s : State) (off : Nat) (g : Fld) :
    (s.illegal off).on g = s.on g :=
  State.on_of_regs (by simp) g

@[simp] theorem State.readDone_get (s : State) (func off data : Nat) (g : Fld) :
    (s.readDone func off data).get g = s.get g :=
  State.get_of_regs (by simp) g

@[simp] theorem State.readDone_on (s : State) (func off data : Nat) (g : Fld) :
    (s.readDone func off data).on g = s.on g :=
  State.on_of_regs (by simp) g

@[simp] theorem State.completeX_get (s : State) (c : CmdRef) (st : Status) (attempts result seq : Nat) (g : Fld) :
    (s.completeX c st attempts result seq).get g = s.get g :=
  State.get_of_regs (by simp) g

@[simp] theorem State.completeX_on (s : State) (c : CmdRef) (st : Status) (attempts result seq : Nat) (g : Fld) :
    (s.completeX c st attempts result seq).on g = s.on g :=
  State.on_of_regs (by simp) g

@[simp] theorem State.complete_get (s : State) (c : CmdRef) (st : Status) (result : Nat) (g : Fld) :
    (s.complete c st result).get g = s.get g :=
  State.get_of_regs (by simp) g

@[simp] theorem State.complete_on (s : State) (c : CmdRef) (st : Status) (result : Nat) (g : Fld) :
    (s.complete c st result).on g = s.on g :=
  State.on_of_regs (by simp) g

@[simp] theorem State.passDescriptor_get (s : State) (n : Nat) (g : Fld) :
    (s.passDescriptor n).get g = s.get g :=
  State.get_of_regs (by simp) g

@[simp] theorem State.passDescriptor_on (s : State) (n : Nat) (g : Fld) :
    (s.passDescriptor n).on g = s.on g :=
  State.on_of_regs (by simp) g

@[simp] theorem State.put_stat (s : State) (f : Fld) (v : Nat) (g : Fld) :
    (s.put f v).stat g = s.stat g :=
  State.stat_of_stats (by simp) g

@[simp] theorem State.incSat_stat (s : State) (f : Fld) (g : Fld) :
    (s.incSat f).stat g = s.stat g :=
  State.stat_of_stats (by simp) g

@[simp] theorem State.spend_stat (s : State) (n : Nat) (g : Fld) :
    (s.spend n).stat g = s.stat g :=
  State.stat_of_stats (by simp) g

@[simp] theorem State.samples_stat (s : State) (n : Nat) (g : Fld) :
    (s.samples n).1.stat g = s.stat g :=
  State.stat_of_stats (by simp) g

@[simp] theorem State.seedDrbg_stat (s : State) (g : Fld) :
    s.seedDrbg.stat g = s.stat g :=
  State.stat_of_stats (by simp) g

@[simp] theorem State.draw_stat (s : State) (n : Nat) (g : Fld) :
    (s.draw n).1.stat g = s.stat g :=
  State.stat_of_stats (by simp) g

@[simp] theorem State.drawNum_stat (s : State) (g : Fld) :
    s.drawNum.1.stat g = s.stat g :=
  State.stat_of_stats (by simp) g

@[simp] theorem State.emit_stat (s : State) (o : Output) (g : Fld) :
    (s.emit o).stat g = s.stat g :=
  State.stat_of_stats (by simp) g

@[simp] theorem State.emitNow_stat (s : State) (o : Output) (g : Fld) :
    (s.emitNow o).stat g = s.stat g :=
  State.stat_of_stats (by simp) g

@[simp] theorem State.setRing_stat (s : State) (n : Nat) (r : RingRun) (g : Fld) :
    (s.setRing n r).stat g = s.stat g :=
  State.stat_of_stats (by simp) g

@[simp] theorem State.drop_stat (s : State) (n : Nat) (g : Fld) :
    (s.drop n).stat g = s.stat g :=
  State.stat_of_stats (by simp) g

@[simp] theorem State.dmaWrite_stat (s : State) (a : Nat) (b : List Byte) (g : Fld) :
    (s.dmaWrite a b).stat g = s.stat g :=
  State.stat_of_stats (by simp) g

@[simp] theorem State.dmaRead_stat (s : State) (a n : Nat) (g : Fld) :
    (s.dmaRead a n).stat g = s.stat g :=
  State.stat_of_stats (by simp) g

@[simp] theorem State.postIndex_stat (s : State) (n : Nat) (g : Fld) :
    (s.postIndex n).1.stat g = s.stat g :=
  State.stat_of_stats (by simp) g

@[simp] theorem State.post_stat (s : State) (n typ : Nat) (b : List Byte) (g : Fld) :
    (s.post n typ b).1.stat g = s.stat g :=
  State.stat_of_stats (by simp) g

@[simp] theorem State.haltRing_stat (s : State) (n : Nat) (st : Status) (a : Nat) (g : Fld) :
    (s.haltRing n st a).stat g = s.stat g :=
  State.stat_of_stats (by simp) g

@[simp] theorem State.sendVector_stat (s : State) (v : Nat) (g : Fld) :
    (s.sendVector v).stat g = s.stat g :=
  State.stat_of_stats (by simp) g

@[simp] theorem State.signal_stat (s : State) (v : Nat) (g : Fld) :
    (s.signal v).stat g = s.stat g :=
  State.stat_of_stats (by simp) g

@[simp] theorem State.setTxPort_stat (s : State) (h p : Nat) (t : TxPort) (g : Fld) :
    (s.setTxPort h p t).stat g = s.stat g :=
  State.stat_of_stats (by simp) g

@[simp] theorem State.toLine_stat (s : State) (h p : Nat) (b : Bool) (f : List Byte) (g : Fld) :
    (s.toLine h p b f).stat g = s.stat g :=
  State.stat_of_stats (by simp) g

@[simp] theorem State.drainPort_stat (s : State) (h p : Nat) (g : Fld) :
    (s.drainPort h p).stat g = s.stat g :=
  State.stat_of_stats (by simp) g

@[simp] theorem State.queueFrame_stat (s : State) (h p : Nat) (b : Bool) (f : List Byte) (g : Fld) :
    (s.queueFrame h p b f).1.stat g = s.stat g :=
  State.stat_of_stats (by simp) g

@[simp] theorem State.privCopies_stat (s : State) (frame : List Byte) (g : Fld) :
    (s.privCopies frame).1.stat g = s.stat g :=
  State.stat_of_stats (by simp) g

@[simp] theorem State.nextPrp_stat (s : State) (g : Fld) :
    s.nextPrp.stat g = s.stat g :=
  State.stat_of_stats (by simp) g

@[simp] theorem State.deliverEvent_stat (s : State) (src detail : Nat) (g : Fld) :
    (s.deliverEvent src detail).1.stat g = s.stat g :=
  State.stat_of_stats (by simp) g

@[simp] theorem State.disarm_stat (s : State) (src : Nat) (g : Fld) :
    (s.disarm src).stat g = s.stat g :=
  State.stat_of_stats (by simp) g

@[simp] theorem State.rearm_stat (s : State) (src : Nat) (g : Fld) :
    (s.rearm src).stat g = s.stat g :=
  State.stat_of_stats (by simp) g

@[simp] theorem State.readDone_stat (s : State) (func off data : Nat) (g : Fld) :
    (s.readDone func off data).stat g = s.stat g :=
  State.stat_of_stats (by simp) g

@[simp] theorem State.w1c_stat (s : State) (f : Fld) (v : Nat) (g : Fld) :
    (s.w1c f v).stat g = s.stat g :=
  State.stat_of_stats (by simp) g

@[simp] theorem State.showUse_stat (s : State) (use peak : Fld) (n : Nat) (g : Fld) :
    (s.showUse use peak n).stat g = s.stat g :=
  State.stat_of_stats (by simp) g

@[simp] theorem State.reloadPeak_stat (s : State) (use peak : Fld) (g : Fld) :
    (s.reloadPeak use peak).stat g = s.stat g :=
  State.stat_of_stats (by simp) g

@[simp] theorem State.latchCause_stat (s : State) (k : Nat) (g : Fld) :
    (s.latchCause k).stat g = s.stat g :=
  State.stat_of_stats (by simp) g

end Sys2Proof.Machine
end

