-- ==== Sys2Proof/Laws/Ops.lean ====
section
/-! SUPPORT. What the shared operations do: host accesses under each of their conditions, ring commands, events and
their pending bits, access faults. -/

namespace Sys2Proof.Machine

/-! ### Host accesses -/

/-- A write outside the field-die windows takes effect while the host can reach the part. -/
theorem State.hostWriteReg_plain {s : State} {off : Nat} (h : s.hostUp = true) (hd : dieOfOffset off = none) (v : Nat)
    (e : State → State) : s.hostWriteReg off v e = e s := by
  simp [State.hostWriteReg, h, hd]

/-- A write that the host cannot deliver changes nothing. -/
theorem State.hostWriteReg_down {s : State} (h : s.hostUp = false) (off v : Nat) (e : State → State) :
    s.hostWriteReg off v e = s := by
  simp [State.hostWriteReg, h]

/-- The state with a write to a die's window recorded for its rejoin. -/
def State.recorded (s : State) (l : List (Nat × Nat × Nat)) : State :=
  { s with safe := { s.safe with dieWrites := s.safe.dieWrites ++ l } }

@[simp] theorem State.recorded_regs (s : State) (l : List (Nat × Nat × Nat)) : (s.recorded l).regs = s.regs := rfl
@[simp] theorem State.recorded_stats (s : State) (l : List (Nat × Nat × Nat)) : (s.recorded l).stats = s.stats := rfl
@[simp] theorem State.recorded_get (s : State) (l : List (Nat × Nat × Nat)) (g : Fld) :
    (s.recorded l).get g = s.get g := rfl
@[simp] theorem State.recorded_on (s : State) (l : List (Nat × Nat × Nat)) (g : Fld) :
    (s.recorded l).on g = s.on g := rfl
@[simp] theorem State.recorded_stat (s : State) (l : List (Nat × Nat × Nat)) (g : Fld) :
    (s.recorded l).stat g = s.stat g := rfl

/-- A write to a field die that is up is recorded and takes effect. -/
theorem State.hostWriteReg_die {s : State} {off f : Nat} (h : s.hostUp = true) (hd : dieOfOffset off = some f)
    (hu : s.dieUp f = true) (v : Nat) (e : State → State) :
    s.hostWriteReg off v e = e (s.recorded [(f, off, v)]) := by
  simp only [State.dieUp, Bool.and_eq_true, Bool.not_eq_true'] at hu
  have h2 : (s.recorded [(f, off, v)]).dieFenced f = false := by rw [← hu.2]; rfl
  simp only [State.recorded] at h2
  simp only [State.hostWriteReg, h, hd, hu.1, State.recorded, h2]
  rfl

/-- A read outside the field-die windows takes effect while its function answers. -/
theorem State.hostReadReg_plain {s : State} {func off : Nat} (h : s.functionUp func = true)
    (hd : dieOfOffset off = none) (e : State → State) : s.hostReadReg func off e = e s := by
  simp [State.hostReadReg, h, hd]

/-- The window of a field die. -/
theorem dieOfOffset_die {f o : Nat} (hf : f < 6) (ho : o < 0x400000) : dieOfOffset (dieOffset f o) = some f := by
  have h : 0x01000000 ≤ dieOffset f o ∧ dieOffset f o < 0x02800000 := by unfold dieOffset; omega
  rw [dieOfOffset, if_pos h, dieOffset]
  congr 1; omega

/-- A head offset is in no field die's window. -/
theorem dieOfOffset_low {o : Nat} (ho : o < 0x1000000) : dieOfOffset o = none := by
  rw [dieOfOffset]; exact if_neg (by omega)

/-- A ring command that is due passes its descriptor and acts. -/
theorem State.runCommand_due {s : State} {n : Nat} (h : s.cmdDue n = true) (d : List Byte)
    (e : CmdRef → State → State) : s.runCommand n d e = e (s.cmdRef n d) (s.passDescriptor n) := by
  simp [State.runCommand, h]

theorem formed_wf {c : Instr} (h : c.wf = true) (t : State) : formed c t = .next t := by simp [formed, h]

theorem State.up_of_live {s : State} (h : s.live = true) : s.up = true := by
  simp only [State.live, Bool.and_eq_true] at h; exact h.1

theorem State.hostUp_of_live {s : State} (h : s.live = true) : s.hostUp = true := by
  have := State.up_of_live h
  simp_all [State.up, State.hostUp]

theorem State.logicUp_of_live {s : State} (h : s.live = true) : s.logicUp = true := by
  have := State.up_of_live h
  simp_all [State.up, State.logicUp]

/-! ### Pending bits -/

@[simp] theorem State.emit_evt' (s : State) (o : Output) : (s.emit o).evt = s.evt := by simp

theorem State.post_evt (s : State) (n typ : Nat) (b : List Byte) : (s.post n typ b).1.evt = s.evt := by simp

theorem State.sendVector_pend (s : State) (v : Nat) : (s.sendVector v).evt.pend = s.evt.pend := by
  simp only [State.sendVector]; split
  · rfl
  · split <;> simp

theorem State.signal_pend (s : State) (v : Nat) : (s.signal v).evt.pend = s.evt.pend := by
  simp only [State.signal]; split
  · rfl
  · exact State.sendVector_pend s v

theorem State.deliverEvent_pend (s : State) (src d : Nat) : (s.deliverEvent src d).1.evt.pend = s.evt.pend := by
  simp only [State.deliverEvent]
  split <;> split <;> simp [State.signal_pend]

theorem State.fire1_pend (s : State) (src d : Nat) : (s.fire1 src d).state.evt.pend = (s.evt.mark src).pend := by
  simp only [State.fire1]
  split <;> simp [State.deliverEvent_pend]

theorem Events.mark_pend (e : Events) (src k : Nat) :
    (e.mark src).pend.getLsbD k = (e.pend.getLsbD k || (decide (k < 512) && decide (k = src))) := by
  simp only [Events.mark]
  split
  · rename_i h
    by_cases hk : k = src
    · subst hk; simp [h]
    · simp [hk]
  · simp only [BitVec.getLsbD_or, BitVec.getLsbD_ofNat, Nat.testBit_two_pow]
    congr 1; simp [eq_comm]

theorem State.haltRing_evt (s : State) (n : Nat) (st : Status) (a : Nat) : (s.haltRing n st a).evt = s.evt := by simp

/-- A firing marks its source, and no pending source is lost by it. -/
theorem State.fireN_pends (n : Nat) (s : State) (src d k : Nat) (h : (k = src ∧ k < 512) ∨ s.pends k) :
    (State.fireN n s src d).pends k := by
  have h1 (s : State) (src d : Nat) (h : (k = src ∧ k < 512) ∨ s.pends k) : (s.fire1 src d).state.pends k := by
    simp only [State.pends, State.fire1_pend, Events.mark_pend] at h ⊢
    rcases h with ⟨rfl, hk⟩ | h
    · simp [hk]
    · simp [h]
  induction n generalizing s src d with
  | zero => exact h1 s src d h
  | succ n ih =>
    have a : (if (s.fire1 src d).dropped && 196 ∉ (s.fire1 src d).state.evt.disarmed then
        State.fireN n ((s.fire1 src d).state.disarm 196) 196 0 else (s.fire1 src d).state).pends k := by
      split
      · exact ih _ _ _ (.inr (h1 s src d h))
      · exact h1 s src d h
    simp only [State.fireN]
    split
    · split
      · exact a
      · exact ih _ _ _ (.inr a)
    · exact ih _ _ _ (.inr (by simpa [State.pends] using a))
    · exact a

theorem State.fireD_pends (s : State) (src d k : Nat) (h : (k = src ∧ k < 512) ∨ s.pends k) :
    (s.fireD src d).pends k := State.fireN_pends 5 s src d k h

theorem State.fire_pends (s : State) (src k : Nat) (h : (k = src ∧ k < 512) ∨ s.pends k) : (s.fire src).pends k :=
  State.fireD_pends s src 0 k h

/-! ### Statistics words that a firing may count -/

theorem State.sendPriv_stat (s : State) (b : List Byte) (g : Fld) (h : ∀ f ∈ alarmWords, f.key ≠ g.key) :
    (s.sendPriv b).1.stat g = s.stat g := by
  have h1 := h Reg.ETH.PRIV_SENT (by simp [alarmWords])
  have h2 := h Reg.ETH.FP_DROP (by simp [alarmWords])
  simp only [State.sendPriv]
  split <;> simp [h1, h2]

theorem State.alarm_stat (s : State) (src d : Nat) (g : Fld) (h : ∀ f ∈ alarmWords, f.key ≠ g.key) :
    (s.alarm src d).1.stat g = s.stat g := by
  simp only [State.alarm]
  split
  · exact State.sendPriv_stat _ _ _ h
  · rfl

theorem State.fire1_stat (s : State) (src d : Nat) (g : Fld) (h : ∀ f ∈ alarmWords, f.key ≠ g.key) :
    (s.fire1 src d).state.stat g = s.stat g := by
  have h0 : (State.alarm { s with evt := s.evt.mark src } src d).1.stat g = s.stat g := State.alarm_stat _ src d g h
  simp only [State.fire1]
  split
  · simpa using h0
  · exact h0

/-- A firing counts in no word but those of an alarm datagram. -/
theorem State.fireN_stat (n : Nat) (s : State) (src d : Nat) (g : Fld) (h : ∀ f ∈ alarmWords, f.key ≠ g.key) :
    (State.fireN n s src d).stat g = s.stat g := by
  induction n generalizing s src d with
  | zero => exact State.fire1_stat s src d g h
  | succ n ih =>
    simp only [State.fireN]
    (repeat' split) <;> simp [ih, State.fire1_stat _ _ _ g h]

theorem State.fireD_stat (s : State) (src d : Nat) (g : Fld) (h : ∀ f ∈ alarmWords, f.key ≠ g.key) :
    (s.fireD src d).stat g = s.stat g := State.fireN_stat 5 s src d g h

theorem State.fire_stat (s : State) (src : Nat) (g : Fld) (h : ∀ f ∈ alarmWords, f.key ≠ g.key) :
    (s.fire src).stat g = s.stat g := State.fireD_stat s src 0 g h

/-! ### What a firing leaves of the redundancy unit: all but the outputs held or unconfirmed -/

/-- The redundancy unit is the same but for the outputs it holds or keeps unconfirmed. -/
def State.SafeKept (s t : State) : Prop :=
  t.safe = { s.safe with held := t.safe.held, unconfirmed := t.safe.unconfirmed }

theorem State.SafeKept.refl (s : State) : s.SafeKept s := rfl

theorem State.SafeKept.trans {s t u : State} (h : s.SafeKept t) (k : t.SafeKept u) : s.SafeKept u := by
  simp only [State.SafeKept] at h k ⊢
  rw [k, h]

theorem State.SafeKept.of_eq {s t : State} (h : t.safe = s.safe) : s.SafeKept t := by
  simp only [State.SafeKept]; rw [h]

theorem State.emit_safe (s : State) (o : Output) : s.SafeKept (s.emit o) := by
  simp only [State.emit, State.SafeKept]
  split
  · rfl
  · split <;> rfl

theorem State.dmaWrite_safe (s : State) (a : Nat) (b : List Byte) : s.SafeKept (s.dmaWrite a b) := State.emit_safe s _

theorem State.postIndex_safe (s : State) (n : Nat) : s.SafeKept (s.postIndex n).1 := by
  simp only [State.postIndex]
  split
  · exact .of_eq rfl
  · exact (State.SafeKept.of_eq (s := s) rfl).trans (State.dmaWrite_safe _ _ _)

theorem State.post_safe (s : State) (n typ : Nat) (b : List Byte) : s.SafeKept (s.post n typ b).1 := by
  simp only [State.post]
  split
  · dsimp only; split <;> exact .of_eq (by simp)
  · split
    · exact .of_eq (by simp)
    · split
      · exact .of_eq (by simp)
      · exact (State.dmaWrite_safe _ _ _).trans (State.postIndex_safe _ _)

theorem State.sendVector_safe (s : State) (v : Nat) : s.SafeKept (s.sendVector v) := by
  simp only [State.sendVector]
  split
  · exact .of_eq rfl
  · split
    · exact State.emit_safe _ _
    · exact (State.emit_safe _ _).trans (.of_eq rfl)

theorem State.signal_safe (s : State) (v : Nat) : s.SafeKept (s.signal v) := by
  simp only [State.signal]
  split
  · exact .of_eq rfl
  · exact State.sendVector_safe s v

/-- A privileged frame leaves as others do, and is never held (R301). -/
theorem State.toLine_safe (s : State) (h p : Nat) (b : Bool) (f : List Byte) : s.SafeKept (s.toLine h p b f) := by
  simp only [State.toLine]
  split
  · exact State.SafeKept.trans (t := s.setTxPort h p _) (.of_eq rfl) (State.emit_safe _ _)
  · exact .of_eq rfl

theorem State.each_safe {α : Type} (l : List α) (f : State → α → State) (h : ∀ (s : State) (a : α), s.SafeKept (f s a)) (s : State) :
    s.SafeKept (s.each l f) := by
  induction l generalizing s with
  | nil => exact .refl s
  | cons a l ih => exact (h s a).trans (ih _)

theorem State.queueFrame_safe (s : State) (h p : Nat) (b : Bool) (f : List Byte) : s.SafeKept (s.queueFrame h p b f).1 := by
  simp only [State.queueFrame]
  split
  · exact .refl s
  · split
    · exact .of_eq rfl
    · refine State.SafeKept.trans (t := s.drainPort h p) ?_ (State.toLine_safe _ _ _ _ _)
      simp only [State.drainPort]
      split
      · exact .refl s
      · exact State.SafeKept.trans (t := s.setTxPort h p _) (.of_eq rfl)
          (State.each_safe _ _ (fun _ _ => State.toLine_safe _ _ _ _ _) _)

theorem State.sendPriv_safe (s : State) (b : List Byte) : s.SafeKept (s.sendPriv b).1 := by
  have h : s.SafeKept (s.privCopies b).1 := by
    simp only [State.privCopies]
    exact (State.queueFrame_safe _ _ _ _ _).trans (State.queueFrame_safe _ _ _ _ _)
  simp only [State.sendPriv]
  split
  · exact h.trans (.of_eq rfl)
  · exact .of_eq (by simp)

theorem State.alarm_safe (s : State) (src d : Nat) : s.SafeKept (s.alarm src d).1 := by
  simp only [State.alarm]
  split
  · exact State.sendPriv_safe _ _
  · exact .refl s

theorem State.deliverEvent_safe (s : State) (src d : Nat) : s.SafeKept (s.deliverEvent src d).1 := by
  have h : s.SafeKept (if s.on (Reg.EVT.MAP.RING_EN src) then
      s.post (s.get (Reg.EVT.MAP.RING src)) 4 (evtRecord src d s.stampNow) else (s, .discarded)).1 := by
    split
    · exact State.post_safe _ _ _ _
    · exact .refl s
  simp only [State.deliverEvent]
  split
  · exact h.trans (State.signal_safe _ _)
  · exact h

theorem State.fire1_safe (s : State) (src d : Nat) : s.SafeKept (s.fire1 src d).state := by
  have h0 : s.SafeKept (State.alarm { s with evt := s.evt.mark src } src d).1 :=
    State.SafeKept.trans (t := { s with evt := s.evt.mark src }) (.of_eq rfl) (State.alarm_safe _ _ _)
  simp only [State.fire1]
  split
  · exact h0.trans (State.deliverEvent_safe _ _ _)
  · exact h0

theorem State.fireN_safe (n : Nat) (s : State) (src d : Nat) : s.SafeKept (State.fireN n s src d) := by
  induction n generalizing s src d with
  | zero => exact State.fire1_safe s src d
  | succ n ih =>
    have a : s.SafeKept (if (s.fire1 src d).dropped && 196 ∉ (s.fire1 src d).state.evt.disarmed then
        State.fireN n ((s.fire1 src d).state.disarm 196) 196 0 else (s.fire1 src d).state) := by
      split
      · exact ((State.fire1_safe s src d).trans (.of_eq rfl)).trans (ih _ _ _)
      · exact State.fire1_safe s src d
    simp only [State.fireN]
    split
    · split
      · exact a
      · exact a.trans (ih _ _ _)
    · exact (a.trans (.of_eq (by simp))).trans (ih _ _ _)
    · exact a

theorem State.fireD_safe (s : State) (src d : Nat) : s.SafeKept (s.fireD src d) := State.fireN_safe 5 s src d

theorem State.fire_safe (s : State) (src : Nat) : s.SafeKept (s.fire src) := State.fireD_safe s src 0

@[simp] theorem State.fireD_fault (s : State) (src d : Nat) : (s.fireD src d).safe.fault = s.safe.fault := by
  rw [State.fireD_safe s src d]

@[simp] theorem State.fireD_log (s : State) (src d : Nat) : (s.fireD src d).safe.log = s.safe.log := by
  rw [State.fireD_safe s src d]

@[simp] theorem State.fire_fault (s : State) (src : Nat) : (s.fire src).safe.fault = s.safe.fault :=
  State.fireD_fault s src 0

@[simp] theorem State.fire_log (s : State) (src : Nat) : (s.fire src).safe.log = s.safe.log :=
  State.fireD_log s src 0

/-! ### Access faults -/

theorem State.fireOnce_stat (s : State) (src : Nat) (g : Fld) (h : ∀ f ∈ alarmWords, f.key ≠ g.key) :
    (s.fireOnce src).stat g = s.stat g := by
  simp only [State.fireOnce]
  split
  · rfl
  · rw [State.fire_stat _ _ _ h]; rfl

theorem State.accessFault_stat (s : State) (off : Nat) (k : AccessKind) (w b : Bool) (g : Fld)
    (h : ∀ f ∈ alarmWords, f.key ≠ g.key) : (s.accessFault off k w b).stat g = s.stat g := by
  simp only [State.accessFault]; rw [State.fireOnce_stat _ _ _ h]; rfl

theorem State.illegal_stat (s : State) (off : Nat) (g : Fld) (h : ∀ f ∈ alarmWords, f.key ≠ g.key) :
    (s.illegal off).stat g = s.stat g := State.accessFault_stat s off _ _ _ g h

/-- The latch of SAFE.ACCESS_FAULT after an access fault (R313). -/
theorem State.accessFault_fault (s : State) (off : Nat) (k : AccessKind) (w b : Bool) :
    (s.accessFault off k w b).safe.fault = if s.safe.fault.valid then
      { s.safe.fault with more := min (s.safe.fault.more + 1) 0x7FFF } else ⟨true, off, k, w, b, s.safe.fault.more⟩ := by
  simp only [State.accessFault, State.fireOnce]
  split
  · rfl
  · simp

theorem State.accessFault_valid (s : State) (off : Nat) (k : AccessKind) (w b : Bool) :
    (s.accessFault off k w b).safe.fault.valid = true := by
  rw [State.accessFault_fault]; split <;> simp_all

theorem State.illegal_valid (s : State) (off : Nat) : (s.illegal off).safe.fault.valid = true :=
  State.accessFault_valid s off _ _ _

end Sys2Proof.Machine
end

