-- ==== Sys2Proof/Laws/Kept.lean ====
section
/-! SUPPORT. No operation writes the part's identity or the queue of commands: one lemma per operation. -/

set_option Elab.async false

namespace Sys2Proof.Machine
@[simp] theorem State.when_kept (s : State) (c : Bool) (f : State → State) (h_f : ∀ (y0 : State), (f y0).part = y0.part ∧ (f y0).pending = y0.pending) :
    (State.when s c f).part = s.part ∧ (State.when s c f).pending = s.pending := by
  simp only [State.when]
  (try repeat' split) <;> simp_all

@[simp] theorem State.each_kept {α : Type} (s : State) (l : List α) (f : State → α → State) (h_f : ∀ (y0 : State) (y1 : α), (f y0 y1).part = y0.part ∧ (f y0 y1).pending = y0.pending) :
    (State.each s l f).part = s.part ∧ (State.each s l f).pending = s.pending := by
  induction l generalizing s with
  | nil => simp [State.each]
  | cons a l ih =>
    have h := ih (f s a)
    simp only [State.each, List.foldl_cons] at h ⊢
    rw [h.1, h.2]; exact h_f s a

@[simp] theorem State.hostWriteReg_kept (s : State) (off : Nat) (v : Nat) (effect : State → State) (h_effect : ∀ (y0 : State), (effect y0).part = y0.part ∧ (effect y0).pending = y0.pending) :
    (State.hostWriteReg s off v effect).part = s.part ∧ (State.hostWriteReg s off v effect).pending = s.pending := by
  simp only [State.hostWriteReg]
  (try repeat' split) <;> simp_all

@[simp] theorem State.hostWrite64_kept (s : State) (off : Nat) (v : Nat) (effect : State → State) (h_effect : ∀ (y0 : State), (effect y0).part = y0.part ∧ (effect y0).pending = y0.pending) :
    (State.hostWrite64 s off v effect).part = s.part ∧ (State.hostWrite64 s off v effect).pending = s.pending := by
  simp only [State.hostWrite64]
  (try repeat' split) <;> simp_all

@[simp] theorem State.hostReadReg_kept (s : State) (func : Nat) (off : Nat) (effect : State → State) (h_effect : ∀ (y0 : State), (effect y0).part = y0.part ∧ (effect y0).pending = y0.pending) :
    (State.hostReadReg s func off effect).part = s.part ∧ (State.hostReadReg s func off effect).pending = s.pending := by
  simp only [State.hostReadReg]
  (try repeat' split) <;> simp_all

@[simp] theorem State.runCommand_kept (s : State) (n : Nat) (desc : List Byte) (effect : CmdRef → State → State) (h_effect : ∀ (y0 : CmdRef) (y1 : State), (effect y0 y1).part = y1.part ∧ (effect y0 y1).pending = y1.pending) :
    (State.runCommand s n desc effect).part = s.part ∧ (State.runCommand s n desc effect).pending = s.pending := by
  simp only [State.runCommand]
  (try repeat' split) <;> simp_all

@[simp] theorem State.hclkSs_kept (s : State) (v : Nat) :
    (State.hclkSs s v).part = s.part ∧ (State.hclkSs s v).pending = s.pending := by
  simp only [State.hclkSs]
  (try repeat' split) <;> simp_all

@[simp] theorem State.applyHclkSs_kept (s : State) :
    (State.applyHclkSs s).part = s.part ∧ (State.applyHclkSs s).pending = s.pending := by
  simp only [State.applyHclkSs]
  (try repeat' split) <;> simp_all

@[simp] theorem State.runOutputs_kept (s : State) (f : Nat) (n : Nat) (ck : Bool) (sr : Bool) :
    (State.runOutputs s f n ck sr).part = s.part ∧ (State.runOutputs s f n ck sr).pending = s.pending := by
  simp only [State.runOutputs]
  (try repeat' split) <;> simp_all

@[simp] theorem State.runPulses_kept (s : State) (cycles : Nat) (k : Nat) :
    (State.runPulses s cycles k).part = s.part ∧ (State.runPulses s cycles k).pending = s.pending := by
  simp only [State.runPulses]
  (try repeat' split) <;> simp_all

@[simp] theorem State.clkoutCtl_kept (s : State) (f : Nat) (n : Nat) (v : Nat) :
    (State.clkoutCtl s f n v).part = s.part ∧ (State.clkoutCtl s f n v).pending = s.pending := by
  simp only [State.clkoutCtl]
  (try repeat' split) <;> simp_all

@[simp] theorem State.clkoutTiming_kept (s : State) (f : Nat) (n : Nat) (v : Nat) :
    (State.clkoutTiming s f n v).part = s.part ∧ (State.clkoutTiming s f n v).pending = s.pending := by
  simp only [State.clkoutTiming]
  (try repeat' split) <;> simp_all

@[simp] theorem State.walkPhase_kept (s : State) (cycles : Nat) (f : Nat) (n : Nat) :
    (State.walkPhase s cycles f n).part = s.part ∧ (State.walkPhase s cycles f n).pending = s.pending := by
  simp only [State.walkPhase]
  (try repeat' split) <;> simp_all

@[simp] theorem State.walkPhases_kept (s : State) (cycles : Nat) :
    (State.walkPhases s cycles).part = s.part ∧ (State.walkPhases s cycles).pending = s.pending := by
  simp only [State.walkPhases]
  (try repeat' split) <;> simp_all

@[simp] theorem State.sysrefSpan_kept (s : State) (cycles : Nat) :
    (State.sysrefSpan s cycles).part = s.part ∧ (State.sysrefSpan s cycles).pending = s.pending := by
  simp only [State.sysrefSpan]
  (try repeat' split) <;> simp_all

@[simp] theorem State.cpllLoss_kept (s : State) (f : Nat) :
    (State.cpllLoss s f).part = s.part ∧ (State.cpllLoss s f).pending = s.pending := by
  simp only [State.cpllLoss]
  (try repeat' split) <;> simp_all

@[simp] theorem State.setMsc_kept (s : State) (m : Nat) :
    (State.setMsc s m).part = s.part ∧ (State.setMsc s m).pending = s.pending := by
  simp only [State.setMsc]
  (try repeat' split) <;> simp_all

@[simp] theorem State.loadTime_kept (s : State) (sec : Nat) (ns : Nat) :
    (State.loadTime s sec ns).part = s.part ∧ (State.loadTime s sec ns).pending = s.pending := by
  simp only [State.loadTime]
  (try repeat' split) <;> simp_all

@[simp] theorem State.timeSetGo_kept (s : State) (ns : Nat) (sec : Nat) :
    (State.timeSetGo s ns sec).part = s.part ∧ (State.timeSetGo s ns sec).pending = s.pending := by
  simp only [State.timeSetGo]
  (try repeat' split) <;> simp_all

@[simp] theorem State.meshOffsetWrite_kept (s : State) (v : Nat) :
    (State.meshOffsetWrite s v).part = s.part ∧ (State.meshOffsetWrite s v).pending = s.pending := by
  simp only [State.meshOffsetWrite]
  (try repeat' split) <;> simp_all

@[simp] theorem State.updRef_kept (s : State) (i : Nat) (f : RefState → RefState) :
    (State.updRef s i f).part = s.part ∧ (State.updRef s i f).pending = s.pending := by
  simp only [State.updRef]
  (try repeat' split) <;> simp_all

@[simp] theorem State.ppsRise_kept (s : State) :
    (State.ppsRise s).part = s.part ∧ (State.ppsRise s).pending = s.pending := by
  simp only [State.ppsRise]
  (try repeat' split) <;> simp_all

@[simp] theorem State.forcedEnds_kept (s : State) :
    (State.forcedEnds s).part = s.part ∧ (State.forcedEnds s).pending = s.pending := by
  simp only [State.forcedEnds]
  (try repeat' split) <;> simp_all

@[simp] theorem State.switchTo_kept (s : State) (r : Nat) (retarget : Bool) :
    (State.switchTo s r retarget).part = s.part ∧ (State.switchTo s r retarget).pending = s.pending := by
  simp only [State.switchTo]
  (try repeat' split) <;> simp_all

@[simp] theorem State.firstLoad_kept (s : State) (r : Nat) :
    (State.firstLoad s r).part = s.part ∧ (State.firstLoad s r).pending = s.pending := by
  simp only [State.firstLoad]
  (try repeat' split) <;> simp_all

@[simp] theorem State.enterHoldover_kept (s : State) :
    (State.enterHoldover s).part = s.part ∧ (State.enterHoldover s).pending = s.pending := by
  simp only [State.enterHoldover]
  (try repeat' split) <;> simp_all

@[simp] theorem State.switchDone_kept (s : State) :
    (State.switchDone s).part = s.part ∧ (State.switchDone s).pending = s.pending := by
  simp only [State.switchDone]
  (try repeat' split) <;> simp_all

@[simp] theorem State.forceSlewTo_kept (s : State) (t : Nat) :
    (s.forceSlewTo t).part = s.part ∧ (s.forceSlewTo t).pending = s.pending := by
  simp only [State.forceSlewTo]
  (try repeat' split) <;> simp_all

theorem State.tryForce_kept (s t : State) (h : s.tryForce = some t) : t.part = s.part ∧ t.pending = s.pending := by
  simp only [State.tryForce] at h
  split at h
  · cases h
  · simp only [Option.map_eq_some_iff] at h
    obtain ⟨x, -, rfl⟩ := h
    exact State.forceSlewTo_kept _ _

@[simp] theorem State.tryForce_getD_kept (s d : State) (hd : d.part = s.part ∧ d.pending = s.pending) :
    (s.tryForce.getD d).part = s.part ∧ (s.tryForce.getD d).pending = s.pending := by
  rcases h : s.tryForce with _ | t
  · exact hd
  · exact State.tryForce_kept s t h

@[simp] theorem State.forceSlew_kept (s : State) :
    (State.forceSlew s).part = s.part ∧ (State.forceSlew s).pending = s.pending := by
  have h := State.tryForce_getD_kept (s.put Reg.TIME.CTL.FORCE_SLEW 1) (s.put Reg.TIME.CTL.FORCE_SLEW 1) ⟨rfl, rfl⟩
  exact ⟨h.1.trans (by simp), h.2.trans (by simp)⟩

@[simp] theorem State.calibrationFault_kept (s : State) (f : Nat) :
    (State.calibrationFault s f).part = s.part ∧ (State.calibrationFault s f).pending = s.pending := by
  simp only [State.calibrationFault]
  (try repeat' split) <;> simp_all

@[simp] theorem State.calibrateDies_kept (s : State) (failed : List (Fin 6)) (trips : List (Fin 6 × Nat)) :
    (State.calibrateDies s failed trips).part = s.part ∧ (State.calibrateDies s failed trips).pending = s.pending := by
  simp only [State.calibrateDies]
  (try repeat' split) <;> simp_all

@[simp] theorem State.judge_kept (s : State) (i : Nat) :
    (State.judge s i).part = s.part ∧ (State.judge s i).pending = s.pending := by
  simp only [State.judge]
  (try repeat' split) <;> simp_all

@[simp] theorem State.showRefs_kept (s : State) :
    (State.showRefs s).part = s.part ∧ (State.showRefs s).pending = s.pending := by
  simp only [State.showRefs]
  (try repeat' split) <;> simp_all

@[simp] theorem State.select_kept (s : State) :
    (State.select s).part = s.part ∧ (State.select s).pending = s.pending := by
  simp only [State.select]
  (try repeat' split) <;> simp_all

@[simp] theorem State.discipline_kept (s : State) :
    (State.discipline s).part = s.part ∧ (State.discipline s).pending = s.pending := by
  simp only [State.discipline]
  (try repeat' split) <;> simp_all

@[simp] theorem State.timeCycle_kept (s : State) :
    (State.timeCycle s).part = s.part ∧ (State.timeCycle s).pending = s.pending := by
  simp only [State.timeCycle]
  (try repeat' split) <;> simp_all

@[simp] theorem State.updB_kept (s : State) (f : Nat) (g : BcastRun → BcastRun) :
    (State.updB s f g).part = s.part ∧ (State.updB s f g).pending = s.pending := by
  simp only [State.updB]
  (try repeat' split) <;> simp_all

@[simp] theorem State.bcs_kept (s : State) (f : Nat) (ring : Nat) (kind : Nat) (flags : Nat) (valid : Nat) (stamp : Nat) (data : List Byte) :
    (State.bcs s f ring kind flags valid stamp data).part = s.part ∧ (State.bcs s f ring kind flags valid stamp data).pending = s.pending := by
  simp only [State.bcs]
  (try repeat' split) <;> simp_all

@[simp] theorem State.side_kept (s : State) (f : Nat) (kind : Nat) (flags : Nat) (valid : Nat) (stamp : Nat) (data : List Byte) :
    (State.side s f kind flags valid stamp data).part = s.part ∧ (State.side s f kind flags valid stamp data).pending = s.pending := by
  simp only [State.side]
  (try repeat' split) <;> simp_all

@[simp] theorem State.stream_kept (s : State) (f : Nat) (kind : Nat) (flags : Nat) (valid : Nat) (stamp : Nat) (data : List Byte) :
    (State.stream s f kind flags valid stamp data).part = s.part ∧ (State.stream s f kind flags valid stamp data).pending = s.pending := by
  simp only [State.stream]
  (try repeat' split) <;> simp_all

@[simp] theorem State.watchFm_kept (s : State) (f : Nat) :
    (State.watchFm s f).part = s.part ∧ (State.watchFm s f).pending = s.pending := by
  simp only [State.watchFm]
  (try repeat' split) <;> simp_all

@[simp] theorem State.clearLocks_kept (s : State) (f : Nat) :
    (State.clearLocks s f).part = s.part ∧ (State.clearLocks s f).pending = s.pending := by
  simp only [State.clearLocks]
  (try repeat' split) <;> simp_all

@[simp] theorem State.beginRetune_kept (s : State) (f : Nat) (keep : Bool) :
    (State.beginRetune s f keep).part = s.part ∧ (State.beginRetune s f keep).pending = s.pending := by
  simp only [State.beginRetune]
  (try repeat' split) <;> simp_all

@[simp] theorem State.retune_kept (s : State) (f : Nat) :
    (State.retune s f).part = s.part ∧ (State.retune s f).pending = s.pending := by
  simp only [State.retune]
  (try repeat' split) <;> simp_all

@[simp] theorem State.bcastTuneReg_kept (s : State) (f : Nat) (v : Nat) :
    (State.bcastTuneReg s f v).part = s.part ∧ (State.bcastTuneReg s f v).pending = s.pending := by
  simp only [State.bcastTuneReg]
  (try repeat' split) <;> simp_all

@[simp] theorem State.feedChange_kept (s : State) (f : Nat) (fm : Bool) (dab : Bool) :
    (State.feedChange s f fm dab).part = s.part ∧ (State.feedChange s f fm dab).pending = s.pending := by
  simp only [State.feedChange]
  (try repeat' split) <;> simp_all

@[simp] theorem State.bcastCtl_kept (s : State) (f : Nat) (v : Nat) :
    (State.bcastCtl s f v).part = s.part ∧ (State.bcastCtl s f v).pending = s.pending := by
  simp only [State.bcastCtl]
  (try repeat' split) <;> simp_all

@[simp] theorem State.setLock_kept (s : State) (f : Nat) (fld : Fld) (b : Bool) :
    (State.setLock s f fld b).part = s.part ∧ (State.setLock s f fld b).pending = s.pending := by
  simp only [State.setLock]
  (try repeat' split) <;> simp_all

@[simp] theorem State.learnId_kept (s : State) (f : Nat) (id : Nat) :
    (State.learnId s f id).part = s.part ∧ (State.learnId s f id).pending = s.pending := by
  simp only [State.learnId]
  (try repeat' split) <;> simp_all

@[simp] theorem State.feedFm_kept (s : State) (milliPpm : Option Int) :
    (State.feedFm s milliPpm).part = s.part ∧ (State.feedFm s milliPpm).pending = s.pending := by
  simp only [State.feedFm]
  (try repeat' split) <;> simp_all

@[simp] theorem State.pilotCycle_kept (s : State) (f : Nat) (milliPpm : Option Int) :
    (State.pilotCycle s f milliPpm).part = s.part ∧ (State.pilotCycle s f milliPpm).pending = s.pending := by
  simp only [State.pilotCycle]
  (try repeat' split) <;> simp_all

@[simp] theorem State.setAlts_kept (s : State) (f : Nat) (ks : List Nat) :
    (State.setAlts s f ks).part = s.part ∧ (State.setAlts s f ks).pending = s.pending := by
  simp only [State.setAlts]
  (try repeat' split) <;> simp_all

@[simp] theorem State.startVerify_kept (s : State) (f : Nat) :
    (State.startVerify s f).part = s.part ∧ (State.startVerify s f).pending = s.pending := by
  simp only [State.startVerify]
  (try repeat' split) <;> simp_all

@[simp] theorem State.endCheck_kept (s : State) (f : Nat) (khz : Nat) (level : Int) (tuned : Int) :
    (State.endCheck s f khz level tuned).part = s.part ∧ (State.endCheck s f khz level tuned).pending = s.pending := by
  simp only [State.endCheck]
  (try repeat' split) <;> simp_all

@[simp] theorem State.unqualifyDab_kept (s : State) :
    (State.unqualifyDab s).part = s.part ∧ (State.unqualifyDab s).pending = s.pending := by
  simp only [State.unqualifyDab]
  (try repeat' split) <;> simp_all

@[simp] theorem State.takeAlt_kept (s : State) (f : Nat) (khz : Nat) :
    (State.takeAlt s f khz).part = s.part ∧ (State.takeAlt s f khz).pending = s.pending := by
  simp only [State.takeAlt]
  (try repeat' split) <;> simp_all

@[simp] theorem State.endVerify_kept (s : State) (f : Nat) :
    (State.endVerify s f).part = s.part ∧ (State.endVerify s f).pending = s.pending := by
  simp only [State.endVerify]
  (try repeat' split) <;> simp_all

@[simp] theorem State.skipAlt_kept (s : State) (f : Nat) (khz : Nat) :
    (State.skipAlt s f khz).part = s.part ∧ (State.skipAlt s f khz).pending = s.pending := by
  simp only [State.skipAlt]
  (try repeat' split) <;> simp_all

@[simp] theorem State.afComplete_kept (s : State) (f : Nat) :
    (State.afComplete s f).part = s.part ∧ (State.afComplete s f).pending = s.pending := by
  simp only [State.afComplete]
  (try repeat' split) <;> simp_all

@[simp] theorem State.afPair_kept (s : State) (f : Nat) (b : RdsBlk) :
    (State.afPair s f b).part = s.part ∧ (State.afPair s f b).pending = s.pending := by
  unfold State.afPair
  extract_lets hi lo isCode take
  have ht : ∀ s c n, (take s c n).part = s.part ∧ (take s c n).pending = s.pending := by
    intro s c n
    simp only [take]
    (repeat' split) <;> simp_all
  clear_value take
  (repeat' split) <;> simp_all +zetaDelta

@[simp] theorem State.rdsGroup_kept (s : State) (f : Nat) (g : List RdsBlk) :
    (State.rdsGroup s f g).part = s.part ∧ (State.rdsGroup s f g).pending = s.pending := by
  simp only [State.rdsGroup]
  (try repeat' split) <;> simp_all

@[simp] theorem State.learnPi_kept (s : State) (f : Nat) (pi : Nat) :
    (State.learnPi s f pi).part = s.part ∧ (State.learnPi s f pi).pending = s.pending := by
  simp only [State.learnPi]
  (try repeat' split) <;> simp_all

@[simp] theorem State.rdsJoin_kept (s : State) (f : Nat) (place : Nat) (b : RdsBlk) :
    (State.rdsJoin s f place b).part = s.part ∧ (State.rdsJoin s f place b).pending = s.pending := by
  simp only [State.rdsJoin]
  (try repeat' split) <;> simp_all

@[simp] theorem State.rdsInSync_kept (s : State) (f : Nat) (b : RdsIn) :
    (State.rdsInSync s f b).part = s.part ∧ (State.rdsInSync s f b).pending = s.pending := by
  simp only [State.rdsInSync]
  (try repeat' split) <;> simp_all

@[simp] theorem State.rdsSeek_kept (s : State) (f : Nat) (b : RdsIn) :
    (State.rdsSeek s f b).part = s.part ∧ (State.rdsSeek s f b).pending = s.pending := by
  simp only [State.rdsSeek]
  (try repeat' split) <;> simp_all

@[simp] theorem State.feedDab_kept (s : State) (f : Nat) (t : Int) (raw : Int) :
    (State.feedDab s f t raw).part = s.part ∧ (State.feedDab s f t raw).pending = s.pending := by
  simp only [State.feedDab]
  (try repeat' split) <;> simp_all

@[simp] theorem State.compareTod_kept (s : State) (f : Nat) (t : Int) :
    (State.compareTod s f t).part = s.part ∧ (State.compareTod s f t).pending = s.pending := by
  simp only [State.compareTod]
  (try repeat' split) <;> simp_all

@[simp] theorem State.nullFound_kept (s : State) (f : Nat) (backNs : Nat) :
    (State.nullFound s f backNs).part = s.part ∧ (State.nullFound s f backNs).pending = s.pending := by
  simp only [State.nullFound]
  (try repeat' split) <;> simp_all

@[simp] theorem State.nullMissed_kept (s : State) (f : Nat) :
    (State.nullMissed s f).part = s.part ∧ (State.nullMissed s f).pending = s.pending := by
  simp only [State.nullMissed]
  (try repeat' split) <;> simp_all

@[simp] theorem State.stopSubch_kept (s : State) (f : Nat) (j : Nat) :
    (State.stopSubch s f j).part = s.part ∧ (State.stopSubch s f j).pending = s.pending := by
  simp only [State.stopSubch]
  (try repeat' split) <;> simp_all

@[simp] theorem State.showSubch_kept (s : State) (f : Nat) (e : Nat × Subch) :
    (State.showSubch s f e).part = s.part ∧ (State.showSubch s f e).pending = s.pending := by
  simp only [State.showSubch]
  (try repeat' split) <;> simp_all

@[simp] theorem State.addAlts_kept (s : State) (f : Nat) (ks : List Nat) :
    (State.addAlts s f ks).part = s.part ∧ (State.addAlts s f ks).pending = s.pending := by
  simp only [State.addAlts]
  (try repeat' split) <;> simp_all

@[simp] theorem State.fig0_kept (s : State) (f : Nat) (l : List Byte) :
    (State.fig0 s f l).part = s.part ∧ (State.fig0 s f l).pending = s.pending := by
  simp only [State.fig0]
  (try repeat' split) <;> simp_all

@[simp] theorem State.figs_kept (s : State) (f n : Nat) (l : List Byte) :
    (s.figs f n l).part = s.part ∧ (s.figs f n l).pending = s.pending := by
  induction n generalizing s l with
  | zero => simp [State.figs]
  | succ n ih =>
    simp only [State.figs]
    (repeat' split) <;> simp_all

@[simp] theorem State.bcastSubch_kept (s : State) (f : Nat) (j : Nat) (v : Nat) :
    (State.bcastSubch s f j v).part = s.part ∧ (State.bcastSubch s f j v).pending = s.pending := by
  simp only [State.bcastSubch]
  (try repeat' split) <;> simp_all

@[simp] theorem State.bcastCycle_kept (s : State) (pilots : List (Fin 6 × Int)) :
    (State.bcastCycle s pilots).part = s.part ∧ (State.bcastCycle s pilots).pending = s.pending := by
  simp only [State.bcastCycle]
  (try repeat' split) <;> simp_all

@[simp] theorem State.setSeq_kept (s : State) (f : Nat) (q : SeqRun) :
    (State.setSeq s f q).part = s.part ∧ (State.setSeq s f q).pending = s.pending := by
  simp only [State.setSeq]
  (try repeat' split) <;> simp_all

@[simp] theorem State.showTrack_kept (s : State) (f : Nat) :
    (State.showTrack s f).part = s.part ∧ (State.showTrack s f).pending = s.pending := by
  simp only [State.showTrack]
  (try repeat' split) <;> simp_all

@[simp] theorem State.showCtx_kept (s : State) (f : Nat) :
    (State.showCtx s f).part = s.part ∧ (State.showCtx s f).pending = s.pending := by
  simp only [State.showCtx]
  (try repeat' split) <;> simp_all

@[simp] theorem State.tellFloors_kept (s : State) (f : Nat) :
    (State.tellFloors s f).part = s.part ∧ (State.tellFloors s f).pending = s.pending := by
  simp only [State.tellFloors]
  (try repeat' split) <;> simp_all

@[simp] theorem State.showSparge_kept (s : State) (f : Nat) :
    (State.showSparge s f).part = s.part ∧ (State.showSparge s f).pending = s.pending := by
  simp only [State.showSparge]
  (try repeat' split) <;> simp_all

@[simp] theorem State.recount_kept (s : State) (f : Nat) :
    (State.recount s f).part = s.part ∧ (State.recount s f).pending = s.pending := by
  simp only [State.recount]
  (try repeat' split) <;> simp_all

@[simp] theorem State.spoil_kept (s : State) (f : Nat) (i : Nat) (x : Spoil) :
    (State.spoil s f i x).part = s.part ∧ (State.spoil s f i x).pending = s.pending := by
  simp only [State.spoil]
  (try repeat' split) <;> simp_all

@[simp] theorem State.mark_kept (s : State) (f : Nat) (i : Nat) (sample : Nat) (db : Int) :
    (State.mark s f i sample db).part = s.part ∧ (State.mark s f i sample db).pending = s.pending := by
  simp only [State.mark]
  (try repeat' split) <;> simp_all

@[simp] theorem State.spoilSent_kept (s : State) (f : Nat) (grid : Nat) (wide : Bool) :
    (State.spoilSent s f grid wide).part = s.part ∧ (State.spoilSent s f grid wide).pending = s.pending := by
  simp only [State.spoilSent]
  (try repeat' split) <;> simp_all

@[simp] theorem State.forgetPowers_kept (s : State) (f : Nat) (i : Nat) :
    (State.forgetPowers s f i).part = s.part ∧ (State.forgetPowers s f i).pending = s.pending := by
  simp only [State.forgetPowers]
  (try repeat' split) <;> simp_all

@[simp] theorem State.sendUp_kept (s : State) (f : Nat) (m : UpMsg) :
    (State.sendUp s f m).part = s.part ∧ (State.sendUp s f m).pending = s.pending := by
  simp only [State.sendUp]
  (try repeat' split) <;> simp_all

@[simp] theorem State.freeTrackers_kept (s : State) (f : Nat) (p : Tracker → Bool) (count : Fld) :
    (State.freeTrackers s f p count).part = s.part ∧ (State.freeTrackers s f p count).pending = s.pending := by
  simp only [State.freeTrackers]
  (try repeat' split) <;> simp_all

@[simp] theorem State.endCtxs_kept (s : State) (f : Nat) (p : DemodCtx → Bool) (blanked : Bool) (count : Fld) :
    (State.endCtxs s f p blanked count).part = s.part ∧ (State.endCtxs s f p blanked count).pending = s.pending := by
  simp only [State.endCtxs]
  (try repeat' split) <;> simp_all

@[simp] theorem State.loseStream_kept (s : State) (f : Nat) (i : Nat) :
    (State.loseStream s f i).part = s.part ∧ (State.loseStream s f i).pending = s.pending := by
  simp only [State.loseStream]
  (try repeat' split) <;> simp_all

@[simp] theorem State.bumpSatBy_kept (s : State) (f : Fld) (n : Nat) :
    (State.bumpSatBy s f n).part = s.part ∧ (State.bumpSatBy s f n).pending = s.pending := by
  simp only [State.bumpSatBy]
  (try repeat' split) <;> simp_all

@[simp] theorem State.blankStream_kept (s : State) (f : Nat) (n : Nat) (i : Nat) :
    (State.blankStream s f n i).part = s.part ∧ (State.blankStream s f n i).pending = s.pending := by
  simp only [State.blankStream]
  (try repeat' split) <;> simp_all

@[simp] theorem State.resetFloors_kept (s : State) (f : Nat) (i : Nat) :
    (State.resetFloors s f i).part = s.part ∧ (State.resetFloors s f i).pending = s.pending := by
  simp only [State.resetFloors]
  (try repeat' split) <;> simp_all

@[simp] theorem State.eachCtx_kept (s : State) (f : Nat) (src : Nat) (op : State → Nat → State) (h_op : ∀ (y0 : State) (y1 : Nat), (op y0 y1).part = y0.part ∧ (op y0 y1).pending = y0.pending) :
    (State.eachCtx s f src op).part = s.part ∧ (State.eachCtx s f src op).pending = s.pending := by
  simp only [State.eachCtx]
  (try repeat' split) <;> simp_all

@[simp] theorem State.setGain_kept (s : State) (f : Nat) (src : Nat) (g : GainRun) :
    (State.setGain s f src g).part = s.part ∧ (State.setGain s f src g).pending = s.pending := by
  simp only [State.setGain]
  (try repeat' split) <;> simp_all

@[simp] theorem State.startGain_kept (s : State) (f : Nat) (src : Nat) :
    (State.startGain s f src).part = s.part ∧ (State.startGain s f src).pending = s.pending := by
  simp only [State.startGain]
  (try repeat' split) <;> simp_all

@[simp] theorem State.setNodeTab_kept (s : State) (t : Tbl NodeEntry) :
    (State.setNodeTab s t).part = s.part ∧ (State.setNodeTab s t).pending = s.pending := by
  simp only [State.setNodeTab]
  (try repeat' split) <;> simp_all

@[simp] theorem State.nodePut_kept (s : State) (i : Nat) (w : Nat) :
    (State.nodePut s i w).part = s.part ∧ (State.nodePut s i w).pending = s.pending := by
  simp only [State.nodePut]
  (try repeat' split) <;> simp_all

@[simp] theorem State.nodeClear_kept (s : State) (i : Nat) :
    (State.nodeClear s i).part = s.part ∧ (State.nodeClear s i).pending = s.pending := by
  simp only [State.nodeClear]
  (try repeat' split) <;> simp_all

@[simp] theorem State.parityError_kept (s : State) (i : Nat) :
    (State.parityError s i).part = s.part ∧ (State.parityError s i).pending = s.pending := by
  simp only [State.parityError]
  (try repeat' split) <;> simp_all

@[simp] theorem State.nodeFind_kept (s : State) (a : Nat) :
    (State.nodeFind s a).1.part = s.part ∧ (State.nodeFind s a).1.pending = s.pending := by
  simp only [State.nodeFind]
  (try repeat' split) <;> simp_all

@[simp] theorem State.scrubBucket_kept (s : State) (a : Nat) :
    (State.scrubBucket s a).part = s.part ∧ (State.scrubBucket s a).pending = s.pending := by
  simp only [State.scrubBucket]
  (try repeat' split) <;> simp_all

@[simp] theorem State.learnNew_kept (s : State) (a : Nat) (w : Nat) :
    (State.learnNew s a w).part = s.part ∧ (State.learnNew s a w).pending = s.pending := by
  simp only [State.learnNew]
  (try repeat' split) <;> simp_all

@[simp] theorem State.learnSet_kept (s : State) (i : Nat) (ranked : List Nat) (rate : Nat) :
    (State.learnSet s i ranked rate).part = s.part ∧ (State.learnSet s i ranked rate).pending = s.pending := by
  simp only [State.learnSet]
  (try repeat' split) <;> simp_all

@[simp] theorem State.agingVisit_kept (s : State) (i : Nat) :
    (State.agingVisit s i).part = s.part ∧ (State.agingVisit s i).pending = s.pending := by
  simp only [State.agingVisit]
  (try repeat' split) <;> simp_all

@[simp] theorem State.latchCover_kept (s : State) :
    (State.latchCover s).part = s.part ∧ (State.latchCover s).pending = s.pending := by
  simp only [State.latchCover]
  (try repeat' split) <;> simp_all

@[simp] theorem State.nodeCmd_kept (s : State) (v : Nat) :
    (State.nodeCmd s v).part = s.part ∧ (State.nodeCmd s v).pending = s.pending := by
  simp only [State.nodeCmd]
  (try repeat' split) <;> simp_all

@[simp] theorem State.nodeDone_kept (s : State) (st : Status) (parity : Bool) :
    (State.nodeDone s st parity).part = s.part ∧ (State.nodeDone s st parity).pending = s.pending := by
  simp only [State.nodeDone]
  (try repeat' split) <;> simp_all

@[simp] theorem State.nodeResult_kept (s : State) (i : Nat) (w : Nat) :
    (State.nodeResult s i w).part = s.part ∧ (State.nodeResult s i w).pending = s.pending := by
  simp only [State.nodeResult]
  (try repeat' split) <;> simp_all

@[simp] theorem State.runNode_kept (s : State) (op : Nat) (effect : NodeOp → State → State) (h_effect : ∀ (y0 : NodeOp) (y1 : State), (effect y0 y1).part = y1.part ∧ (effect y0 y1).pending = y1.pending) :
    (State.runNode s op effect).part = s.part ∧ (State.runNode s op effect).pending = s.pending := by
  simp only [State.runNode]
  (try repeat' split) <;> simp_all

@[simp] theorem State.nodeRead_kept (o : NodeOp) (s : State) :
    (State.nodeRead o s).part = s.part ∧ (State.nodeRead o s).pending = s.pending := by
  simp only [State.nodeRead]
  (try repeat' split) <;> simp_all

@[simp] theorem State.nodeWrite_kept (o : NodeOp) (s : State) :
    (State.nodeWrite o s).part = s.part ∧ (State.nodeWrite o s).pending = s.pending := by
  simp only [State.nodeWrite]
  (try repeat' split) <;> simp_all

@[simp] theorem State.nodeInsert_kept (o : NodeOp) (s : State) :
    (State.nodeInsert o s).part = s.part ∧ (State.nodeInsert o s).pending = s.pending := by
  simp only [State.nodeInsert]
  (try repeat' split) <;> simp_all

@[simp] theorem State.nodeDelete_kept (o : NodeOp) (s : State) :
    (State.nodeDelete o s).part = s.part ∧ (State.nodeDelete o s).pending = s.pending := by
  have h := State.nodeFind_kept s o.key
  simp only [State.nodeDelete]
  repeat' split
  all_goals first | (rename_i e; rw [e] at h; simp_all) | (rename_i e _; rw [e] at h; simp_all) | (rename_i e _ _; rw [e] at h; simp_all) | simp_all

@[simp] theorem State.nodeSearch_kept (o : NodeOp) (s : State) :
    (State.nodeSearch o s).part = s.part ∧ (State.nodeSearch o s).pending = s.pending := by
  have h := State.nodeFind_kept s o.key
  simp only [State.nodeSearch]
  repeat' split
  all_goals first | (rename_i e; rw [e] at h; simp_all) | (rename_i e _; rw [e] at h; simp_all) | (rename_i e _ _; rw [e] at h; simp_all) | simp_all

@[simp] theorem State.ageScan_kept (o : NodeOp) (s : State) :
    (State.ageScan o s).part = s.part ∧ (State.ageScan o s).pending = s.pending := by
  simp only [State.ageScan]
  (try repeat' split) <;> simp_all

@[simp] theorem State.scanVisit_kept (age : Nat) (s : State) (e : Nat × NodeEntry) :
    (State.scanVisit age s e).part = s.part ∧ (State.scanVisit age s e).pending = s.pending := by
  simp only [State.scanVisit]
  (try repeat' split) <;> simp_all

@[simp] theorem State.hearCmd_kept (s : State) (f : Nat) (v : Nat) :
    (State.hearCmd s f v).part = s.part ∧ (State.hearCmd s f v).pending = s.pending := by
  simp only [State.hearCmd]
  (try repeat' split) <;> simp_all

@[simp] theorem State.hearDone_kept (s : State) (f : Nat) (st : Status) :
    (State.hearDone s f st).part = s.part ∧ (State.hearDone s f st).pending = s.pending := by
  simp only [State.hearDone]
  (try repeat' split) <;> simp_all

@[simp] theorem State.hearShow_kept (s : State) (f : Nat) (i : Nat) :
    (State.hearShow s f i).part = s.part ∧ (State.hearShow s f i).pending = s.pending := by
  simp only [State.hearShow]
  (try repeat' split) <;> simp_all

@[simp] theorem State.hearSearch_kept (s : State) (f : Nat) (o : HearOp) :
    (State.hearSearch s f o).part = s.part ∧ (State.hearSearch s f o).pending = s.pending := by
  simp only [State.hearSearch]
  (try repeat' split) <;> simp_all

@[simp] theorem State.runHear_kept (s : State) (f : Nat) (op : Nat) (effect : HearOp → State → State) (h_effect : ∀ (y0 : HearOp) (y1 : State), (effect y0 y1).part = y1.part ∧ (effect y0 y1).pending = y1.pending) :
    (State.runHear s f op effect).part = s.part ∧ (State.runHear s f op effect).pending = s.pending := by
  simp only [State.runHear]
  (try repeat' split) <;> simp_all

@[simp] theorem State.streamsFor_kept (s : State) (a : Nat) (slot : Option Nat) :
    (State.streamsFor s a slot).1.part = s.part ∧ (State.streamsFor s a slot).1.pending = s.pending := by
  simp only [State.streamsFor]
  (try repeat' split) <;> simp_all

@[simp] theorem State.setQueue_kept (s : State) (q : Nat) (x : Queue) :
    (State.setQueue s q x).part = s.part ∧ (State.setQueue s q x).pending = s.pending := by
  simp only [State.setQueue]
  (try repeat' split) <;> simp_all

@[simp] theorem State.setClassList_kept (s : State) (g : Nat) (c : Nat) (l : List Nat) :
    (State.setClassList s g c l).part = s.part ∧ (State.setClassList s g c l).pending = s.pending := by
  simp only [State.setClassList]
  (try repeat' split) <;> simp_all

@[simp] theorem State.setUrgentList_kept (s : State) (g : Nat) (l : List Nat) :
    (State.setUrgentList s g l).part = s.part ∧ (State.setUrgentList s g l).pending = s.pending := by
  simp only [State.setUrgentList]
  (try repeat' split) <;> simp_all

@[simp] theorem State.leaveLists_kept (s : State) (q : Nat) :
    (State.leaveLists s q).part = s.part ∧ (State.leaveLists s q).pending = s.pending := by
  simp only [State.leaveLists]
  (try repeat' split) <;> simp_all

@[simp] theorem State.joinNow_kept (s : State) (q : Nat) (urgent : Bool) (slot : Option Nat) :
    (State.joinNow s q urgent slot).part = s.part ∧ (State.joinNow s q urgent slot).pending = s.pending := by
  simp only [State.joinNow]
  (try repeat' split) <;> simp_all

@[simp] theorem State.join_kept (s : State) (q : Nat) (urgent : Bool) :
    (State.join s q urgent).part = s.part ∧ (State.join s q urgent).pending = s.pending := by
  simp only [State.join]
  (try repeat' split) <;> simp_all

@[simp] theorem State.fillBufs_kept (s : State) (r : Nat) (bs : List Nat) (data : List Byte) :
    (State.fillBufs s r bs data).part = s.part ∧ (State.fillBufs s r bs data).pending = s.pending := by
  simp only [State.fillBufs]
  (try repeat' split) <;> simp_all

@[simp] theorem State.freeBufs_kept (s : State) (r : Nat) (bs : List Nat) :
    (State.freeBufs s r bs).part = s.part ∧ (State.freeBufs s r bs).pending = s.pending := by
  simp only [State.freeBufs]
  (try repeat' split) <;> simp_all

@[simp] theorem State.leak_kept (s : State) (r : Nat) (bs : List Nat) :
    (State.leak s r bs).part = s.part ∧ (State.leak s r bs).pending = s.pending := by
  simp only [State.leak]
  (try repeat' split) <;> simp_all

@[simp] theorem State.link_kept (s : State) (b : Nat) (next : Nat) :
    (State.link s b next).part = s.part ∧ (State.link s b next).pending = s.pending := by
  simp only [State.link]
  (try repeat' split) <;> simp_all

@[simp] theorem State.enqueue_kept (s : State) (q : Nat) (header : List Byte) (payload : List Byte) (cmd : CmdRef) :
    (State.enqueue s q header payload cmd).part = s.part ∧ (State.enqueue s q header payload cmd).pending = s.pending := by
  simp only [State.enqueue]
  (try repeat' split) <;> simp_all

@[simp] theorem State.takeItem_kept (s : State) (q : Nat) :
    (State.takeItem s q).part = s.part ∧ (State.takeItem s q).pending = s.pending := by
  simp only [State.takeItem]
  (try repeat' split) <;> simp_all

@[simp] theorem State.rewindItem_kept (s : State) (q : Nat) :
    (State.rewindItem s q).part = s.part ∧ (State.rewindItem s q).pending = s.pending := by
  simp only [State.rewindItem]
  (try repeat' split) <;> simp_all

@[simp] theorem State.dropItem_kept (s : State) (b : Nat) :
    (State.dropItem s b).part = s.part ∧ (State.dropItem s b).pending = s.pending := by
  simp only [State.dropItem]
  (try repeat' split) <;> simp_all

@[simp] theorem State.freeItem_kept (s : State) (b : Nat) :
    (State.freeItem s b).part = s.part ∧ (State.freeItem s b).pending = s.pending := by
  simp only [State.freeItem]
  (try repeat' split) <;> simp_all

@[simp] theorem State.completeItem_kept (s : State) (b : Nat) (st : Status) (attempts : Nat) (result : Nat) (seq : Nat) :
    (State.completeItem s b st attempts result seq).part = s.part ∧ (State.completeItem s b st attempts result seq).pending = s.pending := by
  simp only [State.completeItem]
  (try repeat' split) <;> simp_all

@[simp] theorem State.releaseItem_kept (s : State) (q : Nat) (st : Status) (attempts : Nat) (result : Nat) (seq : Nat) :
    (State.releaseItem s q st attempts result seq).part = s.part ∧ (State.releaseItem s q st attempts result seq).pending = s.pending := by
  simp only [State.releaseItem]
  (try repeat' split) <;> simp_all

@[simp] theorem State.emptyQueue_kept (s : State) (q : Nat) :
    (State.emptyQueue s q).part = s.part ∧ (State.emptyQueue s q).pending = s.pending := by
  simp only [State.emptyQueue]
  (try repeat' split) <;> simp_all

@[simp] theorem State.completeUnsent_kept (s : State) (b : Nat) (st : Status) :
    (State.completeUnsent s b st).part = s.part ∧ (State.completeUnsent s b st).pending = s.pending := by
  simp only [State.completeUnsent]
  (try repeat' split) <;> simp_all

@[simp] theorem State.flushQueue_kept (s : State) (q : Nat) :
    (State.flushQueue s q).part = s.part ∧ (State.flushQueue s q).pending = s.pending := by
  simp only [State.flushQueue]
  (try repeat' split) <;> simp_all

@[simp] theorem State.caskFault_kept (s : State) (q : Nat) :
    (State.caskFault s q).part = s.part ∧ (State.caskFault s q).pending = s.pending := by
  simp only [State.caskFault]
  (try repeat' split) <;> simp_all

@[simp] theorem State.loseItems_kept (s : State) (q : Nat) :
    (State.loseItems s q).part = s.part ∧ (State.loseItems s q).pending = s.pending := by
  simp only [State.loseItems]
  (try repeat' split) <;> simp_all

@[simp] theorem State.loseHead_kept (s : State) (q : Nat) :
    (State.loseHead s q).part = s.part ∧ (State.loseHead s q).pending = s.pending := by
  simp only [State.loseHead]
  (try repeat' split) <;> simp_all

@[simp] theorem State.loseLinks_kept (s : State) (q : Nat) :
    (State.loseLinks s q).part = s.part ∧ (State.loseLinks s q).pending = s.pending := by
  simp only [State.loseLinks]
  (try repeat' split) <;> simp_all

@[simp] theorem State.loseQueue_kept (s : State) (q : Nat) :
    (State.loseQueue s q).part = s.part ∧ (State.loseQueue s q).pending = s.pending := by
  simp only [State.loseQueue]
  (try repeat' split) <;> simp_all

@[simp] theorem State.caskCmd_kept (s : State) (v : Nat) :
    (State.caskCmd s v).part = s.part ∧ (State.caskCmd s v).pending = s.pending := by
  simp only [State.caskCmd]
  (try repeat' split) <;> simp_all

@[simp] theorem State.caskDone_kept (s : State) (st : Status) :
    (State.caskDone s st).part = s.part ∧ (State.caskDone s st).pending = s.pending := by
  simp only [State.caskDone]
  (try repeat' split) <;> simp_all

@[simp] theorem State.runCask_kept (s : State) (op : Nat) (effect : CaskOp → State → State) (h_effect : ∀ (y0 : CaskOp) (y1 : State), (effect y0 y1).part = y1.part ∧ (effect y0 y1).pending = y1.pending) :
    (State.runCask s op effect).part = s.part ∧ (State.runCask s op effect).pending = s.pending := by
  simp only [State.runCask]
  (try repeat' split) <;> simp_all

@[simp] theorem State.caskBind_kept (o : CaskOp) (s : State) :
    (State.caskBind o s).part = s.part ∧ (State.caskBind o s).pending = s.pending := by
  simp only [State.caskBind]
  (try repeat' split) <;> simp_all

@[simp] theorem State.caskUnbind_kept (o : CaskOp) (s : State) :
    (State.caskUnbind o s).part = s.part ∧ (State.caskUnbind o s).pending = s.pending := by
  simp only [State.caskUnbind]
  (try repeat' split) <;> simp_all

@[simp] theorem State.poolEnable_kept (s : State) (v : Nat) :
    (State.poolEnable s v).part = s.part ∧ (State.poolEnable s v).pending = s.pending := by
  simp only [State.poolEnable]
  (try repeat' split) <;> simp_all

@[simp] theorem State.readLine_kept (s : State) (l : Nat) :
    (State.readLine s l).part = s.part ∧ (State.readLine s l).pending = s.pending := by
  simp only [State.readLine]
  (try repeat' split) <;> simp_all

@[simp] theorem State.resume_kept (s : State) (n : Nat) :
    (State.resume s n).part = s.part ∧ (State.resume s n).pending = s.pending := by
  simp only [State.resume]
  (try repeat' split) <;> simp_all

@[simp] theorem State.putRingCtl_kept (s : State) (n : Nat) (v : Nat) :
    (State.putRingCtl s n v).part = s.part ∧ (State.putRingCtl s n v).pending = s.pending := by
  simp only [State.putRingCtl]
  (try repeat' split) <;> simp_all

@[simp] theorem State.ringCtl_kept (s : State) (n : Nat) (v : Nat) :
    (State.ringCtl s n v).part = s.part ∧ (State.ringCtl s n v).pending = s.pending := by
  simp only [State.ringCtl]
  (try repeat' split) <;> simp_all

@[simp] theorem State.judgeIndex_kept (s : State) (n : Nat) (v : Nat) :
    (State.judgeIndex s n v).part = s.part ∧ (State.judgeIndex s n v).pending = s.pending := by
  simp only [State.judgeIndex]
  (try repeat' split) <;> simp_all

@[simp] theorem State.pollRound_kept (s : State) :
    (State.pollRound s).part = s.part ∧ (State.pollRound s).pending = s.pending := by
  simp only [State.pollRound]
  (try repeat' split) <;> simp_all

@[simp] theorem State.judgeBoth_kept (s : State) (n : Nat) (v : Nat) (k : Nat) :
    (State.judgeBoth s n v k).part = s.part ∧ (State.judgeBoth s n v k).pending = s.pending := by
  simp only [State.judgeBoth]
  (try repeat' split) <;> simp_all

@[simp] theorem State.kick_kept (s : State) (n : Nat) (v : Nat) :
    (State.kick s n v).part = s.part ∧ (State.kick s n v).pending = s.pending := by
  simp only [State.kick]
  (try repeat' split) <;> simp_all

@[simp] theorem State.pollReadDone_kept (s : State) (line : Nat) (result : Option (List (BitVec 32))) (kicks : List (Nat × Nat)) :
    (State.pollReadDone s line result kicks).part = s.part ∧ (State.pollReadDone s line result kicks).pending = s.pending := by
  simp only [State.pollReadDone]
  split
  · refine ⟨(State.each_kept _ _ _ (fun s k => by simp)).1.trans ?_, (State.each_kept _ _ _ (fun s k => by simp)).2.trans ?_⟩ <;> simp
  · refine ⟨(State.each_kept _ _ _ (fun s k => by split <;> simp)).1.trans ?_, (State.each_kept _ _ _ (fun s k => by split <;> simp)).2.trans ?_⟩
    · exact ((State.each_kept _ _ _ (fun s i => by (repeat' split) <;> simp)).1).trans rfl
    · exact ((State.each_kept _ _ _ (fun s i => by (repeat' split) <;> simp)).2).trans rfl

@[simp] theorem State.badDescriptor_kept (s : State) (n : Nat) (a : Nat) (st : Status) :
    (State.badDescriptor s n a st).part = s.part ∧ (State.badDescriptor s n a st).pending = s.pending := by
  simp only [State.badDescriptor]
  (try repeat' split) <;> simp_all

@[simp] theorem State.visit_kept (s : State) (n : Nat) (failed : Option (Fin 8)) :
    (State.visit s n failed).part = s.part ∧ (State.visit s n failed).pending = s.pending := by
  simp only [State.visit]
  (try repeat' split) <;> simp_all

@[simp] theorem State.holdoffEnd_kept (s : State) (v : Nat) :
    (State.holdoffEnd s v).part = s.part ∧ (State.holdoffEnd s v).pending = s.pending := by
  simp only [State.holdoffEnd]
  (try repeat' split) <;> simp_all

@[simp] theorem State.pendClear_kept (s : State) (j : Nat) (v : Nat) (firing : Nat) :
    (State.pendClear s j v firing).part = s.part ∧ (State.pendClear s j v firing).pending = s.pending := by
  simp only [State.pendClear]
  (try repeat' split) <;> simp_all

@[simp] theorem State.sendCheck_kept (s : State) (n : Nat) (desc : List Byte) :
    (State.sendCheck s n desc).part = s.part ∧ (State.sendCheck s n desc).pending = s.pending := by
  simp only [State.sendCheck]
  (try repeat' split) <;> simp_all

@[simp] theorem State.countRefusal_kept (s : State) (st : Status) :
    (State.countRefusal s st).part = s.part ∧ (State.countRefusal s st).pending = s.pending := by
  simp only [State.countRefusal]
  (try repeat' split) <;> simp_all

@[simp] theorem State.sendPayload_kept (s : State) (n : Nat) (d : List Byte) (payload : List Byte) :
    (State.sendPayload s n d payload).part = s.part ∧ (State.sendPayload s n d payload).pending = s.pending := by
  simp only [State.sendPayload]
  (try repeat' split) <;> simp_all

@[simp] theorem State.sendDone_kept (s : State) (n : Nat) (d : List Byte) (w : WalkIn) :
    (State.sendDone s n d w).part = s.part ∧ (State.sendDone s n d w).pending = s.pending := by
  simp only [State.sendDone]
  (try repeat' split) <;> simp_all

@[simp] theorem State.contact_kept (s : State) (c : CmdRef) (d : List Byte) :
    (State.contact s c d).part = s.part ∧ (State.contact s c d).pending = s.pending := by
  simp only [State.contact]
  (try repeat' split) <;> simp_all

@[simp] theorem State.endContact_kept (s : State) (id : Nat) (k : Contact) (st : Status) :
    (State.endContact s id k st).part = s.part ∧ (State.endContact s id k st).pending = s.pending := by
  simp only [State.endContact]
  (try repeat' split) <;> simp_all

@[simp] theorem State.cancelContact_kept (s : State) (c : CmdRef) (d : List Byte) :
    (State.cancelContact s c d).part = s.part ∧ (State.cancelContact s c d).pending = s.pending := by
  simp only [State.cancelContact]
  (try repeat' split) <;> simp_all

@[simp] theorem State.approvedReject_kept (s : State) :
    (State.approvedReject s).part = s.part ∧ (State.approvedReject s).pending = s.pending := by
  simp only [State.approvedReject]
  (try repeat' split) <;> simp_all

@[simp] theorem State.countKeyError_kept (s : State) (st : Status) :
    (State.countKeyError s st).part = s.part ∧ (State.countKeyError s st).pending = s.pending := by
  simp only [State.countKeyError]
  (try repeat' split) <;> simp_all

@[simp] theorem State.setCache_kept (s : State) (t : Tbl CacheEntry) :
    (State.setCache s t).part = s.part ∧ (State.setCache s t).pending = s.pending := by
  simp only [State.setCache]
  (try repeat' split) <;> simp_all

@[simp] theorem State.touchCache_kept (s : State) (i : Nat) (g : Option Nat) :
    (State.touchCache s i g).part = s.part ∧ (State.touchCache s i g).pending = s.pending := by
  simp only [State.touchCache]
  (try repeat' split) <;> simp_all

@[simp] theorem State.cacheMiss_kept (s : State) (n : Nat) (a : Nat) (ix : Nat) (slot : Nat) (x : Slot) (g : Option Nat) :
    (State.cacheMiss s n a ix slot x g).1.part = s.part ∧ (State.cacheMiss s n a ix slot x g).1.pending = s.pending := by
  simp only [State.cacheMiss]
  (try repeat' split) <;> simp_all

@[simp] theorem State.nodeKey_kept (s : State) (n : Nat) (a : Nat) (ix : Nat) (g : Option Nat) :
    (State.nodeKey s n a ix g).1.part = s.part ∧ (State.nodeKey s n a ix g).1.pending = s.pending := by
  simp only [State.nodeKey]
  (try repeat' split) <;> simp_all

@[simp] theorem State.emptyCache_kept (s : State) (p : CacheEntry → Bool) :
    (State.emptyCache s p).part = s.part ∧ (State.emptyCache s p).pending = s.pending := by
  simp only [State.emptyCache]
  (try repeat' split) <;> simp_all

@[simp] theorem State.cacheEnd_kept (s : State) (g : Nat) (keep : Option KeyRef) :
    (State.cacheEnd s g keep).part = s.part ∧ (State.cacheEnd s g keep).pending = s.pending := by
  simp only [State.cacheEnd]
  (try repeat' split) <;> simp_all

@[simp] theorem State.dropDerived_kept (s : State) (slots : List Nat) :
    (State.dropDerived s slots).part = s.part ∧ (State.dropDerived s slots).pending = s.pending := by
  simp only [State.dropDerived]
  (try repeat' split) <;> simp_all

@[simp] theorem State.showQueue_kept (s : State) :
    (State.showQueue s).part = s.part ∧ (State.showQueue s).pending = s.pending := by
  simp only [State.showQueue]
  (try repeat' split) <;> simp_all

@[simp] theorem State.setReqs_kept (s : State) (t : Tbl CheckReq) :
    (State.setReqs s t).part = s.part ∧ (State.setReqs s t).pending = s.pending := by
  simp only [State.setReqs]
  (try repeat' split) <;> simp_all

@[simp] theorem State.newReq_kept (s : State) (r : CheckReq) :
    (State.newReq s r).part = s.part ∧ (State.newReq s r).pending = s.pending := by
  simp only [State.newReq]
  (try repeat' split) <;> simp_all

@[simp] theorem State.useSlot_kept (s : State) (k : Nat) :
    (State.useSlot s k).part = s.part ∧ (State.useSlot s k).pending = s.pending := by
  simp only [State.useSlot]
  (try repeat' split) <;> simp_all

@[simp] theorem State.admitKeys_kept (s : State) (id : Nat) (r : CheckReq) (key : List Byte) :
    (State.admitKeys s id r key).part = s.part ∧ (State.admitKeys s id r key).pending = s.pending := by
  simp only [State.admitKeys]
  (try repeat' split) <;> simp_all

@[simp] theorem State.sweepSlot_kept (s : State) (k : Nat) :
    (State.sweepSlot s k).part = s.part ∧ (State.sweepSlot s k).pending = s.pending := by
  simp only [State.sweepSlot]
  (try repeat' split) <;> simp_all

@[simp] theorem State.endReq_kept (s : State) (id : Nat) (r : CheckReq) :
    (State.endReq s id r).part = s.part ∧ (State.endReq s id r).pending = s.pending := by
  simp only [State.endReq]
  (try repeat' split) <;> simp_all

@[simp] theorem State.countCheck_kept (s : State) (r : CheckReq) :
    (State.countCheck s r).part = s.part ∧ (State.countCheck s r).pending = s.pending := by
  simp only [State.countCheck]
  (try repeat' split) <;> simp_all

@[simp] theorem State.nextCounter_kept (s : State) (a : Nat) (kc : Nat) :
    (State.nextCounter s a kc).1.part = s.part ∧ (State.nextCounter s a kc).1.pending = s.pending := by
  simp only [State.nextCounter]
  (try repeat' split) <;> simp_all

@[simp] theorem State.setChain_kept (s : State) (f : Nat) (c : Nat) (r : ChainRun) :
    (State.setChain s f c r).part = s.part ∧ (State.setChain s f c r).pending = s.pending := by
  simp only [State.setChain]
  (try repeat' split) <;> simp_all

@[simp] theorem State.loseChain_kept (s : State) (f : Nat) (c : Nat) :
    (State.loseChain s f c).part = s.part ∧ (State.loseChain s f c).pending = s.pending := by
  simp only [State.loseChain]
  (try repeat' split) <;> simp_all

@[simp] theorem State.retuneRx_kept (s : State) (f : Nat) (c : Nat) (fc : Nat) :
    (State.retuneRx s f c fc).part = s.part ∧ (State.retuneRx s f c fc).pending = s.pending := by
  simp only [State.retuneRx]
  (try repeat' split) <;> simp_all

@[simp] theorem State.startChain_kept (s : State) (f : Nat) (c : Nat) :
    (State.startChain s f c).part = s.part ∧ (State.startChain s f c).pending = s.pending := by
  simp only [State.startChain]
  (try repeat' split) <;> simp_all

@[simp] theorem State.stopChain_kept (s : State) (f : Nat) (c : Nat) :
    (State.stopChain s f c).part = s.part ∧ (State.stopChain s f c).pending = s.pending := by
  simp only [State.stopChain]
  (try repeat' split) <;> simp_all

@[simp] theorem State.calDue_kept (s : State) (f : Nat) (c : Nat) (cal : Nat) :
    (State.calDue s f c cal).part = s.part ∧ (State.calDue s f c cal).pending = s.pending := by
  simp only [State.calDue]
  (try repeat' split) <;> simp_all

@[simp] theorem State.rxch_kept (s : State) (f : Nat) (c : Nat) (v : Nat) :
    (State.rxch s f c v).part = s.part ∧ (State.rxch s f c v).pending = s.pending := by
  simp only [State.rxch]
  (try repeat' split) <;> simp_all

@[simp] theorem State.runCals_kept (s : State) (f : Nat) (c : Nat) (free : Bool) :
    (State.runCals s f c free).part = s.part ∧ (State.runCals s f c free).pending = s.pending := by
  simp only [State.runCals]
  (try repeat' split) <;> simp_all

@[simp] theorem State.calDone_kept (s : State) (f : Nat) (c : Nat) (cal : Nat) (ok : Bool) (imageDb : Nat) :
    (State.calDone s f c cal ok imageDb).part = s.part ∧ (State.calDone s f c cal ok imageDb).pending = s.pending := by
  simp only [State.calDone]
  (try repeat' split) <;> simp_all

@[simp] theorem State.setHcb_kept (s : State) (f : Nat) (m : Nat) (h : HcbMaster) :
    (State.setHcb s f m h).part = s.part ∧ (State.setHcb s f m h).pending = s.pending := by
  simp only [State.setHcb]
  (try repeat' split) <;> simp_all

@[simp] theorem State.hcbNext_kept (s : State) (f : Nat) (m : Nat) :
    (State.hcbNext s f m).part = s.part ∧ (State.hcbNext s f m).pending = s.pending := by
  simp only [State.hcbNext]
  (try repeat' split) <;> simp_all

@[simp] theorem State.hcbSeq_kept (s : State) (f : Nat) (m : Nat) (t : HcbTx) :
    (State.hcbSeq s f m t).part = s.part ∧ (State.hcbSeq s f m t).pending = s.pending := by
  simp only [State.hcbSeq]
  (try repeat' split) <;> simp_all

@[simp] theorem State.hcbHost_kept (s : State) (f : Nat) (v : Nat) :
    (State.hcbHost s f v).part = s.part ∧ (State.hcbHost s f v).pending = s.pending := by
  simp only [State.hcbHost]
  (try repeat' split) <;> simp_all

@[simp] theorem State.scaleFloors_kept (s : State) (f : Nat) (src : Nat) (db : Int) :
    (State.scaleFloors s f src db).part = s.part ∧ (State.scaleFloors s f src db).pending = s.pending := by
  simp only [State.scaleFloors]
  (try repeat' split) <;> simp_all

@[simp] theorem State.gainTakes_kept (s : State) (f : Nat) (src : Nat) (idx : Nat) (sample : Nat) :
    (State.gainTakes s f src idx sample).part = s.part ∧ (State.gainTakes s f src idx sample).pending = s.pending := by
  simp only [State.gainTakes]
  (try repeat' split) <;> simp_all

@[simp] theorem State.gainStep_kept (s : State) (f : Nat) (src : Nat) (idx : Nat) (sample : Nat) :
    (State.gainStep s f src idx sample).part = s.part ∧ (State.gainStep s f src idx sample).pending = s.pending := by
  simp only [State.gainStep]
  (try repeat' split) <;> simp_all

@[simp] theorem State.agcWindow_kept (s : State) (f : Nat) (src : Nat) (peak : PeakClass) (sample : Nat) :
    (State.agcWindow s f src peak sample).part = s.part ∧ (State.agcWindow s f src peak sample).pending = s.pending := by
  simp only [State.agcWindow]
  (try repeat' split) <;> simp_all

@[simp] theorem State.applyDgain_kept (s : State) (f : Nat) (src : Nat) (sample : Nat) :
    (State.applyDgain s f src sample).part = s.part ∧ (State.applyDgain s f src sample).pending = s.pending := by
  simp only [State.applyDgain]
  (try repeat' split) <;> simp_all

@[simp] theorem State.countClamps_kept (s : State) (f : Nat) (src : Nat) (clamped : List (Fin 512)) :
    (State.countClamps s f src clamped).part = s.part ∧ (State.countClamps s f src clamped).pending = s.pending := by
  simp only [State.countClamps]
  (try repeat' split) <;> simp_all

@[simp] theorem State.showBlank_kept (s : State) (f : Nat) (n : Nat) (active : Bool) :
    (State.showBlank s f n active).part = s.part ∧ (State.showBlank s f n active).pending = s.pending := by
  simp only [State.showBlank]
  (try repeat' split) <;> simp_all

@[simp] theorem State.blankOn_kept (s : State) (f : Nat) (n : Nat) :
    (State.blankOn s f n).part = s.part ∧ (State.blankOn s f n).pending = s.pending := by
  simp only [State.blankOn]
  (try repeat' split) <;> simp_all

@[simp] theorem State.blankOff_kept (s : State) (f : Nat) (n : Nat) :
    (State.blankOff s f n).part = s.part ∧ (State.blankOff s f n).pending = s.pending := by
  simp only [State.blankOff]
  (try repeat' split) <;> simp_all

@[simp] theorem State.blankPol_kept (s : State) (f : Nat) (v : Nat) :
    (State.blankPol s f v).part = s.part ∧ (State.blankPol s f v).pending = s.pending := by
  simp only [State.blankPol]
  (try repeat' split) <;> simp_all

@[simp] theorem State.setCx_kept (s : State) (f : Nat) (n : Nat) (c : CxRun) :
    (State.setCx s f n c).part = s.part ∧ (State.setCx s f n c).pending = s.pending := by
  simp only [State.setCx]
  (try repeat' split) <;> simp_all

@[simp] theorem State.cxGrant_kept (s : State) (f : Nat) (n : Nat) :
    (State.cxGrant s f n).part = s.part ∧ (State.cxGrant s f n).pending = s.pending := by
  simp only [State.cxGrant]
  (try repeat' split) <;> simp_all

@[simp] theorem State.cxLead_kept (s : State) (f : Nat) (n : Nat) (who : Bool × Nat) :
    (State.cxLead s f n who).part = s.part ∧ (State.cxLead s f n who).pending = s.pending := by
  simp only [State.cxLead]
  (try repeat' split) <;> simp_all

@[simp] theorem State.cxEnd_kept (s : State) (f : Nat) (o : Nat) (who : Bool × Nat) :
    (State.cxEnd s f o who).part = s.part ∧ (State.cxEnd s f o who).pending = s.pending := by
  simp only [State.cxEnd]
  (try repeat' split) <;> simp_all

@[simp] theorem State.noteThr_kept (s : State) (key : Nat) (was : Nat) :
    (State.noteThr s key was).part = s.part ∧ (State.noteThr s key was).pending = s.pending := by
  simp only [State.noteThr]
  (try repeat' split) <;> simp_all

@[simp] theorem State.setTracker_kept (s : State) (f : Nat) (t : Nat) (x : Tracker) :
    (State.setTracker s f t x).part = s.part ∧ (State.setTracker s f t x).pending = s.pending := by
  simp only [State.setTracker]
  (try repeat' split) <;> simp_all

@[simp] theorem State.trackFull_kept (s : State) (f : Nat) :
    (State.trackFull s f).part = s.part ∧ (State.trackFull s f).pending = s.pending := by
  simp only [State.trackFull]
  (try repeat' split) <;> simp_all

@[simp] theorem State.takeTracker_kept (s : State) (f : Nat) (x : Tracker) :
    (State.takeTracker s f x).part = s.part ∧ (State.takeTracker s f x).pending = s.pending := by
  simp only [State.takeTracker]
  (try repeat' split) <;> simp_all

@[simp] theorem State.takeRhos_kept (s : State) (f : Nat) (l : List (Fin 2048 × Frac)) :
    (State.takeRhos s f l).part = s.part ∧ (State.takeRhos s f l).pending = s.pending := State.each_kept _ _ _ (fun s e => by (repeat' split) <;> simp)

@[simp] theorem State.cancelOthers_kept (s : State) (f : Nat) (t : Nat) (x : Tracker) :
    (State.cancelOthers s f t x).part = s.part ∧ (State.cancelOthers s f t x).pending = s.pending := by
  simp only [State.cancelOthers]
  (try repeat' split) <;> simp_all

@[simp] theorem State.freeTracker_kept (s : State) (f : Nat) (t : Nat) (x : Tracker) :
    (State.freeTracker s f t x).part = s.part ∧ (State.freeTracker s f t x).pending = s.pending := by
  simp only [State.freeTracker]
  (try repeat' split) <;> simp_all

@[simp] theorem State.allocate_kept (s : State) (f : Nat) (x : Tracker) (n : Nat) (nf : NetForce) (ns : Int) (power : Frac) :
    (State.allocate s f x n nf ns power).part = s.part ∧ (State.allocate s f x n nf ns power).pending = s.pending := by
  simp only [State.allocate]
  (try repeat' split) <;> simp_all

@[simp] theorem State.syncMatched_kept (s : State) (f : Nat) (t : Nat) (x : Tracker) (n : Nat) (nf : NetForce) (fclk : Nat) (pos : Nat) (power : Frac) :
    (State.syncMatched s f t x n nf fclk pos power).part = s.part ∧ (State.syncMatched s f t x n nf fclk pos power).pending = s.pending := by
  simp only [State.syncMatched]
  (try repeat' split) <;> simp_all

@[simp] theorem State.floorWindow_kept (s : State) (f : Nat) (i : Nat) (c : ChanPower) :
    (State.floorWindow s f i c).part = s.part ∧ (State.floorWindow s f i c).pending = s.pending := by
  simp only [State.floorWindow]
  (try repeat' split) <;> simp_all

@[simp] theorem State.steepCtl_kept (s : State) (f : Nat) (v : Nat) :
    (State.steepCtl s f v).part = s.part ∧ (State.steepCtl s f v).pending = s.pending := by
  simp only [State.steepCtl]
  (try repeat' split) <;> simp_all

@[simp] theorem State.spargeStream_kept (s : State) (f : Nat) (i : Nat) (v : Nat) :
    (State.spargeStream s f i v).part = s.part ∧ (State.spargeStream s f i v).pending = s.pending := by
  simp only [State.spargeStream]
  (try repeat' split) <;> simp_all

@[simp] theorem State.readTrack_kept (s : State) (f : Nat) :
    (State.readTrack s f).1.part = s.part ∧ (State.readTrack s f).1.pending = s.pending := by
  simp only [State.readTrack]
  (try repeat' split) <;> simp_all

@[simp] theorem State.readCtx_kept (s : State) (f : Nat) :
    (State.readCtx s f).1.part = s.part ∧ (State.readCtx s f).1.pending = s.pending := by
  simp only [State.readCtx]
  (try repeat' split) <;> simp_all

@[simp] theorem State.setCtx_kept (s : State) (f : Nat) (d : Nat) (c : DemodCtx) :
    (State.setCtx s f d c).part = s.part ∧ (State.setCtx s f d c).pending = s.pending := by
  simp only [State.setCtx]
  (try repeat' split) <;> simp_all

@[simp] theorem State.freeCtx_kept (s : State) (f : Nat) (d : Nat) (c : DemodCtx) :
    (State.freeCtx s f d c).part = s.part ∧ (State.freeCtx s f d c).pending = s.pending := by
  simp only [State.freeCtx]
  (try repeat' split) <;> simp_all

@[simp] theorem State.checkGroup_kept (s : State) (f : Nat) (d : Nat) (c : DemodCtx) (start : Nat × Nat) :
    (State.checkGroup s f d c start).part = s.part ∧ (State.checkGroup s f d c start).pending = s.pending := by
  simp only [State.checkGroup]
  (try repeat' split) <;> simp_all

@[simp] theorem State.hearUpdate_kept (s : State) (f : Nat) (src : Nat) (ctx : Nat) (rate : Nat) (lqi : Nat) :
    (State.hearUpdate s f src ctx rate lqi).part = s.part ∧ (State.hearUpdate s f src ctx rate lqi).pending = s.pending := by
  simp only [State.hearUpdate]
  (try repeat' split) <;> simp_all

@[simp] theorem State.sendRecord_kept (s : State) (f : Nat) (d : Nat) (c : DemodCtx) :
    (State.sendRecord s f d c).part = s.part ∧ (State.sendRecord s f d c).pending = s.pending := by
  simp only [State.sendRecord]
  (try repeat' split) <;> simp_all

@[simp] theorem State.sendSegment_kept (s : State) (f : Nat) (d : Nat) (c : DemodCtx) (upTo : Nat) (last : Bool) (tailLate : Bool) (start : Nat × Nat) :
    (State.sendSegment s f d c upTo last tailLate start).part = s.part ∧ (State.sendSegment s f d c upTo last tailLate start).pending = s.pending := by
  simp only [State.sendSegment]
  (try repeat' split) <;> simp_all

@[simp] theorem State.lookContacts_kept (s : State) :
    (State.lookContacts s).part = s.part ∧ (State.lookContacts s).pending = s.pending := by
  simp only [State.lookContacts]
  (try repeat' split) <;> simp_all

@[simp] theorem State.setJob_kept (s : State) (id : Nat) (j : TxJob) :
    (State.setJob s id j).part = s.part ∧ (State.setJob s id j).pending = s.pending := by
  simp only [State.setJob]
  (try repeat' split) <;> simp_all

@[simp] theorem State.dropJob_kept (s : State) (id : Nat) :
    (State.dropJob s id).part = s.part ∧ (State.dropJob s id).pending = s.pending := by
  simp only [State.dropJob]
  (try repeat' split) <;> simp_all

@[simp] theorem State.addJob_kept (s : State) (j : TxJob) :
    (State.addJob s j).part = s.part ∧ (State.addJob s j).pending = s.pending := by
  simp only [State.addJob]
  (try repeat' split) <;> simp_all

@[simp] theorem State.setDown_kept (s : State) (q : Nat) (d : Downlink) :
    (State.setDown s q d).part = s.part ∧ (State.setDown s q d).pending = s.pending := by
  simp only [State.setDown]
  (try repeat' split) <;> simp_all

@[simp] theorem State.dropWaiting_kept (s : State) (d : Downlink) :
    (State.dropWaiting s d).part = s.part ∧ (State.dropWaiting s d).pending = s.pending := by
  simp only [State.dropWaiting]
  (try repeat' split) <;> simp_all

@[simp] theorem State.releaseDown_kept (s : State) (q : Nat) (d : Downlink) (st : Status) :
    (State.releaseDown s q d st).part = s.part ∧ (State.releaseDown s q d st).pending = s.pending := by
  simp only [State.releaseDown]
  (try repeat' split) <;> simp_all

@[simp] theorem State.completeDown_kept (s : State) (q : Nat) (d : Downlink) (st : Status) :
    (State.completeDown s q d st).part = s.part ∧ (State.completeDown s q d st).pending = s.pending := by
  simp only [State.completeDown]
  (try repeat' split) <;> simp_all

@[simp] theorem State.rewindDown_kept (s : State) (q : Nat) (d : Downlink) :
    (State.rewindDown s q d).part = s.part ∧ (State.rewindDown s q d).pending = s.pending := by
  simp only [State.rewindDown]
  (try repeat' split) <;> simp_all

@[simp] theorem State.attemptEnd_kept (s : State) (q : Nat) (d : Downlink) :
    (State.attemptEnd s q d).part = s.part ∧ (State.attemptEnd s q d).pending = s.pending := by
  simp only [State.attemptEnd]
  (try repeat' split) <;> simp_all

@[simp] theorem State.copyEnd_kept (s : State) (id : Nat) (j : TxJob) (st : Status) (tail : Option Int) :
    (State.copyEnd s id j st tail).part = s.part ∧ (State.copyEnd s id j st tail).pending = s.pending := by
  simp only [State.copyEnd]
  (try repeat' split) <;> simp_all

@[simp] theorem State.failJob_kept (s : State) (id : Nat) (j : TxJob) (st : Status) :
    (State.failJob s id j st).part = s.part ∧ (State.failJob s id j st).pending = s.pending := by
  simp only [State.failJob]
  (try repeat' split) <;> simp_all

@[simp] theorem State.leaveAir_kept (s : State) (j : TxJob) :
    (State.leaveAir s j).part = s.part ∧ (State.leaveAir s j).pending = s.pending := by
  simp only [State.leaveAir]
  (try repeat' split) <;> simp_all

@[simp] theorem State.cutJob_kept (s : State) (j : TxJob) :
    (State.cutJob s j).part = s.part ∧ (State.cutJob s j).pending = s.pending := by
  simp only [State.cutJob]
  (try repeat' split) <;> simp_all

@[simp] theorem State.mismatch_kept (s : State) (f : Nat) (c : Nat) :
    (State.mismatch s f c).part = s.part ∧ (State.mismatch s f c).pending = s.pending := by
  simp only [State.mismatch]
  (try repeat' split) <;> simp_all

@[simp] theorem State.probe_kept (s : State) (f : Nat) (c : Nat) (within : Bool) (granted : Bool) :
    (State.probe s f c within granted).part = s.part ∧ (State.probe s f c within granted).pending = s.pending := by
  simp only [State.probe]
  (try repeat' split) <;> simp_all

@[simp] theorem State.probeNext_kept (s : State) (f : Nat) (c : Nat) :
    (State.probeNext s f c).part = s.part ∧ (State.probeNext s f c).pending = s.pending := by
  simp only [State.probeNext]
  (try repeat' split) <;> simp_all

@[simp] theorem State.busyTimeout_kept (s : State) :
    (State.busyTimeout s).part = s.part ∧ (State.busyTimeout s).pending = s.pending := by
  simp only [State.busyTimeout]
  (try repeat' split) <;> simp_all

@[simp] theorem State.backOff_kept (s : State) (id : Nat) (j : TxJob) :
    (State.backOff s id j).part = s.part ∧ (State.backOff s id j).pending = s.pending := by
  simp only [State.backOff]
  (try repeat' split) <;> simp_all

@[simp] theorem State.grantLost_kept (s : State) (f : Nat) (n : Nat) :
    (State.grantLost s f n).part = s.part ∧ (State.grantLost s f n).pending = s.pending := by
  simp only [State.grantLost]
  apply State.each_kept
  intro s e
  (repeat' split) <;> simp_all

@[simp] theorem State.startJob_kept (s : State) (id : Nat) (j : TxJob) :
    (State.startJob s id j).part = s.part ∧ (State.startJob s id j).pending = s.pending := by
  simp only [State.startJob]
  (try repeat' split) <;> simp_all

@[simp] theorem State.txStart_kept (s : State) (id : Nat) (j : TxJob) :
    (State.txStart s id j).part = s.part ∧ (State.txStart s id j).pending = s.pending := by
  simp only [State.txStart]
  (try repeat' split) <;> simp_all

@[simp] theorem State.gateCommit_kept (s : State) (g : Nat) :
    (State.gateCommit s g).part = s.part ∧ (State.gateCommit s g).pending = s.pending := by
  simp only [State.gateCommit]
  (try repeat' split) <;> simp_all

@[simp] theorem State.gateCancel_kept (s : State) (g : Nat) :
    (State.gateCancel s g).part = s.part ∧ (State.gateCancel s g).pending = s.pending := by
  simp only [State.gateCancel]
  (try repeat' split) <;> simp_all

@[simp] theorem State.gateLen_kept (s : State) (g : Nat) (v : Nat) :
    (State.gateLen s g v).part = s.part ∧ (State.gateLen s g v).pending = s.pending := by
  simp only [State.gateLen]
  (try repeat' split) <;> simp_all

@[simp] theorem State.gateCtl_kept (s : State) (g : Nat) (v : Nat) :
    (State.gateCtl s g v).part = s.part ∧ (State.gateCtl s g v).pending = s.pending := by
  simp only [State.gateCtl]
  (try repeat' split) <;> simp_all

@[simp] theorem State.loadShadow_kept (s : State) (g : Nat) (l : List (Nat × Nat)) :
    (State.loadShadow s g l).part = s.part ∧ (State.loadShadow s g l).pending = s.pending := by
  simp only [State.loadShadow]
  (try repeat' split) <;> simp_all

@[simp] theorem State.swapBanks_kept (s : State) (g : Nat) :
    (State.swapBanks s g).part = s.part ∧ (State.swapBanks s g).pending = s.pending := by
  simp only [State.swapBanks]
  (try repeat' split) <;> simp_all

@[simp] theorem State.gateTake_kept (s : State) (g : Nat) (l : GateList) :
    (State.gateTake s g l).part = s.part ∧ (State.gateTake s g l).pending = s.pending := by
  simp only [State.gateTake]
  (try repeat' split) <;> simp_all

@[simp] theorem State.setTokens_kept (s : State) (g : Nat) (c : Nat) (v : Int) :
    (State.setTokens s g c v).part = s.part ∧ (State.setTokens s g c v).pending = s.pending := by
  simp only [State.setTokens]
  (try repeat' split) <;> simp_all

@[simp] theorem State.refill_kept (s : State) :
    (State.refill s).part = s.part ∧ (State.refill s).pending = s.pending := by
  simp only [State.refill]
  (try repeat' split) <;> simp_all

@[simp] theorem State.starveScan_kept (s : State) :
    (State.starveScan s).part = s.part ∧ (State.starveScan s).pending = s.pending := by
  simp only [State.starveScan]
  (try repeat' split) <;> simp_all

@[simp] theorem State.planHead_kept (s : State) (q : Nat) :
    (State.planHead s q).1.part = s.part ∧ (State.planHead s q).1.pending = s.pending := by
  simp only [State.planHead]
  (try repeat' split) <;> simp_all

@[simp] theorem State.downKey_kept (s : State) (h : List Byte) (a : Nat) :
    (State.downKey s h a).1.part = s.part ∧ (State.downKey s h a).1.pending = s.pending := by
  simp only [State.downKey]
  (try repeat' split) <;> simp_all

@[simp] theorem State.startCopy_kept (s : State) (kind : JobKind) (q : Nat) (d : Downlink) (header : List Byte) (payload : List Byte) (key : Option KeyRef) (f : Nat) (o : Nat) (grid : Nat) (t0 : Int) :
    (State.startCopy s kind q d header payload key f o grid t0).part = s.part ∧ (State.startCopy s kind q d header payload key f o grid t0).pending = s.pending := by
  simp only [State.startCopy]
  (try repeat' split) <;> simp_all

@[simp] theorem State.downCounter_kept (s : State) (d : Downlink) :
    (State.downCounter s d).1.part = s.part ∧ (State.downCounter s d).1.pending = s.pending := by
  simp only [State.downCounter]
  (try repeat' split) <;> simp_all

@[simp] theorem State.sendCopies_kept (s : State) (kind : JobKind) (q : Nat) (d : Downlink) (payload : List Byte)
    (copies : List (Nat × Nat × Nat)) (t0 : Int) :
    (s.sendCopies kind q d payload copies t0).part = s.part ∧ (s.sendCopies kind q d payload copies t0).pending = s.pending := by
  unfold State.sendCopies
  extract_lets k
  have hk : k.1.part = s.part ∧ k.1.pending = s.pending := by
    have h := State.downKey_kept s d.header d.dst
    simp only [k]
    split
    · simp
    · split <;> (rename_i e; rw [e] at h; simpa using h)
  clear_value k
  split
  · simp_all
  · rename_i t key
    have h := State.downCounter_kept t d
    split
    · rename_i e; rw [e] at h; simp_all
    · rename_i e; rw [e] at h; simp_all

@[simp] theorem State.sendFrame_kept (s : State) (kind : JobKind) (q : Nat) (d : Downlink) (payload : List Byte) (copies : List (Nat × Nat × Nat)) (second : Option (Nat × Nat)) (t0 : Int) :
    (State.sendFrame s kind q d payload copies second t0).part = s.part ∧ (State.sendFrame s kind q d payload copies second t0).pending = s.pending := by
  simp only [State.sendFrame]
  (try repeat' split) <;> simp_all

@[simp] theorem State.openDown_kept (s : State) (q : Nat) (g : Nat) (p : Plan) :
    (State.openDown s q g p).1.part = s.part ∧ (State.openDown s q g p).1.pending = s.pending := by
  simp only [State.openDown]
  (try repeat' split) <;> simp_all

@[simp] theorem State.startWake_kept (s : State) (q : Nat) (d : Downlink) (f : Nat) (o : Nat) (grid : Nat) (t0 : Int) :
    (State.startWake s q d f o grid t0).part = s.part ∧ (State.startWake s q d f o grid t0).pending = s.pending := by
  simp only [State.startWake]
  (try repeat' split) <;> simp_all

@[simp] theorem State.attempt_kept (s : State) (q : Nat) (g : Nat) (p : Plan) (t0 : Int) :
    (State.attempt s q g p t0).part = s.part ∧ (State.attempt s q g p t0).pending = s.pending := by
  simp only [State.attempt]
  (try repeat' split) <;> simp_all

@[simp] theorem State.frontOf_kept (s : State) (g c n : Nat) :
    (s.frontOf g c n).part = s.part ∧ (s.frontOf g c n).pending = s.pending := by
  induction n generalizing s with
  | zero => simp [State.frontOf]
  | succ n ih => simp only [State.frontOf]; (repeat' split) <;> simp_all

@[simp] theorem State.serve_kept (s : State) (g : Nat) (q : Nat) (p : Plan) (t0 : Int) :
    (State.serve s g q p t0).part = s.part ∧ (State.serve s g q p t0).pending = s.pending := by
  simp only [State.serve]
  (try repeat' split) <;> simp_all

theorem State.fitHead_kept (s : State) (g q : Nat) (r : State × Plan × Int) (h : s.fitHead g q = some r) :
    r.1.part = s.part ∧ r.1.pending = s.pending := by
  have hp := State.planHead_kept s q
  simp only [State.fitHead] at h
  split at h
  · cases h; exact hp
  · simp only [Option.map_eq_some_iff] at h
    obtain ⟨t, -, rfl⟩ := h; exact hp

theorem State.offerClass_kept (s : State) (g c : Nat) (r : State × Nat × Plan × Int) (h : s.offerClass g c = some r) :
    r.1.part = s.part ∧ r.1.pending = s.pending := by
  simp only [State.offerClass] at h
  split at h
  · cases h
  · split at h
    · cases h
    · simp only [Option.map_eq_some_iff] at h
      obtain ⟨t, ht, rfl⟩ := h
      have := State.fitHead_kept _ _ _ _ ht
      simp_all

theorem State.offerUrgent_kept (s : State) (g : Nat) (r : State × Nat × Plan × Int) (h : s.offerUrgent g = some r) :
    r.1.part = s.part ∧ r.1.pending = s.pending := by
  simp only [State.offerUrgent] at h
  split at h
  · cases h
  · simp only [Option.map_eq_some_iff] at h
    obtain ⟨t, ht, rfl⟩ := h
    exact State.fitHead_kept _ _ _ _ ht

theorem State.offer_kept (s : State) (g : Nat) (r : State × Nat × Plan × Int) (h : s.offer g = some r) :
    r.1.part = s.part ∧ r.1.pending = s.pending := by
  simp only [State.offer] at h
  rcases hc : s.offerClass g 0 with _ | x
  · rw [hc] at h
    rcases hu : s.offerUrgent g with _ | y
    · rw [hu] at h
      simp only [Option.orElse_eq_orElse, Option.orElse_eq_or, Option.none_or] at h
      obtain ⟨i, -, hi⟩ := List.exists_of_findSome?_eq_some h
      exact State.offerClass_kept _ _ _ _ hi
    · rw [hu] at h
      simp at h
      exact State.offerUrgent_kept _ _ _ (h ▸ hu)
  · rw [hc] at h
    simp at h
    exact State.offerClass_kept _ _ _ _ (h ▸ hc)

@[simp] theorem State.schedule_kept (s : State) (g : Nat) : (s.schedule g).part = s.part ∧ (s.schedule g).pending = s.pending := by
  simp only [State.schedule]
  split
  · simp
  · split
    · simp
    · rename_i e
      have h := State.offer_kept _ _ _ e
      split <;> simp_all

@[simp] theorem State.startSecond_kept (s : State) (j : TxJob) :
    (State.startSecond s j).part = s.part ∧ (State.startSecond s j).pending = s.pending := by
  simp only [State.startSecond]
  (try repeat' split) <;> simp_all

@[simp] theorem State.failCopy_kept (s : State) (id : Nat) (j : TxJob) (st : Status) :
    (State.failCopy s id j st).part = s.part ∧ (State.failCopy s id j st).pending = s.pending := by
  simp only [State.failCopy]
  (try repeat' split) <;> simp_all

@[simp] theorem State.clearJob_kept (s : State) (id : Nat) (j : TxJob) :
    (State.clearJob s id j).part = s.part ∧ (State.clearJob s id j).pending = s.pending := by
  simp only [State.clearJob]
  (try repeat' split) <;> simp_all

@[simp] theorem State.lbtCheck_kept (s : State) (id : Nat) (j : TxJob) (granted : Bool) :
    (State.lbtCheck s id j granted).part = s.part ∧ (State.lbtCheck s id j granted).pending = s.pending := by
  simp only [State.lbtCheck]
  (try repeat' split) <;> simp_all

@[simp] theorem State.meetingBusy_kept (s : State) (id : Nat) (j : TxJob) :
    (State.meetingBusy s id j).part = s.part ∧ (State.meetingBusy s id j).pending = s.pending := by
  simp only [State.meetingBusy]
  (try repeat' split) <;> simp_all

@[simp] theorem State.meetingCheck_kept (s : State) (id : Nat) (j : TxJob) (granted : Bool) :
    (State.meetingCheck s id j granted).part = s.part ∧ (State.meetingCheck s id j granted).pending = s.pending := by
  simp only [State.meetingCheck]
  (try repeat' split) <;> simp_all

@[simp] theorem State.startPiggyback_kept (s : State) (j : TxJob) :
    (State.startPiggyback s j).part = s.part ∧ (State.startPiggyback s j).pending = s.pending := by
  simp only [State.startPiggyback]
  (try repeat' split) <;> simp_all

@[simp] theorem State.sendPiggyback_kept (s : State) (j : TxJob) (rate : Nat) :
    (State.sendPiggyback s j rate).part = s.part ∧ (State.sendPiggyback s j rate).pending = s.pending := by
  simp only [State.sendPiggyback]
  (try repeat' split) <;> simp_all

@[simp] theorem State.piggyback_kept (s : State) (id : Nat) (j : TxJob) (granted : Bool) :
    (State.piggyback s id j granted).part = s.part ∧ (State.piggyback s id j granted).pending = s.pending := by
  simp only [State.piggyback]
  (try repeat' split) <;> simp_all

@[simp] theorem State.meetAfter_kept (s : State) (id : Nat) (j : TxJob) :
    (State.meetAfter s id j).part = s.part ∧ (State.meetAfter s id j).pending = s.pending := by
  simp only [State.meetAfter]
  (try repeat' split) <;> simp_all

@[simp] theorem State.adaptTuner_kept (s : State) (f : Nat) (o : Nat) (forward : Nat) (reflected : Nat) :
    (State.adaptTuner s f o forward reflected).part = s.part ∧ (State.adaptTuner s f o forward reflected).pending = s.pending := by
  simp only [State.adaptTuner]
  (try repeat' split) <;> simp_all

@[simp] theorem State.endJob_kept (s : State) (id : Nat) (j : TxJob) (clamped : Bool) (forward : Nat) (reflected : Nat) :
    (State.endJob s id j clamped forward reflected).part = s.part ∧ (State.endJob s id j clamped forward reflected).pending = s.pending := by
  simp only [State.endJob]
  (try repeat' split) <;> simp_all

@[simp] theorem State.ackTimeout_kept (s : State) (q : Nat) (d : Downlink) (m : MacForce) :
    (State.ackTimeout s q d m).part = s.part ∧ (State.ackTimeout s q d m).pending = s.pending := by
  simp only [State.ackTimeout]
  (try repeat' split) <;> simp_all

@[simp] theorem State.ackCheck_kept (s : State) (id : Nat) (j : TxJob) (spanPower : Frac) (granted : Bool) :
    (State.ackCheck s id j spanPower granted).part = s.part ∧ (State.ackCheck s id j spanPower granted).pending = s.pending := by
  simp only [State.ackCheck]
  (try repeat' split) <;> simp_all

@[simp] theorem State.fpTplCtl_kept (s : State) (t : Nat) (v : Nat) :
    (State.fpTplCtl s t v).part = s.part ∧ (State.fpTplCtl s t v).pending = s.pending := by
  simp only [State.fpTplCtl]
  (try repeat' split) <;> simp_all

@[simp] theorem State.fastPathSend_kept (s : State) (n : Nat) (t : Nat) (payload : List Byte) :
    (State.fastPathSend s n t payload).part = s.part ∧ (State.fastPathSend s n t payload).pending = s.pending := by
  simp only [State.fastPathSend]
  (try repeat' split) <;> simp_all

@[simp] theorem State.linkChange_kept (s : State) (h : Nat) (p : Nat) (up : Bool) (tx : Nat) (rx : Nat) :
    (State.linkChange s h p up tx rx).part = s.part ∧ (State.linkChange s h p up tx rx).pending = s.pending := by
  simp only [State.linkChange]
  (try repeat' split) <;> simp_all

@[simp] theorem State.supervise_kept (s : State) :
    (State.supervise s).part = s.part ∧ (State.supervise s).pending = s.pending := by
  simp only [State.supervise]
  (try repeat' split) <;> simp_all

@[simp] theorem State.setLan_kept (s : State) (l : Nat) (p : PtpLan) :
    (State.setLan s l p).part = s.part ∧ (State.setLan s l p).pending = s.pending := by
  simp only [State.setLan]
  (try repeat' split) <;> simp_all

@[simp] theorem State.showMasters_kept (s : State) (before : Option PtpMaster) (lanBefore : Nat) :
    (State.showMasters s before lanBefore).part = s.part ∧ (State.showMasters s before lanBefore).pending = s.pending := by
  simp only [State.showMasters]
  (try repeat' split) <;> simp_all

@[simp] theorem State.announce_kept (s : State) (l : Nat) (m : List Byte) :
    (State.announce s l m).part = s.part ∧ (State.announce s l m).pending = s.pending := by
  simp only [State.announce]
  (try repeat' split) <;> simp_all

@[simp] theorem State.dropMaster_kept (s : State) (l : Nat) :
    (State.dropMaster s l).part = s.part ∧ (State.dropMaster s l).pending = s.pending := by
  simp only [State.dropMaster]
  (try repeat' split) <;> simp_all

@[simp] theorem State.queueEgress_kept (s : State) (h : Nat) (p : Nat) (e : EgressFrame) :
    (State.queueEgress s h p e).part = s.part ∧ (State.queueEgress s h p e).pending = s.pending := by
  simp only [State.queueEgress]
  (try repeat' split) <;> simp_all

@[simp] theorem State.sendPtp_kept (s : State) (h : Nat) (p : Nat) (typ : Nat) (corr : Nat) (seq : Nat) (body : List Byte) (ingress : Option Int) :
    (State.sendPtp s h p typ corr seq body ingress).part = s.part ∧ (State.sendPtp s h p typ corr seq body ingress).pending = s.pending := by
  simp only [State.sendPtp]
  (try repeat' split) <;> simp_all

@[simp] theorem State.setPeer_kept (s : State) (h : Nat) (p : Nat) (x : PeerPort) :
    (State.setPeer s h p x).part = s.part ∧ (State.setPeer s h p x).pending = s.pending := by
  simp only [State.setPeer]
  (try repeat' split) <;> simp_all

@[simp] theorem State.syncComplete_kept (s : State) (l : Nat) (t1 : Int) (t2 : Int) :
    (State.syncComplete s l t1 t2).part = s.part ∧ (State.syncComplete s l t1 t2).pending = s.pending := by
  simp only [State.syncComplete]
  (try repeat' split) <;> simp_all

@[simp] theorem State.slave_kept (s : State) (l : Nat) (m : List Byte) (t : Int) :
    (State.slave s l m t).part = s.part ∧ (State.slave s l m t).pending = s.pending := by
  simp only [State.slave]
  (try repeat' split) <;> simp_all

@[simp] theorem State.learnPeer_kept (s : State) (h : Nat) (p : Nat) (t1 : Int) (t4 : Int) (turn : Int) (corr : Int) :
    (State.learnPeer s h p t1 t4 turn corr).part = s.part ∧ (State.learnPeer s h p t1 t4 turn corr).pending = s.pending := by
  simp only [State.learnPeer]
  (try repeat' split) <;> simp_all

@[simp] theorem State.peerDelay_kept (s : State) (h : Nat) (p : Nat) (m : List Byte) (t : Int) :
    (State.peerDelay s h p m t).part = s.part ∧ (State.peerDelay s h p m t).pending = s.pending := by
  simp only [State.peerDelay]
  (try repeat' split) <;> simp_all

@[simp] theorem State.askPeer_kept (s : State) (h : Nat) (p : Nat) :
    (State.askPeer s h p).part = s.part ∧ (State.askPeer s h p).pending = s.pending := by
  simp only [State.askPeer]
  (try repeat' split) <;> simp_all

@[simp] theorem State.tcForward_kept (s : State) (h : Nat) (p : Nat) (f : List Byte) (m : List Byte) (t : Int) :
    (State.tcForward s h p f m t).part = s.part ∧ (State.tcForward s h p f m t).pending = s.pending := by
  simp only [State.tcForward]
  (try repeat' split) <;> simp_all

@[simp] theorem State.ptpReceive_kept (s : State) (h : Nat) (p : Nat) (f : List Byte) (m : List Byte) (t : Int) :
    (State.ptpReceive s h p f m t).part = s.part ∧ (State.ptpReceive s h p f m t).pending = s.pending := by
  simp only [State.ptpReceive]
  (try repeat' split) <;> simp_all

@[simp] theorem State.prpReceive_kept (s : State) (h : Nat) (f : List Byte) (tr : Option (Nat × Nat)) :
    (State.prpReceive s h f tr).1.part = s.part ∧ (State.prpReceive s h f tr).1.pending = s.pending := by
  simp only [State.prpReceive]
  (try repeat' split) <;> simp_all

@[simp] theorem State.pause_kept (s : State) (h : Nat) (p : Nat) (quanta : Nat) :
    (State.pause s h p quanta).part = s.part ∧ (State.pause s h p quanta).pending = s.pending := by
  simp only [State.pause]
  (try repeat' split) <;> simp_all

@[simp] theorem State.answerSolicitation_kept (s : State) (h : Nat) (p : Nat) (f : List Byte) :
    (State.answerSolicitation s h p f).part = s.part ∧ (State.answerSolicitation s h p f).pending = s.pending := by
  simp only [State.answerSolicitation]
  (try repeat' split) <;> simp_all

@[simp] theorem State.ethReceive_kept (s : State) (h : Nat) (p : Nat) (bytes : List Byte) (stampPs : Nat) :
    (State.ethReceive s h p bytes stampPs).part = s.part ∧ (State.ethReceive s h p bytes stampPs).pending = s.pending := by
  simp only [State.ethReceive]
  (try repeat' split) <;> simp_all

@[simp] theorem State.requestLeaves_kept (s : State) (h : Nat) (p : Nat) (m : List Byte) (t : Int) :
    (State.requestLeaves s h p m t).part = s.part ∧ (State.requestLeaves s h p m t).pending = s.pending := by
  simp only [State.requestLeaves]
  (try repeat' split) <;> simp_all

@[simp] theorem State.ptpLeave_kept (s : State) (h : Nat) (p : Nat) (e : EgressFrame) (rest : List EgressFrame) (stampPs : Nat) :
    (State.ptpLeave s h p e rest stampPs).part = s.part ∧ (State.ptpLeave s h p e rest stampPs).pending = s.pending := by
  simp only [State.ptpLeave]
  (try repeat' split) <;> simp_all

@[simp] theorem State.ptpCycle_kept (s : State) :
    (State.ptpCycle s).part = s.part ∧ (State.ptpCycle s).pending = s.pending := by
  simp only [State.ptpCycle]
  (try repeat' split) <;> simp_all

@[simp] theorem State.peerCycle_kept (s : State) :
    (State.peerCycle s).part = s.part ∧ (State.peerCycle s).pending = s.pending := by
  simp only [State.peerCycle]
  (try repeat' split) <;> simp_all

@[simp] theorem State.setGroup_kept (s : State) (g : Nat) (x : Group) :
    (State.setGroup s g x).part = s.part ∧ (State.setGroup s g x).pending = s.pending := by
  simp only [State.setGroup]
  (try repeat' split) <;> simp_all

@[simp] theorem State.eraseGroup_kept (s : State) (g : Nat) :
    (State.eraseGroup s g).part = s.part ∧ (State.eraseGroup s g).pending = s.pending := by
  simp only [State.eraseGroup]
  (try repeat' split) <;> simp_all

@[simp] theorem State.onGroup_kept (s : State) (g : Nat) (f : Group → Group) :
    (State.onGroup s g f).part = s.part ∧ (State.onGroup s g f).pending = s.pending := by
  simp only [State.onGroup]
  (try repeat' split) <;> simp_all

@[simp] theorem State.releaseGroup_kept (s : State) (id : Nat) :
    (State.releaseGroup s id).part = s.part ∧ (State.releaseGroup s id).pending = s.pending := by
  simp only [State.releaseGroup]
  (try repeat' split) <;> simp_all

@[simp] theorem State.elkProvisional_kept (s : State) (id : Nat) (i : CopyInfo) (head : List Byte) :
    (State.elkProvisional s id i head).part = s.part ∧ (State.elkProvisional s id i head).pending = s.pending := by
  simp only [State.elkProvisional]
  (try repeat' split) <;> simp_all

@[simp] theorem State.elkOpens_kept (s : State) (id : Nat) (g : Group) (i : CopyInfo) (head : List Byte) :
    (State.elkOpens s id g i head).part = s.part ∧ (State.elkOpens s id g i head).pending = s.pending := by
  simp only [State.elkOpens]
  (try repeat' split) <;> simp_all

@[simp] theorem State.elkFollow_kept (s : State) (id : Nat) (st : Status) (reason : Status) (deadline : Bool) :
    (State.elkFollow s id st reason deadline).part = s.part ∧ (State.elkFollow s id st reason deadline).pending = s.pending := by
  simp only [State.elkFollow]
  (try repeat' split) <;> simp_all

@[simp] theorem State.countEnd_kept (s : State) (st : Status) :
    (State.countEnd s st).part = s.part ∧ (State.countEnd s st).pending = s.pending := by
  simp only [State.countEnd]
  (try repeat' split) <;> simp_all

@[simp] theorem State.countGroup_kept (s : State) (id : Nat) :
    (State.countGroup s id).part = s.part ∧ (State.countGroup s id).pending = s.pending := by
  simp only [State.countGroup]
  (try repeat' split) <;> simp_all

@[simp] theorem State.resultEnds_kept (s : State) (id : Nat) (st : Status) :
    (State.resultEnds s id st).part = s.part ∧ (State.resultEnds s id st).pending = s.pending := by
  simp only [State.resultEnds]
  (try repeat' split) <;> simp_all

@[simp] theorem State.groupEnds_kept (s : State) (id : Nat) :
    (State.groupEnds s id).part = s.part ∧ (State.groupEnds s id).pending = s.pending := by
  simp only [State.groupEnds]
  (try repeat' split) <;> simp_all

@[simp] theorem State.verifyKey_kept (s : State) (id : Nat) (g : Group) (f : List Byte) :
    (State.verifyKey s id g f).1.part = s.part ∧ (State.verifyKey s id g f).1.pending = s.pending := by
  simp only [State.verifyKey]
  (try repeat' split) <;> simp_all

@[simp] theorem State.tryResult_kept (s : State) (id : Nat) (g : Group) (r : ResultSrc) :
    (s.tryResult id g r).part = s.part ∧ (s.tryResult id g r).pending = s.pending := by
  have h := State.verifyKey_kept s id g (g.frame r)
  simp only [State.tryResult]
  (repeat' split) <;> first | (rename_i e; rw [e] at h; simp_all; done) | simp

@[simp] theorem State.verify_kept (s : State) (id n : Nat) :
    (s.verify id n).part = s.part ∧ (s.verify id n).pending = s.pending := by
  induction n generalizing s with
  | zero => simp [State.verify]
  | succ n ih => simp only [State.verify]; (repeat' split) <;> simp_all

@[simp] theorem State.verifyOn_kept (s : State) (id : Nat) :
    (State.verifyOn s id).part = s.part ∧ (State.verifyOn s id).pending = s.pending := by
  simp only [State.verifyOn]
  (try repeat' split) <;> simp_all

@[simp] theorem State.prefetchKey_kept (s : State) (id net : Nat) (head : List Byte) :
    (s.prefetchKey id net head).part = s.part ∧ (s.prefetchKey id net head).pending = s.pending := by
  have h := State.nodeKey_kept s net (macSrc head) (macIndex head) (some id)
  simp only [State.prefetchKey]
  (repeat' split) <;> first | (rename_i e; rw [e] at h; simp_all; done) | simp

@[simp] theorem State.lateCopy_kept (s : State) (id : Nat) (c : Copy) :
    (State.lateCopy s id c).part = s.part ∧ (State.lateCopy s id c).pending = s.pending := by
  simp only [State.lateCopy]
  (try repeat' split) <;> simp_all

@[simp] theorem State.arrival_kept (s : State) :
    (State.arrival s).1.part = s.part ∧ (State.arrival s).1.pending = s.pending := by
  simp only [State.arrival]
  (try repeat' split) <;> simp_all

@[simp] theorem State.addSegment_kept (s : State) (id : Nat) (g : Group) (c : Copy) (x : SegIn) :
    (State.addSegment s id g c x).part = s.part ∧ (State.addSegment s id g c x).pending = s.pending := by
  simp only [State.addSegment]
  (try repeat' split) <;> simp_all

@[simp] theorem State.placeCopy_kept (s : State) (i : CopyInfo) (c : Copy) (x : SegIn) :
    (State.placeCopy s i c x).part = s.part ∧ (State.placeCopy s i c x).pending = s.pending := by
  simp only [State.placeCopy]
  (try repeat' split) <;> simp_all

@[simp] theorem State.segmentIn_kept (s : State) (i : CopyInfo) (ix : Nat) (head : List Byte) (phy : Nat) (bits : List Bool) (llrs : List Int) :
    (State.segmentIn s i ix head phy bits llrs).part = s.part ∧ (State.segmentIn s i ix head phy bits llrs).pending = s.pending := by
  simp only [State.segmentIn]
  (try repeat' split) <;> simp_all

@[simp] theorem State.popUp_kept (s : State) (f : Nat) :
    (State.popUp s f).part = s.part ∧ (State.popUp s f).pending = s.pending := by
  simp only [State.popUp]
  (try repeat' split) <;> simp_all

@[simp] theorem State.keepEight_kept (s : State) (id : Nat) :
    (State.keepEight s id).part = s.part ∧ (State.keepEight s id).pending = s.pending := by
  simp only [State.keepEight]
  (try repeat' split) <;> simp_all

@[simp] theorem State.regroup_kept (s : State) (id : Nat) (g : Group) (f : Nat) :
    (State.regroup s id g f).1.part = s.part ∧ (State.regroup s id g f).1.pending = s.pending := by
  simp only [State.regroup]
  split
  · exact State.each_kept _ _ _ (fun s d => by split <;> simp)
  · simp

@[simp] theorem State.provisional_kept (s : State) (id : Nat) (g : Group) (r : FrameRecord) :
    (State.provisional s id g r).part = s.part ∧ (State.provisional s id g r).pending = s.pending := by
  simp only [State.provisional]
  (try repeat' split) <;> simp_all

@[simp] theorem State.recordIn_kept (s : State) (id : Nat) (g : Group) (c : Copy) (r : FrameRecord) :
    (State.recordIn s id g c r).part = s.part ∧ (State.recordIn s id g c r).pending = s.pending := by
  simp only [State.recordIn]
  (try repeat' split) <;> simp_all

@[simp] theorem State.noticeIn_kept (s : State) (serial : Nat) :
    (State.noticeIn s serial).part = s.part ∧ (State.noticeIn s serial).pending = s.pending := by
  simp only [State.noticeIn]
  (try repeat' split) <;> simp_all

@[simp] theorem State.windowClose_kept (s : State) (id : Nat) (g : Group) :
    (State.windowClose s id g).part = s.part ∧ (State.windowClose s id g).pending = s.pending := by
  simp only [State.windowClose]
  (try repeat' split) <;> simp_all

@[simp] theorem State.blendDone_kept (s : State) (id : Nat) (seg : Nat) (g : Group) :
    (State.blendDone s id seg g).part = s.part ∧ (State.blendDone s id seg g).pending = s.pending := by
  simp only [State.blendDone]
  (try repeat' split) <;> simp_all

@[simp] theorem State.blendOverload_kept (s : State) (id : Nat) (g : Group) :
    (State.blendOverload s id g).part = s.part ∧ (State.blendOverload s id g).pending = s.pending := by
  simp only [State.blendOverload]
  (try repeat' split) <;> simp_all

@[simp] theorem State.learnConfirm_kept (s : State) (a : Nat) (ofs : Nat) (rate : Nat) (clipped : Bool) (sleepy : Bool) (relayed : Bool) (key : Option KeyRef) (ranked : List Nat) :
    (State.learnConfirm s a ofs rate clipped sleepy relayed key ranked).part = s.part ∧ (State.learnConfirm s a ofs rate clipped sleepy relayed key ranked).pending = s.pending := by
  simp only [State.learnConfirm]
  (try repeat' split) <;> simp_all

@[simp] theorem State.learnPoint_kept (s : State) (id : Nat) :
    (State.learnPoint s id).part = s.part ∧ (State.learnPoint s id).pending = s.pending := by
  simp only [State.learnPoint]
  (try repeat' split) <;> simp_all

@[simp] theorem State.setPairs_kept (s : State) (src : Nat) (l : List (Nat × Nat)) :
    (State.setPairs s src l).part = s.part ∧ (State.setPairs s src l).pending = s.pending := by
  simp only [State.setPairs]
  (try repeat' split) <;> simp_all

@[simp] theorem State.fulfil_kept (s : State) (src : Nat) (ns : Int) :
    (State.fulfil s src ns).part = s.part ∧ (State.fulfil s src ns).pending = s.pending := by
  simp only [State.fulfil]
  (try repeat' split) <;> simp_all

@[simp] theorem State.sendDown_kept (s : State) (f : Nat) (id : Nat) :
    (State.sendDown s f id).part = s.part ∧ (State.sendDown s f id).pending = s.pending := by
  simp only [State.sendDown]
  (try repeat' split) <;> simp_all

@[simp] theorem State.startAck_kept (s : State) (id : Nat) (g : Group) (r : ResultSrc) (f : Nat) (o : Nat) :
    (State.startAck s id g r f o).part = s.part ∧ (State.startAck s id g r f o).pending = s.pending := by
  simp only [State.startAck]
  (try repeat' split) <;> simp_all

@[simp] theorem State.ackDecision_kept (s : State) (id : Nat) (g : Group) (r : ResultSrc) :
    (State.ackDecision s id g r).part = s.part ∧ (State.ackDecision s id g r).pending = s.pending := by
  simp only [State.ackDecision]
  (try repeat' split) <;> simp_all

@[simp] theorem State.queueAck_kept (s : State) (id : Nat) :
    (State.queueAck s id).part = s.part ∧ (State.queueAck s id).pending = s.pending := by
  simp only [State.queueAck]
  (try repeat' split) <;> simp_all

@[simp] theorem State.rxTake_kept (s : State) (id : Nat) (g : Group) (r : ResultSrc) :
    (State.rxTake s id g r).part = s.part ∧ (State.rxTake s id g r).pending = s.pending := by
  simp only [State.rxTake]
  (try repeat' split) <;> simp_all

@[simp] theorem State.rxDrop_kept (s : State) (id : Nat) :
    (State.rxDrop s id).part = s.part ∧ (State.rxDrop s id).pending = s.pending := by
  simp only [State.rxDrop]
  (try repeat' split) <;> simp_all

@[simp] theorem State.forward_kept (s : State) (id : Nat) :
    (State.forward s id).part = s.part ∧ (State.forward s id).pending = s.pending := by
  simp only [State.forward]
  (try repeat' split) <;> simp_all

@[simp] theorem State.learnFrame_kept (s : State) (id : Nat) :
    (State.learnFrame s id).part = s.part ∧ (State.learnFrame s id).pending = s.pending := by
  simp only [State.learnFrame]
  (try repeat' split) <;> simp_all

@[simp] theorem State.joinEnds_kept (s : State) (id : Nat) (accept : Bool) :
    (State.joinEnds s id accept).part = s.part ∧ (State.joinEnds s id accept).pending = s.pending := by
  simp only [State.joinEnds]
  (try repeat' split) <;> simp_all

@[simp] theorem State.admitFrame_kept (s : State) (id : Nat) (f : List Byte) :
    (State.admitFrame s id f).part = s.part ∧ (State.admitFrame s id f).pending = s.pending := by
  simp only [State.admitFrame]
  (try repeat' split) <;> simp_all

@[simp] theorem State.rxPost_kept (s : State) (id : Nat) (n : Nat) (g : Group) (r : ResultSrc) :
    (State.rxPost s id n g r).part = s.part ∧ (State.rxPost s id n g r).pending = s.pending := by
  simp only [State.rxPost]
  (try repeat' split) <;> simp_all

@[simp] theorem State.deliver_kept (s : State) (id : Nat) (g : Group) (r : ResultSrc) :
    (State.deliver s id g r).part = s.part ∧ (State.deliver s id g r).pending = s.pending := by
  simp only [State.deliver]
  (try repeat' split) <;> simp_all

@[simp] theorem State.countConfirm_kept (s : State) (g : Group) (r : ResultSrc) (fresh : Bool) :
    (State.countConfirm s g r fresh).part = s.part ∧ (State.countConfirm s g r fresh).pending = s.pending := by
  simp only [State.countConfirm]
  (try repeat' split) <;> simp_all

@[simp] theorem State.acceptCounter_kept (s : State) (f : List Byte) (x : Replay) :
    (State.acceptCounter s f x).part = s.part ∧ (State.acceptCounter s f x).pending = s.pending := by
  simp only [State.acceptCounter]
  (try repeat' split) <;> simp_all

@[simp] theorem State.confirm_kept (s : State) (id : Nat) (g : Group) (r : ResultSrc) (x : Replay) (fresh : Bool) :
    (State.confirm s id g r x fresh).part = s.part ∧ (State.confirm s id g r x fresh).pending = s.pending := by
  simp only [State.confirm]
  (try repeat' split) <;> simp_all

@[simp] theorem State.giveCopies_kept (s : State) (g : Group) (f : List Byte) :
    (State.giveCopies s g f).part = s.part ∧ (State.giveCopies s g f).pending = s.pending := by
  simp only [State.giveCopies]
  (try repeat' split) <;> simp_all

@[simp] theorem State.splitGroup_kept (s : State) (id : Nat) (g : Group) (r : ResultSrc) :
    (State.splitGroup s id g r).1.part = s.part ∧ (State.splitGroup s id g r).1.pending = s.pending := by
  simp only [State.splitGroup]
  (try repeat' split) <;> simp_all

@[simp] theorem State.filterResult_kept (s : State) (id : Nat) (g : Group) (r : ResultSrc) :
    (State.filterResult s id g r).part = s.part ∧ (State.filterResult s id g r).pending = s.pending := by
  simp only [State.filterResult]
  (try repeat' split) <;> simp_all

@[simp] theorem State.nodeAck_kept (s : State) (id : Nat) (g : Group) (r : ResultSrc) :
    (State.nodeAck s id g r).part = s.part ∧ (State.nodeAck s id g r).pending = s.pending := by
  simp only [State.nodeAck]
  (try repeat' split) <;> simp_all

@[simp] theorem State.refuseReq_kept (s : State) (id : Nat) (r : CheckReq) (st : Status) :
    (State.refuseReq s id r st).part = s.part ∧ (State.refuseReq s id r st).pending = s.pending := by
  simp only [State.refuseReq]
  (try repeat' split) <;> simp_all

@[simp] theorem State.checkAdmit_kept (s : State) (id : Nat) (r : CheckReq) :
    (State.checkAdmit s id r).part = s.part ∧ (State.checkAdmit s id r).pending = s.pending := by
  simp only [State.checkAdmit]
  (try repeat' split) <;> simp_all

@[simp] theorem State.receiveDone_kept (s : State) (id : Nat) (ok : Bool) :
    (State.receiveDone s id ok).part = s.part ∧ (State.receiveDone s id ok).pending = s.pending := by
  simp only [State.receiveDone]
  (try repeat' split) <;> simp_all

@[simp] theorem State.ackReady_kept (s : State) (g : Nat) (key : List Byte) :
    (State.ackReady s g key).part = s.part ∧ (State.ackReady s g key).pending = s.pending := by
  simp only [State.ackReady]
  (try repeat' split) <;> simp_all

@[simp] theorem State.downReady_kept (s : State) (header : List Byte) (key : List Byte) :
    (State.downReady s header key).part = s.part ∧ (State.downReady s header key).pending = s.pending := by
  simp only [State.downReady]
  (try repeat' split) <;> simp_all

@[simp] theorem State.checkDone_kept (s : State) (id : Nat) (r : CheckReq) (key : List Byte) :
    (State.checkDone s id r key).part = s.part ∧ (State.checkDone s id r key).pending = s.pending := by
  simp only [State.checkDone]
  (try repeat' split) <;> simp_all

@[simp] theorem State.setTimer_kept (s : State) (k : Nat) (r : TimerRun) :
    (State.setTimer s k r).part = s.part ∧ (State.setTimer s k r).pending = s.pending := by
  simp only [State.setTimer]
  (try repeat' split) <;> simp_all

@[simp] theorem State.putCompare_kept (s : State) (k : Nat) (v : Nat) :
    (State.putCompare s k v).part = s.part ∧ (State.putCompare s k v).pending = s.pending := by
  simp only [State.putCompare]
  (try repeat' split) <;> simp_all

@[simp] theorem State.timerAdd_kept (s : State) (k : Nat) (n : Nat) (pre : Nat) :
    (State.timerAdd s k n pre).part = s.part ∧ (State.timerAdd s k n pre).pending = s.pending := by
  simp only [State.timerAdd]
  (try repeat' split) <;> simp_all

@[simp] theorem State.timerSpan_kept (s : State) (quarters : Nat) (ns : Nat) (k : Nat) :
    (State.timerSpan s quarters ns k).part = s.part ∧ (State.timerSpan s quarters ns k).pending = s.pending := by
  simp only [State.timerSpan]
  (try repeat' split) <;> simp_all

@[simp] theorem State.timerSlot_kept (s : State) :
    (State.timerSlot s).part = s.part ∧ (State.timerSlot s).pending = s.pending := by
  simp only [State.timerSlot]
  (try repeat' split) <;> simp_all

@[simp] theorem State.timeSpan_kept (s : State) (cycles : Nat) :
    (State.timeSpan s cycles).part = s.part ∧ (State.timeSpan s cycles).pending = s.pending := by
  simp only [State.timeSpan]
  (try repeat' split) <;> simp_all

@[simp] theorem State.bootTick_kept (s : State) (cycles : Nat) :
    (State.bootTick s cycles).part = s.part ∧ (State.bootTick s cycles).pending = s.pending := by
  simp only [State.bootTick]
  (try repeat' split) <;> simp_all

@[simp] theorem State.timersGo_kept (s : State) (v : Nat) :
    (State.timersGo s v).part = s.part ∧ (State.timersGo s v).pending = s.pending := by
  simp only [State.timersGo]
  (try repeat' split) <;> simp_all

@[simp] theorem State.timerMatch_kept (s : State) (k : Nat) :
    (State.timerMatch s k).part = s.part ∧ (State.timerMatch s k).pending = s.pending := by
  simp only [State.timerMatch]
  (try repeat' split) <;> simp_all

@[simp] theorem State.timerOverflow_kept (s : State) (k : Nat) :
    (State.timerOverflow s k).part = s.part ∧ (State.timerOverflow s k).pending = s.pending := by
  simp only [State.timerOverflow]
  (try repeat' split) <;> simp_all

@[simp] theorem State.storeCapture_kept (s : State) (k : Nat) :
    (State.storeCapture s k).part = s.part ∧ (State.storeCapture s k).pending = s.pending := by
  simp only [State.storeCapture]
  (try repeat' split) <;> simp_all

@[simp] theorem State.timerCapture_kept (s : State) (k : Nat) :
    (State.timerCapture s k).part = s.part ∧ (State.timerCapture s k).pending = s.pending := by
  simp only [State.timerCapture]
  (try repeat' split) <;> simp_all

@[simp] theorem State.captureRead_kept (s : State) (k : Nat) (edgeNow : Bool) :
    (State.captureRead s k edgeNow).1.part = s.part ∧ (State.captureRead s k edgeNow).1.pending = s.pending := by
  simp only [State.captureRead]
  (try repeat' split) <;> simp_all

@[simp] theorem State.countRead_kept (s : State) (k : Nat) :
    (State.countRead s k).1.part = s.part ∧ (State.countRead s k).1.pending = s.pending := by
  simp only [State.countRead]
  (try repeat' split) <;> simp_all

@[simp] theorem State.setBoot_kept (s : State) (b : BootUnit) :
    (State.setBoot s b).part = s.part ∧ (State.setBoot s b).pending = s.pending := by
  simp only [State.setBoot]
  (try repeat' split) <;> simp_all

@[simp] theorem State.showBoot_kept (s : State) (slot : Nat) (st : Nat) (reason : Nat) (fell : Bool) :
    (State.showBoot s slot st reason fell).part = s.part ∧ (State.showBoot s slot st reason fell).pending = s.pending := by
  simp only [State.showBoot]
  (try repeat' split) <;> simp_all

@[simp] theorem State.raiseFloor_kept (s : State) (slot : Nat) :
    (State.raiseFloor s slot).part = s.part ∧ (State.raiseFloor s slot).pending = s.pending := by
  simp only [State.raiseFloor]
  (try repeat' split) <;> simp_all

@[simp] theorem State.lateFloor_kept (s : State) (slot : Nat) (st : Nat) :
    (State.lateFloor s slot st).part = s.part ∧ (State.lateFloor s slot st).pending = s.pending := by
  simp only [State.lateFloor]
  (try repeat' split) <;> simp_all

@[simp] theorem State.bootSelect_kept (s : State) :
    (State.bootSelect s).part = s.part ∧ (State.bootSelect s).pending = s.pending := by
  simp only [State.bootSelect]
  (try repeat' split) <;> simp_all

@[simp] theorem State.loadCores_kept (s : State) :
    (State.loadCores s).part = s.part ∧ (State.loadCores s).pending = s.pending := by
  simp only [State.loadCores]
  (try repeat' split) <;> simp_all

@[simp] theorem State.showOtp_kept (s : State) :
    (State.showOtp s).part = s.part ∧ (State.showOtp s).pending = s.pending := by
  simp only [State.showOtp]
  (try repeat' split) <;> simp_all

@[simp] theorem State.wipe_kept (s : State) (p : Phase) :
    (State.wipe s p).part = s.part ∧ (State.wipe s p).pending = s.pending := by
  simp only [State.wipe]
  (try repeat' split) <;> simp_all

@[simp] theorem State.start_kept (s : State) :
    (State.start s).part = s.part ∧ (State.start s).pending = s.pending := by
  simp only [State.start]
  (try repeat' split) <;> simp_all

@[simp] theorem State.resetPart_kept (s : State) :
    (State.resetPart s).part = s.part ∧ (State.resetPart s).pending = s.pending := by
  simp only [State.resetPart]
  (try repeat' split) <;> simp_all

@[simp] theorem State.setCore_kept (s : State) (k : Nat) (c : TunRun) :
    (State.setCore s k c).part = s.part ∧ (State.setCore s k c).pending = s.pending := by
  simp only [State.setCore]
  (try repeat' split) <;> simp_all

@[simp] theorem State.setCalls_kept (s : State) (t : Tbl HookCall) :
    (State.setCalls s t).part = s.part ∧ (State.setCalls s t).pending = s.pending := by
  simp only [State.setCalls]
  (try repeat' split) <;> simp_all

@[simp] theorem State.startCall_kept (s : State) (call : Nat) (k : Nat) (h : HookCall) :
    (State.startCall s call k h).part = s.part ∧ (State.startCall s call k h).pending = s.pending := by
  simp only [State.startCall]
  (try repeat' split) <;> simp_all

@[simp] theorem State.serveCall_kept (s : State) :
    (State.serveCall s).part = s.part ∧ (State.serveCall s).pending = s.pending := by
  simp only [State.serveCall]
  (try repeat' split) <;> simp_all

@[simp] theorem State.serveCalls_kept (s : State) :
    (State.serveCalls s).part = s.part ∧ (State.serveCalls s).pending = s.pending := by
  simp only [State.serveCalls]
  (try repeat' split) <;> simp_all

@[simp] theorem State.routeEnd_kept (s : State) (q : Nat) (urgent : Bool) (slot : Option Nat) :
    (State.routeEnd s q urgent slot).part = s.part ∧ (State.routeEnd s q urgent slot).pending = s.pending := by
  simp only [State.routeEnd]
  (try repeat' split) <;> simp_all

@[simp] theorem State.defaultCall_kept (s : State) (h : HookCall) :
    (State.defaultCall s h).part = s.part ∧ (State.defaultCall s h).pending = s.pending := by
  simp only [State.defaultCall]
  (try repeat' split) <;> simp_all

@[simp] theorem State.invalidCall_kept (s : State) (h : HookCall) :
    (State.invalidCall s h).part = s.part ∧ (State.invalidCall s h).pending = s.pending := by
  simp only [State.invalidCall]
  (try repeat' split) <;> simp_all

@[simp] theorem State.applyCall_kept (s : State) (h : HookCall) (action : Nat) (value : Nat) :
    (State.applyCall s h action value).part = s.part ∧ (State.applyCall s h action value).pending = s.pending := by
  simp only [State.applyCall]
  (try repeat' split) <;> simp_all

@[simp] theorem State.leaveCall_kept (s : State) (call : Nat) (k : Nat) (st : CoreState) :
    (State.leaveCall s call k st).part = s.part ∧ (State.leaveCall s call k st).pending = s.pending := by
  simp only [State.leaveCall]
  (try repeat' split) <;> simp_all

@[simp] theorem State.finishCall_kept (s : State) (call : Nat) (k : Nat) (h : HookCall) :
    (State.finishCall s call k h).part = s.part ∧ (State.finishCall s call k h).pending = s.pending := by
  simp only [State.finishCall]
  (try repeat' split) <;> simp_all

@[simp] theorem State.abandonCall_kept (s : State) (k : Nat) (st : CoreState) :
    (State.abandonCall s k st).part = s.part ∧ (State.abandonCall s k st).pending = s.pending := by
  simp only [State.abandonCall]
  (try repeat' split) <;> simp_all

@[simp] theorem State.latchExc_kept (s : State) (k : Nat) (cause : Nat) (pc : Nat) (bad : Nat) :
    (State.latchExc s k cause pc bad).part = s.part ∧ (State.latchExc s k cause pc bad).pending = s.pending := by
  simp only [State.latchExc]
  (try repeat' split) <;> simp_all

@[simp] theorem State.makeCall_kept (s : State) (h : Hook) (calls : Fld) :
    (State.makeCall s h calls).part = s.part ∧ (State.makeCall s h calls).pending = s.pending := by
  simp only [State.makeCall]
  (try repeat' split) <;> simp_all

@[simp] theorem State.callDue_kept (s : State) (p : Hook → Bool) (calls : Fld) :
    (State.callDue s p calls).part = s.part ∧ (State.callDue s p calls).pending = s.pending := by
  simp only [State.callDue]
  (try repeat' split) <;> simp_all

@[simp] theorem State.budgetEnd_kept (s : State) (k : Nat) :
    (State.budgetEnd s k).part = s.part ∧ (State.budgetEnd s k).pending = s.pending := by
  simp only [State.budgetEnd]
  (try repeat' split) <;> simp_all

@[simp] theorem State.haltPolicy_kept (s : State) (k : Nat) :
    (State.haltPolicy s k).part = s.part ∧ (State.haltPolicy s k).pending = s.pending := by
  simp only [State.haltPolicy]
  (try repeat' split) <;> simp_all

@[simp] theorem State.resumePolicy_kept (s : State) (k : Nat) :
    (State.resumePolicy s k).part = s.part ∧ (State.resumePolicy s k).pending = s.pending := by
  simp only [State.resumePolicy]
  (try repeat' split) <;> simp_all

@[simp] theorem State.putLinkCfg_kept (s : State) (f : Nat) (k : Nat) (v : Nat) :
    (State.putLinkCfg s f k v).part = s.part ∧ (State.putLinkCfg s f k v).pending = s.pending := by
  simp only [State.putLinkCfg]
  (try repeat' split) <;> simp_all

@[simp] theorem State.unlock_kept (s : State) (f : Nat) (k : Nat) :
    (State.unlock s f k).part = s.part ∧ (State.unlock s f k).pending = s.pending := by
  simp only [State.unlock]
  (try repeat' split) <;> simp_all

@[simp] theorem State.disableLink_kept (s : State) (f : Nat) (k : Nat) :
    (State.disableLink s f k).part = s.part ∧ (State.disableLink s f k).pending = s.pending := by
  simp only [State.disableLink]
  (try repeat' split) <;> simp_all

@[simp] theorem State.enableLink_kept (s : State) (f : Nat) (k : Nat) :
    (State.enableLink s f k).part = s.part ∧ (State.enableLink s f k).pending = s.pending := by
  simp only [State.enableLink]
  (try repeat' split) <;> simp_all

@[simp] theorem State.linkCfg_kept (s : State) (f : Nat) (k : Nat) (v : Nat) :
    (State.linkCfg s f k v).part = s.part ∧ (State.linkCfg s f k v).pending = s.pending := by
  simp only [State.linkCfg]
  (try repeat' split) <;> simp_all

@[simp] theorem State.restartLink_kept (s : State) (f : Nat) (k : Nat) :
    (State.restartLink s f k).part = s.part ∧ (State.restartLink s f k).pending = s.pending := by
  simp only [State.restartLink]
  (try repeat' split) <;> simp_all

@[simp] theorem State.putStream_kept (s : State) (f : Nat) (i : Nat) (v : Nat) :
    (State.putStream s f i v).part = s.part ∧ (State.putStream s f i v).pending = s.pending := by
  simp only [State.putStream]
  (try repeat' split) <;> simp_all

@[simp] theorem State.streamCfg_kept (s : State) (f : Nat) (i : Nat) (v : Nat) :
    (State.streamCfg s f i v).part = s.part ∧ (State.streamCfg s f i v).pending = s.pending := by
  simp only [State.streamCfg]
  (try repeat' split) <;> simp_all

@[simp] theorem State.setPower_kept (s : State) (p : Power) :
    (State.setPower s p).part = s.part ∧ (State.setPower s p).pending = s.pending := by
  simp only [State.setPower]
  (try repeat' split) <;> simp_all

@[simp] theorem State.setWatch_kept (s : State) (w : Watch) :
    (State.setWatch s w).part = s.part ∧ (State.setWatch s w).pending = s.pending := by
  simp only [State.setWatch]
  (try repeat' split) <;> simp_all

@[simp] theorem State.enter_kept (s : State) (p : Phase) :
    (State.enter s p).part = s.part ∧ (State.enter s p).pending = s.pending := by
  simp only [State.enter]
  (try repeat' split) <;> simp_all

@[simp] theorem State.drivePwrEn_kept (s : State) (n : Nat) (on : Bool) :
    (State.drivePwrEn s n on).part = s.part ∧ (State.drivePwrEn s n on).pending = s.pending := by
  simp only [State.drivePwrEn]
  (try repeat' split) <;> simp_all

@[simp] theorem State.railStep_kept (s : State) (n : Nat) :
    (State.railStep s n).part = s.part ∧ (State.railStep s n).pending = s.pending := by
  simp only [State.railStep]
  (try repeat' split) <;> simp_all

@[simp] theorem State.afterRail_kept (s : State) (n : Nat) (refSel : Bool) :
    (State.afterRail s n refSel).part = s.part ∧ (State.afterRail s n refSel).pending = s.pending := by
  simp only [State.afterRail]
  (try repeat' split) <;> simp_all

@[simp] theorem State.startFault_kept (s : State) (code : Nat) :
    (State.startFault s code).part = s.part ∧ (State.startFault s code).pending = s.pending := by
  simp only [State.startFault]
  (try repeat' split) <;> simp_all

@[simp] theorem State.latchTamper_kept (s : State) (src : TamperSource) (night : Bool) :
    (State.latchTamper s src night).part = s.part ∧ (State.latchTamper s src night).pending = s.pending := by
  simp only [State.latchTamper]
  (try repeat' split) <;> simp_all

@[simp] theorem State.tamperHold_kept (s : State) (l : List TamperSource) :
    (State.tamperHold s l).part = s.part ∧ (State.tamperHold s l).pending = s.pending := by
  simp only [State.tamperHold]
  (try repeat' split) <;> simp_all

@[simp] theorem State.logicReady_kept (s : State) (tamper : List TamperSource) :
    (State.logicReady s tamper).part = s.part ∧ (State.logicReady s tamper).pending = s.pending := by
  simp only [State.logicReady]
  (try repeat' split) <;> simp_all

@[simp] theorem State.pmRecover_kept (s : State) (pulses : Nat) :
    (State.pmRecover s pulses).part = s.part ∧ (State.pmRecover s pulses).pending = s.pending := by
  simp only [State.pmRecover]
  (try repeat' split) <;> simp_all

@[simp] theorem State.pmEnable_kept (s : State) (pulses : Nat) :
    (State.pmEnable s pulses).part = s.part ∧ (State.pmEnable s pulses).pending = s.pending := by
  simp only [State.pmEnable]
  (try repeat' split) <;> simp_all

@[simp] theorem State.writeRail_kept (s : State) (d : Nat) (l : Nat) :
    (State.writeRail s d l).part = s.part ∧ (State.writeRail s d l).pending = s.pending := by
  simp only [State.writeRail]
  (try repeat' split) <;> simp_all

@[simp] theorem State.bootRails_kept (s : State) (pulses : Nat) :
    (State.bootRails s pulses).part = s.part ∧ (State.bootRails s pulses).pending = s.pending := by
  simp only [State.bootRails]
  (try repeat' split) <;> simp_all

@[simp] theorem State.reportWake_kept (s : State) :
    (State.reportWake s).part = s.part ∧ (State.reportWake s).pending = s.pending := by
  simp only [State.reportWake]
  (try repeat' split) <;> simp_all

@[simp] theorem State.startTrial_kept (s : State) :
    (State.startTrial s).part = s.part ∧ (State.startTrial s).pending = s.pending := by
  simp only [State.startTrial]
  (try repeat' split) <;> simp_all

@[simp] theorem State.bootDone_kept (s : State) (pulses : Nat) :
    (State.bootDone s pulses).part = s.part ∧ (State.bootDone s pulses).pending = s.pending := by
  simp only [State.bootDone]
  (try repeat' split) <;> simp_all

@[simp] theorem State.nightCtl_kept (s : State) (v : Nat) :
    (State.nightCtl s v).part = s.part ∧ (State.nightCtl s v).pending = s.pending := by
  simp only [State.nightCtl]
  (try repeat' split) <;> simp_all

@[simp] theorem State.commitNight_kept (s : State) (entry : Nat) :
    (State.commitNight s entry).part = s.part ∧ (State.commitNight s entry).pending = s.pending := by
  simp only [State.commitNight]
  (try repeat' split) <;> simp_all

@[simp] theorem State.wake_kept (s : State) (why : Nat) :
    (State.wake s why).part = s.part ∧ (State.wake s why).pending = s.pending := by
  simp only [State.wake]
  (try repeat' split) <;> simp_all

@[simp] theorem State.wakeSource_kept (s : State) (why : Nat) :
    (State.wakeSource s why).part = s.part ∧ (State.wakeSource s why).pending = s.pending := by
  simp only [State.wakeSource]
  (try repeat' split) <;> simp_all

@[simp] theorem State.dropRail_kept (s : State) (n : Nat) :
    (State.dropRail s n).part = s.part ∧ (State.dropRail s n).pending = s.pending := by
  simp only [State.dropRail]
  (try repeat' split) <;> simp_all

@[simp] theorem State.trip_kept (s : State) :
    (State.trip s).part = s.part ∧ (State.trip s).pending = s.pending := by
  simp only [State.trip]
  (try repeat' split) <;> simp_all

@[simp] theorem State.dieTemp_kept (s : State) (d : Nat) (t : Int) :
    (State.dieTemp s d t).part = s.part ∧ (State.dieTemp s d t).pending = s.pending := by
  simp only [State.dieTemp]
  (try repeat' split) <;> simp_all

@[simp] theorem State.showTherm_kept (s : State) :
    (State.showTherm s).part = s.part ∧ (State.showTherm s).pending = s.pending := by
  simp only [State.showTherm]
  (try repeat' split) <;> simp_all

@[simp] theorem State.sampleTemps_kept (s : State) (r : List (List Int)) :
    (s.sampleTemps r).part = s.part ∧ (s.sampleTemps r).pending = s.pending := by
  unfold State.sampleTemps
  rw [(State.showTherm_kept _).1, (State.showTherm_kept _).2]
  exact State.each_kept _ _ _ (fun s d => by (repeat' split) <;> simp)

@[simp] theorem State.putLevelReq_kept (s : State) (v : Nat) :
    (State.putLevelReq s v).part = s.part ∧ (State.putLevelReq s v).pending = s.pending := by
  simp only [State.putLevelReq]
  (try repeat' split) <;> simp_all

@[simp] theorem State.levelStatus_kept (s : State) (st : Status) :
    (State.levelStatus s st).part = s.part ∧ (State.levelStatus s st).pending = s.pending := by
  simp only [State.levelStatus]
  (try repeat' split) <;> simp_all

@[simp] theorem State.levelWrite_kept (s : State) (v : Nat) :
    (State.levelWrite s v).part = s.part ∧ (State.levelWrite s v).pending = s.pending := by
  simp only [State.levelWrite]
  (try repeat' split) <;> simp_all

@[simp] theorem State.sendRail_kept (s : State) (l : List (Nat × Nat)) :
    (State.sendRail s l).part = s.part ∧ (State.sendRail s l).pending = s.pending := by
  simp only [State.sendRail]
  (try repeat' split) <;> simp_all

@[simp] theorem State.setChange_kept (s : State) (c : Option LevelChange) :
    (State.setChange s c).part = s.part ∧ (State.setChange s c).pending = s.pending := by
  simp only [State.setChange]
  (try repeat' split) <;> simp_all

@[simp] theorem State.beginChange_kept (s : State) (target : Nat) :
    (State.beginChange s target).part = s.part ∧ (State.beginChange s target).pending = s.pending := by
  simp only [State.beginChange]
  (try repeat' split) <;> simp_all

@[simp] theorem State.requestTaken_kept (s : State) :
    (State.requestTaken s).part = s.part ∧ (State.requestTaken s).pending = s.pending := by
  simp only [State.requestTaken]
  (try repeat' split) <;> simp_all

@[simp] theorem State.askChange_kept (s : State) :
    (State.askChange s).part = s.part ∧ (State.askChange s).pending = s.pending := by
  simp only [State.askChange]
  (try repeat' split) <;> simp_all

@[simp] theorem State.nextDrop_kept (s : State) :
    (State.nextDrop s).part = s.part ∧ (State.nextDrop s).pending = s.pending := by
  simp only [State.nextDrop]
  (try repeat' split) <;> simp_all

@[simp] theorem State.endChange_kept (s : State) :
    (State.endChange s).part = s.part ∧ (State.endChange s).pending = s.pending := by
  simp only [State.endChange]
  (try repeat' split) <;> simp_all

@[simp] theorem State.failChange_kept (s : State) :
    (State.failChange s).part = s.part ∧ (State.failChange s).pending = s.pending := by
  simp only [State.failChange]
  (try repeat' split) <;> simp_all

@[simp] theorem State.pmicEnd_kept (s : State) (acked : Bool) :
    (State.pmicEnd s acked).part = s.part ∧ (State.pmicEnd s acked).pending = s.pending := by
  simp only [State.pmicEnd]
  (try repeat' split) <;> simp_all

@[simp] theorem State.glideEnd_kept (s : State) (c : LevelChange) :
    (State.glideEnd s c).part = s.part ∧ (State.glideEnd s c).pending = s.pending := by
  simp only [State.glideEnd]
  (try repeat' split) <;> simp_all

@[simp] theorem State.shedLinks_kept (s : State) (f n k : Nat) :
    (s.shedLinks f n k).1.part = s.part ∧ (s.shedLinks f n k).1.pending = s.pending := by
  induction n generalizing s k with
  | zero => simp [State.shedLinks]
  | succ n ih => simp only [State.shedLinks]; split <;> simp_all

@[simp] theorem State.shedW_kept (s : State) (f : Nat) :
    (State.shedW s f).part = s.part ∧ (State.shedW s f).pending = s.pending := by
  simp only [State.shedW]
  (try repeat' split) <;> simp_all

@[simp] theorem State.stopRaise_kept (s : State) (d : Nat) :
    (State.stopRaise s d).part = s.part ∧ (State.stopRaise s d).pending = s.pending := by
  simp only [State.stopRaise]
  (try repeat' split) <;> simp_all

@[simp] theorem State.shedDie_kept (s : State) (f : Nat) :
    (State.shedDie s f).part = s.part ∧ (State.shedDie s f).pending = s.pending := by
  simp only [State.shedDie]
  (try repeat' split) <;> simp_all

@[simp] theorem State.askDrop_kept (s : State) (d : Nat) :
    (State.askDrop s d).part = s.part ∧ (State.askDrop s d).pending = s.pending := by
  simp only [State.askDrop]
  (try repeat' split) <;> simp_all

@[simp] theorem State.thermalDrop_kept (s : State) (d : Nat) :
    (s.thermalDrop d).part = s.part ∧ (s.thermalDrop d).pending = s.pending := by
  have hl := State.shedLinks_kept
  simp only [State.thermalDrop]
  (repeat' split) <;> simp

@[simp] theorem State.coolCycle_kept (s : State) :
    (State.coolCycle s).part = s.part ∧ (State.coolCycle s).pending = s.pending := by
  simp only [State.coolCycle]
  (try repeat' split) <;> simp_all

@[simp] theorem State.showDusk_kept (s : State) :
    (State.showDusk s).part = s.part ∧ (State.showDusk s).pending = s.pending := by
  simp only [State.showDusk]
  (try repeat' split) <;> simp_all

@[simp] theorem State.duskWrite_kept (s : State) (v : Nat) :
    (State.duskWrite s v).part = s.part ∧ (State.duskWrite s v).pending = s.pending := by
  simp only [State.duskWrite]
  (try repeat' split) <;> simp_all

@[simp] theorem State.enterDusk_kept (s : State) :
    (State.enterDusk s).part = s.part ∧ (State.enterDusk s).pending = s.pending := by
  simp only [State.enterDusk]
  (try repeat' split) <;> simp_all

@[simp] theorem State.leaveDusk_kept (s : State) :
    (State.leaveDusk s).part = s.part ∧ (State.leaveDusk s).pending = s.pending := by
  simp only [State.leaveDusk]
  (try repeat' split) <;> simp_all

@[simp] theorem State.pmWrite_kept (s : State) (v : Nat) (pulses : Nat) :
    (State.pmWrite s v pulses).part = s.part ∧ (State.pmWrite s v pulses).pending = s.pending := by
  simp only [State.pmWrite]
  (try repeat' split) <;> simp_all

@[simp] theorem State.setKiln_kept (s : State) (k : Kiln) :
    (State.setKiln s k).part = s.part ∧ (State.setKiln s k).pending = s.pending := by
  simp only [State.setKiln]
  (try repeat' split) <;> simp_all

@[simp] theorem State.enterKiln_kept (s : State) (st : Nat) :
    (State.enterKiln s st).part = s.part ∧ (State.enterKiln s st).pending = s.pending := by
  simp only [State.enterKiln]
  (try repeat' split) <;> simp_all

@[simp] theorem State.fallBack_kept (s : State) :
    (State.fallBack s).part = s.part ∧ (State.fallBack s).pending = s.pending := by
  simp only [State.fallBack]
  (try repeat' split) <;> simp_all

@[simp] theorem State.healthFault_kept (s : State) (run : Nat) (same : Nat) :
    (State.healthFault s run same).part = s.part ∧ (State.healthFault s run same).pending = s.pending := by
  simp only [State.healthFault]
  (try repeat' split) <;> simp_all

@[simp] theorem State.rngCtl_kept (s : State) (v : Nat) :
    (State.rngCtl s v).part = s.part ∧ (State.rngCtl s v).pending = s.pending := by
  simp only [State.rngCtl]
  (try repeat' split) <;> simp_all

@[simp] theorem State.reseed_kept (s : State) :
    (State.reseed s).part = s.part ∧ (State.reseed s).pending = s.pending := by
  simp only [State.reseed]
  (try repeat' split) <;> simp_all

@[simp] theorem State.entropyBack_kept (s : State) :
    (State.entropyBack s).part = s.part ∧ (State.entropyBack s).pending = s.pending := by
  simp only [State.entropyBack]
  (try repeat' split) <;> simp_all

@[simp] theorem State.restartDone_kept (s : State) (run : Nat) (same : Nat) :
    (State.restartDone s run same).part = s.part ∧ (State.restartDone s run same).pending = s.pending := by
  simp only [State.restartDone]
  (try repeat' split) <;> simp_all

@[simp] theorem State.selftested_kept (s : State) (kat : Bool) (run : Nat) (same : Nat) :
    (State.selftested s kat run same).part = s.part ∧ (State.selftested s kat run same).pending = s.pending := by
  simp only [State.selftested]
  (try repeat' split) <;> simp_all

@[simp] theorem State.abortReq_kept (s : State) (st : Status) (id : Nat) (r : CheckReq) :
    (State.abortReq s st id r).part = s.part ∧ (State.abortReq s st id r).pending = s.pending := by
  simp only [State.abortReq]
  (try repeat' split) <;> simp_all

@[simp] theorem State.failGroup_kept (all : Bool) (s : State) (id : Nat) :
    (State.failGroup all s id).part = s.part ∧ (State.failGroup all s id).pending = s.pending := by
  simp only [State.failGroup]
  (try repeat' split) <;> simp_all

@[simp] theorem State.flushKiln_kept (s : State) (st : Status) (all : Bool) :
    (State.flushKiln s st all).part = s.part ∧ (State.flushKiln s st all).pending = s.pending := by
  simp only [State.flushKiln]
  (try repeat' split) <;> simp_all

@[simp] theorem State.zeroise_kept (s : State) :
    (State.zeroise s).part = s.part ∧ (State.zeroise s).pending = s.pending := by
  simp only [State.zeroise]
  (try repeat' split) <;> simp_all

@[simp] theorem State.zeroiseTo_kept (s : State) (st : Nat) (tamper : Bool) :
    (State.zeroiseTo s st tamper).part = s.part ∧ (State.zeroiseTo s st tamper).pending = s.pending := by
  simp only [State.zeroiseTo]
  (try repeat' split) <;> simp_all

@[simp] theorem State.kilnCtl_kept (s : State) (v : Nat) :
    (State.kilnCtl s v).part = s.part ∧ (State.kilnCtl s v).pending = s.pending := by
  simp only [State.kilnCtl]
  (try repeat' split) <;> simp_all

@[simp] theorem State.dlFloor_kept (s : State) (v : Nat) :
    (State.dlFloor s v).part = s.part ∧ (State.dlFloor s v).pending = s.pending := by
  simp only [State.dlFloor]
  (try repeat' split) <;> simp_all

@[simp] theorem State.kilnCommand_kept (s : State) (n : Nat) (desc : List Byte) (w : KilnNeeds)
    (effect : CmdRef → State → State) (h_effect : ∀ c s, (effect c s).part = s.part ∧ (effect c s).pending = s.pending) :
    (s.kilnCommand n desc w effect).part = s.part ∧ (s.kilnCommand n desc w effect).pending = s.pending := by
  simp only [State.kilnCommand]
  split
  · simp
  · exact State.runCommand_kept _ _ _ _ (fun c t => by split <;> simp_all)

@[simp] theorem State.badAddress_kept (s : State) (c : CmdRef) (addr : Nat) :
    (State.badAddress s c addr).part = s.part ∧ (State.badAddress s c addr).pending = s.pending := by
  simp only [State.badAddress]
  (try repeat' split) <;> simp_all

@[simp] theorem State.kilnInput_kept (s : State) (c : CmdRef) (desc : List Byte) (data : Option (List Byte)) (go : List Byte → State → State) (h_go : ∀ (y0 : List Byte) (y1 : State), (go y0 y1).part = y1.part ∧ (go y0 y1).pending = y1.pending) :
    (State.kilnInput s c desc data go).part = s.part ∧ (State.kilnInput s c desc data go).pending = s.pending := by
  unfold State.kilnInput
  rcases s.firstBad false (leAt desc 8 8) (leAt desc 16 4) with _ | a
  · rcases data with _ | d
    · simp
    · have h := h_go (sliceB d 0 (leAt desc 16 4)) (s.dmaRead (leAt desc 8 8) (leAt desc 16 4))
      exact ⟨h.1.trans (by simp), h.2.trans (by simp)⟩
  · simp

@[simp] theorem State.kilnOutput_kept (s : State) (c : CmdRef) (desc bytes : List Byte) (result : Nat)
    (effect : State → State) (h : (effect s).part = s.part ∧ (effect s).pending = s.pending) :
    (s.kilnOutput c desc bytes result effect).part = s.part ∧ (s.kilnOutput c desc bytes result effect).pending = s.pending := by
  simp only [State.kilnOutput]
  (repeat' split) <;> simp [h]

@[simp] theorem State.kilnChecks_kept (s : State) (c : CmdRef) (l : List (Bool × Status)) (go : State → State) (h_go : ∀ (y0 : State), (go y0).part = y0.part ∧ (go y0).pending = y0.pending) :
    (State.kilnChecks s c l go).part = s.part ∧ (State.kilnChecks s c l go).pending = s.pending := by
  simp only [State.kilnChecks]
  (try repeat' split) <;> simp_all

@[simp] theorem State.setSlots_kept (s : State) (t : Tbl Slot) :
    (State.setSlots s t).part = s.part ∧ (State.setSlots s t).pending = s.pending := by
  simp only [State.setSlots]
  (try repeat' split) <;> simp_all

@[simp] theorem State.loadBlobs_kept (s : State) (c : CmdRef) (l : List (Nat × Slot)) :
    (State.loadBlobs s c l).part = s.part ∧ (State.loadBlobs s c l).pending = s.pending := by
  simp only [State.loadBlobs]
  (try repeat' split) <;> simp_all

@[simp] theorem State.checkBlobs_kept (s : State) (c : CmdRef) (m : List Byte) :
    (s.checkBlobs c m).part = s.part ∧ (s.checkBlobs c m).pending = s.pending := by
  simp only [State.checkBlobs]
  exact State.kilnChecks_kept _ _ _ _ (fun s => by split <;> simp)

@[simp] theorem State.pendUpdate_kept (s : State) (c : CmdRef) (desc : List Byte) (m : List Byte) :
    (State.pendUpdate s c desc m).part = s.part ∧ (State.pendUpdate s c desc m).pending = s.pending := by
  simp only [State.pendUpdate]
  (try repeat' split) <;> simp_all

@[simp] theorem State.commitUpdate_kept (s : State) (c : CmdRef) (u : KeyUpdate) :
    (State.commitUpdate s c u).part = s.part ∧ (State.commitUpdate s c u).pending = s.pending := by
  simp only [State.commitUpdate]
  (try repeat' split) <;> simp_all

@[simp] theorem State.newClassS_kept (s : State) (c : CmdRef) (desc : List Byte) (use : Nat) (key : Slot → Option (List Byte)) :
    (State.newClassS s c desc use key).part = s.part ∧ (State.newClassS s c desc use key).pending = s.pending := by
  simp only [State.newClassS]
  (try repeat' split) <;> simp_all

@[simp] theorem State.hostCheck_kept (s : State) (c : CmdRef) (desc : List Byte) (data : Option (List Byte)) (go : List Byte → State → State) (h_go : ∀ (y0 : List Byte) (y1 : State), (go y0 y1).part = y1.part ∧ (go y0 y1).pending = y1.pending) :
    (State.hostCheck s c desc data go).part = s.part ∧ (State.hostCheck s c desc data go).pending = s.pending := by
  have h := State.kilnInput_kept s c desc data (fun m s => if s.queueRoom 2 then go m s else s.complete c .busy 0)
    (fun m s => by split <;> simp [h_go])
  simp only [State.hostCheck]
  (repeat' split) <;> first | exact h | simp

@[simp] theorem State.attest_kept (s : State) (c : CmdRef) (desc : List Byte) :
    (State.attest s c desc).part = s.part ∧ (State.attest s c desc).pending = s.pending := by
  have hd : (s.draw 56).1.part = s.part ∧ (s.draw 56).1.pending = s.pending := ⟨by simp, by simp⟩
  unfold State.attest
  extract_lets len m k
  split
  · simp
  · split
    · exact State.kilnOutput_kept _ _ _ _ _ _ hd
    · exact State.kilnOutput_kept _ _ _ _ _ _ ⟨rfl, rfl⟩

@[simp] theorem State.enrolKey_kept (s : State) (c : CmdRef) (digest : List Byte) :
    (State.enrolKey s c digest).part = s.part ∧ (State.enrolKey s c digest).pending = s.pending := by
  simp only [State.enrolKey]
  (try repeat' split) <;> simp_all

@[simp] theorem State.tamperRunning_kept (s : State) (src : TamperSource) :
    (State.tamperRunning s src).part = s.part ∧ (State.tamperRunning s src).pending = s.pending := by
  simp only [State.tamperRunning]
  (try repeat' split) <;> simp_all

@[simp] theorem State.tamper_kept (s : State) (src : TamperSource) :
    (State.tamper s src).part = s.part ∧ (State.tamper s src).pending = s.pending := by
  simp only [State.tamper]
  (try repeat' split) <;> simp_all

@[simp] theorem State.setSafe_kept (s : State) (x : Safe) :
    (State.setSafe s x).part = s.part ∧ (State.setSafe s x).pending = s.pending := by
  simp only [State.setSafe]
  (try repeat' split) <;> simp_all

@[simp] theorem State.exchange_kept (s : State) (match0 : Bool) :
    (State.exchange s match0).part = s.part ∧ (State.exchange s match0).pending = s.pending := by
  simp only [State.exchange]
  (try repeat' split) <;> simp_all

@[simp] theorem State.withdrawJob_kept (s : State) (id : Nat) :
    (State.withdrawJob s id).part = s.part ∧ (State.withdrawJob s id).pending = s.pending := by
  simp only [State.withdrawJob]
  (try repeat' split) <;> simp_all

@[simp] theorem State.movePending_kept (s : State) :
    (State.movePending s).part = s.part ∧ (State.movePending s).pending = s.pending := by
  simp only [State.movePending]
  (try repeat' split) <;> simp_all

@[simp] theorem State.takeOver_kept (s : State) :
    (State.takeOver s).part = s.part ∧ (State.takeOver s).pending = s.pending := by
  simp only [State.takeOver]
  (try repeat' split) <;> simp_all

@[simp] theorem State.fenceHead_kept (s : State) (h : Nat) :
    (State.fenceHead s h).part = s.part ∧ (State.fenceHead s h).pending = s.pending := by
  simp only [State.fenceHead]
  (try repeat' split) <;> simp_all

@[simp] theorem State.resumeBulk_kept (s : State) :
    (State.resumeBulk s).part = s.part ∧ (State.resumeBulk s).pending = s.pending := by
  simp only [State.resumeBulk]
  (try repeat' split) <;> simp_all

@[simp] theorem State.headCtl_kept (s : State) (v : Nat) :
    (State.headCtl s v).part = s.part ∧ (State.headCtl s v).pending = s.pending := by
  simp only [State.headCtl]
  (try repeat' split) <;> simp_all

@[simp] theorem State.rejoinFails_kept (s : State) :
    (State.rejoinFails s).part = s.part ∧ (State.rejoinFails s).pending = s.pending := by
  simp only [State.rejoinFails]
  (try repeat' split) <;> simp_all

@[simp] theorem State.forgetErrors_kept (s : State) (die : Nat) :
    (State.forgetErrors s die).part = s.part ∧ (State.forgetErrors s die).pending = s.pending := by
  simp only [State.forgetErrors]
  (try repeat' split) <;> simp_all

@[simp] theorem State.headRejoins_kept (s : State) :
    (State.headRejoins s).part = s.part ∧ (State.headRejoins s).pending = s.pending := by
  simp only [State.headRejoins]
  (try repeat' split) <;> simp_all

@[simp] theorem State.fenceJob_kept (s : State) (id : Nat) :
    (State.fenceJob s id).part = s.part ∧ (State.fenceJob s id).pending = s.pending := by
  simp only [State.fenceJob]
  (try repeat' split) <;> simp_all

@[simp] theorem State.dropAir_kept (s : State) (f : Nat) :
    (State.dropAir s f).part = s.part ∧ (State.dropAir s f).pending = s.pending := by
  simp only [State.dropAir]
  (try repeat' split) <;> simp_all

@[simp] theorem State.resetCores_kept (s : State) (f : Nat) :
    (State.resetCores s f).part = s.part ∧ (State.resetCores s f).pending = s.pending := by
  simp only [State.resetCores]
  (try repeat' split) <;> simp_all

@[simp] theorem State.fenceDie_kept (s : State) (f : Nat) :
    (State.fenceDie s f).part = s.part ∧ (State.fenceDie s f).pending = s.pending := by
  simp only [State.fenceDie]
  (try repeat' split) <;> simp_all

@[simp] theorem State.degrade_kept (s : State) (unit : Nat) :
    (State.degrade s unit).part = s.part ∧ (State.degrade s unit).pending = s.pending := by
  simp only [State.degrade]
  (try repeat' split) <;> simp_all

@[simp] theorem State.makeFence_kept (s : State) (x : FenceOf) :
    (State.makeFence s x).part = s.part ∧ (State.makeFence s x).pending = s.pending := by
  simp only [State.makeFence]
  (try repeat' split) <;> simp_all

@[simp] theorem State.fenceUnit_kept (s : State) (code : Nat) (unit : Nat) (addr : Nat) (detail : Nat) :
    (State.fenceUnit s code unit addr detail).part = s.part ∧ (State.fenceUnit s code unit addr detail).pending = s.pending := by
  simp only [State.fenceUnit]
  (try repeat' split) <;> simp_all

@[simp] theorem State.uncorrectable_kept (s : State) (code : Nat) (unit : Nat) (addr : Nat) (detail : Nat) :
    (State.uncorrectable s code unit addr detail).part = s.part ∧ (State.uncorrectable s code unit addr detail).pending = s.pending := by
  simp only [State.uncorrectable]
  (try repeat' split) <;> simp_all

@[simp] theorem State.startSelftest_kept (s : State) (f : Nat) (why : SelftestWhy) :
    (State.startSelftest s f why).part = s.part ∧ (State.startSelftest s f why).pending = s.pending := by
  simp only [State.startSelftest]
  (try repeat' split) <;> simp_all

@[simp] theorem State.coreMismatch_kept (s : State) (f : Nat) :
    (State.coreMismatch s f).part = s.part ∧ (State.coreMismatch s f).pending = s.pending := by
  simp only [State.coreMismatch]
  (try repeat' split) <;> simp_all

@[simp] theorem State.patrolRun_kept (s : State) (f : Nat) (sig : BitVec 64) :
    (State.patrolRun s f sig).part = s.part ∧ (State.patrolRun s f sig).pending = s.pending := by
  simp only [State.patrolRun]
  (try repeat' split) <;> simp_all

@[simp] theorem State.drawPatrols_kept (s : State) :
    (State.drawPatrols s).part = s.part ∧ (State.drawPatrols s).pending = s.pending := by
  simp only [State.drawPatrols]
  (try repeat' split) <;> simp_all

@[simp] theorem State.comparePatrol_kept (s : State) :
    (State.comparePatrol s).part = s.part ∧ (State.comparePatrol s).pending = s.pending := by
  simp only [State.comparePatrol]
  (try repeat' split) <;> simp_all

@[simp] theorem State.pairTested_kept (s : State) (f : Nat) (pass : Bool) :
    (State.pairTested s f pass).part = s.part ∧ (State.pairTested s f pass).pending = s.pending := by
  simp only [State.pairTested]
  (try repeat' split) <;> simp_all

@[simp] theorem State.selftestFails_kept (s : State) (f : Nat) :
    (State.selftestFails s f).part = s.part ∧ (State.selftestFails s f).pending = s.pending := by
  simp only [State.selftestFails]
  (try repeat' split) <;> simp_all

@[simp] theorem State.selftestDone_kept (s : State) (f : Nat) (why : SelftestWhy) (pass : Bool) :
    (State.selftestDone s f why pass).part = s.part ∧ (State.selftestDone s f why pass).pending = s.pending := by
  simp only [State.selftestDone]
  (try repeat' split) <;> simp_all

@[simp] theorem State.fdieCtl_kept (s : State) (f : Nat) (v : Nat) :
    (State.fdieCtl s f v).part = s.part ∧ (State.fdieCtl s f v).pending = s.pending := by
  simp only [State.fdieCtl]
  (try repeat' split) <;> simp_all

@[simp] theorem State.logAck_kept (s : State) (seq : Nat) :
    (State.logAck s seq).part = s.part ∧ (State.logAck s seq).pending = s.pending := by
  simp only [State.logAck]
  (try repeat' split) <;> simp_all

@[simp] theorem State.faultCtl_kept (s : State) (v : Nat) :
    (State.faultCtl s v).part = s.part ∧ (State.faultCtl s v).pending = s.pending := by
  simp only [State.faultCtl]
  (try repeat' split) <;> simp_all

@[simp] theorem State.seqGoto_kept (s : State) (f : Nat) (pc : Nat) :
    (State.seqGoto s f pc).part = s.part ∧ (State.seqGoto s f pc).pending = s.pending := by
  simp only [State.seqGoto]
  (try repeat' split) <;> simp_all

@[simp] theorem State.seqNext_kept (s : State) (f : Nat) :
    (State.seqNext s f).part = s.part ∧ (State.seqNext s f).pending = s.pending := by
  simp only [State.seqNext]
  (try repeat' split) <;> simp_all

@[simp] theorem State.seqSwapNow_kept (s : State) (f : Nat) :
    (State.seqSwapNow s f).part = s.part ∧ (State.seqSwapNow s f).pending = s.pending := by
  simp only [State.seqSwapNow]
  (try repeat' split) <;> simp_all

@[simp] theorem State.seqToIdle_kept (s : State) (f : Nat) :
    (State.seqToIdle s f).part = s.part ∧ (State.seqToIdle s f).pending = s.pending := by
  simp only [State.seqToIdle]
  (try repeat' split) <;> simp_all

@[simp] theorem State.seqFault_kept (s : State) (f : Nat) :
    (State.seqFault s f).part = s.part ∧ (State.seqFault s f).pending = s.pending := by
  simp only [State.seqFault]
  (try repeat' split) <;> simp_all

@[simp] theorem State.seqSlot_kept (s : State) (f : Nat) :
    (State.seqSlot s f).part = s.part ∧ (State.seqSlot s f).pending = s.pending := by
  simp only [State.seqSlot]
  (try repeat' split) <;> simp_all

@[simp] theorem State.seqHopTo_kept (s : State) (f : Nat) (chain : Nat) (fc : Nat) :
    (State.seqHopTo s f chain fc).part = s.part ∧ (State.seqHopTo s f chain fc).pending = s.pending := by
  simp only [State.seqHopTo]
  (try repeat' split) <;> simp_all

@[simp] theorem State.seqProg_kept (s : State) (f : Nat) (p : Nat) (v : Nat) :
    (State.seqProg s f p v).part = s.part ∧ (State.seqProg s f p v).pending = s.pending := by
  simp only [State.seqProg]
  (try repeat' split) <;> simp_all

@[simp] theorem State.seqCtl_kept (s : State) (f : Nat) (v : Nat) :
    (State.seqCtl s f v).part = s.part ∧ (State.seqCtl s f v).pending = s.pending := by
  simp only [State.seqCtl]
  (try repeat' split) <;> simp_all

@[simp] theorem State.hcbEffect_kept (s : State) (f : Nat) (t : HcbTx) (miso : Nat) :
    (State.hcbEffect s f t miso).part = s.part ∧ (State.hcbEffect s f t miso).pending = s.pending := by
  simp only [State.hcbEffect]
  (try repeat' split) <;> simp_all

@[simp] theorem State.slotCals_kept (s : State) :
    (State.slotCals s).part = s.part ∧ (State.slotCals s).pending = s.pending := by
  simp only [State.slotCals]
  (try repeat' split) <;> simp_all

@[simp] theorem State.drainAt_kept (s : State) (x : Nat × Nat) :
    (s.drainAt x).part = s.part ∧ (s.drainAt x).pending = s.pending := by
  have h := State.drainPort_frame s x.1 x.2
  exact ⟨h.1, by simp [State.drainAt]⟩

@[simp] theorem State.slotUnits_kept (s : State) :
    s.slotUnits.part = s.part ∧ s.slotUnits.pending = s.pending := by
  have h := State.each_kept (s.each s.diesUp State.seqSlot) [(0, 0), (0, 1), (1, 0), (1, 1)] State.drainAt State.drainAt_kept
  have g := State.each_kept s s.diesUp State.seqSlot State.seqSlot_kept
  exact ⟨h.1.trans g.1, h.2.trans g.2⟩

@[simp] theorem State.slotTick_kept (s : State) (failed : List (Fin 6)) (trips : List (Fin 6 × Nat)) :
    (State.slotTick s failed trips).part = s.part ∧ (State.slotTick s failed trips).pending = s.pending := by
  have e : State.slotTick s failed trips
      = (((({ s with time := { s.time with msc := s.mscNow }, air := { s.air with clampTold := [] } } : State).calibrateDies
          failed trips).timerSlot).slotCals.slotUnits.refill.starveScan) := rfl
  rw [e]; simp

@[simp] theorem State.profileWrite_kept (s : State) (v : Nat) :
    (State.profileWrite s v).part = s.part ∧ (State.profileWrite s v).pending = s.pending := by
  simp only [State.profileWrite]
  (try repeat' split) <;> simp_all

@[simp] theorem State.toEvening_kept (s : State) :
    (State.toEvening s).part = s.part ∧ (State.toEvening s).pending = s.pending := by
  simp only [State.toEvening]
  (try repeat' split) <;> simp_all

@[simp] theorem State.applyProfile_kept (s : State) :
    (State.applyProfile s).part = s.part ∧ (State.applyProfile s).pending = s.pending := by
  simp only [State.applyProfile]
  (try repeat' split) <;> simp_all

@[simp] theorem State.applyBlend_kept (s : State) :
    (State.applyBlend s).part = s.part ∧ (State.applyBlend s).pending = s.pending := by
  simp only [State.applyBlend]
  (try repeat' split) <;> simp_all

@[simp] theorem State.netCfg_kept (s : State) (n : Nat) (v : Nat) :
    (State.netCfg s n v).part = s.part ∧ (State.netCfg s n v).pending = s.pending := by
  simp only [State.netCfg]
  (try repeat' split) <;> simp_all

@[simp] theorem State.netSync_kept (s : State) (n : Nat) (v : Nat) :
    (State.netSync s n v).part = s.part ∧ (State.netSync s n v).pending = s.pending := by
  simp only [State.netSync]
  (try repeat' split) <;> simp_all

@[simp] theorem State.applyNets_kept (s : State) :
    (State.applyNets s).part = s.part ∧ (State.applyNets s).pending = s.pending := by
  simp only [State.applyNets]
  (try repeat' split) <;> simp_all

@[simp] theorem State.trimStep_kept (s : State) :
    (State.trimStep s).part = s.part ∧ (State.trimStep s).pending = s.pending := by
  simp only [State.trimStep]
  (try repeat' split) <;> simp_all

@[simp] theorem State.cycleTick_kept (s : State) (pilots : List (Fin 6 × Int)) :
    (State.cycleTick s pilots).part = s.part ∧ (State.cycleTick s pilots).pending = s.pending := by
  simp only [State.cycleTick]
  (try repeat' split) <;> simp_all

@[simp] theorem State.excF_kept (s : State) (c : TunCore) (cause : Nat) (bad : Word) :
    (State.excF s c cause bad).part = s.part ∧ (State.excF s c cause bad).pending = s.pending := by
  simp only [State.excF]
  (try repeat' split) <;> simp_all

@[simp] theorem State.excP_kept (s : State) (k : Nat) (cause : Nat) (bad : Word) :
    (State.excP s k cause bad).part = s.part ∧ (State.excP s k cause bad).pending = s.pending := by
  simp only [State.excP]
  (try repeat' split) <;> simp_all

@[simp] theorem State.exception_kept (s : State) (c : TunCore) (cause : Nat) (bad : Word) :
    (State.exception s c cause bad).part = s.part ∧ (State.exception s c cause bad).pending = s.pending := by
  simp only [State.exception]
  (try repeat' split) <;> simp_all

@[simp] theorem State.tunFetch_kept (s : State) (c : TunCore) (go : TunRun → State) (h : ∀ r, (go r).part = s.part ∧ (go r).pending = s.pending) :
    (s.tunFetch c go).part = s.part ∧ (s.tunFetch c go).pending = s.pending := by
  simp only [State.tunFetch]
  split
  · simp
  · split
    · simp
    · exact h _

@[simp] theorem State.tunStep_kept (s : State) (c : TunCore) (f : TunRun → TunRes) :
    (State.tunStep s c f).part = s.part ∧ (State.tunStep s c f).pending = s.pending := by
  simp only [State.tunStep]
  exact State.tunFetch_kept _ _ _ (fun r => by split <;> simp)

@[simp] theorem State.tunWrite_kept (s : State) (c : TunCore) (d : Fin 16) (v : TunRun → Word) :
    (State.tunWrite s c d v).part = s.part ∧ (State.tunWrite s c d v).pending = s.pending := by
  simp only [State.tunWrite]
  (try repeat' split) <;> simp_all

@[simp] theorem State.tunF_kept (s : State) (c : TunCore) (f : TunRun → TunRun) :
    (State.tunF s c f).part = s.part ∧ (State.tunF s c f).pending = s.pending := by
  simp only [State.tunF]
  (try repeat' split) <;> simp_all

@[simp] theorem State.interrupt_kept (s : State) (c : TunCore) (line : Nat) :
    (State.interrupt s c line).part = s.part ∧ (State.interrupt s c line).pending = s.pending := by
  simp only [State.interrupt]
  (try repeat' split) <;> simp_all

@[simp] theorem State.tunDone_kept (s : State) (c : TunCore) :
    (State.tunDone s c).part = s.part ∧ (State.tunDone s c).pending = s.pending := by
  simp only [State.tunDone]
  (repeat' split) <;> exact State.tunFetch_kept _ _ _ (fun r => by simp)

@[simp] theorem State.unitError_kept (s : State) (unit : Nat) (uncorrectable : Bool) (addr : Nat) (detail : Nat) :
    (State.unitError s unit uncorrectable addr detail).part = s.part ∧ (State.unitError s unit uncorrectable addr detail).pending = s.pending := by
  simp only [State.unitError]
  (try repeat' split) <;> simp_all

@[simp] theorem State.caskCorrected_kept (s : State) (count : Fld) (index : Nat) :
    (State.caskCorrected s count index).part = s.part ∧ (State.caskCorrected s count index).pending = s.pending := by
  simp only [State.caskCorrected]
  (try repeat' split) <;> simp_all

@[simp] theorem State.caskLost_kept (s : State) (q : Nat) (outcome : State → State) (h_outcome : ∀ (y0 : State), (outcome y0).part = y0.part ∧ (outcome y0).pending = y0.pending) :
    (State.caskLost s q outcome).part = s.part ∧ (State.caskLost s q outcome).pending = s.pending := by
  simp only [State.caskLost]
  (try repeat' split) <;> simp_all

@[simp] theorem State.tunError_kept (s : State) (c : TunCore) (uncorrectable : Bool) (addr : Word) :
    (State.tunError s c uncorrectable addr).part = s.part ∧ (State.tunError s c uncorrectable addr).pending = s.pending := by
  simp only [State.tunError]
  (try repeat' split) <;> simp_all

@[simp] theorem State.flipNode_kept (s : State) (i : Nat) (word : BitVec 128) (par : BitVec 4) :
    (State.flipNode s i word par).part = s.part ∧ (State.flipNode s i word par).pending = s.pending := by
  simp only [State.flipNode]
  (try repeat' split) <;> simp_all

@[simp] theorem State.hwError_kept (s : State) (a : HwError) :
    (State.hwError s a).part = s.part ∧ (State.hwError s a).pending = s.pending := by
  simp only [State.hwError]
  (try repeat' split) <;> simp_all

@[simp] theorem State.hwErrors_kept (s : State) (es : List HwError) :
    (State.hwErrors s es).part = s.part ∧ (State.hwErrors s es).pending = s.pending := by
  simp only [State.hwErrors]
  (try repeat' split) <;> simp_all

@[simp] theorem State.setSession_kept (s : State) (n : Option Nat) :
    (State.setSession s n).part = s.part ∧ (State.setSession s n).pending = s.pending := by
  simp only [State.setSession]
  (try repeat' split) <;> simp_all

@[simp] theorem State.startFlash_kept (s : State) (c : CmdRef) (w : FlashWork) :
    (State.startFlash s c w).part = s.part ∧ (State.startFlash s c w).pending = s.pending := by
  simp only [State.startFlash]
  (try repeat' split) <;> simp_all

@[simp] theorem State.updateCommand_kept (s : State) (n : Nat) (desc : List Byte) (effect : CmdRef → State → State) (h_effect : ∀ (y0 : CmdRef) (y1 : State), (effect y0 y1).part = y1.part ∧ (effect y0 y1).pending = y1.pending) :
    (State.updateCommand s n desc effect).part = s.part ∧ (State.updateCommand s n desc effect).pending = s.pending := by
  simp only [State.updateCommand]
  (try repeat' split) <;> simp_all

@[simp] theorem State.stageWrite_kept (s : State) (c : CmdRef) (desc : List Byte) (data : Option (List Byte)) :
    (State.stageWrite s c desc data).part = s.part ∧ (State.stageWrite s c desc data).pending = s.pending := by
  simp only [State.stageWrite]
  (try repeat' split) <;> simp_all

@[simp] theorem State.stageRead_kept (s : State) (c : CmdRef) (desc : List Byte) :
    (State.stageRead s c desc).part = s.part ∧ (State.stageRead s c desc).pending = s.pending := by
  simp only [State.stageRead]
  (try repeat' split) <;> simp_all

@[simp] theorem State.healthExpires_kept (s : State) :
    (State.healthExpires s).part = s.part ∧ (State.healthExpires s).pending = s.pending := by
  simp only [State.healthExpires]
  (try repeat' split) <;> simp_all

@[simp] theorem State.healthConfirm_kept (s : State) (c : CmdRef) :
    (State.healthConfirm s c).part = s.part ∧ (State.healthConfirm s c).pending = s.pending := by
  simp only [State.healthConfirm]
  (try repeat' split) <;> simp_all

@[simp] theorem State.confirmed_kept (s : State) (c : CmdRef) (slot : Nat) :
    (State.confirmed s c slot).part = s.part ∧ (State.confirmed s c slot).pending = s.pending := by
  simp only [State.confirmed]
  (try repeat' split) <;> simp_all

@[simp] theorem State.flashDone_kept (s : State) (j : FlashJob) :
    (State.flashDone s j).part = s.part ∧ (State.flashDone s j).pending = s.pending := by
  simp only [State.flashDone]
  (try repeat' split) <;> simp_all

@[simp] theorem State.bootCtl_kept (s : State) (v : Nat) :
    (State.bootCtl s v).part = s.part ∧ (State.bootCtl s v).pending = s.pending := by
  simp only [State.bootCtl]
  (try repeat' split) <;> simp_all

@[simp] theorem State.storeField_kept (s : State) (r : RegRow) (ix : List Nat) (x : Nat) (g : RegField) :
    (State.storeField s r ix x g).part = s.part ∧ (State.storeField s r ix x g).pending = s.pending := by
  simp only [State.storeField]
  (try repeat' split) <;> simp_all

@[simp] theorem State.storeWord_kept (s : State) (r : RegRow) (ix : List Nat) (w : Nat) (v : Nat) :
    (State.storeWord s r ix w v).part = s.part ∧ (State.storeWord s r ix w v).pending = s.pending := by
  simp only [State.storeWord]
  (try repeat' split) <;> simp_all

@[simp] theorem State.storeIf_kept (s : State) (ok : Bool) (r : RegRow) (ix : List Nat) (w : Nat) (v : Nat) :
    (State.storeIf s ok r ix w v).part = s.part ∧ (State.storeIf s ok r ix w v).pending = s.pending := by
  simp only [State.storeIf]
  (try repeat' split) <;> simp_all

@[simp] theorem State.ppsTodWritten_kept (s : State) :
    (State.ppsTodWritten s).part = s.part ∧ (State.ppsTodWritten s).pending = s.pending := by
  simp only [State.ppsTodWritten]
  (try repeat' split) <;> simp_all

@[simp] theorem State.timeSetWord_kept (s : State) (w : Nat) (v : Nat) :
    (State.timeSetWord s w v).part = s.part ∧ (State.timeSetWord s w v).pending = s.pending := by
  simp only [State.timeSetWord]
  (try repeat' split) <;> simp_all

@[simp] theorem State.timeCtl_kept (s : State) (v : Nat) :
    (State.timeCtl s v).part = s.part ∧ (State.timeCtl s v).pending = s.pending := by
  simp only [State.timeCtl]
  (try repeat' split) <;> simp_all

@[simp] theorem State.chCtl_kept (s : State) (k : Nat) (v : Nat) :
    (State.chCtl s k v).part = s.part ∧ (State.chCtl s k v).pending = s.pending := by
  simp only [State.chCtl]
  (try repeat' split) <;> simp_all

@[simp] theorem State.countWrite_kept (s : State) (k : Nat) (v : Nat) :
    (State.countWrite s k v).part = s.part ∧ (State.countWrite s k v).pending = s.pending := by
  simp only [State.countWrite]
  (try repeat' split) <;> simp_all

@[simp] theorem State.compareWrite_kept (s : State) (k : Nat) (v : Nat) :
    (State.compareWrite s k v).part = s.part ∧ (State.compareWrite s k v).pending = s.pending := by
  simp only [State.compareWrite]
  (try repeat' split) <;> simp_all

@[simp] theorem State.gainCtl_kept (s : State) (f : Nat) (k : Nat) (was : Bool) :
    (State.gainCtl s f k was).part = s.part ∧ (State.gainCtl s f k was).pending = s.pending := by
  simp only [State.gainCtl]
  (try repeat' split) <;> simp_all

@[simp] theorem State.txch_kept (s : State) (f : Nat) (c : Nat) (v : Nat) :
    (State.txch s f c v).part = s.part ∧ (State.txch s f c v).pending = s.pending := by
  simp only [State.txch]
  (try repeat' split) <;> simp_all

@[simp] theorem State.cxWritten_kept (s : State) (f : Nat) (n : Nat) (en : Bool) (role : Bool) :
    (State.cxWritten s f n en role).part = s.part ∧ (State.cxWritten s f n en role).pending = s.pending := by
  simp only [State.cxWritten]
  (try repeat' split) <;> simp_all

@[simp] theorem State.hcbHostWord_kept (s : State) (f : Nat) (whole : Nat) (w : Nat) (v : Nat) :
    (State.hcbHostWord s f whole w v).part = s.part ∧ (State.hcbHostWord s f whole w v).pending = s.pending := by
  simp only [State.hcbHostWord]
  (try repeat' split) <;> simp_all

@[simp] theorem State.seqProgWord_kept (s : State) (f : Nat) (p : Nat) (w : Nat) (v : Nat) :
    (State.seqProgWord s f p w v).part = s.part ∧ (State.seqProgWord s f p w v).pending = s.pending := by
  simp only [State.seqProgWord]
  (try repeat' split) <;> simp_all

@[simp] theorem State.bucketWritten_kept (s : State) (g : Nat) (c : Nat) (was : Bool) :
    (State.bucketWritten s g c was).part = s.part ∧ (State.bucketWritten s g c was).pending = s.pending := by
  simp only [State.bucketWritten]
  (try repeat' split) <;> simp_all

@[simp] theorem State.clearRingFault_kept (s : State) (v : Nat) :
    (State.clearRingFault s v).part = s.part ∧ (State.clearRingFault s v).pending = s.pending := by
  simp only [State.clearRingFault]
  (try repeat' split) <;> simp_all

@[simp] theorem State.againClear_kept (s : State) (j : Nat) (v : Nat) :
    (State.againClear s j v).part = s.part ∧ (State.againClear s j v).pending = s.pending := by
  simp only [State.againClear]
  (try repeat' split) <;> simp_all

@[simp] theorem State.ptpCfgWritten_kept (s : State) (was : Bool) :
    (State.ptpCfgWritten s was).part = s.part ∧ (State.ptpCfgWritten s was).pending = s.pending := by
  simp only [State.ptpCfgWritten]
  (try repeat' split) <;> simp_all

@[simp] theorem State.pinEn_kept (s : State) (v : Nat) :
    (State.pinEn s v).part = s.part ∧ (State.pinEn s v).pending = s.pending := by
  simp only [State.pinEn]
  (try repeat' split) <;> simp_all

@[simp] theorem State.clearAccessFault_kept (s : State) (w : Nat) (v : Nat) :
    (State.clearAccessFault s w v).part = s.part ∧ (State.clearAccessFault s w v).pending = s.pending := by
  simp only [State.clearAccessFault]
  (try repeat' split) <;> simp_all

@[simp] theorem State.coresEnabled_kept (s : State) (was : Nat) :
    (State.coresEnabled s was).part = s.part ∧ (State.coresEnabled s was).pending = s.pending := by
  simp only [State.coresEnabled]
  (try repeat' split) <;> simp_all

@[simp] theorem State.writeEntry_kept (s : State) (r : RegRow) (ix : List Nat) (w : Nat) (v : Nat) :
    (State.writeEntry s r ix w v).part = s.part ∧ (State.writeEntry s r ix w v).pending = s.pending := by
  simp only [State.writeEntry]
  (try repeat' split) <;> simp_all

@[simp] theorem State.readKilnQueue_kept (s : State) :
    (State.readKilnQueue s).1.part = s.part ∧ (State.readKilnQueue s).1.pending = s.pending := by
  simp only [State.readKilnQueue]
  (try repeat' split) <;> simp_all

@[simp] theorem State.readEntry_kept (s : State) (func : Nat) (r : RegRow) (ix : List Nat) (w : Nat) :
    (State.readEntry s func r ix w).1.part = s.part ∧ (State.readEntry s func r ix w).1.pending = s.pending := by
  simp only [State.readEntry]
  (try repeat' split) <;> simp_all

@[simp] theorem State.readWord_kept (s : State) (func : Nat) (off : Nat) :
    (State.readWord s func off).1.part = s.part ∧ (State.readWord s func off).1.pending = s.pending := by
  simp only [State.readWord]
  (try repeat' split) <;> simp_all

@[simp] theorem State.writeWord_kept (s : State) (off : Nat) (v : Nat) :
    (State.writeWord s off v).part = s.part ∧ (State.writeWord s off v).pending = s.pending := by
  simp only [State.writeWord]
  (try repeat' split) <;> simp_all

@[simp] theorem State.signal_kept (s : State) (v : Nat) :
    (s.signal v).part = s.part ∧ (s.signal v).pending = s.pending := by
  have h := State.signal_frame s v
  exact ⟨h.1, by simp⟩

@[simp] theorem State.writeMsix_kept (s : State) (func : Nat) (w : Nat) (v : Nat) :
    (State.writeMsix s func w v).part = s.part ∧ (State.writeMsix s func w v).pending = s.pending := by
  by_cases h : w % 4 = 3 ∧ v % 2 = 0 ∧ func = s.active ∧ 256 * func + w / 4 ∈ s.evt.pba
  · have e : State.writeMsix s func w v = State.signal _ (w / 4) := if_pos h
    rw [e]; exact State.signal_kept _ _
  · have e : State.writeMsix s func w v = _ := if_neg h
    rw [e]; exact ⟨rfl, rfl⟩

@[simp] theorem State.writeBar2_kept (s : State) (func : Nat) (off : Nat) (v : Nat) :
    (State.writeBar2 s func off v).part = s.part ∧ (State.writeBar2 s func off v).pending = s.pending := by
  simp only [State.writeBar2]
  (try repeat' split) <;> simp_all

@[simp] theorem State.writeCfg_kept (s : State) (func : Nat) (w : Nat) (v : Nat) :
    (State.writeCfg s func w v).part = s.part ∧ (State.writeCfg s func w v).pending = s.pending := by
  simp only [State.writeCfg]
  (try repeat' split) <;> simp_all

@[simp] theorem State.readUnit_kept (s : State) (func : Nat) (sp : BusSpace) (o : Nat) :
    (s.readUnit func sp o).1.part = s.part ∧ (s.readUnit func sp o).1.pending = s.pending := by
  cases sp
  · have e : s.readUnit func .bar0 o = s.readWord func o := rfl
    rw [e]; exact State.readWord_kept s func o
  · exact ⟨rfl, rfl⟩
  · exact ⟨rfl, rfl⟩

@[simp] theorem State.readWords_kept (s : State) (func : Nat) (sp : BusSpace) (l : List Nat) :
    (s.readWords func sp l).1.part = s.part ∧ (s.readWords func sp l).1.pending = s.pending := by
  induction l generalizing s with
  | nil => exact ⟨rfl, rfl⟩
  | cons o l ih =>
    have h := ih (s.readUnit func sp o).1
    have e0 : s.readWords func sp (o :: l) = (((s.readUnit func sp o).1.readWords func sp l).1,
        (s.readUnit func sp o).2 + ((s.readUnit func sp o).1.readWords func sp l).2 * 2 ^ 32) := by rw [State.readWords]
    have e : (s.readWords func sp (o :: l)).1 = ((s.readUnit func sp o).1.readWords func sp l).1 := by rw [e0]
    have g := State.readUnit_kept s func sp o
    rw [e]; exact ⟨h.1.trans g.1, h.2.trans g.2⟩

@[simp] theorem State.readRefused_kept (s : State) (func : Nat) (a : BusAccess) :
    (State.readRefused s func a).part = s.part ∧ (State.readRefused s func a).pending = s.pending := by
  simp only [State.readRefused]
  (try repeat' split) <;> simp_all

@[simp] theorem State.recordWrites_kept (s : State) (l : List (Nat × Nat)) :
    (State.recordWrites s l).part = s.part ∧ (State.recordWrites s l).pending = s.pending := by
  simp only [State.recordWrites]
  (try repeat' split) <;> simp_all

@[simp] theorem State.faultAt_kept (s : State) (was : Bool) (a : BusAccess) :
    (State.faultAt s was a).part = s.part ∧ (State.faultAt s was a).pending = s.pending := by
  simp only [State.faultAt]
  (try repeat' split) <;> simp_all

@[simp] theorem State.hostWriteAccess_kept (s : State) (func : Nat) (a : BusAccess) (v : Nat) :
    (State.hostWriteAccess s func a v).part = s.part ∧ (State.hostWriteAccess s func a v).pending = s.pending := by
  simp only [State.hostWriteAccess]
  (try repeat' split) <;> simp_all

@[simp] theorem State.resetDie_kept (s : State) (f : Nat) :
    (State.resetDie s f).part = s.part ∧ (State.resetDie s f).pending = s.pending := by
  simp only [State.resetDie]
  (try repeat' split) <;> simp_all

@[simp] theorem State.replay_kept (s : State) (f : Nat) :
    (State.replay s f).part = s.part ∧ (State.replay s f).pending = s.pending := by
  simp only [State.replay]
  (try repeat' split) <;> simp_all

@[simp] theorem State.tunAlu_kept (s : State) (c : TunCore) (d : Fin 16) (a : Fin 16) (b : Fin 16) (f : Word → Word → Word) :
    (State.tunAlu s c d a b f).part = s.part ∧ (State.tunAlu s c d a b f).pending = s.pending := by
  simp only [State.tunAlu]
  (try repeat' split) <;> simp_all

@[simp] theorem State.tunBranch_kept (s : State) (c : TunCore) (taken : TunRun → Bool) (off : BitVec 22) :
    (State.tunBranch s c taken off).part = s.part ∧ (State.tunBranch s c taken off).pending = s.pending := by
  simp only [State.tunBranch]
  (try repeat' split) <;> simp_all

@[simp] theorem State.tunStore_kept (s : State) (c : TunCore) (r : Region) (a : Nat) (bs : List Byte) :
    (State.tunStore s c r a bs).part = s.part ∧ (State.tunStore s c r a bs).pending = s.pending := by
  simp only [State.tunStore]
  (try repeat' split) <;> simp_all

theorem State.blkRead_kept (s : State) (r : TunRun) (c : TunCore) (a : Word) (size : Nat)
    (go : List Byte → State × TunRun × BlkStop) (h : ∀ l, (go l).1.part = s.part ∧ (go l).1.pending = s.pending) :
    (s.blkRead r c a size go).1.part = s.part ∧ (s.blkRead r c a size go).1.pending = s.pending := by
  simp only [State.blkRead]; split
  · simp
  · simp
  · exact h _

@[simp] theorem State.blkWrite_kept (s : State) (r : TunRun) (c : TunCore) (a : Word) (bs : List Byte) (go : TunRun) :
    (State.blkWrite s r c a bs go).1.part = s.part ∧ (State.blkWrite s r c a bs go).1.pending = s.pending := by
  simp only [State.blkWrite]
  (try repeat' split) <;> simp_all

@[simp] theorem State.blkElem_kept (s : State) (r : TunRun) (c : TunCore) (k : BlkKind) (b : BlkArgs) :
    (s.blkElem r c k b).1.part = s.part ∧ (s.blkElem r c k b).1.pending = s.pending := by
  simp only [State.blkElem]
  split
  · exact State.blkRead_kept _ _ _ _ _ _ (fun l => by simp)
  · simp
  · exact State.blkRead_kept _ _ _ _ _ _ (fun l => by split <;> simp)
  · exact State.blkRead_kept _ _ _ _ _ _ (fun l => by split <;> simp)
  · exact State.blkRead_kept _ _ _ _ _ _ (fun l => State.blkRead_kept _ _ _ _ _ _ (fun m => by split <;> simp))
  · exact State.blkRead_kept _ _ _ _ _ _ (fun l => by simp)

@[simp] theorem State.blkLoop_kept (s : State) (r : TunRun) (c : TunCore) (k : BlkKind) (b : BlkArgs) (n : Nat) :
    (s.blkLoop r c k b n).1.part = s.part ∧ (s.blkLoop r c k b n).1.pending = s.pending := by
  induction n generalizing s r with
  | zero => simp [State.blkLoop]
  | succ n ih =>
    simp only [State.blkLoop]
    have h := State.blkElem_kept s r c k b
    split
    · simp
    · split
      · rename_i e; rw [e] at h; simp_all
      · rename_i e; simp_all

end Sys2Proof.Machine
end

