-- ==== Sys2Proof/Laws/Time.lean ====
section
/-! SUPPORT. Setting the mesh slot count writes nothing else, and the mesh slot count reads only the counter and the
mesh offset. -/

namespace Sys2Proof.Machine

@[simp] theorem State.setMsc_msc (s : State) (m : Nat) : (s.setMsc m).time.msc = m := rfl
@[simp] theorem State.setMsc_regs (s : State) (m : Nat) : (s.setMsc m).regs = s.regs := rfl
@[simp] theorem State.setMsc_stats (s : State) (m : Nat) : (s.setMsc m).stats = s.stats := rfl
@[simp] theorem State.setMsc_sec (s : State) (m : Nat) : (s.setMsc m).time.sec = s.time.sec := rfl
@[simp] theorem State.setMsc_ns (s : State) (m : Nat) : (s.setMsc m).time.ns = s.time.ns := rfl

/-- States with the same counter and mesh offset have the same mesh slot count. -/
theorem State.mscNow_congr {s t : State} (hs : t.time.sec = s.time.sec) (hn : t.time.ns = s.time.ns)
    (ho : t.get Reg.TIME.MESH_OFFSET.OFFSET = s.get Reg.TIME.MESH_OFFSET.OFFSET) : t.mscNow = s.mscNow := by
  unfold State.mscNow State.meshNs State.counterNs State.meshOffset
  rw [hs, hn, ho]

/-- An output that is neither a bulk one nor a completion leaves at once and stays confirmed. -/
theorem State.emit_now (s : State) (o : Output) (hb : o.bulk = false) (hc : o.isCompletion = false) :
    s.emit o = s.emitNow o := by
  simp [State.emit, State.emitNow, hb, hc]

end Sys2Proof.Machine
end

