-- ==== Sys2Proof/Tests/Slice0.lean ====
section
/-! SUPPORT. The model's own tests: states to test with, an ill-formed term for each check of WellFormed.lean, values
worked out from the spec, and for every statement with hypotheses a state and operands that meet them. -/

set_option Elab.async false

namespace Sys2Proof.Machine
def State.onPower (s : State) (f : Power → Power) : State := { s with power := f s.power }
def State.onWatch (s : State) (f : Watch → Watch) : State := { s with watch := f s.watch }
def State.onTime (s : State) (f : TimeUnit → TimeUnit) : State := { s with time := f s.time }
def State.onClk (s : State) (f : Clocks → Clocks) : State := { s with clk := f s.clk }
def State.onEvt (s : State) (f : Events → Events) : State := { s with evt := f s.evt }
def State.onRings (s : State) (f : Rings → Rings) : State := { s with rings := f s.rings }
def State.onEth (s : State) (f : Eth → Eth) : State := { s with eth := f s.eth }
def State.onSafe (s : State) (f : Safe → Safe) : State := { s with safe := f s.safe }
def State.onAir (s : State) (f : Air → Air) : State := { s with air := f s.air }
def State.onNode (s : State) (f : NodeUnit → NodeUnit) : State := { s with node := f s.node }
def State.onKiln (s : State) (f : Kiln → Kiln) : State := { s with kiln := f s.kiln }
def State.onOtp (s : State) (f : Otp → Otp) : State := { s with otp := f s.otp }
def State.onRx (s : State) (f : MacRx → MacRx) : State := { s with rx := f s.rx }
def State.onCask (s : State) (f : Cask → Cask) : State := { s with cask := f s.cask }
def State.onSched (s : State) (f : Sched → Sched) : State := { s with sched := f s.sched }
def State.onTx (s : State) (f : MacTx → MacTx) : State := { s with tx := f s.tx }
def State.onTun (s : State) (f : TunUnit → TunUnit) : State := { s with tun := f s.tun }
def State.onBoot (s : State) (f : BootUnit → BootUnit) : State := { s with boot := f s.boot }
/-- Several register fields written. -/
def State.puts (s : State) (l : List (Fld × Nat)) : State := l.foldl (fun s p => s.put p.1 p.2) s
end Sys2Proof.Machine
namespace Sys2Proof.Tests
open Sys2Proof Sys2Proof.Machine
/-- The part in a phase of its power. -/
def inPhase (p : Phase) : State := { State.reset with power := { State.reset.power with phase := p } }
/-- The part as it runs. -/
def up : State := inPhase .running
/-- Window 0 covers the first 4 GiB of host memory, readable and writable. -/
def windowed (s : State) : State := s.puts [(Reg.RING.WIN.EN 0, 1), (Reg.RING.WIN.RD 0, 1), (Reg.RING.WIN.WR 0, 1),
  (Reg.RING.WIN.BASE_PAGE 0, 0), (Reg.RING.WIN.LIMIT_PAGE 0, 0xFFFFF)]
/-- A PAUSE frame of one quantum. -/
def pauseFrame : List Byte := [1, 0x80, 0xC2, 0, 0, 1, 0, 0, 0, 0, 0, 0, 0x88, 8, 0, 1, 0, 1] ++ List.replicate 42 0
/-- Ring n enabled with a type, 16 entries and a running state. -/
def ringed (s : State) (n typ : Nat) (r : RingRun) : State := (s.setRing n r).puts [(Reg.RING.CTL.EN n, 1),
  (Reg.RING.CTL.TYPE n, typ), (Reg.RING.CTL.LOG2_SIZE n, 4), (Reg.RING.CTL.BUF_LOG2 n, 0)]
/-- SEQ of die f runs at word 1023, which is w. -/
def seqd (f w : Nat) : State :=
  (up.onAir fun x => { x with seqs := [(f, ⟨[(1023, w)], [], .running, 12345⟩)] }).put (Reg.SEQ.STATUS.PC f) 1023
/-- Context i of die f listens on chain 0, and the search of every rate is on. -/
def listening (f i : Nat) (s : State) : State := s.puts [(Reg.LINK.STREAM.EN f i, 1), (Reg.LINK.STREAM.SRC_RF f i, 1),
  (Reg.LINK.STREAM.SRC f i, 0), (Reg.LINK.STREAM.BLANK_GRP f i, 8), (Reg.FRF.RXCH.EN f 0, 1),
  (Reg.FRF.RXCH.CAL_VALID f 0, 1), (Reg.STEEP.CTL.EN f, 1), (Reg.STEEP.RATE.EN f 0, 1), (Reg.STEEP.RATE.EN f 1, 1),
  (Reg.STEEP.RATE.EN f 2, 1), (Reg.STEEP.RATE.EN f 3, 1), (Reg.STEEP.RATE.EN f 4, 1)]
/-- A frozen or unfrozen N1 tracker on channel 31 of context i. -/
def trackOn (i : Nat) (rho : Frac) (frozen : Bool) : Tracker :=
  ⟨i, false, 31, 1, 0, rho, ⟨1, 1000000⟩, 60000, 7, 1, frozen, 100, (5, 0)⟩
/-- A demodulator context of context i. -/
def demodOn (i : Nat) : DemodCtx := newCtx (trackOn i ⟨1, 2⟩ true) 9 15 ⟨5, 0, 0, 7⟩ 100 200 300 0 ⟨1, 1000⟩ (-960)
/-- The bits of the PHY header of a frame of n bytes. -/
def phyBits (n : Nat) : List Bool := bitsOf 24 (phyHeader n 0 false false)
/-- A demodulator context of a frame of n bytes that has decided so many further bits, in so many steps and checks. -/
def frameDemod (n more steps checks : Nat) : DemodCtx :=
  { demodOn 511 with bits := phyBits n ++ List.replicate more true, steps := steps, checks := checks }
/-- Die 5 with that demodulator context under number 4095. -/
def demodding (c : DemodCtx) : State := (listening 5 511 up).onAir fun x => { x with ctxs := [(24575, c)] }
/-- A valid entry word of a node with an empty set. -/
def nodeW (a static : Nat) : Nat := putBits (putBits (freshNode a 0xFFFF) 107 1 1) 108 1 static
/-- An entry with right parity. -/
def nodeE (w : Nat) : NodeEntry := ⟨w, parityOf w⟩
/-- The part with a node table and a NODE.CMD operation under way. -/
def nodes (tab : Tbl NodeEntry) (o : Option NodeOp) : State :=
  (up.onNode fun _ => ⟨tab, o, none⟩).put Reg.NODE.CFG.IE_DONE 1
/-- The bucket of a source in the hearing table. -/
def hb (a : Nat) : Nat := a * 0x85EBCA77 % 2 ^ 32 / 2 ^ 16 * 4
/-- HEAR_CMD of die f under way for address a. -/
def hearOp (f op a ix : Nat) (begun : Bool) : State :=
  (up.put (Reg.DEMOD.HEAR_CMD.BUSY f) 1).onAir fun x => { x with hearOps := [(f, ⟨op, ix, a, begun⟩)] }
/-- A descriptor that begins with these bytes. -/
def desc (l : List Byte) : List Byte := l ++ List.replicate (64 - l.length) 0
/-- CMD ring 2 of CPL ring 1 with one started command. -/
def cmd2 (s : State) : State := (ringed (ringed s 1 1 { RingRun.init with claimed := 1 }) 2 0
  { RingRun.init with host := 1, started := [1] }).put (Reg.RING.CTL.PEER 2) 1
/-- A bound queue. -/
def boundQ (count : Nat) (sent : Bool) : Queue := { Queue.init with count := count, sent := sent, addr := some 5, cls := 3, tail := 1 }
/-- Queue 7 as given, two one-buffer items in the pool, and a CASK.CMD operation under way. -/
def casked (q : Queue) (o : Option CaskOp) : State := up.onCask fun x => { x with
  queues := [(7, q)], bufs := [(0, ⟨1, true, true, List.replicate 32 9⟩), (1, ⟨0, true, true, List.replicate 32 8⟩)],
  items := [(0, ⟨[0], 1, some ⟨2, 1, 0x20, 6⟩, 7⟩), (1, ⟨[1], 1, some ⟨2, 1, 0x20, 7⟩, 7⟩)], held := [0, 2, 0], op := o, lists := [(3, [7])] }
/-- A running pool of 100 buffers. -/
def pooled (s : State) : State := s.puts [(Reg.CASK.CFG.EN, 1), (Reg.CASK.CFG.MAX_ITEMS, 100), (Reg.CASK.POOL_COUNT.N, 100)]
/-- The mesh time is so many ns after mesh slot 0. -/
def meshAt (ns : Nat) (s : State) : State := s.onTime fun x => { x with sec := meshEpoch + ns / 1000000000, ns := ns % 1000000000 }
/-- A contact with node 5. -/
def contact5 (msc ofs : Nat) : Contact := ⟨⟨2, 1, 0x21, 6⟩, 5, 1, 7, 2, msc, ofs, 1000, 50, false⟩
/-- The part knows node 5. -/
def knows5 (s : State) : State := s.onNode fun x => { x with tab := [(0x100000, nodeE (nodeW 5 1))] }
/-- The SEND of ring 2 reads its data. -/
def sendingD (d : List Byte) (s : State) : State :=
  (cmd2 s).setRing 2 { RingRun.init with host := 1, started := [1], sending := some ⟨d⟩ }
/-- A SEND descriptor for queue 7, 16 bytes of payload. -/
def sendD (mode typ : Byte) : List Byte := desc [1, mode, 6, 0, 7, 0, 0, 0, typ, 0, 0, 0, 16]
/-- Kiln in a state, a command of ring 2 started, host memory open. -/
def kiln (st : Nat) : State := (cmd2 (windowed up)).puts [(Reg.KILN.STATUS.STATE, st), (Reg.RNG.STATUS.SEEDED, 1), (Reg.KILN.STATUS.PRESENT, 1)]
/-- A Kiln descriptor. -/
def kdesc (op mode : Byte) (slot slot2 inLen outLen attr len : Nat) : List Byte :=
  desc ([op, mode, 6, 0] ++ leBytes 2 slot ++ leBytes 2 slot2 ++ leBytes 8 0 ++ leBytes 4 inLen ++ leBytes 8 0
    ++ leBytes 4 outLen ++ leBytes 4 attr ++ leBytes 1 len)
/-- Slot 9 holds a key. -/
def slot9 (attr : Nat) (s : State) : State := s.onKiln fun k => { k with slots := [(9, ⟨attr, List.replicate 16 7⟩)] }
/-- A cache entry. -/
def cache5 (addr : Nat) : CacheEntry := ⟨1, addr, 0, 9, List.replicate 16 7, false, 1, [], false⟩
theorem ecBytes_length (p : Option (Nat × Nat)) : (ecBytes p).length = 97 := by
  rcases p with _ | ⟨x, y⟩
  · rfl
  · rfl
/-- The identity of a copy with a serial, of a frame of n bytes. -/
def infoOf (serial n : Nat) : CopyInfo := ⟨serial, 5, 3, 31, 7, 1, 1, n, 1000, 0, 0⟩
/-- A MAC frame of 26 bytes from node 5: type, check-value code, key class, sequence 4, counter 6, index 0. -/
def mframe (typ cvlen cls : Nat) : List Byte :=
  macHeader typ cvlen cls false false 4 7 0 5 6 0 ++ [1, 2, 3, 4, 5, 6, 7, 8]
/-- A copy of a frame of 26 bytes. -/
def copyOf (serial : Nat) (m : List Byte) (rec : Option (Nat × Bool)) : Copy :=
  ⟨infoOf serial 26, phyHeader 26 0 false false, m.take 18,
    [⟨0, phyBits 26 ++ bitsOfBytes m ++ List.replicate 6 false, List.replicate 476 1, 0⟩], rec, 1, false⟩
/-- A provisional group of copies in Reach. -/
def grpOf (copies : List Copy) : Group := { up.freshGroup (infoOf 9 26) with copies := copies, profile := 1, prov := true }
/-- The part with group 3. -/
def grouped (g : Group) (s : State) : State := s.onRx fun x => { x with groups := [(3, g)], nextGroup := 4 }
/-- Die f's messages on their way. -/
def upm (f : Nat) (l : List UpMsg) (s : State) : State := s.onAir fun x => { x with up := [(f, l)] }
/-- A host verification with the key of a slot. -/
def hostReq (verify : Bool) (adm : Option (List Byte)) (tag : List Byte) : CheckReq :=
  ⟨if verify then .hostVerify ⟨2, 1, 0x28, 6⟩ else .hostGen ⟨2, 1, 0x27, 6⟩ 64, .slot 9, none, verify, 4, [1, 2], tag, adm, 0⟩
/-- Request 4 at the check engine. -/
def req4 (r : CheckReq) (s : State) : State := s.onKiln fun k => { k with reqs := [(4, r)], nextReq := 5 }
/-- A transmit job of output o of die f at an instant. -/
def jobOf (kind : JobKind) (f o : Nat) (t0 : Int) (stage : JobStage) : TxJob :=
  ⟨kind, 7, f, o, 7, 1, 0, t0, macHeader 0 1 0 false false 4 7 5 0 6 0, [1, 2, 3, 4], 4, some (List.replicate 16 7), stage, 0, 3, none, 0, 3⟩
/-- An item header: CVLEN, ACKREQ, 4 bytes of payload at N1 on grid channel 7. -/
def itemH (cvlen : Nat) (ack : Bool) : List Byte :=
  List.replicate 10 0 ++ leBytes 2 7 ++ leBytes 2 (4 + cvlen * 2 ^ 11 + bit ack * 2 ^ 13) ++ [1] ++ List.replicate 17 0
/-- The first item of queue 7 as the scheduler has taken it. -/
def dl (ack : Bool) (jobs : List Nat) : Downlink := ⟨0, 5, itemH 0 ack, 4, [6], 0, 0, 0, jobs, false, none, .internal, 1, 0, 3, false, none, false⟩
/-- Output 96 of die 5 may radiate on a quiet channel: jobs and downlinks as given, mesh time 0. -/
def radio (jobs : List (Nat × TxJob)) (downs : List (Nat × Downlink)) (s : State) : State :=
  ((((meshAt 0 (listening 5 3 s)).puts [(Reg.FRF.TXCH.EN 5 0, 1), (Reg.TX.OUT.EN 5 96, 1), (Reg.TX.OUT.LISTEN 5 96, 3),
    (Reg.TX.GRID 5 96, 0), (Reg.DEMOD.GRID.BASE 5 3, 0), (Reg.MAC.LBT_BAND.EN 1, 1), (Reg.MAC.LBT_BAND.GLO 1, 0),
    (Reg.MAC.LBT_BAND.GHI 1, 31), (Reg.MAC.LBT_BAND.LBT 1, 1), (Reg.MAC.LBT_BAND.THR 1, 0), (Reg.MAC.LBT_BAND.REL 1, 0),
    (Reg.STEEP.START_THR.THR 5, 0), (Reg.RNG.STATUS.SEEDED, 1), (Reg.TIME.CTL.FREE_RUN_TX, 1),
    (Reg.TX.SERVE.EN 5 3, 1), (Reg.TX.SERVE.OUT 5 3, 96), (Reg.NODE.FLOOD.EN 0, 1), (Reg.NODE.FLOOD.STREAM 0, 5 * 512 + 3),
    (Reg.MAC.UNSEC.TYPES, 255), (Reg.MAC.LBT_CFG.MAX_ATTEMPTS, 5), (Reg.MAC.LBT_CFG.MAX_BE, 5)]).onTx fun x =>
    { x with jobs := jobs, nextJob := 9, downs := downs }).onAir fun x =>
    { x with powers := [(chanKey 5 3 false 7, ⟨1, 1000000⟩)] }).onCask fun x =>
    { x with bufs := [(0, ⟨1, true, true, itemH 0 false⟩), (1, ⟨0, true, true, itemH 0 false⟩)] }
/-- A shadow list of two entries of 1 ms for group 9, with takeover in slot 10. -/
def shadow9 : State := up.puts [(Reg.SCHED.GATE_CTL.LEN 9, 2), (Reg.SCHED.GATE_ENTRY.OPEN 9 0, 255), (Reg.SCHED.GATE_ENTRY.DUR 9 0, 100),
  (Reg.SCHED.GATE_ENTRY.OPEN 9 1, 1), (Reg.SCHED.GATE_ENTRY.DUR 9 1, 100), (Reg.SCHED.GATE_TAKEOVER.MSC 9, 10)]
/-- A gate list of two entries of 1 ms: every class, then class 0. -/
def gates2 : GateList := ⟨[(255, 100), (1, 100)], 0, 0⟩
/-- Queue 7 of a class waits in the class list of group 0, or urgently. -/
def schd (cls : Nat) (urgent : Bool) : State :=
  ((radio [] [] (casked { boundQ 1 false with cls := cls } none)).puts [(Reg.SCHED.CFG.EN, 1), (Reg.KILN.STATUS.FLOOR_SET, 1),
    (Reg.SCHED.CFG.LEAD_US, 200), (Reg.SCHED.CFG.HORIZON_US, 400), (Reg.SCHED.CLASS.QUANTUM cls, 1000)]).onCask fun x =>
  { x with lists := if urgent then [] else [(cls, [7])], urgent := if urgent then [(0, [7])] else [] }
/-- What a group's lists offer in a state that offers something. -/
def offerIn (s : State) : State × Nat × Plan × Int := (s.offer 0).getD (s, 0, ⟨0, [], none, none, false, none⟩, 0)
/-- A plan of one copy. -/
def plan1 (e : Option Status) : Plan := ⟨1, [(5, 96, 7)], none, none, false, e⟩
/-- Policy core 5 waits or runs, with hooks due and calls as given. -/
def policy (st : CoreState) (due : List Hook) (calls : List (Nat × HookCall)) (s : State) : State :=
  (s.put Reg.TUN.POLICY_CFG.CORE_EN 2).onTun fun x => { x with cores := [(5, { TunRun.init with st := st })], due := due, calls := calls }
/-- Both detectors armed in Night or on the way to it. -/
def armed (p : Phase) : State := (inPhase p).onWatch fun w => { w with wakeNEn := true, wsEn := true, capWakeN := true, capWs := true, wsAddr := 1 }
/-- A level change of head and die 0 under way, PMIC interface on. -/
def changing (c : LevelChange) : State :=
  (up.onPower fun x => { x with change := some c }).puts [(Reg.PWR.PM_I2C.EN, 1), (Reg.PWR.LEVEL_STATUS.CHANGING, 1),
    (Reg.PWR.RAIL.EN 0, 1), (Reg.PWR.RAIL.EN 2, 1)]
/-- Die d of the part has reached the drop threshold, or is in drop. -/
def hotDie (d : Nat) : State := up.onPower fun x => { x with called := [d], drop := [7], cool := [(7, 16)] }
/-- The heads run in lockstep with head 0 active; bulk outputs are held or not. -/
def lockstep (hold : Bool) : State := ((up.put Reg.SAFE.HEAD.CHECKED 1).put Reg.SAFE.HEAD.ACTIVE 0).onSafe fun x => { x with hold := hold, unconfirmed := [.hostWrite 0 64 [1, 2]], held := [.hostWrite 0 80 [3]] }
/-- Field dies other than f are fenced. -/
def lastUp (f : Nat) : State := up.puts (((List.range 6).filter (· ≠ f)).map fun g => (Reg.SAFE.FDIE.FENCED g, 1))
/-- Die f is in self-test for a reason. -/
def testing (f : Nat) (w : SelftestWhy) (s : State) : State := (s.put (Reg.SAFE.FDIE.SELFTEST f) 1).onSafe fun x => { x with selftests := [(f, w)] }
/-- Registers of a core: g1 = 64, g2 = 128, g3 = 1, g4 = 0x81, g5 = all ones, g6 = 0x20000000. -/
def regs6 : TunRun := { TunRun.init with st := .running, pc := 0x200, g := [0, 64, 128, 1, 0x81, 0xFFFFFFFF, 0x20000000, 0x102, 0x40000000] ++ List.replicate 7 0 }
/-- A core with registers, bytes at 64 and 128 of its TCM. -/
def tunAt (c : TunCore) (r : TunRun) : State := up.onTun fun x => { x with cores := [(coreKey c, r)], tcm := [(coreKey c, [(64, 0x81), (65, 2), (66, 3), (67, 0x84), (128, 0x82)])] }
/-- Policy core 5 runs a call of a hook. -/
def inCall (h : Hook) (s : State) : State := s.onTun fun x => { x with cores := [(5, regs6)], calls := [(4, ⟨h, some 5, [], false, 15⟩)] }
/-- An update descriptor: opcode, length, offset. -/
def udesc (op : Byte) (len off : Nat) : List Byte := desc ([op, 0, 6, 0, 0, 0, 0, 0] ++ leBytes 8 0 ++ leBytes 4 len ++ leBytes 4 off)
/-- CMD ring 2 has an update command, with a session or not. -/
def upd (n : Option Nat) : State := (cmd2 (windowed up)).onBoot fun x => { x with session := n }
/-- Boot flash works for a command. -/
def flashing (w : FlashWork) : State := (upd none).onBoot fun x => { x with job := some ⟨⟨2, 1, 0x41, 6⟩, w⟩ }
/-- A selector record in force at boot. -/
def selected (r : SelRec) (factory : Bool) : State := (inPhase .boot).onBoot fun x => { x with sec0 := SelRec.bytes r, factoryA := factory }
/-- The broadcast chain of die 5 is on in a mode, with its records enabled. -/
def bcastOn (mode : Nat) (r : BcastRun) : State := (up.onTime fun x => { x with sec := 10 }).puts [(Reg.BCAST.CTL.EN 5, 1),
  (Reg.BCAST.CTL.MODE 5, mode), (Reg.BCAST.CTL.PCM_EN 5, 1), (Reg.BCAST.CTL.AF_EN 5, 1), (Reg.BCAST.RING.STREAM_EN 5, 1),
  (Reg.BCAST.CTL.INTERVAL 5, 4), (Reg.BCAST.STATUS.ID 5, 0xD3C2), (Reg.BCAST.STATUS.ID_VALID 5, 1)] |> fun s => { s with bcast := [(5, r)] }
/-- An alternative frequency, 6 dB up at its last two checks. -/
def alt1 : AltFreq := ⟨98000, 2, some (-40, 0), false⟩
/-- A FIB with its CRC. -/
def fib (l : List Byte) : List Byte := let d := l ++ List.replicate (30 - l.length) 0; d ++ beBytes 2 (fibCrc d)
end Sys2Proof.Tests

namespace Sys2Proof.Tests

open Sys2Proof Sys2Proof.Machine

/-! ### WellFormed refuses an ill-formed term of each check -/

/-- Operands of a wrong length or range. -/
def illFormed1 : List Instr :=
  [.tempSample [[]], .pmI2cEnable 1 11, .pmSclTimeout 11, .demodSymbol 0 0 ⟨0, [], [true], 0, 0⟩, .pcmRecord 0 [] [] 0,
   .fibReceived 0 [], .subchRecord 0 0 [] 0, .nodeBadOpcode 5, .caskBadOpcode 4, .pollReadDone 512 none [],
   .pollReadDone 0 (some []) [], .ethFrameRx 0 0 [] 0, .bootRdy 11, .selftestDone true 1025 0, .rootRegen 32769 false,
   .entropyFault 0 1025, .rngRestartDone 0 1025, .errorLog []]

/-- Descriptors that are too short. -/
def illFormed2 : List Instr :=
  [.cmdNop 0 [], .send 0 [], .contact 0 [], .contactCancel 0 [], .badOpcode 0 [], .keyLoadBlobs 0 [] none,
   .keyUpdate 0 [] none, .keyCommit 0 [], .keyUnwrap 0 [] none, .keyDerive 0 [], .keyClear 0 [], .keyInfo 0 []]

/-- Descriptors with another row's opcode. -/
def illFormed3 : List Instr :=
  let d := desc [0x01]
  [.checkGen 0 d none, .checkVerify 0 d none, .random 0 d, .attest 0 d, .pubkeys 0 d, .enrol 0 d none, .zeroiseReenrol 0 d,
   .debugUnlock 0 d, .tamperAck 0 d, .cacheFlush 0 d, .kilnBadOpcode 0 d, .badOpcode 0 d, .cmdNop 0 d]

/-- Update descriptors with another row's opcode. -/
def illFormed4 : List Instr :=
  let d := desc [0x20]
  [.stageErase 0 d, .stageWrite 0 d none, .stageRead 0 d, .activate 0 d, .healthConfirm 0 d false, .abort 0 d,
   .updateBadOpcode 0 d, .send 0 d]

theorem test_wf_refuses_operands : illFormed1.all (fun c => !c.wf) = true := by decide +kernel
theorem test_wf_refuses_legal_word : Instr.wf (.tunIllegal (.head 0) 0x24C80034) = false := by decide +kernel
theorem test_wf_refuses_short : illFormed2.all (fun c => !c.wf) = true := by decide +kernel
theorem test_wf_refuses_opcode : illFormed3.all (fun c => !c.wf) = true := by decide +kernel
theorem test_wf_refuses_update : illFormed4.all (fun c => !c.wf) = true := by decide +kernel
theorem test_exec_refuses_ill_formed : exec (.cmdNop 0 []) up = .refused .illFormed := rfl
theorem test_exec_refuses_bad_pulses : exec (.pmI2cEnable 1 11) up = .refused .illFormed := rfl

/-! ### Values of the spec's own examples -/

/-- The wake address of node 0x0031_A4C7 (the example after R123). -/
theorem test_wake_address : wakeAddr 0x31A4C7 0x5A0C33 = 0x8BF9CF := by decide +kernel

/-- A 40-byte frame at N4 takes 3,056 chips, its 30-byte ack 2,416 (the example after R113). -/
theorem test_airtime_n4 : frameChips 2 40 = 3056 ∧ frameNs 2 40 = 15280000 ∧ frameChips 2 30 = 2416
    ∧ frameNs 2 30 = 12080000 := by decide +kernel

/-- A 36-byte frame at N16 takes 56.00 ms (the example of 07_demod_blend_decode.md). -/
theorem test_airtime_n16 : frameChips 3 36 = 11200 ∧ frameNs 3 36 = 56000000 := by decide +kernel

/-- 6,291,000 s after the epoch the slot count is 3,145,500,000 (the example after R53). -/
theorem test_msc_example : (meshAt (6291000 * 1000000000) up).mscNow = 0xBB7C8560 := by decide +kernel

/-- SEQ's WAIT of 1,250,000 ns (the example after R95). -/
theorem test_seq_wait_word : (∃ t, exec (.seqWait 5) (meshAt (24690 * 1000000) (seqd 5 0x10000000001312D0)) = .next t
    ∧ (t.seq 5).st = .waiting 1250000) := ⟨_, rfl, by decide +kernel⟩

/-- SEQ's HOP of receive chain 2 to 2,440.0 MHz (the example after R95). -/
theorem test_seq_hop_word : (∃ t, exec (.seqHop 5) ((seqd 5 0x2400000000005F50).put (Reg.FRF.RXCH.EN 5 2) 1) = .next t
    ∧ (t.seq 5).st = .hopping 2 ∧ t.get (Reg.FRF.RXCH.FC 5 2) = 24400) := ⟨_, rfl, by decide +kernel⟩

/-- The descriptor of a display update (the example after R251). -/
def displayUpdate : List Byte :=
  desc ([1, 0, 0x21, 0x0A, 0x4C, 0x1A, 3, 0, 0, 2, 0x13, 2, 0x18, 0x30, 7] ++ List.replicate 17 0
    ++ [0x40, 0, 0x3C, 0x4A, 0x10, 0, 0, 0])

theorem test_send_descriptor : itemQueue displayUpdate = 0x31A4C ∧ itemGrid displayUpdate = 0x213
    ∧ itemPaylen displayUpdate = 24 ∧ itemCvlen displayUpdate = 2 ∧ itemAckReq displayUpdate = true
    ∧ itemRate displayUpdate = 7 ∧ itemIndex displayUpdate = 2 ∧ itemType displayUpdate = 0
    ∧ itemClass displayUpdate = 0 := by decide +kernel

/-- The words of the classification program are legal (18_tun_cores.md). -/
theorem test_tun_program_words : [0x24C80034, 0x0D0000E1, 0x014D0010, 0x65400008, 0x30C8000C, 0x14CC0030, 0x61400008,
    0x60000002, 0x45C800C0, 0xC0000001].all tunWordLegal = true := by decide +kernel

/-- The input block of a node key (the example after R276): under any key, its CMAC is the node key. -/
theorem test_derive_block : (up.put (Reg.MAC.NET_CFG.NETID 0) 0x4B21).deriveNode 0 0x31A4C7 2 ⟨0, List.replicate 16 7⟩ false
    = cmac (List.replicate 16 7) [0x01, 0x57, 0x58, 0x4E, 0x31, 0x00, 0x4B, 0x21, 0x00, 0x31, 0xA4, 0xC7, 0x00, 0x02,
        0x00, 0x80] := by decide +kernel

/-- Words of the capability list that the driver of R361's example reads on a WXB4. -/
theorem test_caps_count : State.reset.caps.length = 34 := by decide +kernel

/-! ### Published vectors of the algorithms that R271 to R292 name -/

/-- AES-128 of FIPS 197, appendix B. -/
theorem test_aes128 : aesEnc [0x2b, 0x7e, 0x15, 0x16, 0x28, 0xae, 0xd2, 0xa6, 0xab, 0xf7, 0x15, 0x88, 0x09, 0xcf, 0x4f, 0x3c]
    [0x32, 0x43, 0xf6, 0xa8, 0x88, 0x5a, 0x30, 0x8d, 0x31, 0x31, 0x98, 0xa2, 0xe0, 0x37, 0x07, 0x34]
    = [0x39, 0x25, 0x84, 0x1d, 0x02, 0xdc, 0x09, 0xfb, 0xdc, 0x11, 0x85, 0x97, 0x19, 0x6a, 0x0b, 0x32] := by decide +kernel

/-- CMAC of SP 800-38B of an empty message. -/
theorem test_cmac_empty : cmac [0x2b, 0x7e, 0x15, 0x16, 0x28, 0xae, 0xd2, 0xa6, 0xab, 0xf7, 0x15, 0x88, 0x09, 0xcf, 0x4f, 0x3c] []
    = [0xbb, 0x1d, 0x69, 0x29, 0xe9, 0x59, 0x37, 0x28, 0x7f, 0xa3, 0x7d, 0x12, 0x9b, 0x75, 0x67, 0x46] := by decide +kernel

/-! ### The queue -/

theorem test_idle_step : step up = .next up := rfl
theorem test_step_runs_front : (∃ t, step { inPhase .osc with pending := [.oscRdy, .memRdy] } = .next t
    ∧ t.power.phase = .mem ∧ t.pending = [.memRdy]) := ⟨_, rfl, rfl, rfl⟩

end Sys2Proof.Tests

namespace Sys2Proof.Tests

open Sys2Proof Sys2Proof.Machine

/-! ### Witnesses: each hypothesis set of a statement is met -/

theorem witness_ClockCommands :
    (∃ (s : State) (v : BitVec 32), s.hostUp = true ∧ bitsAt v.toNat 0 2 ≠ 3 ∧ bitsAt v.toNat 2 4 ≤ 10)
    ∧ (∃ (s : State) (v : BitVec 32), s.hostUp = true ∧ (bitsAt v.toNat 0 2 = 3 ∨ 10 < bitsAt v.toNat 2 4))
    ∧ (∃ (s : State) (f : Fin 6) (n : Fin 8) (v : BitVec 32), s.hostUp = true ∧ s.dieUp f = true ∧ bitsAt v.toNat 2 2 ≠ 3 ∧ 2 ≤ bitsAt v.toNat 4 10 ∧ bitsAt v.toNat 16 16 ≠ 0 ∧ (s.on (Reg.FDIE.CLKOUT_CTL.CK_EN f n) = true → bitsAt v.toNat 4 10 = s.get (Reg.FDIE.CLKOUT_CTL.DIV f n)) ∧ (s.on (Reg.FDIE.CLKOUT_CTL.SR_EN f n) = true → bitsAt v.toNat 2 2 = s.get (Reg.FDIE.CLKOUT_CTL.SR_MODE f n)))
    ∧ (∃ (s : State) (f : Fin 6) (n : Fin 8) (v : BitVec 32), s.hostUp = true ∧ s.dieUp f = true ∧ (bitsAt v.toNat 2 2 = 3 ∨ bitsAt v.toNat 4 10 < 2 ∨ bitsAt v.toNat 16 16 = 0 ∨ (s.on (Reg.FDIE.CLKOUT_CTL.CK_EN f n) = true ∧ bitsAt v.toNat 4 10 ≠ s.get (Reg.FDIE.CLKOUT_CTL.DIV f n)) ∨ (s.on (Reg.FDIE.CLKOUT_CTL.SR_EN f n) = true ∧ bitsAt v.toNat 2 2 ≠ s.get (Reg.FDIE.CLKOUT_CTL.SR_MODE f n))))
    ∧ (∃ (s : State) (f : Fin 6) (n : Fin 8) (v : BitVec 32), s.hostUp = true ∧ s.dieUp f = true ∧ 5 ≤ bitsAt v.toNat 17 5 ∧ bitsAt v.toNat 17 5 ≤ 20 ∧ (s.on (Reg.FDIE.CLKOUT_CTL.SR_EN f n) = true → bitsAt v.toNat 17 5 = s.get (Reg.FDIE.CLKOUT_TIMING.SR_LOG2 f n)))
    ∧ (∃ (s : State) (f : Fin 6) (n : Fin 8) (v : BitVec 32), s.hostUp = true ∧ s.dieUp f = true ∧ (bitsAt v.toNat 17 5 < 5 ∨ 20 < bitsAt v.toNat 17 5 ∨ (s.on (Reg.FDIE.CLKOUT_CTL.SR_EN f n) = true ∧ bitsAt v.toNat 17 5 ≠ s.get (Reg.FDIE.CLKOUT_TIMING.SR_LOG2 f n))))
    ∧ (∃ (s : State) (f : Fin 6), s.logicUp = true ∧ s.dieUp f = true) :=
  ⟨⟨up, 1, by decide +kernel⟩,
   ⟨up, 3, by decide +kernel⟩,
   ⟨up, 5, 7, 0x00010020, by decide +kernel⟩,
   ⟨up, 0, 0, 0x0001000C, by decide +kernel⟩,
   ⟨up, 0, 0, 0x000A0000, by decide +kernel⟩,
   ⟨up, 0, 0, 0x00080000, by decide +kernel⟩,
   ⟨up, 0, by decide +kernel⟩⟩

theorem witness_TimeRegisters :
    (∃ (s : State) (v : BitVec 128), s.hostUp = true ∧ s.quality = 3 ∧ bitsAt v.toNat 127 1 = 1 ∧ bitsAt v.toNat 0 30 < 1000000000)
    ∧ (∃ (s : State) (v : BitVec 128), s.hostUp = true ∧ (s.quality ≠ 3 ∨ 1000000000 ≤ bitsAt v.toNat 0 30) ∧ bitsAt v.toNat 127 1 = 1)
    ∧ (∃ (s : State) (v : BitVec 128), s.hostUp = true ∧ bitsAt v.toNat 127 1 = 0)
    ∧ (∃ (s : State) (v : BitVec 32), s.hostUp = true ∧ s.quality = 3 ∧ (-48000000 : Int) ≤ signedOf 27 (bitsAt v.toNat 0 27) ∧ signedOf 27 (bitsAt v.toNat 0 27) ≤ 48000000)
    ∧ (∃ (s : State) (v : BitVec 32), s.hostUp = true ∧ (s.quality ≠ 3 ∨ signedOf 27 (bitsAt v.toNat 0 27) < -48000000 ∨ 48000000 < signedOf 27 (bitsAt v.toNat 0 27)))
    ∧ (∃ (s : State) (func : Fin 2), s.functionUp func = true ∧ s.time.ns < 1000000000 ∧ s.quality < 4)
    ∧ (∃ (s : State) (func : Fin 2), s.functionUp func = true) :=
  ⟨⟨up, 0x80000000000000006b49d20000000007, by decide +kernel⟩,
   ⟨up.put Reg.TIME.REF_STATUS.QUALITY 0, 0x80000000000000000000000000000005, by decide +kernel⟩,
   ⟨up, 1800000000 * 2^32 + 999999999, by decide +kernel⟩,
   ⟨up, 48000000, by decide +kernel⟩,
   ⟨up, 48000001, by decide +kernel⟩,
   ⟨up, 1, by decide +kernel⟩,
   ⟨(up.onTime fun x => { x with msc := 2^40 + 47 }), 0, by decide +kernel⟩⟩

theorem witness_TimeEvents :
    (∃ (s : State) (tod : Nat) (w : Nat), s.logicUp = true ∧ s.time.ppsTod = some (tod, w) ∧ 100000000 ≤ s.nsSince w ∧ (∀ l, s.time.lastPps = some l → within (s.unslewed - l - 1000000000) 1000 = true))
    ∧ (∃ (s : State), s.logicUp = true ∧ s.time.ppsTod = none)
    ∧ (∃ (s : State), s.logicUp = true ∧ s.settled = true ∧ s.get Reg.TIME.REF_STATUS.TARGET ≤ 4)
    ∧ (∃ (s : State) (r : Nat) (l : List Nat), s.hostUp = true ∧ s.on Reg.TIME.REF_STATUS.SWITCHING = false ∧ s.time.candidates true = r :: l ∧ r ≤ 4)
    ∧ (∃ (s : State), s.hostUp = true ∧ (s.on Reg.TIME.REF_STATUS.SWITCHING = true ∨ s.time.candidates true = []))
    ∧ (∃ (s : State) (f : Fin 6), s.logicUp = true ∧ 3 ≤ Tbl.getD s.time.calFails f 0 ∧ f.val ∉ s.time.calMarked) :=
  ⟨⟨(up.onTime fun x => { x with ppsTod := some (1767225601, 1767225600000000000), ns := 100000000 }), 1767225601, 1767225600000000000, by and_intros; rotate_right; exact (fun l (h : (none : Option Int) = some l) => by cases h); all_goals decide +kernel⟩,
   ⟨up, by decide +kernel⟩,
   ⟨(up.puts [(Reg.TIME.REF_STATUS.SWITCHING, 1), (Reg.TIME.REF_STATUS.TARGET, 4)]), by decide +kernel⟩,
   ⟨(up.onTime fun x => { x with pps := { RefState.init with good := true, goodRun := 16, qualified := true, far := true, phase := some 500000 } }), 1, [], by decide +kernel⟩,
   ⟨up, by decide +kernel⟩,
   ⟨(up.onTime fun x => { x with calFails := [(5, 3)] }), 5, by decide +kernel⟩⟩

theorem witness_TimerCommands :
    (∃ (s : State) (cycles : Nat), s.logicUp = true ∧ s.time.sec < 2 ^ 48)
    ∧ (∃ (s : State) (v : BitVec 32), s.hostUp = true)
    ∧ (∃ (s : State) (k : Fin 32), s.logicUp = true ∧ s.matchDue k = true ∧ s.cascadeEven k = false)
    ∧ (∃ (s : State) (k : Fin 32), s.logicUp = true ∧ s.matchDue k = true ∧ s.cascadeEven k = true)
    ∧ (∃ (s : State) (k : Fin 32), s.logicUp = true ∧ 0 < (s.timer k).wraps)
    ∧ (∃ (s : State) (k : Fin 32) (edge : Fin 8), s.logicUp = true ∧ s.captures k edge = true ∧ s.cascadeEven k = false ∧ s.get (Reg.TIMERS.COUNT k) < 2 ^ 32)
    ∧ (∃ (s : State) (k : Fin 32) (edge : Fin 8), s.logicUp = true ∧ s.captures k edge = true ∧ s.cascadeEven k = true ∧ s.get (Reg.TIMERS.COUNT k) < 2 ^ 32)
    ∧ (∃ (s : State) (func : Fin 2) (k : Fin 32), s.functionUp func = true)
    ∧ (∃ (s : State) (func : Fin 2) (k : Fin 32), s.functionUp func = true ∧ s.cascadeEven k = true)
    ∧ (∃ (s : State) (func : Fin 2) (k : Fin 32) (v : Nat), s.functionUp func = true ∧ s.cascadeOdd k = true ∧ (s.timer k).latch = some v) :=
  ⟨⟨(up.onTime fun x => { x with sec := 2^48 - 1, ns := 999999999 }), 40960000, by decide +kernel⟩,
   ⟨up, 0x80000001, by decide +kernel⟩,
   ⟨({ up with timers := [(31, ⟨5, 0, 0, none⟩)] }.puts [(Reg.TIMERS.COUNT 31, 7), (Reg.TIMERS.COMPARE 31, 6), (Reg.TIMERS.INTERVAL 31, 0xFFFFFFFF), (Reg.TIMERS.CH_CTL.RUN 31, 1), (Reg.TIMERS.CH_CTL.IE_MATCH 31, 1)]), 31, by decide +kernel⟩,
   ⟨({ up with timers := [(0, ⟨5, 0, 0, none⟩)] }.puts [(Reg.TIMERS.COUNT 0, 7), (Reg.TIMERS.COMPARE 0, 6), (Reg.TIMERS.INTERVAL 0, 0xFFFFFFFF), (Reg.TIMERS.CH_CTL.RUN 0, 1), (Reg.TIMERS.CH_CTL.CASCADE 0, 1)]), 0, by decide +kernel⟩,
   ⟨({ up with timers := [(0, ⟨5, 1, 0, none⟩)] }.puts [(Reg.TIMERS.COUNT 1, 0xFFFFFFFF), (Reg.TIMERS.CH_CTL.CASCADE 0, 1), (Reg.TIMERS.CH_CTL.IE_OVF 0, 1)]), 0, by decide +kernel⟩,
   ⟨(up.puts [(Reg.TIMERS.CH_CTL.CAP_EN 31, 1), (Reg.TIMERS.CH_CTL.CAP_SEL 31, 5), (Reg.TIMERS.COUNT 31, 0xFFFFFFFF), (Reg.TIMERS.CH_STATUS.CAP_VALID 31, 1), (Reg.TIMERS.CH_CTL.IE_CAP 31, 1)]), 31, 5, by decide +kernel⟩,
   ⟨(up.puts [(Reg.TIMERS.CH_CTL.CAP_EN 30, 1), (Reg.TIMERS.COUNT 30, 9), (Reg.TIMERS.COUNT 31, 3), (Reg.TIMERS.CH_CTL.CASCADE 30, 1)]), 30, 0, by decide +kernel⟩,
   ⟨(up.puts [(Reg.TIMERS.CAPTURE 31, 77), (Reg.TIMERS.CH_STATUS.CAP_VALID 31, 1)]), 0, 31, by decide +kernel⟩,
   ⟨(up.puts [(Reg.TIMERS.COUNT 0, 9), (Reg.TIMERS.COUNT 1, 3), (Reg.TIMERS.CH_CTL.CASCADE 0, 1)]), 0, 0, by decide +kernel⟩,
   ⟨({ up with timers := [(1, ⟨0, 0, 0, some 12⟩)] }.put (Reg.TIMERS.CH_CTL.CASCADE 0) 1), 1, 1, 12, by decide +kernel⟩⟩

theorem witness_RingCommands :
    (∃ (s : State) (n : Fin 4096) (v : BitVec 32), s.hostUp = true ∧ s.safe.hold = false ∧ s.on (Reg.RING.CTL.EN n) = false ∧ bitsAt v.toNat 0 1 = 1 ∧ s.ringMayEnable n v.toNat = true)
    ∧ (∃ (s : State) (n : Fin 4096) (v : BitVec 32), s.hostUp = true ∧ s.on (Reg.RING.CTL.EN n) = false ∧ bitsAt v.toNat 0 1 = 1 ∧ (6 < bitsAt v.toNat 1 3 ∨ bitsAt v.toNat 4 5 < 4 ∨ 16 < bitsAt v.toNat 4 5 ∨ 6 < bitsAt v.toNat 9 3 ∨ s.get (Reg.RING.BASE.ADDR n) % 4096 ≠ 0 ∨ s.inOneWindow (s.get (Reg.RING.BASE.ADDR n)) (2 ^ bitsAt v.toNat 4 5 * recordSize (bitsAt v.toNat 1 3)) = false ∨ (bitsAt v.toNat 1 3 = 2 ∧ (s.get (Reg.RING.BUF_BASE.ADDR n) % 4096 ≠ 0 ∨ s.inOneWindow (s.get (Reg.RING.BUF_BASE.ADDR n)) (2 ^ bitsAt v.toNat 4 5 * 2 ^ (5 + bitsAt v.toNat 9 3)) = false)) ∨ (bitsAt v.toNat 1 3 = 0 ∧ (s.on (Reg.RING.CTL.EN (bitsAt v.toNat 12 12)) = false ∨ s.get (Reg.RING.CTL.TYPE (bitsAt v.toNat 12 12)) ≠ 1)) ∨ s.inOneWindow (s.get Reg.RING.DB_BASE.ADDR * 2 ^ 15) 32768 = false))
    ∧ (∃ (s : State) (n : Fin 4096) (v : BitVec 32), s.hostUp = true ∧ s.on (Reg.RING.CTL.EN n) = true ∧ s.ringSame n v.toNat = false)
    ∧ (∃ (s : State) (n : Fin 4096) (v : BitVec 32), s.hostUp = true ∧ s.on (Reg.RING.CTL.EN n) = true ∧ s.ringSame n v.toNat = true ∧ bitsAt v.toNat 0 1 = 1 ∧ bitsAt v.toNat 24 1 = 1 ∧ (s.ring n).halted = true ∧ s.get (Reg.RING.CTL.TYPE n) = 0)
    ∧ (∃ (s : State), s.up = true ∧ s.rings.stalled = false ∧ s.on Reg.RING.POLL.EN = true ∧ s.enabledRings ≠ [] ∧ (∀ n ∈ s.enabledRings, s.firstBad false (s.get Reg.RING.DB_BASE.ADDR * 2 ^ 15 + n / 8 * 64) 64 = none))
    ∧ (∃ (s : State) (line : Nat), line < 512 ∧ s.logicUp = true ∧ line ∈ s.rings.polling)
    ∧ (∃ (s : State) (line : Nat) (ws : List (BitVec 32)) (i : Nat), line < 512 ∧ s.logicUp = true ∧ line ∈ s.rings.polling ∧ ws.length = 8 ∧ i < 8 ∧ (∀ j, j < 8 → s.on (Reg.RING.CTL.EN (8 * line + j)) = decide (j = i)))
    ∧ (∃ (s : State) (line : Nat) (ws : List (BitVec 32)) (func : Fin 2) (i : Fin 8) (v : BitVec 32), line < 512 ∧ s.functionUp func = true ∧ line ∈ s.rings.polling ∧ ws.length = 8 ∧ (∀ j, j < 8 → s.on (Reg.RING.CTL.EN (8 * line + j)) = decide (j = i.val)))
    ∧ (∃ (s : State) (func : Fin 2) (n : Fin 4096) (v : BitVec 32), s.functionUp func = true ∧ s.on (Reg.RING.CTL.EN n) = true ∧ s.ringSize n < ((s.ring n).host + 2 ^ 32 - v.toNat) % 2 ^ 32 ∧ (s.get (Reg.RING.CTL.TYPE n) = 0 → (v.toNat + 2 ^ 32 - (s.ring n).part) % 2 ^ 32 ≤ s.ringSize n) ∧ (s.get (Reg.RING.CTL.TYPE n) ≠ 0 → ((s.ring n).part + 2 ^ 32 - v.toNat) % 2 ^ 32 ≤ s.ringSize n))
    ∧ (∃ (s : State) (func : Fin 2) (n : Fin 4096) (v : BitVec 32), s.functionUp func = true ∧ s.on (Reg.RING.CTL.EN n) = true ∧ ((s.ring n).host + 2 ^ 32 - v.toNat) % 2 ^ 32 ≤ s.ringSize n)
    ∧ (∃ (s : State) (func : Fin 2) (n : Fin 4096) (v : BitVec 32), s.functionUp func = true ∧ s.on (Reg.RING.CTL.EN n) = true ∧ (s.ring n).halted = false ∧ s.rings.faultValid = false ∧ s.ringSize n < ((s.ring n).host + 2 ^ 32 - v.toNat) % 2 ^ 32 ∧ (s.get (Reg.RING.CTL.TYPE n) = 0 → s.ringSize n < (v.toNat + 2 ^ 32 - (s.ring n).part) % 2 ^ 32) ∧ (s.get (Reg.RING.CTL.TYPE n) ≠ 0 → s.ringSize n < ((s.ring n).part + 2 ^ 32 - v.toNat) % 2 ^ 32))
    ∧ (∃ (s : State) (func : Fin 2) (n : Fin 4096) (v : BitVec 32), s.functionUp func = true ∧ s.on (Reg.RING.CTL.EN n) = false) :=
  ⟨⟨(windowed up).puts [(Reg.RING.DB_BASE.ADDR, 1), (Reg.RING.BASE.ADDR 4095, 0x10000)], 4095, 0x10D, by decide +kernel⟩,
   ⟨windowed up, 0, 0x4F, by decide +kernel⟩,
   ⟨ringed (windowed up) 3 1 .init, 3, 1, by decide +kernel⟩,
   ⟨(ringed (windowed up) 3 0 { RingRun.init with halted := true, host := 5 }), 3, 0x1000041, by decide +kernel⟩,
   ⟨(ringed (ringed (windowed up) 4095 1 .init) 0 3 .init).put Reg.RING.POLL.EN 1, by decide +kernel⟩,
   ⟨(up.onRings fun x => { x with polling := [511, 2] }), 511, by decide +kernel⟩,
   ⟨((ringed up 4095 1 .init).onRings fun x => { x with polling := [511] }), 511, [0, 0, 0, 0, 0, 0, 0, 9], 7, by decide +kernel⟩,
   ⟨((ringed up 4095 0 .init).onRings fun x => { x with polling := [511] }), 511, [0, 0, 0, 0, 0, 0, 0, 9], 0, 7, 12, by decide +kernel⟩,
   ⟨ringed up 7 0 .init, 0, 7, 16, by decide +kernel⟩,
   ⟨ringed up 7 0 { RingRun.init with host := 20 }, 0, 7, 4, by decide +kernel⟩,
   ⟨ringed up 7 1 .init, 0, 7, 5, by decide +kernel⟩,
   ⟨up, 0, 7, 5, by decide +kernel⟩⟩

theorem witness_CommandVisits :
    (∃ (s : State) (n : Nat), s.up = true ∧ s.rings.stalled = false ∧ s.nextVisit = some n ∧ s.get (Reg.RING.CTL.PEER n) ≠ n ∧ (∀ i, i < 8 → s.firstBad false (s.descAddr n ((s.ring n).started.length - (s.ring n).stale + i)) 64 = none))
    ∧ (∃ (s : State) (n : Nat), s.up = true ∧ s.rings.stalled = false ∧ s.nextVisit = some n ∧ s.get (Reg.RING.CTL.PEER n) ≠ n ∧ s.cplFree (s.get (Reg.RING.CTL.PEER n)) ≠ 0 ∧ (s.ring n).started = [] ∧ s.firstBad false (s.descAddr n 0) 64 = none)
    ∧ (∃ (s : State) (n : Fin 4096) (desc : List Byte), s.cmdDue n = true ∧ Instr.wf (.cmdNop n desc) = true)
    ∧ (∃ (s : State) (n : Fin 4096) (desc : List Byte), s.cmdDue n = true ∧ Instr.wf (.badOpcode n desc) = true)
    ∧ (∃ (s : State) (c : CmdRef) (st : Status) (a : Nat) (r : Nat) (q : Nat), s.ringTakes c.cpl 1 = true ∧ s.ringFill c.cpl < s.ringSize c.cpl ∧ s.safe.hold = false ∧ s.firstBad true (s.get (Reg.RING.BASE.ADDR c.cpl) + (s.ring c.cpl).part % s.ringSize c.cpl * 16) 16 = none ∧ s.firstBad true (s.doorbell c.cpl + 4) 4 = none)
    ∧ (∃ (s : State) (c : CmdRef) (st : Status) (a : Nat) (r : Nat) (q : Nat) (b : Nat), s.ringTakes c.cpl 1 = true ∧ s.ringFill c.cpl < s.ringSize c.cpl ∧ s.rings.faultValid = false ∧ s.firstBad true (s.get (Reg.RING.BASE.ADDR c.cpl) + (s.ring c.cpl).part % s.ringSize c.cpl * 16) 16 = some b)
    ∧ (∃ (s : State) (c : CmdRef) (st : Status) (a : Nat) (r : Nat) (q : Nat), (s.ring c.cpl).halted = true ∧ s.on (Reg.RING.CTL.EN c.cpl) = true ∧ s.get (Reg.RING.CTL.TYPE c.cpl) = 1)
    ∧ (∃ (s : State) (n : Nat), s.safe.hold = false ∧ (s.ring n).stale = 0 ∧ s.firstBad true (s.doorbell n + 4) 4 = none)
    ∧ (∃ (s : State) (n : Nat), (s.ring n).stale ≠ 0) :=
  ⟨⟨((ringed (ringed (windowed up) 1 1 .init) 2 0 { RingRun.init with host := 9 }).put (Reg.RING.CTL.PEER 2) 1), 2, by decide +kernel⟩,
   ⟨((ringed (ringed (windowed up) 1 1 .init) 2 0 { RingRun.init with host := 9 }).put (Reg.RING.CTL.PEER 2) 1), 2, by decide +kernel⟩,
   ⟨((ringed (ringed (windowed up) 1 1 { RingRun.init with claimed := 1 }) 2 0 { RingRun.init with host := 9, started := [1] }).put (Reg.RING.CTL.PEER 2) 1), 2, List.replicate 64 0, by decide +kernel⟩,
   ⟨((ringed (ringed (windowed up) 1 1 { RingRun.init with claimed := 1 }) 2 0 { RingRun.init with host := 9, started := [1] }).put (Reg.RING.CTL.PEER 2) 1), 2, 4 :: List.replicate 63 0, by decide +kernel⟩,
   ⟨ringed (windowed up) 1 1 { RingRun.init with claimed := 1, part := 2 ^ 32 - 1, host := 2 ^ 32 - 3 }, ⟨2, 1, 0, 7⟩, .done, 1, 2, 3, by decide +kernel⟩,
   ⟨ringed up 1 1 { RingRun.init with claimed := 1, part := 2 ^ 32 - 1, host := 2 ^ 32 - 3 }, ⟨2, 1, 0, 7⟩, .done, 1, 2, 3, 240, by decide +kernel⟩,
   ⟨ringed up 1 1 { RingRun.init with claimed := 1, halted := true }, ⟨2, 1, 0, 7⟩, .done, 1, 2, 3, by decide +kernel⟩,
   ⟨ringed (windowed up) 2 0 { RingRun.init with host := 0, part := 2 ^ 32 - 1, started := [1] }, 2, by decide +kernel⟩,
   ⟨ringed (windowed up) 2 0 { RingRun.init with host := 0, part := 2 ^ 32 - 1, started := [1, 1], stale := 1 }, 2, by decide +kernel⟩⟩

theorem witness_Events :
    (∃ (s : State) (src : Nat) (detail : Nat), src < 512 ∧ s.on (Reg.EVT.MAP.EN src) = false)
    ∧ (∃ (s : State) (src : Nat) (detail : Nat), s.on (Reg.EVT.MAP.EN src) = false ∧ s.on Reg.ETH.ALARM.EN = false)
    ∧ (∃ (s : State) (v : Fin 256), s.logicUp = true ∧ s.safe.hold = false ∧ v.val ∈ s.evt.holding ∧ v.val ∈ s.evt.waiting ∧ s.msixWord s.active (4 * v.val + 3) % 2 = 0 ∧ s.get (Reg.EVT.VEC.HOLDOFF_US v) ≠ 0)
    ∧ (∃ (s : State) (v : Fin 256), s.logicUp = true ∧ v.val ∈ s.evt.holding ∧ v.val ∈ s.evt.waiting ∧ s.msixWord s.active (4 * v.val + 3) % 2 = 1)
    ∧ (∃ (s : State) (v : Fin 256), s.logicUp = true ∧ v.val ∈ s.evt.holding ∧ v.val ∉ s.evt.waiting)
    ∧ (∃ (s : State) (j : Fin 16) (v : BitVec 32), s.hostUp = true ∧ s.eventWord j = true)
    ∧ (∃ (s : State) (j : Fin 16) (v : BitVec 32) (firing : BitVec 32) (b : Nat), s.hostUp = true ∧ s.eventWord j = true ∧ b < 32 ∧ firing.getLsbD b = true) :=
  ⟨⟨(up.onEvt fun x => { x with pend := BitVec.ofNat 512 (2 ^ 511) }), 511, 0, by decide +kernel⟩,
   ⟨(up.onEvt fun x => { x with pend := BitVec.ofNat 512 (2 ^ 511) }), 511, 0, by decide +kernel⟩,
   ⟨(up.onEvt fun x => { x with holding := [255], waiting := [255], msixTable := [(1020, 4), (1021, 5), (1022, 6), (1023, 0)] }).put (Reg.EVT.VEC.HOLDOFF_US 255) 5, 255, by decide +kernel⟩,
   ⟨up.onEvt fun x => { x with holding := [255], waiting := [255] }, 255, by decide +kernel⟩,
   ⟨(up.onEvt fun x => { x with holding := [255] }), 255, by decide +kernel⟩,
   ⟨(up.onEvt fun x => { x with pend := BitVec.ofNat 512 (2 ^ 32 + 2 ^ 31 + 3) }), 0, 0x80000001, by decide +kernel⟩,
   ⟨up, 9, 0x80000001, 0x80000000, 31, by decide +kernel⟩⟩

theorem witness_EthernetCommands :
    (∃ (s : State) (t' : Fin 32) (v : BitVec 32), s.hostUp = true ∧ (bitsAt v.toNat 0 7 = 62 ∨ bitsAt v.toNat 0 7 = 66) ∧ bitsAt v.toNat 7 1 = 1 ∧ s.tplInUse t' = false ∧ tplImageOk (bitsAt v.toNat 0 7) (leBytes 64 (s.get (Reg.ETH.FP_TPL.IMAGE t'))) = true)
    ∧ (∃ (s : State) (t' : Fin 32) (v : BitVec 32), s.hostUp = true ∧ bitsAt v.toNat 7 1 = 1 ∧ ((bitsAt v.toNat 0 7 ≠ 62 ∧ bitsAt v.toNat 0 7 ≠ 66) ∨ s.tplInUse t' = true ∨ tplImageOk (bitsAt v.toNat 0 7) (leBytes 64 (s.get (Reg.ETH.FP_TPL.IMAGE t'))) = false))
    ∧ (∃ (s : State) (h : Fin 2) (p : Fin 2) (tx : Nat) (rx : Nat), s.logicUp = true ∧ s.headUp h = true ∧ s.on (Reg.ETH.PORT_STATUS.LINK h p) = false ∧ s.on (Reg.ETH.PORT_CFG.EN h p) = true ∧ phyOk (s.get (Reg.ETH.PORT_CFG.MODE h p)) tx rx = true)
    ∧ (∃ (s : State) (h : Fin 2) (p : Fin 2) (tx : Nat) (rx : Nat), s.logicUp = true ∧ s.headUp h = true ∧ s.on (Reg.ETH.PORT_STATUS.LINK h p) = true)
    ∧ (∃ (s : State), s.live = true ∧ s.on Reg.ETH.PRP_CFG.SUPERVISION = true ∧ s.on Reg.ETH.PRP_CFG.EN = false ∧ s.portUp 0 0 = true ∧ s.portUp 1 0 = true ∧ s.eth.tx = [] ∧ s.eth.lifeAt = none)
    ∧ (∃ (s : State) (t0 : Nat), s.eth.lifeAt = some t0 ∧ s.nsSince t0 < s.get Reg.ETH.PRP_CFG.LIFE_MS * 1000000)
    ∧ (∃ (s : State) (lan : Fin 2), s.logicUp = true ∧ s.masterSilent lan = true)
    ∧ (∃ (s : State) (h : Fin 2) (p : Fin 2) (bytes : List Byte) (ps : Nat), s.logicUp = true ∧ s.portUp h p = true ∧ 60 ≤ bytes.length ∧ s.get (Reg.ETH.PORT_CFG.MAX_FRAME h p) < bytes.length + 4)
    ∧ (∃ (s : State) (h : Fin 2) (bytes : List Byte) (ps : Nat) (o : Nat), s.logicUp = true ∧ s.portUp h 1 = true ∧ 60 ≤ bytes.length ∧ bytes.length + 4 ≤ s.get (Reg.ETH.PORT_CFG.MAX_FRAME h 1) ∧ s.ptpOffset bytes = some o ∧ s.on Reg.ETH.PTP_CFG.EN = true)
    ∧ (∃ (s : State) (h : Fin 2) (bytes : List Byte) (ps : Nat), s.logicUp = true ∧ s.portUp h 1 = true ∧ 60 ≤ bytes.length ∧ bytes.length + 4 ≤ s.get (Reg.ETH.PORT_CFG.MAX_FRAME h 1) ∧ s.ptpOffset bytes = none ∧ s.isSolicitation h 1 bytes = true ∧ s.active = h ∧ s.eth.tx = [] ∧ s.safe.hold = false)
    ∧ (∃ (s : State) (h : Fin 2) (bytes : List Byte) (ps : Nat), s.logicUp = true ∧ s.portUp h 1 = true ∧ 60 ≤ bytes.length ∧ bytes.length + 4 ≤ s.get (Reg.ETH.PORT_CFG.MAX_FRAME h 1) ∧ s.ptpOffset bytes = none ∧ s.isSolicitation h 1 bytes = true ∧ s.active ≠ h)
    ∧ (∃ (s : State) (h : Fin 2) (p : Fin 2) (bytes : List Byte) (ps : Nat) (q : Nat), s.logicUp = true ∧ s.portUp h p = true ∧ 60 ≤ bytes.length ∧ bytes.length + 4 ≤ s.get (Reg.ETH.PORT_CFG.MAX_FRAME h p) ∧ pauseQuanta bytes = some q ∧ 0 < q ∧ s.on (Reg.ETH.PORT_CFG.PAUSE_RX h p) = true)
    ∧ (∃ (s : State) (h : Fin 2) (p : Fin 2) (bytes : List Byte) (ps : Nat) (q : Nat), s.logicUp = true ∧ s.portUp h p = true ∧ 60 ≤ bytes.length ∧ bytes.length + 4 ≤ s.get (Reg.ETH.PORT_CFG.MAX_FRAME h p) ∧ pauseQuanta bytes = some q ∧ s.on (Reg.ETH.PORT_CFG.PAUSE_RX h p) = false)
    ∧ (∃ (s : State) (h : Fin 2) (p : Fin 2) (ps : Nat) (e : EgressFrame) (rest : List EgressFrame), s.logicUp = true ∧ s.portUp h p = true ∧ Tbl.getD s.eth.egress (2 * h.val + p.val) [] = e :: rest ∧ e.own = none ∧ s.paused h p = false)
    ∧ (∃ (s : State) (h : Fin 2) (p : Fin 2) (ps : Nat) (q : Nat) (e : EgressFrame) (rest : List EgressFrame), s.logicUp = true ∧ s.portUp h p = true ∧ Tbl.getD s.eth.egress (2 * h.val + p.val) [] = e :: rest ∧ e.own = some (h.val, some q) ∧ s.paused h p = false ∧ s.on Reg.ETH.PRP_CFG.EN = true)
    ∧ (∃ (s : State) (h : Fin 2) (p : Fin 2) (ps : Nat) (l : Nat) (seq : Option Nat) (e : EgressFrame) (rest : List EgressFrame), s.logicUp = true ∧ s.portUp h p = true ∧ Tbl.getD s.eth.egress (2 * h.val + p.val) [] = e :: rest ∧ e.own = some (l, seq) ∧ l ≠ h ∧ s.paused h p = false) :=
  ⟨⟨up.put (Reg.ETH.FP_TPL.IMAGE 31) (0xDD86 * 2 ^ 96 + 0x60 * 2 ^ 112 + 17 * 2 ^ 160), 31, 0xBE, by decide +kernel⟩,
   ⟨up, 0, 0xBE, by decide +kernel⟩,
   ⟨up.put (Reg.ETH.PORT_CFG.EN 1 1) 1, 1, 1, 86401, 168199, by decide +kernel⟩,
   ⟨up.puts [(Reg.ETH.PORT_STATUS.LINK 1 0, 1), (Reg.ETH.TX_PHY.VALID 1 0, 1)], 1, 0, 7, 8, by decide +kernel⟩,
   ⟨up.puts [(Reg.ETH.PRP_CFG.EN, 0), (Reg.ETH.PRP_CFG.SUPERVISION, 1), (Reg.ETH.PORT_CFG.EN 0 0, 1), (Reg.ETH.PORT_CFG.EN 1 0, 1), (Reg.ETH.PORT_STATUS.LINK 0 0, 1), (Reg.ETH.PORT_STATUS.LINK 1 0, 1)], by decide +kernel⟩,
   ⟨(up.onEth fun x => { x with lifeAt := some up.counterNs }).puts [(Reg.ETH.PRP_CFG.SUPERVISION, 1), (Reg.ETH.PRP_CFG.LIFE_MS, 1000)], up.counterNs, by decide +kernel⟩,
   ⟨(up.onEth fun x => { x with lanA := { PtpLan.init with master := some ⟨[], 1, [], 0xFC, 1⟩ }, lanB := { PtpLan.init with master := some ⟨[], 2, [], 1, 2⟩ } }), 0, by decide +kernel⟩,
   ⟨up.puts [(Reg.ETH.PORT_CFG.EN 0 0, 1), (Reg.ETH.PORT_STATUS.LINK 0 0, 1), (Reg.ETH.PORT_CFG.MAX_FRAME 0 0, 1518)], 0, 0, List.replicate 1515 0, 0, by decide +kernel⟩,
   ⟨up.puts [(Reg.ETH.PORT_CFG.EN 1 1, 1), (Reg.ETH.PORT_STATUS.LINK 1 1, 1), (Reg.ETH.PORT_CFG.MAX_FRAME 1 1, 1518), (Reg.ETH.PTP_CFG.EN, 1)], 1, List.replicate 12 0 ++ [0x88, 0xF7] ++ List.replicate 46 0, 5, 14, by decide +kernel⟩,
   ⟨up.puts [(Reg.SAFE.HEAD.ACTIVE, 1), (Reg.ETH.PORT_CFG.EN 1 1, 1), (Reg.ETH.PORT_STATUS.LINK 1 1, 1), (Reg.ETH.PORT_CFG.MAX_FRAME 1 1, 1518), (Reg.ETH.IP6.ADDR 1 1, 1)], 1, List.replicate 12 0 ++ [0x86, 0xDD] ++ List.replicate 6 0 ++ [58] ++ List.replicate 33 0 ++ [135] ++ List.replicate 22 0 ++ [1], 0, by decide +kernel⟩,
   ⟨up.puts [(Reg.ETH.PORT_CFG.EN 1 1, 1), (Reg.ETH.PORT_STATUS.LINK 1 1, 1), (Reg.ETH.PORT_CFG.MAX_FRAME 1 1, 1518), (Reg.ETH.IP6.ADDR 1 1, 1)], 1, List.replicate 12 0 ++ [0x86, 0xDD] ++ List.replicate 6 0 ++ [58] ++ List.replicate 33 0 ++ [135] ++ List.replicate 22 0 ++ [1], 0, by decide +kernel⟩,
   ⟨up.puts [(Reg.ETH.PORT_CFG.EN 1 1, 1), (Reg.ETH.PORT_STATUS.LINK 1 1, 1), (Reg.ETH.PORT_CFG.MAX_FRAME 1 1, 1518), (Reg.ETH.PORT_CFG.PAUSE_RX 1 1, 1)], 1, 1, pauseFrame, 0, 1, by decide +kernel⟩,
   ⟨up.puts [(Reg.ETH.PORT_CFG.EN 1 1, 1), (Reg.ETH.PORT_STATUS.LINK 1 1, 1), (Reg.ETH.PORT_CFG.MAX_FRAME 1 1, 1518), (Reg.ETH.PORT_CFG.PAUSE_RX 1 1, 0)], 1, 1, pauseFrame, 0, 1, by decide +kernel⟩,
   ⟨(up.onEth fun x => { x with egress := [(3, [⟨List.replicate 60 0, none, none, 0⟩])] }).puts [(Reg.ETH.PORT_CFG.EN 1 1, 1), (Reg.ETH.PORT_STATUS.LINK 1 1, 1)], 1, 1, 77, ⟨List.replicate 60 0, none, none, 0⟩, [], by decide +kernel⟩,
   ⟨(up.onEth fun x => { x with egress := [(0, [⟨List.replicate 60 0, some (0, some 7), none, 0⟩])] }).puts [(Reg.ETH.PRP_CFG.EN, 1), (Reg.ETH.PORT_CFG.EN 0 0, 1), (Reg.ETH.PORT_STATUS.LINK 0 0, 1)], 0, 0, 77, 7, ⟨List.replicate 60 0, some (0, some 7), none, 0⟩, [], by decide +kernel⟩,
   ⟨(up.onEth fun x => { x with egress := [(0, [⟨List.replicate 60 0, some (1, some 7), none, 0⟩])] }).puts [(Reg.ETH.PORT_CFG.EN 0 0, 1), (Reg.ETH.PORT_STATUS.LINK 0 0, 1)], 0, 0, 77, 1, some 7, ⟨List.replicate 60 0, some (1, some 7), none, 0⟩, [], by decide +kernel⟩⟩

theorem witness_LinkCommands :
    (∃ (s : State) (f : Fin 6) (k : Fin 48) (v : BitVec 32), s.hostUp = true ∧ s.dieUp f = true ∧ k.val < 40 ∧ linkCfgRange v.toNat = true ∧ bitsAt v.toNat 0 1 = 1 ∧ s.on (Reg.LINK.CFG.EN f k) = false ∧ s.linkCfgOk f k v.toNat = true)
    ∧ (∃ (s : State) (f : Fin 6) (k : Fin 48) (v : BitVec 32), s.hostUp = true ∧ s.dieUp f = true ∧ 40 ≤ k.val ∧ linkCfgRange v.toNat = true ∧ bitsAt v.toNat 0 1 = 1 ∧ s.on (Reg.LINK.CFG.EN f k) = false ∧ s.linkCfgOk f k v.toNat = true)
    ∧ (∃ (s : State) (f : Fin 6) (k : Fin 48) (v : BitVec 32), s.hostUp = true ∧ s.dieUp f = true ∧ (linkCfgRange v.toNat = false ∨ (bitsAt v.toNat 0 1 = 1 ∧ s.on (Reg.LINK.CFG.EN f k) = false ∧ s.linkCfgOk f k v.toNat = false) ∨ (bitsAt v.toNat 0 1 = 1 ∧ s.on (Reg.LINK.CFG.EN f k) = true ∧ bitsAt v.toNat 0 29 - 1 ≠ s.linkFields f k)))
    ∧ (∃ (s : State) (f : Fin 6) (k : Fin 48) (v : BitVec 32), s.hostUp = true ∧ s.dieUp f = true ∧ k.val < 40 ∧ linkCfgRange (v.toNat / 2 * 2) = true ∧ s.on (Reg.LINK.CFG.EN f k) = true)
    ∧ (∃ (s : State) (f : Fin 6) (k : Fin 48), s.dieUp f = true ∧ k.val < 40 ∧ s.get (Reg.LINK.STATUS.STATE f k) = 1)
    ∧ (∃ (s : State) (f : Fin 6) (k : Fin 48), s.dieUp f = true ∧ k.val < 40 ∧ s.get (Reg.LINK.STATUS.STATE f k) = 2)
    ∧ (∃ (s : State) (f : Fin 6) (k : Fin 48), s.dieUp f = true ∧ k.val < 40 ∧ s.get (Reg.LINK.STATUS.STATE f k) = 3 ∧ s.sysrefRuns f k = true)
    ∧ (∃ (s : State) (f : Fin 6) (g : Fin 6) (k : Fin 40) (j : Fin 40), s.latencyKey f k = s.latencyKey g j)
    ∧ (∃ (s : State) (f : Fin 6) (k : Fin 48), s.dieUp f = true ∧ k.val < 40 ∧ 2 ≤ s.get (Reg.LINK.STATUS.STATE f k))
    ∧ (∃ (s : State) (f : Fin 6) (k : Fin 48), s.dieUp f = true ∧ k.val < 40 ∧ s.get (Reg.LINK.STATUS.STATE f k) = 4 ∧ (48 * f.val + k.val) ∉ s.air.searching)
    ∧ (∃ (s : State) (f : Fin 6) (k : Fin 48) (lane : Fin 8), s.dieUp f = true ∧ k.val < 40 ∧ s.get (Reg.LINK.STATUS.STATE f k) = 4 ∧ lane.val < 2 ^ s.get (Reg.LINK.CFG.L_LOG2 f k))
    ∧ (∃ (s : State) (f : Fin 6) (k : Fin 48), s.dieUp f = true ∧ s.get (Reg.LINK.STATUS.STATE f k) = 4 ∧ s.sysrefRuns f k = true)
    ∧ (∃ (s : State) (f : Fin 6) (k : Fin 48), s.dieUp f = true ∧ 40 ≤ k.val ∧ s.get (Reg.LINK.STATUS.STATE f k) = 3 ∧ s.sysrefRuns f k = true ∧ s.linkStreams f k ≤ 12) :=
  ⟨⟨up.put (Reg.LINK.STATUS.CRC_ERR 0 39) 7, 0, 39, 0x24D39, by decide +kernel⟩,
   ⟨up, 5, 47, 0x24C39, by decide +kernel⟩,
   ⟨up, 0, 0, 0x24E01, by decide +kernel⟩,
   ⟨((up.onAir fun x => { x with searching := [39, 3], trackers := [(3, trackOn 511 Frac.zero false), (4, trackOn 2 Frac.zero false)] }).puts [(Reg.LINK.CFG.EN 0 39, 1), (Reg.LINK.STATUS.STATE 0 39, 4), (Reg.LINK.STREAM.EN 0 511, 1), (Reg.LINK.STREAM.SRC 0 511, 39)]), 0, 39, 0x24C01, by decide +kernel⟩,
   ⟨up.put (Reg.LINK.STATUS.STATE 5 39) 1, 5, 39, by decide +kernel⟩,
   ⟨up.put (Reg.LINK.STATUS.STATE 5 39) 2, 5, 39, by decide +kernel⟩,
   ⟨(up.onClk fun x => { x with srRun := [47] }).puts [(Reg.LINK.STATUS.STATE 5 0, 3), (Reg.LINK.CFG.SYSREF_SEL 5 0, 7)], 5, 0, by decide +kernel⟩,
   ⟨up, 0, 5, 0, 39, by decide +kernel⟩,
   ⟨(up.onAir fun x => { x with reached := [9] }).puts [(Reg.LINK.STATUS.STATE 0 9, 2), (Reg.LINK.STATUS.RESTARTS 0 9, 255)], 0, 9, by decide +kernel⟩,
   ⟨up.put (Reg.LINK.STATUS.STATE 5 39) 4, 5, 39, by decide +kernel⟩,
   ⟨(up.onAir fun x => { x with crcSince := [(0, 1024)] }).puts [(Reg.LINK.STATUS.STATE 0 0, 4), (Reg.LINK.STATUS.CRC_ERR 0 0, 65535), (Reg.LINK.CFG.L_LOG2 0 0, 3)], 0, 0, 7, by decide +kernel⟩,
   ⟨(up.onClk fun x => { x with srRun := [0] }).puts [(Reg.LINK.STATUS.STATE 0 47, 4), (Reg.LINK.CFG.SYSREF_SEL 0 47, 0)], 0, 47, by decide +kernel⟩,
   ⟨(up.onClk fun x => { x with srRun := [40] }).puts [(Reg.LINK.STATUS.STATE 5 40, 3), (Reg.LINK.CFG.SYSREF_SEL 5 40, 0), (Reg.LINK.CFG.M 5 40, 24)], 5, 40, by decide +kernel⟩⟩

theorem witness_StreamCommands :
    (∃ (s : State) (f : Fin 6) (i : Fin 512) (v : BitVec 32), s.hostUp = true ∧ s.dieUp f = true ∧ streamRange v.toNat = true ∧ bitsAt v.toNat 0 1 = 1 ∧ s.streamOk f i v.toNat = true ∧ s.on (Reg.LINK.STREAM.EN f i) = false ∧ (bitsAt v.toNat 14 4 < 8 → (8 * f.val + bitsAt v.toNat 14 4) ∉ s.air.blank))
    ∧ (∃ (s : State) (f : Fin 6) (i : Fin 512) (v : BitVec 32), s.hostUp = true ∧ s.dieUp f = true ∧ (streamRange v.toNat = false ∨ (bitsAt v.toNat 0 1 = 1 ∧ s.streamOk f i v.toNat = false)))
    ∧ (∃ (s : State) (f : Fin 6) (i : Fin 512) (v : BitVec 32), s.hostUp = true ∧ s.dieUp f = true ∧ streamRange (v.toNat / 2 * 2) = true ∧ s.on (Reg.LINK.STREAM.EN f i) = true) :=
  ⟨⟨up.puts [(Reg.LINK.CFG.EN 0 39, 1), (Reg.LINK.CFG.M 0 39, 24)], 0, 511, 0x20B9D, by decide +kernel⟩,
   ⟨up, 0, 0, 0x3001, by decide +kernel⟩,
   ⟨((up.onAir fun x => { x with trackers := [(3, trackOn 511 Frac.zero false), (4, trackOn 2 Frac.zero false)] }).puts [(Reg.LINK.STREAM.EN 0 511, 1), (Reg.LINK.STREAM.SRC 0 511, 39)]), 0, 511, 0x20000, by decide +kernel⟩⟩

theorem witness_ReceiveChains :
    (∃ (s : State) (f : Fin 6) (c : Fin 4) (v : BitVec 32), s.hostUp = true ∧ s.dieUp f = true ∧ bitsAt v.toNat 2 15 = s.get (Reg.FRF.RXCH.FC f c) ∧ fcLegal (bitsAt v.toNat 2 15) = true ∧ bitsAt v.toNat 0 1 = 1 ∧ bitsAt v.toNat 1 1 = 0 ∧ s.on (Reg.FRF.RXCH.EN f c) = false)
    ∧ (∃ (s : State) (f : Fin 6) (c : Fin 4) (v : BitVec 32), s.hostUp = true ∧ s.dieUp f = true ∧ (bitsAt v.toNat 2 15 < 4064 ∨ (9936 < bitsAt v.toNat 2 15 ∧ bitsAt v.toNat 2 15 < 24064) ∨ 24936 < bitsAt v.toNat 2 15))
    ∧ (∃ (s : State) (f : Fin 6) (c : Fin 4) (v : BitVec 32), s.hostUp = true ∧ s.dieUp f = true ∧ bitsAt (v.toNat ||| 2) 2 15 = s.get (Reg.FRF.RXCH.FC f c) ∧ fcLegal (bitsAt (v.toNat ||| 2) 2 15) = true ∧ bitsAt (v.toNat ||| 2) 0 1 = 1 ∧ s.on (Reg.FRF.RXCH.EN f c) = true)
    ∧ (∃ (s : State) (f : Fin 6) (c : Fin 4) (cal : Fin 3), s.dieUp f = true ∧ s.on (Reg.FRF.RXCH.EN f c) = true)
    ∧ (∃ (s : State) (f : Fin 6) (c : Fin 4) (cal : Fin 3), s.dieUp f = true ∧ cal.val ∈ (s.chain f c).due ∧ cal.val ∉ (s.chain f c).forced)
    ∧ (∃ (s : State) (f : Fin 6) (c : Fin 4) (cal : Fin 3) (db : BitVec 8), s.dieUp f = true ∧ cal.val ∈ (s.chain f c).running ∧ (∀ k, k < 3 → k ≠ cal.val → k ∈ (s.chain f c).done))
    ∧ (∃ (s : State) (f : Fin 6) (c : Fin 4) (cal : Fin 3) (db : BitVec 8), s.dieUp f = true ∧ cal.val ∈ (s.chain f c).running)
    ∧ (∃ (s : State) (f : Fin 6) (v : BitVec 64), s.hostUp = true ∧ s.dieUp f = true ∧ (bitsAt v.toNat 5 5 + 1) % 8 = 0 ∧ bitsAt v.toNat 63 1 = 1 ∧ s.on (Reg.SEQ.HCB_HOST.GO f) = false ∧ (s.hcb f (bitsAt v.toNat 0 2)).cur = none ∧ (s.hcb f (bitsAt v.toNat 0 2)).seqWait = [] ∧ s.on (Reg.SEQ.HCB_CFG.EN f (bitsAt v.toNat 0 2)) = true)
    ∧ (∃ (s : State) (f : Fin 6) (v : BitVec 64), s.hostUp = true ∧ s.dieUp f = true ∧ (bitsAt v.toNat 5 5 + 1) % 8 ≠ 0)
    ∧ (∃ (s : State) (f : Fin 6) (v : BitVec 64), s.hostUp = true ∧ s.dieUp f = true ∧ (bitsAt v.toNat 5 5 + 1) % 8 = 0 ∧ bitsAt v.toNat 63 1 = 1 ∧ s.on (Reg.SEQ.HCB_HOST.GO f) = true)
    ∧ (∃ (s : State) (f : Fin 6) (m : Fin 4) (miso : BitVec 32) (tx : HcbTx), s.dieUp f = true ∧ (s.hcb f m).cur = some tx ∧ tx.why = .host true ∧ tx.len ≤ 32 ∧ (s.hcb f m).seqWait = [] ∧ (s.hcb f m).hostWait = none)
    ∧ (∃ (s : State) (f : Fin 6) (m : Fin 4) (miso : BitVec 32) (tx : HcbTx) (u : HcbTx) (w : HcbTx) (rest : List HcbTx), s.dieUp f = true ∧ (s.hcb f m).cur = some tx ∧ tx.why = .program ∧ (s.seq f).st = .hcb ∧ s.on (Reg.SEQ.HCB_CFG.EN f m) = true ∧ (s.hcb f m).lastSeq = true ∧ (s.hcb f m).seqWait = w :: rest ∧ (s.hcb f m).hostWait = some u) :=
  ⟨⟨up.put (Reg.FRF.RXCH.FC 5 3) 24064, 5, 3, 0x17801, by decide +kernel⟩,
   ⟨up, 0, 0, 0x9B44, by decide +kernel⟩,
   ⟨up.puts [(Reg.FRF.RXCH.FC 0 0, 9936), (Reg.FRF.RXCH.EN 0 0, 1)], 0, 0, 0x9B41, by decide +kernel⟩,
   ⟨up.puts [(Reg.FRF.RXCH.EN 5 3, 1)], 5, 3, 2, by decide +kernel⟩,
   ⟨(up.onAir fun x => { x with chains := [(23, ⟨[2, 0], [], [], []⟩)] }), 5, 3, 2, by decide +kernel⟩,
   ⟨(up.onAir fun x => { x with chains := [(0, ⟨[], [], [0], [1, 2]⟩)] }), 0, 0, 0, 40, by decide +kernel⟩,
   ⟨(up.onAir fun x => { x with chains := [(0, ⟨[], [], [0, 2], [1]⟩)] }), 0, 0, 2, 40, by decide +kernel⟩,
   ⟨up.put (Reg.SEQ.HCB_CFG.EN 5 3) 1, 5, 0xC0000003FFFFFCFF, by decide +kernel⟩,
   ⟨up, 0, 0x8000000000000000, by decide +kernel⟩,
   ⟨up.put (Reg.SEQ.HCB_HOST.GO 0) 1, 0, 0x80000000000000E0, by decide +kernel⟩,
   ⟨(up.onAir fun x => { x with hcb := [(23, ⟨some ⟨0, 32, 5, .host true⟩, [], none, false⟩)] }).put (Reg.SEQ.HCB_HOST.GO 5) 1, 5, 3, 0x12345678, ⟨0, 32, 5, .host true⟩, by decide +kernel⟩,
   ⟨(up.onAir fun x => { x with hcb := [(0, ⟨some ⟨0, 8, 5, .program⟩, [⟨1, 8, 1, .program⟩], some ⟨2, 8, 2, .host false⟩, true⟩)], seqs := [(0, ⟨[], [], .hcb, 3⟩)] }).put (Reg.SEQ.HCB_CFG.EN 0 0) 1, 0, 0, 5, ⟨0, 8, 5, .program⟩, ⟨2, 8, 2, .host false⟩, ⟨1, 8, 1, .program⟩, [], by decide +kernel⟩⟩

theorem witness_GainBlankingCoexistence :
    (∃ (s : State) (f : Fin 6) (c : Fin 4) (at' : Nat), s.dieUp f = true ∧ s.on (Reg.FRF.RXCH.EN f c) = true ∧ s.on (Reg.FRF.RXCH.AGC_HOLD f c) = false ∧ (s.gain f (40 + c.val)).held = false ∧ (s.gain f (40 + c.val)).steps = [] ∧ 2 ≤ (s.gain f (40 + c.val)).high ∧ 0 < (s.gain f (40 + c.val)).idx ∧ (s.gain f (40 + c.val)).idx < 16)
    ∧ (∃ (s : State) (f : Fin 6) (c : Fin 4) (peak : PeakClass) (at' : Nat), s.dieUp f = true ∧ s.on (Reg.FRF.RXCH.EN f c) = true ∧ s.on (Reg.FRF.RXCH.AGC_HOLD f c) = true)
    ∧ (∃ (s : State) (f : Fin 6) (c : Fin 4) (n : Nat) (at' : Nat), s.dieUp f = true ∧ s.agcHeld f (40 + c.val) = false ∧ (s.gain f (40 + c.val)).waitUp = some n ∧ (s.sourceBusy f (40 + c.val) = false ∨ 16 ≤ n) ∧ (s.gain f (40 + c.val)).idx < 11)
    ∧ (∃ (s : State) (f : Fin 6) (k : Fin 40) (a : Nat) (idx : Nat) (at' : Nat) (rest : List GainStep), s.dieUp f = true ∧ (s.gain f k).steps = ⟨a, idx, true⟩ :: rest)
    ∧ (∃ (s : State) (f : Fin 6) (k : Fin 40) (i : Fin 512) (a : Nat) (idx : Nat) (at' : Nat) (rest : List GainStep), s.dieUp f = true ∧ (s.gain f k).steps = ⟨a, idx, true⟩ :: rest ∧ idx ≠ (s.gain f k).idx ∧ s.ctxOnLink f k i = true ∧ s.streamBusy f i = true)
    ∧ (∃ (s : State) (f : Fin 6) (n : Fin 8), s.dieUp f = true ∧ (8 * f.val + n.val) ∉ s.air.blank)
    ∧ (∃ (s : State) (f : Fin 6) (n : Fin 8), s.dieUp f = true ∧ (8 * f.val + n.val) ∈ s.air.blank)
    ∧ (∃ (s : State) (f : Fin 6) (n : Fin 4), s.dieUp f = true ∧ s.on (Reg.FRF.CX.EN f n) = true ∧ s.on (Reg.FRF.CX.ROLE f n) = true ∧ s.cx f n = ⟨false, false, false, false, []⟩ ∧ s.cxSending f n = false)
    ∧ (∃ (s : State) (f : Fin 6) (n : Fin 4), s.dieUp f = true ∧ s.on (Reg.FRF.CX.EN f n) = true ∧ s.on (Reg.FRF.CX.ROLE f n) = true)
    ∧ (∃ (s : State) (f : Fin 6) (n : Fin 4), s.dieUp f = true ∧ s.on (Reg.FRF.CX.EN f n) = true ∧ s.on (Reg.FRF.CX.ROLE f n) = true ∧ (s.cx f n).gnt = true)
    ∧ (∃ (s : State) (f : Fin 6) (n : Fin 4) (probe : Bool) (id : Nat), s.dieUp f = true ∧ s.on (Reg.FRF.CX.EN f n) = true ∧ s.on (Reg.FRF.CX.ROLE f n) = false ∧ (s.cx f n).req = false)
    ∧ (∃ (s : State) (f : Fin 6) (n : Fin 4) (probe : Bool) (id : Nat), s.dieUp f = true ∧ s.on (Reg.FRF.CX.EN f n) = true ∧ s.on (Reg.FRF.CX.ROLE f n) = false ∧ (s.cx f n).req = true) :=
  ⟨⟨(up.onAir fun x => { x with gains := [(263, ⟨1, 2, 0, none, [], 0, false⟩)] }).put (Reg.FRF.RXCH.EN 5 3) 1, 5, 3, 7, by decide +kernel⟩,
   ⟨up.puts [(Reg.FRF.RXCH.EN 5 3, 1), (Reg.FRF.RXCH.AGC_HOLD 5 3, 1)], 5, 3, .high, 7, by decide +kernel⟩,
   ⟨(up.onAir fun x => { x with gains := [(40, ⟨10, 0, 0, some 16, [], 0, false⟩)] }), 0, 0, 16, 7, by decide +kernel⟩,
   ⟨(up.onAir fun x => { x with gains := [(259, ⟨1, 2, 0, none, [⟨0, 5, true⟩], 1, false⟩)] }), 5, 39, 0, 5, 7, [], by decide +kernel⟩,
   ⟨((up.onAir fun x => { x with gains := [(259, ⟨1, 2, 0, none, [⟨0, 5, true⟩], 1, false⟩)], trackers := [(10243, trackOn 511 Frac.zero false)] }).puts [(Reg.LINK.STREAM.EN 5 511, 1), (Reg.LINK.STREAM.SRC 5 511, 39)]), 5, 39, 511, 0, 5, 7, [], by decide +kernel⟩,
   ⟨((up.onAir fun x => { x with trackers := [(3, trackOn 511 Frac.zero false), (4, trackOn 2 Frac.zero false)] }).puts [(Reg.LINK.STREAM.EN 0 511, 1), (Reg.LINK.STREAM.BLANK_GRP 0 511, 7)]), 0, 7, by decide +kernel⟩,
   ⟨(up.onAir fun x => { x with blank := [47, 0] }), 5, 7, by decide +kernel⟩,
   ⟨up.puts [(Reg.FRF.CX.EN 5 3, 1), (Reg.FRF.CX.ROLE 5 3, 1)], 5, 3, by decide +kernel⟩,
   ⟨up.puts [(Reg.FRF.CX.EN 5 3, 1), (Reg.FRF.CX.ROLE 5 3, 1)], 5, 3, by decide +kernel⟩,
   ⟨(up.onAir fun x => { x with cx := [(23, ⟨false, true, true, false, []⟩)] }).puts [(Reg.FRF.CX.EN 5 3, 1), (Reg.FRF.CX.ROLE 5 3, 1)], 5, 3, by decide +kernel⟩,
   ⟨up.puts [(Reg.FRF.CX.EN 5 3, 1), (Reg.FRF.CX.ROLE 5 3, 0)], 5, 3, false, 9, by decide +kernel⟩,
   ⟨(up.onAir fun x => { x with cx := [(23, ⟨true, false, false, false, [(true, 3)]⟩)] }).puts [(Reg.FRF.CX.EN 5 3, 1), (Reg.FRF.CX.ROLE 5 3, 0)], 5, 3, false, 9, by decide +kernel⟩⟩

theorem witness_SequencerCommands :
    (∃ (s : State) (f : Fin 6), s.seqAt f 0 = true ∧ s.get (Reg.SEQ.STATUS.ACTIVE_BANK f) ≤ 1)
    ∧ (∃ (s : State) (f : Fin 6), s.seqAt f 1 = true ∧ s.offsetPassed f (bitsAt (s.seqCur f) 0 21) = true)
    ∧ (∃ (s : State) (f : Fin 6), s.seqAt f 1 = true ∧ s.offsetPassed f (bitsAt (s.seqCur f) 0 21) = false)
    ∧ (∃ (s : State) (f : Fin 6) (ofs : Nat), s.dieUp f = true ∧ (s.seq f).st = .waiting ofs ∧ s.offsetPassed f ofs = true)
    ∧ (∃ (s : State) (f : Fin 6), s.seqAt f 2 = true ∧ 4 ≤ bitsAt (s.seqCur f) 57 3)
    ∧ (∃ (s : State) (f : Fin 6), s.seqAt f 2 = true ∧ bitsAt (s.seqCur f) 57 3 < 4)
    ∧ (∃ (s : State) (f : Fin 6) (c : Nat), s.dieUp f = true ∧ (s.seq f).st = .hopping c)
    ∧ (∃ (s : State) (f : Fin 6) (c : Nat), s.dieUp f = true ∧ (s.seq f).st = .hopping c ∧ 4 ≤ c ∧ c < 6)
    ∧ (∃ (s : State) (f : Fin 6) (c : Nat), s.dieUp f = true ∧ (s.seq f).st = .hopping c ∧ c < 4)
    ∧ (∃ (s : State) (f : Fin 6), s.seqAt f 3 = true ∧ s.hcb f (bitsAt (s.seqCur f) 58 2) = .init ∧ s.on (Reg.SEQ.HCB_CFG.EN f (bitsAt (s.seqCur f) 58 2)) = true)
    ∧ (∃ (s : State) (f : Fin 6) (at' : Nat), s.seqAt f 4 = true ∧ 40 ≤ bitsAt (s.seqCur f) 54 6 ∧ bitsAt (s.seqCur f) 53 1 = 0)
    ∧ (∃ (s : State) (f : Fin 6) (at' : Nat), s.seqAt f 4 = true ∧ bitsAt (s.seqCur f) 53 1 = 1)
    ∧ (∃ (s : State) (f : Fin 6), s.seqAt f 5 = true)
    ∧ (∃ (s : State) (f : Fin 6), s.seqAt f 6 = true)
    ∧ (∃ (s : State) (f : Fin 6), s.seqAt f 7 = true)
    ∧ (∃ (s : State) (f : Fin 6), s.dieUp f = true ∧ (s.seq f).st = .running ∧ s.seqLegal f (s.seqCur f) = false)
    ∧ (∃ (s : State) (f : Fin 6) (p : Fin 1024) (v : BitVec 64), s.hostUp = true ∧ s.dieUp f = true ∧ s.on (Reg.SEQ.STATUS.SWAP_PENDING f) = false)
    ∧ (∃ (s : State) (f : Fin 6) (p : Fin 1024) (v : BitVec 64), s.hostUp = true ∧ s.dieUp f = true ∧ s.on (Reg.SEQ.STATUS.SWAP_PENDING f) = true)
    ∧ (∃ (s : State) (f : Fin 6) (v : BitVec 32), s.hostUp = true ∧ s.dieUp f = true ∧ bitsAt v.toNat 1 1 = 1 ∧ (s.seq f).st ≠ .idle)
    ∧ (∃ (s : State) (f : Fin 6) (v : BitVec 32), s.hostUp = true ∧ s.dieUp f = true ∧ bitsAt v.toNat 1 1 = 1 ∧ (s.seq f).st = .idle ∧ s.get (Reg.SEQ.STATUS.ACTIVE_BANK f) ≤ 1) :=
  ⟨⟨(seqd 5 0).put (Reg.SEQ.STATUS.SWAP_PENDING 5) 1, 5, by decide +kernel⟩,
   ⟨seqd 5 0x10000000001e847f, 5, by decide +kernel⟩,
   ⟨(({ seqd 5 0x10000000001e847f with air := { Air.init with seqs := [(5, ⟨[(1023, 0x10000000001e847f)], [], .running, 0⟩)] } } : State).onTime fun x => { x with sec := meshEpoch, ns := 1999998 }), 5, by decide +kernel⟩,
   ⟨(up.onAir fun x => { x with seqs := [(0, ⟨[], [], .waiting 0, 7⟩)] }).put (Reg.SEQ.STATUS.PC 0) 1023, 0, 0, by decide +kernel⟩,
   ⟨seqd 0 0x2a00000000006168, 0, by decide +kernel⟩,
   ⟨(seqd 5 0x2600000000000fe0).put (Reg.FRF.RXCH.EN 5 3) 1, 5, by decide +kernel⟩,
   ⟨(up.onAir fun x => { x with seqs := [(0, ⟨[], [], .hopping 5, 7⟩)] }).put (Reg.SEQ.STATUS.PC 0) 1023, 0, 5, by decide +kernel⟩,
   ⟨(up.onAir fun x => { x with seqs := [(0, ⟨[], [], .hopping 5, 7⟩)] }).put (Reg.FRF.TXCH.EN 0 1) 1, 0, 5, by decide +kernel⟩,
   ⟨(up.onAir fun x => { x with seqs := [(0, ⟨[], [], .hopping 3, 7⟩)] }).put (Reg.FRF.RXCH.EN 0 3) 1, 0, 3, by decide +kernel⟩,
   ⟨(seqd 5 0x3ffc0000ffffffff).put (Reg.SEQ.HCB_CFG.EN 5 3) 1, 5, by decide +kernel⟩,
   ⟨(seqd 5 0x4ac000000000000b).put (Reg.FRF.RXCH.EN 5 3) 1, 5, 9, by decide +kernel⟩,
   ⟨seqd 5 0x4ae0000000000000, 5, 9, by decide +kernel⟩,
   ⟨seqd 5 0x5e00000000000000, 5, by decide +kernel⟩,
   ⟨seqd 5 0x60000000000000ff, 5, by decide +kernel⟩,
   ⟨(seqd 5 0x7c2f0000000003ff).onTime fun x => { x with msc := 47 }, 5, by decide +kernel⟩,
   ⟨seqd 5 0x8000000000000000, 5, by decide +kernel⟩,
   ⟨up.put (Reg.SEQ.STATUS.LAST_WR 5) 3, 5, 1023, 0xFFFFFFFFFFFFFFFF, by decide +kernel⟩,
   ⟨up.put (Reg.SEQ.STATUS.SWAP_PENDING 5) 1, 5, 1023, 5, by decide +kernel⟩,
   ⟨seqd 5 0, 5, 3, by decide +kernel⟩,
   ⟨up.put (Reg.SEQ.STATUS.ACTIVE_BANK 5) 1, 5, 2, by decide +kernel⟩⟩

theorem witness_SearchCommands :
    (∃ (s : State) (f : Fin 6) (c : Candidate) (rhos : List (Fin 2048 × Frac)) (n : Nat), s.mayStart f c = true ∧ s.crosses f c = true ∧ ((s.takeRhos f rhos).trackersOn f).length < 2048 ∧ n = (if c.sameCycle then s.air.born else s.air.born + 1))
    ∧ (∃ (s : State) (f : Fin 6) (c : Candidate) (rhos : List (Fin 2048 × Frac)) (n : Nat), s.mayStart f c = true ∧ s.crosses f c = true ∧ 2048 ≤ ((s.takeRhos f rhos).trackersOn f).length ∧ 328 + 32 * f.val ∉ s.evt.disarmed ∧ n = (if c.sameCycle then s.air.born else s.air.born + 1))
    ∧ (∃ (s : State) (f : Nat) (k : Fin 2048) (rho : Frac) (x : Tracker), Tbl.find? s.air.trackers (2048 * f + k) = some x)
    ∧ (∃ (s : State) (f : Fin 6) (c : Candidate) (rhos : List (Fin 2048 × Frac)), (s.mayStart f c = false ∨ s.crosses f c = false))
    ∧ (∃ (s : State) (f : Nat) (k : Nat) (x : Tracker), (∀ e ∈ s.trackersOn f, 0 < e.2.rho.den) ∧ s.weakest f = some (k, x))
    ∧ (∃ (s : State) (f : Fin 6) (t : Fin 2048) (o : Int) (rho : Frac) (phase : Fin 8) (before : List (Int × Int)) (x : Tracker), Tbl.find? s.air.trackers (2048 * f.val + t) = some x ∧ s.dieUp f = true ∧ x.frozen = false)
    ∧ (∃ (s : State) (f : Fin 6) (fclk : Nat) (h : SyncHit) (x : Tracker) (n : Nat) (nf : NetForce), s.hitNet f h = some (x, n, nf) ∧ s.dieUp f = true ∧ (s.ctxsOn f).length < 4096)
    ∧ (∃ (s : State) (f : Fin 6) (fclk : Nat) (h : SyncHit) (x : Tracker) (n : Nat) (nf : NetForce), s.hitNet f h = some (x, n, nf) ∧ s.dieUp f = true ∧ 4096 ≤ (s.ctxsOn f).length ∧ 331 + 32 * f.val ∉ s.evt.disarmed ∧ (∀ e ∈ s.air.trackers, e.2.rate < 5))
    ∧ (∃ (s : State) (f : Fin 6) (fclk : Nat) (a : SyncHit) (b : SyncHit) (x : Tracker) (y : Tracker) (n : Nat × NetForce) (m : Nat × NetForce), s.hitNet f a = some (x, n) ∧ s.hitNet f b = some (y, m) ∧ y.ctx = x.ctx ∧ y.chan = x.chan ∧ (∀ e ∈ s.air.trackers, e.1 = 2048 * f.val + b.t → e.2 = y) ∧ b.peak.power.lt a.peak.power = true)
    ∧ (∃ (s : State) (f : Fin 6) (fclk : Nat) (h : SyncHit), s.hitNet f h = none)
    ∧ (∃ (s : State) (f : Nat) (h : SyncHit) (x : Tracker) (n : Nat) (nf : NetForce), s.hitNet f h = some (x, n, nf))
    ∧ (∃ (rate : Nat) (since : Nat) (d : Nat), 2 ≤ rate ∧ since < 32)
    ∧ (∃ (s : State) (x : Tracker) (w : Nat) (n : Nat) (nf : NetForce), s.matchNet x w = some (n, nf))
    ∧ (∃ (s : State) (f : Fin 6) (k : Fin 2048) (x : Tracker), Tbl.find? s.air.trackers (2048 * f.val + k) = some x ∧ s.dieUp f = true)
    ∧ (∃ (s : State) (func : Fin 2) (f : Fin 6), s.functionUp func = true ∧ s.dieUp f = true)
    ∧ (∃ (s : State) (func : Fin 2) (f : Fin 6), s.functionUp func = true ∧ s.dieUp f = true)
    ∧ (∃ (s : State) (f : Fin 6) (i : Fin 512) (v : BitVec 32), s.hostUp = true ∧ s.dieUp f = true ∧ -12 ≤ signedOf 6 (bitsAt v.toNat 1 6) ∧ signedOf 6 (bitsAt v.toNat 1 6) ≤ 24 ∧ (bitsAt v.toNat 0 1 = 1 → s.wEnabled f i = false → s.wCount f < wLimit (s.capLevel f)))
    ∧ (∃ (s : State) (f : Fin 6) (i : Fin 512) (v : BitVec 32), s.hostUp = true ∧ s.dieUp f = true ∧ (signedOf 6 (bitsAt v.toNat 1 6) < -12 ∨ 24 < signedOf 6 (bitsAt v.toNat 1 6) ∨ (bitsAt v.toNat 0 1 = 1 ∧ s.wEnabled f i = false ∧ wLimit (s.capLevel f) ≤ s.wCount f))) :=
  ⟨⟨listening 5 511 up, 5, ⟨511, false, 31, 1, 0, ⟨1, 1⟩, ⟨1000000, 1⟩, 60000, 7, false⟩, [(3, ⟨1, 9⟩)], 1, by decide +kernel⟩,
   ⟨(listening 0 511 up).onAir fun x => { x with trackers := (List.range 2048).map fun k => (k, trackOn 3 ⟨1, 2⟩ false) }, 0, ⟨511, false, 31, 1, 0, ⟨1, 1⟩, ⟨1000000, 1⟩, 60000, 7, true⟩, [(2047, ⟨1, 9⟩)], 0, by decide +kernel⟩,
   ⟨up.onAir fun x => { x with trackers := [(12287, trackOn 3 ⟨1, 2⟩ false)] }, 5, 2047, ⟨1, 9⟩, trackOn 3 ⟨1, 2⟩ false, by decide +kernel⟩,
   ⟨up, 0, ⟨511, false, 31, 1, 0, ⟨1, 1⟩, ⟨1000000, 1⟩, 60000, 7, false⟩, [], by decide +kernel⟩,
   ⟨up.onAir fun x => { x with trackers := [(3, trackOn 3 ⟨1, 2⟩ false), (4, trackOn 4 ⟨1, 3⟩ false), (5, trackOn 4 ⟨1, 9⟩ true)] }, 0, 4, trackOn 4 ⟨1, 3⟩ false, by decide +kernel⟩,
   ⟨up.onAir fun x => { x with trackers := [(12287, trackOn 3 ⟨1, 2⟩ false)] }, 5, 2047, -1, ⟨1, 1⟩, 6, [(1, 2), (3, 4)], trackOn 3 ⟨1, 2⟩ false, by decide +kernel⟩,
   ⟨{ up.onAir (fun x => { x with trackers := [(12286, trackOn 3 ⟨1, 2⟩ false), (12287, trackOn 3 ⟨1, 2⟩ true)] }) with nets := [(15, ⟨5, 0, 2, 7⟩)] }, 5, 0, ⟨2047, 6, ⟨32, 0, ⟨1, 1⟩⟩⟩, trackOn 3 ⟨1, 2⟩ true, 15, ⟨5, 0, 2, 7⟩, by decide +kernel⟩,
   ⟨{ up.onAir (fun x => { x with trackers := [(12287, trackOn 3 ⟨1, 2⟩ true)], ctxs := (List.range 4096).map fun k => (20480 + k, demodOn 3) }) with nets := [(15, ⟨5, 0, 2, 7⟩)] }, 5, 0, ⟨2047, 6, ⟨32, 0, ⟨1, 1⟩⟩⟩, trackOn 3 ⟨1, 2⟩ true, 15, ⟨5, 0, 2, 7⟩, by decide +kernel⟩,
   ⟨{ up.onAir (fun x => { x with trackers := [(12286, trackOn 3 ⟨1, 2⟩ true), (12287, trackOn 3 ⟨1, 2⟩ true)] }) with nets := [(15, ⟨5, 0, 2, 7⟩)] }, 5, 0, ⟨2047, 6, ⟨32, 0, ⟨1, 1⟩⟩⟩, ⟨2046, 6, ⟨32, 0, ⟨1, 2⟩⟩⟩, trackOn 3 ⟨1, 2⟩ true, trackOn 3 ⟨1, 2⟩ true, (15, ⟨5, 0, 2, 7⟩), (15, ⟨5, 0, 2, 7⟩), by decide +kernel⟩,
   ⟨up.onAir (fun x => { x with trackers := [(12287, trackOn 3 ⟨1, 2⟩ true)] }), 5, 0, ⟨2047, 6, ⟨32, 0, ⟨1, 1⟩⟩⟩, by decide +kernel⟩,
   ⟨{ up.onAir (fun x => { x with trackers := [(12286, trackOn 3 ⟨1, 2⟩ false), (12287, trackOn 3 ⟨1, 2⟩ true)] }) with nets := [(15, ⟨5, 0, 2, 7⟩)] }, 5, ⟨2047, 6, ⟨32, 0, ⟨1, 1⟩⟩⟩, trackOn 3 ⟨1, 2⟩ true, 15, ⟨5, 0, 2, 7⟩, by decide +kernel⟩,
   ⟨2, 31, 0xFFFFFFFF, by decide +kernel⟩,
   ⟨{ up with nets := [(15, ⟨5, 0, 2, 7⟩)] }, trackOn 3 ⟨1, 2⟩ true, 6, 15, ⟨5, 0, 2, 7⟩, by decide +kernel⟩,
   ⟨up.onAir (fun x => { x with trackers := [(12287, trackOn 3 ⟨1, 2⟩ true)] }), 5, 2047, trackOn 3 ⟨1, 2⟩ true, by decide +kernel⟩,
   ⟨(up.onEvt fun x => { x with disarmed := [328, 488] }).puts [(Reg.STEEP.TRACK.IN_USE 5, 3), (Reg.STEEP.TRACK.PEAK 5, 2048)], 1, 5, by decide +kernel⟩,
   ⟨(up.onEvt fun x => { x with disarmed := [331, 491] }).puts [(Reg.DEMOD.CTX.IN_USE 5, 3), (Reg.DEMOD.CTX.PEAK 5, 4096)], 1, 5, by decide +kernel⟩,
   ⟨up, 5, 511, 49, by decide +kernel⟩,
   ⟨up, 5, 511, 50, by decide +kernel⟩⟩

theorem witness_NoiseFloors :
    (∃ (s : State) (f : Fin 6) (i : Fin 512) (c : ChanPower), s.dieUp f = true ∧ s.on (Reg.LINK.STREAM.EN f i) = true ∧ s.windowIdle f i c = false)
    ∧ (∃ (s : State) (f : Fin 6) (i : Fin 512) (c : ChanPower), s.dieUp f = true ∧ s.on (Reg.LINK.STREAM.EN f i) = true ∧ s.windowIdle f i c = true ∧ (s.floorOf f i c.w c.chan).valid = true)
    ∧ (∃ (s : State) (f : Fin 6) (i : Fin 512) (c : ChanPower), s.dieUp f = true ∧ s.on (Reg.LINK.STREAM.EN f i) = true ∧ s.windowIdle f i c = true ∧ (s.floorOf f i c.w c.chan).valid = false ∧ (s.floorOf f i c.w c.chan).held.length < 255)
    ∧ (∃ (s : State) (f : Fin 6) (i : Fin 512) (c : ChanPower), s.dieUp f = true ∧ s.on (Reg.LINK.STREAM.EN f i) = true ∧ s.windowIdle f i c = true ∧ (s.floorOf f i c.w c.chan).valid = false ∧ (s.floorOf f i c.w c.chan).held.length = 255)
    ∧ (∃ (s : State) (f : Fin 6) (i : Fin 512) (c : ChanPower) (l : List ChanPower), s.dieUp f = true ∧ s.on (Reg.LINK.STREAM.EN f i) = true)
    ∧ (∃ (s : State) (f : Fin 6) (v : BitVec 32), s.hostUp = true ∧ s.dieUp f = true ∧ bitsAt v.toNat 1 1 = 1)
    ∧ (∃ (s : State) (f : Fin 6) (v : BitVec 32), s.hostUp = true ∧ s.dieUp f = true ∧ bitsAt v.toNat 1 1 = 0)
    ∧ (∃ (s : State) (f : Fin 6) (i : Fin 512) (l : List ChanPower), s.dieUp f = true ∧ s.on (Reg.LINK.STREAM.EN f i) = true) :=
  ⟨⟨(listening 5 511 up).onAir (fun x => { x with spoilt := [(3071, [.whole])] }), 5, 511, ⟨false, 31, ⟨10, 100⟩⟩, by decide +kernel⟩,
   ⟨(listening 5 511 up).onAir fun x => { x with floors := [(chanKey 5 511 false 31, ⟨true, ⟨1, 100⟩, 256, []⟩)] }, 5, 511, ⟨false, 31, ⟨10, 100⟩⟩, by decide +kernel⟩,
   ⟨listening 5 511 up, 5, 511, ⟨false, 31, ⟨10, 100⟩⟩, by decide +kernel⟩,
   ⟨(listening 5 511 up).onAir fun x => { x with floors := [(chanKey 5 511 false 31, ⟨false, ⟨0, 1⟩, 255, List.replicate 255 ⟨1, 1000⟩⟩)] }, 5, 511, ⟨false, 31, ⟨10, 100⟩⟩, by decide +kernel⟩,
   ⟨listening 5 511 up, 5, 511, ⟨false, 31, ⟨10, 100⟩⟩, [⟨false, 30, ⟨10, 100⟩⟩], by decide +kernel⟩,
   ⟨(up.onAir fun x => { x with floors := [(chanKey 5 511 false 31, ⟨true, ⟨1, 100⟩, 256, []⟩), (chanKey 0 511 false 31, ⟨true, ⟨1, 100⟩, 256, []⟩)] }), 5, 3, by decide +kernel⟩,
   ⟨up, 5, 1, by decide +kernel⟩,
   ⟨listening 5 511 up, 5, 511, [⟨false, 31, ⟨10, 100⟩⟩], by decide +kernel⟩⟩

theorem witness_DemodulatorCommands :
    (∃ (s : State) (f : Fin 6) (d : Fin 4096) (sym : SymbolIn) (c : DemodCtx) (l : List (Nat × Int)) (y : Int × Int) (sg : Frac), Instr.wf (.demodSymbol f d sym) = true ∧ s.ctx? f d = some c ∧ s.dieUp f = true ∧ s.delivers f c.ctx = true ∧ c.wants = true ∧ sym.chips.length = spreadOf c.rate ∧ l = c.marked (Tbl.getD s.air.markers (512 * f.val + c.ctx) []) ∧ y = despread c.rate c.codeSet 0 (scaleChips l (s.chipSamples f c.ctx c.w) sym.first sym.chips) sym.erased ∧ sg = s.sigma2 f c (Tbl.getD s.air.markers (512 * f.val + c.ctx) []) sym.first)
    ∧ (∃ (s : State) (f : Fin 6) (d : Fin 4096) (c : DemodCtx), s.ctx? f d = some c ∧ s.dieUp f = true ∧ 0 < c.nextStep ∧ 2 * (c.steps + c.nextStep) ≤ c.llrs.length)
    ∧ (∃ (c : DemodCtx) (free : Nat) (ns : Nat), ns < 64)
    ∧ (∃ (s : State) (f : Fin 6) (d : Fin 4096) (c : DemodCtx), s.ctx? f d = some c ∧ c.llrs.length < 2 * (c.steps + c.nextStep))
    ∧ (∃ (s : State) (f : Fin 6) (d : Fin 4096) (late : Bool) (c : DemodCtx) (c' : DemodCtx) (start : Nat × Nat), s.ctx? f d = some c ∧ s.dieUp f = true ∧ c.checks < 3 ∧ c.traceAt (groupAt c.checks) = some start ∧ c' = c.decide (match c.total? with | some n => min (groupEnd c.checks) n | none => groupEnd c.checks) start ∧ c'.check = none)
    ∧ (∃ (s : State) (f : Fin 6) (d : Fin 4096) (late : Bool) (c : DemodCtx) (c' : DemodCtx) (start : Nat × Nat) (st : Status), s.ctx? f d = some c ∧ s.dieUp f = true ∧ c.checks < 3 ∧ c.traceAt (groupAt c.checks) = some start ∧ c' = c.decide (match c.total? with | some n => min (groupEnd c.checks) n | none => groupEnd c.checks) start ∧ c'.check = some st)
    ∧ (∃ (c : DemodCtx) (st : Status), c.check = some st)
    ∧ (∃ (s : State) (f : Fin 6) (d : Fin 4096) (late : Bool) (c : DemodCtx) (c' : DemodCtx) (n : Nat) (start : Nat × Nat), s.ctx? f d = some c ∧ s.dieUp f = true ∧ c.checks = 3 ∧ c.segmentDue = some (n, false, start) ∧ c' = c.decide n start)
    ∧ (∃ (s : State) (f : Fin 6) (d : Fin 4096) (late : Bool) (c : DemodCtx) (c' : DemodCtx) (n : Nat) (start : Nat × Nat), s.ctx? f d = some c ∧ s.dieUp f = true ∧ c.checks = 3 ∧ c.segmentDue = some (n, true, start) ∧ c' = c.decide n start)
    ∧ (∃ (s : State) (f : Fin 6) (d : Fin 4096) (late : Bool) (c : DemodCtx), s.ctx? f d = some c ∧ c.checks = 3 ∧ c.segmentDue = none) :=
  ⟨⟨demodding (demodOn 511), 5, 4095, ⟨90, [(-5, 0)], [false], 0, 0⟩, demodOn 511, [], (-327680, 0), (demodding (demodOn 511)).sigma2 5 (demodOn 511) [] 90, by and_intros; rotate_right; exact rfl; all_goals decide +kernel⟩,
   ⟨demodding { demodOn 511 with llrs := List.replicate 16 3 }, 5, 4095, { demodOn 511 with llrs := List.replicate 16 3 }, by decide +kernel⟩,
   ⟨{ demodOn 511 with llrs := List.replicate 16 3 }, 0, 63, by decide +kernel⟩,
   ⟨demodding { demodOn 511 with llrs := List.replicate 15 3 }, 5, 4095, { demodOn 511 with llrs := List.replicate 15 3 }, by decide +kernel⟩,
   ⟨demodding (frameDemod 100 0 72 0), 5, 4095, false, frameDemod 100 0 72 0, frameDemod 100 0 72 0, (72, 0), by decide +kernel⟩,
   ⟨demodding (frameDemod 0 0 72 0), 5, 4095, false, frameDemod 0 0 72 0, frameDemod 0 0 72 0, (72, 0), .badLength, by decide +kernel⟩,
   ⟨frameDemod 0 0 72 0, .badLength, by decide +kernel⟩,
   ⟨demodding (frameDemod 100 232 304 3), 5, 4095, false, frameDemod 100 232 304 3, frameDemod 100 232 304 3, 256, (304, 0), by decide +kernel⟩,
   ⟨demodding { frameDemod 26 214 238 3 with symbols := 476, llrs := List.replicate 476 3, snrSum := ⟨1000, 1⟩ }, 5, 4095, true, { frameDemod 26 214 238 3 with symbols := 476, llrs := List.replicate 476 3, snrSum := ⟨1000, 1⟩ }, { frameDemod 26 214 238 3 with symbols := 476, llrs := List.replicate 476 3, snrSum := ⟨1000, 1⟩ }, 238, (238, 0), by decide +kernel⟩,
   ⟨demodding (frameDemod 100 232 303 3), 5, 4095, false, frameDemod 100 232 303 3, by decide +kernel⟩⟩

theorem witness_NodeTableCommands :
    (∃ (s : State) (o : NodeOp) (e : NodeEntry), s.logicUp = true ∧ s.nodeOp 0 = some o ∧ o.index < nodeTop ∧ Tbl.find? s.node.tab o.index = some e ∧ e.sound = true)
    ∧ (∃ (s : State) (o : NodeOp), s.logicUp = true ∧ s.nodeOp 0 = some o ∧ o.index < nodeTop ∧ Tbl.find? s.node.tab o.index = none)
    ∧ (∃ (s : State) (o : NodeOp) (e : NodeEntry), s.logicUp = true ∧ s.nodeOp 0 = some o ∧ o.index < nodeTop ∧ Tbl.find? s.node.tab o.index = some e ∧ e.sound = false)
    ∧ (∃ (s : State) (o : NodeOp), s.logicUp = true ∧ s.nodeOp 1 = some o ∧ o.index < nodeTop ∧ nodeValid o.data = false)
    ∧ (∃ (s : State) (o : NodeOp), s.logicUp = true ∧ s.nodeOp 1 = some o ∧ o.index < nodeTop ∧ nodeValid o.data = true ∧ nodeImageError o.data = none ∧ s.nodeWriteError o.index o.data = false ∧ (s.nodeFind (nodeAddr o.data)).2.2 = false)
    ∧ (∃ (s : State) (o : NodeOp) (st : Status), s.logicUp = true ∧ s.nodeOp 1 = some o ∧ o.index < nodeTop ∧ nodeValid o.data = true ∧ nodeImageError o.data = some st)
    ∧ (∃ (s : State) (o : NodeOp), s.logicUp = true ∧ s.nodeOp 1 = some o ∧ (nodeTop ≤ o.index ∨ (nodeValid o.data = true ∧ nodeImageError o.data = none ∧ s.nodeWriteError o.index o.data = true ∧ (s.nodeFind (nodeAddr o.data)).2.2 = false)))
    ∧ (∃ (s : State) (o : NodeOp), s.logicUp = true ∧ s.nodeOp 1 = some o ∧ o.index < nodeTop ∧ nodeValid o.data = true ∧ nodeImageError o.data = none ∧ (s.nodeFind (nodeAddr o.data)).2.2 = true)
    ∧ (∃ (s : State) (o : NodeOp), s.logicUp = true ∧ s.nodeOp 2 = some o ∧ nodeImageError o.data = none ∧ nodeStatic o.data = false ∧ s.nodeIndex (nodeAddr o.data) = none ∧ (∃ w < 4, Tbl.has s.node.tab (4 * s.bucket (nodeAddr o.data) + w) = false))
    ∧ (∃ (s : State) (o : NodeOp), s.logicUp = true ∧ s.nodeOp 2 = some o ∧ nodeImageError o.data = none ∧ nodeStatic o.data = false ∧ s.nodeIndex (nodeAddr o.data) = none ∧ (∀ w < 4, Tbl.has s.node.tab (4 * s.bucket (nodeAddr o.data) + w) = true))
    ∧ (∃ (s : State) (o : NodeOp) (i : Nat) (e : NodeEntry), s.logicUp = true ∧ s.nodeOp 2 = some o ∧ nodeImageError o.data = none ∧ nodeStatic o.data = false ∧ s.nodeIndex (nodeAddr o.data) = some i ∧ Tbl.find? s.node.tab i = some e ∧ e.sound = true ∧ staticBase ≤ i)
    ∧ (∃ (s : State) (o : NodeOp) (i : Nat) (e : NodeEntry), s.logicUp = true ∧ s.nodeOp 3 = some o ∧ s.nodeIndex o.key = some i ∧ Tbl.find? s.node.tab i = some e ∧ e.sound = true)
    ∧ (∃ (s : State) (o : NodeOp), s.logicUp = true ∧ s.nodeOp 3 = some o ∧ s.nodeIndex o.key = none)
    ∧ (∃ (s : State) (o : NodeOp) (i : Nat) (e : NodeEntry), s.logicUp = true ∧ s.nodeOp 4 = some o ∧ s.nodeIndex o.key = some i ∧ Tbl.find? s.node.tab i = some e ∧ e.sound = true)
    ∧ (∃ (s : State) (o : NodeOp), s.logicUp = true ∧ s.nodeOp 4 = some o ∧ s.nodeIndex o.key = none)
    ∧ (∃ (s : State) (o : NodeOp), s.logicUp = true ∧ s.node.scan = none ∧ s.nodeOp 5 = some o ∧ 1 ≤ o.key ∧ o.key ≤ 33554431)
    ∧ (∃ (s : State) (o : NodeOp), s.logicUp = true ∧ s.node.scan = none ∧ s.nodeOp 5 = some o ∧ (o.key = 0 ∨ 33554431 < o.key))
    ∧ (∃ (s : State) (age : Nat), s.logicUp = true ∧ s.node.scan = some age ∧ (∀ e ∈ s.node.tab, e.2.sound = true))
    ∧ (∃ (s : State) (op : Fin 8) (o : NodeOp), Instr.wf (.nodeBadOpcode op) = true ∧ s.logicUp = true ∧ s.nodeOp op = some o)
    ∧ (∃ (s : State) (i : Nat) (e : NodeEntry), s.logicUp = true ∧ s.on Reg.NODE.AGE.EN = true ∧ i + 1 < staticBase ∧ Tbl.find? s.node.tab i = some e ∧ e.sound = true ∧ s.get Reg.NODE.AGE.LIMIT ≤ s.nodeAge e.word)
    ∧ (∃ (s : State) (i : Nat) (e : NodeEntry), s.logicUp = true ∧ s.on Reg.NODE.AGE.EN = true ∧ i + 1 < staticBase ∧ Tbl.find? s.node.tab i = some e ∧ e.sound = true ∧ s.nodeAge e.word < s.get Reg.NODE.AGE.LIMIT ∧ nodeLong e.word = false ∧ 0xE00000 ≤ (s.meshCycle + 2 ^ 24 - nodeHeard e.word) % 2 ^ 24)
    ∧ (∃ (s : State) (i : Nat) (e : NodeEntry), s.logicUp = true ∧ s.on Reg.NODE.AGE.EN = true ∧ i + 1 < staticBase ∧ Tbl.find? s.node.tab i = some e ∧ e.sound = true ∧ s.nodeAge e.word < s.get Reg.NODE.AGE.LIMIT ∧ (nodeLong e.word = true ∨ (s.meshCycle + 2 ^ 24 - nodeHeard e.word) % 2 ^ 24 < 0xE00000) ∧ nodeValid e.word = true ∧ e.word < 2 ^ 128)
    ∧ (∃ (s : State), s.logicUp = true ∧ s.on Reg.NODE.AGE.EN = true ∧ Tbl.find? s.node.tab 0xFFFFF = none)
    ∧ (∃ (s : State) (a : Nat) (i : Nat), s.nodeIndex a = some i) :=
  ⟨⟨nodes [(0x10FFFF, nodeE (nodeW 5 1))] (some ⟨0, 0, 0x10FFFF, 0⟩), ⟨0, 0, 0x10FFFF, 0⟩, nodeE (nodeW 5 1), by decide +kernel⟩,
   ⟨nodes [] (some ⟨0, 0, 0, 0⟩), ⟨0, 0, 0, 0⟩, by decide +kernel⟩,
   ⟨nodes [(0x10FFFF, ⟨nodeW 5 1, 99⟩)] (some ⟨0, 0, 0x10FFFF, 0⟩), ⟨0, 0, 0x10FFFF, 0⟩, ⟨nodeW 5 1, 99⟩, by decide +kernel⟩,
   ⟨nodes [(0x10FFFF, nodeE (nodeW 5 1))] (some ⟨1, 0, 0x10FFFF, 0⟩), ⟨1, 0, 0x10FFFF, 0⟩, by decide +kernel⟩,
   ⟨nodes [] (some ⟨1, 0, 4 * up.bucket 5 + 3, nodeW 5 0⟩), ⟨1, 0, 4 * up.bucket 5 + 3, nodeW 5 0⟩, by decide +kernel⟩,
   ⟨nodes [] (some ⟨1, 0, 0, nodeW 0 0⟩), ⟨1, 0, 0, nodeW 0 0⟩, .badAddress, by decide +kernel⟩,
   ⟨nodes [] (some ⟨1, 0, 4 * up.bucket 5 + 3, nodeW 5 1⟩), ⟨1, 0, 4 * up.bucket 5 + 3, nodeW 5 1⟩, by decide +kernel⟩,
   ⟨nodes [(0x100000, ⟨nodeW 5 1, 99⟩)] (some ⟨1, 0, 0x100001, nodeW 5 1⟩), ⟨1, 0, 0x100001, nodeW 5 1⟩, by decide +kernel⟩,
   ⟨nodes [(4 * up.bucket 5, nodeE (nodeW 9 0))] (some ⟨2, 0, 0, nodeW 5 0⟩), ⟨2, 0, 0, nodeW 5 0⟩, by decide +kernel⟩,
   ⟨nodes [(4 * up.bucket 5, nodeE (nodeW 9 0)), (4 * up.bucket 5 + 1, nodeE (nodeW 10 0)), (4 * up.bucket 5 + 2, nodeE (nodeW 11 0)), (4 * up.bucket 5 + 3, nodeE (nodeW 12 0))] (some ⟨2, 0, 0, nodeW 5 0⟩), ⟨2, 0, 0, nodeW 5 0⟩, by decide +kernel⟩,
   ⟨nodes [(0x100000, nodeE (nodeW 5 1))] (some ⟨2, 0, 0, nodeW 5 0⟩), ⟨2, 0, 0, nodeW 5 0⟩, 0x100000, nodeE (nodeW 5 1), by decide +kernel⟩,
   ⟨nodes [(0x100000, nodeE (nodeW 5 1))] (some ⟨3, 5, 0, 0⟩), ⟨3, 5, 0, 0⟩, 0x100000, nodeE (nodeW 5 1), by decide +kernel⟩,
   ⟨nodes [(0x100000, nodeE (nodeW 6 1))] (some ⟨3, 5, 0, 0⟩), ⟨3, 5, 0, 0⟩, by decide +kernel⟩,
   ⟨nodes [(4 * up.bucket 5 + 3, nodeE (nodeW 5 0))] (some ⟨4, 5, 0, 0⟩), ⟨4, 5, 0, 0⟩, 4 * up.bucket 5 + 3, nodeE (nodeW 5 0), by decide +kernel⟩,
   ⟨nodes [(4 * up.bucket 5 + 4, nodeE (nodeW 5 0))] (some ⟨4, 5, 0, 0⟩), ⟨4, 5, 0, 0⟩, by decide +kernel⟩,
   ⟨nodes [] (some ⟨5, 33554431, 0, 0⟩), ⟨5, 33554431, 0, 0⟩, by decide +kernel⟩,
   ⟨nodes [] (some ⟨5, 0, 0, 0⟩), ⟨5, 0, 0, 0⟩, by decide +kernel⟩,
   ⟨((nodes [(7, nodeE (nodeW 5 0)), (9, nodeE (putBits (nodeW 6 0) 71 24 100)), (0x100000, nodeE (nodeW 7 1))] (some ⟨5, 100, 0, 0⟩)).onNode fun x => { x with scan := some 100 }).onTime fun x => { x with msc := 4800 }, 100, by decide +kernel⟩,
   ⟨nodes [] (some ⟨7, 0, 0, 0⟩), 7, ⟨7, 0, 0, 0⟩, by decide +kernel⟩,
   ⟨((nodes [(0xFFFFE, nodeE (nodeW 5 0))] none).puts [(Reg.NODE.AGE.EN, 1), (Reg.NODE.AGE.LIMIT, 100)]).onTime fun x => { x with msc := 4800 }, 0xFFFFE, nodeE (nodeW 5 0), by decide +kernel⟩,
   ⟨((nodes [(0, nodeE (nodeW 5 0))] none).puts [(Reg.NODE.AGE.EN, 1), (Reg.NODE.AGE.LIMIT, 33554431)]).onTime fun x => { x with msc := 48 * 0xE00000 }, 0, nodeE (nodeW 5 0), by decide +kernel⟩,
   ⟨((nodes [(0, nodeE (nodeW 5 0))] none).puts [(Reg.NODE.AGE.EN, 1), (Reg.NODE.AGE.LIMIT, 33554431)]).onTime fun x => { x with msc := 48 * 0xDFFFFF }, 0, nodeE (nodeW 5 0), by decide +kernel⟩,
   ⟨(nodes [(0, nodeE (nodeW 5 0)), (1, nodeE (putBits (nodeW 6 0) 110 1 1))] none).puts [(Reg.NODE.AGE.EN, 1)], by decide +kernel⟩,
   ⟨nodes [(0x10FFFF, nodeE (nodeW 5 1))] none, 5, 0x10FFFF, by decide +kernel⟩⟩

theorem witness_HearingCommands :
    (∃ (s : State) (f : Fin 6) (o : HearOp) (w : Nat) (e : HearEntry), s.hearDue f 0 = some o ∧ w < 4 ∧ Tbl.find? s.hear (2 ^ 18 * f.val + o.addr * 0x85EBCA77 % 2 ^ 32 / 2 ^ 16 * 4 + w) = some e ∧ e.addr = o.addr ∧ (∀ v < w, (Tbl.find? s.hear (2 ^ 18 * f.val + o.addr * 0x85EBCA77 % 2 ^ 32 / 2 ^ 16 * 4 + v)).all (fun x => decide (x.addr ≠ e.addr)) = true))
    ∧ (∃ (s : State) (f : Fin 6) (o : HearOp), s.hearDue f 0 = some o ∧ (∀ w < 4, (Tbl.find? s.hear (2 ^ 18 * f.val + o.addr * 0x85EBCA77 % 2 ^ 32 / 2 ^ 16 * 4 + w)).all (fun x => decide (x.addr ≠ o.addr)) = true))
    ∧ (∃ (s : State) (f : Fin 6) (o : HearOp), s.hearDue f 1 = some o)
    ∧ (∃ (s : State) (f : Fin 6) (o : HearOp), s.hearDue f 2 = some o)
    ∧ (∃ (s : State) (f : Fin 6) (o : HearOp), s.hearDue f 2 = some o ∧ o.begun = true)
    ∧ (∃ (s : State) (f : Fin 6) (o : HearOp), s.hearDue f 3 = some o)
    ∧ (∃ (s : State) (f : Fin 6) (v : Nat), bitsAt v 2 1 = 0)
    ∧ (∃ (s : State) (f : Nat) (src : Nat) (ctx : Nat) (rate : Nat) (lqi : Nat), (∀ w < 4, (Tbl.find? s.hear (2 ^ 18 * f + src * 0x85EBCA77 % 2 ^ 32 / 2 ^ 16 * 4 + w)).all (fun e => decide (e.addr ≠ src)) = true) ∧ (∃ w < 4, Tbl.find? s.hear (2 ^ 18 * f + src * 0x85EBCA77 % 2 ^ 32 / 2 ^ 16 * 4 + w) = none)) :=
  ⟨⟨{ hearOp 5 0 5 9 false with hear := [(2 ^ 18 * 5 + hb 5, ⟨6, 1, 2, 3, 4, 5⟩), (2 ^ 18 * 5 + (hb 5 + 3), ⟨5, 511, 4, 255, 0xFFFFFF, 255⟩)] }, 5, ⟨0, 9, 5, false⟩, 3, ⟨5, 511, 4, 255, 0xFFFFFF, 255⟩, by decide +kernel⟩,
   ⟨{ hearOp 5 0 5 9 false with hear := [(2 ^ 18 * 5 + hb 5, ⟨6, 1, 2, 3, 4, 5⟩), (2 ^ 18 * 5 + (hb 5 + 4), ⟨5, 511, 4, 255, 0xFFFFFF, 255⟩)] }, 5, ⟨0, 9, 5, false⟩, by decide +kernel⟩,
   ⟨{ hearOp 5 1 7 0x3FFFF false with hear := [(2 ^ 18 * 5 + 0x3FFFF, ⟨6, 1, 2, 3, 4, 5⟩)] }, 5, ⟨1, 0x3FFFF, 7, false⟩, by decide +kernel⟩,
   ⟨hearOp 0 2 0 0 false, 0, ⟨2, 0, 0, false⟩, by decide +kernel⟩,
   ⟨{ hearOp 5 2 7 0 true with hear := [(2 ^ 18 * 4 + 0x3FFFF, ⟨6, 1, 2, 3, 4, 5⟩), (2 ^ 18 * 5, ⟨6, 1, 2, 3, 4, 5⟩), (2 ^ 18 * 5 + 0x3FFFF, ⟨6, 1, 2, 3, 4, 5⟩)] }, 5, ⟨2, 0, 7, true⟩, by decide +kernel⟩,
   ⟨hearOp 0 3 0 0 false, 0, ⟨3, 0, 0, false⟩, by decide +kernel⟩,
   ⟨hearOp 5 0 5 9 false, 5, 0x3FFFF003, by decide +kernel⟩,
   ⟨{ up with hear := [(2 ^ 18 * 5 + hb 5, ⟨6, 1, 2, 3, 4, 5⟩), (2 ^ 18 * 5 + (hb 5 + 3), ⟨7, 511, 4, 255, 0xFFFFFF, 255⟩)] }, 5, 5, 511, 4, 9, by decide +kernel⟩⟩

theorem witness_CaskCommands :
    (∃ (s : State) (o : CaskOp), s.caskDue o 0 ∧ o.addr ≠ 0 ∧ (s.queue o.queue).addr = none ∧ (∀ p ∈ s.cask.queues, ¬ (p.2.addr = some o.addr ∧ p.2.cls = o.cls)))
    ∧ (∃ (s : State) (o : CaskOp), s.caskDue o 0 ∧ o.addr = 0)
    ∧ (∃ (s : State) (o : CaskOp), s.caskDue o 0 ∧ o.addr ≠ 0 ∧ ((s.queue o.queue).addr ≠ none ∨ ∃ p ∈ s.cask.queues, p.2.addr = some o.addr ∧ p.2.cls = o.cls))
    ∧ (∃ (s : State) (o : CaskOp), s.caskDue o 1 ∧ (s.queue o.queue).addr ≠ none ∧ (s.queue o.queue).count = 0 ∧ (s.queue o.queue).sent = false)
    ∧ (∃ (s : State) (o : CaskOp), s.caskDue o 1 ∧ (s.queue o.queue).addr ≠ none ∧ (0 < (s.queue o.queue).count ∨ (s.queue o.queue).sent = true))
    ∧ (∃ (s : State) (o : CaskOp), s.caskDue o 2)
    ∧ (∃ (s : State) (o : CaskOp), s.caskDue o 3 ∧ 0 < (s.queue o.queue).count ∧ (s.queue o.queue).sent = false)
    ∧ (∃ (s : State) (o : CaskOp), s.caskDue o 3 ∧ ((s.queue o.queue).count = 0 ∨ (s.queue o.queue).sent = true))
    ∧ (∃ (s : State) (o : CaskOp), s.caskDue o 4 ∧ 0 < (s.queue o.queue).count)
    ∧ (∃ (s : State) (op : Fin 8) (o : CaskOp), Instr.wf (.caskBadOpcode op) = true ∧ s.caskDue o op)
    ∧ (∃ (s : State) (v : BitVec 32), s.hostUp = true ∧ bitsAt v.toNat 1 16 ≠ 0 ∧ bitsAt v.toNat 0 1 = 1 ∧ s.on Reg.CASK.CFG.EN = false ∧ s.poolOk = true ∧ s.caskIdle = true)
    ∧ (∃ (s : State) (v : BitVec 32), s.hostUp = true ∧ (bitsAt v.toNat 1 16 = 0 ∨ (bitsAt v.toNat 0 1 = 1 ∧ s.poolOk = false)))
    ∧ (∃ (s : State), s.poolOk = true) :=
  ⟨⟨casked .init (some ⟨0, 7, 3, 0xFFFFFFFF⟩), ⟨0, 7, 3, 0xFFFFFFFF⟩, by decide +kernel⟩,
   ⟨casked .init (some ⟨0, 7, 3, 0⟩), ⟨0, 7, 3, 0⟩, by decide +kernel⟩,
   ⟨casked (boundQ 0 false) (some ⟨0, 8, 3, 5⟩), ⟨0, 8, 3, 5⟩, by decide +kernel⟩,
   ⟨casked (boundQ 0 false) (some ⟨1, 7, 0, 0⟩), ⟨1, 7, 0, 0⟩, by decide +kernel⟩,
   ⟨casked (boundQ 0 true) (some ⟨1, 7, 0, 0⟩), ⟨1, 7, 0, 0⟩, by decide +kernel⟩,
   ⟨casked (boundQ 2 false) (some ⟨2, 7, 0, 0⟩), ⟨2, 7, 0, 0⟩, by decide +kernel⟩,
   ⟨casked (boundQ 1 false) (some ⟨3, 7, 0, 0⟩), ⟨3, 7, 0, 0⟩, by decide +kernel⟩,
   ⟨casked (boundQ 1 true) (some ⟨3, 7, 0, 0⟩), ⟨3, 7, 0, 0⟩, by decide +kernel⟩,
   ⟨ringed (casked (boundQ 2 false) (some ⟨4, 7, 0, 0⟩)) 1 1 { RingRun.init with claimed := 2 }, ⟨4, 7, 0, 0⟩, by decide +kernel⟩,
   ⟨casked (boundQ 2 false) (some ⟨7, 7, 0, 0⟩), 7, ⟨7, 7, 0, 0⟩, by decide +kernel⟩,
   ⟨(up.put Reg.CASK.POOL_COUNT.N 0x4000000), 0x1FFFF, by decide +kernel⟩,
   ⟨up, 1, by decide +kernel⟩,
   ⟨up.puts [(Reg.CASK.POOL_COUNT.N, 7), (Reg.CASK.FLOOR.N 0, 7)], by decide +kernel⟩⟩

theorem witness_SendCommands :
    (∃ (s : State) (n : Fin 4096) (d : List Byte) (st : Status), Instr.wf (.send n d) = true ∧ s.cmdDue n = true ∧ sendError d = some st)
    ∧ (∃ (s : State) (n : Fin 4096) (d : List Byte), Instr.wf (.send n d) = true ∧ s.cmdDue n = true ∧ sendError d = none)
    ∧ (∃ (s : State) (n : Fin 4096) (w : WalkIn) (d : List Byte) (payload : List Byte), s.live = true ∧ (s.ring n).stale = 0 ∧ s.firstBad true (s.doorbell n + 4) 4 = none ∧ (s.ring n).sending = some ⟨d⟩ ∧ itemType d ≠ 4 ∧ s.walkData w (leAt d 1 1 % 4) (leAt d 32 8) (leAt d 40 4) (itemPaylen d) (sliceB d 48 16) = .bytes payload ∧ payloadError d payload = none ∧ s.enqueueError (itemQueue d) (itemPaylen d) (cvBytes (itemCvlen d)) = none ∧ 0 < (s.queue (itemQueue d)).count ∧ s.cask.held.length = 3 ∧ payload.length = itemPaylen d)
    ∧ (∃ (s : State) (n : Fin 4096) (w : WalkIn) (d : List Byte) (payload : List Byte), s.live = true ∧ (s.ring n).sending = some ⟨d⟩ ∧ itemType d ≠ 4 ∧ s.walkData w (leAt d 1 1 % 4) (leAt d 32 8) (leAt d 40 4) (itemPaylen d) (sliceB d 48 16) = .bytes payload ∧ payloadError d payload = none ∧ s.enqueueError (itemQueue d) (itemPaylen d) (cvBytes (itemCvlen d)) = none ∧ (s.queue (itemQueue d)).count = 0 ∧ (s.queue (itemQueue d)).sent = false ∧ bitsAt (s.get Reg.TUN.POLICY_CFG.HOOK_EN) 1 1 = 0)
    ∧ (∃ (s : State) (n : Fin 4096) (w : WalkIn) (d : List Byte), s.live = true ∧ (s.ring n).sending = some ⟨d⟩ ∧ itemType d = 4)
    ∧ (∃ (s : State) (n : Fin 4096) (w : WalkIn) (d : List Byte) (payload : List Byte) (st : Status), s.live = true ∧ (s.ring n).sending = some ⟨d⟩ ∧ itemType d ≠ 4 ∧ s.walkData w (leAt d 1 1 % 4) (leAt d 32 8) (leAt d 40 4) (itemPaylen d) (sliceB d 48 16) = .bytes payload ∧ (payloadError d payload = some st ∨ (payloadError d payload = none ∧ s.enqueueError (itemQueue d) (itemPaylen d) (cvBytes (itemCvlen d)) = some st)))
    ∧ (∃ (s : State) (n : Fin 4096) (w : WalkIn) (d : List Byte) (st : Status) (a : Nat), s.live = true ∧ (s.ring n).sending = some ⟨d⟩ ∧ itemType d ≠ 4 ∧ s.walkData w (leAt d 1 1 % 4) (leAt d 32 8) (leAt d 40 4) (itemPaylen d) (sliceB d 48 16) = .fault st a) :=
  ⟨⟨cmd2 up, 2, sendD 3 0, .badField, by decide +kernel⟩,
   ⟨cmd2 up, 2, sendD 2 0, by decide +kernel⟩,
   ⟨windowed (sendingD (sendD 2 0) (pooled (casked (boundQ 1 false) none))), 2, ⟨[], none⟩, sendD 2 0, List.replicate 16 0, by decide +kernel⟩,
   ⟨sendingD (sendD 2 0) (pooled (casked (boundQ 0 false) none)), 2, ⟨[], none⟩, sendD 2 0, List.replicate 16 0, by decide +kernel⟩,
   ⟨sendingD (sendD 0 16) (pooled (casked (boundQ 0 false) none)), 2, ⟨[], none⟩, sendD 0 16, by decide +kernel⟩,
   ⟨sendingD (sendD 2 0) up, 2, ⟨[], none⟩, sendD 2 0, List.replicate 16 0, .badField, by decide +kernel⟩,
   ⟨sendingD (sendD 0 0) up, 2, ⟨[], none⟩, sendD 0 0, .badAddress, 0, by decide +kernel⟩⟩

theorem witness_ContactCommands :
    (∃ (s : State) (n : Fin 4096) (d : List Byte), Instr.wf (.contact n d) = true ∧ s.cmdDue n = true ∧ (s.nodeFind (leAt d 4 4)).2.2 = false ∧ leAt d 4 4 ≠ 0 ∧ leAt d 4 4 ≠ 0xFFFFFFFF ∧ leAt d 16 4 ≤ 1999999 ∧ bitsAt (leAt d 22 1) 0 3 ≤ 4 ∧ (s.guardNs (leAt d 4 4) : Int) < s.untilNs (leAt d 8 6) (leAt d 16 4) ∧ s.rx.contacts.length < 65536)
    ∧ (∃ (s : State) (n : Fin 4096) (d : List Byte), Instr.wf (.contact n d) = true ∧ s.cmdDue n = true ∧ (s.nodeFind (leAt d 4 4)).2.2 = false ∧ (leAt d 4 4 = 0 ∨ leAt d 4 4 = 0xFFFFFFFF ∨ 1999999 < leAt d 16 4 ∨ 5 ≤ bitsAt (leAt d 22 1) 0 3 ∨ s.untilNs (leAt d 8 6) (leAt d 16 4) ≤ s.guardNs (leAt d 4 4)))
    ∧ (∃ (s : State) (n : Fin 4096) (d : List Byte), Instr.wf (.contact n d) = true ∧ s.cmdDue n = true ∧ (s.nodeFind (leAt d 4 4)).2.2 = false ∧ leAt d 4 4 ≠ 0 ∧ leAt d 4 4 ≠ 0xFFFFFFFF ∧ leAt d 16 4 ≤ 1999999 ∧ bitsAt (leAt d 22 1) 0 3 ≤ 4 ∧ (s.guardNs (leAt d 4 4) : Int) < s.untilNs (leAt d 8 6) (leAt d 16 4) ∧ 65536 ≤ s.rx.contacts.length)
    ∧ (∃ (s : State) (n : Fin 4096) (d : List Byte) (id : Nat) (k : Contact), Instr.wf (.contactCancel n d) = true ∧ s.cmdDue n = true ∧ Tbl.wf s.rx.contacts = true ∧ Tbl.find? s.rx.contacts id = some k ∧ k.cmd.ring = n.val ∧ k.cmd.tag = leAt d 4 2 ∧ (∀ p ∈ s.rx.contacts, p.1 < id → ¬ (p.2.cmd.ring = n.val ∧ p.2.cmd.tag = leAt d 4 2)))
    ∧ (∃ (s : State) (n : Fin 4096) (d : List Byte), Instr.wf (.contactCancel n d) = true ∧ s.cmdDue n = true ∧ (∀ p ∈ s.rx.contacts, ¬ (p.2.cmd.ring = n.val ∧ p.2.cmd.tag = leAt d 4 2)))
    ∧ (∃ (s : State) (id : Nat) (k : Contact), s.live = true ∧ Tbl.find? s.rx.contacts id = some k ∧ s.untilNs k.msc k.ofs ≤ k.guard)
    ∧ (∃ (s : State) (id : Nat) (k : Contact), Tbl.find? s.rx.contacts id = some k ∧ (k.guard : Int) < s.untilNs k.msc k.ofs)
    ∧ (∃ (s : State) (id : Nat) (k : Contact), s.live = true ∧ Tbl.find? s.rx.contacts id = some k ∧ s.untilNs k.msc k.ofs ≤ -((k.guard + (k.windowUs + 100) * 1000 : Nat) : Int) ∧ s.contactHeld k = false)
    ∧ (∃ (s : State) (id : Nat) (k : Contact), Tbl.find? s.rx.contacts id = some k ∧ -((k.guard + (k.windowUs + 100) * 1000 : Nat) : Int) < s.untilNs k.msc k.ofs)
    ∧ (∃ (s : State) (a : Nat) (i : Nat) (w : Nat), s.nodeSound a = some (i, w)) :=
  ⟨⟨meshAt 0 (knows5 (cmd2 up)), 2, desc [2, 0, 6, 0, 5, 0, 0, 0, 100, 0, 0, 0, 0, 0, 0, 0, 0x7F, 0x84, 0x1E, 0, 7, 0, 4], by decide +kernel⟩,
   ⟨meshAt 0 (knows5 (cmd2 up)), 2, desc [2, 0, 6, 0, 5, 0, 0, 0, 100, 0, 0, 0, 0, 0, 0, 0, 0x80, 0x84, 0x1E, 0, 7, 0, 4], by decide +kernel⟩,
   ⟨(meshAt 0 (knows5 (cmd2 up))).onRx fun x => { x with contacts := List.replicate 65536 (7, contact5 1 2), nextContact := 70000 }, 2, desc [2, 0, 6, 0, 5, 0, 0, 0, 100, 0, 0, 0, 0, 0, 0, 0, 0x7F, 0x84, 0x1E, 0, 7, 0, 4], by and_intros; rotate_right; exact Nat.le_of_eq List.length_replicate.symm; all_goals decide +kernel⟩,
   ⟨(cmd2 up).onRx fun x => { x with contacts := [(3, { contact5 1 2 with cmd := ⟨2, 1, 0x21, 9⟩ }), (4, contact5 1 2), (9, contact5 1 2)], nextContact := 10 }, 2, desc [3, 0, 1, 0, 6], 4, contact5 1 2, by decide +kernel⟩,
   ⟨(cmd2 up).onRx fun x => { x with contacts := [(3, { contact5 1 2 with cmd := ⟨2, 1, 0x21, 9⟩ })], nextContact := 10 }, 2, desc [3, 0, 1, 0, 6], by decide +kernel⟩,
   ⟨(meshAt 0 up).onRx fun x => { x with contacts := [(9, contact5 0 1000)] }, 9, contact5 0 1000, by decide +kernel⟩,
   ⟨(meshAt 0 up).onRx fun x => { x with contacts := [(9, contact5 0 1001)] }, 9, contact5 0 1001, by decide +kernel⟩,
   ⟨((ringed (meshAt 151000 up) 1 1 { RingRun.init with claimed := 1 })).onRx fun x => { x with contacts := [(9, contact5 0 0)] }, 9, contact5 0 0, by decide +kernel⟩,
   ⟨(meshAt 150999 up).onRx fun x => { x with contacts := [(9, contact5 0 0)] }, 9, contact5 0 0, by decide +kernel⟩,
   ⟨knows5 up, 5, 0x100000, (nodeW 5 1), by decide +kernel⟩⟩

theorem witness_KilnStates :
    (∃ (s : State) (run : Nat) (same : Nat), s.logicUp = true ∧ s.kilnState = 0 ∧ run < 41 ∧ same < 841)
    ∧ (∃ (s : State) (run : Nat) (same : Nat), s.logicUp = true ∧ s.kilnState = 0 ∧ run < 41 ∧ same < 841)
    ∧ (∃ (s : State) (kat : Bool) (run : Nat) (same : Nat), s.logicUp = true ∧ s.kilnState = 0 ∧ run ≤ 1024 ∧ same ≤ 1024 ∧ (41 ≤ run ∨ 841 ≤ same))
    ∧ (∃ (s : State) (wrong : Nat), s.logicUp = true ∧ s.kilnState = 1 ∧ 100 * wrong ≤ 12 * 32768)
    ∧ (∃ (s : State) (wrong : Nat) (helper : Bool), s.logicUp = true ∧ s.kilnState = 1 ∧ wrong ≤ 32768 ∧ (helper = false ∨ 12 * 32768 < 100 * wrong))
    ∧ (∃ (s : State), s.logicUp = true ∧ s.on Reg.RNG.STATUS.SEEDED = false ∧ s.on Reg.RNG.STATUS.FAULT = false)
    ∧ (∃ (s : State) (v : BitVec 32), s.hostUp = true ∧ s.on Reg.KILN.CTL.LOCK = false ∧ s.kilnReady = true ∧ s.get Reg.KILN.CTL.APPROVED = 0 ∧ bitsAt v.toNat 0 1 = 1 ∧ s.on Reg.KILN.STATUS.DEBUG_OPEN = false)
    ∧ (∃ (s : State) (v : BitVec 32), s.hostUp = true ∧ s.on Reg.KILN.CTL.LOCK = false ∧ s.kilnReady = true ∧ s.get Reg.KILN.CTL.APPROVED = 1 ∧ bitsAt v.toNat 0 1 = 0 ∧ s.kiln.reqs = [] ∧ s.rx.groups = [])
    ∧ (∃ (s : State) (v : BitVec 32), s.on Reg.KILN.CTL.LOCK = true)
    ∧ (∃ (s : State) (v : BitVec 32), s.hostUp = true ∧ s.on Reg.KILN.CTL.LOCK = false ∧ bitsAt v.toNat 0 1 ≠ s.get Reg.KILN.CTL.APPROVED ∧ (s.kilnReady = false ∨ (bitsAt v.toNat 0 1 = 1 ∧ s.on Reg.KILN.STATUS.DEBUG_OPEN = true)))
    ∧ (∃ (s : State) (v : BitVec 32), s.hostUp = true ∧ s.on Reg.KILN.STATUS.FLOOR_SET = false)
    ∧ (∃ (s : State) (v : BitVec 32), s.hostUp = true ∧ s.on Reg.KILN.STATUS.FLOOR_SET = true)
    ∧ (∃ (s : State) (src : TamperSource), s.fires src = true ∧ s.up = true ∧ s.kilnState = 2 ∧ s.kiln.reqs = [] ∧ s.rx.groups = [])
    ∧ (∃ (s : State) (src : TamperSource), s.fires src = true ∧ s.power.phase = .night)
    ∧ (∃ (s : State) (src : TamperSource), s.fires src = true ∧ s.power.phase = .boot ∧ s.kilnState < 2)
    ∧ (∃ (s : State) (k : Fin 4) (ns : Nat), (s.kiln.pinEn.getLsbD k = false ∨ ns < 1000))
    ∧ (∃ (s : State) (uv : Nat) (ns : Nat), (1500000 ≤ uv ∨ ns < 1000))
    ∧ (∃ (s : State) (hz : Nat) (ns : Nat), 0 < hz ∧ 95 * 40960000 ≤ 100 * hz ∧ 100 * hz ≤ 105 * 40960000)
    ∧ (∃ (s : State) (run : Nat) (same : Nat), s.logicUp = true ∧ run ≤ 1024 ∧ same ≤ 1024 ∧ (41 ≤ run ∨ 841 ≤ same))
    ∧ (∃ (s : State) (v : BitVec 32), s.hostUp = true ∧ bitsAt v.toNat 0 1 = 1 ∧ s.on Reg.RNG.CTL.RESTART = false)
    ∧ (∃ (s : State) (v : BitVec 32), s.on Reg.RNG.CTL.RESTART = true)
    ∧ (∃ (s : State) (run : Nat) (same : Nat), s.logicUp = true ∧ s.on Reg.RNG.CTL.RESTART = true ∧ run < 41 ∧ same < 841 ∧ s.kiln.restartBad = false)
    ∧ (∃ (s : State) (run : Nat) (same : Nat), s.logicUp = true ∧ s.on Reg.RNG.CTL.RESTART = true ∧ run ≤ 1024 ∧ same ≤ 1024 ∧ (41 ≤ run ∨ 841 ≤ same))
    ∧ (∃ (s : State) (run : Nat) (same : Nat), s.logicUp = true ∧ s.on Reg.RNG.CTL.RESTART = true ∧ run < 41 ∧ same < 841 ∧ s.kiln.restartBad = true)
    ∧ (∃ (s : State), s.logicUp = true ∧ s.on Reg.RNG.STATUS.SEEDED = true ∧ s.on Reg.RNG.STATUS.FAULT = false ∧ 65536 ≤ s.kiln.gens)
    ∧ (∃ (s : State), s.kiln.gens < 65536)
    ∧ (∃ (s : State), s.logicUp = true)
    ∧ (∃ (s : State), s.logicUp = true) :=
  ⟨⟨up.put Reg.KILN.STATUS.STATE 0, 40, 840, by decide +kernel⟩,
   ⟨up.put Reg.KILN.STATUS.STATE 0, 40, 840, by decide +kernel⟩,
   ⟨up.put Reg.KILN.STATUS.STATE 0, true, 41, 840, by decide +kernel⟩,
   ⟨up.put Reg.KILN.STATUS.STATE 1, 3932, by decide +kernel⟩,
   ⟨up.put Reg.KILN.STATUS.STATE 1, 3933, true, by decide +kernel⟩,
   ⟨up, by decide +kernel⟩,
   ⟨up.put Reg.KILN.STATUS.STATE 2, 3, by decide +kernel⟩,
   ⟨(slot9 0x12 (up.puts [(Reg.KILN.STATUS.STATE, 2), (Reg.KILN.CTL.APPROVED, 1)])), 0, by decide +kernel⟩,
   ⟨up.put Reg.KILN.CTL.LOCK 1, 1, by decide +kernel⟩,
   ⟨up.puts [(Reg.KILN.STATUS.STATE, 2), (Reg.KILN.STATUS.DEBUG_OPEN, 1)], 1, by decide +kernel⟩,
   ⟨up, 0xFFFFFFFF, by decide +kernel⟩,
   ⟨up.put Reg.KILN.STATUS.FLOOR_SET 1, 5, by decide +kernel⟩,
   ⟨slot9 0x12 ((up.put Reg.KILN.STATUS.STATE 2).onKiln fun k => { k with pinEn := 8 }), .pin 3 1000, by decide +kernel⟩,
   ⟨inPhase .night, .temperature 0 1301, by decide +kernel⟩,
   ⟨inPhase .boot, .clock 38911999 0, by decide +kernel⟩,
   ⟨up.onKiln fun k => { k with pinEn := 7 }, 3, 1000, by decide +kernel⟩,
   ⟨up, 1500000, 1000, by decide +kernel⟩,
   ⟨up, 38912000, 5000, by decide +kernel⟩,
   ⟨up, 41, 841, by decide +kernel⟩,
   ⟨up, 1, by decide +kernel⟩,
   ⟨up.put Reg.RNG.CTL.RESTART 1, 1, by decide +kernel⟩,
   ⟨up.puts [(Reg.RNG.CTL.RESTART, 1), (Reg.RNG.STATUS.TESTING, 1), (Reg.RNG.STATUS.FAULT, 1)], 40, 840, by decide +kernel⟩,
   ⟨up.puts [(Reg.RNG.CTL.RESTART, 1), (Reg.RNG.STATUS.TESTING, 1)], 5, 841, by decide +kernel⟩,
   ⟨(up.puts [(Reg.RNG.CTL.RESTART, 1), (Reg.RNG.STATUS.TESTING, 1)]).onKiln fun k => { k with restartBad := true }, 5, 5, by decide +kernel⟩,
   ⟨(up.put Reg.RNG.STATUS.SEEDED 1).onKiln fun k => { k with gens := 65536 }, by decide +kernel⟩,
   ⟨up.onKiln fun k => { k with gens := 65535 }, by decide +kernel⟩,
   ⟨up.onKiln fun k => { k with present := 999 }, by decide +kernel⟩,
   ⟨up.onKiln fun k => { k with present := 999 }, by decide +kernel⟩⟩

theorem witness_KilnRefusals :
    (∃ (s : State) (n : Fin 4096) (d : List Byte) (data : Option (List Byte)) (st : Status), s.cmdDue n = true ∧ s.kilnWaits .plain = false ∧ s.kilnRefuses .plain = some st)
    ∧ (∃ (s : State) (n : Fin 4096) (d : List Byte) (data : Option (List Byte)), s.cmdDue n = true ∧ s.kilnState = 2 ∧ s.on Reg.KILN.STATUS.PRESENT = false ∧ Instr.wf (.enrol n d data) = true ∧ (s.on Reg.RNG.STATUS.SEEDED = true ∨ s.on Reg.RNG.STATUS.FAULT = true))
    ∧ (∃ (s : State) (n : Fin 4096) (d : List Byte), s.cmdDue n = true ∧ s.kilnState = 2 ∧ s.on Reg.RNG.STATUS.FAULT = true ∧ Instr.wf (.random n d) = true) :=
  ⟨⟨kiln 4, 2, kdesc 0x22 0 0 0 0 0 0 0, some [], .tamperHeld, by decide +kernel⟩,
   ⟨(kiln 2).put Reg.KILN.STATUS.PRESENT 0, 2, kdesc 0x2C 0 0 0 97 0 0 0, some [], by decide +kernel⟩,
   ⟨(kiln 2).put Reg.RNG.STATUS.FAULT 1, 2, kdesc 0x29 0 0 0 0 4 0 0, by decide +kernel⟩⟩

theorem witness_KeyCommands :
    (∃ (s : State) (n : Fin 4096) (d : List Byte) (data : List Byte) (m : List Byte), Instr.wf (.keyLoadBlobs n d (some data)) = true ∧ s.kilnTakes n .plain = true ∧ 24 ≤ kInLen d ∧ kInLen d ≤ 196632 ∧ s.firstBad false (leAt d 8 8) (kInLen d) = none ∧ m = sliceB data 0 (kInLen d))
    ∧ (∃ (s : State) (n : Fin 4096) (d : List Byte) (data : Option (List Byte)), Instr.wf (.keyLoadBlobs n d data) = true ∧ s.kilnTakes n .plain = true ∧ (kInLen d < 24 ∨ 196632 < kInLen d))
    ∧ (∃ (s : State) (n : Fin 4096) (d : List Byte) (data : Option (List Byte)) (a : Nat), Instr.wf (.keyLoadBlobs n d data) = true ∧ s.kilnTakes n .plain = true ∧ 24 ≤ kInLen d ∧ kInLen d ≤ 196632 ∧ s.firstBad false (leAt d 8 8) (kInLen d) = some a)
    ∧ (∃ (s : State) (n : Fin 4096) (d : List Byte), Instr.wf (.keyLoadBlobs n d none) = true ∧ s.kilnTakes n .plain = true ∧ 24 ≤ kInLen d ∧ kInLen d ≤ 196632 ∧ s.firstBad false (leAt d 8 8) (kInLen d) = none)
    ∧ (∃ (s : State) (n : Fin 4096) (d : List Byte) (data : List Byte) (m : List Byte), Instr.wf (.keyUpdate n d (some data)) = true ∧ s.kilnTakes n .plain = true ∧ 400 ≤ kInLen d ∧ kInLen d ≤ 1888 ∧ s.firstBad false (leAt d 8 8) (kInLen d) = none ∧ m = sliceB data 0 (kInLen d))
    ∧ (∃ (s : State) (n : Fin 4096) (d : List Byte) (u : KeyUpdate), Instr.wf (.keyCommit n d) = true ∧ s.kilnTakes n .plain = true ∧ s.kiln.update = some u ∧ u.counter = kSlot d)
    ∧ (∃ (s : State) (n : Fin 4096) (d : List Byte), Instr.wf (.keyCommit n d) = true ∧ s.kilnTakes n .plain = true ∧ (∀ u, s.kiln.update = some u → u.counter ≠ kSlot d))
    ∧ (∃ (s : State) (n : Fin 4096) (d : List Byte) (data : List Byte) (x : Slot), Instr.wf (.keyUnwrap n d (some data)) = true ∧ s.kilnTakes n .plain = true ∧ s.targetBad d = false ∧ kInLen d = wrappedLen (kAttr d) ∧ s.firstBad false (leAt d 8 8) (kInLen d) = none ∧ s.sourceError (kSlot d) useWrap = none ∧ s.slot? (kSlot d) = some x)
    ∧ (∃ (s : State) (n : Fin 4096) (d : List Byte) (x : Slot), Instr.wf (.keyDerive n d) = true ∧ s.kilnTakes n .plain = true ∧ s.targetBad d = false ∧ s.sourceError (kSlot d) useDerive = none ∧ s.slot? (kSlot d) = some x)
    ∧ (∃ (s : State) (n : Fin 4096) (d : List Byte) (data : Option (List Byte)), s.kilnTakes n .plain = true ∧ s.targetBad d = true)
    ∧ (∃ (s : State) (n : Fin 4096) (d : List Byte) (st : Status), Instr.wf (.keyDerive n d) = true ∧ s.kilnTakes n .plain = true ∧ s.targetBad d = false ∧ s.sourceError (kSlot d) useDerive = some st)
    ∧ (∃ (s : State) (n : Fin 4096) (d : List Byte), Instr.wf (.keyClear n d) = true ∧ s.kilnTakes n .plain = true ∧ kSlot d < 4096 ∧ s.mapNames (kSlot d) = false)
    ∧ (∃ (s : State) (n : Fin 4096) (d : List Byte), Instr.wf (.keyClear n d) = true ∧ s.kilnTakes n .plain = true ∧ (4096 ≤ kSlot d ∨ s.mapNames (kSlot d) = true))
    ∧ (∃ (s : State) (n : Fin 4096) (d : List Byte) (x : Slot), Instr.wf (.keyInfo n d) = true ∧ s.kilnTakes n .plain = true ∧ kSlot d < 4096 ∧ s.slot? (kSlot d) = some x ∧ 4 ≤ leAt d 28 4 ∧ s.firstBad true (leAt d 20 8) 4 = none) :=
  ⟨⟨slot9 0x12 (kiln 2), 2, kdesc 0x20 0 0 0 24 0 0 0, [], List.replicate 24 0, by decide +kernel⟩,
   ⟨kiln 2, 2, kdesc 0x20 0 0 0 23 0 0 0, none, by decide +kernel⟩,
   ⟨(kiln 2).put (Reg.RING.WIN.EN 0) 0, 2, kdesc 0x20 0 0 0 24 0 0 0, none, 0, by decide +kernel⟩,
   ⟨kiln 2, 2, kdesc 0x20 0 0 0 24 0 0 0, by decide +kernel⟩,
   ⟨kiln 2, 2, kdesc 0x21 0 0 0 400 0 0 0, [], List.replicate 400 0, by decide +kernel⟩,
   ⟨(slot9 0x12 (kiln 2)).onKiln fun k => { k with update := some ⟨4095, [(9, ⟨0x22, [1]⟩), (4095, ⟨0x12, [2]⟩)]⟩, cache := [(0, cache5 5)] }, 2, kdesc 0x22 0 4095 0 0 0 0 0, ⟨4095, [(9, ⟨0x22, [1]⟩), (4095, ⟨0x12, [2]⟩)]⟩, by decide +kernel⟩,
   ⟨kiln 2, 2, kdesc 0x22 0 4095 0 0 0 0 0, by and_intros; rotate_right; exact (fun u h => by cases (show (none : Option KeyUpdate) = some u from h)); all_goals decide +kernel⟩,
   ⟨slot9 0x12 (kiln 2), 2, kdesc 0x23 0 9 4095 24 0 0x85 0, [], ⟨0x12, List.replicate 16 7⟩, by decide +kernel⟩,
   ⟨slot9 0x62 (kiln 2), 2, kdesc 0x24 0 9 4095 24 0 0x85 0, ⟨0x62, List.replicate 16 7⟩, by decide +kernel⟩,
   ⟨slot9 0x62 (kiln 2), 2, kdesc 0x24 0 9 4096 24 0 0x85 0, none, by decide +kernel⟩,
   ⟨slot9 0x12 (kiln 2), 2, kdesc 0x24 0 9 4095 24 0 0x85 0, .badKeyUse, by decide +kernel⟩,
   ⟨(slot9 0x12 (kiln 2)).onKiln fun k => { k with cache := [(0, cache5 5)] }, 2, kdesc 0x25 0 9 0 0 0 0 0, by decide +kernel⟩,
   ⟨(slot9 0x12 (kiln 2)).puts [(Reg.KILN.KEYMAP.EN 3 3 255, 1), (Reg.KILN.KEYMAP.VSLOT 3 3 255, 9)], 2, kdesc 0x25 0 9 0 0 0 0 0, by decide +kernel⟩,
   ⟨slot9 0x12 (kiln 2), 2, kdesc 0x26 0 9 0 0 4 0 0, ⟨0x12, List.replicate 16 7⟩, by decide +kernel⟩⟩

theorem witness_KilnServices :
    (∃ (s : State) (n : Fin 4096) (d : List Byte) (data : List Byte), Instr.wf (.checkGen n d (some data)) = true ∧ s.kilnTakes n .plain = true ∧ kTrunc d ≠ 0 ∧ kSlot d < 4096 ∧ kInLen d ≤ 65535 ∧ (s.approved = true → kTrunc d ≠ 4) ∧ s.firstBad false (leAt d 8 8) (kInLen d) = none ∧ s.queueRoom 2 = true ∧ kTrunc d ≤ leAt d 28 4 ∧ s.firstBad true (leAt d 20 8) (kTrunc d) = none)
    ∧ (∃ (s : State) (n : Fin 4096) (d : List Byte) (data : List Byte), Instr.wf (.checkVerify n d (some data)) = true ∧ s.kilnTakes n .plain = true ∧ kTrunc d ≠ 0 ∧ kSlot d < 4096 ∧ kInLen d ≤ 65535 ∧ (s.approved = true → kTrunc d ≠ 4) ∧ s.firstBad false (leAt d 8 8) (kInLen d) = none ∧ s.queueRoom 2 = true)
    ∧ (∃ (s : State) (n : Fin 4096) (d : List Byte) (data : Option (List Byte)), s.kilnTakes n .plain = true)
    ∧ (∃ (s : State) (n : Fin 4096) (d : List Byte), Instr.wf (.random n d) = true ∧ s.kilnTakes n ⟨false, false, false, true⟩ = true ∧ 1 ≤ leAt d 28 4 ∧ leAt d 28 4 ≤ 4096 ∧ s.firstBad true (leAt d 20 8) (leAt d 28 4) = none)
    ∧ (∃ (s : State) (n : Fin 4096) (d : List Byte), Instr.wf (.random n d) = true ∧ s.kilnTakes n ⟨false, false, false, true⟩ = true ∧ (leAt d 28 4 = 0 ∨ 4096 < leAt d 28 4))
    ∧ (∃ (s : State) (n : Fin 4096) (d : List Byte) (m : List Byte), Instr.wf (.attest n d) = true ∧ s.kilnTakes n ⟨true, false, false, true⟩ = true ∧ leAt d 36 1 ≤ 32 ∧ 3 ≤ s.kilnState ∧ m = (s.passDescriptor n).statement (nonceOf d (leAt d 36 1)) ∧ m.length + 96 ≤ leAt d 28 4 ∧ s.firstBad true (leAt d 20 8) (m.length + 96) = none)
    ∧ (∃ (s : State) (n : Fin 4096) (d : List Byte) (m : List Byte) (g : List Byte), Instr.wf (.attest n d) = true ∧ s.kilnTakes n ⟨true, false, false, true⟩ = true ∧ leAt d 36 1 ≤ 32 ∧ s.kilnState = 2 ∧ m = (s.passDescriptor n).statement (nonceOf d (leAt d 36 1)) ∧ g = ecdsaSign s.attestKey (Config.signSecret ((s.passDescriptor n).draw 56).2) m ∧ (m ++ g).length ≤ leAt d 28 4 ∧ s.firstBad true (leAt d 20 8) (m ++ g).length = none)
    ∧ (∃ (s : State) (n : Fin 4096) (d : List Byte) (k : List Byte), Instr.wf (.pubkeys n d) = true ∧ s.kilnTakes n .plain = true ∧ k = publicKey s.attestKey ++ publicKey s.updateKey ∧ k.length ≤ leAt d 28 4 ∧ s.firstBad true (leAt d 20 8) k.length = none)
    ∧ (∃ (s : State) (n : Fin 4096) (d : List Byte) (data : List Byte), Instr.wf (.enrol n d (some data)) = true ∧ s.kilnTakes n ⟨false, false, true, true⟩ = true ∧ s.otp.active = 0 ∧ s.otp.enrol.length < 8 ∧ kInLen d = 97 ∧ s.firstBad false (leAt d 8 8) 97 = none)
    ∧ (∃ (s : State) (n : Fin 4096) (d : List Byte) (data : Option (List Byte)), Instr.wf (.enrol n d data) = true ∧ s.kilnTakes n ⟨false, false, true, true⟩ = true ∧ s.otp.active = 0 ∧ 8 ≤ s.otp.enrol.length)
    ∧ (∃ (s : State) (n : Fin 4096) (d : List Byte), Instr.wf (.zeroiseReenrol n d) = true ∧ s.kilnTakes n ⟨false, false, true, true⟩ = true ∧ s.otp.enrol.length < 8)
    ∧ (∃ (s : State) (n : Fin 4096) (d : List Byte), Instr.wf (.debugUnlock n d) = true ∧ s.kilnTakes n ⟨false, false, true, false⟩ = true ∧ s.approved = false ∧ s.kiln.reqs = [] ∧ s.rx.groups = [])
    ∧ (∃ (s : State) (n : Fin 4096) (d : List Byte), Instr.wf (.debugUnlock n d) = true ∧ s.kilnTakes n ⟨false, false, true, false⟩ = true ∧ s.approved = true)
    ∧ (∃ (s : State) (n : Fin 4096) (d : List Byte), Instr.wf (.tamperAck n d) = true ∧ s.kilnTakes n ⟨false, true, true, false⟩ = true)
    ∧ (∃ (s : State) (n : Fin 4096) (d : List Byte), Instr.wf (.cacheFlush n d) = true ∧ s.kilnTakes n .plain = true)
    ∧ (∃ (s : State) (n : Fin 4096) (d : List Byte), Instr.wf (.kilnBadOpcode n d) = true ∧ s.kilnTakes n .plain = true) :=
  ⟨⟨kiln 2, 2, kdesc 0x27 3 4095 0 9 16 0 0, [1, 2, 3], by decide +kernel⟩,
   ⟨kiln 2, 2, kdesc 0x28 1 4095 0 9 0 0 0, [1, 2, 3], by decide +kernel⟩,
   ⟨kiln 2, 2, kdesc 0x27 0 4095 0 9 16 0 0, some [], by decide +kernel⟩,
   ⟨kiln 2, 2, kdesc 0x29 0 0 0 0 4096 0 0, by decide +kernel⟩,
   ⟨kiln 2, 2, kdesc 0x29 0 0 0 0 4097 0 0, by decide +kernel⟩,
   ⟨kiln 4, 2, kdesc 0x2A 0 0 0 0 1000 0 32, ((kiln 4).passDescriptor 2).statement (nonceOf (kdesc 0x2A 0 0 0 0 1000 0 32) 32), by and_intros; rotate_left 4; exact rfl; all_goals decide +kernel⟩,
   ⟨kiln 2, 2, kdesc 0x2A 0 0 0 0 1000 0 32, ((kiln 2).passDescriptor 2).statement (nonceOf (kdesc 0x2A 0 0 0 0 1000 0 32) 32), ecdsaSign (kiln 2).attestKey (Config.signSecret (((kiln 2).passDescriptor 2).draw 56).2) (((kiln 2).passDescriptor 2).statement (nonceOf (kdesc 0x2A 0 0 0 0 1000 0 32) 32)), by and_intros; rotate_left 4; exact rfl; exact rfl; all_goals decide +kernel⟩,
   ⟨kiln 2, 2, kdesc 0x2B 0 0 0 0 194 0 0, publicKey (kiln 2).attestKey ++ publicKey (kiln 2).updateKey, by and_intros; rotate_left 2; exact rfl; (rw [List.length_append, publicKey, publicKey, ecBytes_length, ecBytes_length]; decide +kernel); (rw [List.length_append, publicKey, publicKey, ecBytes_length, ecBytes_length]; decide +kernel); all_goals decide +kernel⟩,
   ⟨kiln 2, 2, kdesc 0x2C 0 0 0 97 0 0 0, [4], by decide +kernel⟩,
   ⟨(kiln 2).onOtp fun o => { o with enrol := List.replicate 8 [] }, 2, kdesc 0x2C 0 0 0 97 0 0 0, some [4], by decide +kernel⟩,
   ⟨kiln 2, 2, kdesc 0x2D 0 0 0 0 0 0 0, by decide +kernel⟩,
   ⟨slot9 0x12 (kiln 2), 2, kdesc 0x2E 0 0 0 0 0 0 0, by decide +kernel⟩,
   ⟨(kiln 2).put Reg.KILN.CTL.APPROVED 1, 2, kdesc 0x2E 0 0 0 0 0 0 0, by decide +kernel⟩,
   ⟨kiln 4, 2, kdesc 0x2F 0 0 0 0 0 0 0, by decide +kernel⟩,
   ⟨(kiln 2).onKiln fun k => { k with cache := [(0, cache5 5), (1, cache5 6)] }, 2, (kdesc 0x30 0 0 0 0 0 0 1).set 8 5, by decide +kernel⟩,
   ⟨kiln 2, 2, kdesc 0x3F 0 0 0 0 0 0 0, by decide +kernel⟩⟩

theorem witness_GroupCommands :
    (∃ (s : State) (f : Fin 6) (i : CopyInfo) (head : List Byte) (phy : Nat) (bits : List Bool) (llrs : List Int) (l : List UpMsg), s.live = true ∧ s.upMsgs f = .segment i 0 head phy bits llrs :: l ∧ s.groupOfCopy i.serial = none ∧ s.groupFor i = none ∧ (macClass head ≠ 0 ∨ macCvlen head = 0 ∨ s.kilnReady = false))
    ∧ (∃ (s : State) (f : Fin 6) (i : CopyInfo) (head : List Byte) (phy : Nat) (bits : List Bool) (llrs : List Int) (l : List UpMsg) (id : Nat) (g : Group), s.live = true ∧ s.upMsgs f = .segment i 0 head phy bits llrs :: l ∧ s.groupOfCopy i.serial = none ∧ s.groupFor i = some (id, g) ∧ (∀ c ∈ g.copies, c.info.serial ≠ i.serial) ∧ (macClass head ≠ 0 ∨ macCvlen head = 0 ∨ s.kilnReady = false))
    ∧ (∃ (s : State) (f : Fin 6) (i : CopyInfo) (ix : Nat) (head : List Byte) (phy : Nat) (bits : List Bool) (llrs : List Int) (l : List UpMsg), s.live = true ∧ s.upMsgs f = .segment i (ix + 1) head phy bits llrs :: l ∧ s.groupOfCopy i.serial = none)
    ∧ (∃ (g : Group) (b : BlendForce) (i : CopyInfo), g.takes b i = true)
    ∧ (∃ (s : State) (f : Fin 6) (r : FrameRecord) (l : List UpMsg) (id : Nat) (g : Group) (x : Group) (c : Copy), s.live = true ∧ s.upMsgs f = .record r :: l ∧ s.groupOfCopy r.info.serial = some (id, g) ∧ g.copy? r.info.serial = some c ∧ c.late = false ∧ s.profile ≠ 0 ∧ g.prov = false ∧ g.counted = false ∧ x = (s.regroup id (g.setCopy { c with record := some (r.lqi, r.done), recordAt := s.rx.nextOrder, phy := r.phy, head := r.head }) r.info.f).2 ∧ x.copies.length ≤ 8)
    ∧ (∃ (s : State) (id : Nat) (f : Nat) (g : Group), s.profile = 2)
    ∧ (∃ (s : State) (id : Nat) (f : Nat) (g : Group), s.profile ≠ 2)
    ∧ (∃ (s : State) (f : Fin 6) (r : FrameRecord) (l : List UpMsg) (id : Nat) (g : Group) (x : Group) (c : Copy), s.live = true ∧ s.upMsgs f = .record r :: l ∧ s.groupOfCopy r.info.serial = some (id, g) ∧ g.copy? r.info.serial = some c ∧ c.late = false ∧ g.profile ≠ 0 ∧ g.prov = true ∧ g.closed = false ∧ g.counted = false ∧ x = g.setCopy { c with record := some (r.lqi, r.done), recordAt := s.rx.nextOrder, phy := r.phy, head := r.head })
    ∧ (∃ (s : State) (id : Nat) (g : Group), s.group? id = some g ∧ g.prov = true ∧ g.counted = false)
    ∧ (∃ (s : State) (id : Nat) (g : Group), s.group? id = some g ∧ (g.prov = false ∨ g.counted = true))
    ∧ (∃ (s : State) (f : Fin 6) (r : FrameRecord) (l : List UpMsg) (id : Nat) (g : Group) (c : Copy), s.live = true ∧ s.upMsgs f = .record r :: l ∧ s.groupOfCopy r.info.serial = some (id, g) ∧ g.copy? r.info.serial = some c ∧ c.late = false ∧ g.profile ≠ 0 ∧ g.prov = true ∧ g.closed = true)
    ∧ (∃ (s : State) (f : Fin 6) (r : FrameRecord) (l : List UpMsg), s.live = true ∧ s.upMsgs f = .record r :: l ∧ s.groupOfCopy r.info.serial = none)
    ∧ (∃ (s : State) (f : Fin 6) (serial : Nat) (b : Bool) (l : List UpMsg) (id : Nat) (g : Group), s.live = true ∧ s.upMsgs f = .endNotice serial b :: l ∧ s.groupOfCopy serial = some (id, g) ∧ (∀ c ∈ g.copies, c.info.serial = serial) ∧ g.prov = false)
    ∧ (∃ (s : State) (f : Fin 6) (serial : Nat) (b : Bool) (l : List UpMsg) (id : Nat) (g : Group), s.live = true ∧ s.upMsgs f = .endNotice serial b :: l ∧ s.groupOfCopy serial = some (id, g) ∧ (∃ c ∈ g.copies, c.info.serial ≠ serial) ∧ g.prov = false ∧ g.todo = [] ∧ g.heldOut = false)
    ∧ (∃ (s : State) (id : Nat) (seg : Nat) (g : Group), s.live = true ∧ s.group? id = some g ∧ g.profile ≠ 0 ∧ g.closed = false ∧ seg + 1 < segCount (codedBits g.len) ∧ seg ∉ g.closedSegs ∧ (∃ c ∈ g.copies, ∃ x ∈ c.segs, x.ix = seg))
    ∧ (∃ (s : State) (id : Nat) (g : Group), s.live = true ∧ s.group? id = some g ∧ g.prov = true ∧ g.closed = false ∧ g.profile ≠ 0 ∧ s.on Reg.BLEND.ELK.EN = false ∧ g.results.1 = true ∧ g.combined = none ∧ g.checking = none ∧ g.passed = none)
    ∧ (∃ (s : State) (id : Nat) (g : Group) (n : Nat) (h : List Byte), s.live = true ∧ s.group? id = some g ∧ g.prov = true ∧ g.closed = false ∧ g.profile ≠ 0 ∧ s.on Reg.BLEND.ELK.EN = false ∧ g.results = (false, [.copy n]) ∧ g.checking = none ∧ g.passed = none ∧ h = g.frame (.copy n) ∧ cvBytes (macCvlen h) ≠ 0 ∧ macClass h ≠ 0 ∧ s.kilnReady = true ∧ s.approved = false ∧ s.on (Reg.KILN.KEYMAP.EN g.net (macClass h) (macIndex h)) = true)
    ∧ (∃ (s : State) (id : Nat) (seg : Nat) (g : Group), s.live = true ∧ s.group? id = some g ∧ seg ∈ g.closedSegs ∧ seg ∉ g.decodedSegs ∧ (g.closed = false ∨ g.wantsCombined = true) ∧ seg + 1 ≠ segCount (codedBits g.len))
    ∧ (∃ (s : State) (id : Nat) (seg : Nat) (g : Group), s.live = true ∧ s.group? id = some g ∧ seg ∈ g.closedSegs ∧ seg ∉ g.decodedSegs ∧ (g.closed = false ∨ g.wantsCombined = true) ∧ seg + 1 = segCount (codedBits g.len) ∧ g.checking.isSome = true)
    ∧ (∃ (s : State) (id : Nat) (g : Group), s.live = true ∧ s.group? id = some g ∧ g.closed = true ∧ g.wantsCombined = true ∧ g.combined = none ∧ g.overload = false ∧ g.doneCopies = [])
    ∧ (∃ (s : State) (id : Nat) (g : Group), s.live = true ∧ s.group? id = some g ∧ g.closed = true ∧ g.wantsCombined = true ∧ g.combined = none ∧ g.overload = false ∧ g.doneCopies ≠ [] ∧ g.checking.isSome = true)
    ∧ (∃ (s : State) (id : Nat) (g : Group), s.live = true ∧ s.group? id = some g ∧ g.elkOpen = true)
    ∧ (∃ (s : State) (id : Nat) (g : Group), s.live = true ∧ s.group? id = some g ∧ g.closed = true ∧ g.heldOut = false ∧ g.ended = true ∧ g.confirmed = none ∧ g.todo = [] ∧ g.checking = none ∧ g.passed = none ∧ g.deliver = false ∧ g.elkOpen = false ∧ s.callOut id = false)
    ∧ (∃ (s : State) (id : Nat) (g : Group), s.live = true ∧ s.group? id = some g ∧ g.closed = true ∧ g.heldOut = false ∧ g.confirmed = none ∧ g.checking.isSome = true) :=
  ⟨⟨upm 5 [.segment (infoOf 9 26) 0 (mframe 0 0 0) 0 [] []] up, 5, infoOf 9 26, mframe 0 0 0, 0, [], [], [], by decide +kernel⟩,
   ⟨upm 5 [.segment (infoOf 9 26) 0 (mframe 0 0 0) 0 [] []] (grouped { grpOf [copyOf 8 (mframe 0 0 0) none] with closed := true } up), 5, infoOf 9 26, mframe 0 0 0, 0, [], [], [], 3, { grpOf [copyOf 8 (mframe 0 0 0) none] with closed := true }, by decide +kernel⟩,
   ⟨upm 5 [.segment (infoOf 9 26) 1 (mframe 0 0 0) 0 [] []] up, 5, infoOf 9 26, 0, mframe 0 0 0, 0, [], [], [], by decide +kernel⟩,
   ⟨grpOf [], up.blendForce, infoOf 9 26, by decide +kernel⟩,
   ⟨upm 5 [.record ⟨infoOf 9 26, 40, true, 3, 5, mframe 0 0 0, 1⟩] (grouped { grpOf [copyOf 9 (mframe 0 0 0) none] with prov := false } (up.put Reg.MAC.PROFILE.ACTIVE 1)), 5, ⟨infoOf 9 26, 40, true, 3, 5, mframe 0 0 0, 1⟩, [], 3, { grpOf [copyOf 9 (mframe 0 0 0) none] with prov := false }, ((upm 5 [.record ⟨infoOf 9 26, 40, true, 3, 5, mframe 0 0 0, 1⟩] (grouped { grpOf [copyOf 9 (mframe 0 0 0) none] with prov := false } (up.put Reg.MAC.PROFILE.ACTIVE 1))).regroup 3 (({ grpOf [copyOf 9 (mframe 0 0 0) none] with prov := false } : Group).setCopy { copyOf 9 (mframe 0 0 0) none with record := some (40, true), recordAt := 1, phy := 5, head := mframe 0 0 0 }) 5).2, copyOf 9 (mframe 0 0 0) none, by decide +kernel⟩,
   ⟨up.put Reg.MAC.PROFILE.ACTIVE 2, 3, 5, grpOf [copyOf 9 (mframe 0 0 0) none], by decide +kernel⟩,
   ⟨grouped { grpOf [copyOf 9 (mframe 0 0 0) none] with prov := false } (up.put Reg.MAC.PROFILE.ACTIVE 1), 4, 5, grpOf [copyOf 8 (mframe 0 0 0) none], by decide +kernel⟩,
   ⟨upm 5 [.record ⟨infoOf 9 26, 40, true, 3, 5, mframe 0 0 0, 1⟩] (grouped (grpOf [copyOf 9 (mframe 0 0 0) none]) (up.put Reg.MAC.PROFILE.ACTIVE 1)), 5, ⟨infoOf 9 26, 40, true, 3, 5, mframe 0 0 0, 1⟩, [], 3, grpOf [copyOf 9 (mframe 0 0 0) none], (grpOf [copyOf 9 (mframe 0 0 0) none]).setCopy { copyOf 9 (mframe 0 0 0) none with record := some (40, true), recordAt := 1, phy := 5, head := mframe 0 0 0 }, copyOf 9 (mframe 0 0 0) none, by decide +kernel⟩,
   ⟨grouped { grpOf [copyOf 9 (mframe 0 0 0) (some (40, true)), copyOf 10 (mframe 0 0 0) (some (30, false))] with surplus := 2 } up, 3, { grpOf [copyOf 9 (mframe 0 0 0) (some (40, true)), copyOf 10 (mframe 0 0 0) (some (30, false))] with surplus := 2 }, by decide +kernel⟩,
   ⟨grouped { grpOf [] with counted := true } up, 3, { grpOf [] with counted := true }, by decide +kernel⟩,
   ⟨upm 5 [.record ⟨infoOf 9 26, 40, true, 3, 5, mframe 0 0 0, 1⟩] (grouped { grpOf [copyOf 9 (mframe 0 0 0) none] with closed := true } (up.put Reg.MAC.PROFILE.ACTIVE 1)), 5, ⟨infoOf 9 26, 40, true, 3, 5, mframe 0 0 0, 1⟩, [], 3, { grpOf [copyOf 9 (mframe 0 0 0) none] with closed := true }, copyOf 9 (mframe 0 0 0) none, by decide +kernel⟩,
   ⟨upm 5 [.record ⟨infoOf 9 26, 40, true, 3, 5, mframe 0 0 0, 1⟩] up, 5, ⟨infoOf 9 26, 40, true, 3, 5, mframe 0 0 0, 1⟩, [], by decide +kernel⟩,
   ⟨upm 5 [.endNotice 9 true] (grouped { grpOf [copyOf 9 (mframe 0 0 0) none] with prov := false } up), 5, 9, true, [], 3, { grpOf [copyOf 9 (mframe 0 0 0) none] with prov := false }, by decide +kernel⟩,
   ⟨upm 5 [.endNotice 9 true] (grouped { grpOf [copyOf 9 (mframe 0 0 0) none, copyOf 10 (mframe 0 0 0) none] with prov := false } up), 5, 9, true, [], 3, { grpOf [copyOf 9 (mframe 0 0 0) none, copyOf 10 (mframe 0 0 0) none] with prov := false }, by decide +kernel⟩,
   ⟨grouped { grpOf [copyOf 9 (mframe 0 0 0) none] with len := 100 } up, 3, 0, { grpOf [copyOf 9 (mframe 0 0 0) none] with len := 100 }, by decide +kernel⟩,
   ⟨grouped (grpOf [copyOf 9 (mframe 0 0 0) (some (40, true)), copyOf 10 (mframe 0 0 0) (some (30, false))]) up, 3, grpOf [copyOf 9 (mframe 0 0 0) (some (40, true)), copyOf 10 (mframe 0 0 0) (some (30, false))], by decide +kernel⟩,
   ⟨grouped (grpOf [copyOf 9 (mframe 0 1 3) (some (40, true))]) (up.puts [(Reg.KILN.STATUS.STATE, 2), (Reg.KILN.KEYMAP.EN 1 3 0, 1), (Reg.KILN.KEYMAP.VSLOT 1 3 0, 9)]), 3, grpOf [copyOf 9 (mframe 0 1 3) (some (40, true))], 9, mframe 0 1 3, by decide +kernel⟩,
   ⟨grouped { grpOf [copyOf 9 (mframe 0 0 0) none] with len := 100, closedSegs := [2] } up, 3, 2, { grpOf [copyOf 9 (mframe 0 0 0) none] with len := 100, closedSegs := [2] }, by decide +kernel⟩,
   ⟨grouped { grpOf [copyOf 9 (mframe 0 0 0) (some (9, true))] with closedSegs := [0], checking := some (.copy 9, 4) } up, 3, 0, { grpOf [copyOf 9 (mframe 0 0 0) (some (9, true))] with closedSegs := [0], checking := some (.copy 9, 4) }, by decide +kernel⟩,
   ⟨grouped { grpOf [copyOf 9 (mframe 0 0 0) (some (9, false))] with closed := true, wantsCombined := true } up, 3, { grpOf [copyOf 9 (mframe 0 0 0) (some (9, false))] with closed := true, wantsCombined := true }, by decide +kernel⟩,
   ⟨grouped { grpOf [copyOf 9 (mframe 0 0 0) (some (9, true))] with closed := true, wantsCombined := true, checking := some (.copy 9, 4), todo := [.combined] } up, 3, { grpOf [copyOf 9 (mframe 0 0 0) (some (9, true))] with closed := true, wantsCombined := true, checking := some (.copy 9, 4), todo := [.combined] }, by decide +kernel⟩,
   ⟨grouped { grpOf [copyOf 9 (mframe 0 0 0) (some (9, true))] with elkOpen := true } up, 3, { grpOf [copyOf 9 (mframe 0 0 0) (some (9, true))] with elkOpen := true }, by decide +kernel⟩,
   ⟨grouped { grpOf [copyOf 9 (mframe 0 0 0) (some (9, true))] with closed := true, ended := true } up, 3, { grpOf [copyOf 9 (mframe 0 0 0) (some (9, true))] with closed := true, ended := true }, by decide +kernel⟩,
   ⟨grouped { grpOf [copyOf 9 (mframe 0 0 0) (some (9, true))] with closed := true, checking := some (.copy 9, 4) } up, 3, { grpOf [copyOf 9 (mframe 0 0 0) (some (9, true))] with closed := true, checking := some (.copy 9, 4) }, by decide +kernel⟩⟩

theorem witness_ReceiveFilters :
    (∃ (s : State) (id : Nat) (g : Group) (r : ResultSrc) (f : List Byte), s.live = true ∧ s.group? id = some g ∧ g.passed = some r ∧ f = g.frame r ∧ (macSeq f, macCtr f) ∈ s.pairsOf (macSrc f) ∧ g.confirmed = none ∧ g.todo = [] ∧ g.closed = true ∧ g.prov = true ∧ g.ended = false ∧ g.profile ≠ 0 ∧ g.elkOpen = false ∧ s.filterWaits id g r = false)
    ∧ (∃ (s : State) (id : Nat) (g : Group) (r : ResultSrc) (f : List Byte), s.live = true ∧ s.group? id = some g ∧ g.passed = some r ∧ f = g.frame r ∧ (macSeq f, macCtr f) ∉ s.pairsOf (macSrc f) ∧ (replayTest (Tbl.find? s.rx.replay (8 * macSrc f + macClass f)) (macIndex f) (macCtr f)).2 = none ∧ g.confirmed = none ∧ g.todo = [] ∧ g.closed = true ∧ g.prov = true ∧ g.ended = false ∧ g.profile ≠ 0 ∧ g.elkOpen = false ∧ s.filterWaits id g r = false)
    ∧ (∃ (s : State) (id : Nat) (g : Group) (r : ResultSrc) (f : List Byte) (x : Replay), s.live = true ∧ s.group? id = some g ∧ g.passed = some r ∧ f = g.frame r ∧ (macSeq f, macCtr f) ∉ s.pairsOf (macSrc f) ∧ (replayTest (Tbl.find? s.rx.replay (8 * macSrc f + macClass f)) (macIndex f) (macCtr f)).2 = some x ∧ g.confirmed = none ∧ s.filterWaits id g r = false)
    ∧ (∃ (s : State) (id : Nat) (k : Nat) (g : Group) (h : Group) (r : ResultSrc) (q : ResultSrc), s.group? id = some g ∧ g.passed = some r ∧ (k, h) ∈ s.rx.groups ∧ k ≠ id ∧ h.passed = some q ∧ macSrc (h.frame q) = macSrc (g.frame r) ∧ (h.passedAt < g.passedAt ∨ (h.passedAt = g.passedAt ∧ macCtr (h.frame q) < macCtr (g.frame r))))
    ∧ (∃ (x : Replay) (c : Nat), x.high < c ∧ x.high ≠ 0xFFFFFFFF)
    ∧ (∃ (x : Replay) (c : Nat), x.high ≠ 0xFFFFFFFF ∧ c ≤ x.high ∧ (64 ≤ x.high - c ∨ x.seen.getLsbD (x.high - c) = true))
    ∧ (∃ (x : Replay) (c : Nat), x.high = 0xFFFFFFFF)
    ∧ (∃ (x : Replay) (ix : Nat) (c : Nat), ix ≠ x.index)
    ∧ (∃ (s : State) (src : BitVec 32) (seq : BitVec 8) (ctr : BitVec 32), s.live = true)
    ∧ (∃ (s : State) (f : Fin 6) (n : Nat) (l : List Nat) (j : TxJob), s.live = true ∧ s.dieUp f = true ∧ s.safe.hold = false ∧ Tbl.getD s.rx.down f [] = n :: l ∧ s.job? n = some j)
    ∧ (∃ (s : State) (id : Nat) (g : Group) (c : Confirmed) (n : Nat) (a : Nat) (b : Nat), s.live = true ∧ s.group? id = some g ∧ g.confirmed = some c ∧ g.deliver = true ∧ s.callOut id = false ∧ s.earlierWaits (macSrc (g.frame c.src)) c.order = false ∧ s.rxRing g (macType (g.frame c.src)) = some n ∧ s.ringTakes n 2 = true ∧ s.ringFill n < s.ringSize n ∧ s.safe.hold = false ∧ a = s.get (Reg.RING.BUF_BASE.ADDR n) + (s.ring n).part % s.ringSize n * 2 ^ (5 + s.get (Reg.RING.CTL.BUF_LOG2 n)) ∧ b = s.get (Reg.RING.BASE.ADDR n) + (s.ring n).part % s.ringSize n * 64 ∧ s.firstBad true a (min (2 ^ (5 + s.get (Reg.RING.CTL.BUF_LOG2 n))) (g.body c.src).length) = none ∧ s.firstBad true b 64 = none ∧ s.firstBad true (s.doorbell n + 4) 4 = none)
    ∧ (∃ (s : State) (id : Nat) (g : Group) (c : Confirmed), s.live = true ∧ s.group? id = some g ∧ g.confirmed = some c ∧ g.deliver = true ∧ s.callOut id = false ∧ s.earlierWaits (macSrc (g.frame c.src)) c.order = false ∧ s.rxRing g (macType (g.frame c.src)) = none)
    ∧ (∃ (s : State) (id : Nat) (k : Nat) (r : CheckReq) (x : Slot), s.live = true ∧ Tbl.find? s.kiln.reqs id = some r ∧ s.admissible id r = true ∧ r.key = .slot k ∧ s.slot? k = some x ∧ s.slotError k (if r.verify then useVerify else useGen) r.kc = none)
    ∧ (∃ (s : State) (id : Nat) (k : Nat) (r : CheckReq) (c : CmdRef) (st : Status), s.live = true ∧ Tbl.find? s.kiln.reqs id = some r ∧ s.admissible id r = true ∧ r.key = .slot k ∧ r.why = .hostVerify c ∧ s.slotError k (if r.verify then useVerify else useGen) r.kc = some st)
    ∧ (∃ (s : State) (id : Nat) (out : Nat) (r : CheckReq) (key : List Byte) (c : CmdRef), s.live = true ∧ Tbl.find? s.kiln.reqs id = some r ∧ r.admitted = some key ∧ r.verify = false ∧ r.why = .hostGen c out ∧ s.firstBad true out ((cmac key r.msg).take r.trunc).length = none)
    ∧ (∃ (s : State) (id : Nat) (r : CheckReq) (key : List Byte) (c : CmdRef), s.live = true ∧ Tbl.find? s.kiln.reqs id = some r ∧ r.admitted = some key ∧ r.verify = true ∧ r.why = .hostVerify c)
    ∧ (∃ (s : State) (id : Nat) (q : Nat) (g : Group) (r : CheckReq) (key : List Byte) (src : ResultSrc), s.live = true ∧ Tbl.find? s.kiln.reqs q = some r ∧ r.admitted = some key ∧ r.why = .receive id ∧ s.group? id = some g ∧ g.checking = some (src, q) ∧ macType (g.frame src) ≠ 1 ∧ (cmac key r.msg).take r.trunc = r.tag) :=
  ⟨⟨(grouped { grpOf [copyOf 9 (mframe 0 1 3) (some (9, true))] with closed := true, passed := some (.copy 9) } up).onRx fun x => { x with pairs := [(5, [(4, 6)])] }, 3, { grpOf [copyOf 9 (mframe 0 1 3) (some (9, true))] with closed := true, passed := some (.copy 9) }, .copy 9, mframe 0 1 3, by decide +kernel⟩,
   ⟨(grouped { grpOf [copyOf 9 (mframe 0 1 3) (some (9, true))] with closed := true, passed := some (.copy 9) } up).onRx fun x => { x with replay := [(43, ⟨0, 70, 0⟩)] }, 3, { grpOf [copyOf 9 (mframe 0 1 3) (some (9, true))] with closed := true, passed := some (.copy 9) }, .copy 9, mframe 0 1 3, by decide +kernel⟩,
   ⟨(grouped { grpOf [copyOf 9 (mframe 0 1 3) (some (9, true))] with closed := true, passed := some (.copy 9) } up).onRx fun x => { x with replay := [(43, ⟨0, 69, 1⟩)], pairs := [(5, [(4, 5)])] }, 3, { grpOf [copyOf 9 (mframe 0 1 3) (some (9, true))] with closed := true, passed := some (.copy 9) }, .copy 9, mframe 0 1 3, ⟨0, 69, 0x8000000000000001⟩, by decide +kernel⟩,
   ⟨up.onRx fun x => { x with groups := [(3, { grpOf [copyOf 9 (mframe 0 1 3) (some (9, true))] with closed := true, passed := some (.copy 9), passedAt := 5 }), (4, { { grpOf [copyOf 9 (mframe 0 1 3) (some (9, true))] with closed := true, passed := some (.copy 9), passedAt := 5 } with passedAt := 4 })] }, 3, 4, { grpOf [copyOf 9 (mframe 0 1 3) (some (9, true))] with closed := true, passed := some (.copy 9), passedAt := 5 }, { { grpOf [copyOf 9 (mframe 0 1 3) (some (9, true))] with closed := true, passed := some (.copy 9), passedAt := 5 } with passedAt := 4 }, .copy 9, .copy 9, by decide +kernel⟩,
   ⟨⟨0, 5, 1⟩, 69, by decide +kernel⟩,
   ⟨⟨0, 70, 0⟩, 6, by decide +kernel⟩,
   ⟨⟨0, 0xFFFFFFFF, 1⟩, 6, by decide +kernel⟩,
   ⟨⟨200, 5, 1⟩, 71, 6, by decide +kernel⟩,
   ⟨up.onRx fun x => { x with pairs := [(5, [(4, 6), (3, 7)])] }, 5, 4, 6, by decide +kernel⟩,
   ⟨(up.onRx fun x => { x with down := [(5, [12, 13])] }).onTx fun x => { x with jobs := [(12, jobOf (.ack 3) 5 97 1000 .building)] }, 5, 12, [13], jobOf (.ack 3) 5 97 1000 .building, by decide +kernel⟩,
   ⟨ringed (windowed (grouped { grpOf [copyOf 9 (mframe 0 1 3) (some (9, true))] with confirmed := some ⟨.copy 9, true, 1⟩, deliver := true, ring := some 7 } up)) 7 2 { RingRun.init with host := 2, part := 4 }, 3, { grpOf [copyOf 9 (mframe 0 1 3) (some (9, true))] with confirmed := some ⟨.copy 9, true, 1⟩, deliver := true, ring := some 7 }, ⟨.copy 9, true, 1⟩, 7, 128, 256, by decide +kernel⟩,
   ⟨grouped { grpOf [copyOf 9 (mframe 0 1 3) (some (9, true))] with confirmed := some ⟨.copy 9, true, 1⟩, deliver := true } up, 3, { grpOf [copyOf 9 (mframe 0 1 3) (some (9, true))] with confirmed := some ⟨.copy 9, true, 1⟩, deliver := true }, ⟨.copy 9, true, 1⟩, by decide +kernel⟩,
   ⟨req4 (hostReq true none [1, 2, 3, 4]) (slot9 0x109 (kiln 2)), 4, 9, hostReq true none [1, 2, 3, 4], ⟨0x109, List.replicate 16 7⟩, by decide +kernel⟩,
   ⟨req4 (hostReq true none [1, 2, 3, 4]) (kiln 2), 4, 9, hostReq true none [1, 2, 3, 4], ⟨2, 1, 0x28, 6⟩, .notFound, by decide +kernel⟩,
   ⟨req4 (hostReq false (some (List.replicate 16 7)) []) (slot9 0x105 (kiln 2)), 4, 64, hostReq false (some (List.replicate 16 7)) [], List.replicate 16 7, ⟨2, 1, 0x27, 6⟩, by decide +kernel⟩,
   ⟨req4 (hostReq true (some (List.replicate 16 7)) [1, 2, 3, 4]) (slot9 0x109 (kiln 2)), 4, hostReq true (some (List.replicate 16 7)) [1, 2, 3, 4], List.replicate 16 7, ⟨2, 1, 0x28, 6⟩, by decide +kernel⟩,
   ⟨grouped { grpOf [copyOf 9 (mframe 0 1 3) (some (9, true))] with checking := some (.copy 9, 4) } (req4 { hostReq true (some (List.replicate 16 7)) ((cmac (List.replicate 16 7) [1, 2]).take 4) with why := .receive 3 } (kiln 2)), 3, 4, { grpOf [copyOf 9 (mframe 0 1 3) (some (9, true))] with checking := some (.copy 9, 4) }, { hostReq true (some (List.replicate 16 7)) ((cmac (List.replicate 16 7) [1, 2]).take 4) with why := .receive 3 }, List.replicate 16 7, .copy 9, by decide +kernel⟩⟩

theorem witness_TransmitCommands :
    (∃ (s : State) (f : Fin 6) (c : Fin 2) (i : Nat) (x : TxJob), s.dieUp f = true ∧ Tbl.wf s.tx.jobs = true ∧ s.job? i = some x ∧ x.stage = .onAir ∧ x.f = f.val ∧ x.o = 96 + c.val)
    ∧ (∃ (s : State) (f : Fin 6) (c : Fin 2) (fw : Nat) (rv : Nat) (granted : Bool), 4 * rv ≤ fw ∧ s.live = true ∧ s.dieUp f = true ∧ s.on (Reg.FRF.TXCH.FAULT f c) = true ∧ s.lookContacts = s ∧ s.mayRadiate = true ∧ s.probeBusy f c = false ∧ s.cxAllows f (96 + c) granted = true)
    ∧ (∃ (s : State) (f : Fin 6) (c : Fin 2) (fw : Nat) (rv : Nat) (granted : Bool), fw < 4 * rv ∧ s.live = true ∧ s.dieUp f = true ∧ s.on (Reg.FRF.TXCH.FAULT f c) = true ∧ s.lookContacts = s ∧ s.mayRadiate = true ∧ s.probeBusy f c = false ∧ s.cxAllows f (96 + c) granted = true)
    ∧ (∃ (s : State) (f : Fin 6) (c : Fin 2) (fw : Nat) (rv : Nat) (granted : Bool), s.live = true ∧ s.dieUp f = true ∧ s.on (Reg.FRF.TXCH.FAULT f c) = true ∧ s.lookContacts = s ∧ (s.mayRadiate = false ∨ s.probeBusy f c = true ∨ s.cxAllows f (96 + c) granted = false))
    ∧ (∃ (s : State) (f : Nat) (c : Nat), (s.sourceUp f (s.get (Reg.TX.OUT.LISTEN f (96 + c))) = false ∨ s.contactBlocks f (96 + c) (s.get (Reg.TX.GRID f (96 + c)) + 15) 1 (s.meshNs + 20000) = true ∨ s.contactBlocks f (96 + c) (s.get (Reg.TX.GRID f (96 + c)) + 16) 1 (s.meshNs + 20000) = true))
    ∧ (∃ (s : State) (f : Fin 6) (c : Fin 2), s.hostUp = true ∧ s.dieUp f = true ∧ s.on (Reg.FRF.TXCH.FAULT f c) = true)
    ∧ (∃ (s : State) (f : Fin 6) (n : Fin 4) (id : Nat) (j : TxJob), s.dieUp f = true ∧ s.on (Reg.FRF.CX.EN f n) = true ∧ s.on (Reg.FRF.CX.ROLE f n) = false ∧ (s.onAirOf fun j => j.f = f.val && s.guards f n j.o) = [(id, j)] ∧ j.kind = .down ∧ j.nb + 1 < (s.forceOf j).maxAttempts)
    ∧ (∃ (s : State) (f : Fin 6) (n : Fin 4) (id : Nat) (g : Nat) (j : TxJob), s.dieUp f = true ∧ s.on (Reg.FRF.CX.EN f n) = true ∧ s.on (Reg.FRF.CX.ROLE f n) = false ∧ (s.onAirOf fun j => j.f = f.val && s.guards f n j.o) = [(id, j)] ∧ j.kind = .ack g)
    ∧ (∃ (s : State) (id : Nat) (j : TxJob), s.live = true ∧ s.dieUp j.f = true ∧ s.job? id = some j ∧ j.stage = .cleared ∧ s.portFaulted j.f j.o = false ∧ s.atStart j = true)
    ∧ (∃ (s : State) (j : TxJob), j.kind = .wake)
    ∧ (∃ (s : State) (j : TxJob) (l : List Int), j.kind ≠ .wake ∧ l = preamble j.rate (s.netSpeech j.net).2 ++ bitChips j.rate (s.netSpeech j.net).2 (bitsOf 32 (s.netSpeech j.net).1) ++ bitChips j.rate (s.netSpeech j.net).2 (convEncode 0 (bitsOf 24 (phyHeader (s.jobFrame j).length 0 false false) ++ (s.jobFrame j).flatMap (fun b => bitsOf 8 b.toNat) ++ List.replicate 6 false)))
    ∧ (∃ (s : State) (id : Nat) (j : TxJob), s.live = true ∧ s.dieUp j.f = true ∧ s.job? id = some j ∧ j.stage = .cleared ∧ s.portFaulted j.f j.o = true ∧ s.atStart j = true)
    ∧ (∃ (s : State) (id : Nat) (j : TxJob) (d : Downlink), s.live = true ∧ s.dieUp j.f = true ∧ s.job? id = some j ∧ j.kind = .piggyback ∧ j.stage = .building ∧ j.header ≠ [] ∧ s.atStart j = true ∧ s.down? j.queue = some d)
    ∧ (∃ (s : State) (id : Nat) (j : TxJob), s.job? id = some j ∧ s.atStart j = false)
    ∧ (∃ (s : State) (id : Nat) (g : Nat) (fw : Nat) (rv : Nat) (j : TxJob) (clamped : Bool), s.live = true ∧ s.job? id = some j ∧ j.stage = .onAir ∧ j.lastChip + 20000 ≤ s.meshNs ∧ j.kind = .ack g)
    ∧ (∃ (s : State) (id : Nat) (fw : Nat) (rv : Nat) (j : TxJob) (d : Downlink) (clamped : Bool), s.live = true ∧ s.job? id = some j ∧ j.stage = .onAir ∧ j.lastChip + 20000 ≤ s.meshNs ∧ j.kind = .down ∧ s.down? j.queue = some d ∧ d.jobs = [id] ∧ d.second = none ∧ itemAckReq d.header = true ∧ d.dst ≠ broadcast)
    ∧ (∃ (s : State) (id : Nat) (fw : Nat) (rv : Nat) (j : TxJob) (d : Downlink), s.live = true ∧ s.job? id = some j ∧ j.stage = .onAir ∧ j.lastChip + 20000 ≤ s.meshNs ∧ j.kind = .down ∧ s.down? j.queue = some d ∧ d.jobs = [id] ∧ d.second = none ∧ itemAckReq d.header = false ∧ d.dst ≠ broadcast ∧ d.sent = false)
    ∧ (∃ (s : State) (id : Nat) (fw : Nat) (rv : Nat) (j : TxJob) (d : Downlink), s.live = true ∧ s.job? id = some j ∧ j.stage = .onAir ∧ j.lastChip + 20000 ≤ s.meshNs ∧ j.kind = .down ∧ s.down? j.queue = some d ∧ id ∈ d.jobs ∧ d.dst = broadcast ∧ d.sent = false)
    ∧ (∃ (s : State) (id : Nat) (fw : Nat) (rv : Nat) (j : TxJob) (d : Downlink) (f : Nat) (o : Nat), s.live = true ∧ s.job? id = some j ∧ j.stage = .onAir ∧ j.lastChip + 20000 ≤ s.meshNs ∧ j.kind = .wake ∧ s.down? j.queue = some d ∧ (s.nodeFind d.dst).2.2 = false ∧ (s.streamsFor d.dst (s.queue j.queue).slot).2.1.findSome? s.serveOf = some (f, o) ∧ s.copyError f o (itemGrid d.header) d.rate = none)
    ∧ (∃ (s : State) (q : Nat) (i : Nat) (d : Downlink) (st : Status) (x : ItemInfo) (c : CmdRef), s.safe.hold = false ∧ (s.queue q).mark = i ∧ Tbl.find? s.cask.items i = some x ∧ x.cmd = some c ∧ s.ringTakes c.cpl 1 = true ∧ s.ringFill c.cpl < s.ringSize c.cpl ∧ s.firstBad true (s.get (Reg.RING.BASE.ADDR c.cpl) + (s.ring c.cpl).part % s.ringSize c.cpl * 16) 16 = none ∧ s.firstBad true (s.doorbell c.cpl + 4) 4 = none)
    ∧ (∃ (s : State) (q : Nat) (d : Downlink) (tail : Int) (m : MacForce), s.live = true ∧ s.down? q = some d ∧ d.awaiting = some (tail, m) ∧ d.jobs = [] ∧ ackWindowEnd tail m d.rate ≤ s.meshNs ∧ d.retries < m.maxRetry)
    ∧ (∃ (s : State) (q : Nat) (d : Downlink) (tail : Int) (m : MacForce), s.live = true ∧ s.down? q = some d ∧ d.awaiting = some (tail, m) ∧ d.jobs = [] ∧ ackWindowEnd tail m d.rate ≤ s.meshNs ∧ m.maxRetry ≤ d.retries)
    ∧ (∃ (s : State) (q : Nat) (d : Downlink) (tail : Int) (m : MacForce), s.down? q = some d ∧ d.awaiting = some (tail, m) ∧ s.meshNs < ackWindowEnd tail m d.rate) :=
  ⟨⟨radio [(4, jobOf .down 5 96 1000 .onAir), (5, jobOf .down 5 97 1000 .onAir)] [] up, 5, 0, 4, jobOf .down 5 96 1000 .onAir, by decide +kernel⟩,
   ⟨((radio [] [] up).puts [(Reg.FRF.TXCH.FAULT 5 0, 1), (Reg.MAC.LBT_BAND.LBT 1, 0)]), 5, 0, 4, 1, true, by decide +kernel⟩,
   ⟨((radio [] [] up).puts [(Reg.FRF.TXCH.FAULT 5 0, 1), (Reg.MAC.LBT_BAND.LBT 1, 0)]), 5, 0, 3, 1, true, by decide +kernel⟩,
   ⟨((radio [] [] up).puts [(Reg.FRF.TXCH.FAULT 5 0, 1), (Reg.MAC.LBT_BAND.LBT 1, 0)]).put Reg.TIME.CTL.FREE_RUN_TX 0, 5, 0, 4, 1, true, by decide +kernel⟩,
   ⟨up, 5, 0, by decide +kernel⟩,
   ⟨(radio [] [] up).put (Reg.FRF.TXCH.FAULT 5 1) 1, 5, 1, by decide +kernel⟩,
   ⟨(radio [(4, jobOf .down 5 96 1000 .onAir)] [] up).puts [(Reg.FRF.CX.EN 5 2, 1), (Reg.FRF.CX.ROLE 5 2, 0), (Reg.FRF.CX.GUARD 5 2, 1)], 5, 2, 4, jobOf .down 5 96 1000 .onAir, by decide +kernel⟩,
   ⟨(radio [(4, jobOf (.ack 8) 5 96 1000 .onAir)] [] up).puts [(Reg.FRF.CX.EN 5 2, 1), (Reg.FRF.CX.ROLE 5 2, 0), (Reg.FRF.CX.GUARD 5 2, 1)], 5, 2, 4, 8, jobOf (.ack 8) 5 96 1000 .onAir, by decide +kernel⟩,
   ⟨radio [(4, jobOf .wake 5 96 1000 .cleared)] [] up, 4, jobOf .wake 5 96 1000 .cleared, by decide +kernel⟩,
   ⟨up, jobOf .wake 5 96 1000 .ready, by decide +kernel⟩,
   ⟨up, jobOf .down 5 96 1000 .ready, preamble 1 0 ++ bitChips 1 0 (bitsOf 32 (up.netSpeech 0).1) ++ bitChips 1 0 (convEncode 0 (bitsOf 24 (phyHeader (up.jobFrame (jobOf .down 5 96 1000 .ready)).length 0 false false) ++ (up.jobFrame (jobOf .down 5 96 1000 .ready)).flatMap (fun b => bitsOf 8 b.toNat) ++ List.replicate 6 false)), by decide +kernel⟩,
   ⟨(radio [(4, jobOf .down 5 96 1000 .cleared)] [(7, dl true [4])] (casked (boundQ 1 true) none)).put (Reg.FRF.TXCH.FAULT 5 0) 1, 4, jobOf .down 5 96 1000 .cleared, by decide +kernel⟩,
   ⟨radio [(4, jobOf .piggyback 5 96 1000 .building)] [(7, dl true [4])] (casked (boundQ 1 true) none), 4, jobOf .piggyback 5 96 1000 .building, dl true [4], by decide +kernel⟩,
   ⟨radio [(4, jobOf .wake 5 96 1000000 .cleared)] [] up, 4, jobOf .wake 5 96 1000000 .cleared, by decide +kernel⟩,
   ⟨meshAt 100000000 (radio [(4, jobOf (.ack 8) 5 96 1000 .onAir)] [] up), 4, 8, 900, 30, jobOf (.ack 8) 5 96 1000 .onAir, true, by decide +kernel⟩,
   ⟨meshAt 100000000 (radio [(4, jobOf .down 5 96 1000 .onAir)] [(7, dl true [4])] (casked (boundQ 1 true) none)), 4, 900, 30, jobOf .down 5 96 1000 .onAir, dl true [4], true, by decide +kernel⟩,
   ⟨meshAt 100000000 (radio [(4, jobOf .down 5 96 1000 .onAir)] [(7, dl false [4])] (casked (boundQ 1 true) none)), 4, 900, 30, jobOf .down 5 96 1000 .onAir, dl false [4], by decide +kernel⟩,
   ⟨meshAt 100000000 (radio [(4, jobOf .down 5 96 1000 .onAir), (6, jobOf .down 5 97 1000 .ready)] [(7, { dl false [4, 6] with dst := broadcast })] (casked (boundQ 1 true) none)), 4, 900, 30, jobOf .down 5 96 1000 .onAir, { dl false [4, 6] with dst := broadcast }, by decide +kernel⟩,
   ⟨knows5 (meshAt 100000000 (radio [(4, jobOf .wake 5 96 1000 .onAir)] [(7, dl false [4])] (casked (boundQ 1 true) none))), 4, 900, 30, jobOf .wake 5 96 1000 .onAir, dl false [4], 5, 96, by decide +kernel⟩,
   ⟨windowed (cmd2 (radio [] [(7, dl false [])] (casked (boundQ 1 true) none))), 7, 0, dl false [], .noAck, ⟨[0], 1, some ⟨2, 1, 0x20, 6⟩, 7⟩, ⟨2, 1, 0x20, 6⟩, by decide +kernel⟩,
   ⟨(meshAt 1000000000 (radio [] [(7, { dl true [] with awaiting := some (1000, { ((radio [] [] up).macForce 7) with maxRetry := 2 }), sent := true })] (casked (boundQ 1 true) none))), 7, { dl true [] with awaiting := some (1000, { ((radio [] [] up).macForce 7) with maxRetry := 2 }), sent := true }, 1000, { ((radio [] [] up).macForce 7) with maxRetry := 2 }, by decide +kernel⟩,
   ⟨(meshAt 1000000000 (radio [] [(7, { dl true [] with awaiting := some (1000, { ((radio [] [] up).macForce 7) with maxRetry := 0 }), sent := true })] (casked (boundQ 1 true) none))), 7, { dl true [] with awaiting := some (1000, { ((radio [] [] up).macForce 7) with maxRetry := 0 }), sent := true }, 1000, { ((radio [] [] up).macForce 7) with maxRetry := 0 }, by decide +kernel⟩,
   ⟨radio [] [(7, { dl true [] with awaiting := some (1000, { ((radio [] [] up).macForce 7) with maxRetry := 2 }), sent := true })] (casked (boundQ 1 true) none), 7, { dl true [] with awaiting := some (1000, { ((radio [] [] up).macForce 7) with maxRetry := 2 }), sent := true }, 1000, { ((radio [] [] up).macForce 7) with maxRetry := 2 }, by decide +kernel⟩⟩

theorem witness_ClearChannelChecks :
    (∃ (s : State) (id : Nat) (b : Bool × Int × Int) (j : TxJob) (x : TxJob) (granted : Bool), s.live = true ∧ s.dieUp j.f = true ∧ s.job? id = some j ∧ (j.kind = .down ∨ j.kind = .wake) ∧ j.stage = .ready ∧ s.atCheck j = true ∧ s.lookContacts = s ∧ x = s.atFirstCheck j ∧ s.portFaulted j.f j.o = false ∧ (s.forceOf x).band = some b ∧ s.listens j = true ∧ s.jobBusy id x granted b = false ∧ (∀ d, s.down? j.queue = some d → d.second = none))
    ∧ (∃ (s : State) (j : TxJob) (d : Downlink) (f : Nat) (o : Nat), s.down? j.queue = some d ∧ d.second = some (f, o))
    ∧ (∃ (s : State) (id : Nat) (b : Bool × Int × Int) (j : TxJob) (x : TxJob) (granted : Bool), s.live = true ∧ s.dieUp j.f = true ∧ s.job? id = some j ∧ (j.kind = .down ∨ j.kind = .wake) ∧ (j.stage = .ready ∨ j.stage = .building) ∧ s.atCheck j = true ∧ s.lookContacts = s ∧ x = s.atFirstCheck j ∧ s.portFaulted j.f j.o = false ∧ (s.forceOf x).band = some b ∧ s.listens j = true ∧ s.jobBusy id x granted b = true ∧ j.nb + 1 < (s.forceOf x).maxAttempts)
    ∧ (∃ (s : State) (id : Nat) (b : Bool × Int × Int) (j : TxJob) (x : TxJob) (granted : Bool), s.live = true ∧ s.dieUp j.f = true ∧ s.job? id = some j ∧ (j.kind = .down ∨ j.kind = .wake) ∧ (j.stage = .ready ∨ j.stage = .building) ∧ s.atCheck j = true ∧ s.lookContacts = s ∧ x = s.atFirstCheck j ∧ s.portFaulted j.f j.o = false ∧ (s.forceOf x).band = some b ∧ s.listens j = true ∧ s.jobBusy id x granted b = true ∧ (s.forceOf x).maxAttempts ≤ j.nb + 1 ∧ (∀ d, s.down? j.queue = some d → d.second = none))
    ∧ (∃ (s : State) (id : Nat) (j : TxJob) (x : TxJob) (granted : Bool) (st : Status), s.live = true ∧ s.dieUp j.f = true ∧ s.job? id = some j ∧ (j.kind = .down ∨ j.kind = .wake) ∧ j.stage = .ready ∧ s.atCheck j = true ∧ s.lookContacts = s ∧ x = s.atFirstCheck j ∧ (if s.portFaulted j.f j.o = true then st = .abortMismatch else if (s.forceOf x).band = none then st = .badField else s.listens j = false ∧ st = .sourceLost))
    ∧ (∃ (s : State) (id : Nat) (j : TxJob) (d : Downlink) (st : Status), (j.kind = .down ∨ j.kind = .wake) ∧ s.down? j.queue = some d ∧ d.jobs = [id] ∧ d.second = none ∧ d.sent = false)
    ∧ (∃ (s : State) (id : Nat) (b : Bool × Int × Int) (j : TxJob) (granted : Bool) (p : Nat → Option Frac), (s.mayRadiate = false ∨ s.ctxBlanked j.f (s.get (Reg.TX.OUT.LISTEN j.f j.o)) = true ∨ s.cxAllows j.f j.o granted = false ∨ 8 ≤ s.framesOn id j ∨ 256 ≤ s.txContexts j.f ∨ s.contactBlocks j.f j.o j.grid j.rate j.t0 = true ∨ (b.1 = true ∧ s.listenChannel j.f j.o j.grid j.rate = none) ∨ ∃ k, s.listenChannel j.f j.o j.grid j.rate = some k ∧ s.channelTaken j.f (s.get (Reg.TX.OUT.LISTEN j.f j.o)) (decide (j.rate = 0)) k = true))
    ∧ (∃ (s : State) (f : Nat) (i : Nat) (k : Nat) (n : Nat) (w : Bool) (v : Bool), s.engaged f i v n = true ∧ (n = k ∨ (w = true ∧ v = false ∧ (n + 1 = k ∨ n = k + 1))))
    ∧ (∃ (s : State) (g : Nat) (n : Nat), s.band g = some n)
    ∧ (∃ (s : State) (id : Nat) (b : Bool × Int × Int) (j : TxJob) (x : TxJob) (granted : Bool), s.live = true ∧ s.dieUp j.f = true ∧ s.job? id = some j ∧ j.kind = .meeting ∧ j.stage = .ready ∧ s.atCheck j = true ∧ s.lookContacts = s ∧ x = s.atFirstCheck j ∧ s.portFaulted j.f j.o = false ∧ (s.forceOf x).band = some b ∧ s.listens j = true ∧ s.jobBusy id x granted b = false ∧ (∀ d, s.down? j.queue = some d → d.second = none))
    ∧ (∃ (s : State) (id : Nat) (b : Bool × Int × Int) (j : TxJob) (x : TxJob) (d : Downlink) (granted : Bool), s.live = true ∧ s.dieUp j.f = true ∧ s.job? id = some j ∧ j.kind = .meeting ∧ j.stage = .ready ∧ s.atCheck j = true ∧ s.lookContacts = s ∧ x = s.atFirstCheck j ∧ s.portFaulted j.f j.o = false ∧ (s.forceOf x).band = some b ∧ s.listens j = true ∧ s.jobBusy id x granted b = true ∧ s.down? j.queue = some d ∧ d.jobs = [id] ∧ d.second = none ∧ d.meets + 1 < (s.forceOf x).maxAttempts)
    ∧ (∃ (s : State) (id : Nat) (g : Nat) (b : Bool × Int × Int) (j : TxJob) (x : TxJob) (p : Frac) (granted : Bool), s.live = true ∧ s.dieUp j.f = true ∧ s.job? id = some j ∧ j.kind = .ack g ∧ j.stage = .ready ∧ s.atCheck j = true ∧ s.lookContacts = s ∧ s.portFaulted j.f j.o = false ∧ x = s.atFirstCheck j ∧ (s.forceOf x).band = some b ∧ s.listens j = true ∧ s.busyFor id x granted b (fun _ => some p) = false ∧ bitsAt (beAt j.header 0 2) 6 1 = 0)
    ∧ (∃ (s : State) (id : Nat) (g : Nat) (q : Nat) (b : Bool × Int × Int) (j : TxJob) (x : TxJob) (p : Frac) (granted : Bool), s.live = true ∧ s.dieUp j.f = true ∧ s.job? id = some j ∧ id < s.tx.nextJob ∧ j.kind = .ack g ∧ j.stage = .ready ∧ s.atCheck j = true ∧ s.lookContacts = s ∧ s.portFaulted j.f j.o = false ∧ x = s.atFirstCheck j ∧ (s.forceOf x).band = some b ∧ s.listens j = true ∧ s.busyFor id x granted b (fun _ => some p) = false ∧ bitsAt (beAt j.header 0 2) 6 1 = 1 ∧ s.piggyQueue (macDst j.header) = some q)
    ∧ (∃ (s : State) (id : Nat) (g : Nat) (j : TxJob) (x : TxJob) (p : Frac) (granted : Bool), s.live = true ∧ s.dieUp j.f = true ∧ s.job? id = some j ∧ j.kind = .ack g ∧ j.stage = .ready ∧ s.atCheck j = true ∧ s.lookContacts = s ∧ s.portFaulted j.f j.o = false ∧ x = s.atFirstCheck j ∧ (∀ b, (s.forceOf x).band = some b → s.listens j = false ∨ s.busyFor id x granted b (fun _ => some p) = true))
    ∧ (∃ (s : State) (id : Nat) (g : Nat) (j : TxJob) (p : Frac) (granted : Bool), s.live = true ∧ s.dieUp j.f = true ∧ s.job? id = some j ∧ j.kind = .ack g ∧ j.stage = .ready ∧ s.atCheck j = true ∧ s.lookContacts = s ∧ s.portFaulted j.f j.o = true)
    ∧ (∃ (s : State) (id : Nat) (g : Nat) (j : TxJob) (p : Frac) (granted : Bool), s.live = true ∧ s.dieUp j.f = true ∧ s.job? id = some j ∧ j.kind = .ack g ∧ j.stage = .building ∧ s.atCheck j = true ∧ s.lookContacts = s)
    ∧ (∃ (s : State) (id : Nat) (j : TxJob) (granted : Bool), s.live = true ∧ s.dieUp j.f = true ∧ s.job? id = some j ∧ j.kind = .piggyback ∧ j.header = [] ∧ s.atCheck j = true ∧ s.lookContacts = s ∧ ((s.queue j.queue).count = 0 ∨ (s.queue j.queue).sent = true ∨ s.portFaulted j.f j.o = true ∨ (s.forceOf (s.piggyCand j)).band = none))
    ∧ (∃ (s : State) (id : Nat) (b : Bool × Int × Int) (j : TxJob) (granted : Bool), s.live = true ∧ s.dieUp j.f = true ∧ s.job? id = some j ∧ j.kind = .piggyback ∧ j.header = [] ∧ s.atCheck j = true ∧ s.lookContacts = s ∧ 0 < (s.queue j.queue).count ∧ (s.queue j.queue).sent = false ∧ s.portFaulted j.f j.o = false ∧ (s.forceOf (s.piggyCand j)).band = some b ∧ (s.listens j = false ∨ s.busyFor id (s.piggyCand j) granted b s.meanPower = true))
    ∧ (∃ (s : State) (id : Nat) (len : Nat) (b : Bool × Int × Int) (j : TxJob) (cand : TxJob) (h : List Byte) (granted : Bool), s.live = true ∧ s.dieUp j.f = true ∧ s.job? id = some j ∧ j.kind = .piggyback ∧ j.header = [] ∧ s.atCheck j = true ∧ s.lookContacts = s ∧ 0 < (s.queue j.queue).count ∧ (s.queue j.queue).sent = false ∧ s.portFaulted j.f j.o = false ∧ cand = s.piggyCand j ∧ (s.forceOf cand).band = some b ∧ h = sliceB (s.itemData (s.queue j.queue).head) 0 32 ∧ len = s.headLen j.queue ∧ s.listens j = true ∧ s.busyFor id cand granted b s.meanPower = false ∧ s.frameError h cand.rate j.grid = none ∧ s.outCovers j.f j.o j.grid cand.rate = true)
    ∧ (∃ (s : State) (y : State) (k : JobKind) (q : Nat) (f : Nat) (o : Nat) (grid : Nat) (c : Nat) (d : Downlink) (payload : List Byte) (t0 : Int), itemCvlen d.header = 0 ∧ s.downCounter d = (y, some c)) :=
  ⟨⟨radio [(4, jobOf .down 5 96 1000 .ready)] [(7, dl false [4])] up, 4, ((radio [(4, jobOf .down 5 96 1000 .ready)] [(7, dl false [4])] up).macForce 7).band.getD (false, 0, 0), jobOf .down 5 96 1000 .ready, (radio [(4, jobOf .down 5 96 1000 .ready)] [(7, dl false [4])] up).atFirstCheck (jobOf .down 5 96 1000 .ready), true, by and_intros; rotate_right; exact (fun d h => by cases (show some (dl false [4]) = some d from h); rfl); all_goals decide +kernel⟩,
   ⟨radio [(4, jobOf .down 5 96 1000 .ready)] [(7, { dl false [4] with second := some (5, 97) })] up, jobOf .down 5 96 1000 .ready, { dl false [4] with second := some (5, 97) }, 5, 97, by decide +kernel⟩,
   ⟨(radio [(4, jobOf .down 5 96 1000 .ready)] [(7, dl false [4])] up).put (Reg.MAC.LBT_BAND.THR 1) 0xE000, 4, (((radio [(4, jobOf .down 5 96 1000 .ready)] [(7, dl false [4])] up).put (Reg.MAC.LBT_BAND.THR 1) 0xE000).macForce 7).band.getD (false, 0, 0), jobOf .down 5 96 1000 .ready, ((radio [(4, jobOf .down 5 96 1000 .ready)] [(7, dl false [4])] up).put (Reg.MAC.LBT_BAND.THR 1) 0xE000).atFirstCheck (jobOf .down 5 96 1000 .ready), true, by decide +kernel⟩,
   ⟨(radio [(4, jobOf .down 5 96 1000 .ready)] [(7, dl false [4])] up).puts [(Reg.MAC.LBT_BAND.THR 1, 0xE000), (Reg.MAC.LBT_CFG.MAX_ATTEMPTS, 1)], 4, (((radio [(4, jobOf .down 5 96 1000 .ready)] [(7, dl false [4])] up).puts [(Reg.MAC.LBT_BAND.THR 1, 0xE000), (Reg.MAC.LBT_CFG.MAX_ATTEMPTS, 1)]).macForce 7).band.getD (false, 0, 0), jobOf .down 5 96 1000 .ready, ((radio [(4, jobOf .down 5 96 1000 .ready)] [(7, dl false [4])] up).puts [(Reg.MAC.LBT_BAND.THR 1, 0xE000), (Reg.MAC.LBT_CFG.MAX_ATTEMPTS, 1)]).atFirstCheck (jobOf .down 5 96 1000 .ready), true, by and_intros; rotate_right; exact (fun d h => by cases (show some (dl false [4]) = some d from h); rfl); all_goals decide +kernel⟩,
   ⟨(radio [(4, jobOf .down 5 96 1000 .ready)] [(7, dl false [4])] up).put (Reg.LINK.STREAM.EN 5 3) 0, 4, jobOf .down 5 96 1000 .ready, ((radio [(4, jobOf .down 5 96 1000 .ready)] [(7, dl false [4])] up).put (Reg.LINK.STREAM.EN 5 3) 0).atFirstCheck (jobOf .down 5 96 1000 .ready), true, .sourceLost, by decide +kernel⟩,
   ⟨radio [(4, jobOf .down 5 96 1000 .ready)] [(7, dl false [4])] (casked (boundQ 1 true) none), 4, jobOf .down 5 96 1000 .ready, dl false [4], .noAck, by decide +kernel⟩,
   ⟨radio [(4, jobOf .down 5 96 1000 .ready)] [(7, dl false [4])] up, 4, ((radio [(4, jobOf .down 5 96 1000 .ready)] [(7, dl false [4])] up).macForce 7).band.getD (false, 0, 0), { jobOf .down 5 96 1000 .ready with grid := 40 }, true, fun _ => none, by decide +kernel⟩,
   ⟨up.onAir fun x => { x with ctxs := [(5 * 4096, { demodOn 511 with ctx := 3, w := false, chan := 6 })] }, 5, 3, 7, 6, true, false, by decide +kernel⟩,
   ⟨radio [] [] up, 7, 1, by decide +kernel⟩,
   ⟨radio [(4, jobOf .meeting 5 96 1000 .ready)] [(7, dl false [4])] up, 4, ((radio [(4, jobOf .meeting 5 96 1000 .ready)] [(7, dl false [4])] up).macForce 7).band.getD (false, 0, 0), jobOf .meeting 5 96 1000 .ready, (radio [(4, jobOf .meeting 5 96 1000 .ready)] [(7, dl false [4])] up).atFirstCheck (jobOf .meeting 5 96 1000 .ready), true, by and_intros; rotate_right; exact (fun d h => by cases (show some (dl false [4]) = some d from h); rfl); all_goals decide +kernel⟩,
   ⟨(radio [(4, jobOf .meeting 5 96 1000 .ready)] [(7, dl false [4])] (casked (boundQ 1 true) none)).put (Reg.MAC.LBT_BAND.THR 1) 0xE000, 4, (((radio [(4, jobOf .meeting 5 96 1000 .ready)] [(7, dl false [4])] (casked (boundQ 1 true) none)).put (Reg.MAC.LBT_BAND.THR 1) 0xE000).macForce 7).band.getD (false, 0, 0), jobOf .meeting 5 96 1000 .ready, ((radio [(4, jobOf .meeting 5 96 1000 .ready)] [(7, dl false [4])] (casked (boundQ 1 true) none)).put (Reg.MAC.LBT_BAND.THR 1) 0xE000).atFirstCheck (jobOf .meeting 5 96 1000 .ready), dl false [4], true, by decide +kernel⟩,
   ⟨radio [(4, jobOf (.ack 8) 5 96 1000 .ready)] [] up, 4, 8, ((radio [(4, jobOf (.ack 8) 5 96 1000 .ready)] [] up).macForce 7).band.getD (false, 0, 0), jobOf (.ack 8) 5 96 1000 .ready, (radio [(4, jobOf (.ack 8) 5 96 1000 .ready)] [] up).atFirstCheck (jobOf (.ack 8) 5 96 1000 .ready), ⟨1, 1000000⟩, true, by decide +kernel⟩,
   ⟨radio [(4, { jobOf (.ack 8) 5 96 1000 .ready with header := macHeader 3 1 0 false true 4 7 5 0 6 0 })] [] (casked (boundQ 1 false) none), 4, 8, 7, ((radio [(4, { jobOf (.ack 8) 5 96 1000 .ready with header := macHeader 3 1 0 false true 4 7 5 0 6 0 })] [] (casked (boundQ 1 false) none)).macForce 7).band.getD (false, 0, 0), { jobOf (.ack 8) 5 96 1000 .ready with header := macHeader 3 1 0 false true 4 7 5 0 6 0 }, (radio [(4, { jobOf (.ack 8) 5 96 1000 .ready with header := macHeader 3 1 0 false true 4 7 5 0 6 0 })] [] (casked (boundQ 1 false) none)).atFirstCheck ({ jobOf (.ack 8) 5 96 1000 .ready with header := macHeader 3 1 0 false true 4 7 5 0 6 0 }), ⟨1, 1000000⟩, true, by decide +kernel⟩,
   ⟨radio [(4, jobOf (.ack 8) 5 96 1000 .ready)] [] up, 4, 8, jobOf (.ack 8) 5 96 1000 .ready, (radio [(4, jobOf (.ack 8) 5 96 1000 .ready)] [] up).atFirstCheck (jobOf (.ack 8) 5 96 1000 .ready), ⟨1000000, 1⟩, true, by and_intros; rotate_right; exact (fun b h => .inr (by cases h; decide +kernel)); all_goals decide +kernel⟩,
   ⟨(radio [(4, jobOf (.ack 8) 5 96 1000 .ready)] [] up).put (Reg.FRF.TXCH.FAULT 5 0) 1, 4, 8, jobOf (.ack 8) 5 96 1000 .ready, ⟨1000000, 1⟩, true, by decide +kernel⟩,
   ⟨radio [(4, jobOf (.ack 8) 5 96 1000 .building)] [] up, 4, 8, jobOf (.ack 8) 5 96 1000 .building, ⟨1000000, 1⟩, true, by decide +kernel⟩,
   ⟨radio [(4, { jobOf .piggyback 5 96 1000 .ready with header := [] })] [] up, 4, { jobOf .piggyback 5 96 1000 .ready with header := [] }, true, by decide +kernel⟩,
   ⟨(radio [(4, { jobOf .piggyback 5 96 1000 .ready with header := [] })] [] (casked (boundQ 1 false) none)).put (Reg.MAC.LBT_BAND.THR 1) 0xE000, 4, (((radio [(4, { jobOf .piggyback 5 96 1000 .ready with header := [] })] [] (casked (boundQ 1 false) none)).put (Reg.MAC.LBT_BAND.THR 1) 0xE000).macForce 7).band.getD (false, 0, 0), { jobOf .piggyback 5 96 1000 .ready with header := [] }, true, by decide +kernel⟩,
   ⟨radio [(4, { jobOf .piggyback 5 96 1000 .ready with header := [] })] [] (casked (boundQ 1 false) none), 4, 22, ((radio [(4, { jobOf .piggyback 5 96 1000 .ready with header := [] })] [] (casked (boundQ 1 false) none)).macForce 7).band.getD (false, 0, 0), { jobOf .piggyback 5 96 1000 .ready with header := [] }, (radio [(4, { jobOf .piggyback 5 96 1000 .ready with header := [] })] [] (casked (boundQ 1 false) none)).piggyCand ({ jobOf .piggyback 5 96 1000 .ready with header := [] }), itemH 0 false, true, by decide +kernel⟩,
   ⟨radio [] [(7, dl false [])] (casked (boundQ 1 true) none), (radio [] [(7, dl false [])] (casked (boundQ 1 true) none)).downCounter (dl false []) |>.1, .down, 7, 5, 96, 7, (((radio [] [(7, dl false [])] (casked (boundQ 1 true) none)).downCounter (dl false [])).2.getD 0), dl false [], [1, 2], 1000, by decide +kernel⟩⟩

theorem witness_SchedulerCommands :
    (∃ (s : State) (g : Fin 64) (v : BitVec 32), s.hostUp = true ∧ bitsAt v.toNat 9 1 = 1 ∧ bitsAt v.toNat 10 1 = 0 ∧ bitsAt v.toNat 0 9 = s.get (Reg.SCHED.GATE_CTL.LEN g) ∧ s.get (Reg.SCHED.GATE_CTL.LEN g) ≤ 256 ∧ s.on (Reg.SCHED.GATE_CTL.PENDING g) = false ∧ s.commitOk g = true)
    ∧ (∃ (s : State) (g : Fin 64) (v : BitVec 32), s.hostUp = true ∧ bitsAt v.toNat 9 1 = 1 ∧ bitsAt v.toNat 10 1 = 0 ∧ bitsAt v.toNat 0 9 = s.get (Reg.SCHED.GATE_CTL.LEN g) ∧ s.get (Reg.SCHED.GATE_CTL.LEN g) ≤ 256 ∧ s.on (Reg.SCHED.GATE_CTL.PENDING g) = false ∧ s.commitOk g = false)
    ∧ (∃ (s : State) (g : Fin 64) (v : BitVec 32), s.hostUp = true ∧ bitsAt v.toNat 10 1 = 0 ∧ bitsAt v.toNat 0 9 = s.get (Reg.SCHED.GATE_CTL.LEN g) ∧ s.get (Reg.SCHED.GATE_CTL.LEN g) ≤ 256 ∧ s.on (Reg.SCHED.GATE_CTL.PENDING g) = true)
    ∧ (∃ (s : State) (g : Fin 64) (v : BitVec 32), s.hostUp = true ∧ bitsAt v.toNat 9 1 = 1 ∧ bitsAt v.toNat 10 1 = 0 ∧ bitsAt v.toNat 0 9 ≤ 256 ∧ bitsAt v.toNat 0 9 ≠ s.get (Reg.SCHED.GATE_CTL.LEN g) ∧ s.on (Reg.SCHED.GATE_CTL.PENDING g) = true)
    ∧ (∃ (s : State) (g : Fin 64) (v : BitVec 32), s.hostUp = true ∧ bitsAt v.toNat 9 1 = 0 ∧ bitsAt v.toNat 10 1 = 1 ∧ bitsAt v.toNat 0 9 = s.get (Reg.SCHED.GATE_CTL.LEN g) ∧ s.get (Reg.SCHED.GATE_CTL.LEN g) ≤ 256)
    ∧ (∃ (s : State) (g : Fin 64) (l : GateList), s.live = true ∧ Tbl.find? s.sched.pending g = some l ∧ l.startNs ≤ s.meshNs ∧ s.get (Reg.SCHED.GATE_CTL.ACTIVE_BANK g) ≤ 1)
    ∧ (∃ (s : State) (g : Fin 64) (l : GateList), Tbl.find? s.sched.pending g = some l ∧ s.meshNs < l.startNs)
    ∧ (∃ (s : State) (g : Fin 64) (l : GateList), s.live = true ∧ Tbl.find? s.sched.gates g = some l ∧ l.entries ≠ [])
    ∧ (∃ (s : State) (x : State) (g : Fin 64) (q : Nat) (p : Plan) (t0 : Int), s.live = true ∧ s.on Reg.SCHED.CFG.EN = true ∧ s.on Reg.KILN.STATUS.FLOOR_SET = true ∧ s.lookContacts = s ∧ s.committed g ≤ s.get Reg.SCHED.CFG.DEPTH ∧ s.offer g = some (x, q, p, t0) ∧ s.contextsFree p = true)
    ∧ (∃ (s : State) (g : Fin 64), s.lookContacts = s ∧ (s.get Reg.SCHED.CFG.DEPTH < s.committed g ∨ ∀ r, s.offer g = some r → s.contextsFree r.2.2.1 = false))
    ∧ (∃ (s : State) (g : Fin 64), s.on Reg.KILN.STATUS.FLOOR_SET = false)
    ∧ (∃ (s : State) (g : Nat) (x : State × Nat × Plan × Int), s.offerClass g 0 = some x)
    ∧ (∃ (s : State) (g : Nat) (x : State × Nat × Plan × Int), s.offerClass g 0 = none ∧ s.offerUrgent g = some x)
    ∧ (∃ (s : State) (g : Nat) (c : Nat) (x : State × Nat × Plan × Int), c < 7 ∧ s.offerClass g 0 = none ∧ s.offerUrgent g = none ∧ (∀ k, k < c → s.offerClass g (k + 1) = none) ∧ s.offerClass g (c + 1) = some x)
    ∧ (∃ (s : State) (g : Nat) (c : Nat), (s.classList g c = [] ∨ (s.on (Reg.SCHED.BUCKET.EN g c) = true ∧ s.tokens g c ≤ 0)))
    ∧ (∃ (s : State) (g : Nat) (c : Nat) (n : Nat) (q : Nat) (l : List Nat), s.classList g c = q :: l ∧ 0 < (s.queue q).deficit)
    ∧ (∃ (s : State) (g : Nat) (c : Nat) (n : Nat) (q : Nat) (l : List Nat), s.classList g c = q :: l ∧ (s.queue q).deficit ≤ 0)
    ∧ (∃ (s : State) (x : State) (g : Nat) (c : Nat) (q : Nat) (l : List Nat), 1280 ≤ s.get (Reg.SCHED.CLASS.QUANTUM c) ∧ x = s.frontOf g c (s.frontFuel (s.classList g c)) ∧ x.classList g c = q :: l)
    ∧ (∃ (s : State) (g : Nat) (q : Nat) (p : Plan) (t0 : Int), p.error = none ∧ p.wake = none ∧ p.flood = false ∧ (s.queue q).cls ≠ 0 ∧ (∀ d, Tbl.find? s.tx.kept (s.queue q).head = some d → d.cls ≠ 0))
    ∧ (∃ (s : State) (g : Nat) (q : Nat) (p : Plan) (t0 : Int) (st : Status), p.error = some st ∧ p.flood = false)
    ∧ (∃ (s : State) (k : JobKind) (q : Nat) (d : Downlink) (l : List Byte) (c : List (Nat × Nat × Nat)) (o : Nat × Nat) (t0 : Int), d.cls = 0 ∧ d.flood = false)
    ∧ (∃ (s : State) (k : JobKind) (q : Nat) (d : Downlink) (l : List Byte) (c : List (Nat × Nat × Nat)) (t0 : Int), d.cls = 0 ∧ d.flood = false)
    ∧ (∃ (s : State) (q : Nat) (g : Nat) (p : Plan), Tbl.find? s.tx.kept (s.queue q).mark = none)
    ∧ (∃ (s : State) (q : Nat) (g : Nat) (p : Plan) (d : Downlink), Tbl.find? s.tx.kept (s.queue q).mark = some d) :=
  ⟨⟨shadow9, 9, 0x202, by decide +kernel⟩,
   ⟨shadow9.put (Reg.SCHED.GATE_ENTRY.DUR 9 1) 99, 9, 0x202, by decide +kernel⟩,
   ⟨shadow9.put (Reg.SCHED.GATE_CTL.PENDING 9) 1, 9, 0x202, by decide +kernel⟩,
   ⟨shadow9.put (Reg.SCHED.GATE_CTL.PENDING 9) 1, 9, 0x203, by decide +kernel⟩,
   ⟨(shadow9.put (Reg.SCHED.GATE_CTL.PENDING 9) 1).onSched fun x => { x with pending := [(9, gates2)] }, 9, 0x402, by decide +kernel⟩,
   ⟨(shadow9.put (Reg.SCHED.GATE_CTL.PENDING 9) 1).onSched fun x => { x with pending := [(9, { gates2 with startNs := -(10 ^ 40) })], banks := [(9, [(3, 200)])] }, 9, { gates2 with startNs := -(10 ^ 40) }, by decide +kernel⟩,
   ⟨(shadow9.put (Reg.SCHED.GATE_CTL.PENDING 9) 1).onSched fun x => { x with pending := [(9, { gates2 with startNs := 10 ^ 40 })] }, 9, { gates2 with startNs := 10 ^ 40 }, by decide +kernel⟩,
   ⟨(meshAt 1500000 up).onSched fun x => { x with gates := [(9, gates2)] }, 9, gates2, by decide +kernel⟩,
   ⟨schd 3 false, (offerIn (schd 3 false)).1, 0, (offerIn (schd 3 false)).2.1, (offerIn (schd 3 false)).2.2.1, (offerIn (schd 3 false)).2.2.2, by decide +kernel⟩,
   ⟨up, 9, by and_intros; exact rfl; exact .inr (fun r h => by cases (show (none : Option (State × Nat × Plan × Int)) = some r from h))⟩,
   ⟨up, 9, by decide +kernel⟩,
   ⟨schd 0 false, 0, offerIn (schd 0 false), by decide +kernel⟩,
   ⟨schd 0 true, 0, offerIn (schd 0 true), by decide +kernel⟩,
   ⟨schd 3 false, 0, 2, offerIn (schd 3 false), by decide +kernel⟩,
   ⟨up, 0, 3, by decide +kernel⟩,
   ⟨schd 3 false |>.setQueue 7 { boundQ 1 false with deficit := 5 }, 0, 3, 4, 7, [], by decide +kernel⟩,
   ⟨schd 3 false, 0, 3, 4, 7, [], by decide +kernel⟩,
   ⟨(schd 3 false).put (Reg.SCHED.CLASS.QUANTUM 3) 1280, ((schd 3 false).put (Reg.SCHED.CLASS.QUANTUM 3) 1280).frontOf 0 3 (((schd 3 false).put (Reg.SCHED.CLASS.QUANTUM 3) 1280).frontFuel [7]), 0, 3, 7, [], by decide +kernel⟩,
   ⟨schd 3 false, 0, 7, plan1 none, 5000, by and_intros; rotate_right; exact (fun d h => by cases (show (none : Option Downlink) = some d from h)); all_goals decide +kernel⟩,
   ⟨schd 3 false, 0, 7, plan1 (some .badField), 5000, .badField, by decide +kernel⟩,
   ⟨schd 0 false, .down, 7, { dl false [] with cls := 0 }, [1, 2], [(5, 96, 7)], (5, 97), 5000, by decide +kernel⟩,
   ⟨schd 0 false, .down, 7, { dl false [] with cls := 0, ctrs := [] }, [1, 2], [(5, 96, 7)], 5000, by decide +kernel⟩,
   ⟨schd 3 false, 7, 0, plan1 none, by decide +kernel⟩,
   ⟨(schd 3 false).onTx fun x => { x with kept := [(0, dl true [])] }, 7, 0, plan1 none, dl true [], by decide +kernel⟩⟩

theorem witness_GateSpans :
    (∃ (l : GateList) (c : Nat) (a : Int) (b : Int) (x : Int), l.entries ≠ [] ∧ (∀ e ∈ l.entries, e.2 ≠ 0) ∧ l.opens c a b = true ∧ a ≤ x ∧ x ≤ b) :=
  ⟨gates2, 3, 0, 900000, 500000, by decide +kernel⟩

theorem witness_PolicyCalls :
    (∃ (s : State) (g : Nat) (k : Nat), s.live = true ∧ Hook.join g ∈ s.tun.due ∧ s.hookOn (.join g) = true ∧ s.freeCore (s.get Reg.TUN.POLICY_CFG.CORE_EN) = some k ∧ (∀ p ∈ s.tun.calls, p.2.core ≠ none))
    ∧ (∃ (s : State) (q : Nat) (k : Nat) (u : Bool), s.live = true ∧ s.tun.due.find? (fun h => match h with | .route q' _ => q' = q | _ => false) = some (.route q u) ∧ s.hookOn (.route q u) = true ∧ s.freeCore (s.get Reg.TUN.POLICY_CFG.CORE_EN) = some k ∧ (∀ p ∈ s.tun.calls, p.2.core ≠ none))
    ∧ (∃ (s : State) (g : Nat) (k : Nat), s.live = true ∧ Hook.classify g ∈ s.tun.due ∧ s.hookOn (.classify g) = true ∧ s.freeCore (s.get Reg.TUN.POLICY_CFG.CORE_EN) = some k ∧ (∀ p ∈ s.tun.calls, p.2.core ≠ none))
    ∧ (∃ (s : State) (g : Nat), s.live = true ∧ Hook.join g ∈ s.tun.due ∧ s.hookOn (.join g) = true ∧ (∀ k ∈ policyCores, (s.core k).st ≠ .wait) ∧ s.callsWaiting < 256)
    ∧ (∃ (s : State) (g : Nat), s.live = true ∧ Hook.classify g ∈ s.tun.due ∧ s.hookOn (.classify g) = true ∧ (∀ k ∈ policyCores, (s.core k).st ≠ .wait) ∧ 256 ≤ s.callsWaiting)
    ∧ (∃ (s : State) (k : Nat) (n : Nat), s.freeCore n = some k)
    ∧ (∃ (s : State) (call : Nat) (h : HookCall), s.live = true ∧ Tbl.find? s.tun.calls call = some h ∧ h.core = none)
    ∧ (∃ (s : State) (call : Nat) (h : HookCall), Tbl.find? s.tun.calls call = some h ∧ h.core ≠ none)
    ∧ (∃ (s : State) (k : Fin 4) (call : Nat) (h : HookCall), s.live = true ∧ s.callOn (4 + k) = some (call, h) ∧ (s.core (4 + k)).st = .running)
    ∧ (∃ (s : State) (g : Nat) (h : HookCall), h.hook = .join g)
    ∧ (∃ (s : State) (q : Nat) (u : Bool) (h : HookCall), h.hook = .route q u ∧ (s.queue q).sent = false ∧ s.listed q = false ∧ 0 < (s.queue q).count)
    ∧ (∃ (s : State) (q : Nat) (u : Bool) (h : HookCall), h.hook = .route q u ∧ ((s.queue q).sent = true ∨ s.listed q = true ∨ (s.queue q).count = 0))
    ∧ (∃ (s : State) (g : Nat) (h : HookCall), h.hook = .classify g)
    ∧ (∃ (s : State) (g : Nat), s.live = true ∧ Hook.join g ∈ s.tun.due ∧ s.hookOn (.join g) = false) :=
  ⟨⟨policy .wait [.join 3] [] (up.put Reg.TUN.POLICY_CFG.HOOK_EN 7), 3, 5, by decide +kernel⟩,
   ⟨policy .wait [.route 7 true] [] ((casked (boundQ 1 false) none).put Reg.TUN.POLICY_CFG.HOOK_EN 7), 7, 5, true, by decide +kernel⟩,
   ⟨policy .wait [.classify 3] [] (up.put Reg.TUN.POLICY_CFG.HOOK_EN 7), 3, 5, by decide +kernel⟩,
   ⟨policy .running [.join 3] [] (up.put Reg.TUN.POLICY_CFG.HOOK_EN 7), 3, by decide +kernel⟩,
   ⟨policy .running [.classify 3] ((List.range 256).map fun n => (n + 1, ⟨.join n, none, [], false, 2⟩)) (up.put Reg.TUN.POLICY_CFG.HOOK_EN 7), 3, by decide +kernel⟩,
   ⟨policy .wait [] [] up, 5, 2, by decide +kernel⟩,
   ⟨policy .running [] [(4, ⟨.join 3, none, [], false, 2⟩)] up, 4, ⟨.join 3, none, [], false, 2⟩, by decide +kernel⟩,
   ⟨policy .running [] [(4, ⟨.join 3, some 5, [], false, 2⟩)] up, 4, ⟨.join 3, some 5, [], false, 2⟩, by decide +kernel⟩,
   ⟨policy .running [] [(4, ⟨.join 3, some 5, [], false, 2⟩)] up, 1, 4, ⟨.join 3, some 5, [], false, 2⟩, by decide +kernel⟩,
   ⟨policy .wait [] [] (grouped (grpOf [copyOf 9 (mframe 0 0 0) none]) up), 3, ⟨.join 3, none, [], false, 2⟩, by decide +kernel⟩,
   ⟨casked (boundQ 1 false) none |>.onCask fun x => { x with lists := [] }, 7, false, ⟨.route 7 false, none, [], false, 2⟩, by decide +kernel⟩,
   ⟨casked (boundQ 1 true) none, 7, true, ⟨.route 7 true, none, [], false, 2⟩, by decide +kernel⟩,
   ⟨grouped (grpOf [copyOf 9 (mframe 0 0 0) none]) up, 3, ⟨.classify 3, none, [], false, 2⟩, by decide +kernel⟩,
   ⟨policy .wait [.join 3] [] up, 3, by decide +kernel⟩⟩

theorem witness_StartUpCommands :
    (∃ (s : State) (a : Bool) (b : Bool), s.power.phase = .noVstby)
    ∧ (∃ (s : State) (n : Fin 4) (r : Bool), s.power.phase = .railUp n ∧ n.val < 3)
    ∧ (∃ (s : State) (r : Bool), s.power.phase = .railUp 3)
    ∧ (∃ (s : State), s.power.phase = .osc)
    ∧ (∃ (s : State), s.power.phase = .mem)
    ∧ (∃ (s : State) (l : List TamperSource), s.power.phase = .pll ∧ (∀ x ∈ l, s.start.fires x = false))
    ∧ (∃ (s : State) (l : List TamperSource), s.power.phase = .pll ∧ (∃ x ∈ l, s.start.fires x = true))
    ∧ (∃ (s : State) (p : Nat), s.bootable = true ∧ s.get Reg.KILN.STATUS.STATE ≠ 3 ∧ p ≤ 10)
    ∧ (∃ (s : State) (p : Nat), s.bootable = true ∧ s.get Reg.KILN.STATUS.STATE = 3 ∧ p ≤ 10)
    ∧ (∃ (s : State) (p : Nat), p ≤ 10 ∧ (s.power.phase ≠ .boot ∨ s.get Reg.KILN.STATUS.STATE ≤ 1 ∨ (s.get Reg.KILN.STATUS.STATE = 2 ∧ (s.boot.halted = true ∨ (s.on Reg.RNG.STATUS.SEEDED = false ∧ s.on Reg.RNG.STATUS.FAULT = false)))))
    ∧ (∃ (s : State) (c : Nat), stepFault s.power.phase = some c)
    ∧ (∃ (s : State) (n : Fin 4), railPassed s.power.phase n = true)
    ∧ (∃ (s : State) (n : Fin 4), s.power.phase = .railUp n)
    ∧ (∃ (s : State), holdable s.power.phase = true)
    ∧ (∃ (s : State), holdable s.power.phase = false)
    ∧ (∃ (s : State), s.power.phase = .resetHeld) :=
  ⟨⟨inPhase .noVstby, true, false, by decide +kernel⟩,
   ⟨inPhase (.railUp 2), 2, true, by decide +kernel⟩,
   ⟨inPhase (.railUp 3), true, by decide +kernel⟩,
   ⟨inPhase .osc, by decide +kernel⟩,
   ⟨inPhase .mem, by decide +kernel⟩,
   ⟨(inPhase .pll).onWatch fun w => { w with tripReport := true, tripLow := true }, [.pin 3 500, .vddH 800000 5000], by decide +kernel⟩,
   ⟨inPhase .pll, [.vddH 800000 5000, .vddH 900000 5000], by and_intros; exact rfl; exact ⟨.vddH 900000 5000, by decide +kernel, by decide +kernel⟩⟩,
   ⟨(((inPhase .boot).puts [(Reg.KILN.STATUS.STATE, 2), (Reg.RNG.STATUS.SEEDED, 1), (Reg.PWR.RAIL.EN 1, 1)]).onBoot fun b => { b with woke := true }).onWatch fun w => { w with tamperNight := true }, 3, by decide +kernel⟩,
   ⟨(inPhase .boot).put Reg.KILN.STATUS.STATE 3, 10, by decide +kernel⟩,
   ⟨(inPhase .boot).put Reg.KILN.STATUS.STATE 1, 10, by decide +kernel⟩,
   ⟨inPhase .boot, 0x17, by decide +kernel⟩,
   ⟨inPhase .running, 2, by decide +kernel⟩,
   ⟨inPhase (.railUp 2), 2, by decide +kernel⟩,
   ⟨inPhase .quiescing, by decide +kernel⟩,
   ⟨inPhase .osc, by decide +kernel⟩,
   ⟨inPhase .resetHeld, by decide +kernel⟩⟩

theorem witness_NightCommands :
    (∃ (s : State) (v : BitVec 32), s.up = true ∧ bitsAt v.toNat 0 8 = 0x4E ∧ bitsAt v.toNat 8 1 = 1 ∧ (s.watch.wakeNEn = true ∨ s.watch.wsEn = true))
    ∧ (∃ (s : State) (v : BitVec 32), s.up = true ∧ (bitsAt v.toNat 0 8 ≠ 0x4E ∨ (s.watch.wakeNEn = false ∧ s.watch.wsEn = false)))
    ∧ (∃ (s : State), s.power.phase = .quiescing)
    ∧ (∃ (s : State) (low : Bool), s.power.phase = .committed)
    ∧ (∃ (s : State) (n : Nat), s.power.phase = .powerDown (n + 1))
    ∧ (∃ (s : State), s.power.phase = .powerDown 0 ∧ s.watch.latched = none)
    ∧ (∃ (s : State) (w : Nat), s.power.phase = .powerDown 0 ∧ s.watch.latched = some w)
    ∧ (∃ (s : State) (b : BitVec 8), s.power.phase = .night ∧ s.watch.capWs = true ∧ b.toNat / 2 = 0b10110 * 4 + s.watch.wsAddr.toNat)
    ∧ (∃ (s : State) (b : BitVec 8) (first : Bool), s.power.phase ≠ .noVstby ∧ (first = false ∨ b.toNat / 2 ≠ 0b10110 * 4 + s.watch.wsAddr.toNat ∨ s.watch.capWs = false ∨ s.power.phase = .running))
    ∧ (∃ (s : State), s.power.phase = .night ∧ s.watch.wakeNOk = true)
    ∧ (∃ (s : State) (n : Nat), s.power.phase = .powerDown n ∧ s.watch.wakeNOk = true ∧ s.watch.latched = none)
    ∧ (∃ (s : State), s.power.phase ≠ .noVstby)
    ∧ (∃ (s : State), s.power.phase ≠ .noVstby)
    ∧ (∃ (s : State) (d : Fin 8), s.dieThere d = true ∧ s.power.phase ≠ .noVstby ∧ s.power.phase ≠ .night ∧ s.power.phase ≠ .committed ∧ (∀ n, s.power.phase ≠ .powerDown n))
    ∧ (∃ (s : State) (d : Fin 8), s.dieThere d = true ∧ (s.power.phase = .committed ∨ ∃ n, s.power.phase = .powerDown n)) :=
  ⟨⟨armed .running, 0x14E, by decide +kernel⟩,
   ⟨armed .running, 0x14F, by decide +kernel⟩,
   ⟨armed .quiescing, by decide +kernel⟩,
   ⟨armed .committed, true, by decide +kernel⟩,
   ⟨armed (.powerDown 2), 1, by decide +kernel⟩,
   ⟨armed (.powerDown 0), by decide +kernel⟩,
   ⟨(armed (.powerDown 0)).onWatch fun w => { w with latched := some 2 }, 2, by decide +kernel⟩,
   ⟨armed .night, 0xB2, by decide +kernel⟩,
   ⟨armed .night, 0xB2, false, by decide +kernel⟩,
   ⟨armed .night, by decide +kernel⟩,
   ⟨armed (.powerDown 3), 3, by decide +kernel⟩,
   ⟨armed .night, by decide +kernel⟩,
   ⟨armed .running, by decide +kernel⟩,
   ⟨armed .osc, 7, by and_intros; rotate_right; exact nofun; all_goals decide +kernel⟩,
   ⟨armed (.powerDown 2), 7, by and_intros; exact rfl; exact .inr ⟨2, rfl⟩⟩⟩

theorem witness_PowerCommands :
    (∃ (s : State) (r : List (List Int)), Instr.wf (.tempSample r) = true ∧ s.logicUp = true)
    ∧ (∃ (s : State) (d : Fin 8), s.logicUp = true ∧ d.val ∈ s.power.called ∧ d.val < 2 ∧ s.dieThere d = true ∧ levelOf (s.get Reg.PWR.LEVEL_STATUS.NOW) d = 0 ∧ s.power.change = none ∧ s.get Reg.PWR.LEVEL_REQ.HEAD < 4)
    ∧ (∃ (s : State) (d : Fin 8), s.logicUp = true ∧ d.val ∈ s.power.called ∧ 2 ≤ d.val ∧ s.dieThere d = true ∧ levelOf (s.get Reg.PWR.LEVEL_STATUS.NOW) d = 0 ∧ s.power.change = none)
    ∧ (∃ (s : State) (d : Fin 8), s.logicUp = true ∧ d.val ∈ s.power.called ∧ levelOf (s.get Reg.PWR.LEVEL_STATUS.NOW) d ≠ 0 ∧ s.power.change = none)
    ∧ (∃ (s : State) (d : Fin 8) (c : LevelChange), s.logicUp = true ∧ d.val ∈ s.power.called ∧ s.power.change = some c ∧ (c.stage = .railsUp ∨ c.stage = .settleUp) ∧ levelOf c.target d < levelOf (s.get Reg.PWR.LEVEL_STATUS.NOW) d)
    ∧ (∃ (s : State) (d : Fin 8) (c : LevelChange), s.logicUp = true ∧ d.val ∈ s.power.called ∧ s.power.change = some c ∧ (c.stage = .glide ∨ c.stage = .railsDown ∨ c.stage = .settleDown) ∧ levelOf c.target d = 0)
    ∧ (∃ (s : State) (d : Fin 8), s.logicUp = true ∧ d.val ∈ s.power.drop ∧ 16 ≤ Tbl.getD s.power.cool d 0)
    ∧ (∃ (s : State) (d : Fin 8), Tbl.getD s.power.cool d 0 < 16)
    ∧ (∃ (s : State) (v : BitVec 32), s.hostUp = true ∧ s.on Reg.PWR.LEVEL_STATUS.CHANGING = false ∧ s.levelsOk v.toNat = true)
    ∧ (∃ (s : State) (v : BitVec 32), s.hostUp = true ∧ s.on Reg.PWR.LEVEL_STATUS.CHANGING = false ∧ s.levelsOk v.toNat = false)
    ∧ (∃ (s : State) (v : BitVec 32), s.hostUp = true ∧ s.on Reg.PWR.LEVEL_STATUS.CHANGING = true)
    ∧ (∃ (s : State) (v : Nat), s.levelsOk v = true)
    ∧ (∃ (s : State), s.live = true ∧ s.power.reqPending = true ∧ s.power.change = none ∧ (s.moved s.levelReq true ≠ [] ∨ s.moved s.levelReq false ≠ []))
    ∧ (∃ (s : State), s.live = true ∧ s.power.reqPending = true ∧ s.power.change = none ∧ s.moved s.levelReq true = [] ∧ s.moved s.levelReq false = [])
    ∧ (∃ (s : State) (c : LevelChange) (x : Nat × Nat) (y : Nat × Nat) (l : List (Nat × Nat)), s.logicUp = true ∧ s.power.change = some c ∧ c.stage = .railsUp ∧ c.up = x :: y :: l ∧ s.pmReady = true)
    ∧ (∃ (s : State) (c : LevelChange) (x : Nat × Nat), s.logicUp = true ∧ s.power.change = some c ∧ c.stage = .railsDown ∧ c.down = [x])
    ∧ (∃ (s : State) (c : LevelChange), s.logicUp = true ∧ s.power.change = some c ∧ c.rails ≠ [] ∧ c.attempts < 2)
    ∧ (∃ (s : State) (c : LevelChange), s.logicUp = true ∧ s.power.change = some c ∧ c.rails ≠ [] ∧ 2 ≤ c.attempts ∧ s.power.dropNext = [])
    ∧ (∃ (s : State) (c : LevelChange), s.logicUp = true ∧ s.power.change = some c ∧ c.stage = .settleUp)
    ∧ (∃ (s : State) (c : LevelChange), s.logicUp = true ∧ s.power.change = some c ∧ c.stage = .settleDown ∧ s.power.dropNext = [])
    ∧ (∃ (s : State) (c : LevelChange) (d : Nat), s.logicUp = true ∧ s.power.change = some c ∧ c.stage = .settleDown ∧ d < 8 ∧ s.dieThere d = true ∧ s.power.dropNext = [d] ∧ levelOf (s.get Reg.PWR.LEVEL_STATUS.NOW) d = 0)
    ∧ (∃ (s : State) (c : LevelChange), s.logicUp = true ∧ s.power.change = some c ∧ c.stage = .glide ∧ s.power.dropNext = [])
    ∧ (∃ (s : State) (v : BitVec 32), s.hostUp = true ∧ (bitsAt v.toNat 0 1 = 0 ∨ s.duskOk = true))
    ∧ (∃ (s : State) (v : BitVec 32), s.hostUp = true ∧ bitsAt v.toNat 0 1 = 1 ∧ s.duskOk = false)
    ∧ (∃ (s : State), s.live = true ∧ s.on Reg.PWR.DUSK.REQ = true ∧ s.on Reg.PWR.DUSK.ACTIVE = false)
    ∧ (∃ (s : State), s.live = true ∧ s.get Reg.PWR.DUSK.REQ = 0 ∧ s.on Reg.PWR.DUSK.ACTIVE = true)
    ∧ (∃ (s : State) (v : BitVec 32) (p : Nat), s.hostUp = true ∧ bitsAt v.toNat 0 1 = 1 ∧ s.pmReady = false ∧ 1 ≤ bitsAt v.toNat 3 10 ∧ bitsAt v.toNat 3 10 ≤ 1000 ∧ p < 10)
    ∧ (∃ (s : State) (v : BitVec 32), s.hostUp = true ∧ bitsAt v.toNat 0 1 = 1 ∧ s.pmReady = false ∧ 1 ≤ bitsAt v.toNat 3 10 ∧ bitsAt v.toNat 3 10 ≤ 1000)
    ∧ (∃ (s : State) (v : BitVec 32) (p : Nat), s.hostUp = true ∧ p ≤ 10 ∧ (bitsAt v.toNat 3 10 = 0 ∨ 1000 < bitsAt v.toNat 3 10))
    ∧ (∃ (s : State) (c : LevelChange) (p : Nat), s.logicUp = true ∧ s.power.change = some c ∧ c.rails ≠ [] ∧ c.attempts < 2 ∧ p < 10) :=
  ⟨⟨up, [[430, 100], [470, 470]], by decide +kernel⟩,
   ⟨hotDie 1, 1, by decide +kernel⟩,
   ⟨(hotDie 6).puts [(Reg.LINK.CFG.EN 4 3, 1), (Reg.LINK.CFG.M 4 3, 24), (Reg.LINK.CFG.WIDTH 4 3, 4)], 6, by decide +kernel⟩,
   ⟨(hotDie 1).put Reg.PWR.LEVEL_STATUS.NOW 1, 1, by decide +kernel⟩,
   ⟨(hotDie 1).puts [(Reg.PWR.LEVEL_STATUS.NOW, 1)] |>.onPower fun x => { x with change := some ⟨0, .railsUp, [(1, 0), (2, 0)], [], 0⟩ }, 1, ⟨0, .railsUp, [(1, 0), (2, 0)], [], 0⟩, by decide +kernel⟩,
   ⟨(hotDie 1).puts [(Reg.PWR.LEVEL_STATUS.NOW, 1)] |>.onPower fun x => { x with change := some ⟨0, .glide, [], [], 0⟩ }, 1, ⟨0, .glide, [], [], 0⟩, by decide +kernel⟩,
   ⟨hotDie 7, 7, by decide +kernel⟩,
   ⟨hotDie 7, 6, by decide +kernel⟩,
   ⟨up, 1, by decide +kernel⟩,
   ⟨up, 3, by decide +kernel⟩,
   ⟨up.put Reg.PWR.LEVEL_STATUS.CHANGING 1, 1, by decide +kernel⟩,
   ⟨up, 5, by decide +kernel⟩,
   ⟨(up.onPower fun x => { x with reqPending := true }).puts [(Reg.PWR.LEVEL_REQ.HEAD, 1), (Reg.PWR.RAIL.EN 0, 1), (Reg.PWR.PM_I2C.EN, 1)], by decide +kernel⟩,
   ⟨up.onPower fun x => { x with reqPending := true }, by decide +kernel⟩,
   ⟨changing ⟨0, .railsUp, [(0, 1), (2, 0)], [], 1⟩, ⟨0, .railsUp, [(0, 1), (2, 0)], [], 1⟩, (0, 1), (2, 0), [], by decide +kernel⟩,
   ⟨changing ⟨1, .railsDown, [], [(0, 1)], 1⟩, ⟨1, .railsDown, [], [(0, 1)], 1⟩, (0, 1), by decide +kernel⟩,
   ⟨changing ⟨1, .railsDown, [], [(0, 1)], 1⟩, ⟨1, .railsDown, [], [(0, 1)], 1⟩, by decide +kernel⟩,
   ⟨changing ⟨1, .railsDown, [], [(0, 1)], 2⟩, ⟨1, .railsDown, [], [(0, 1)], 2⟩, by decide +kernel⟩,
   ⟨changing ⟨1, .settleUp, [], [(0, 1)], 2⟩, ⟨1, .settleUp, [], [(0, 1)], 2⟩, by decide +kernel⟩,
   ⟨changing ⟨1, .settleDown, [], [], 2⟩, ⟨1, .settleDown, [], [], 2⟩, by decide +kernel⟩,
   ⟨(changing ⟨0, .settleDown, [], [], 2⟩).onPower fun x => { x with dropNext := [3] }, ⟨0, .settleDown, [], [], 2⟩, 3, by decide +kernel⟩,
   ⟨changing ⟨1, .glide, [], [(0, 1)], 2⟩, ⟨1, .glide, [], [(0, 1)], 2⟩, by decide +kernel⟩,
   ⟨up, 1, by decide +kernel⟩,
   ⟨up.puts [(Reg.LINK.CFG.EN 4 3, 1), (Reg.LINK.CFG.M 4 3, 24), (Reg.LINK.CFG.WIDTH 4 3, 4), (Reg.FDIE.LINK_PWR.DUSK 4 3, 1)], 1, by decide +kernel⟩,
   ⟨up.puts [(Reg.PWR.DUSK.REQ, 1), (Reg.LINK.CFG.EN 4 3, 1), (Reg.LINK.CFG.M 4 3, 24), (Reg.LINK.CFG.WIDTH 4 3, 4)], by decide +kernel⟩,
   ⟨(up.puts [(Reg.PWR.DUSK.REQ, 0), (Reg.PWR.DUSK.ACTIVE, 1)]).onPower fun x => { x with duskLinks := [(4, 3)] }, by decide +kernel⟩,
   ⟨up.puts [(Reg.PWR.PM_I2C.BUS_STUCK, 1)], 0x83, 3, by decide +kernel⟩,
   ⟨up, 0x83, by decide +kernel⟩,
   ⟨up, 1, 10, by decide +kernel⟩,
   ⟨changing ⟨1, .railsDown, [], [(0, 1)], 1⟩, ⟨1, .railsDown, [], [(0, 1)], 1⟩, 3, by decide +kernel⟩⟩

theorem witness_RedundancyCommands :
    (∃ (s : State) (a : BitVec 32), s.live = true ∧ s.on Reg.SAFE.HEAD.CHECKED = true ∧ s.safe.hold = false)
    ∧ (∃ (s : State) (a : BitVec 32) (b : BitVec 32), s.live = true ∧ s.on Reg.SAFE.HEAD.CHECKED = true ∧ s.safe.hold = false ∧ a ≠ b)
    ∧ (∃ (s : State) (p : Bool) (q : Bool), s.live = true ∧ s.safe.hold = true ∧ s.on Reg.SAFE.HEAD.CHECKED = true ∧ (p = true ∨ q = false) ∧ s.get Reg.SAFE.HEAD.ACTIVE = 0)
    ∧ (∃ (s : State), s.live = true ∧ s.safe.hold = true ∧ s.on Reg.SAFE.HEAD.CHECKED = true ∧ s.get Reg.SAFE.HEAD.ACTIVE = 0 ∧ (∀ p ∈ s.tx.jobs, p.1 < s.safe.unconfirmedJob) ∧ (∀ p ∈ s.evt.pba, p / 256 ≠ 0))
    ∧ (∃ (s : State) (id : Nat) (j : TxJob) (d : Downlink), s.job? id = some j ∧ j.kind = .down ∧ s.down? j.queue = some d ∧ id ∈ d.jobs ∧ (j.stage = .building ∨ j.stage = .ready) ∧ d.sent = false ∧ (∀ p ∈ s.tx.jobs, p.1 ∈ d.jobs → p.2.stage ≠ .cleared ∧ p.2.stage ≠ .onAir))
    ∧ (∃ (s : State) (id : Nat) (j : TxJob), s.job? id = some j ∧ (j.stage = .cleared ∨ j.stage = .onAir))
    ∧ (∃ (s : State), s.live = true ∧ s.safe.hold = true ∧ s.on Reg.SAFE.HEAD.CHECKED = false)
    ∧ (∃ (s : State) (v : BitVec 32), s.hostUp = true ∧ bitsAt v.toNat 0 1 = 1 ∧ s.get Reg.SAFE.HEAD.FENCED ≠ 0 ∧ s.on Reg.SAFE.HEAD_CTL.REJOIN = false)
    ∧ (∃ (s : State), s.live = true ∧ s.get Reg.SAFE.HEAD.REJOIN_STATE = 1)
    ∧ (∃ (s : State), s.live = true ∧ s.get Reg.SAFE.HEAD.REJOIN_STATE = 1)
    ∧ (∃ (s : State), s.live = true ∧ s.get Reg.SAFE.HEAD.REJOIN_STATE = 2)
    ∧ (∃ (s : State), s.live = true ∧ s.get Reg.SAFE.HEAD.REJOIN_STATE = 2)
    ∧ (∃ (s : State) (f : Fin 6), s.live = true ∧ s.dieUp f = true ∧ s.diesUp ≠ [f.val] ∧ Tbl.wf s.tx.jobs = true)
    ∧ (∃ (s : State) (f : Fin 6), s.live = true ∧ s.dieUp f = true ∧ s.diesUp = [f.val])
    ∧ (∃ (s : State) (f : Fin 6) (x : BitVec 64) (n : Nat), s.live = true ∧ s.dieUp f = true ∧ Tbl.has s.safe.selftests f = false ∧ Tbl.find? s.safe.patrolAt f = some n ∧ n ≤ s.time.msc % 48 ∧ s.idleCtx f = true)
    ∧ (∃ (s : State) (f : Fin 6) (x : BitVec 64) (n : Nat), s.live = true ∧ s.dieUp f = true ∧ Tbl.has s.safe.selftests f = false ∧ Tbl.find? s.safe.patrolAt f = some n ∧ n ≤ s.time.msc % 48 ∧ s.idleCtx f = false)
    ∧ (∃ (s : State) (f : Fin 6) (x : BitVec 64), (∀ n, Tbl.find? s.safe.patrolAt f = some n → s.time.msc % 48 < n))
    ∧ (∃ (s : State) (f : Nat), s.safe.patrolWait = [f] ∧ s.dieUp f = true)
    ∧ (∃ (s : State) (f : Nat) (n : Nat), Tbl.find? s.drawPatrols.safe.patrolAt f = some n)
    ∧ (∃ (s : State) (f : Nat) (g : Nat) (x : BitVec 64), (s.safe.patrol.filter fun p => s.dieUp p.1) = [(f, x), (g, x)])
    ∧ (∃ (s : State) (f : Nat) (g : Nat) (x : BitVec 64) (y : BitVec 64), (s.safe.patrol.filter fun p => s.dieUp p.1) = [(f, x), (g, y)] ∧ x ≠ y)
    ∧ (∃ (s : State) (f : Fin 6), s.live = true ∧ Tbl.find? s.safe.selftests f = some .coreMismatch)
    ∧ (∃ (s : State) (f : Fin 6) (w : SelftestWhy), s.live = true ∧ Tbl.find? s.safe.selftests f = some w ∧ s.dieFenced f = false ∧ w ≠ .patrolPair)
    ∧ (∃ (s : State) (f : Fin 6), s.live = true ∧ Tbl.find? s.safe.selftests f = some .rejoin)
    ∧ (∃ (s : State) (f : Fin 6), s.live = true ∧ Tbl.find? s.safe.selftests f = some .rejoin ∧ s.dieFenced f = true)
    ∧ (∃ (s : State) (f : Fin 6), s.live = true ∧ Tbl.find? s.safe.selftests f = some .patrolPair ∧ s.safe.selftestNext = [] ∧ s.safe.pairPassed.length = 1)
    ∧ (∃ (s : State) (f : Fin 6) (v : BitVec 32), s.hostUp = true ∧ s.present f = true ∧ bitsAt v.toNat 2 1 = 1 ∧ s.dieFenced f = true ∧ s.on (Reg.SAFE.FDIE.REJOIN f) = false)
    ∧ (∃ (s : State) (f : Fin 6) (v : BitVec 32), s.hostUp = true ∧ s.present f = true ∧ s.dieFenced f = false) :=
  ⟨⟨lockstep false, 0x1234, by decide +kernel⟩,
   ⟨lockstep false, 0x1234, 0x1235, by decide +kernel⟩,
   ⟨lockstep true, false, false, by decide +kernel⟩,
   ⟨lockstep true, by decide +kernel⟩,
   ⟨(casked (boundQ 1 true) none).onTx fun x => { x with jobs := [(4, jobOf .down 5 96 1000 .ready)], downs := [(7, dl true [4])] }, 4, jobOf .down 5 96 1000 .ready, dl true [4], by decide +kernel⟩,
   ⟨(casked (boundQ 1 true) none).onTx fun x => { x with jobs := [(4, jobOf .down 5 96 1000 .cleared)], downs := [(7, dl true [4])] }, 4, jobOf .down 5 96 1000 .cleared, by decide +kernel⟩,
   ⟨(lockstep true).put Reg.SAFE.HEAD.CHECKED 0, by decide +kernel⟩,
   ⟨(lockstep false).puts [(Reg.SAFE.HEAD.CHECKED, 0), (Reg.SAFE.HEAD.FENCED, 2)], 1, by decide +kernel⟩,
   ⟨up.put Reg.SAFE.HEAD.REJOIN_STATE 1, by decide +kernel⟩,
   ⟨up.puts [(Reg.SAFE.HEAD.REJOIN_STATE, 1), (Reg.SAFE.HEAD_CTL.REJOIN, 1)], by decide +kernel⟩,
   ⟨(up.puts [(Reg.SAFE.HEAD.REJOIN_STATE, 2), (Reg.SAFE.HEAD_CTL.REJOIN, 1), (Reg.SAFE.HEAD.FENCED, 2), (Reg.SAFE.HEAD.CHECKED, 0)]).onSafe fun x => { x with uncorrectable := [(0x1020, 1), (0x2100, 1)] }, by decide +kernel⟩,
   ⟨up.puts [(Reg.SAFE.HEAD.REJOIN_STATE, 2), (Reg.SAFE.HEAD_CTL.REJOIN, 1), (Reg.SAFE.HEAD.FENCED, 2)], by decide +kernel⟩,
   ⟨radio [(4, jobOf .down 5 96 1000 .onAir), (5, jobOf .down 4 96 1000 .onAir)] [] up, 5, by decide +kernel⟩,
   ⟨lastUp 5, 5, by decide +kernel⟩,
   ⟨(demodding (demodOn 511)).onSafe fun x => { x with patrolAt := [(5, 0)], patrolWait := [5] }, 5, 0x123456789ABCDEF0, 0, by decide +kernel⟩,
   ⟨(up.onAir fun x => { x with ctxs := List.replicate 4096 (5 * 4096, demodOn 511) }).onSafe fun x => { x with patrolAt := [(5, 0)] }, 5, 1, 0, by decide +kernel⟩,
   ⟨up, 5, 77, by exact (fun n h => by cases (show (none : Option Nat) = some n from h))⟩,
   ⟨up.onSafe fun x => { x with patrolWait := [5] }, 5, by decide +kernel⟩,
   ⟨(lastUp 5).put Reg.RNG.STATUS.FALLBACK 1, 5, Config.fallbackNext ((lastUp 5).put Reg.RNG.STATUS.FALLBACK 1).kiln.fallback % 2 ^ 64 % 48, by exact rfl⟩,
   ⟨up.onSafe fun x => { x with patrol := [(4, 77), (5, 77)] }, 4, 5, 77, by decide +kernel⟩,
   ⟨up.onSafe fun x => { x with patrol := [(4, 77), (5, 78)] }, 4, 5, 77, 78, by decide +kernel⟩,
   ⟨testing 5 .coreMismatch up, 5, by decide +kernel⟩,
   ⟨testing 5 .patrolSingle up, 5, .patrolSingle, by decide +kernel⟩,
   ⟨testing 5 .rejoin (up.put (Reg.SAFE.FDIE.FENCED 5) 1), 5, by decide +kernel⟩,
   ⟨testing 5 .rejoin (up.put (Reg.SAFE.FDIE.FENCED 5) 1), 5, by decide +kernel⟩,
   ⟨(testing 5 .patrolPair up).onSafe fun x => { x with pairPassed := [4] }, 5, by decide +kernel⟩,
   ⟨up.put (Reg.SAFE.FDIE.FENCED 5) 1, 5, 4, by decide +kernel⟩,
   ⟨up, 5, 4, by decide +kernel⟩⟩

theorem witness_ErrorCommands :
    (∃ (s : State) (die : Fin 8) (u : BitVec 12) (a : BitVec 64) (d : BitVec 32), s.live = true ∧ s.unitThere (die * 4096 + u.toNat) = true)
    ∧ (∃ (s : State) (die : Fin 8) (u : BitVec 12) (a : BitVec 64) (d : BitVec 32), s.live = true ∧ s.unitThere (die * 4096 + u.toNat) = true ∧ Tbl.find? s.safe.uncorrectable (die * 4096 + u.toNat) = none)
    ∧ (∃ (s : State) (die : Fin 8) (u : BitVec 12) (a : BitVec 64) (d : BitVec 32) (f : Nat), s.live = true ∧ f < 6 ∧ s.unitThere (die * 4096 + u.toNat) = true ∧ Tbl.find? s.safe.uncorrectable (die * 4096 + u.toNat) = some 1 ∧ fenceOf (die * 4096 + u.toNat) = some (.die f) ∧ s.dieUp f = true ∧ s.lastDie f = false)
    ∧ (∃ (s : State) (die : Fin 8) (u : BitVec 12) (a : BitVec 64) (d : BitVec 32) (x : FenceOf), s.live = true ∧ s.unitThere (die * 4096 + u.toNat) = true ∧ Tbl.find? s.safe.uncorrectable (die * 4096 + u.toNat) = some 1 ∧ fenceOf (die * 4096 + u.toNat) = some x ∧ s.mayFence x = false)
    ∧ (∃ (s : State) (q : Fin 1048576), s.live = true)
    ∧ (∃ (s : State) (b : Fin 67108864), s.live = true)
    ∧ (∃ (s : State) (q : Fin 1048576), s.live = true ∧ Tbl.find? s.safe.uncorrectable (s.active * 4096 + 0x021) = none)
    ∧ (∃ (s : State) (q : Fin 1048576), s.live = true ∧ 0 < (s.queue q).count ∧ (s.queue q).sent = false ∧ Tbl.find? s.safe.uncorrectable (s.active * 4096 + 0x021) = none)
    ∧ (∃ (s : State) (q : Fin 1048576), s.live = true ∧ (s.queue q).sent = false ∧ 0 < (s.queue q).count ∧ Tbl.find? s.safe.uncorrectable (s.active * 4096 + 0x021) = none)
    ∧ (∃ (s : State) (q : Fin 1048576), s.live = true ∧ (s.queue q).sent = false ∧ Tbl.find? s.safe.uncorrectable (s.active * 4096 + 0x021) = none)
    ∧ (∃ (s : State) (c : TunCore) (a : BitVec 32), s.live = true ∧ s.coreThere c = true)
    ∧ (∃ (s : State) (c : TunCore) (a : BitVec 32), s.live = true ∧ s.coreThere c = true ∧ s.executes c = true ∧ Tbl.find? s.safe.uncorrectable (s.coreUnit c) = none)
    ∧ (∃ (s : State) (i : Fin 1114112) (w : BitVec 128) (p : BitVec 4) (e : NodeEntry), s.live = true ∧ Tbl.find? s.node.tab i = some e)
    ∧ (∃ (s : State) (d : HwError) (e : HwError), s.errorUnit e < s.errorUnit d)
    ∧ (∃ (s : State) (v : BitVec 32), s.hostUp = true)
    ∧ (∃ (s : State) (v : BitVec 32), s.hostUp = true) :=
  ⟨⟨up, 7, 0x104, 0x123456789, 5, by decide +kernel⟩,
   ⟨up, 7, 0x104, 0x123456789, 5, by decide +kernel⟩,
   ⟨up.onSafe fun x => { x with uncorrectable := [(0x7104, 1)] }, 7, 0x104, 0x123456789, 5, 5, by decide +kernel⟩,
   ⟨(lastUp 5).onSafe fun x => { x with uncorrectable := [(0x7104, 1)] }, 7, 0x104, 0x123456789, 5, .die 5, by decide +kernel⟩,
   ⟨up, 0xFFFFF, by decide +kernel⟩,
   ⟨up, 0x3FFFFFF, by decide +kernel⟩,
   ⟨up, 0xFFFFF, by decide +kernel⟩,
   ⟨casked (boundQ 2 false) none, 7, by decide +kernel⟩,
   ⟨casked (boundQ 2 false) none, 7, by decide +kernel⟩,
   ⟨casked (boundQ 2 false) none, 7, by decide +kernel⟩,
   ⟨up, .field 5 3, 0x100, by decide +kernel⟩,
   ⟨up.onTun fun x => { x with cores := [(3, { TunRun.init with st := .running })] }, .head 3, 0x100, by decide +kernel⟩,
   ⟨knows5 up, 0x100000, 3, 1, ((knows5 up).node.tab.map (·.2)).headD ⟨0, 0⟩, by decide +kernel⟩,
   ⟨up, .ofUnit 7 0x104 false 0 0, .ofUnit 2 0x104 false 1 0, by decide +kernel⟩,
   ⟨up.onSafe fun x => { x with log := [(3, ⟨5, 1, 0, false, false, false, 0, 0, 0⟩)] }, 5, by decide +kernel⟩,
   ⟨up.put Reg.SAFE.FAULT_CTL.CAUSE 0x1F, 0x1F03, by decide +kernel⟩⟩

theorem witness_TunArithmetic :
    (∃ (s : State) (c : TunCore) (r : TunRun) (d : Fin 16) (a : Fin 16) (b : Fin 16), s.fetches c r)
    ∧ (∃ (s : State) (c : TunCore) (r : TunRun) (d : Fin 16) (a : Fin 16) (b : Fin 16), s.fetches c r)
    ∧ (∃ (s : State) (c : TunCore) (r : TunRun) (d : Fin 16) (a : Fin 16) (i : BitVec 18) (u : BitVec 22), s.fetches c r)
    ∧ (∃ (s : State) (c : TunCore) (r : TunRun) (d : Fin 16) (a : Fin 16) (i : BitVec 18), s.fetches c r)
    ∧ (∃ (r : TunRun) (i : Fin 16) (v : Word), i ≠ 0 ∧ r.g.length = 16)
    ∧ (∃ (r : TunRun) (i : Fin 16) (j : Fin 16) (v : Word), i ≠ j) :=
  ⟨⟨tunAt (.field 5 3) regs6, .field 5 3, regs6, 7, 4, 5, by decide +kernel⟩,
   ⟨tunAt (.field 5 3) regs6, .field 5 3, regs6, 7, 4, 5, by decide +kernel⟩,
   ⟨tunAt (.field 5 3) regs6, .field 5 3, regs6, 7, 4, 0x3FFFF, 0x3FFFFF, by decide +kernel⟩,
   ⟨tunAt (.field 5 3) regs6, .field 5 3, regs6, 7, 5, 95, by decide +kernel⟩,
   ⟨regs6, 15, 77, by decide +kernel⟩,
   ⟨regs6, 15, 4, 77, by decide +kernel⟩⟩

theorem witness_TunControl :
    (∃ (s : State) (c : TunCore) (r : TunRun) (a : Fin 16) (o : BitVec 22), s.fetches c r)
    ∧ (∃ (s : State) (c : TunCore) (r : TunRun) (d : Fin 16) (o : BitVec 22), s.fetches c r)
    ∧ (∃ (s : State) (c : TunCore) (r : TunRun) (d : Fin 16) (a : Fin 16) (i : BitVec 18) (x : Word), s.fetches c r ∧ x = r.rd a + BitVec.ofInt 32 i.toInt ∧ x.toNat % 4 = 0)
    ∧ (∃ (s : State) (c : TunCore) (r : TunRun) (d : Fin 16) (a : Fin 16) (i : BitVec 18) (x : Word), s.fetches c r ∧ x = r.rd a + BitVec.ofInt 32 i.toInt ∧ x.toNat % 4 ≠ 0)
    ∧ (∃ (s : State) (c : TunCore) (r : TunRun), s.fetches c r)
    ∧ (∃ (s : State) (c : TunCore) (r : TunRun), s.fetches c r)
    ∧ (∃ (s : State) (c : TunCore) (r : TunRun) (w : BitVec 32), s.fetches c r ∧ tunWordLegal w.toNat = false)
    ∧ (∃ (s : State) (c : TunCore) (r : TunRun), s.fetches c r ∧ policyMode c = false)
    ∧ (∃ (s : State) (c : TunCore) (r : TunRun) (d : Fin 16) (a : Fin 16), s.fetches c r ∧ policyMode c = false)
    ∧ (∃ (s : State) (c : TunCore) (r : TunRun) (a : Fin 16), s.fetches c r ∧ policyMode c = false)
    ∧ (∃ (s : State) (c : TunCore) (r : TunRun) (d : Fin 16) (a : Fin 16), s.fetches c r ∧ policyMode c = true)
    ∧ (∃ (s : State) (c : TunCore) (r : TunRun), s.fetches c r ∧ policyMode c = false)
    ∧ (∃ (s : State) (c : TunCore) (r : TunRun) (call : Nat) (h : HookCall), s.fetches c r ∧ policyMode c = true ∧ s.callOn (coreKey c) = some (call, h))
    ∧ (∃ (s : State) (g : Nat) (v : Nat) (h : HookCall), h.hook = .join g)
    ∧ (∃ (s : State) (g : Nat) (v : Nat) (h : HookCall), h.hook = .classify g)
    ∧ (∃ (s : State) (q : Nat) (v : Nat) (u : Bool) (h : HookCall), h.hook = .route q u ∧ s.slotUsable q v = true)
    ∧ (∃ (s : State) (h : HookCall) (a : Nat) (v : Nat), 3 ≤ a)
    ∧ (∃ (s : State) (c : TunCore) (r : TunRun) (k : Nat) (bad : Word), s.core (coreKey c) = r ∧ policyMode c = false ∧ s.coreThere c = true ∧ r.ie = true)
    ∧ (∃ (s : State) (c : TunCore) (r : TunRun) (k : Nat) (call : Nat) (bad : Word) (h : HookCall), s.core (coreKey c) = r ∧ policyMode c = true ∧ k < 8 ∧ s.callOn (coreKey c) = some (call, h))
    ∧ (∃ (pc : Word), pc.toNat % 4 = 0)
    ∧ (∃ (pc : Word), pc.toNat % 4 ≠ 0 ∧ pc.toNat < 0x40000)
    ∧ (∃ (s : State) (c : TunCore) (k : Nat), s.executes c = true ∧ fetchCause (s.core (coreKey c)).pc = some k)
    ∧ (∃ (s : State) (c : TunCore) (r : TunRun) (n : Fin 16), s.logicUp = true ∧ s.coreThere c = true ∧ s.core (coreKey c) = r ∧ r.st = .running ∧ policyMode c = false ∧ r.ie = true ∧ r.lines = [])
    ∧ (∃ (s : State) (c : TunCore) (r : TunRun) (n : Fin 16), s.logicUp = true ∧ s.coreThere c = true ∧ s.core (coreKey c) = r ∧ r.st = .running ∧ policyMode c = false ∧ r.ie = false)
    ∧ (∃ (r : TunRun) (n : Nat) (l : List Nat), r.ie = true ∧ r.lines = n :: l)
    ∧ (∃ (r : TunRun), (r.ie = false ∨ r.lines = []))
    ∧ (∃ (s : State) (c : TunCore) (n : Fin 16), policyMode c = true) :=
  ⟨⟨tunAt (.field 5 3) regs6, .field 5 3, regs6, 4, 0x3FFFFF, by decide +kernel⟩,
   ⟨tunAt (.field 5 3) regs6, .field 5 3, regs6, 4, 0x3FFFFF, by decide +kernel⟩,
   ⟨tunAt (.field 5 3) regs6, .field 5 3, regs6, 4, 1, 0x3FFFC, 60, by decide +kernel⟩,
   ⟨tunAt (.field 5 3) regs6, .field 5 3, regs6, 4, 1, 2, 66, by decide +kernel⟩,
   ⟨tunAt (.field 5 3) regs6, .field 5 3, regs6, by decide +kernel⟩,
   ⟨tunAt (.field 5 3) regs6, .field 5 3, regs6, by decide +kernel⟩,
   ⟨tunAt (.field 5 3) regs6, .field 5 3, regs6, 0xFFFFFFFF, by decide +kernel⟩,
   ⟨tunAt (.head 3) regs6, .head 3, regs6, by decide +kernel⟩,
   ⟨tunAt (.head 3) regs6, .head 3, regs6, 7, 6, by decide +kernel⟩,
   ⟨tunAt (.head 3) regs6, .head 3, regs6, 4, by decide +kernel⟩,
   ⟨tunAt (.head 5) regs6, .head 5, regs6, 7, 6, by decide +kernel⟩,
   ⟨tunAt (.head 3) regs6, .head 3, regs6, by decide +kernel⟩,
   ⟨(inCall (.join 3) up).onTun fun x => { x with boxes := [(5, [(0xC0, 1)])] }, .head 5, regs6, 4, ⟨.join 3, some 5, [], false, 15⟩, by decide +kernel⟩,
   ⟨grouped (grpOf [copyOf 9 (mframe 0 0 0) none]) up, 3, 4, ⟨.join 3, some 5, [], false, 15⟩, by decide +kernel⟩,
   ⟨(grouped (grpOf [copyOf 9 (mframe 0 0 0) none]) up).puts [(Reg.RING.CTL.EN 4, 1), (Reg.RING.CTL.TYPE 4, 2)], 3, 4, ⟨.classify 3, some 5, [], false, 15⟩, by decide +kernel⟩,
   ⟨(casked (boundQ 1 false) none).onNode fun x => { x with tab := [(0x100000, nodeE (putBits (nodeW 5 1) 32 12 7))] }, 7, 0, false, ⟨.route 7 false, some 5, [], false, 15⟩, by decide +kernel⟩,
   ⟨up, ⟨.join 3, some 5, [], false, 15⟩, 3, 7, by decide +kernel⟩,
   ⟨tunAt (.field 5 3) { regs6 with ie := true }, .field 5 3, { regs6 with ie := true }, 3, 0x300, by decide +kernel⟩,
   ⟨inCall (.join 3) up, .head 5, regs6, 3, 4, 0x300, ⟨.join 3, some 5, [], false, 15⟩, by decide +kernel⟩,
   ⟨0x3FFFC, by decide +kernel⟩,
   ⟨0x3FFFD, by decide +kernel⟩,
   ⟨tunAt (.field 5 3) { regs6 with pc := 0x40000 }, .field 5 3, 3, by decide +kernel⟩,
   ⟨tunAt (.field 5 3) { regs6 with ie := true, wfe := true }, .field 5 3, { regs6 with ie := true, wfe := true }, 15, by decide +kernel⟩,
   ⟨tunAt (.field 5 3) { regs6 with wfe := true }, .field 5 3, { regs6 with wfe := true }, 15, by decide +kernel⟩,
   ⟨{ regs6 with ie := true, lines := [9, 4] }, 9, [4], by decide +kernel⟩,
   ⟨regs6, by decide +kernel⟩,
   ⟨up, .head 7, 15, by decide +kernel⟩⟩

theorem witness_TunMemory :
    (∃ (s : State) (c : TunCore) (r : TunRun) (d : Fin 16) (b : Fin 16) (m : AddrMode) (reg : Region) (e : Word × Word), s.fetches c r ∧ (movesBase m = true → d ≠ b) ∧ reg ≠ .control)
    ∧ (∃ (s : State) (c : TunCore) (r : TunRun) (d : Fin 16) (b : Fin 16) (m : AddrMode) (reg : Region) (e : Word × Word), s.fetches c r ∧ reg ≠ .control)
    ∧ (∃ (s : State) (c : TunCore) (r : TunRun) (d : Fin 16) (m : AddrMode), s.fetches c r ∧ movesBase m = true)
    ∧ (∃ (s : State) (c : TunCore) (r : TunRun) (d : Fin 16) (b : Fin 16) (m : AddrMode) (k : Nat), s.fetches c r ∧ (movesBase m = true → d ≠ b) ∧ access c (effective r b m 4).1.toNat 4 = .error k)
    ∧ (∃ (s : State) (c : TunCore) (r : TunRun) (d : Fin 16) (b : Fin 16) (m : AddrMode), s.fetches c r ∧ access c (effective r b m 4).1.toNat 4 = .ok .control)
    ∧ (∃ (s : State) (c : TunCore) (a : Nat) (bs : List Byte), a + bs.length ≤ 0x40000)
    ∧ (∃ (s : State) (c : TunCore) (a : Nat) (bs : List Byte), 0x10000000 ≤ a)
    ∧ (∃ (c : TunCore) (a : Nat) (z : Nat), a % z = 0 ∧ a < 0x40000)
    ∧ (∃ (c : TunCore) (a : Nat) (z : Nat), a % z = 0 ∧ policyMode c = true ∧ 0x40000 ≤ a ∧ (a < 0x10180000 ∨ 0x10200000 ≤ a) ∧ (a < 0x20000000 ∨ 0x20000100 ≤ a))
    ∧ (∃ (c : TunCore) (a : Nat) (z : Nat), a % z = 0 ∧ policyMode c = true ∧ 0x20000000 ≤ a ∧ a < 0x20000100)
    ∧ (∃ (c : TunCore) (a : Nat) (z : Nat), a % z = 0 ∧ policyMode c = false ∧ 0x10000000 ≤ a ∧ a < 0x10180000)
    ∧ (∃ (c : TunCore) (a : Nat) (z : Nat), a % z ≠ 0 ∧ a < 0x40000)
    ∧ (∃ (s : State) (c : TunCore) (r : TunRun) (b : BlkArgs) (n : Nat), s.fetches c r ∧ r.rd b.n = 0)
    ∧ (∃ (s : State) (c : TunCore) (r : TunRun) (b : BlkArgs) (n : Nat) (p : Region) (q : Region), s.fetches c r ∧ r.rd b.n = 1 ∧ r.g.length = 16 ∧ blkLegal .mov b = true ∧ access c (r.rd b.s).toNat (2 ^ b.size.val) = .ok p ∧ access c (r.rd b.d).toNat (2 ^ b.size.val) = .ok q ∧ p ≠ .control ∧ q ≠ .control)
    ∧ (∃ (s : State) (c : TunCore) (r : TunRun) (b : BlkArgs) (n : Nat) (q : Region), s.fetches c r ∧ r.rd b.n = 1 ∧ r.g.length = 16 ∧ blkLegal .set b = true ∧ access c (r.rd b.d).toNat (2 ^ b.size.val) = .ok q ∧ q ≠ .control)
    ∧ (∃ (s : State) (c : TunCore) (r : TunRun) (b : BlkArgs) (n : Nat) (p : Region), s.fetches c r ∧ r.rd b.n ≠ 0 ∧ access c (r.rd b.s).toNat (2 ^ b.size.val) = .ok p ∧ p ≠ .control)
    ∧ (∃ (s : State) (c : TunCore) (r : TunRun) (b : BlkArgs) (n : Nat) (x : Nat) (y : Nat) (p : Region) (q : Region), s.fetches c r ∧ r.rd b.n ≠ 0 ∧ blkLegal .cmp b = true ∧ access c (r.rd b.s).toNat (2 ^ b.size.val) = .ok p ∧ access c (r.rd b.d).toNat (2 ^ b.size.val) = .ok q ∧ p ≠ .control ∧ q ≠ .control ∧ x = leVal (s.tunLoad c p (r.rd b.s).toNat (2 ^ b.size.val)) ∧ y = leVal (s.tunLoad c q (r.rd b.d).toNat (2 ^ b.size.val)))
    ∧ (∃ (s : State) (c : TunCore) (r : TunRun) (b : BlkArgs) (n : Nat) (p : Region), s.fetches c r ∧ r.rd b.n = 1 ∧ r.g.length = 16 ∧ blkLegal .crc b = true ∧ access c (r.rd b.s).toNat (2 ^ b.size.val) = .ok p ∧ p ≠ .control)
    ∧ (∃ (s : State) (x : State) (r : TunRun) (y : TunRun) (c : TunCore) (k : BlkKind) (b : BlkArgs) (n : Nat), r.rd b.n ≠ 0 ∧ k ≠ .cmp ∧ s.blkElem r c k b = (x, y, .more))
    ∧ (∃ (s : State) (c : TunCore) (r : TunRun) (b : BlkArgs) (n : Nat) (k : Nat), s.fetches c r ∧ r.rd b.n ≠ 0 ∧ blkLegal .crc b = true ∧ access c (r.rd b.s).toNat (2 ^ b.size.val) = .error k)
    ∧ (∃ (s : State) (c : TunCore) (r : TunRun) (b : BlkArgs) (n : Nat), s.fetches c r ∧ blkLegal .mov b = false) :=
  ⟨⟨tunAt (.field 5 3) regs6, .field 5 3, regs6, 4, 1, .postInc, .tcm, (64, 68), by decide +kernel⟩,
   ⟨tunAt (.field 5 3) regs6, .field 5 3, regs6, 5, 1, .offset 4, .tcm, (68, 64), by decide +kernel⟩,
   ⟨tunAt (.field 5 3) regs6, .field 5 3, regs6, 4, .preDec, by decide +kernel⟩,
   ⟨tunAt (.field 5 3) regs6, .field 5 3, regs6, 4, 7, .offset 0, 2, by and_intros; rotate_left 4; exact rfl; all_goals decide +kernel⟩,
   ⟨tunAt (.field 5 3) regs6, .field 5 3, regs6, 4, 8, .offset 0, by and_intros; rotate_left 3; exact rfl; all_goals decide +kernel⟩,
   ⟨tunAt (.field 5 3) regs6, .field 5 3, 66, [1, 2], by decide +kernel⟩,
   ⟨tunAt (.field 5 3) regs6, .field 5 3, 0x10000000, [1, 2], by decide +kernel⟩,
   ⟨.head 4, 0x3FFFE, 2, by decide +kernel⟩,
   ⟨.head 4, 0x10000000, 4, by decide +kernel⟩,
   ⟨.head 4, 0x200000FF, 1, by decide +kernel⟩,
   ⟨.head 3, 0x10000000, 4, by decide +kernel⟩,
   ⟨.head 3, 1, 2, by decide +kernel⟩,
   ⟨tunAt (.field 5 3) regs6, .field 5 3, regs6, ⟨2, 1, 9, 4, 0⟩, 0, by decide +kernel⟩,
   ⟨tunAt (.field 5 3) regs6, .field 5 3, regs6, ⟨2, 1, 3, 4, 0⟩, 0, .tcm, .tcm, by and_intros; rotate_left 6; exact rfl; exact rfl; all_goals decide +kernel⟩,
   ⟨tunAt (.field 5 3) regs6, .field 5 3, regs6, ⟨2, 0, 3, 4, 0⟩, 0, .tcm, by and_intros; rotate_left 6; exact rfl; all_goals decide +kernel⟩,
   ⟨tunAt (.field 5 3) regs6, .field 5 3, regs6, ⟨0, 1, 3, 4, 0⟩, 0, .tcm, by and_intros; rotate_left 4; exact rfl; all_goals decide +kernel⟩,
   ⟨tunAt (.field 5 3) regs6, .field 5 3, regs6, ⟨2, 1, 3, 4, 0⟩, 0, 0x81, 0x82, .tcm, .tcm, by and_intros; rotate_left 5; exact rfl; exact rfl; all_goals decide +kernel⟩,
   ⟨tunAt (.field 5 3) regs6, .field 5 3, regs6, ⟨0, 1, 3, 4, 0⟩, 0, .tcm, by and_intros; rotate_left 6; exact rfl; all_goals decide +kernel⟩,
   ⟨tunAt (.field 5 3) regs6, (tunAt (.field 5 3) regs6).blkElem regs6 (.field 5 3) .crc ⟨0, 1, 3, 4, 0⟩ |>.1, regs6, ((tunAt (.field 5 3) regs6).blkElem regs6 (.field 5 3) .crc ⟨0, 1, 3, 4, 0⟩).2.1, .field 5 3, .crc, ⟨0, 1, 3, 4, 0⟩, 3, by decide +kernel⟩,
   ⟨tunAt (.field 5 3) regs6, .field 5 3, regs6, ⟨0, 6, 3, 4, 0⟩, 0, 3, by and_intros; rotate_left 5; exact rfl; all_goals decide +kernel⟩,
   ⟨tunAt (.field 5 3) regs6, .field 5 3, regs6, ⟨0, 1, 3, 4, 0⟩, 5, by decide +kernel⟩⟩

theorem witness_UpdateCommands :
    (∃ (s : State) (n : Fin 4096) (d : List Byte), Instr.wf (.stageErase n d) = true ∧ s.cmdDue n = true ∧ s.boot.job = none ∧ (s.boot.session = none ∨ s.boot.session = some n.val) ∧ s.get Reg.BOOT.STATUS.STATE ≠ 1)
    ∧ (∃ (s : State) (n : Fin 4096) (d : List Byte), Instr.wf (.stageErase n d) = true ∧ s.cmdDue n = true ∧ s.boot.job = none ∧ ((∃ m, s.boot.session = some m ∧ m ≠ n.val) ∨ s.get Reg.BOOT.STATUS.STATE = 1))
    ∧ (∃ (s : State) (n : Fin 4096) (d : List Byte) (j : FlashJob), s.boot.job = some j ∧ Instr.wf (.activate n d) = true)
    ∧ (∃ (s : State) (n : Fin 4096) (d : List Byte) (m : List Byte), Instr.wf (.stageWrite n d (some m)) = true ∧ s.cmdDue n = true ∧ s.boot.job = none ∧ s.boot.session = some n.val ∧ uOffset d % 256 = 0 ∧ kInLen d % 256 = 0 ∧ kInLen d ≤ 0x100000 ∧ uOffset d + kInLen d ≤ 0xF80000 ∧ (s.passDescriptor n).firstBad false (leAt d 8 8) (kInLen d) = none)
    ∧ (∃ (s : State) (n : Fin 4096) (d : List Byte), Instr.wf (.stageWrite n d none) = true ∧ s.cmdDue n = true ∧ s.boot.job = none ∧ s.boot.session = some n.val ∧ uOffset d % 256 = 0 ∧ kInLen d % 256 = 0 ∧ kInLen d ≤ 0x100000 ∧ uOffset d + kInLen d ≤ 0xF80000 ∧ (s.passDescriptor n).firstBad false (leAt d 8 8) (kInLen d) = none)
    ∧ (∃ (s : State) (n : Fin 4096) (d : List Byte) (a : Nat), Instr.wf (.stageRead n d) = true ∧ s.cmdDue n = true ∧ s.boot.job = none ∧ uOffset d + kInLen d ≤ 0xF80000 ∧ (s.passDescriptor n).firstBad true (leAt d 8 8) (kInLen d) = some a)
    ∧ (∃ (s : State) (n : Fin 4096) (d : List Byte) (data : Option (List Byte)), Instr.wf (.stageWrite n d data) = true ∧ s.cmdDue n = true ∧ s.boot.job = none ∧ s.boot.session ≠ some n.val)
    ∧ (∃ (s : State) (n : Fin 4096) (d : List Byte) (data : Option (List Byte)), Instr.wf (.stageWrite n d data) = true ∧ s.cmdDue n = true ∧ s.boot.job = none ∧ s.boot.session = some n.val ∧ uOffset d % 256 = 0 ∧ (kInLen d % 256 ≠ 0 ∨ 0x100000 < kInLen d ∨ 0xF80000 < uOffset d + kInLen d))
    ∧ (∃ (s : State) (n : Fin 4096) (d : List Byte), Instr.wf (.stageRead n d) = true ∧ s.cmdDue n = true ∧ s.boot.job = none ∧ uOffset d + kInLen d ≤ 0xF80000 ∧ (s.passDescriptor n).firstBad true (leAt d 8 8) (kInLen d) = none)
    ∧ (∃ (s : State) (n : Fin 4096) (d : List Byte), Instr.wf (.activate n d) = true ∧ s.cmdDue n = true ∧ s.boot.job = none ∧ s.boot.session = some n.val)
    ∧ (∃ (s : State) (n : Fin 4096) (d : List Byte), Instr.wf (.abort n d) = true ∧ s.cmdDue n = true ∧ s.boot.job = none ∧ s.boot.session = some n.val)
    ∧ (∃ (s : State) (n : Fin 4096) (d : List Byte), Instr.wf (.activate n d) = true ∧ s.cmdDue n = true ∧ s.boot.job = none ∧ s.boot.session ≠ some n.val)
    ∧ (∃ (s : State) (n : Fin 4096) (d : List Byte), Instr.wf (.abort n d) = true ∧ s.cmdDue n = true ∧ s.boot.job = none ∧ s.boot.session ≠ some n.val)
    ∧ (∃ (s : State) (n : Fin 4096) (d : List Byte), Instr.wf (.healthConfirm n d false) = true ∧ s.cmdDue n = true ∧ s.boot.job = none ∧ s.get Reg.BOOT.STATUS.STATE = 1)
    ∧ (∃ (s : State) (n : Fin 4096) (d : List Byte), Instr.wf (.healthConfirm n d false) = true ∧ s.cmdDue n = true ∧ s.boot.job = none ∧ s.get Reg.BOOT.STATUS.STATE ≠ 1)
    ∧ (∃ (s : State) (n : Fin 4096) (d : List Byte) (k : Nat), Instr.wf (.healthConfirm n d true) = true ∧ s.boot.watch = some k)
    ∧ (∃ (s : State) (n : Fin 4096) (d : List Byte), Instr.wf (.updateBadOpcode n d) = true ∧ s.cmdDue n = true)
    ∧ (∃ (s : State) (c : CmdRef) (k : Nat), s.logicUp = true ∧ s.boot.job = some ⟨c, .erase k⟩ ∧ k ≤ 1)
    ∧ (∃ (s : State) (c : CmdRef) (k : Nat) (off : Nat) (d : List Byte), s.logicUp = true ∧ s.boot.job = some ⟨c, .program k off d⟩ ∧ k ≤ 1)
    ∧ (∃ (s : State) (c : CmdRef) (k : Nat) (r : SelRec), s.logicUp = true ∧ s.boot.job = some ⟨c, .select k⟩ ∧ s.boot.newest = some r ∧ r.seq + 1 < 2 ^ 32 ∧ k ≤ 1)
    ∧ (∃ (s : State) (c : CmdRef) (k : Nat) (r : SelRec), s.logicUp = true ∧ s.boot.job = some ⟨c, .confirm k⟩ ∧ s.boot.newest = some r ∧ r.seq + 1 < 2 ^ 32 ∧ k ≤ 1)
    ∧ (∃ (s : State) (v : BitVec 32), s.hostUp = true ∧ bitsAt v.toNat 0 8 = 0x52 ∧ bitsAt v.toNat 8 1 = 1)
    ∧ (∃ (s : State) (v : BitVec 32), s.hostUp = true ∧ bitsAt v.toNat 0 8 ≠ 0x52)
    ∧ (∃ (s : State), s.logicUp = true ∧ s.boot.watch = some 0)
    ∧ (∃ (s : State), s.boot.watch ≠ some 0)
    ∧ (∃ (s : State) (r : SelRec), s.boot.newest = some r ∧ r.st = 1 ∧ r.slot ≤ 1 ∧ r.seq + 1 < 2 ^ 32 ∧ s.slotFails (1 - r.slot) = 0)
    ∧ (∃ (s : State) (r : SelRec), s.boot.newest = some r ∧ r.st = 0 ∧ r.slot ≤ 1 ∧ r.seq + 1 < 2 ^ 32 ∧ s.slotFails r.slot = 0)
    ∧ (∃ (s : State) (r : SelRec), s.boot.newest = some r ∧ r.st = 2 ∧ r.slot ≤ 1 ∧ r.seq + 1 < 2 ^ 32 ∧ s.slotFails r.slot ≠ 0 ∧ s.slotFails (1 - r.slot) = 0)
    ∧ (∃ (s : State) (r : SelRec), s.boot.newest = some r ∧ r.st = 2 ∧ r.slot ≤ 1 ∧ r.seq + 1 < 2 ^ 32 ∧ s.slotFails r.slot ≠ 0 ∧ s.slotFails (1 - r.slot) ≠ 0) :=
  ⟨⟨upd none, 2, udesc 0x40 0 0, by decide +kernel⟩,
   ⟨upd (some 3), 2, udesc 0x40 0 0, by decide +kernel⟩,
   ⟨flashing (.select 0), 2, udesc 0x43 0 0, ⟨⟨2, 1, 0x41, 6⟩, .select 0⟩, by decide +kernel⟩,
   ⟨upd (some 2), 2, udesc 0x41 256 512, List.replicate 256 7, by decide +kernel⟩,
   ⟨upd (some 2), 2, udesc 0x41 256 512, by decide +kernel⟩,
   ⟨cmd2 up, 2, udesc 0x42 5 16, 0, by decide +kernel⟩,
   ⟨upd none, 2, udesc 0x41 256 512, none, by decide +kernel⟩,
   ⟨upd (some 2), 2, udesc 0x41 255 512, none, by decide +kernel⟩,
   ⟨upd none, 2, udesc 0x42 5 0xF7FFFB, by decide +kernel⟩,
   ⟨upd (some 2), 2, udesc 0x43 0 0, by decide +kernel⟩,
   ⟨upd (some 2), 2, udesc 0x45 0 0, by decide +kernel⟩,
   ⟨upd none, 2, udesc 0x43 0 0, by decide +kernel⟩,
   ⟨upd none, 2, udesc 0x45 0 0, by decide +kernel⟩,
   ⟨((upd none).put Reg.BOOT.STATUS.STATE 1).onBoot fun x => { x with watch := some 7 }, 2, udesc 0x44 0 0, by decide +kernel⟩,
   ⟨upd none, 2, udesc 0x44 0 0, by decide +kernel⟩,
   ⟨((upd none).put Reg.BOOT.STATUS.STATE 1).onBoot fun x => { x with watch := some 7 }, 2, udesc 0x44 0 0, 7, by decide +kernel⟩,
   ⟨upd none, 2, udesc 0x4F 0 0, by decide +kernel⟩,
   ⟨flashing (.erase 1), ⟨2, 1, 0x41, 6⟩, 1, by decide +kernel⟩,
   ⟨flashing (.program 1 256 [1, 2]), ⟨2, 1, 0x41, 6⟩, 1, 256, [1, 2], by decide +kernel⟩,
   ⟨flashing (.select 1), ⟨2, 1, 0x41, 6⟩, 1, ⟨1, 0, 2, 3⟩, by decide +kernel⟩,
   ⟨flashing (.confirm 1), ⟨2, 1, 0x41, 6⟩, 1, ⟨1, 0, 2, 3⟩, by decide +kernel⟩,
   ⟨up, 0x152, by decide +kernel⟩,
   ⟨up, 0x153, by decide +kernel⟩,
   ⟨up.onBoot fun x => { x with watch := some 0 }, by decide +kernel⟩,
   ⟨up.onBoot fun x => { x with watch := some 1 }, by decide +kernel⟩,
   ⟨selected ⟨1, 1, 1, 2⟩ true, ⟨1, 1, 1, 2⟩, by decide +kernel⟩,
   ⟨selected ⟨1, 0, 0, 2⟩ true, ⟨1, 0, 0, 2⟩, by decide +kernel⟩,
   ⟨selected ⟨1, 1, 2, 2⟩ true, ⟨1, 1, 2, 2⟩, by decide +kernel⟩,
   ⟨selected ⟨1, 0, 2, 2⟩ false, ⟨1, 0, 2, 2⟩, by decide +kernel⟩⟩

theorem witness_TuningCommands :
    (∃ (s : State) (f : Fin 6) (v : BitVec 32), s.hostUp = true ∧ s.dieUp f = true ∧ s.on (Reg.BCAST.CTL.EN f) = true ∧ 65000 ≤ bitsAt v.toNat 0 18 ∧ bitsAt v.toNat 0 18 ≤ 240000)
    ∧ (∃ (s : State) (f : Fin 6) (v : BitVec 32), s.hostUp = true ∧ s.dieUp f = true ∧ (bitsAt v.toNat 0 18 < 65000 ∨ 240000 < bitsAt v.toNat 0 18))
    ∧ (∃ (s : State) (f : Fin 6) (v : BitVec 32), s.hostUp = true ∧ s.dieUp f = true ∧ bitsAt v.toNat 6 2 ≠ 3 ∧ bitsAt v.toNat 8 8 ≠ 0 ∧ bitsAt v.toNat 2 1 = 0 ∧ bitsAt v.toNat 0 1 = 1 ∧ (s.on (Reg.BCAST.CTL.EN f) = false ∨ s.get (Reg.BCAST.CTL.MODE f) ≠ bitsAt v.toNat 1 1))
    ∧ (∃ (s : State) (f : Fin 6) (g : Fin 6) (v : BitVec 32), s.hostUp = true ∧ s.dieUp f = true ∧ (bitsAt v.toNat 6 2 = 3 ∨ bitsAt v.toNat 8 8 = 0 ∨ (bitsAt v.toNat 2 1 = 1 ∧ g ≠ f ∧ s.on (Reg.BCAST.CTL.REF g) = true)))
    ∧ (∃ (s : State) (f : Fin 6), s.live = true ∧ s.dieUp f = true ∧ (s.chainB f).retuning = true)
    ∧ (∃ (s : State) (f : Fin 6) (a : AltFreq), s.chainRuns f (s.get (Reg.BCAST.CTL.MODE f)) = true ∧ s.on (Reg.BCAST.CTL.AF_EN f) = true ∧ (s.chainB f).dwell = none ∧ s.get (Reg.BCAST.CTL.INTERVAL f) ≤ (s.chainB f).since ∧ (s.get (Reg.BCAST.CTL.MODE f) = 0 ∨ ∃ n, (s.chainB f).nullAt = some n ∧ 2000000 ≤ s.nsSince n) ∧ (s.chainB f).alts[(s.chainB f).nextAlt]? = some a ∧ a.skipped = false)
    ∧ (∃ (s : State) (f : Fin 6) (k : Nat) (level : Int) (tuned : Int), s.live = true ∧ s.dieUp f = true ∧ (s.chainB f).dwell = some (.check k) ∧ (s.chainB f).cand = none ∧ level < tuned + 6)
    ∧ (∃ (s : State) (f : Fin 6) (a : AltFreq) (level : Int) (tuned : Int), s.live = true ∧ s.dieUp f = true ∧ (s.chainB f).dwell = some (.check a.khz) ∧ (s.chainB f).cand = none ∧ a ∈ (s.chainB f).alts ∧ a.skipped = false ∧ 2 ≤ a.good ∧ tuned + 6 ≤ level ∧ s.maySwitch f false = true ∧ s.on (Reg.BCAST.STATUS.ID_VALID f) = true)
    ∧ (∃ (s : State) (f : Fin 6) (a : AltFreq), s.chainRuns f (s.get (Reg.BCAST.CTL.MODE f)) = true ∧ s.maySwitch f true = true ∧ (s.chainB f).dwell = none ∧ ((s.get (Reg.BCAST.CTL.MODE f) = 0 ∧ ∃ u, (s.chainB f).lostAt = some u ∧ 1000000000 ≤ s.nsSince u) ∨ (s.get (Reg.BCAST.CTL.MODE f) = 1 ∧ 3 ≤ (s.chainB f).missed)) ∧ (s.chainB f).bestAlt s.time.msc = some a ∧ s.on (Reg.BCAST.STATUS.ID_VALID f) = true)
    ∧ (∃ (r : BcastRun) (msc : Nat) (a : AltFreq), r.bestAlt msc = some a)
    ∧ (∃ (s : State) (f : Fin 6), s.on (Reg.BCAST.CTL.REF f) = true ∧ s.get (Reg.BCAST.CTL.MODE f) = 1 ∧ s.get (Reg.BCAST.CTL.DAB_FOLLOW f) = 0)
    ∧ (∃ (s : State) (f : Fin 6) (k : Nat) (loss : Bool) (i : BitVec 16), s.live = true ∧ s.dieUp f = true ∧ (s.chainB f).dwell = some (.verify k loss) ∧ i.toNat = s.get (Reg.BCAST.STATUS.ID f) ∧ k < 2 ^ 18 ∧ s.maySwitch f loss = true ∧ s.feeds f 1 = false)
    ∧ (∃ (s : State) (f : Fin 6) (k : Nat) (loss : Bool) (i : BitVec 16), s.live = true ∧ s.dieUp f = true ∧ (s.chainB f).dwell = some (.verify k loss) ∧ i.toNat = s.get (Reg.BCAST.STATUS.ID f) ∧ s.feeds f 1 = true ∧ s.maySwitch f loss = true ∧ s.time.dab.qualified = true)
    ∧ (∃ (s : State) (f : Fin 6) (k : Nat) (loss : Bool) (o : Option (BitVec 16)), s.live = true ∧ s.dieUp f = true ∧ (s.chainB f).dwell = some (.verify k loss) ∧ (s.chainB f).cand = none ∧ (∀ i, o = some i → i.toNat ≠ s.get (Reg.BCAST.STATUS.ID f)))
    ∧ (∃ (s : State) (f : Fin 6) (k : Nat) (loss : Bool) (i : BitVec 16), s.live = true ∧ s.dieUp f = true ∧ (s.chainB f).dwell = some (.verify k loss) ∧ (s.chainB f).cand = none ∧ i.toNat = s.get (Reg.BCAST.STATUS.ID f) ∧ (s.on (Reg.BCAST.CTL.AF_EN f) = false ∨ (s.on (Reg.BCAST.CTL.REF f) = true ∧ s.get (Reg.BCAST.CTL.MODE f) = 1 ∧ s.get (Reg.BCAST.CTL.DAB_FOLLOW f) = 0))) :=
  ⟨⟨bcastOn 0 { BcastRun.init with seqs := [(3, 7)] }, 5, 65000, by decide +kernel⟩,
   ⟨bcastOn 0 .init, 5, 64999, by decide +kernel⟩,
   ⟨up, 5, 0x103, by decide +kernel⟩,
   ⟨up, 5, 4, 0x1C1, by decide +kernel⟩,
   ⟨bcastOn 0 { BcastRun.init with retuning := true, alts := [alt1] }, 5, by decide +kernel⟩,
   ⟨bcastOn 0 { BcastRun.init with alts := [alt1], since := 4 }, 5, alt1, by and_intros; rotate_left 4; exact Or.inl (by decide +kernel); all_goals decide +kernel⟩,
   ⟨bcastOn 0 { BcastRun.init with alts := [alt1], dwell := some (.check 98000) }, 5, 98000, -50, -45, by decide +kernel⟩,
   ⟨bcastOn 0 { BcastRun.init with alts := [alt1], dwell := some (.check 98000) }, 5, alt1, -40, -46, by decide +kernel⟩,
   ⟨bcastOn 0 { BcastRun.init with alts := [alt1], lostAt := some 0 }, 5, alt1, by and_intros; rotate_left 3; exact Or.inl ⟨by decide +kernel, 0, by decide +kernel, by decide +kernel⟩; all_goals decide +kernel⟩,
   ⟨{ BcastRun.init with alts := [alt1, { alt1 with khz := 99000, last := some (-30, 0) }] }, 3, { alt1 with khz := 99000, last := some (-30, 0) }, by decide +kernel⟩,
   ⟨(bcastOn 1 { BcastRun.init with alts := [alt1], missed := 3 }).puts [(Reg.BCAST.CTL.REF 5, 1), (Reg.BCAST.CTL.DAB_FOLLOW 5, 0)], 5, by decide +kernel⟩,
   ⟨bcastOn 0 { BcastRun.init with alts := [alt1], dwell := some (.verify 98000 false) }, 5, 98000, false, 0xD3C2, by decide +kernel⟩,
   ⟨((bcastOn 1 { BcastRun.init with alts := [alt1], dwell := some (.verify 98000 true) }).puts [(Reg.BCAST.CTL.REF 5, 1), (Reg.BCAST.CTL.DAB_FOLLOW 5, 1)]).onTime fun x => { x with dab := { x.dab with qualified := true } }, 5, 98000, true, 0xD3C2, by decide +kernel⟩,
   ⟨bcastOn 0 { BcastRun.init with alts := [alt1], dwell := some (.verify 98000 false) }, 5, 98000, false, some 0xD3C3, by and_intros; rotate_left 4; exact (fun i h => by cases h; decide +kernel); all_goals decide +kernel⟩,
   ⟨(bcastOn 0 { BcastRun.init with alts := [alt1], dwell := some (.verify 98000 false) }).put (Reg.BCAST.CTL.AF_EN 5) 0, 5, 98000, false, 0xD3C2, by and_intros; rotate_left 5; exact Or.inl (by decide +kernel); all_goals decide +kernel⟩⟩

theorem witness_BroadcastReception :
    (∃ (s : State) (f : Fin 6) (b : RdsIn), s.chainRuns f 0 = true ∧ (s.chainB f).dwell = none ∧ s.on (Reg.BCAST.STATUS.RDS_SYNC f) = false ∧ 1 ≤ (s.chainB f).valid ∧ b.follows = true ∧ rdsPlace b.bits.toNat = some (s.chainB f).place)
    ∧ (∃ (s : State) (f : Fin 6) (b : RdsIn), s.chainRuns f 0 = true ∧ (s.chainB f).dwell = none ∧ s.on (Reg.BCAST.STATUS.RDS_SYNC f) = true ∧ (rdsDecode b.bits.toNat (s.chainB f).offsets).1 = 2 ∧ 7 ≤ (((s.chainB f).recent.take 15).filter id).length)
    ∧ (∃ (s : State) (f : Fin 6) (b : RdsIn) (c : Nat) (pi : Nat), s.chainRuns f 0 = true ∧ (s.chainB f).dwell = none ∧ s.on (Reg.BCAST.STATUS.RDS_SYNC f) = true ∧ (s.chainB f).place = 0 ∧ rdsDecode b.bits.toNat (rdsOffsets 0) = (c, pi) ∧ c ≠ 2 ∧ (((s.chainB f).recent.take 15).filter id).length < 8 ∧ (s.chainB f).lastId = some pi)
    ∧ (∃ (s : State) (f : Fin 6) (b : RdsIn) (b0 : RdsBlk) (b1 : RdsBlk) (b2 : RdsBlk) (c : Nat) (d : Nat), s.chainRuns f 0 = true ∧ (s.chainB f).dwell = none ∧ s.on (Reg.BCAST.STATUS.RDS_SYNC f) = true ∧ (s.chainB f).place = 3 ∧ rdsDecode b.bits.toNat (rdsOffsets 3) = (c, d) ∧ c ≠ 2 ∧ (((s.chainB f).recent.take 15).filter id).length < 8 ∧ (s.chainB f).group = [b0, b1, b2] ∧ b1.data / 2 ^ 11 ≠ 0 ∧ b1.data / 2 ^ 11 ≠ 8)
    ∧ (∃ (s : State) (f : Fin 6) (us50 : List (BitVec 16 × BitVec 16)) (us75 : List (BitVec 16 × BitVec 16)) (back : Nat), us50.length = 12 ∧ us75.length = 12 ∧ s.chainRuns f 0 = true ∧ s.on (Reg.BCAST.CTL.PCM_EN f) = true ∧ (s.chainB f).dwell = none ∧ (s.chainB f).gaps = [])
    ∧ (∃ (s : State) (f : Fin 6) (us50 : List (BitVec 16 × BitVec 16)) (us75 : List (BitVec 16 × BitVec 16)) (back : Nat) (d : Dwell), us50.length = 12 ∧ us75.length = 12 ∧ s.chainRuns f 0 = true ∧ s.on (Reg.BCAST.CTL.PCM_EN f) = true ∧ (s.chainB f).dwell = some d ∧ (s.chainB f).dwellAt ≤ s.counterNs - back)
    ∧ (∃ (s : State) (f : Nat) (k : Nat) (flags : Nat) (n : Nat) (st : Nat) (q : Nat) (data : List Byte), s.on (Reg.BCAST.RING.STREAM_EN f) = true ∧ Tbl.getD (s.chainB f).seqs (s.get (Reg.BCAST.RING.STREAM f)) 0 = q)
    ∧ (∃ (s : State) (f : Nat) (k : Nat) (flags : Nat) (n : Nat) (st : Nat) (data : List Byte), s.on (Reg.BCAST.RING.STREAM_EN f) = false)
    ∧ (∃ (s : State) (f : Fin 6) (back : Nat), s.chainRuns f 1 = true ∧ s.feeds f 1 = false ∧ s.on (Reg.BCAST.STATUS.SYNC f) = false)
    ∧ (∃ (s : State) (f : Fin 6) (back : Nat), s.chainRuns f 1 = true ∧ s.feeds f 1 = false ∧ s.on (Reg.BCAST.STATUS.SYNC f) = true ∧ 2 ≤ (s.chainB f).missed)
    ∧ (∃ (s : State) (f : Fin 6) (back : Nat), s.chainRuns f 1 = true ∧ s.feeds f 1 = true ∧ s.quality ≠ 3 ∧ s.on (Reg.BCAST.STATUS.SYNC f) = true)
    ∧ (∃ (s : State) (f : Fin 6) (d : List Byte), d.length = 32 ∧ s.chainRuns f 1 = true ∧ s.on (Reg.BCAST.STATUS.SYNC f) = true ∧ fibCrc (d.take 30) = beAt d 30 2 ∧ d.headD 0 = 0xFF)
    ∧ (∃ (s : State) (f : Fin 6) (d : List Byte), d.length = 32 ∧ s.chainRuns f 1 = true ∧ s.on (Reg.BCAST.STATUS.SYNC f) = true ∧ fibCrc (d.take 30) ≠ beAt d 30 2)
    ∧ (∃ (s : State) (f : Fin 6) (d : List Byte), d.length = 32 ∧ s.chainRuns f 1 = true ∧ s.on (Reg.BCAST.STATUS.SYNC f) = true ∧ fibCrc (d.take 30) = beAt d 30 2 ∧ s.on (Reg.BCAST.RING.SIDE_EN f) = false ∧ d.getD 0 0 = 5 ∧ d.getD 1 0 = 0 ∧ d.getD 6 0 = 0xFF ∧ (s.chainB f).lastId = some (beAt d 2 2))
    ∧ (∃ (s : State) (f : Fin 6) (j : Fin 4) (d : List Byte) (back : Nat), d.length = 48 ∧ s.chainRuns f 1 = true ∧ s.on (Reg.BCAST.SUBCH.EN f j) = true ∧ Tbl.has (s.chainB f).subchs (s.get (Reg.BCAST.SUBCH.SUBCHID f j)) = true ∧ j.val ∉ (s.chainB f).stopping)
    ∧ (∃ (s : State) (f : Fin 6) (j : Fin 4) (d : List Byte) (back : Nat), d.length = 48 ∧ s.chainRuns f 1 = true ∧ j.val ∈ (s.chainB f).stopping) :=
  ⟨⟨bcastOn 0 { BcastRun.init with valid := 1 }, 5, ⟨0x34f0b28, true, 0⟩, by decide +kernel⟩,
   ⟨(bcastOn 0 { BcastRun.init with recent := List.replicate 16 true }).put (Reg.BCAST.STATUS.RDS_SYNC 5) 1, 5, ⟨0x34f098d, true, 0⟩, by decide +kernel⟩,
   ⟨(bcastOn 0 { BcastRun.init with lastId := some 0xD3C2 }).put (Reg.BCAST.STATUS.RDS_SYNC 5) 1, 5, ⟨0x34f0b2b, true, 0⟩, 1, 0xD3C2, by decide +kernel⟩,
   ⟨(bcastOn 0 { BcastRun.init with place := 3, group := [⟨0, 0xD3C2, 9, 10⟩, ⟨1, 0x2000, 11, 12⟩, ⟨0, 7, 13, 14⟩] }).put (Reg.BCAST.STATUS.RDS_SYNC 5) 1, 5, ⟨0x34f0a60, true, 0⟩, ⟨0, 0xD3C2, 9, 10⟩, ⟨1, 0x2000, 11, 12⟩, ⟨0, 7, 13, 14⟩, 0, 0xD3C2, by decide +kernel⟩,
   ⟨bcastOn 0 .init, 5, List.replicate 12 (1, 2), List.replicate 12 (3, 4), 100, by decide +kernel⟩,
   ⟨bcastOn 0 { BcastRun.init with dwell := some (.check 98000) }, 5, List.replicate 12 (1, 2), List.replicate 12 (3, 4), 100, .check 98000, by decide +kernel⟩,
   ⟨bcastOn 0 { BcastRun.init with seqs := [(0, 5)] }, 5, 4, 1, 48, 77, 5, [1, 2], by decide +kernel⟩,
   ⟨up, 5, 4, 1, 48, 77, [1, 2], by decide +kernel⟩,
   ⟨bcastOn 1 .init, 5, 100, by decide +kernel⟩,
   ⟨(bcastOn 1 { BcastRun.init with missed := 2 }).put (Reg.BCAST.STATUS.SYNC 5) 1, 5, 100, by decide +kernel⟩,
   ⟨(bcastOn 1 .init).puts [(Reg.BCAST.STATUS.SYNC 5, 1), (Reg.BCAST.CTL.REF 5, 1), (Reg.TIME.REF_STATUS.QUALITY, 0)], 5, 100, by decide +kernel⟩,
   ⟨(bcastOn 1 .init).put (Reg.BCAST.STATUS.SYNC 5) 1, 5, fib [0xFF], by decide +kernel⟩,
   ⟨(bcastOn 1 .init).put (Reg.BCAST.STATUS.SYNC 5) 1, 5, List.replicate 32 0, by decide +kernel⟩,
   ⟨(bcastOn 1 { BcastRun.init with lastId := some 0x1234 }).put (Reg.BCAST.STATUS.SYNC 5) 1, 5, fib [5, 0, 0x12, 0x34, 0, 0, 0xFF], by decide +kernel⟩,
   ⟨(bcastOn 1 { BcastRun.init with subchs := [(0, ⟨0, 24, .eep 0 2, 32⟩)] }).put (Reg.BCAST.SUBCH.EN 5 3) 1, 5, 3, List.replicate 48 7, 100, by decide +kernel⟩,
   ⟨bcastOn 1 { BcastRun.init with stopping := [3] }, 5, 3, List.replicate 48 7, 100, by decide +kernel⟩⟩

theorem witness_BoundaryTicks :
    (∃ (s : State) (l : List (Fin 6)) (trips : List (Fin 6 × Nat)), s.logicUp = true ∧ s.mscNow ≠ s.time.msc)
    ∧ (∃ (s : State) (l : List (Fin 6)) (trips : List (Fin 6 × Nat)), s.mscNow = s.time.msc)
    ∧ (∃ (s : State) (l : List (Fin 6)) (trips : List (Fin 6 × Nat)) (q : Nat), s.logicUp = true ∧ s.mscNow ≠ s.time.msc ∧ s.listed q = true ∧ Tbl.wf s.cask.lists = true ∧ Tbl.wf s.cask.urgent = true ∧ Tbl.wf s.cask.queues = true ∧ 0 < (s.queue q).count ∧ (s.queue q).sent = false ∧ (s.queue q).urgent = false ∧ s.get (Reg.SCHED.CLASS.STARVE (s.queue q).cls) ≠ 0 ∧ s.get (Reg.SCHED.CLASS.STARVE (s.queue q).cls) ≤ (s.mscNow + 2048 - (s.queue q).age) % 2048 ∧ bitsAt (s.get Reg.TUN.POLICY_CFG.HOOK_EN) 1 1 = 0)
    ∧ (∃ (s : State) (l : List (Fin 6 × Int)), s.logicUp = true ∧ s.time.msc % 48 = 0 ∧ s.time.lastCycle ≠ some s.time.msc)
    ∧ (∃ (s : State) (l : List (Fin 6 × Int)), (s.time.msc % 48 ≠ 0 ∨ s.time.lastCycle = some s.time.msc))
    ∧ (∃ (s : State) (l : List (Fin 6 × Int)), s.logicUp = true ∧ s.time.msc % 48 = 0 ∧ s.time.lastCycle ≠ some s.time.msc ∧ s.get Reg.MAC.PROFILE.SEL ≤ 2 ∧ s.get Reg.MAC.PROFILE.SEL ≠ s.profile)
    ∧ (∃ (s : State) (l : List (Fin 6 × Int)), s.logicUp = true ∧ s.time.msc % 48 = 0 ∧ s.time.lastCycle ≠ some s.time.msc ∧ s.time.rank 1 ≠ 0 ∧ s.time.pps.cycleOk = some true ∧ s.time.pps.qualified = false ∧ 15 ≤ s.time.pps.goodRun)
    ∧ (∃ (s : State) (l : List (Fin 6 × Int)), s.logicUp = true ∧ s.time.msc % 48 = 0 ∧ s.time.lastCycle ≠ some s.time.msc ∧ s.time.rank 1 ≠ 0 ∧ s.time.pps.cycleOk = some false ∧ s.time.pps.qualified = true ∧ 2 ≤ s.time.pps.badRun) :=
  ⟨⟨(meshAt 2000000 up).puts [(Reg.SCHED.BUCKET.EN 9 3, 1), (Reg.SCHED.BUCKET.RATE 9 3, 5), (Reg.SCHED.BUCKET.BURST 9 3, 100)] |>.setTokens 9 3 97, [5], [(4, 12000)], by decide +kernel⟩,
   ⟨meshAt 0 up, [5], [(4, 12000)], by decide +kernel⟩,
   ⟨(meshAt 2000000 (casked { boundQ 2 false with age := 2000 } none)).puts [(Reg.SCHED.CLASS.STARVE 3, 49), (Reg.TUN.POLICY_CFG.HOOK_EN, 0)], [], [], 7, by decide +kernel⟩,
   ⟨(meshAt 0 up).puts [(Reg.MAC.NET_CFG.EN 2, 1), (Reg.MAC.NET_SYNC.SYNC 2, 0x12345678)], [(5, 40000)], by decide +kernel⟩,
   ⟨(meshAt 0 up).onTime fun x => { x with lastCycle := some 0 }, [], by decide +kernel⟩,
   ⟨(meshAt 0 up).puts [(Reg.MAC.PROFILE.SEL, 2), (Reg.MAC.PROFILE.PENDING, 1)], [], by decide +kernel⟩,
   ⟨(meshAt 0 up).onTime fun x => { x with ranks := [1, 0, 0, 0], pps := { x.pps with cycleOk := some true, goodRun := 15 } }, [], by decide +kernel⟩,
   ⟨((meshAt 0 up).onTime fun x => { x with ranks := [1, 0, 0, 0], pps := { x.pps with cycleOk := some false, qualified := true, badRun := 2 } }).puts [(Reg.TIME.REF_STATUS.SELECTED, 1), (Reg.TIME.REF_STATUS.QUALITY, 0), (Reg.TIME.REF_PRIO.PTP_RANK, 0), (Reg.TIME.REF_PRIO.DAB_RANK, 0), (Reg.TIME.REF_PRIO.FM_RANK, 0)], [], by decide +kernel⟩⟩

theorem witness_BoundaryWrites :
    (∃ (s : State) (v : BitVec 32), s.hostUp = true ∧ (bitsAt v.toNat 0 2 ≤ 1 ∨ (bitsAt v.toNat 0 2 = 2 ∧ ∀ f, f < 6 → s.present f = true → s.wCount f ≤ 64 ∧ ∀ k, k < 40 → s.linkFits f k 2 = true)))
    ∧ (∃ (s : State) (v : BitVec 32) (f : Nat), s.hostUp = true ∧ bitsAt v.toNat 0 2 = 2 ∧ f < 6 ∧ s.present f = true ∧ (64 < s.wCount f ∨ ∃ k, k < 40 ∧ s.linkFits f k 2 = false))
    ∧ (∃ (s : State) (v : BitVec 32), s.hostUp = true ∧ bitsAt v.toNat 0 2 = 3)
    ∧ (∃ (s : State) (n : Fin 4) (v : BitVec 32) (w : Nat), s.hostUp = true ∧ s.on (Reg.MAC.NET_CFG.EN n) = false ∧ bitsAt v.toNat 0 1 = 1 ∧ bitsAt v.toNat 3 3 ≤ 4 ∧ w = s.get (Reg.MAC.NET_SYNC.SYNC n) ∧ w ≠ 0 ∧ w ≠ 0xFFFFFFFF ∧ 8 < hamming32 w 0x55555555 ∧ 8 < hamming32 w 0xAAAAAAAA ∧ (∀ m, m < 4 → m ≠ n.val → s.on (Reg.MAC.NET_CFG.EN m) = true → s.get (Reg.MAC.NET_CFG.CODESET m) = bitsAt v.toNat 1 2 → 2 * bitsAt v.toNat 3 3 + 2 < hamming32 w (s.get (Reg.MAC.NET_SYNC.SYNC m)) ∧ 2 * bitsAt v.toNat 3 3 + 2 < hamming32 w (0xFFFFFFFF - s.get (Reg.MAC.NET_SYNC.SYNC m))))
    ∧ (∃ (s : State) (n : Fin 4) (v : BitVec 32), s.hostUp = true ∧ s.on (Reg.MAC.NET_CFG.EN n) = true ∧ bitsAt v.toNat 3 3 ≤ 4 ∧ bitsAt v.toNat 1 2 = s.get (Reg.MAC.NET_CFG.CODESET n))
    ∧ (∃ (s : State) (n : Fin 4) (m : Fin 4) (v : BitVec 32) (w : Nat), s.hostUp = true ∧ w = s.get (Reg.MAC.NET_SYNC.SYNC n) ∧ (4 < bitsAt v.toNat 3 3 ∨ (s.on (Reg.MAC.NET_CFG.EN n) = true ∧ bitsAt v.toNat 1 2 ≠ s.get (Reg.MAC.NET_CFG.CODESET n)) ∨ (s.on (Reg.MAC.NET_CFG.EN n) = false ∧ bitsAt v.toNat 0 1 = 1 ∧ (w = 0 ∨ w = 0xFFFFFFFF ∨ hamming32 w 0x55555555 ≤ 8 ∨ hamming32 w 0xAAAAAAAA ≤ 8 ∨ (m ≠ n ∧ s.on (Reg.MAC.NET_CFG.EN m) = true ∧ s.get (Reg.MAC.NET_CFG.CODESET m) = bitsAt v.toNat 1 2 ∧ hamming32 w (s.get (Reg.MAC.NET_SYNC.SYNC m)) ≤ 2 * bitsAt v.toNat 3 3 + 2))))) :=
  ⟨⟨up, 2, by decide +kernel⟩,
   ⟨up.puts [(Reg.LINK.CFG.EN 4 3, 1), (Reg.LINK.CFG.M 4 3, 24), (Reg.LINK.CFG.WIDTH 4 3, 4)], 2, 4, by and_intros; rotate_left 4; exact Or.inr ⟨3, by decide +kernel, by decide +kernel⟩; all_goals decide +kernel⟩,
   ⟨up, 3, by decide +kernel⟩,
   ⟨(up.puts [(Reg.MAC.NET_SYNC.SYNC 2, 0x12345678)]), 2, 0xABCD0019, 0x12345678, by decide +kernel⟩,
   ⟨(up.puts [(Reg.MAC.NET_CFG.EN 2, 1), (Reg.MAC.NET_CFG.CODESET 2, 1)]), 2, 0xABCD001A, by decide +kernel⟩,
   ⟨up, 2, 0, 0x1, 0, by decide +kernel⟩⟩

theorem witness_RegisterReads :
    (∃ (s : State) (func : Fin 2), s.functionUp func = true)
    ∧ (∃ (s : State) (func : Fin 2) (f : Fin 6), s.functionUp func = true ∧ s.dieUp f = true)
    ∧ (∃ (s : State) (func : Fin 2), s.functionUp func = true)
    ∧ (∃ (s : State) (func : Fin 2) (i : Nat) (id : Nat) (base : Nat) (param : Nat), s.functionUp func = true ∧ s.caps[i]? = some (id, base, param))
    ∧ (∃ (s : State) (func : Fin 2) (a : BusAccess), s.functionUp func = true ∧ a.space ≠ .config ∧ ((a.size ≠ 4 ∧ a.size ≠ 8) ∨ a.offset % 4 ≠ 0 ∨ (a.size = 8 ∧ a.offset % 8 ≠ 0) ∨ (a.space = .bar2 ∧ a.size = 4 ∧ (0x4000 ≤ a.offset ∧ a.offset < 0x8000 ∨ 0x9020 ≤ a.offset)) ∨ (a.space = .bar0 ∧ a.size = 4 ∧ ∃ f, dieOfOffset a.offset = some f ∧ s.present f = false)))
    ∧ (∃ (s : State) (func : Fin 2) (off : Nat) (n : Nat), s.functionUp func = true ∧ (n ≠ 4 ∨ off % 4 ≠ 0 ∨ 4096 ≤ off))
    ∧ (∃ (s : State) (func : Fin 2), s.functionUp func = true)
    ∧ (∃ (s : State) (func : Fin 2) (off : Nat) (f : Nat), s.functionUp func = true ∧ off % 4 = 0 ∧ dieOfOffset off = some f ∧ s.present f = true ∧ s.dieFenced f = true)
    ∧ (∃ (s : State) (off : Nat) (k : AccessKind) (w : Bool) (b : Bool), s.safe.fault.valid = false ∧ 266 ∉ s.evt.disarmed)
    ∧ (∃ (s : State) (off : Nat) (k : AccessKind) (w : Bool) (b : Bool), s.safe.fault.valid = true ∧ 266 ∈ s.evt.disarmed)
    ∧ (∃ (s : State) (func : Fin 2) (a : BusAccess), s.functionUp func = false) :=
  ⟨⟨up, 1, by decide +kernel⟩,
   ⟨up, 1, 5, by decide +kernel⟩,
   ⟨up.onEvt fun x => { x with disarmed := [176, 5] }, 1, by decide +kernel⟩,
   ⟨up, 1, 1, (up.caps.getD 1 (0, 0, 0)).1, (up.caps.getD 1 (0, 0, 0)).2.1, (up.caps.getD 1 (0, 0, 0)).2.2, by decide +kernel⟩,
   ⟨up, 1, ⟨.bar0, 2, 4⟩, by and_intros; rotate_left 2; exact Or.inr (Or.inl (by decide +kernel)); all_goals decide +kernel⟩,
   ⟨up, 1, 2, 4, by decide +kernel⟩,
   ⟨up, 1, by decide +kernel⟩,
   ⟨up.put (Reg.SAFE.FDIE.FENCED 5) 1, 1, dieOffset 5 4, 5, by decide +kernel⟩,
   ⟨up, 64, .illegalValue, true, false, by decide +kernel⟩,
   ⟨up.onEvt (fun x => { x with disarmed := [266] }) |>.onSafe fun x => { x with fault := ⟨true, 64, .illegalValue, true, false, 0⟩ }, 68, .unimplemented, false, true, by decide +kernel⟩,
   ⟨inPhase .boot, 1, ⟨.bar0, 0, 4⟩, by decide +kernel⟩⟩

theorem witness_RegisterWrites :
    (∃ (s : State) (func : Fin 2) (v : BitVec 64), s.functionUp func = true ∧ bitsAt v.toNat 0 11 ≤ 2000 ∧ bitsAt v.toNat 11 7 ≠ 0)
    ∧ (∃ (s : State) (func : Fin 2) (v : BitVec 64), s.functionUp func = true ∧ (2000 < bitsAt v.toNat 0 11 ∨ bitsAt v.toNat 11 7 = 0))
    ∧ (∃ (s : State) (func : Fin 2) (f : Fin 6) (v : BitVec 64), s.functionUp func = true ∧ s.dieUp f = true ∧ bitsAt v.toNat 0 27 ≤ 95999999)
    ∧ (∃ (s : State) (func : Fin 2) (v : BitVec 64), s.functionUp func = true)
    ∧ (∃ (s : State) (func : Fin 2) (v : BitVec 64), s.functionUp func = true ∧ s.on Reg.NODE.CMD.BUSY = false ∧ bitsAt v.toNat 3 1 = 1)
    ∧ (∃ (s : State) (func : Fin 2) (v : BitVec 64), s.functionUp func = true ∧ s.on Reg.NODE.CMD.BUSY = true ∧ bitsAt v.toNat 3 1 = 1)
    ∧ (∃ (s : State) (func : Fin 2) (v : BitVec 64), s.functionUp func = true ∧ s.on Reg.CASK.CMD.BUSY = false ∧ bitsAt v.toNat 3 1 = 1)
    ∧ (∃ (s : State) (func : Fin 2) (f : Fin 6) (v : BitVec 64), s.functionUp func = true ∧ s.dieUp f = true ∧ s.on (Reg.DEMOD.HEAR_CMD.BUSY f) = false ∧ bitsAt v.toNat 2 1 = 1)
    ∧ (∃ (s : State) (func : Fin 2) (f : Fin 6) (v : BitVec 64), s.functionUp func = true ∧ s.dieUp f = true ∧ s.on (Reg.DEMOD.HEAR_CMD.BUSY f) = true ∧ bitsAt v.toNat 2 1 = 1)
    ∧ (∃ (s : State) (func : Fin 2) (off : Nat) (v : BitVec 64), s.functionUp func = true ∧ 0x300000 ≤ off ∧ off < 0x380000 ∧ off % 4 = 0)
    ∧ (∃ (s : State) (func : Fin 2) (n : Fin 4096) (v : BitVec 64), s.functionUp func = true)
    ∧ (∃ (s : State) (func : Fin 2) (x : Fin 256) (v : BitVec 64), s.functionUp func = true ∧ bitsAt v.toNat 0 1 = 1)
    ∧ (∃ (s : State) (func : Fin 2) (x : Fin 256) (v : BitVec 64), s.functionUp func = true ∧ bitsAt v.toNat 0 1 = 0 ∧ func.val = s.active ∧ 256 * func.val + x.val ∈ s.evt.pba ∧ x.val ∉ s.evt.holding ∧ s.get (Reg.EVT.VEC.HOLDOFF_US x) = 0)
    ∧ (∃ (s : State) (func : Fin 2) (x : Fin 256) (v : BitVec 64), s.functionUp func = true ∧ bitsAt v.toNat 0 1 = 0 ∧ func.val = s.active ∧ 256 * func.val + x.val ∈ s.evt.pba ∧ x.val ∈ s.evt.holding)
    ∧ (∃ (s : State) (func : Fin 2) (x : Fin 256) (v : BitVec 64), s.functionUp func = true ∧ bitsAt v.toNat 0 1 = 0 ∧ func.val ≠ s.active)
    ∧ (∃ (s : State) (func : Fin 2) (v : BitVec 64), s.functionUp func = true)
    ∧ (∃ (s : State) (func : Fin 2) (a : BusAccess) (v : BitVec 64), s.functionUp func = true ∧ a.space ≠ .config ∧ ((a.size ≠ 4 ∧ a.size ≠ 8) ∨ a.offset % 4 ≠ 0 ∨ (a.space = .bar0 ∧ a.size = 4 ∧ ∃ f, dieOfOffset a.offset = some f ∧ s.present f = false)))
    ∧ (∃ (s : State) (func : Fin 2) (off : Nat) (f : Nat) (v : BitVec 64), s.functionUp func = true ∧ off % 4 = 0 ∧ dieOfOffset off = some f ∧ s.present f = true ∧ s.dieFenced f = true)
    ∧ (∃ (s : State) (f : Fin 6), s.live = true ∧ s.present f = true ∧ s.dieFenced f = true ∧ s.on (Reg.SAFE.FDIE.REJOIN f) = true ∧ Tbl.has s.safe.selftests f = false ∧ (∀ w ∈ s.safe.dieWrites, w.1 ≠ f.val))
    ∧ (∃ (s : State) (f : Fin 6) (khz : Nat), s.live = true ∧ s.present f = true ∧ s.dieFenced f = true ∧ s.on (Reg.SAFE.FDIE.REJOIN f) = true ∧ Tbl.has s.safe.selftests f = false ∧ 65000 ≤ khz ∧ khz ≤ 240000 ∧ s.safe.dieWrites.filter (fun w => w.1 = f.val) = [(f.val, dieOffset f 0x200004, khz)]) :=
  ⟨⟨up, 1, 2000 + 2 ^ 11, by decide +kernel⟩,
   ⟨up, 1, 2001 + 2 ^ 11, by decide +kernel⟩,
   ⟨up, 1, 5, 95999999 + 2 ^ 63 + 7 * 2 ^ 32, by decide +kernel⟩,
   ⟨up, 1, 7, by decide +kernel⟩,
   ⟨up, 1, 0xC, by decide +kernel⟩,
   ⟨up.put Reg.NODE.CMD.BUSY 1, 1, 0xC, by decide +kernel⟩,
   ⟨up, 1, 0xC, by decide +kernel⟩,
   ⟨up, 1, 5, 0x7004, by decide +kernel⟩,
   ⟨up.put (Reg.DEMOD.HEAR_CMD.BUSY 5) 1, 1, 5, 0x7004, by decide +kernel⟩,
   ⟨up, 1, 0x37FFFC, 0x12345678, by decide +kernel⟩,
   ⟨ringed up 4095 0 { RingRun.init with host := 1 }, 1, 4095, 2, by decide +kernel⟩,
   ⟨up, 1, 255, 3, by decide +kernel⟩,
   ⟨((up.put Reg.SAFE.HEAD.ACTIVE 1).onEvt fun x => { x with pba := [511] }).put (Reg.EVT.VEC.HOLDOFF_US 255) 0, 1, 255, 2, by decide +kernel⟩,
   ⟨(up.put Reg.SAFE.HEAD.ACTIVE 1).onEvt fun x => { x with pba := [511], holding := [255] }, 1, 255, 2, by decide +kernel⟩,
   ⟨up.onEvt fun x => { x with pba := [511] }, 1, 255, 2, by decide +kernel⟩,
   ⟨up, 1, 0xFF, by decide +kernel⟩,
   ⟨up, 1, ⟨.bar0, 2, 4⟩, 7, by and_intros; rotate_left 2; exact Or.inr (Or.inl (by decide +kernel)); all_goals decide +kernel⟩,
   ⟨up.put (Reg.SAFE.FDIE.FENCED 5) 1, 1, dieOffset 5 4, 5, 7, by decide +kernel⟩,
   ⟨up.puts [(Reg.SAFE.FDIE.FENCED 5, 1), (Reg.SAFE.FDIE.REJOIN 5, 1), (Reg.BCAST.CTL.EN 5, 1)] |>.onSafe fun x => { x with dieWrites := [(4, dieOffset 4 0x200004, 98000)] }, 5, by decide +kernel⟩,
   ⟨up.puts [(Reg.SAFE.FDIE.FENCED 5, 1), (Reg.SAFE.FDIE.REJOIN 5, 1), (Reg.BCAST.CTL.EN 5, 1)] |>.onSafe fun x => { x with dieWrites := [(5, dieOffset 5 0x200004, 98000)] }, 5, 98000, by decide +kernel⟩⟩

theorem witness_StepRunsFront :
    (∃ (s : State) (c : Instr) (l : List Instr), s.pending = c :: l)
    ∧ (∃ (s : State), s.pending = []) :=
  ⟨⟨{ up with pending := [.oscRdy, .memRdy] }, .oscRdy, [.memRdy], by decide +kernel⟩,
   ⟨up, by decide +kernel⟩⟩

theorem witness_ResetValues :
    (∃ (f : Nat), f < 6)
    ∧ (∃ (k : Nat), k < 8) :=
  ⟨⟨5, by decide +kernel⟩,
   ⟨7, by decide +kernel⟩⟩

theorem witness_CapabilityList :
    (∃ (s : State) (i : Nat) (j : Nat) (a : Nat × Nat × Nat) (b : Nat × Nat × Nat), i < j ∧ s.caps[i]? = some a ∧ s.caps[j]? = some b)
    ∧ (∃ (s : State) (f : Nat), f < s.part.variant.fieldDies)
    ∧ (∃ (s : State), s.part.variant = .wxb4)
    ∧ (∃ (s : State), s.part.variant = .wxb2) :=
  ⟨⟨up, 2, 4, up.caps.getD 2 (0, 0, 0), up.caps.getD 4 (0, 0, 0), by decide +kernel⟩,
   ⟨up, 5, by decide +kernel⟩,
   ⟨{ up with part := { up.part with variant := .wxb4 } }, by decide +kernel⟩,
   ⟨{ up with part := { up.part with variant := .wxb2 } }, by decide +kernel⟩⟩

theorem witness_EveryCommandCompletes :
    (∃ (c : Instr) (s : State), c.wf = true)
    ∧ (∃ (c : Instr) (s : State), c.wf = false)
    ∧ (∃ (c : Instr) (s : State), exec c s = .refused .controlSpace) :=
  ⟨⟨.tempSample [[1]], up, by decide +kernel⟩,
   ⟨.tempSample [[]], up, by decide +kernel⟩,
   ⟨.tunLb (.field 5 3) 4 8 (.offset 0), tunAt (.field 5 3) regs6, rfl⟩⟩

theorem witness_HostAccessNeedsBootRdy :
    (∃ (c : Instr) (s : State), fromHost c = true ∧ c.wf = true ∧ s.hostUp = false) :=
  ⟨.kick 1 5 7, inPhase .boot, by decide +kernel⟩

theorem witness_CaptureRegister :
    (∃ (s : State) (k : Fin 32) (e : Fin 8), s.logicUp = true ∧ s.on (Reg.TIMERS.CH_CTL.CAP_EN k) = true ∧ s.get (Reg.TIMERS.CH_CTL.CAP_SEL k) = e.val ∧ e.val < 6 ∧ s.cascadeOdd k = false ∧ s.cascadeEven k = false ∧ s.get (Reg.TIMERS.COUNT k) < 2 ^ 32)
    ∧ (∃ (s : State) (k : Fin 32) (e : Fin 8), s.get (Reg.TIMERS.CH_CTL.CAP_SEL k) ≠ e.val)
    ∧ (∃ (s : State) (k : Fin 32) (e : Fin 8), s.logicUp = true ∧ s.on (Reg.TIMERS.CH_CTL.CAP_EN k) = true ∧ s.get (Reg.TIMERS.CH_CTL.CAP_SEL k) = e.val ∧ e.val < 6 ∧ s.cascadeEven k = true ∧ s.get (Reg.TIMERS.COUNT k) < 2 ^ 32)
    ∧ (∃ (s : State) (func : Fin 2) (k : Fin 32), s.functionUp func = true)
    ∧ (∃ (s : State) (func : Fin 2) (k : Fin 32), s.functionUp func = true ∧ s.on (Reg.TIMERS.CH_CTL.CAP_EN k) = true ∧ s.cascadeOdd k = false ∧ s.cascadeEven k = false ∧ s.get (Reg.TIMERS.COUNT k) < 2 ^ 32) :=
  ⟨⟨up.puts [(Reg.TIMERS.CH_CTL.CAP_EN 31, 1), (Reg.TIMERS.CH_CTL.CAP_SEL 31, 5), (Reg.TIMERS.COUNT 31, 77), (Reg.TIMERS.CH_STATUS.CAP_VALID 31, 1)], 31, 5, by decide +kernel⟩,
   ⟨up, 31, 5, by decide +kernel⟩,
   ⟨up.puts [(Reg.TIMERS.CH_CTL.CAP_EN 30, 1), (Reg.TIMERS.CH_CTL.CAP_SEL 30, 5), (Reg.TIMERS.COUNT 30, 77), (Reg.TIMERS.CH_CTL.CASCADE 31, 1), (Reg.TIMERS.CH_CTL.CASCADE 30, 1)], 30, 5, by decide +kernel⟩,
   ⟨up.puts [(Reg.TIMERS.CAPTURE 31, 99), (Reg.TIMERS.CH_STATUS.CAP_VALID 31, 1)], 1, 31, by decide +kernel⟩,
   ⟨up.puts [(Reg.TIMERS.CH_CTL.CAP_EN 31, 1), (Reg.TIMERS.COUNT 31, 77)], 1, 31, by decide +kernel⟩⟩

theorem witness_StartUpFaults :
    (∃ (s : State) (n : Nat), s.power.phase = .railUp n)
    ∧ (∃ (s : State), s.power.phase = .night ∧ s.watch.faults = 3 ∧ s.watch.seenHigh = false)
    ∧ (∃ (s : State), s.power.phase = .night ∧ s.watch.faults = 3)
    ∧ (∃ (s : State), s.power.phase = .night ∧ s.watch.faults < 3 ∧ s.watch.capWakeN = true)
    ∧ (∃ (s : State) (b : BitVec 8), s.power.phase = .night ∧ s.watch.capWs = true ∧ b.toNat / 2 = 0b10110 * 4 + s.watch.wsAddr.toNat)
    ∧ (∃ (s : State) (p : Nat), s.bootable = true ∧ p ≤ 10) :=
  ⟨⟨(inPhase (.railUp 2)).onWatch fun w => { w with faults := 2, seenHigh := true }, 2, by decide +kernel⟩,
   ⟨(armed .night).onWatch fun w => { w with faults := 3 }, by decide +kernel⟩,
   ⟨(armed .night).onWatch fun w => { w with faults := 3 }, by decide +kernel⟩,
   ⟨(armed .night).onWatch fun w => { w with faults := 2 }, by decide +kernel⟩,
   ⟨armed .night, 0xB2, by decide +kernel⟩,
   ⟨(inPhase .boot).put Reg.KILN.STATUS.STATE 3, 10, by decide +kernel⟩⟩

theorem witness_QueueUntouched :
    (∃ (c : Instr) (s : State) (t : State), exec c s = .next t) :=
  ⟨.oscRdy, inPhase .osc, { inPhase .osc with power := { (inPhase .osc).power with phase := .mem } }, rfl⟩

theorem witness_CapabilitiesFixed :
    (∃ (s : State) (t : State) (l : List (Nat × Nat × Nat)), s.caps = l ∧ step s = .next t) :=
  ⟨{ inPhase .osc with pending := [.oscRdy] }, { inPhase .osc with power := { (inPhase .osc).power with phase := .mem } }, (inPhase .osc).caps, rfl, rfl⟩

theorem witness_ReportsAndAcknowledgements :
    (∃ (s : State) (v : Fin 256), s.logicUp = true ∧ v.val ∈ s.evt.holding)
    ∧ (∃ (s : State) (j : Fin 16) (v : BitVec 32) (firing : BitVec 32), s.hostUp = true ∧ s.eventWord j = true)
    ∧ (∃ (s : State) (es : List HwError), s.live = true ∧ es ≠ [])
    ∧ (∃ (s : State) (es : List (Fin 8 × BitVec 12 × BitVec 64 × BitVec 32)), s.live = true ∧ es ≠ [] ∧ (es.all fun e => s.unitThere (e.1 * 4096 + e.2.1.toNat)) = true)
    ∧ (∃ (s : State) (v : BitVec 32), s.hostUp = true)
    ∧ (∃ (s : State) (v : BitVec 32), s.hostUp = true)
    ∧ (∃ (s : State) (x : State) (n : Fin 4096) (d : List Byte) (data : List Byte) (m : List Byte), Instr.wf (.keyUpdate n d (some data)) = true ∧ s.kilnTakes n .plain = true ∧ 400 ≤ kInLen d ∧ kInLen d ≤ 1888 ∧ (s.passDescriptor n).firstBad false (leAt d 8 8) (kInLen d) = none ∧ m = sliceB data 0 (kInLen d) ∧ x = (s.passDescriptor n).dmaRead (leAt d 8 8) (kInLen d)) :=
  ⟨⟨(up.onEvt fun x => { x with holding := [255, 3], waiting := [255], msixTable := [(1020, 4), (1021, 5), (1022, 6), (1023, 0)] }).put (Reg.EVT.VEC.HOLDOFF_US 255) 5, 255, by decide +kernel⟩,
   ⟨up.onEvt fun x => { x with pend := BitVec.ofNat 512 (2 ^ 289 + 2 ^ 288 + 3) }, 9, 0x80000001, 0x80000000, by decide +kernel⟩,
   ⟨up, [.ofUnit 7 0x104 true 0 0, .caskStateCorrected 5], by decide +kernel⟩,
   ⟨up, [(7, 0x104, 0, 5), (2, 0x104, 1, 6), (7, 0x104, 2, 7)], by decide +kernel⟩,
   ⟨up.onSafe fun x => { x with log := [(3, ⟨5, 1, 0, false, false, false, 0, 0, 0⟩), (4, ⟨6, 1, 0, false, false, false, 0, 0, 0⟩)] }, 5, by decide +kernel⟩,
   ⟨up.put Reg.SAFE.FAULT_CTL.CAUSE 0x1F, 0x1D03, by decide +kernel⟩,
   ⟨kiln 2, ((kiln 2).passDescriptor 2).dmaRead (leAt (kdesc 0x21 0 0 0 400 0 0 0) 8 8) (kInLen (kdesc 0x21 0 0 0 400 0 0 0)), 2, kdesc 0x21 0 0 0 400 0 0 0, [], sliceB [] 0 (kInLen (kdesc 0x21 0 0 0 400 0 0 0)), by refine ⟨?_, ?_, ?_, ?_, ?_, rfl, rfl⟩ <;> decide +kernel⟩⟩

end Sys2Proof.Tests
end

/-! SUPPORT. Frames (Sys2Proof/Safety.lean) along a chain of operations: a frame composes, and a register write or an
access fault extends it. -/

namespace Sys2Proof.Machine

section
variable {cs : List Component} {fields words : List Fld} {s t u : State}

theorem Component.Same.trans {c : Component} (h : c.Same s t) (k : c.Same t u) : c.Same s u := by
  cases c <;> exact Eq.trans k h

theorem Frame.refl (s : State) : Frame cs fields words s s :=
  ⟨fun c _ => by cases c <;> rfl, fun _ _ => rfl, fun _ _ => rfl⟩

theorem Frame.trans (h : Frame cs fields words s t) (k : Frame cs fields words t u) : Frame cs fields words s u := by
  obtain ⟨hc, hf, hw⟩ := h
  obtain ⟨kc, kf, kw⟩ := k
  exact ⟨fun c n => (hc c n).trans (kc c n), fun g n => (kf g n).trans (hf g n), fun g n => (kw g n).trans (hw g n)⟩

/-- What a frame does not name is the same. -/
theorem Frame.same (h : Frame cs fields words s t) {c : Component} (hc : c ∉ cs) : c.Same s t := h.1 c hc

/-- A write of a field that the frame names stays within the frame. -/
theorem Frame.put {f : Fld} (h : Frame cs fields words s t) (hf : f ∈ fields) (v : Nat) :
    Frame cs fields words s (t.put f v) :=
  h.trans ⟨fun c _ => by cases c <;> rfl, fun g hg => State.get_put_other t f g v (hg f hf),
    fun g _ => State.put_stat t f v g⟩

/-- An access fault writes the components that raising an event may write, and no other. -/
theorem State.accessFault_same (s : State) (off : Nat) (k : AccessKind) (w b : Bool) {c : Component}
    (hc : c ∉ signalled) : c.Same s (s.accessFault off k w b) := by
  cases c <;> simp [signalled, Component.Same] at hc ⊢

/-- An access fault stays within a frame that names what raising an event may write (R313). -/
theorem Frame.accessFault (h : Frame cs fields words s t) (hc : signalled ⊆ cs) (hw : alarmWords ⊆ words) (off : Nat)
    (k : AccessKind) (w b : Bool) : Frame cs fields words s (t.accessFault off k w b) :=
  h.trans ⟨fun _ hn => State.accessFault_same t off k w b fun hm => hn (hc hm),
    fun g _ => State.accessFault_get t off k w b g,
    fun g hg => State.accessFault_stat t off k w b g fun f hf => hg f (hw hf)⟩

/-- A write rejected as an illegal value changes what raising an event may change, and nothing else. -/
theorem Frame.illegal (h : Frame signalled fields alarmWords s t) (off : Nat) :
    Frame signalled fields alarmWords s (t.illegal off) :=
  h.accessFault (List.Subset.refl _) (List.Subset.refl _) off _ _ _

end

end Sys2Proof.Machine

/-! SUPPORT. MAC.PROFILE writes (R8, R182): the capacity checks of Evening, and what the write does in each of its cases. -/

namespace Sys2Proof.Machine

theorem exec_profileWrite {s : State} (h : s.hostUp = true) (v : BitVec 32) :
    exec (.profileWrite v) s = .next (s.profileWrite v.toNat) :=
  congrArg Host.Outcome.next (State.hostWriteReg_plain h (dieOfOffset_low (by decide)) _ _)

/-- Thrift is allowed exactly when every die present meets Evening's limits on links and on searches with W_EN. -/
theorem State.thriftOk_iff (s : State) : s.thriftOk = true ↔
    ∀ f, f < 6 → s.present f = true → s.wCount f ≤ 64 ∧ ∀ k, k < 40 → s.linkFits f k 2 = true := by
  have hlim : wLimit 2 = 64 := rfl
  simp only [State.thriftOk, hlim, List.all_eq_true, List.mem_filter, List.mem_range, Bool.and_eq_true, and_imp,
    decide_eq_true_eq]
  exact forall₃_congr fun _ _ _ => and_comm

/-- A single die over Evening's limits denies Thrift. -/
theorem State.thriftOk_eq_false {s : State} {f : Nat} (hf : f < 6) (hp : s.present f = true)
    (h : 64 < s.wCount f ∨ ∃ k, k < 40 ∧ s.linkFits f k 2 = false) : s.thriftOk = false := by
  refine Bool.eq_false_iff.2 fun hok => ?_
  obtain ⟨hw, hl⟩ := s.thriftOk_iff.1 hok f hf hp
  rcases h with h | ⟨k, hk, h⟩
  · omega
  · simp [hl k hk] at h

/-- An accepted PROFILE_WRITE: SEL, PENDING and LAST_WR are written, the profile in force stays. -/
theorem State.profileWrite_accepted {s : State} {v : Nat} (h3 : bitsAt v 0 2 ≠ 3)
    (h2 : bitsAt v 0 2 = 2 → s.thriftOk = true) :
    (s.profileWrite v).get Reg.MAC.PROFILE.SEL = bitsAt v 0 2
      ∧ (s.profileWrite v).get Reg.MAC.PROFILE.LAST_WR = Status.done.code ∧ (s.profileWrite v).profile = s.profile
      ∧ (s.profileWrite v).get Reg.MAC.PROFILE.PENDING = bit (decide (bitsAt v 0 2 ≠ s.profile))
      ∧ Frame [] [Reg.MAC.PROFILE.SEL, Reg.MAC.PROFILE.PENDING, Reg.MAC.PROFILE.LAST_WR] [] s (s.profileWrite v) := by
  have hb (b : Bool) : bit b % 2 = bit b := by cases b <;> rfl
  have hw : s.profileWrite v = ((s.put Reg.MAC.PROFILE.SEL (bitsAt v 0 2)).put Reg.MAC.PROFILE.PENDING
      (bit (bitsAt v 0 2 ≠ s.profile))).put Reg.MAC.PROFILE.LAST_WR Status.done.code := by
    rw [State.profileWrite, if_neg h3, if_neg]
    rintro ⟨hsel, hno⟩
    simp [h2 hsel] at hno
  rw [hw]
  refine ⟨?_, ?_, ?_, ?_, (((Frame.refl s).put ?_ _).put ?_ _).put ?_ _⟩ <;>
    simp [Reg.MAC.PROFILE.SEL, Reg.MAC.PROFILE.PENDING, Reg.MAC.PROFILE.LAST_WR, Reg.MAC.PROFILE.ACTIVE, State.profile,
      bitsAt, Status.code, hb]

theorem State.profileWrite_misfit {s : State} {v : Nat} (h2 : bitsAt v 0 2 = 2) (hno : s.thriftOk = false) :
    s.profileWrite v = s.put Reg.MAC.PROFILE.LAST_WR Status.badField.code := by
  simp [State.profileWrite, h2, hno]

theorem State.profileWrite_illegal {s : State} {v : Nat} (h3 : bitsAt v 0 2 = 3) :
    s.profileWrite v = (s.put Reg.MAC.PROFILE.LAST_WR Status.badField.code).illegal 0x180000 := by
  simp [State.profileWrite, h3]

end Sys2Proof.Machine

/-! SUPPORT. MAC.NET_CFG writes (R109): which values are illegal, and what a legal write stores. -/

namespace Sys2Proof.Machine

theorem exec_netCfgWrite {s : State} (h : s.hostUp = true) (n : Fin 4) (v : BitVec 32) :
    exec (.netCfgWrite n v) s = .next (s.netCfg n v.toNat) :=
  congrArg Host.Outcome.next (State.hostWriteReg_plain h (dieOfOffset_low (by omega)) _ _)

theorem State.syncClose_iff (s : State) (m w codeSet err : Nat) : s.syncClose m w codeSet err = true ↔
    s.on (Reg.MAC.NET_CFG.EN m) = true ∧ s.get (Reg.MAC.NET_CFG.CODESET m) = codeSet
      ∧ (hamming32 w (s.get (Reg.MAC.NET_SYNC.SYNC m)) ≤ 2 * err + 2
        ∨ hamming32 w (0xFFFFFFFF - s.get (Reg.MAC.NET_SYNC.SYNC m)) ≤ 2 * err + 2) := by
  simp [State.syncClose, and_assoc]

/-- Why the sync word of a network fails the checks: it is banned, or another network lies too close. -/
theorem State.syncBad_iff {s : State} {n codeSet err w : Nat} (hw : w = s.get (Reg.MAC.NET_SYNC.SYNC n)) :
    s.syncBad n codeSet err = true ↔
      w = 0 ∨ w = 0xFFFFFFFF ∨ hamming32 w 0x55555555 ≤ 8 ∨ hamming32 w 0xAAAAAAAA ≤ 8
        ∨ ∃ m, m < 4 ∧ m ≠ n ∧ s.syncClose m w codeSet err = true := by
  subst hw
  simp [State.syncBad, syncBanned, or_assoc]

theorem State.netCfgIllegal_iff (s : State) (n v : Nat) : s.netCfgIllegal n v = true ↔
    4 < bitsAt v 3 3
      ∨ (s.on (Reg.MAC.NET_CFG.EN n) = true ∧ bitsAt v 1 2 ≠ s.get (Reg.MAC.NET_CFG.CODESET n))
      ∨ (s.on (Reg.MAC.NET_CFG.EN n) = false ∧ bitsAt v 0 1 = 1
          ∧ s.syncBad n (bitsAt v 1 2) (bitsAt v 3 3) = true) := by
  simp [State.netCfgIllegal, or_assoc, and_assoc]

/-- A network that is off takes any write whose SYNC_ERR and sync word pass the checks. -/
theorem State.netCfgIllegal_off {s : State} {n v : Nat} (hoff : s.on (Reg.MAC.NET_CFG.EN n) = false)
    (herr : bitsAt v 3 3 ≤ 4) (hsync : s.syncBad n (bitsAt v 1 2) (bitsAt v 3 3) = false) :
    s.netCfgIllegal n v = false := by
  refine Bool.eq_false_iff.2 fun h => ?_
  rcases (s.netCfgIllegal_iff n v).1 h with h | ⟨hon, -⟩ | ⟨-, -, hbad⟩
  · omega
  · simp [hoff] at hon
  · simp [hsync] at hbad

/-- A network that is on takes any write that keeps CODESET and whose SYNC_ERR passes. -/
theorem State.netCfgIllegal_on {s : State} {n v : Nat} (hon : s.on (Reg.MAC.NET_CFG.EN n) = true)
    (herr : bitsAt v 3 3 ≤ 4) (hcs : bitsAt v 1 2 = s.get (Reg.MAC.NET_CFG.CODESET n)) :
    s.netCfgIllegal n v = false := by
  refine Bool.eq_false_iff.2 fun h => ?_
  rcases (s.netCfgIllegal_iff n v).1 h with h | ⟨-, hne⟩ | ⟨hoff, -⟩
  · omega
  · exact hne hcs
  · simp [hon] at hoff

theorem State.netCfg_illegal {s : State} {n v : Nat} (h : s.netCfgIllegal n v = true) :
    s.netCfg n v = s.illegal (0x180204 + n * 8) := if_pos h

/-- A legal NET_CFG write stores its four fields and leaves all else as it was. -/
theorem State.netCfg_legal {s : State} {n v : Nat} (h : s.netCfgIllegal n v = false) :
    (s.netCfg n v).get (Reg.MAC.NET_CFG.EN n) = bitsAt v 0 1
      ∧ (s.netCfg n v).get (Reg.MAC.NET_CFG.CODESET n) = bitsAt v 1 2
      ∧ (s.netCfg n v).get (Reg.MAC.NET_CFG.SYNC_ERR n) = bitsAt v 3 3
      ∧ (s.netCfg n v).get (Reg.MAC.NET_CFG.NETID n) = bitsAt v 16 16
      ∧ Frame [] [Reg.MAC.NET_CFG.EN n, Reg.MAC.NET_CFG.CODESET n, Reg.MAC.NET_CFG.SYNC_ERR n, Reg.MAC.NET_CFG.NETID n]
          [] s (s.netCfg n v) := by
  have hn : s.netCfg n v = (((s.put (Reg.MAC.NET_CFG.EN n) (bitsAt v 0 1)).put (Reg.MAC.NET_CFG.CODESET n)
      (bitsAt v 1 2)).put (Reg.MAC.NET_CFG.SYNC_ERR n) (bitsAt v 3 3)).put (Reg.MAC.NET_CFG.NETID n)
        (bitsAt v 16 16) := if_neg (by simp [h])
  rw [hn]
  refine ⟨?_, ?_, ?_, ?_, ((((Frame.refl s).put ?_ _).put ?_ _).put ?_ _).put ?_ _⟩ <;>
    simp [Reg.MAC.NET_CFG.EN, Reg.MAC.NET_CFG.CODESET, Reg.MAC.NET_CFG.SYNC_ERR, Reg.MAC.NET_CFG.NETID, bitsAt]

end Sys2Proof.Machine

/-! CERTIFICATE. The writes that wait for a mesh cycle boundary (R8, R109, R182). -/

namespace Sys2Proof.Machine

/-- Settles O45, case by case of the two writes: each is a register write outside the field dies' windows, and then one of
the cases of profileWrite or netCfg. -/
theorem boundaryWrites : Obligations.BoundaryWrites := by
  unfold Obligations.BoundaryWrites
  refine ⟨fun s v hup h => ?_, fun s v f hup h2 hf hp h => ?_, fun s v hup h3 => ?_,
    fun s n v w hup hoff hen herr hw h0 h1 h5 hA hfar => ?_, fun s n v hup hon herr hcs => ?_,
    fun s n m v w hup hw h => ?_⟩
  · have hsel : bitsAt v.toNat 0 2 ≠ 3 := by omega
    have hok : bitsAt v.toNat 0 2 = 2 → s.thriftOk = true := by
      rcases h with h | ⟨-, h⟩
      · omega
      · exact fun _ => s.thriftOk_iff.2 h
    exact ⟨_, exec_profileWrite hup v, State.profileWrite_accepted hsel hok⟩
  · refine ⟨_, exec_profileWrite hup v, ?_⟩
    rw [State.profileWrite_misfit h2 (State.thriftOk_eq_false hf hp h)]
    exact ⟨State.get_put_same _ _ _, (Frame.refl s).put (by simp) _⟩
  · refine ⟨_, exec_profileWrite hup v, ?_⟩
    rw [State.profileWrite_illegal h3]
    exact ⟨(State.illegal_get _ _ _).trans (State.get_put_same _ _ _), State.illegal_valid _ _,
      ((Frame.refl s).put (by simp) _).illegal _⟩
  · have hsync : s.syncBad n (bitsAt v.toNat 1 2) (bitsAt v.toNat 3 3) = false := Bool.eq_false_iff.2 fun hbad => by
      rcases (State.syncBad_iff hw).1 hbad with hb | hb | hb | hb | ⟨m, hm, hmn, hclose⟩
      · exact h0 hb
      · exact h1 hb
      · omega
      · omega
      · obtain ⟨hm1, hmc, hd⟩ := (s.syncClose_iff _ _ _ _).1 hclose
        have := hfar m hm hmn hm1 hmc
        omega
    obtain ⟨hEN, hCS, hERR, hID, hF⟩ := State.netCfg_legal (State.netCfgIllegal_off hoff herr hsync)
    exact ⟨_, exec_netCfgWrite hup n v, hEN.trans hen, hCS, hERR, hID, hF⟩
  · obtain ⟨hEN, -, -, hID, hF⟩ := State.netCfg_legal (State.netCfgIllegal_on hon herr hcs)
    exact ⟨_, exec_netCfgWrite hup n v, hEN, hID, hF.same (c := .nets) (by simp), hF⟩
  · have hclose : (m ≠ n ∧ s.on (Reg.MAC.NET_CFG.EN m) = true ∧ s.get (Reg.MAC.NET_CFG.CODESET m) = bitsAt v.toNat 1 2
        ∧ hamming32 w (s.get (Reg.MAC.NET_SYNC.SYNC m)) ≤ 2 * bitsAt v.toNat 3 3 + 2) →
        ∃ k, k < 4 ∧ k ≠ n.val ∧ s.syncClose k w (bitsAt v.toNat 1 2) (bitsAt v.toNat 3 3) = true :=
      fun ⟨hmn, hm, hcs, hd⟩ =>
        ⟨m, m.isLt, fun he => hmn (Fin.ext he), (s.syncClose_iff _ _ _ _).2 ⟨hm, hcs, .inl hd⟩⟩
    have hi : s.netCfgIllegal n v.toNat = true := (s.netCfgIllegal_iff _ _).2 <| h.imp_right <| Or.imp_right
      fun ⟨hoff, hen, hbad⟩ => ⟨hoff, hen, (State.syncBad_iff hw).2 <|
        hbad.imp_right <| Or.imp_right <| Or.imp_right <| Or.imp_right hclose⟩
    refine ⟨_, exec_netCfgWrite hup n v, ?_⟩
    rw [State.netCfg_illegal hi]
    exact ⟨State.illegal_valid _ _, (Frame.refl s).illegal _⟩

end Sys2Proof.Machine

/-! SUPPORT. Frames and statistics along shared operations: a change of one component, a count or a firing stays within a
frame that names it; records, completions and log entries count alarm datagrams alone. -/

namespace Sys2Proof.Machine

section
variable {cs : List Component} {fields words : List Fld} {s t u : State}

/-- A change of components that the frame names stays within it. -/
theorem Frame.step (h : Frame cs fields words s t) (hc : ∀ c, c ∉ cs → c.Same t u) (hr : u.regs = t.regs)
    (hs : u.stats = t.stats) : Frame cs fields words s u :=
  h.trans ⟨hc, fun g _ => State.get_of_regs hr g, fun g _ => State.stat_of_stats hs g⟩

theorem Frame.setRx (h : Frame cs fields words s t) (hc : .rx ∈ cs) (x : MacRx) :
    Frame cs fields words s { t with rx := x } :=
  h.step (fun c hn => by cases c with | rx => exact absurd hc hn | _ => rfl) rfl rfl

theorem Frame.setKiln (h : Frame cs fields words s t) (hc : .kiln ∈ cs) (x : Kiln) :
    Frame cs fields words s { t with kiln := x } :=
  h.step (fun c hn => by cases c with | kiln => exact absurd hc hn | _ => rfl) rfl rfl

theorem Frame.setCask (h : Frame cs fields words s t) (hc : .cask ∈ cs) (x : Cask) :
    Frame cs fields words s { t with cask := x } :=
  h.step (fun c hn => by cases c with | cask => exact absurd hc hn | _ => rfl) rfl rfl

theorem Frame.setTx (h : Frame cs fields words s t) (hc : .tx ∈ cs) (x : MacTx) :
    Frame cs fields words s { t with tx := x } :=
  h.step (fun c hn => by cases c with | tx => exact absurd hc hn | _ => rfl) rfl rfl

theorem Frame.setRings (h : Frame cs fields words s t) (hc : .rings ∈ cs) (x : Rings) :
    Frame cs fields words s { t with rings := x } :=
  h.step (fun c hn => by cases c with | rings => exact absurd hc hn | _ => rfl) rfl rfl

/-- A count in a word that the frame names stays within it. -/
theorem Frame.bumpBy (h : Frame cs fields words s t) {f : Fld} (hf : f ∈ words) (n : Nat) :
    Frame cs fields words s (t.bumpBy f n) :=
  h.trans ⟨fun c _ => by cases c <;> rfl, fun _ _ => rfl,
    fun g hg => (State.stat_bumpBy t f n g).trans (if_neg (hg f hf))⟩

theorem Frame.bump (h : Frame cs fields words s t) {f : Fld} (hf : f ∈ words) : Frame cs fields words s (t.bump f) :=
  h.bumpBy hf 1

/-- A firing stays within a frame that names what raising an event may write. -/
theorem Frame.fire (h : Frame cs fields words s t) (hc : signalled ⊆ cs) (hw : alarmWords ⊆ words) (src : Nat) :
    Frame cs fields words s (t.fire src) :=
  h.trans ⟨fun c hn => by
      have hs : c ∉ signalled := fun hm => hn (hc hm)
      cases c <;> simp [signalled, Component.Same] at hs ⊢,
    fun g _ => State.fire_get t src g, fun g hg => State.fire_stat t src g fun f hf => hg f (hw hf)⟩

/-- An output writes what has been sent, and what is held or unconfirmed of it. -/
theorem Frame.emit (h : Frame cs fields words s t) (hs : .safe ∈ cs) (ho : .out ∈ cs) (o : Output) :
    Frame cs fields words s (t.emit o) :=
  h.step (fun c hn => by
    cases c with
    | safe => exact absurd hs hn
    | out => exact absurd ho hn
    | _ => simp [Component.Same]) (by simp) (by simp)

/-- A field that a frame does not name stands. -/
theorem Frame.get (h : Frame cs fields words s t) {g : Fld} (hg : ∀ f ∈ fields, f.key ≠ g.key) : t.get g = s.get g :=
  h.2.1 g hg

/-- A word that a frame does not name stands. -/
theorem Frame.stat (h : Frame cs fields words s t) {g : Fld} (hg : ∀ f ∈ words, f.key ≠ g.key) : t.stat g = s.stat g :=
  h.2.2 g hg

/-- A frame may be read as one that names more. -/
theorem Frame.mono {cs' : List Component} {fields' words' : List Fld} (h : Frame cs fields words s t) (hc : cs ⊆ cs')
    (hf : fields ⊆ fields') (hw : words ⊆ words') : Frame cs' fields' words' s t := by
  obtain ⟨kc, kf, kw⟩ := h
  exact ⟨fun c hn => kc c fun hm => hn (hc hm), fun g hg => kf g fun f hm => hg f (hf hm),
    fun g hg => kw g fun f hm => hg f (hw hm)⟩

end

/-! ### Statistics words that records and completions may count -/

theorem State.halt_stat (s : State) (n : Nat) (st : Status) (a : Nat) (g : Fld) (h : ∀ f ∈ alarmWords, f.key ≠ g.key) :
    (s.halt n st a).stat g = s.stat g := by
  rw [State.halt, State.fire_stat _ _ _ h, State.haltRing_stat]

theorem State.afterPost_stat (s : State) (typ : Nat) (p : Posted) (g : Fld) (h : ∀ f ∈ alarmWords, f.key ≠ g.key) :
    (s.afterPost typ p).stat g = s.stat g := by
  cases p with
  | full =>
    simp only [State.afterPost]
    split <;> simp [State.fire_stat _ _ _ h]
  | bad n a => exact State.halt_stat s n _ a g h
  | written => rfl
  | discarded => rfl

theorem State.record_stat (s : State) (n typ : Nat) (b : List Byte) (g : Fld) (h : ∀ f ∈ alarmWords, f.key ≠ g.key) :
    (s.record n typ b).stat g = s.stat g := by
  rw [State.record, State.afterPost_stat _ _ _ _ h, State.post_stat]

theorem State.complete_stat (s : State) (c : CmdRef) (st : Status) (x : Nat) (g : Fld)
    (h : ∀ f ∈ alarmWords, f.key ≠ g.key) : (s.complete c st x).stat g = s.stat g := by
  simp only [State.complete, State.completeX]
  split <;> simp [State.fire_stat _ _ _ h, State.afterPost_stat _ _ _ _ h]

theorem State.storeLog_stat (s : State) (e : LogEntry) (g : Fld) (h : ∀ f ∈ alarmWords, f.key ≠ g.key) :
    (s.storeLog e).stat g = s.stat g := by
  simp only [State.storeLog]
  split
  · rw [State.put_stat]; rfl
  · rw [State.fireOnce_stat _ _ _ h, State.incSat_stat]

theorem State.logError_stat (s : State) (code unit : Nat) (u f : Bool) (addr d : Nat) (g : Fld)
    (h : ∀ f ∈ alarmWords, f.key ≠ g.key) : (s.logError code unit u f addr d).stat g = s.stat g := by
  simp only [State.logError]
  rw [State.fire_stat _ _ _ h]
  split
  · rw [State.record_stat _ _ _ _ _ h, State.storeLog_stat _ _ _ h]; rfl
  · rw [State.storeLog_stat _ _ _ h]; rfl

/-! ### Configuration space, which no firing writes -/

@[simp] theorem State.setRing_cfg (s : State) (n : Nat) (r : RingRun) : (s.setRing n r).rings.cfg = s.rings.cfg := rfl

@[simp] theorem State.drop_cfg (s : State) (n : Nat) : (s.drop n).rings.cfg = s.rings.cfg := rfl

@[simp] theorem State.haltRing_cfg (s : State) (n : Nat) (st : Status) (a : Nat) :
    (s.haltRing n st a).rings.cfg = s.rings.cfg := by
  simp only [State.haltRing]
  split <;> rfl

@[simp] theorem State.postIndex_cfg (s : State) (n : Nat) : (s.postIndex n).1.rings.cfg = s.rings.cfg := by
  simp only [State.postIndex]
  split <;> simp

@[simp] theorem State.post_cfg (s : State) (n typ : Nat) (b : List Byte) :
    (s.post n typ b).1.rings.cfg = s.rings.cfg := by
  simp only [State.post]
  split
  · dsimp only
    split <;> simp
  · split
    · simp
    · split <;> simp

@[simp] theorem State.deliverEvent_cfg (s : State) (src d : Nat) : (s.deliverEvent src d).1.rings.cfg = s.rings.cfg := by
  simp only [State.deliverEvent]
  split <;> split <;> simp

@[simp] theorem State.fire1_cfg (s : State) (src d : Nat) : (s.fire1 src d).state.rings.cfg = s.rings.cfg := by
  simp only [State.fire1]
  split <;> simp

@[simp] theorem State.fireN_cfg (k : Nat) (s : State) (src d : Nat) : (State.fireN k s src d).rings.cfg = s.rings.cfg := by
  induction k generalizing s src d with
  | zero => exact State.fire1_cfg s src d
  | succ k ih =>
    simp only [State.fireN]
    (repeat' split) <;> simp [ih]

@[simp] theorem State.fire_cfg (s : State) (src : Nat) : (s.fire src).rings.cfg = s.rings.cfg := State.fireN_cfg 5 s src 0

/-! ### DMA windows (R237) -/

/-- The fields of a DMA window. -/
def windowFields (w : Nat) : List Fld :=
  [Reg.RING.WIN.EN w, Reg.RING.WIN.RD w, Reg.RING.WIN.WR w, Reg.RING.WIN.BASE_PAGE w, Reg.RING.WIN.LIMIT_PAGE w]

/-- Which bytes the windows allow is told by the part, configuration space and the fields of the windows. -/
theorem State.firstBad_congr {s t : State} (hp : t.part = s.part) (hc : t.rings.cfg = s.rings.cfg)
    (hw : ∀ w, w < 16 → ∀ f ∈ windowFields w, t.get f = s.get f) (write : Bool) (a n : Nat) :
    t.firstBad write a n = s.firstBad write a n := by
  have hbars : t.bars = s.bars := by
    unfold State.bars State.barRange State.cfgWord
    rw [hp, hc]
  have hcov (w : Nat) (h : w < 16) (b : Nat) (rd wr : Bool) : t.winCovers w b 1 rd wr = s.winCovers w b 1 rd wr := by
    have hf := hw w h
    simp only [windowFields, List.mem_cons, List.not_mem_nil, or_false, forall_eq_or_imp, forall_eq] at hf
    obtain ⟨hen, hrd, hwr, hbase, hlimit⟩ := hf
    simp only [State.winCovers, State.on, hen, hrd, hwr, hbase, hlimit]
  have hbyte (b : Nat) : t.byteAllowed b write = s.byteAllowed b write := by
    simp only [State.byteAllowed, State.inBar, hbars]
    congr 1
    exact Bool.eq_iff_iff.2 (by
      simp only [List.any_eq_true, List.mem_range]
      exact exists_congr fun w => and_congr_right fun h => by rw [hcov w h])
  induction n generalizing a with
  | zero => rfl
  | succ n ih => simp only [State.firstBad, hbyte, ih]

/-- Operations that write no register and no configuration space leave the windows as they are. -/
theorem State.firstBad_of_regs {s t : State} (hp : t.part = s.part) (hc : t.rings.cfg = s.rings.cfg)
    (hr : t.regs = s.regs) (write : Bool) (a n : Nat) : t.firstBad write a n = s.firstBad write a n :=
  State.firstBad_congr hp hc (fun _ _ f _ => State.get_of_regs hr f) write a n

/-! ### Outputs and records written (R236) -/

@[simp] theorem State.emit_hold (s : State) (o : Output) : (s.emit o).safe.hold = s.safe.hold := by
  rw [State.emit_safe s o]

/-- What is not held leaves at once. -/
theorem State.emit_out {s : State} (h : s.safe.hold = false) (o : Output) : (s.emit o).out = s.out ++ [o] := by
  simp only [State.emit, h, Bool.false_and, Bool.false_eq_true, if_false]
  split <;> rfl

theorem State.dmaWrite_out {s : State} (h : s.safe.hold = false) (a : Nat) (b : List Byte) :
    (s.dmaWrite a b).out = s.out ++ [.hostWrite s.active a b] := State.emit_out h _

@[simp] theorem State.dmaWrite_hold (s : State) (a : Nat) (b : List Byte) : (s.dmaWrite a b).safe.hold = s.safe.hold :=
  State.emit_hold s _

@[simp] theorem State.dmaWrite_active (s : State) (a : Nat) (b : List Byte) : (s.dmaWrite a b).active = s.active := by
  simp [State.active]

@[simp] theorem State.setRing_active (s : State) (n : Nat) (r : RingRun) : (s.setRing n r).active = s.active := by
  simp [State.active]

/-- A ring with room whose accesses the windows allow: the record is written, then the index (R236). -/
theorem State.record_written {s : State} {n typ : Nat} (b : List Byte) (ht : s.ringTakes n typ = true)
    (hroom : s.ringFill n < s.ringSize n)
    (hrec : s.firstBad true (s.get (Reg.RING.BASE.ADDR n) + (s.ring n).part % s.ringSize n * recordSize typ)
      (recordSize typ) = none)
    (hdb : s.firstBad true (s.doorbell n + 4) 4 = none) :
    s.record n typ b = ((s.dmaWrite (s.get (Reg.RING.BASE.ADDR n) + (s.ring n).part % s.ringSize n * recordSize typ)
        (withPhase b (s.ring n).part (s.ringSize n))).setRing n
          { s.ring n with part := ((s.ring n).part + 1) % 2 ^ 32 }).dmaWrite
        (s.doorbell n + 4) (leBytes 4 (((s.ring n).part + 1) % 2 ^ 32)) := by
  have hring (a : Nat) (l : List Byte) : (s.dmaWrite a l).ring n = s.ring n := by simp [State.ring]
  have hslot (a : Nat) (l : List Byte) : (s.dmaWrite a l).doorbell n = s.doorbell n := by simp [State.doorbell]
  have hdb' (a : Nat) (l : List Byte) (r : RingRun) :
      ((s.dmaWrite a l).setRing n r).firstBad true (s.doorbell n + 4) 4 = none :=
    (State.firstBad_of_regs (by simp) (by simp) (by simp) _ _ _).trans hdb
  have hslot' (a : Nat) (l : List Byte) (r : RingRun) :
      ((s.dmaWrite a l).setRing n r).doorbell n = s.doorbell n := by simp [State.doorbell]
  simp only [State.record, State.post, ht, Bool.not_true, Bool.false_eq_true, if_false, Nat.not_le.2 hroom, hrec,
    State.postIndex, hring, hslot', hdb', State.afterPost]

end Sys2Proof.Machine

/-! SUPPORT. The replay records, the held pairs and the counts of confirmed frames and retries (R176, R177): no operation
that follows a confirmation writes them. -/

namespace Sys2Proof.Machine

/-- The words that count confirmed frames and retries. -/
def confirmWords : List Fld := [Reg.MAC.CONFIRMED, Reg.MAC.RETRY]

/-- The replay records, the held pairs, and the counts of confirmed frames and of retries stand. -/
structure State.FilterKept (s t : State) : Prop where
  replay : t.rx.replay = s.rx.replay
  pairs : t.rx.pairs = s.rx.pairs
  words : ∀ g ∈ confirmWords, t.stat g = s.stat g

namespace State.FilterKept
variable {s t u : State}

theorem refl (s : State) : s.FilterKept s := ⟨rfl, rfl, fun _ _ => rfl⟩

theorem trans (h : s.FilterKept t) (k : t.FilterKept u) : s.FilterKept u :=
  ⟨k.replay.trans h.replay, k.pairs.trans h.pairs, fun g hg => (k.words g hg).trans (h.words g hg)⟩

/-- An operation that keeps the records, the pairs and the statistics store. -/
theorem step (h : s.FilterKept t) (hr : u.rx.replay = t.rx.replay) (hp : u.rx.pairs = t.rx.pairs)
    (hs : u.stats = t.stats) : s.FilterKept u :=
  h.trans ⟨hr, hp, fun g _ => State.stat_of_stats hs g⟩

/-- An operation that keeps the receive side and counts alarm datagrams alone. -/
theorem signals (h : s.FilterKept t) (hr : u.rx = t.rx)
    (hs : ∀ g, (∀ f ∈ alarmWords, f.key ≠ g.key) → u.stat g = t.stat g) : s.FilterKept u :=
  h.trans ⟨by rw [hr], by rw [hr], fun g hg => hs g (by revert g; decide)⟩

/-- A count in another word. -/
theorem bumpBy (h : s.FilterKept t) {f : Fld} (hf : ∀ g ∈ confirmWords, f.key ≠ g.key) (n : Nat) :
    s.FilterKept (t.bumpBy f n) :=
  h.trans ⟨by simp, by simp, fun g hg => by simp [hf g hg]⟩

theorem bump (h : s.FilterKept t) {f : Fld} (hf : ∀ g ∈ confirmWords, f.key ≠ g.key) : s.FilterKept (t.bump f) :=
  h.bumpBy hf 1

theorem fire (h : s.FilterKept t) (src : Nat) : s.FilterKept (t.fire src) :=
  h.signals (by simp) (State.fire_stat t src)

theorem fireOnce (h : s.FilterKept t) (src : Nat) : s.FilterKept (t.fireOnce src) :=
  h.signals (by simp) (State.fireOnce_stat t src)

theorem record (h : s.FilterKept t) (n typ : Nat) (b : List Byte) : s.FilterKept (t.record n typ b) :=
  h.signals (by simp) (State.record_stat t n typ b)

theorem complete (h : s.FilterKept t) (c : CmdRef) (st : Status) (x : Nat) : s.FilterKept (t.complete c st x) :=
  h.signals (by simp) (State.complete_stat t c st x)

theorem logError (h : s.FilterKept t) (code unit : Nat) (a b : Bool) (addr d : Nat) :
    s.FilterKept (t.logError code unit a b addr d) :=
  h.signals (by simp) (State.logError_stat t code unit a b addr d)

/-- A write of the register store, or of a component other than the receive side. -/
theorem other (h : s.FilterKept t) (hr : u.rx = t.rx) (hs : u.stats = t.stats) : s.FilterKept u :=
  h.step (by rw [hr]) (by rw [hr]) hs

theorem put (h : s.FilterKept t) (f : Fld) (v : Nat) : s.FilterKept (t.put f v) := h.other rfl rfl

theorem spend (h : s.FilterKept t) (n : Nat) : s.FilterKept (t.spend n) := h.other rfl rfl

theorem setRing (h : s.FilterKept t) (n : Nat) (r : RingRun) : s.FilterKept (t.setRing n r) := h.other rfl rfl

theorem setCache (h : s.FilterKept t) (x : Tbl CacheEntry) : s.FilterKept (t.setCache x) := h.other rfl rfl

theorem setTun (h : s.FilterKept t) (x : TunUnit) : s.FilterKept { t with tun := x } := h.other rfl rfl

/-- A write of the receive side that keeps the records and the pairs. -/
theorem setRx (h : s.FilterKept t) {x : MacRx} (hr : x.replay = t.rx.replay) (hp : x.pairs = t.rx.pairs) :
    s.FilterKept { t with rx := x } := h.step hr hp rfl

theorem newReq (h : s.FilterKept t) (r : CheckReq) : s.FilterKept (t.newReq r) := h.other rfl rfl

theorem addJob (h : s.FilterKept t) (j : TxJob) : s.FilterKept (t.addJob j) := h.other rfl rfl

theorem sendDown (h : s.FilterKept t) (f id : Nat) : s.FilterKept (t.sendDown f id) := h.step rfl rfl rfl

theorem fillBufs (h : s.FilterKept t) (r : Nat) (bs : List Nat) (data : List Byte) : s.FilterKept (t.fillBufs r bs data) :=
  h.other rfl rfl

theorem freeBufs (h : s.FilterKept t) (r : Nat) (bs : List Nat) : s.FilterKept (t.freeBufs r bs) := h.other rfl rfl

theorem each {α : Type} (l : List α) {f : State → α → State}
    (hf : ∀ {u : State} (a : α), s.FilterKept u → s.FilterKept (f u a))
    (h : s.FilterKept t) : s.FilterKept (t.each l f) := by
  induction l generalizing t with
  | nil => exact h
  | cons a l ih => exact ih (hf a h)

/-! ### Groups -/

theorem setGroup (h : s.FilterKept t) (id : Nat) (g : Group) : s.FilterKept (t.setGroup id g) := h.step rfl rfl rfl

theorem onGroup (h : s.FilterKept t) (id : Nat) (f : Group → Group) : s.FilterKept (t.onGroup id f) := by
  simp only [State.onGroup]
  split
  · exact h.setGroup _ _
  · exact h

theorem releaseGroup (h : s.FilterKept t) (id : Nat) : s.FilterKept (t.releaseGroup id) := by
  simp only [State.releaseGroup]
  split
  · split
    · exact h.step rfl rfl rfl
    · exact h
  · exact h

theorem giveCopies (h : s.FilterKept t) (g : Group) (f : List Byte) : s.FilterKept (t.giveCopies g f) := h.step rfl rfl rfl

theorem elkFollow (h : s.FilterKept t) (id : Nat) (st reason : Status) (late : Bool) :
    s.FilterKept (t.elkFollow id st reason late) := by
  simp only [State.elkFollow]
  split
  · split
    · exact h
    · refine (bump ((h.setRing _ _).record _ _ _) ?_).setGroup _ _
      split <;> decide
  · exact h

theorem countEnd (h : s.FilterKept t) (st : Status) : s.FilterKept (t.countEnd st) := by
  simp only [State.countEnd]
  split
  · exact h.bump (by decide)
  · exact h.bump (by decide)
  · exact h.bump (by decide)
  · exact h

theorem countGroup (h : s.FilterKept t) (id : Nat) : s.FilterKept (t.countGroup id) := by
  simp only [State.countGroup]
  split
  · split
    · exact h
    · exact (((h.setGroup _ _).bump (by decide)).bumpBy (by decide) _).bumpBy (by decide) _
  · exact h

theorem resultEnds (h : s.FilterKept t) (id : Nat) (st : Status) : s.FilterKept (t.resultEnds id st) := by
  simp only [State.resultEnds]
  split
  · refine setGroup ?_ _ _
    split
    · exact h.countEnd st
    · exact h
  · exact h

theorem cacheEnd (h : s.FilterKept t) (id : Nat) (keep : Option KeyRef) : s.FilterKept (t.cacheEnd id keep) :=
  h.other rfl rfl

theorem groupEnds (h : s.FilterKept t) (id : Nat) : s.FilterKept (t.groupEnds id) := by
  simp only [State.groupEnds]
  split
  · split
    · refine (cacheEnd (onGroup (elkFollow (countGroup ?_ _) _ _ _ _) _ _) _ _).releaseGroup id
      split
      · exact h
      · exact h.countEnd _
    · exact h.releaseGroup id
  · exact h

/-! ### The node table -/

theorem setNodeTab (h : s.FilterKept t) (x : Tbl NodeEntry) : s.FilterKept (t.setNodeTab x) := by
  refine h.trans ⟨rfl, rfl, fun g hg => ?_⟩
  have hl : ∀ g ∈ confirmWords, Reg.NODE.VALID_LEARNED.key ≠ g.key := by decide
  have hs : ∀ g ∈ confirmWords, Reg.NODE.VALID_STATIC.key ≠ g.key := by decide
  simp [State.setNodeTab, State.stat, hl g hg, hs g hg]

theorem nodePut (h : s.FilterKept t) (i w : Nat) : s.FilterKept (t.nodePut i w) := h.setNodeTab _

theorem parityError (h : s.FilterKept t) (i : Nat) : s.FilterKept (t.parityError i) := by
  simp only [State.parityError]
  exact ((((h.setNodeTab _).put _ _).bump (by decide)).fire 160).logError _ _ _ _ _ _

theorem nodeFind (h : s.FilterKept t) (a : Nat) : s.FilterKept (t.nodeFind a).1 := by
  simp only [State.nodeFind]
  split
  · exact h
  · split
    · split
      · exact h
      · exact h.parityError _
    · exact h

theorem scrubBucket (h : s.FilterKept t) (a : Nat) : s.FilterKept (t.scrubBucket a) := by
  refine each _ (fun i hu => ?_) h
  split
  · exact hu.parityError i
  · exact hu

theorem learnNew (h : s.FilterKept t) (a w : Nat) : s.FilterKept (t.learnNew a w) := by
  simp only [State.learnNew]
  split
  · exact ((h.scrubBucket a).nodePut _ _).bump (by decide)
  · exact ((h.scrubBucket a).bump (by decide)).fire 161

theorem learnSet (h : s.FilterKept t) (i : Nat) (ranked : List Nat) (rate : Nat) :
    s.FilterKept (t.learnSet i ranked rate) := by
  simp only [State.learnSet]
  split
  · exact h.nodePut _ _
  · exact (h.nodePut _ _).bump (by decide)

theorem learnConfirm (h : s.FilterKept t) (a ofs rate : Nat) (clipped sleepy relayed : Bool) (key : Option KeyRef)
    (ranked : List Nat) : s.FilterKept (t.learnConfirm a ofs rate clipped sleepy relayed key ranked) := by
  simp only [State.learnConfirm]
  split
  · exact (h.nodeFind a).nodePut _ _
  · split
    · exact ((h.nodeFind a).learnNew _ _).spend 1
    · exact h.nodeFind a

theorem learnPoint (h : s.FilterKept t) (id : Nat) : s.FilterKept (t.learnPoint id) := by
  simp only [State.learnPoint]
  split
  · split
    · split
      · exact h
      · split
        · split
          · exact (h.setGroup _ _).nodeFind _
          · exact ((h.setGroup _ _).nodeFind _).learnSet _ _ _
        · exact (h.setGroup _ _).nodeFind _
    · exact h
  · exact h

theorem learnFrame (h : s.FilterKept t) (id : Nat) : s.FilterKept (t.learnFrame id) := by
  simp only [State.learnFrame]
  split
  · split
    · exact (h.learnConfirm _ _ _ _ _ _ _ _).learnPoint id
    · exact h
  · exact h

/-! ### Keys and verification -/

theorem touchCache (h : s.FilterKept t) (i : Nat) (g : Option Nat) : s.FilterKept (t.touchCache i g) := by
  simp only [State.touchCache]
  split
  · exact h.other rfl rfl
  · exact h

theorem cacheMiss (h : s.FilterKept t) (n a ix slot : Nat) (x : Slot) (g : Option Nat) :
    s.FilterKept (t.cacheMiss n a ix slot x g).1 := by
  have hm : s.FilterKept ((t.bump Reg.KILN.CACHE_MISS).bump Reg.KILN.DERIVED) := (h.bump (by decide)).bump (by decide)
  simp only [State.cacheMiss]
  split
  · refine (setCache ?_ _).touchCache _ _
    split
    · exact hm.bump (by decide)
    · exact hm
  · exact (hm.bump (by decide)).fireOnce 231

theorem nodeKey (h : s.FilterKept t) (n a ix : Nat) (g : Option Nat) : s.FilterKept (t.nodeKey n a ix g).1 := by
  simp only [State.nodeKey]
  split
  · exact h
  · exact h
  · split
    · exact ((h.nodeFind a).touchCache _ _).bump (by decide)
    · split
      · exact ((h.nodeFind a).cacheMiss _ _ _ _ _ _).nodePut _ _
      · exact (h.nodeFind a).cacheMiss _ _ _ _ _ _

theorem verifyKey (h : s.FilterKept t) (id : Nat) (g : Group) (f : List Byte) : s.FilterKept (t.verifyKey id g f).1 := by
  simp only [State.verifyKey]
  split
  · exact h
  · split
    · exact h
    · exact h.nodeKey _ _ _ _

theorem tryResult (h : s.FilterKept t) (id : Nat) (g : Group) (r : ResultSrc) : s.FilterKept (t.tryResult id g r) := by
  have hkey := h.verifyKey id g (g.frame r)
  simp only [State.tryResult]
  split
  · exact h.resultEnds _ _
  · split
    · split
      · exact h.setGroup _ _
      · exact h.resultEnds _ _
    · split
      · exact h.resultEnds _ _
      · split
        · exact ((h.bump (by decide)).fireOnce 230).resultEnds _ _
        · split
          case h_1 heq =>
            rw [heq] at hkey
            exact (hkey.bump (by decide)).resultEnds _ _
          case h_2 heq =>
            rw [heq] at hkey
            exact (hkey.newReq _).onGroup _ _

theorem verify (h : s.FilterKept t) (id n : Nat) : s.FilterKept (t.verify id n) := by
  induction n generalizing t with
  | zero => exact h.groupEnds id
  | succ n ih =>
    simp only [State.verify]
    split
    · exact h
    · split
      · exact h
      · split
        · exact h.groupEnds id
        · split
          · exact h
          · exact ih ((h.setGroup _ _).tryResult _ _ _)

theorem verifyOn (h : s.FilterKept t) (id : Nat) : s.FilterKept (t.verifyOn id) := by
  simp only [State.verifyOn]
  split
  · exact h.verify _ _
  · exact h

/-! ### Contacts, acknowledgements, delivery -/

theorem endContact (h : s.FilterKept t) (id : Nat) (k : Contact) (st : Status) : s.FilterKept (t.endContact id k st) :=
  (h.setRx (x := { t.rx with contacts := Tbl.erase t.rx.contacts id }) rfl rfl).complete _ _ _

theorem fulfil (h : s.FilterKept t) (src : Nat) (ns : Int) : s.FilterKept (t.fulfil src ns) :=
  each _ (fun p hu => hu.endContact p.1 p.2 .done) h

theorem ackDecision (h : s.FilterKept t) (id : Nat) (g : Group) (r : ResultSrc) : s.FilterKept (t.ackDecision id g r) := by
  simp only [State.ackDecision, State.startAck]
  split
  · exact h
  · split
    · split
      · exact (h.addJob _).sendDown _ _
      · exact (h.addJob _).newReq _
    · exact h.bump (by decide)

theorem rxTake (h : s.FilterKept t) (id : Nat) (g : Group) (r : ResultSrc) : s.FilterKept (t.rxTake id g r) := by
  simp only [State.rxTake]
  split
  · exact (h.fillBufs _ _ _).setGroup _ _
  · exact (h.bump (by decide)).setGroup _ _

theorem rxDrop (h : s.FilterKept t) (id : Nat) : s.FilterKept (t.rxDrop id) := by
  simp only [State.rxDrop]
  split
  · exact (h.freeBufs _ _).setGroup _ _
  · exact h

theorem fastPathSend (h : s.FilterKept t) (n typ : Nat) (payload : List Byte) :
    s.FilterKept (t.fastPathSend n typ payload) := by
  have hpriv (frame : List Byte) : s.FilterKept (t.sendPriv frame).1 := h.signals (by simp) (State.sendPriv_stat t frame)
  have hqueue (hd p : Nat) (frame : List Byte) : s.FilterKept (t.queueFrame hd p true frame).1 :=
    h.other (by simp) (by simp)
  simp only [State.fastPathSend]
  split
  · exact h
  · split
    · split
      · exact (hpriv _).bump (by decide)
      · exact (hpriv _).fireOnce 196
    · split
      · exact (hqueue _ _ _).bump (by decide)
      · exact ((hqueue _ _ _).bump (by decide)).fireOnce 196

theorem forward (h : s.FilterKept t) (id : Nat) : s.FilterKept (t.forward id) := by
  simp only [State.forward]
  split
  · split
    · split
      · exact h
      · split
        · split
          · exact (h.fastPathSend _ _ _).setTun _
          · exact h.fastPathSend _ _ _
        · split
          · exact h.setTun _
          · exact h
    · exact h
  · exact h

theorem joinEnds (h : s.FilterKept t) (id : Nat) (accept : Bool) : s.FilterKept (t.joinEnds id accept) := by
  simp only [State.joinEnds]
  split
  · exact ((h.learnFrame id).forward id).releaseGroup id
  · exact (((h.rxDrop id).onGroup _ _).bump (by decide)).releaseGroup id

theorem admitFrame (h : s.FilterKept t) (id : Nat) (f : List Byte) : s.FilterKept (t.admitFrame id f) := by
  simp only [State.admitFrame]
  split
  · split
    · exact h.setTun _
    · exact h.joinEnds _ _
  · exact h.joinEnds _ _

/-! ### Confirmation -/

/-- After the window and the pairs have moved on, confirmation writes neither, and counts no other frame confirmed. -/
theorem confirm (s : State) (id : Nat) (g : Group) (r : ResultSrc) (x : Replay) (fresh : Bool) :
    ((s.countConfirm g r fresh).acceptCounter (g.frame r) x).FilterKept (s.confirm id g r x fresh) := by
  unfold State.confirm
  extract_lets f sync accepted g' placed rx counted followed acked taken
  have hplaced : accepted.FilterKept placed := (refl accepted).setGroup id g'
  have hcounted : accepted.FilterKept counted :=
    (hplaced.setRx (x := { rx with nextOrder := accepted.rx.nextOrder + 1 }) rfl rfl).countGroup id
  have hacked : accepted.FilterKept acked := ((hcounted.elkFollow id _ _ _).fulfil _ sync).ackDecision id g' r
  have htaken : accepted.FilterKept taken := by
    unfold taken
    split
    · exact hacked.rxTake _ _ _
    · exact hacked
  exact ((htaken.admitFrame id f).cacheEnd id _).verifyOn id

end State.FilterKept

end Sys2Proof.Machine

/-! SUPPORT. Step 4 of R17: how a group ends unconfirmed, the replay window (R176) and the duplicate filter (R177). -/

namespace Sys2Proof.Machine

/-- A table mapped value by value reads the mapped values. -/
theorem Tbl.find?_map {α β : Type} (m : Tbl α) (f : α → β) (i : Nat) :
    Tbl.find? (List.map (fun p => (p.1, f p.2)) m : Tbl β) i = (Tbl.find? m i).map f := by
  induction m with
  | nil => rfl
  | cons p m ih =>
    obtain ⟨k, v⟩ := p
    simp only [List.map_cons, Tbl.find?_cons, ih]
    split <;> rfl

/-! ### Groups -/

@[simp] theorem State.group?_setGroup (s : State) (id : Nat) (g : Group) (j : Nat) :
    (s.setGroup id g).group? j = if id = j then some g else s.group? j := by
  simp [State.group?, State.setGroup]

/-- A group is told by the receive side alone. -/
theorem State.group?_of_rx {s t : State} (h : t.rx = s.rx) (id : Nat) : t.group? id = s.group? id := by
  simp [State.group?, h]

theorem State.group?_cacheEnd (s : State) (id : Nat) (k : Option KeyRef) (j : Nat) :
    (s.cacheEnd id k).group? j = s.group? j := rfl

/-- What a release leaves of a group stood before it. -/
theorem State.group?_of_releaseGroup {s : State} {id : Nat} {x : Group} (h : (s.releaseGroup id).group? id = some x) :
    s.group? id = some x := by
  simp only [State.releaseGroup] at h
  split at h
  · split at h
    · simp [State.group?, State.eraseGroup] at h
    · exact h
  · exact h

section
variable {cs : List Component} {fields words : List Fld} {s t : State}

theorem Frame.releaseGroup (h : Frame cs fields words s t) (hc : .rx ∈ cs) (id : Nat) :
    Frame cs fields words s (t.releaseGroup id) := by
  simp only [State.releaseGroup]
  split
  · split
    · exact h.setRx hc _
    · exact h
  · exact h

/-- The words that count a group once its frame is confirmed or ended (R156). -/
def groupWords : List Fld := [Reg.BLEND.GROUPS, Reg.BLEND.COPIES, Reg.BLEND.OVER_EIGHT]

theorem Frame.countGroup (h : Frame cs fields words s t) (hc : .rx ∈ cs) (hw : groupWords ⊆ words) (id : Nat) :
    Frame cs fields words s (t.countGroup id) := by
  simp only [State.countGroup]
  split
  · split
    · exact h
    · exact (((h.setRx hc _).bump (hw (by simp [groupWords]))).bumpBy (hw (by simp [groupWords])) _).bumpBy
        (hw (by simp [groupWords])) _
  · exact h

end

/-- Counting a group marks it counted and changes nothing else of it. -/
theorem State.group?_countGroup {s : State} {id : Nat} {g : Group} (h : s.group? id = some g) :
    ∃ b, (s.countGroup id).group? id = some { g with counted := b } := by
  simp only [State.countGroup, h]
  split
  · exact ⟨g.counted, h⟩
  · exact ⟨true, by rw [State.group?_of_rx (s := s.setGroup id { g with counted := true }) (by simp)]; simp⟩

/-! ### Endings without confirmation -/

/-- A provisional group outside Swift, closed, unconfirmed and without a follow-up due, with no result left but one. -/
structure Group.AtLastResult (g : Group) : Prop where
  confirmed : g.confirmed = none
  todo : g.todo = []
  closed : g.closed = true
  prov : g.prov = true
  ended : g.ended = false
  profile : g.profile ≠ 0
  elk : g.elkOpen = false

theorem State.countEnd_rx (s : State) (st : Status) : (s.countEnd st).rx = s.rx := by
  cases st <;> simp [State.countEnd]

/-- With nothing at Kiln, nothing passed and nothing left to try, verification ends the group if it can. -/
theorem State.verifyOn_nothingLeft {s : State} {id : Nat} {g : Group} (hg : s.group? id = some g) (ht : g.todo = [])
    (hc : g.checking = none) (hp : g.passed = none) : s.verifyOn id = s.groupEnds id := by
  simp [State.verifyOn, State.verify, hg, ht, hc, hp]

/-- A group that nothing could confirm any more is counted, marked ended and released, its last status counted. -/
theorem State.groupEnds_spent {s : State} {id : Nat} {g : Group} (hg : s.group? id = some g) (hs : g.spent = true)
    (hp : g.profile ≠ 0) (he : g.elkOpen = false) :
    ∃ b, s.groupEnds id = ((((s.countEnd g.last).countGroup id).setGroup id { g with counted := b, ended := true }).cacheEnd
      id none).releaseGroup id := by
  obtain ⟨b, hb⟩ := State.group?_countGroup ((State.group?_of_rx (s.countEnd_rx g.last) id).trans hg)
  have hfollow : ((s.countEnd g.last).countGroup id).elkFollow id .withdrawn g.last false
      = (s.countEnd g.last).countGroup id := by
    simp [State.elkFollow, hb, he]
  exact ⟨b, by simp only [State.groupEnds, hg, hs, if_true, hp, if_false, hfollow, State.onGroup, hb]⟩

/-- A group whose result in hand has ended with a status. -/
def Group.endedWith (g : Group) (st : Status) : Group := { g with last := st, checking := none, passed := none }

theorem State.resultEnds_eq {s : State} {id : Nat} {g : Group} (hg : s.group? id = some g) (hp : g.profile ≠ 0)
    (st : Status) : s.resultEnds id st = s.setGroup id (g.endedWith st) := by
  simp [State.resultEnds, hg, hp, Group.endedWith]

theorem Group.AtLastResult.spent {g : Group} (h : g.AtLastResult) (st : Status) : (g.endedWith st).spent = true := by
  simp [Group.endedWith, Group.spent, h.confirmed, h.todo, h.closed, h.prov, h.ended, h.profile]

/-- When the last result of a group ends, its word counts it, and what is left of the group has ended with that status. -/
theorem State.lastResultEnds {s : State} {id : Nat} {g : Group} (hg : s.group? id = some g) (hl : g.AtLastResult)
    {st : Status} {w : Fld} (hw : ∀ u : State, u.countEnd st = u.bump w) :
    Frame [.rx, .kiln] [] groupWords (s.bump w) ((s.resultEnds id st).verifyOn id)
      ∧ ∀ x, ((s.resultEnds id st).verifyOn id).group? id = some x → x.ended = true ∧ x.last = st := by
  have hset : (s.setGroup id (g.endedWith st)).group? id = some (g.endedWith st) := by simp
  obtain ⟨b, hb⟩ := State.groupEnds_spent hset (hl.spent st) hl.profile hl.elk
  rw [State.resultEnds_eq hg hl.profile, State.verifyOn_nothingLeft hset hl.todo rfl rfl, hb,
    show (g.endedWith st).last = st from rfl, hw]
  refine ⟨?_, fun x hx => ?_⟩
  · have hfirst : Frame [.rx, .kiln] [] groupWords (s.bump w) ((s.setGroup id (g.endedWith st)).bump w) :=
      (Frame.refl (s.bump w)).setRx (by simp) _
    exact ((((hfirst.countGroup (by simp) (List.Subset.refl _) id).setRx (by simp) _).setKiln (by simp) _).releaseGroup
      (by simp) id)
  · have hx' := State.group?_of_releaseGroup hx
    rw [State.group?_cacheEnd, State.group?_setGroup, if_pos rfl, Option.some.injEq] at hx'
    subst hx'
    exact ⟨rfl, rfl⟩

/-! ### The replay test (R176) -/

theorem replayTest_new (ix c : Nat) : replayTest none ix c = (false, some ⟨ix, c, 1⟩) := rfl

theorem replayTest_index (x : Replay) {ix : Nat} (c : Nat) (h : ix ≠ x.index) : replayTest (some x) ix c
    = (false, if (ix + 256 - x.index) % 256 ≤ 127 then some ⟨ix, c, 1⟩ else none) := by
  simp [replayTest, h.symm]

theorem replayTest_exhausted {x : Replay} (c : Nat) (h : x.high = 0xFFFFFFFF) :
    replayTest (some x) x.index c = (true, none) := by
  simp [replayTest, h]

theorem replayTest_above {x : Replay} {c : Nat} (h : x.high < c) (hm : x.high ≠ 0xFFFFFFFF) :
    replayTest (some x) x.index c = (false, some ⟨x.index, c, (x.seen <<< (c - x.high)) ||| 1⟩) := by
  simp [replayTest, hm, h]

/-- A counter not above the highest fails where it is 64 or more below, or has been seen. -/
theorem replayTest_old {x : Replay} {c : Nat} (hm : x.high ≠ 0xFFFFFFFF) (h : c ≤ x.high)
    (hold : 64 ≤ x.high - c ∨ x.seen.getLsbD (x.high - c) = true) : (replayTest (some x) x.index c).2 = none := by
  have hfail : ¬ (x.high ≤ c + 63 ∧ (!x.seen.getLsbD (x.high - c)) = true) := by
    rintro ⟨hnear, hunseen⟩
    rcases hold with hfar | hseen
    · omega
    · simp [hseen] at hunseen
  simp only [replayTest, ne_eq, not_true_eq_false, if_false, hm, Nat.not_lt.2 h, hfail]

/-! ### The filters -/

/-- A result that has passed its check and does not wait meets the filters. -/
theorem exec_replayFilter {s : State} {id : Nat} {g : Group} {r : ResultSrc} (hlive : s.live = true)
    (hg : s.group? id = some g) (hp : g.passed = some r) (hw : s.filterWaits id g r = false) :
    exec (.replayFilter id) s = .next (s.filterResult id g r) := by
  change Host.Outcome.next _ = _
  simp [hg, hp, hlive, hw]

/-- A result waits for one of the same source that reached the filter before it, or with it and a lower counter (R178). -/
theorem exec_replayFilter_waits {s : State} {id : Nat} {g : Group} {r : ResultSrc} (hg : s.group? id = some g)
    (hp : g.passed = some r) (hw : s.filterWaits id g r = true) : exec (.replayFilter id) s = .next s := by
  change Host.Outcome.next _ = _
  simp [hg, hp, hw]

theorem State.filterWaits_of_earlier {s : State} {id k : Nat} {g h : Group} {r q : ResultSrc} (hk : (k, h) ∈ s.rx.groups)
    (hne : k ≠ id) (hq : h.passed = some q) (hsrc : macSrc (h.frame q) = macSrc (g.frame r))
    (hfirst : h.passedAt < g.passedAt ∨ (h.passedAt = g.passedAt ∧ macCtr (h.frame q) < macCtr (g.frame r))) :
    s.filterWaits id g r = true := by
  simp only [State.filterWaits, List.any_eq_true]
  refine ⟨(k, h), hk, ?_⟩
  rcases hfirst with hlt | ⟨heq, hlt⟩
  · simp [hne, hq, hsrc, hlt]
  · simp [hne, hq, hsrc, heq, hlt]

/-- A group that has not confirmed gives its copies away and stays as it is (R200). -/
theorem State.group?_giveCopies {s : State} {id : Nat} {g : Group} (hg : s.group? id = some g) (hc : g.confirmed = none)
    (h : Group) (f : List Byte) : (s.giveCopies h f).group? id = some g := by
  unfold State.giveCopies
  extract_lets own same give
  have hkept : give g = g := by simp [give, same, hc]
  exact (Tbl.find?_map s.rx.groups give id).trans ((congrArg (Option.map give) hg).trans (congrArg some hkept))

theorem State.filterResult_duplicate {s : State} {id : Nat} {g : Group} {r : ResultSrc}
    (h : (macSeq (g.frame r), macCtr (g.frame r)) ∈ s.pairsOf (macSrc (g.frame r))) :
    s.filterResult id g r = ((s.giveCopies g (g.frame r)).resultEnds id .duplicate).verifyOn id := by
  simp [State.filterResult, h]

/-- The result of the replay test of a frame. -/
def State.replayOf (s : State) (f : List Byte) : Bool × Option Replay :=
  replayTest (Tbl.find? s.rx.replay (8 * macSrc f + macClass f)) (macIndex f) (macCtr f)

/-- The state in which the replay test of a frame has raised source 180 where its window is exhausted (R176). -/
def State.replayRaised (s : State) (f : List Byte) : State := if (s.replayOf f).1 then s.fire 180 else s

theorem State.replayRaised_rx (s : State) (f : List Byte) : (s.replayRaised f).rx = s.rx := by
  simp only [State.replayRaised]
  split <;> simp

theorem State.filterResult_replay {s : State} {id : Nat} {g : Group} {r : ResultSrc}
    (hn : (macSeq (g.frame r), macCtr (g.frame r)) ∉ s.pairsOf (macSrc (g.frame r)))
    (ht : (s.replayOf (g.frame r)).2 = none) :
    s.filterResult id g r = ((s.replayRaised (g.frame r)).resultEnds id .replay).verifyOn id := by
  have htest : replayTest (Tbl.find? s.rx.replay (replayKey (macSrc (g.frame r)) (macClass (g.frame r))))
      (macIndex (g.frame r)) (macCtr (g.frame r)) = s.replayOf (g.frame r) := rfl
  simp only [State.filterResult, if_neg hn, htest, ht, State.replayRaised]

theorem State.filterResult_confirms {s : State} {id : Nat} {g : Group} {r : ResultSrc} {x : Replay}
    (hn : (macSeq (g.frame r), macCtr (g.frame r)) ∉ s.pairsOf (macSrc (g.frame r)))
    (ht : (s.replayOf (g.frame r)).2 = some x) (hc : g.confirmed = none) :
    s.filterResult id g r = (s.replayRaised (g.frame r)).confirm id g r x
      (!(s.pairsOf (macSrc (g.frame r))).any fun p => p.1 = macSeq (g.frame r)) := by
  have htest : replayTest (Tbl.find? s.rx.replay (replayKey (macSrc (g.frame r)) (macClass (g.frame r))))
      (macIndex (g.frame r)) (macCtr (g.frame r)) = s.replayOf (g.frame r) := rfl
  simp only [State.filterResult, if_neg hn, htest, ht, State.replayRaised, hc, Option.isSome_none, Bool.false_eq_true,
    if_false]

/-- A confirmation counts in CONFIRMED, and in RETRY where its frame is not new (R156). -/
theorem State.countConfirm_words (s : State) (g : Group) (r : ResultSrc) (fresh : Bool) :
    (s.countConfirm g r fresh).stat Reg.MAC.CONFIRMED = (s.stat Reg.MAC.CONFIRMED + 1) % 2 ^ 32
      ∧ (s.countConfirm g r fresh).stat Reg.MAC.RETRY
        = if fresh then s.stat Reg.MAC.RETRY else (s.stat Reg.MAC.RETRY + 1) % 2 ^ 32 := by
  have hcr : Reg.MAC.CONFIRMED.key ≠ Reg.MAC.RETRY.key := by decide
  have hcc : Reg.BLEND.COMBINED_USED.key ≠ Reg.MAC.CONFIRMED.key := by decide
  have hcy : Reg.BLEND.COMBINED_USED.key ≠ Reg.MAC.RETRY.key := by decide
  have hvc : Reg.BLEND.RECOVERED.key ≠ Reg.MAC.CONFIRMED.key := by decide
  have hvy : Reg.BLEND.RECOVERED.key ≠ Reg.MAC.RETRY.key := by decide
  simp only [State.countConfirm]
  split_ifs <;> simp [hcr, hcr.symm, hcc, hcy, hvc, hvy]

theorem State.countConfirm_rx (s : State) (g : Group) (r : ResultSrc) (fresh : Bool) :
    (s.countConfirm g r fresh).rx = s.rx := by
  simp only [State.countConfirm]
  split_ifs <;> simp

@[simp] theorem State.pairsOf_setPairs (s : State) (a : Nat) (l : List (Nat × Nat)) (b : Nat) :
    (s.setPairs a l).pairsOf b = if a = b then l else s.pairsOf b := by
  simp only [State.pairsOf, State.setPairs]
  split
  · next h => simp [List.isEmpty_iff.1 h]
  · simp

/-- A source's pairs are told by the receive side alone. -/
theorem State.pairsOf_of_rx {s t : State} (h : t.rx = s.rx) (a : Nat) : t.pairsOf a = s.pairsOf a := by
  simp [State.pairsOf, h]

theorem State.acceptCounter_replay (s : State) (f : List Byte) (x : Replay) :
    (s.acceptCounter f x).rx.replay = Tbl.put s.rx.replay (8 * macSrc f + macClass f) x := rfl

/-- The pair of a confirmed frame is held, with the three newest before it (R177). -/
theorem State.acceptCounter_pairsOf (s : State) (f : List Byte) (x : Replay) :
    (s.acceptCounter f x).pairsOf (macSrc f) = ((macSeq f, macCtr f) :: s.pairsOf (macSrc f)).take 4 := by
  rw [State.acceptCounter, State.pairsOf_setPairs, if_pos rfl]
  rfl

theorem State.acceptCounter_stat (s : State) (f : List Byte) (x : Replay) (g : Fld) :
    (s.acceptCounter f x).stat g = s.stat g := rfl

/-- What a confirmation moves: CONFIRMED, the window and the pairs, and RETRY for a frame that is not new. -/
theorem State.confirm_moves (s : State) (id : Nat) (g : Group) (r : ResultSrc) (x : Replay) (fresh : Bool) :
    (s.confirm id g r x fresh).stat Reg.MAC.CONFIRMED = (s.stat Reg.MAC.CONFIRMED + 1) % 2 ^ 32
      ∧ (s.confirm id g r x fresh).rx.replay
        = Tbl.put s.rx.replay (8 * macSrc (g.frame r) + macClass (g.frame r)) x
      ∧ (s.confirm id g r x fresh).pairsOf (macSrc (g.frame r))
        = ((macSeq (g.frame r), macCtr (g.frame r)) :: s.pairsOf (macSrc (g.frame r))).take 4
      ∧ (s.confirm id g r x fresh).stat Reg.MAC.RETRY
        = if fresh then s.stat Reg.MAC.RETRY else (s.stat Reg.MAC.RETRY + 1) % 2 ^ 32 := by
  obtain ⟨hreplay, hpairs, hwords⟩ := State.FilterKept.confirm s id g r x fresh
  obtain ⟨hone, hretry⟩ := s.countConfirm_words g r fresh
  have hrx := s.countConfirm_rx g r fresh
  refine ⟨?_, ?_, ?_, ?_⟩
  · rw [hwords _ (by simp [confirmWords]), State.acceptCounter_stat, hone]
  · rw [hreplay, State.acceptCounter_replay, hrx]
  · rw [State.pairsOf, hpairs, ← State.pairsOf, State.acceptCounter_pairsOf, State.pairsOf_of_rx hrx]
  · rw [hwords _ (by simp [confirmWords]), State.acceptCounter_stat, hretry]

/-- A held pair ends its result as DUPLICATE (R177). -/
theorem State.filterResult_endsDuplicate {s : State} {id : Nat} {g : Group} {r : ResultSrc} (hg : s.group? id = some g)
    (hl : g.AtLastResult) (hheld : (macSeq (g.frame r), macCtr (g.frame r)) ∈ s.pairsOf (macSrc (g.frame r))) :
    Frame [.rx, .kiln] [] groupWords (s.bump Reg.MAC.DUPLICATE) (s.filterResult id g r)
      ∧ s.FilterKept (s.filterResult id g r)
      ∧ ∀ x, (s.filterResult id g r).group? id = some x → x.ended = true ∧ x.last = .duplicate := by
  rw [State.filterResult_duplicate hheld]
  obtain ⟨hframe, hlast⟩ := State.lastResultEnds (State.group?_giveCopies hg hl.confirmed g (g.frame r)) hl
    (st := .duplicate) (fun _ => rfl)
  have hgiven : Frame [.rx, .kiln] [] groupWords (s.bump Reg.MAC.DUPLICATE)
      ((s.giveCopies g (g.frame r)).bump Reg.MAC.DUPLICATE) := (Frame.refl (s.bump Reg.MAC.DUPLICATE)).setRx (by simp) _
  exact ⟨hgiven.trans hframe, (((State.FilterKept.refl s).giveCopies _ _).resultEnds _ _).verifyOn _, hlast⟩

/-- What the replay test raises stays within what raising an event may change. -/
theorem State.replayRaised_frame (s : State) (f : List Byte) : Frame signalled [] alarmWords s (s.replayRaised f) := by
  simp only [State.replayRaised]
  split
  · exact (Frame.refl s).fire (List.Subset.refl _) (List.Subset.refl _) 180
  · exact Frame.refl s

theorem State.replayRaised_kept (s : State) (f : List Byte) : s.FilterKept (s.replayRaised f) := by
  simp only [State.replayRaised]
  split
  · exact (State.FilterKept.refl s).fire 180
  · exact State.FilterKept.refl s

/-- A counter that the window refuses ends its result as REPLAY (R176). -/
theorem State.filterResult_endsReplay {s : State} {id : Nat} {g : Group} {r : ResultSrc} (hg : s.group? id = some g)
    (hl : g.AtLastResult) (hnew : (macSeq (g.frame r), macCtr (g.frame r)) ∉ s.pairsOf (macSrc (g.frame r)))
    (ht : (s.replayOf (g.frame r)).2 = none) :
    Frame [.rx, .kiln] [] groupWords ((s.replayRaised (g.frame r)).bump Reg.MAC.REPLAY) (s.filterResult id g r)
      ∧ s.FilterKept (s.filterResult id g r)
      ∧ ∀ x, (s.filterResult id g r).group? id = some x → x.ended = true ∧ x.last = .replay := by
  rw [State.filterResult_replay hnew ht]
  obtain ⟨hframe, hlast⟩ := State.lastResultEnds
    ((State.group?_of_rx (s.replayRaised_rx (g.frame r)) id).trans hg) hl (st := .replay) (fun _ => rfl)
  exact ⟨hframe, ((s.replayRaised_kept _).resultEnds _ _).verifyOn _, hlast⟩

/-- A result that passes both filters confirms its frame: the window, the pairs and the counts (R156, R176, R177). -/
theorem State.filterResult_confirmed {s : State} {id : Nat} {g : Group} {r : ResultSrc} {x : Replay} {f : List Byte}
    (hf : f = g.frame r) (hnew : (macSeq f, macCtr f) ∉ s.pairsOf (macSrc f)) (ht : (s.replayOf f).2 = some x)
    (hc : g.confirmed = none) :
    (s.filterResult id g r).stat Reg.MAC.CONFIRMED = (s.stat Reg.MAC.CONFIRMED + 1) % 2 ^ 32
      ∧ (s.filterResult id g r).rx.replay = Tbl.put s.rx.replay (8 * macSrc f + macClass f) x
      ∧ (s.filterResult id g r).pairsOf (macSrc f) = ((macSeq f, macCtr f) :: s.pairsOf (macSrc f)).take 4
      ∧ (s.filterResult id g r).stat Reg.MAC.RETRY = if ∃ p ∈ s.pairsOf (macSrc f), p.1 = macSeq f
          then (s.stat Reg.MAC.RETRY + 1) % 2 ^ 32 else s.stat Reg.MAC.RETRY := by
  subst hf
  have hrx := s.replayRaised_rx (g.frame r)
  have hwords := (s.replayRaised_kept (g.frame r)).words
  obtain ⟨hone, hreplay, hpairs, hretry⟩ := (s.replayRaised (g.frame r)).confirm_moves id g r x
    (!(s.pairsOf (macSrc (g.frame r))).any fun p => p.1 = macSeq (g.frame r))
  rw [State.filterResult_confirms hnew ht hc]
  refine ⟨?_, ?_, ?_, ?_⟩
  · rw [hone, hwords _ (by simp [confirmWords])]
  · rw [hreplay, hrx]
  · rw [hpairs, State.pairsOf_of_rx hrx]
  · rw [hretry, hwords _ (by simp [confirmWords])]
    have hany : ((s.pairsOf (macSrc (g.frame r))).any fun p => p.1 = macSeq (g.frame r)) = true
        ↔ ∃ p ∈ s.pairsOf (macSrc (g.frame r)), p.1 = macSeq (g.frame r) := by
      simp only [List.any_eq_true, decide_eq_true_eq]
    by_cases hseen : ∃ p ∈ s.pairsOf (macSrc (g.frame r)), p.1 = macSeq (g.frame r)
    · rw [if_pos hseen, hany.2 hseen]
      rfl
    · rw [if_neg hseen, Bool.eq_false_iff.2 (mt hany.1 hseen)]
      rfl

theorem exec_duplicateHoldExpiry {s : State} (hlive : s.live = true) (src : BitVec 32) (seq : BitVec 8)
    (ctr : BitVec 32) : exec (.duplicateHoldExpiry src seq ctr) s
      = .next (s.setPairs src.toNat ((s.pairsOf src.toNat).filter (· ≠ (seq.toNat, ctr.toNat)))) := by
  change Host.Outcome.next _ = _
  simp [hlive]

end Sys2Proof.Machine

/-! SUPPORT. Delivery of a confirmed frame (R218, R246), and the arrival of a decision record (R157). -/

namespace Sys2Proof.Machine

/-- A filter on the keys leaves nothing at a key it refuses. -/
theorem Tbl.has_filter_key {α : Type} (m : Tbl α) (p : Nat × α → Bool) {i : Nat} (h : ∀ a, p (i, a) = false) :
    Tbl.has (List.filter p m) i = false := by
  simp only [Tbl.has, Option.isSome_eq_false_iff, Option.isNone_iff_eq_none]
  induction m with
  | nil => rfl
  | cons q m ih =>
    obtain ⟨k, v⟩ := q
    rw [List.filter_cons]
    split
    · next hq =>
      have hk : k ≠ i := by
        rintro rfl
        simp [h v] at hq
      rw [Tbl.find?_cons, if_neg hk, ih]
    · exact ih

/-! ### Receive buffers given back -/

theorem State.rxDrop_eq {s : State} {id : Nat} {g : Group} (hg : s.group? id = some g) :
    s.rxDrop id = (s.freeBufs 0 g.bufs).setGroup id { g with bufs := [], deliver := false } := by
  simp [State.rxDrop, hg]

theorem Frame.rxDrop {cs : List Component} {fields words : List Fld} {s t : State} (h : Frame cs fields words s t)
    (hr : .rx ∈ cs) (hc : .cask ∈ cs) (id : Nat) : Frame cs fields words s (t.rxDrop id) := by
  simp only [State.rxDrop]
  split
  · exact (h.setCask hc _).setRx hr _
  · exact h

theorem State.releaseGroup_cask (s : State) (id : Nat) : (s.releaseGroup id).cask = s.cask := by
  simp only [State.releaseGroup]
  split
  · split <;> rfl
  · rfl

/-- Giving a frame's buffers back sends nothing. -/
theorem State.rxDrop_releaseGroup_out (s : State) (id : Nat) : ((s.rxDrop id).releaseGroup id).out = s.out := by
  have hdrop : (s.rxDrop id).out = s.out := by
    simp only [State.rxDrop]
    split <;> rfl
  rw [← hdrop]
  simp only [State.releaseGroup]
  split
  · split <;> rfl
  · rfl

/-- A frame that has been delivered holds no buffer, and waits for no delivery. -/
theorem State.delivered {s : State} {id : Nat} {g : Group} (hg : s.group? id = some g) :
    (∀ x, ((s.rxDrop id).releaseGroup id).group? id = some x → x.deliver = false ∧ x.bufs = [])
      ∧ ∀ i ∈ g.bufs, Tbl.has ((s.rxDrop id).releaseGroup id).cask.bufs i = false := by
  rw [State.rxDrop_eq hg]
  refine ⟨fun x hx => ?_, fun i hi => ?_⟩
  · have hx' := State.group?_of_releaseGroup hx
    rw [State.group?_setGroup, if_pos rfl, Option.some.injEq] at hx'
    subst hx'
    exact ⟨rfl, rfl⟩
  · rw [State.releaseGroup_cask]
    exact Tbl.has_filter_key s.cask.bufs _ fun a => by simp [hi]

/-! ### FRAME_DELIVERY -/

/-- A frame due for its delivery that no policy call and no earlier frame of its source holds back. -/
theorem exec_frameDelivery {s : State} {id : Nat} {g : Group} {c : Confirmed} (hlive : s.live = true)
    (hg : s.group? id = some g) (hc : g.confirmed = some c) (hd : g.deliver = true) (hcall : s.callOut id = false)
    (hfirst : s.earlierWaits (macSrc (g.frame c.src)) c.order = false) :
    exec (.frameDelivery id) s = .next (s.deliver id g c.src) := by
  change Host.Outcome.next _ = _
  simp [hg, hc, hlive, hd, hcall, hfirst]

/-- A ring with room whose accesses the windows allow takes the buffer and the record (R246). -/
theorem State.rxPost_written {s : State} {id n : Nat} {g : Group} {r : ResultSrc} (ht : s.ringTakes n 2 = true)
    (hroom : s.ringFill n < s.ringSize n) {a : Nat}
    (ha : a = s.get (Reg.RING.BUF_BASE.ADDR n)
      + (s.ring n).part % s.ringSize n * 2 ^ (5 + s.get (Reg.RING.CTL.BUF_LOG2 n)))
    (hbuf : s.firstBad true a ((g.body r).take (2 ^ (5 + s.get (Reg.RING.CTL.BUF_LOG2 n)))).length = none) :
    s.rxPost id n g r = (s.dmaWrite a ((g.body r).take (2 ^ (5 + s.get (Reg.RING.CTL.BUF_LOG2 n))))).record n 2
      (g.rxf id r ((g.body r).take (2 ^ (5 + s.get (Reg.RING.CTL.BUF_LOG2 n)))).length) := by
  subst ha
  simp only [State.rxPost, ht, hroom, decide_true, Bool.and_self, if_true, hbuf]

/-- The buffer, then the record, then the index are sent, and only the ring and what is sent change. -/
theorem State.rxPost_sends {s : State} {id n : Nat} {g : Group} {r : ResultSrc} {a b : Nat}
    (ht : s.ringTakes n 2 = true) (hroom : s.ringFill n < s.ringSize n) (hhold : s.safe.hold = false)
    (ha : a = s.get (Reg.RING.BUF_BASE.ADDR n)
      + (s.ring n).part % s.ringSize n * 2 ^ (5 + s.get (Reg.RING.CTL.BUF_LOG2 n)))
    (hb : b = s.get (Reg.RING.BASE.ADDR n) + (s.ring n).part % s.ringSize n * 64)
    (hbuf : s.firstBad true a ((g.body r).take (2 ^ (5 + s.get (Reg.RING.CTL.BUF_LOG2 n)))).length = none)
    (hrec : s.firstBad true b 64 = none) (hdb : s.firstBad true (s.doorbell n + 4) 4 = none) :
    (s.rxPost id n g r).out = s.out ++ [.hostWrite s.active a
        ((g.body r).take (2 ^ (5 + s.get (Reg.RING.CTL.BUF_LOG2 n)))),
      .hostWrite s.active b (withPhase (g.rxf id r ((g.body r).take (2 ^ (5 + s.get (Reg.RING.CTL.BUF_LOG2 n)))).length)
        (s.ring n).part (s.ringSize n)),
      .hostWrite s.active (s.doorbell n + 4) (leBytes 4 (((s.ring n).part + 1) % 2 ^ 32))]
      ∧ Frame [.rings, .safe, .out] [] [] s (s.rxPost id n g r) := by
  rw [State.rxPost_written ht hroom ha hbuf]
  generalize hdata : (g.body r).take (2 ^ (5 + s.get (Reg.RING.CTL.BUF_LOG2 n))) = data
  obtain ⟨u, hu⟩ : ∃ u, u = s.dmaWrite a data := ⟨_, rfl⟩
  have hring : u.ring n = s.ring n := by simp [hu, State.ring]
  have hsize : u.ringSize n = s.ringSize n := by simp [hu, State.ringSize]
  have hdoor : u.doorbell n = s.doorbell n := by simp [hu, State.doorbell]
  have hact : u.active = s.active := by simp [hu, State.active]
  have hbad (c l : Nat) : u.firstBad true c l = s.firstBad true c l :=
    State.firstBad_of_regs (by simp [hu]) (by simp [hu]) (by simp [hu]) _ _ _
  have hbase : u.get (Reg.RING.BASE.ADDR n) + (u.ring n).part % u.ringSize n * recordSize 2 = b := by
    rw [hb, hring, hsize]
    simp [hu, recordSize]
  rw [← hu, State.record_written _ (by simpa [hu, State.ringTakes, State.ring] using ht)
    (by simpa [hu, State.ringFill, State.ringSize, State.ring] using hroom) (by rw [hbase, hbad]; exact hrec)
    (by rw [hdoor, hbad]; exact hdb), hbase, hring, hsize, hdoor]
  have hsent : u.out = s.out ++ [.hostWrite s.active a data] := by rw [hu, State.dmaWrite_out hhold]
  have huhold : u.safe.hold = false := by rw [hu, State.dmaWrite_hold, hhold]
  refine ⟨?_, ?_⟩
  · rw [State.dmaWrite_out (by simpa using huhold)]
    simp [State.dmaWrite_out huhold, hsent, hact]
  · have hfirst : Frame [.rings, .safe, .out] [] [] s u := hu ▸ (Frame.refl s).emit (by simp) (by simp) _
    exact ((hfirst.emit (by simp) (by simp) _).setRings (by simp) _).emit (by simp) (by simp) _

/-- Delivery to a ring that takes the frame: what is sent, that the frame waits no more, and that its buffers are free. -/
theorem State.deliver_written {s : State} {id n : Nat} {g : Group} {r : ResultSrc} {a b : Nat}
    (hg : s.group? id = some g) (hn : s.rxRing g (macType (g.frame r)) = some n)
    (ht : s.ringTakes n 2 = true) (hroom : s.ringFill n < s.ringSize n) (hhold : s.safe.hold = false)
    (ha : a = s.get (Reg.RING.BUF_BASE.ADDR n)
      + (s.ring n).part % s.ringSize n * 2 ^ (5 + s.get (Reg.RING.CTL.BUF_LOG2 n)))
    (hb : b = s.get (Reg.RING.BASE.ADDR n) + (s.ring n).part % s.ringSize n * 64)
    (hbuf : s.firstBad true a ((g.body r).take (2 ^ (5 + s.get (Reg.RING.CTL.BUF_LOG2 n)))).length = none)
    (hrec : s.firstBad true b 64 = none) (hdb : s.firstBad true (s.doorbell n + 4) 4 = none) :
    (s.deliver id g r).out = s.out ++ [.hostWrite s.active a
        ((g.body r).take (2 ^ (5 + s.get (Reg.RING.CTL.BUF_LOG2 n)))),
      .hostWrite s.active b (withPhase (g.rxf id r ((g.body r).take (2 ^ (5 + s.get (Reg.RING.CTL.BUF_LOG2 n)))).length)
        (s.ring n).part (s.ringSize n)),
      .hostWrite s.active (s.doorbell n + 4) (leBytes 4 (((s.ring n).part + 1) % 2 ^ 32))]
      ∧ (∀ x, (s.deliver id g r).group? id = some x → x.deliver = false ∧ x.bufs = [])
      ∧ (∀ i ∈ g.bufs, Tbl.has (s.deliver id g r).cask.bufs i = false)
      ∧ Frame [.rx, .cask, .rings, .safe, .out] [] [] s (s.deliver id g r) := by
  have hpost : s.deliver id g r = ((s.rxPost id n g r).rxDrop id).releaseGroup id := by simp only [State.deliver, hn]
  obtain ⟨hout, hframe⟩ := State.rxPost_sends (id := id) (g := g) (r := r) ht hroom hhold ha hb hbuf hrec hdb
  have hkept : (s.rxPost id n g r).group? id = some g :=
    (State.group?_of_rx (hframe.same (c := .rx) (by simp)) id).trans hg
  obtain ⟨hgone, hfree⟩ := State.delivered hkept
  rw [hpost]
  exact ⟨(State.rxDrop_releaseGroup_out _ id).trans hout, hgone, hfree,
    ((hframe.mono (by simp) (List.Subset.refl _) (List.Subset.refl _)).rxDrop (by simp) (by simp) id).releaseGroup
      (by simp) id⟩

/-- A frame whose network and type no ring is mapped to is counted, and waits no more (R246). -/
theorem State.deliver_unmapped {s : State} {id : Nat} {g : Group} {r : ResultSrc}
    (hn : s.rxRing g (macType (g.frame r)) = none) :
    (s.deliver id g r).stat Reg.RING.RX_UNMAPPED = (s.stat Reg.RING.RX_UNMAPPED + 1) % 2 ^ 32
      ∧ Frame [.rx, .cask] [] [Reg.RING.RX_UNMAPPED] s (s.deliver id g r) := by
  have hpost : s.deliver id g r = ((s.bump Reg.RING.RX_UNMAPPED).rxDrop id).releaseGroup id := by
    simp only [State.deliver, hn]
  have hdrop : Frame [.rx, .cask] [] [] (s.bump Reg.RING.RX_UNMAPPED) (s.deliver id g r) :=
    hpost ▸ ((Frame.refl _).rxDrop (by simp) (by simp) id).releaseGroup (by simp) id
  exact ⟨(hdrop.stat (by simp)).trans (by simp), ((Frame.refl s).bump (by simp)).trans
    (hdrop.mono (List.Subset.refl _) (List.Subset.refl _) (by simp))⟩

/-! ### Decision records (R157) -/

/-- An ack as its decision record queues it: ready, PENDING standing as given (R157). -/
def TxJob.queuedAck (j : TxJob) (pending : Bool) : TxJob :=
  { j with stage := .ready, header := beBytes 2 (putBits (beAt j.header 0 2) 6 1 (bit pending)) ++ j.header.drop 2 }

/-- The oldest decision record of a die that is up becomes a queued ack. -/
theorem exec_decisionRecordArrival {s : State} {f : Fin 6} {n : Nat} {l : List Nat} {j : TxJob} (hlive : s.live = true)
    (hup : s.dieUp f = true) (hhold : s.safe.hold = false) (hd : Tbl.getD s.rx.down f [] = n :: l)
    (hj : s.job? n = some j) :
    exec (.decisionRecordArrival f) s
      = .next (({ s with rx := { s.rx with down := Tbl.put s.rx.down f l } } : State).setJob n
          (j.queuedAck (s.pendingFor (macDst j.header) none))) := by
  have hj' : ({ s with rx := { s.rx with down := Tbl.put s.rx.down f l } } : State).job? n = some j := hj
  have hq : ({ s with rx := { s.rx with down := Tbl.put s.rx.down f l } } : State).queueAck n
      = ({ s with rx := { s.rx with down := Tbl.put s.rx.down f l } } : State).setJob n
          (j.queuedAck (s.pendingFor (macDst j.header) none)) := by
    simp only [State.queueAck, hj', State.pendingFor, TxJob.queuedAck]
  change Host.Outcome.next _ = _
  simp only [hlive, hup, hhold, Bool.not_false, Bool.and_self, State.when_true, hd, hq]

end Sys2Proof.Machine

/-! SUPPORT. The check engine's requests (R273, R274, R279): admission, refusal and completion. -/

namespace Sys2Proof.Machine

/-! ### Slots -/

@[simp] theorem State.showQueue_kiln (s : State) : s.showQueue.kiln = s.kiln := by simp [State.showQueue]

/-- The fields of KILN.QUEUE. -/
def queueFields : List Fld := [Reg.KILN.QUEUE.IN_USE, Reg.KILN.QUEUE.PEAK]

theorem Frame.showQueue {cs : List Component} {fields words : List Fld} {s t : State} (h : Frame cs fields words s t)
    (hf : queueFields ⊆ fields) : Frame cs fields words s t.showQueue :=
  (h.put (hf (by simp [queueFields])) _).put (hf (by simp [queueFields])) _

theorem Frame.useSlot {cs : List Component} {fields words : List Fld} {s t : State} (h : Frame cs fields words s t)
    (hc : .kiln ∈ cs) (k : Nat) : Frame cs fields words s (t.useSlot k) := by
  simp only [State.useSlot]
  split
  · split
    · exact h.setKiln hc _
    · exact h
  · exact h

theorem State.useSlot_reqs (s : State) (k : Nat) : (s.useSlot k).kiln.reqs = s.kiln.reqs := by
  simp only [State.useSlot]
  split
  · split <;> rfl
  · rfl

/-- A use of a class S key with a count takes one of it (R274). -/
theorem State.useSlot_counts {s : State} {k : Nat} {x : Slot} (hx : s.slot? k = some x) (hc : attrClass x.attr = 1)
    (he : attrExp x.attr = false) :
    (s.useSlot k).slot? k = some { x with attr := putBits x.attr 8 16 (attrCount x.attr - 1) } := by
  simp only [State.useSlot, hx, hc, he, Bool.not_false, and_self, if_true]
  simp [State.slot?]

/-- A use of any other key leaves its slot. -/
theorem State.useSlot_keeps {s : State} {k : Nat} {x : Slot} (hx : s.slot? k = some x)
    (hn : attrClass x.attr ≠ 1 ∨ attrExp x.attr = true) : (s.useSlot k).slot? k = some x := by
  have hno : ¬ (attrClass x.attr = 1 ∧ (!attrExp x.attr) = true) := by
    rintro ⟨hc, he⟩
    rcases hn with hn | hn
    · exact hn hc
    · simp [hn] at he
  simp only [State.useSlot, hx, if_neg hno]

/-! ### CHECK_ADMIT -/

theorem exec_checkAdmit {s : State} {id : Nat} {r : CheckReq} (hlive : s.live = true)
    (hr : Tbl.find? s.kiln.reqs id = some r) (ha : s.admissible id r = true) :
    exec (.checkAdmit id) s = .next (s.checkAdmit id r) := by
  change Host.Outcome.next _ = _
  simp [hr, hlive, ha]

/-- A slot whose use is allowed is used, and its key is taken as it stands. -/
theorem State.checkAdmit_slot {s : State} {id k : Nat} {r : CheckReq} {x : Slot} (hk : r.key = .slot k)
    (hx : s.slot? k = some x) (he : s.slotError k (if r.verify then useVerify else useGen) r.kc = none) :
    s.checkAdmit id r
      = ((s.useSlot k).setReqs (Tbl.put s.kiln.reqs id { r with admitted := some x.key })).showQueue := by
  have herr : s.reqError r = none := by simp only [State.reqError, hk, he]
  have hkey : s.keyOf r.key = some x.key := by simp only [State.keyOf, hk, hx, Option.map_some]
  rw [State.checkAdmit, herr, hkey]
  simp only [State.admitKeys, hk, State.useSlot_reqs]

/-- A slot whose use fails refuses its request. -/
theorem State.checkAdmit_refused {s : State} {id k : Nat} {r : CheckReq} {st : Status} (hk : r.key = .slot k)
    (he : s.slotError k (if r.verify then useVerify else useGen) r.kc = some st) :
    s.checkAdmit id r = s.refuseReq id r st := by
  have herr : s.reqError r = some st := by simp only [State.reqError, hk, he]
  simp only [State.checkAdmit, herr]

/-! ### The end of a request -/

theorem State.sweepSlot_reqs (s : State) (k : Nat) : (s.sweepSlot k).kiln.reqs = s.kiln.reqs := by
  simp only [State.sweepSlot]
  split
  · split <;> simp
  · rfl

/-- A request that ends is forgotten. -/
theorem State.endReq_reqs (s : State) (id : Nat) (r : CheckReq) :
    (s.endReq id r).kiln.reqs = Tbl.erase s.kiln.reqs id := by
  simp only [State.endReq, State.showQueue_kiln]
  split
  · exact State.sweepSlot_reqs _ _
  · rfl

theorem State.endReq_has (s : State) (id : Nat) (r : CheckReq) : Tbl.has (s.endReq id r).kiln.reqs id = false := by
  simp [State.endReq_reqs, Tbl.has]

/-- What the end of a request may change: Kiln, its queue's use, and what source 227 of a slot it empties changes. -/
theorem State.endReq_frame (s : State) (id : Nat) (r : CheckReq) :
    Frame (.kiln :: signalled) queueFields alarmWords s (s.endReq id r) := by
  have hforgot : Frame (.kiln :: signalled) queueFields alarmWords s (s.setReqs (Tbl.erase s.kiln.reqs id)) :=
    (Frame.refl s).setKiln (by simp) _
  simp only [State.endReq]
  refine Frame.showQueue ?_ (List.Subset.refl _)
  split
  · simp only [State.sweepSlot]
    split
    · split
      · exact (hforgot.setKiln (by simp) _).fire (List.subset_cons_self _ _) (List.Subset.refl _) 227
      · exact hforgot
    · exact hforgot
  · exact hforgot.setKiln (by simp) _

theorem State.endReq_cfg (s : State) (id : Nat) (r : CheckReq) : (s.endReq id r).rings.cfg = s.rings.cfg := by
  have hshow (u : State) : u.showQueue.rings = u.rings := by simp [State.showQueue]
  simp only [State.endReq, hshow]
  split
  · simp only [State.sweepSlot]
    split
    · split
      · rw [State.fire_cfg]; rfl
      · rfl
    · rfl
  · rfl

/-- The end of a request moves no DMA window. -/
theorem State.endReq_firstBad (s : State) (id : Nat) (r : CheckReq) (write : Bool) (a n : Nat) :
    (s.endReq id r).firstBad write a n = s.firstBad write a n := by
  have hframe := s.endReq_frame id r
  refine State.firstBad_congr (hframe.same (c := .part) (by simp [signalled])) (s.endReq_cfg id r)
    (fun w hw f hf => hframe.get fun q hq => ?_) write a n
  simp only [windowFields, List.mem_cons, List.not_mem_nil, or_false, Reg.RING.WIN.EN, Reg.RING.WIN.RD,
    Reg.RING.WIN.WR, Reg.RING.WIN.BASE_PAGE, Reg.RING.WIN.LIMIT_PAGE] at hf
  simp only [queueFields, List.mem_cons, List.not_mem_nil, or_false, Reg.KILN.QUEUE.IN_USE, Reg.KILN.QUEUE.PEAK] at hq
  rcases hf with rfl | rfl | rfl | rfl | rfl <;> rcases hq with rfl | rfl <;> dsimp only <;> omega

/-- A host verification that is refused completes with the status, and is forgotten. -/
theorem State.refuseReq_hostVerify {s : State} {id : Nat} {r : CheckReq} {c : CmdRef} (hw : r.why = .hostVerify c)
    (st : Status) : Completes (s.refuseReq id r st) c st 0 ∧ Tbl.has (s.refuseReq id r st).kiln.reqs id = false := by
  have hrefuse : s.refuseReq id r st = ((s.endReq id r).countKeyError st).complete c st 0 := by
    simp only [State.refuseReq, hw]
  have hcount (u : State) : (u.countKeyError st).kiln = u.kiln := by
    cases st <;> simp [State.countKeyError]
  refine ⟨⟨_, hrefuse⟩, ?_⟩
  simp [hrefuse, hcount, State.endReq_has]

/-! ### CHECK_DONE -/

theorem exec_checkDone {s : State} {id : Nat} {r : CheckReq} {key : List Byte} (hlive : s.live = true)
    (hr : Tbl.find? s.kiln.reqs id = some r) (ha : r.admitted = some key) :
    exec (.checkDone id) s = .next (s.checkDone id r key) := by
  change Host.Outcome.next _ = _
  simp [hr, hlive, ha]

theorem CheckReq.result_of_admitted {r : CheckReq} {key : List Byte} (h : r.admitted = some key) :
    r.result = (cmac key r.msg).take r.trunc := by
  simp [CheckReq.result, h]

/-- The word that counts a finished request. -/
def CheckReq.word (r : CheckReq) : Fld :=
  if !r.verify then Reg.KILN.GENERATED else if r.verdict then Reg.KILN.VERIFY_OK else Reg.KILN.VERIFY_FAIL

theorem State.countCheck_eq (s : State) (r : CheckReq) : s.countCheck r = s.bump r.word := by
  simp only [State.countCheck, CheckReq.word]
  split
  · rfl
  · split <;> rfl

theorem CheckReq.word_notAlarm (r : CheckReq) : ∀ f ∈ alarmWords, f.key ≠ r.word.key := by
  simp only [CheckReq.word]
  split
  · decide
  · split <;> decide

/-- The state in which a finished request has been counted and forgotten. -/
def State.finished (s : State) (id : Nat) (r : CheckReq) : State := (s.countCheck r).endReq id r

/-- What the end of a finished request may change. -/
theorem State.finished_frame (s : State) (id : Nat) (r : CheckReq) :
    Frame (.kiln :: signalled) queueFields (r.word :: alarmWords) s (s.finished id r) := by
  have hcount : Frame (.kiln :: signalled) queueFields (r.word :: alarmWords) s (s.countCheck r) := by
    rw [State.countCheck_eq]
    exact (Frame.refl s).bump (List.mem_cons_self ..)
  exact hcount.trans ((State.endReq_frame _ id r).mono (List.Subset.refl _) (List.Subset.refl _)
    (List.subset_cons_self _ _))

/-- A finished request counts once in its word. -/
theorem State.finished_stat (s : State) (id : Nat) (r : CheckReq) :
    (s.finished id r).stat r.word = (s.stat r.word + 1) % 2 ^ 32 := by
  rw [State.finished, (State.endReq_frame _ id r).stat r.word_notAlarm, State.countCheck_eq]
  simp

theorem State.finished_firstBad (s : State) (id : Nat) (r : CheckReq) (write : Bool) (a n : Nat) :
    (s.finished id r).firstBad write a n = s.firstBad write a n := by
  rw [State.finished, State.endReq_firstBad, State.countCheck_eq]
  exact State.firstBad_of_regs (by simp) (by simp) (by simp) _ _ _

/-- The completion of a finished host request forgets nothing of its end: the request is gone and counted. -/
theorem State.finished_complete {s u : State} {id : Nat} {r : CheckReq} (hk : u.kiln = (s.finished id r).kiln)
    (hs : u.stats = (s.finished id r).stats) (c : CmdRef) (st : Status) :
    Tbl.has (u.complete c st 0).kiln.reqs id = false
      ∧ (u.complete c st 0).stat r.word = (s.stat r.word + 1) % 2 ^ 32 := by
  refine ⟨?_, ?_⟩
  · simp [hk, State.finished, State.endReq_has]
  · rw [State.complete_stat _ _ _ _ _ r.word_notAlarm, State.stat_of_stats hs, State.finished_stat]

/-- A check value that host software asked for is written where the windows allow it (R279). -/
theorem State.checkDone_hostGen {s : State} {id out : Nat} {r : CheckReq} {key : List Byte} {c : CmdRef}
    (hw : r.why = .hostGen c out) (hbad : s.firstBad true out r.result.length = none) :
    s.checkDone id r key = ((s.finished id r).dmaWrite out r.result).complete c .done 0 := by
  have hfin : (s.finished id r).firstBad true out r.result.length = none := (s.finished_firstBad id r _ _ _).trans hbad
  rw [State.finished] at hfin
  simp only [State.checkDone, hw, hfin, State.finished]

/-- The verdict of a host verification is its status (R279). -/
theorem State.checkDone_hostVerify {s : State} {id : Nat} {r : CheckReq} {key : List Byte} {c : CmdRef}
    (hw : r.why = .hostVerify c) :
    s.checkDone id r key = (s.finished id r).complete c (if r.verdict then .done else .authFail) 0 := by
  simp only [State.checkDone, hw, State.finished]

/-- A received frame that is no ack and verifies goes on to the replay filter (R156, R178). -/
theorem State.checkDone_receive {s : State} {id q : Nat} {g : Group} {r : CheckReq} {key : List Byte} {src : ResultSrc}
    (hw : r.why = .receive id) (hg : s.group? id = some g) (hc : g.checking = some (src, q))
    (htype : macType (g.frame src) ≠ 1) (hv : r.verdict = true) :
    s.checkDone q r key = (s.finished q r).setGroup id
      { g with checking := none, passed := some src, passedAt := s.counterNs } := by
  have hframe := s.finished_frame q r
  have hgroup : (s.finished q r).group? id = some g :=
    (State.group?_of_rx (hframe.same (c := .rx) (by simp [signalled])) id).trans hg
  have htime : (s.finished q r).counterNs = s.counterNs := by
    have hsame : (s.finished q r).time = s.time := hframe.same (c := .time) (by simp [signalled])
    simp only [State.counterNs, hsame]
  have hdone : s.checkDone q r key = (s.finished q r).receiveDone id r.verdict := by
    simp only [State.checkDone, hw, State.finished]
  rw [hdone, State.receiveDone, hgroup]
  simp [hc, hv, htype, htime]

end Sys2Proof.Machine

/-! CERTIFICATE. The filters, deliveries and check requests of the receive side (R156, R157, R176, R177, R246, R273, R274,
R279). -/

namespace Sys2Proof.Machine

/-- Settles O27, clause by clause: each command runs its operation, whose laws stand above. -/
theorem receiveFilters : Obligations.ReceiveFilters := by
  unfold Obligations.ReceiveFilters
  refine ⟨?_, ?_, ?_, ?_, replayTest_new, fun _ _ h hm => replayTest_above h hm, fun _ _ hm h => replayTest_old hm h,
    fun _ c h => replayTest_exhausted c h, fun x _ c h => replayTest_index x c h, ?_, ?_, ?_, ?_, ?_, ?_, ?_, ?_, ?_⟩
  · intro s id g r f hlive hg hp hf hheld hc ht hcl hpr he hprof helk hw
    subst hf
    obtain ⟨hframe, hkept, hlast⟩ := State.filterResult_endsDuplicate hg ⟨hc, ht, hcl, hpr, he, hprof, helk⟩ hheld
    exact ⟨_, exec_replayFilter hlive hg hp hw, (hframe.stat (by decide)).trans (by simp), hkept.replay, hkept.pairs,
      hlast, ((Frame.refl s).bump (by simp)).trans (hframe.mono (by simp) (by simp) (by simp [groupWords]))⟩
  · intro s id g r f hlive hg hp hf hnew htest hc ht hcl hpr he hprof helk hw
    subst hf
    obtain ⟨hframe, hkept, hlast⟩ := State.filterResult_endsReplay hg ⟨hc, ht, hcl, hpr, he, hprof, helk⟩ hnew htest
    have hraised := s.replayRaised_frame (g.frame r)
    refine ⟨_, exec_replayFilter hlive hg hp hw, ?_, hkept.replay, hkept.pairs, hlast, ?_⟩
    · rw [hframe.stat (by decide), State.stat_bump, if_pos rfl, hraised.stat (by decide)]
    · exact ((hraised.mono (by simp) (by simp) (by simp [alarmWords])).bump (by simp)).trans
        (hframe.mono (by simp) (by simp) (by simp [groupWords]))
  · intro s id g r f x hlive hg hp hf hnew htest hc hw
    exact ⟨_, exec_replayFilter hlive hg hp hw, State.filterResult_confirmed hf hnew htest hc⟩
  · intro s id k g h r q hg hp hk hne hq hsrc hfirst
    exact exec_replayFilter_waits hg hp (State.filterWaits_of_earlier hk hne hq hsrc hfirst)
  · intro s src seq ctr hlive
    exact ⟨_, exec_duplicateHoldExpiry hlive src seq ctr, by rw [State.pairsOf_setPairs, if_pos rfl],
      fun a ha => by rw [State.pairsOf_setPairs, if_neg ha.symm], (Frame.refl s).setRx (by simp) _⟩
  · intro s f n l j hlive hup hhold hd hj
    refine ⟨_, exec_decisionRecordArrival hlive hup hhold hd hj, ?_, ?_, ?_⟩
    · simp [State.setJob]
    · simp [State.setJob, State.job?, TxJob.queuedAck]
    · exact ((Frame.refl s).setRx (by simp) _).setTx (by simp) _
  · intro s id g c n a b hlive hg hc hd hcall hfirst hn ht hroom hhold ha hb hbuf hrec hdb
    rw [← List.length_take] at hbuf ⊢
    obtain ⟨hout, hgone, hfree, hframe⟩ := State.deliver_written hg hn ht hroom hhold ha hb hbuf hrec hdb
    exact ⟨_, _, exec_frameDelivery hlive hg hc hd hcall hfirst, hout, rfl, hgone, hfree, hframe⟩
  · intro s id g c hlive hg hc hd hcall hfirst hn
    exact ⟨_, exec_frameDelivery hlive hg hc hd hcall hfirst, State.deliver_unmapped hn⟩
  · intro s id k r x hlive hr ha hk hx he
    rw [exec_checkAdmit hlive hr ha, State.checkAdmit_slot hk hx he]
    have hslot (u : Tbl CheckReq) : ((s.useSlot k).setReqs u).showQueue.slot? k = (s.useSlot k).slot? k := by
      rw [State.slot?, State.showQueue_kiln]
      rfl
    refine ⟨_, rfl, ?_, fun hc hn => ?_, fun hn => ?_, ?_⟩
    · rw [State.showQueue_kiln]
      rfl
    · rw [hslot, State.useSlot_counts hx hc hn]
    · rw [hslot, State.useSlot_keeps hx hn]
    · exact (((Frame.refl s).useSlot (by simp) k).setKiln (by simp) _).showQueue (List.Subset.refl _)
  · intro s id k r c st hlive hr ha hk hw he
    rw [exec_checkAdmit hlive hr ha, State.checkAdmit_refused hk he]
    exact ⟨_, rfl, State.refuseReq_hostVerify hw st⟩
  · intro s id out r key c hlive hr ha hv hw hbad
    have hword : r.word = Reg.KILN.GENERATED := by simp [CheckReq.word, hv]
    rw [← CheckReq.result_of_admitted ha] at hbad ⊢
    obtain ⟨hgone, hstat⟩ := State.finished_complete (s := s) (id := id) (r := r)
      (u := (s.finished id r).dmaWrite out r.result) (by simp) (by simp) c .done
    exact ⟨_, exec_checkDone hlive hr ha, by rwa [State.checkDone_hostGen hw hbad],
      State.checkDone_hostGen hw hbad, by rwa [State.checkDone_hostGen hw hbad, ← hword]⟩
  · intro s id r key c hlive hr ha hv hw
    obtain ⟨hgone, hstat⟩ := State.finished_complete (s := s) (id := id) (r := r) rfl rfl c
      (if r.verdict then .done else .authFail)
    rw [exec_checkDone hlive hr ha, State.checkDone_hostVerify hw, ← CheckReq.result_of_admitted ha]
    refine ⟨_, _, rfl, hgone, ⟨_, rfl⟩, fun htag => ?_, fun htag => ?_⟩
    · have hverdict : r.verdict = true := by simp [CheckReq.verdict, htag]
      have hword : r.word = Reg.KILN.VERIFY_OK := by simp [CheckReq.word, hv, hverdict]
      exact ⟨if_pos hverdict, hword ▸ hstat⟩
    · have hverdict : r.verdict = false := by simp [CheckReq.verdict, hv, htag]
      have hword : r.word = Reg.KILN.VERIFY_FAIL := by simp [CheckReq.word, hv, hverdict]
      exact ⟨if_neg (by simp [hverdict]), hword ▸ hstat⟩
  · intro s id q g r key src hlive hr ha hw hg hcheck htype htag
    have hverdict : r.verdict = true := by simp [CheckReq.verdict, CheckReq.result_of_admitted ha, htag]
    rw [exec_checkDone hlive hr ha, State.checkDone_receive hw hg hcheck htype hverdict]
    exact ⟨_, rfl, by rw [State.group?_setGroup, if_pos rfl]⟩

end Sys2Proof.Machine

/-! SUPPORT. Frames along the changes that the clock, time and timer commands make: a new value of one component, a free
value, a pin, a recorded write, a fold. -/

namespace Sys2Proof.Machine

section
variable {cs : List Component} {fields words : List Fld} {s t u : State}

theorem Frame.setTime (h : Frame cs fields words s t) (hc : .time ∈ cs) (x : TimeUnit) :
    Frame cs fields words s { t with time := x } :=
  h.step (fun c hn => by cases c with | time => exact absurd hc hn | _ => rfl) rfl rfl

theorem Frame.setClk (h : Frame cs fields words s t) (hc : .clk ∈ cs) (x : Clocks) :
    Frame cs fields words s { t with clk := x } :=
  h.step (fun c hn => by cases c with | clk => exact absurd hc hn | _ => rfl) rfl rfl

theorem Frame.setTimer (h : Frame cs fields words s t) (hc : .timers ∈ cs) (k : Nat) (x : TimerRun) :
    Frame cs fields words s (t.setTimer k x) :=
  h.step (fun c hn => by cases c with | timers => exact absurd hc hn | _ => rfl) rfl rfl

theorem Frame.setBoot (h : Frame cs fields words s t) (hc : .boot ∈ cs) (x : BootUnit) :
    Frame cs fields words s { t with boot := x } :=
  h.step (fun c hn => by cases c with | boot => exact absurd hc hn | _ => rfl) rfl rfl

theorem Frame.setBcast (h : Frame cs fields words s t) (hc : .bcast ∈ cs) (x : Tbl BcastRun) :
    Frame cs fields words s { t with bcast := x } :=
  h.step (fun c hn => by cases c with | bcast => exact absurd hc hn | _ => rfl) rfl rfl

theorem Frame.spend (h : Frame cs fields words s t) (hc : .free ∈ cs) (n : Nat) : Frame cs fields words s (t.spend n) :=
  h.step (fun c hn => by cases c with | free => exact absurd hc hn | _ => rfl) rfl rfl

/-- An output that is never held writes what has been sent alone. -/
theorem Frame.emitNow (h : Frame cs fields words s t) (hc : .out ∈ cs) (o : Output) :
    Frame cs fields words s (t.emitNow o) :=
  h.step (fun c hn => by cases c with | out => exact absurd hc hn | _ => rfl) rfl rfl

/-- A write to a die's window is recorded in the redundancy unit (R309). -/
theorem Frame.recorded (h : Frame cs fields words s t) (hc : .safe ∈ cs) (l : List (Nat × Nat × Nat)) :
    Frame cs fields words s (t.recorded l) :=
  h.step (fun c hn => by cases c with | safe => exact absurd hc hn | _ => rfl) rfl rfl

/-- A choice between two states stays within a frame that holds both. -/
theorem Frame.ite {c : Prop} [Decidable c] (ht : c → Frame cs fields words s t) (hu : ¬ c → Frame cs fields words s u) :
    Frame cs fields words s (if c then t else u) := by
  split
  · exact ht ‹_›
  · exact hu ‹_›

/-- A fold stays within a frame that each of its steps stays within. -/
theorem Frame.each {α : Type} {l : List α} {op : State → α → State}
    (hop : ∀ a ∈ l, ∀ x : State, Frame cs fields words x (op x a)) (h : Frame cs fields words s t) :
    Frame cs fields words s (t.each l op) := by
  induction l generalizing t with
  | nil => exact h
  | cons a l ih =>
    exact ih (fun b hb => hop b (List.mem_cons_of_mem _ hb)) (h.trans (hop a (List.mem_cons_self ..) t))

/-- A frame whose fields lie in BAR0 ranges is one of those ranges. -/
theorem Frame.toFrameIn {ranges : List (Nat × Nat)} (h : Frame cs fields words s t)
    (hf : ∀ f ∈ fields, ∃ r ∈ ranges, 8 * r.1 ≤ f.key ∧ f.key < 8 * r.2) : FrameIn cs ranges words s t := by
  obtain ⟨hc, hg, hw⟩ := h
  refine ⟨hc, fun g hout => hg g fun f hm he => ?_, hw⟩
  obtain ⟨r, hr, hin⟩ := hf f hm
  exact hout r hr (he ▸ hin)

end

/-- The completion of a register read leaves at once (R12, R301). -/
theorem State.readDone_out (s : State) (func off data : Nat) :
    (s.readDone func off data).out = s.out ++ [.readDone func .bar0 off data] := by
  rw [State.readDone, State.emit, if_neg (by simp [Output.bulk])]
  split <;> rfl

end Sys2Proof.Machine

/-! SUPPORT. Clock outputs (R42 to R46): the writes of CLK.HCLK_SS, CLKOUT_CTL and CLKOUT_TIMING in their legal and illegal
cases, and what starting and stopping an output leaves. -/

namespace Sys2Proof.Machine

theorem bitsAt_mod (n lo w : Nat) : bitsAt n lo w % 2 ^ w = bitsAt n lo w := Nat.mod_mod _ _

theorem exec_hclkSsWrite {s : State} (h : s.hostUp = true) (v : BitVec 32) :
    exec (.hclkSsWrite v) s = .next (s.hclkSs v.toNat) :=
  congrArg Host.Outcome.next (State.hostWriteReg_plain h (dieOfOffset_low (by decide)) _ _)

theorem exec_clkoutCtlWrite {s : State} {f : Fin 6} (h : s.hostUp = true) (hd : s.dieUp f = true) (n : Fin 8)
    (v : BitVec 32) : exec (.clkoutCtlWrite f n v) s
      = .next ((s.recorded [(f.val, dieOffset f (0x200 + n * 0x10), v.toNat)]).clkoutCtl f n v.toNat) :=
  congrArg Host.Outcome.next (State.hostWriteReg_die h (dieOfOffset_die f.isLt (by omega)) hd _ _)

theorem exec_phaseWrite {s : State} {f : Fin 6} (h : s.hostUp = true) (hd : s.dieUp f = true) (n : Fin 8)
    (v : BitVec 32) : exec (.phaseWrite f n v) s
      = .next ((s.recorded [(f.val, dieOffset f (0x204 + n * 0x10), v.toNat)]).clkoutTiming f n v.toNat) :=
  congrArg Host.Outcome.next (State.hostWriteReg_die h (dieOfOffset_die f.isLt (by omega)) hd _ _)

theorem exec_cpllLossOfLock {s : State} {f : Fin 6} (h : s.logicUp = true) (hd : s.dieUp f = true) :
    exec (.cpllLossOfLock f) s = .next (s.cpllLoss f) := by
  have hc : (s.logicUp && s.dieUp f) = true := by simp [h, hd]
  exact congrArg Host.Outcome.next (by rw [hc, State.when_true])

/-! ### HCLK_SS (R42) -/

theorem State.hclkSs_illegal {s : State} {v : Nat} (h : bitsAt v 0 2 = 3 ∨ 10 < bitsAt v 2 4) :
    s.hclkSs v = s.illegal 0x20010 := if_pos h

theorem State.hclkSs_legal {s : State} {v : Nat} (hm : bitsAt v 0 2 ≠ 3) (hd : bitsAt v 2 4 ≤ 10) :
    s.hclkSs v = (s.put Reg.CLK.HCLK_SS.MODE (bitsAt v 0 2)).put Reg.CLK.HCLK_SS.DEPTH (bitsAt v 2 4) :=
  if_neg (by omega)

/-! ### Outputs that run (R43, R44) -/

theorem mem_withOutput {l : List Nat} {k j : Nat} {b : Bool} :
    j ∈ withOutput l k b ↔ if j = k then b = true else j ∈ l := by
  cases b
  · by_cases h : j = k <;> simp [withOutput, h]
  · by_cases hk : k ∈ l <;> by_cases h : j = k <;> simp [withOutput, hk, h]

theorem State.runOutputs_frame (s : State) (f n : Nat) (ck sr : Bool) :
    Frame [.clk, .out] [] [] s (s.runOutputs f n ck sr) :=
  ((Frame.refl s).setClk (by simp) _).emitNow (by simp) _

theorem State.mem_runOutputs_ckRun {s : State} {f n j : Nat} {ck sr : Bool} :
    j ∈ (s.runOutputs f n ck sr).clk.ckRun ↔ if j = 8 * f + n then ck = true else j ∈ s.clk.ckRun := mem_withOutput

theorem State.mem_runOutputs_srRun {s : State} {f n j : Nat} {ck sr : Bool} :
    j ∈ (s.runOutputs f n ck sr).clk.srRun ↔ if j = 8 * f + n then sr = true else j ∈ s.clk.srRun := mem_withOutput

theorem State.runOutputs_out (s : State) (f n : Nat) (ck sr : Bool) :
    (s.runOutputs f n ck sr).out = s.out ++ [.clkout f n ck sr (s.get (Reg.FDIE.CLKOUT_CTL.DIV f n))
      (s.get (Reg.FDIE.CLKOUT_TIMING.SR_LOG2 f n))] := rfl

@[simp] theorem State.runOutputs_get (s : State) (f n : Nat) (ck sr : Bool) (g : Fld) :
    (s.runOutputs f n ck sr).get g = s.get g := rfl

/-- A SYSREF that starts runs for the cycles its mode gives it (R43). -/
theorem State.runOutputs_srLeft {s : State} {f n : Nat} (h : 8 * f + n ∉ s.clk.srRun) (ck : Bool) :
    Tbl.find? (s.runOutputs f n ck true).clk.srLeft (8 * f + n) = s.sysrefRun f n := by
  simp only [State.runOutputs, State.emitNow, if_true, if_neg h]
  split <;> simp [*]

/-- An output that has been stopped runs no more, and no other starts. -/
theorem State.each_stop_ckRun {s : State} {f j : Nat} {l : List Nat} :
    j ∈ (s.each l fun s n => s.runOutputs f n false false).clk.ckRun ↔ (∀ n ∈ l, j ≠ 8 * f + n) ∧ j ∈ s.clk.ckRun := by
  induction l generalizing s with
  | nil => simp
  | cons n l ih =>
    rw [State.each_cons, ih, State.mem_runOutputs_ckRun]
    by_cases h : j = 8 * f + n <;> simp [h]

theorem State.each_stop_srRun {s : State} {f j : Nat} {l : List Nat} :
    j ∈ (s.each l fun s n => s.runOutputs f n false false).clk.srRun ↔ (∀ n ∈ l, j ≠ 8 * f + n) ∧ j ∈ s.clk.srRun := by
  induction l generalizing s with
  | nil => simp
  | cons n l ih =>
    rw [State.each_cons, ih, State.mem_runOutputs_srRun]
    by_cases h : j = 8 * f + n <;> simp [h]

/-- A loss of lock stops every output of the die and raises source 2 (R44). -/
theorem State.cpllLoss_stops (s : State) (f : Nat) {n : Nat} (hn : n < 8) :
    8 * f + n ∉ (s.cpllLoss f).clk.ckRun ∧ 8 * f + n ∉ (s.cpllLoss f).clk.srRun := by
  have hclk : (s.cpllLoss f).clk = (s.each (List.range 8) fun s n => s.runOutputs f n false false).clk := by
    simp [State.cpllLoss]
  rw [hclk, State.each_stop_ckRun, State.each_stop_srRun]
  exact ⟨fun h => h.1 n (List.mem_range.2 hn) rfl, fun h => h.1 n (List.mem_range.2 hn) rfl⟩

theorem State.cpllLoss_frame (s : State) (f : Nat) : Frame (.clk :: signalled) [] alarmWords s (s.cpllLoss f) :=
  ((Frame.refl s).each fun n _ x => (x.runOutputs_frame f n false false).mono (by simp [signalled]) (by simp)
    (by simp)).fire (by simp) (List.Subset.refl _) 2

/-! ### CLKOUT_CTL (R43, R44, R46) -/

theorem State.clkoutCtlIllegal_iff (s : State) (f n v : Nat) : s.clkoutCtlIllegal f n v = true ↔
    bitsAt v 2 2 = 3 ∨ bitsAt v 4 10 < 2 ∨ bitsAt v 16 16 = 0
      ∨ (s.on (Reg.FDIE.CLKOUT_CTL.CK_EN f n) = true ∧ bitsAt v 4 10 ≠ s.get (Reg.FDIE.CLKOUT_CTL.DIV f n))
      ∨ (s.on (Reg.FDIE.CLKOUT_CTL.SR_EN f n) = true ∧ bitsAt v 2 2 ≠ s.get (Reg.FDIE.CLKOUT_CTL.SR_MODE f n)) := by
  simp [State.clkoutCtlIllegal, or_assoc]

/-- The five fields of CLKOUT_CTL as a value gives them. -/
def State.putClkoutCtl (s : State) (f n v : Nat) : State :=
  ((((s.put (Reg.FDIE.CLKOUT_CTL.CK_EN f n) (bitsAt v 0 1)).put (Reg.FDIE.CLKOUT_CTL.SR_EN f n) (bitsAt v 1 1)).put
    (Reg.FDIE.CLKOUT_CTL.SR_MODE f n) (bitsAt v 2 2)).put (Reg.FDIE.CLKOUT_CTL.DIV f n) (bitsAt v 4 10)).put
    (Reg.FDIE.CLKOUT_CTL.SR_COUNT f n) (bitsAt v 16 16)

theorem State.putClkoutCtl_get (s : State) (f n v : Nat) :
    (s.putClkoutCtl f n v).get (Reg.FDIE.CLKOUT_CTL.CK_EN f n) = bitsAt v 0 1
      ∧ (s.putClkoutCtl f n v).get (Reg.FDIE.CLKOUT_CTL.SR_EN f n) = bitsAt v 1 1
      ∧ (s.putClkoutCtl f n v).get (Reg.FDIE.CLKOUT_CTL.SR_MODE f n) = bitsAt v 2 2
      ∧ (s.putClkoutCtl f n v).get (Reg.FDIE.CLKOUT_CTL.DIV f n) = bitsAt v 4 10
      ∧ (s.putClkoutCtl f n v).get (Reg.FDIE.CLKOUT_CTL.SR_COUNT f n) = bitsAt v 16 16 := by
  refine ⟨?_, ?_, ?_, ?_, ?_⟩ <;>
    simp [State.putClkoutCtl, Reg.FDIE.CLKOUT_CTL.CK_EN, Reg.FDIE.CLKOUT_CTL.SR_EN, Reg.FDIE.CLKOUT_CTL.SR_MODE,
      Reg.FDIE.CLKOUT_CTL.DIV, Reg.FDIE.CLKOUT_CTL.SR_COUNT, bitsAt]

/-- The register fields of CLKOUT_CTL. -/
def clkoutCtlFields (f n : Nat) : List Fld := [Reg.FDIE.CLKOUT_CTL.CK_EN f n, Reg.FDIE.CLKOUT_CTL.SR_EN f n,
  Reg.FDIE.CLKOUT_CTL.SR_MODE f n, Reg.FDIE.CLKOUT_CTL.DIV f n, Reg.FDIE.CLKOUT_CTL.SR_COUNT f n]

theorem State.putClkoutCtl_frame (s : State) (f n v : Nat) :
    Frame [] (clkoutCtlFields f n) [] s (s.putClkoutCtl f n v) := by
  refine (((((Frame.refl s).put ?_ _).put ?_ _).put ?_ _).put ?_ _).put ?_ _ <;> simp [clkoutCtlFields]

theorem State.putClkoutCtl_clk (s : State) (f n v : Nat) : (s.putClkoutCtl f n v).clk = s.clk :=
  (s.putClkoutCtl_frame f n v).same (c := .clk) (by simp)

theorem State.putClkoutCtl_srLog2 (s : State) (f n v : Nat) :
    (s.putClkoutCtl f n v).get (Reg.FDIE.CLKOUT_TIMING.SR_LOG2 f n) = s.get (Reg.FDIE.CLKOUT_TIMING.SR_LOG2 f n) :=
  (s.putClkoutCtl_frame f n v).get (by
    simp only [clkoutCtlFields, Reg.FDIE.CLKOUT_CTL.CK_EN, Reg.FDIE.CLKOUT_CTL.SR_EN, Reg.FDIE.CLKOUT_CTL.SR_MODE,
      Reg.FDIE.CLKOUT_CTL.DIV, Reg.FDIE.CLKOUT_CTL.SR_COUNT, Reg.FDIE.CLKOUT_TIMING.SR_LOG2, List.forall_mem_cons]
    refine ⟨?_, ?_, ?_, ?_, ?_, by simp⟩ <;> omega)

/-- Whether an output runs after its enable is written: a 1 starts it where the enable was off and leaves it as it ran where it
was on, a 0 stops it (R44). -/
def outputRuns (en : Nat) (was runs : Bool) : Bool := en = 1 && (!was || runs)

theorem outputRuns_off {en : Nat} {was : Bool} (h : was = false) (runs : Bool) :
    outputRuns en was runs = true ↔ en = 1 := by simp [outputRuns, h]

theorem outputRuns_zero {en : Nat} (h : en = 0) (was runs : Bool) : ¬ outputRuns en was runs = true := by
  simp [outputRuns, h]

theorem State.clkoutCtl_illegal {s : State} {f n v : Nat} (h : s.clkoutCtlIllegal f n v = true) :
    s.clkoutCtl f n v = s.illegal (dieOffset f (0x200 + n * 0x10)) := if_pos h

/-- A legal CLKOUT_CTL write stores its fields and starts or stops the outputs. -/
theorem State.clkoutCtl_legal {s : State} {f n v : Nat} (h : s.clkoutCtlIllegal f n v = false) :
    s.clkoutCtl f n v = (s.putClkoutCtl f n v).runOutputs f n
      (outputRuns (bitsAt v 0 1) (s.on (Reg.FDIE.CLKOUT_CTL.CK_EN f n)) (8 * f + n ∈ s.clk.ckRun))
      (outputRuns (bitsAt v 1 1) (s.on (Reg.FDIE.CLKOUT_CTL.SR_EN f n)) (8 * f + n ∈ s.clk.srRun)) :=
  if_neg (by simp [h])

/-- The cycles a SYSREF runs for by the value written: without end, for SR_COUNT pulses, or for one (R43). -/
theorem State.putClkoutCtl_sysrefRun {s : State} {f n v : Nat} (hm : bitsAt v 2 2 ≠ 3) :
    (s.putClkoutCtl f n v).sysrefRun f n = if bitsAt v 2 2 = 0 then none
      else some ((if bitsAt v 2 2 = 1 then bitsAt v 16 16 else 1)
        * (bitsAt v 4 10 * 2 ^ s.get (Reg.FDIE.CLKOUT_TIMING.SR_LOG2 f n))) := by
  obtain ⟨-, -, hmode, hdiv, hcount⟩ := s.putClkoutCtl_get f n v
  have hlt : bitsAt v 2 2 < 4 := Nat.mod_lt _ (by decide)
  rw [State.sysrefRun, State.sysrefPeriod, hmode, hdiv, hcount, s.putClkoutCtl_srLog2]
  obtain h | h | h : bitsAt v 2 2 = 0 ∨ bitsAt v 2 2 = 1 ∨ bitsAt v 2 2 = 2 := by omega
  · rw [h]; rfl
  · rw [h]; rfl
  · rw [h]; simp

section
variable {s : State} {f n v : Nat} (h : s.clkoutCtlIllegal f n v = false)
include h

theorem State.clkoutCtl_get (g : Fld) : (s.clkoutCtl f n v).get g = (s.putClkoutCtl f n v).get g := by
  rw [State.clkoutCtl_legal h, State.runOutputs_get]

theorem State.clkoutCtl_ckRun : 8 * f + n ∈ (s.clkoutCtl f n v).clk.ckRun ↔
    outputRuns (bitsAt v 0 1) (s.on (Reg.FDIE.CLKOUT_CTL.CK_EN f n)) (8 * f + n ∈ s.clk.ckRun) = true := by
  rw [State.clkoutCtl_legal h, State.mem_runOutputs_ckRun, if_pos rfl]

theorem State.clkoutCtl_srRun : 8 * f + n ∈ (s.clkoutCtl f n v).clk.srRun ↔
    outputRuns (bitsAt v 1 1) (s.on (Reg.FDIE.CLKOUT_CTL.SR_EN f n)) (8 * f + n ∈ s.clk.srRun) = true := by
  rw [State.clkoutCtl_legal h, State.mem_runOutputs_srRun, if_pos rfl]

/-- The output pins follow what runs. -/
theorem State.clkoutCtl_out : (s.clkoutCtl f n v).out
    = s.out ++ [.clkout f n (decide (8 * f + n ∈ (s.clkoutCtl f n v).clk.ckRun))
        (decide (8 * f + n ∈ (s.clkoutCtl f n v).clk.srRun)) (bitsAt v 4 10)
        (s.get (Reg.FDIE.CLKOUT_TIMING.SR_LOG2 f n))] := by
  obtain ⟨-, -, -, hdiv, -⟩ := s.putClkoutCtl_get f n v
  have hout : (s.putClkoutCtl f n v).out = s.out := (s.putClkoutCtl_frame f n v).same (c := .out) (by simp)
  simp only [State.clkoutCtl_ckRun h, State.clkoutCtl_srRun h, Bool.decide_eq_true]
  rw [State.clkoutCtl_legal h, State.runOutputs_out, hdiv, s.putClkoutCtl_srLog2, hout]

/-- A SYSREF that a write starts runs for its pulses. -/
theorem State.clkoutCtl_srLeft (hoff : s.on (Reg.FDIE.CLKOUT_CTL.SR_EN f n) = false) (hrun : 8 * f + n ∉ s.clk.srRun)
    (hen : bitsAt v 1 1 = 1) (hm : bitsAt v 2 2 ≠ 3) :
    Tbl.find? (s.clkoutCtl f n v).clk.srLeft (8 * f + n) = if bitsAt v 2 2 = 0 then none
      else some ((if bitsAt v 2 2 = 1 then bitsAt v 16 16 else 1)
        * (bitsAt v 4 10 * 2 ^ s.get (Reg.FDIE.CLKOUT_TIMING.SR_LOG2 f n))) := by
  rw [State.clkoutCtl_legal h, (outputRuns_off hoff _).2 hen,
    State.runOutputs_srLeft (by rwa [s.putClkoutCtl_clk]), State.putClkoutCtl_sysrefRun hm]

theorem State.clkoutCtl_frame : Frame [.clk, .out] (clkoutCtlFields f n) [] s (s.clkoutCtl f n v) := by
  rw [State.clkoutCtl_legal h]
  exact ((s.putClkoutCtl_frame f n v).mono (by simp) (List.Subset.refl _) (by simp)).trans
    ((State.runOutputs_frame _ f n _ _).mono (List.Subset.refl _) (by simp) (by simp))

end

/-! ### CLKOUT_TIMING (R45, R46) -/

/-- An SR_LOG2 is illegal outside 5 to 20, and where it changes the field while SR_EN is 1. -/
def State.timingIllegal (s : State) (f n lg : Nat) : Prop :=
  lg < 5 ∨ 20 < lg
    ∨ (s.on (Reg.FDIE.CLKOUT_CTL.SR_EN f n) = true ∧ lg ≠ s.get (Reg.FDIE.CLKOUT_TIMING.SR_LOG2 f n))

theorem State.clkoutTiming_illegal {s : State} {f n v : Nat} (h : s.timingIllegal f n (bitsAt v 17 5)) :
    s.clkoutTiming f n v = s.illegal (dieOffset f (0x204 + n * 0x10)) := if_pos h

/-- A legal write stores PHASE and SR_LOG2, and MOVING reads 1 unless the output stands at PHASE. -/
theorem State.clkoutTiming_legal {s : State} {f n v : Nat} (h : ¬ s.timingIllegal f n (bitsAt v 17 5)) :
    (s.clkoutTiming f n v).get (Reg.FDIE.CLKOUT_TIMING.PHASE f n) = bitsAt v 0 16
      ∧ (s.clkoutTiming f n v).get (Reg.FDIE.CLKOUT_TIMING.SR_LOG2 f n) = bitsAt v 17 5
      ∧ (s.clkoutTiming f n v).get (Reg.FDIE.CLKOUT_TIMING.MOVING f n)
          = (if Tbl.getD s.clk.phaseNow (8 * f + n) 0 = bitsAt v 0 16 then 0 else 1)
      ∧ Frame [] [Reg.FDIE.CLKOUT_TIMING.PHASE f n, Reg.FDIE.CLKOUT_TIMING.SR_LOG2 f n,
          Reg.FDIE.CLKOUT_TIMING.MOVING f n] [] s (s.clkoutTiming f n v) := by
  have hw : s.clkoutTiming f n v = ((s.put (Reg.FDIE.CLKOUT_TIMING.SR_LOG2 f n) (bitsAt v 17 5)).put
      (Reg.FDIE.CLKOUT_TIMING.PHASE f n) (bitsAt v 0 16)).put (Reg.FDIE.CLKOUT_TIMING.MOVING f n)
        (bit (Tbl.getD s.clk.phaseNow (8 * f + n) 0 ≠ bitsAt v 0 16)) := if_neg h
  rw [hw]
  refine ⟨?_, ?_, ?_, (((Frame.refl s).put ?_ _).put ?_ _).put ?_ _⟩
  · simp [Reg.FDIE.CLKOUT_TIMING.PHASE, Reg.FDIE.CLKOUT_TIMING.MOVING, bitsAt]
  · simp [Reg.FDIE.CLKOUT_TIMING.PHASE, Reg.FDIE.CLKOUT_TIMING.MOVING, Reg.FDIE.CLKOUT_TIMING.SR_LOG2, bitsAt]
  · rw [State.get_put_same]
    by_cases h : Tbl.getD s.clk.phaseNow (8 * f + n) 0 = bitsAt v 0 16 <;>
      simp [h, bit, Reg.FDIE.CLKOUT_TIMING.MOVING]
  · simp
  · simp
  · simp

end Sys2Proof.Machine

/-! CERTIFICATE. The clock outputs and their spectrum (R42 to R46). -/

namespace Sys2Proof.Machine

/-- Settles O1, write by write: a legal value takes the write's own law, any other is an access fault. -/
theorem clockCommands : Obligations.ClockCommands := by
  unfold Obligations.ClockCommands
  refine ⟨fun s v hup hm hd => ?_, fun s v hup h => ?_, fun s f n v hup hdie hm hdiv hcount hck hsr => ?_,
    fun s f n v hup hdie h => ?_, fun s f n v hup hdie hlo hhi hsr => ?_, fun s f n v hup hdie h => ?_,
    fun s f hup hdie => ?_⟩
  · refine ⟨_, exec_hclkSsWrite hup v, ?_⟩
    rw [State.hclkSs_legal hm hd]
    refine ⟨?_, ?_, ((Frame.refl s).put ?_ _).put ?_ _⟩ <;>
      simp [Reg.CLK.HCLK_SS.MODE, Reg.CLK.HCLK_SS.DEPTH, bitsAt]
  · refine ⟨_, exec_hclkSsWrite hup v, ?_⟩
    rw [State.hclkSs_illegal h]
    exact ⟨State.illegal_valid _ _, (Frame.refl s).illegal _⟩
  · have hlegal : (s.recorded [(f.val, dieOffset f (0x200 + n * 0x10), v.toNat)]).clkoutCtlIllegal f n v.toNat = false :=
      Bool.eq_false_iff.2 fun h => by
        rcases (State.clkoutCtlIllegal_iff _ _ _ _).1 h with h | h | h | ⟨hon, h⟩ | ⟨hon, h⟩
        · exact hm h
        · omega
        · exact hcount h
        · exact h (hck hon)
        · exact h (hsr hon)
    obtain ⟨hEN, hSR, hMODE, hDIV, hCOUNT⟩ := State.putClkoutCtl_get
      (s.recorded [(f.val, dieOffset f (0x200 + n * 0x10), v.toNat)]) f n v.toNat
    simp only [← State.clkoutCtl_get hlegal] at hEN hSR hMODE hDIV hCOUNT
    exact ⟨_, exec_clkoutCtlWrite hup hdie n v, hEN, hSR, hMODE, hDIV, hCOUNT,
      fun hoff => (State.clkoutCtl_ckRun hlegal).trans (outputRuns_off hoff _),
      fun h0 h => outputRuns_zero h0 _ _ ((State.clkoutCtl_ckRun hlegal).1 h),
      fun hoff => (State.clkoutCtl_srRun hlegal).trans (outputRuns_off hoff _),
      fun h0 h => outputRuns_zero h0 _ _ ((State.clkoutCtl_srRun hlegal).1 h), State.clkoutCtl_out hlegal,
      fun hoff hrun hen => State.clkoutCtl_srLeft hlegal hoff hrun hen hm,
      ((Frame.refl s).recorded (by simp) _).trans
        ((State.clkoutCtl_frame hlegal).mono (by simp) (List.Subset.refl _) (by simp))⟩
  · have hi : (s.recorded [(f.val, dieOffset f (0x200 + n * 0x10), v.toNat)]).clkoutCtlIllegal f n v.toNat = true :=
      (State.clkoutCtlIllegal_iff _ _ _ _).2 h
    refine ⟨_, exec_clkoutCtlWrite hup hdie n v, ?_⟩
    rw [State.clkoutCtl_illegal hi]
    exact ⟨State.illegal_valid _ _, ((Frame.refl s).recorded (by simp [signalled]) _).illegal _⟩
  · have hlegal : ¬ (s.recorded [(f.val, dieOffset f (0x204 + n * 0x10), v.toNat)]).timingIllegal f n
        (bitsAt v.toNat 17 5) := by
      rintro (h | h | ⟨hon, h⟩)
      · omega
      · omega
      · exact h (hsr hon)
    obtain ⟨hphase, hlog, hmoving, hframe⟩ := State.clkoutTiming_legal hlegal
    exact ⟨_, exec_phaseWrite hup hdie n v, hphase, hlog, hmoving,
      ((Frame.refl s).recorded (by simp) _).trans (hframe.mono (by simp) (List.Subset.refl _) (by simp))⟩
  · refine ⟨_, exec_phaseWrite hup hdie n v, ?_⟩
    rw [State.clkoutTiming_illegal (s := s.recorded _) h]
    exact ⟨State.illegal_valid _ _, ((Frame.refl s).recorded (by simp [signalled]) _).illegal _⟩
  · exact ⟨_, exec_cpllLossOfLock hup hdie, State.fire_pends _ _ _ (.inl ⟨rfl, by decide⟩),
      fun n hn => s.cpllLoss_stops f hn, s.cpllLoss_frame f⟩

end Sys2Proof.Machine

/-! SUPPORT. The time unit's registers (R48, R51, R54): loading the counter, the mesh offset, and the reads that latch. -/

namespace Sys2Proof.Machine

theorem exec_timeSet {s : State} (h : s.hostUp = true) (v : BitVec 128) : exec (.timeSet v) s = .next
    (if bitsAt v.toNat 127 1 = 1 then
      ((s.put Reg.TIME.SET.NS (bitsAt v.toNat 0 30)).put Reg.TIME.SET.SEC (bitsAt v.toNat 32 48)).timeSetGo
        (bitsAt v.toNat 0 30) (bitsAt v.toNat 32 48)
    else (s.put Reg.TIME.SET.NS (bitsAt v.toNat 0 30)).put Reg.TIME.SET.SEC (bitsAt v.toNat 32 48)) :=
  congrArg Host.Outcome.next (State.hostWriteReg_plain h (dieOfOffset_low (by decide)) _ _)

theorem exec_meshOffsetWrite {s : State} (h : s.hostUp = true) (v : BitVec 32) :
    exec (.meshOffsetWrite v) s = .next (s.meshOffsetWrite v.toNat) :=
  congrArg Host.Outcome.next (State.hostWriteReg_plain h (dieOfOffset_low (by decide)) _ _)

theorem exec_timeNowRead {s : State} {func : Fin 2} (h : s.functionUp func = true) : exec (.timeNowRead func) s = .next
    (({ s with time := { s.time with nowLatch := some (s.timeNow / 2 ^ 32) } }).readDone func 0x30010
      (s.timeNow % 2 ^ 32)) :=
  congrArg Host.Outcome.next (State.hostReadReg_plain h (dieOfOffset_low (by decide)) _)

theorem exec_mscRead {s : State} {func : Fin 2} (h : s.functionUp func = true) : exec (.mscRead func) s = .next
    (({ s with time := { s.time with mscLatch := some (s.mscReg / 2 ^ 32) } }).readDone func 0x30060
      (s.mscReg % 2 ^ 32)) :=
  congrArg Host.Outcome.next (State.hostReadReg_plain h (dieOfOffset_low (by decide)) _)

/-! ### Loading (R48, R51) -/

/-- The slot that the grid gives does not read the mesh slot count. -/
theorem State.setMsc_mscNow (s : State) (m : Nat) : (s.setMsc m).mscNow = s.mscNow :=
  State.mscNow_congr rfl rfl (State.get_of_regs rfl _)

theorem State.loadTime_sec (s : State) (sec ns : Nat) : (s.loadTime sec ns).time.sec = sec % 2 ^ 48 := rfl

theorem State.loadTime_ns (s : State) (sec ns : Nat) : (s.loadTime sec ns).time.ns = ns := rfl

/-- A load moves the mesh slot count to the grid (R51). -/
theorem State.loadTime_msc (s : State) (sec ns : Nat) : (s.loadTime sec ns).time.msc = (s.loadTime sec ns).mscNow := by
  simp only [State.loadTime, State.setMsc_mscNow, State.setMsc_msc]

theorem State.loadTime_frame (s : State) (sec ns : Nat) : Frame [.time, .bcast] [] [] s (s.loadTime sec ns) :=
  (Frame.refl s).step (fun c hc => by
    cases c with
    | time => simp at hc
    | bcast => simp at hc
    | _ => rfl) rfl rfl

/-- The words of TIME.SET as a write stages them. -/
def timeSetFields : List Fld := [Reg.TIME.SET.NS, Reg.TIME.SET.SEC]

theorem State.stageTime_frame (s : State) (ns sec : Nat) :
    Frame [] timeSetFields [] s ((s.put Reg.TIME.SET.NS ns).put Reg.TIME.SET.SEC sec) :=
  ((Frame.refl s).put (by simp [timeSetFields]) _).put (by simp [timeSetFields]) _

/-- An accepted TIME.SET: the load, then QUALITY, LAST_WR and source 41. -/
theorem State.timeSetGo_accepted {s : State} {ns : Nat} (hq : s.quality = 3) (hns : ns < 1000000000) (sec : Nat) :
    s.timeSetGo ns sec = (((s.loadTime sec ns).put Reg.TIME.REF_STATUS.QUALITY 2).put Reg.TIME.CTL.LAST_WR
      Status.done.code).fire 41 := if_pos ⟨hq, hns⟩

/-- What an accepted TIME.SET leaves. -/
theorem State.timeSetGo_load {s : State} {ns : Nat} (hq : s.quality = 3) (hns : ns < 1000000000) (sec : Nat) :
    (s.timeSetGo ns sec).time.sec = sec % 2 ^ 48 ∧ (s.timeSetGo ns sec).time.ns = ns ∧ (s.timeSetGo ns sec).quality = 2
      ∧ (s.timeSetGo ns sec).get Reg.TIME.CTL.LAST_WR = 0
      ∧ (s.timeSetGo ns sec).time.msc = (s.timeSetGo ns sec).mscNow
      ∧ Frame (.time :: .bcast :: signalled) [Reg.TIME.REF_STATUS.QUALITY, Reg.TIME.CTL.LAST_WR] alarmWords s
          (s.timeSetGo ns sec) := by
  rw [State.timeSetGo_accepted hq hns]
  have htime (x : State) (q l : Nat) :
      (((x.put Reg.TIME.REF_STATUS.QUALITY q).put Reg.TIME.CTL.LAST_WR l).fire 41).time = x.time := by simp
  have hgrid (x : State) (q l : Nat) :
      (((x.put Reg.TIME.REF_STATUS.QUALITY q).put Reg.TIME.CTL.LAST_WR l).fire 41).mscNow = x.mscNow :=
    State.mscNow_congr (by rw [htime]) (by rw [htime])
      (by simp [Reg.TIME.REF_STATUS.QUALITY, Reg.TIME.CTL.LAST_WR, Reg.TIME.MESH_OFFSET.OFFSET])
  refine ⟨?_, ?_, ?_, ?_, ?_, ?_⟩
  · rw [htime, State.loadTime_sec]
  · rw [htime, State.loadTime_ns]
  · simp [State.quality, Reg.TIME.REF_STATUS.QUALITY, Reg.TIME.CTL.LAST_WR]
  · simp [Reg.TIME.CTL.LAST_WR, Status.code]
  · rw [htime, hgrid, State.loadTime_msc]
  · refine Frame.fire ?_ (by simp) (List.Subset.refl _) 41
    exact ((((s.loadTime_frame sec ns).mono (by simp) (by simp) (by simp)).put (by simp) _).put (by simp) _)

theorem State.timeSetGo_rejected {s : State} {ns : Nat} (h : s.quality ≠ 3 ∨ 1000000000 ≤ ns) (sec : Nat) :
    s.timeSetGo ns sec = ((s.put Reg.TIME.CTL.LAST_WR Status.badField.code).illegal 0x3003C).fire 41 :=
  if_neg fun ⟨hq, hns⟩ => by omega

/-! ### The mesh offset (R54) -/

/-- An accepted offset is stored, and the mesh slot count moves to the grid it gives. -/
theorem State.meshOffsetWrite_accepted {s : State} {v : Nat} (hq : s.quality = 3)
    (hlo : (-48000000 : Int) ≤ signedOf 27 (bitsAt v 0 27)) (hhi : signedOf 27 (bitsAt v 0 27) ≤ 48000000) :
    (s.meshOffsetWrite v).meshOffset = signedOf 27 (bitsAt v 0 27)
      ∧ (s.meshOffsetWrite v).get Reg.TIME.CTL.LAST_WR = 0
      ∧ (s.meshOffsetWrite v).time.msc = (s.meshOffsetWrite v).mscNow
      ∧ Frame [.time] [Reg.TIME.MESH_OFFSET.OFFSET, Reg.TIME.CTL.LAST_WR] [] s (s.meshOffsetWrite v) := by
  have hbits : bitsAt v 0 27 = v % 2 ^ 27 := by simp [bitsAt]
  rw [hbits] at hlo hhi ⊢
  rw [State.meshOffsetWrite, if_pos ⟨hq, hlo, hhi⟩]
  refine ⟨?_, ?_, (State.setMsc_mscNow _ _).symm,
    (((Frame.refl s).put (by simp) _).put (by simp) _).setTime (by simp) _⟩
  · simp [State.meshOffset, State.setMsc, State.get, State.put, Reg.TIME.MESH_OFFSET.OFFSET, Reg.TIME.CTL.LAST_WR]
  · rw [State.get_of_regs (State.setMsc_regs _ _), State.get_put_same]
    rfl

theorem State.meshOffsetWrite_rejected {s : State} {v : Nat} (h : s.quality ≠ 3
      ∨ signedOf 27 (bitsAt v 0 27) < -48000000 ∨ 48000000 < signedOf 27 (bitsAt v 0 27)) :
    s.meshOffsetWrite v = (s.put Reg.TIME.CTL.LAST_WR Status.badField.code).illegal 0x30050 := by
  have hbits : bitsAt v 0 27 = v % 2 ^ 27 := by simp [bitsAt]
  rw [hbits] at h
  exact if_neg fun ⟨hq, hlo, hhi⟩ => by omega

/-! ### Reads (R48, R51) -/

/-- The low word of TIME.NOW: nanoseconds and quality. -/
theorem State.timeNow_low {s : State} (hns : s.time.ns < 1000000000) (hq : s.quality < 4) :
    s.timeNow % 2 ^ 32 = s.time.ns + s.quality * 2 ^ 30 := by
  unfold State.timeNow
  omega

/-- What a read of TIME.NOW latches: seconds and fraction. -/
theorem State.timeNow_high {s : State} (hns : s.time.ns < 1000000000) (hq : s.quality < 4) :
    s.timeNow / 2 ^ 32 = s.time.sec + s.time.frac / 2 ^ 16 * 2 ^ 48 := by
  unfold State.timeNow
  omega

theorem State.mscReg_low (s : State) : s.mscReg % 2 ^ 32 = s.time.msc % 2 ^ 32 := by
  unfold State.mscReg
  omega

theorem State.mscReg_high (s : State) : s.mscReg / 2 ^ 32 = s.time.msc / 2 ^ 32 + s.time.msc % 48 * 2 ^ 16 := by
  unfold State.mscReg
  omega

/-- A read that latches returns its word, and leaves all but the latch, what has been sent and what of it is unconfirmed. -/
theorem State.latchRead (s : State) (x : TimeUnit) (func off : Nat) {data w : Nat} (hw : data = w) :
    (({ s with time := x }).readDone func off data).out = s.out ++ [.readDone func .bar0 off w]
      ∧ (({ s with time := x }).readDone func off data).time = x
      ∧ Frame [.time, .safe, .out] [] [] s (({ s with time := x }).readDone func off data) := by
  subst hw
  exact ⟨State.readDone_out _ _ _ _, by simp, ((Frame.refl s).setTime (by simp) x).emit (by simp) (by simp) _⟩

end Sys2Proof.Machine

/-! CERTIFICATE. The time unit's writes and reads (R48, R51, R54). -/

namespace Sys2Proof.Machine

/-- Settles O2: each write is accepted or rejected by its own law, and each read splits its register into what it returns and
what it latches. -/
theorem timeRegisters : Obligations.TimeRegisters := by
  unfold Obligations.TimeRegisters
  refine ⟨fun s v hup hq hgo hns => ?_, fun s v hup h hgo => ?_, fun s v hup hgo => ?_,
    fun s v hup hq hlo hhi => ⟨_, exec_meshOffsetWrite hup v, State.meshOffsetWrite_accepted hq hlo hhi⟩,
    fun s v hup h => ?_, fun s func hup hns hq => ?_, fun s func hup => ?_⟩
  · have hq' : ((s.put Reg.TIME.SET.NS (bitsAt v.toNat 0 30)).put Reg.TIME.SET.SEC (bitsAt v.toNat 32 48)).quality = 3 := by
      rwa [State.quality, (s.stageTime_frame _ _).get (by decide)]
    obtain ⟨hsec, hload, hquality, hlast, hmsc, hframe⟩ := State.timeSetGo_load hq' hns (bitsAt v.toNat 32 48)
    refine ⟨_, exec_timeSet hup v, ?_⟩
    rw [if_pos hgo]
    refine ⟨hsec.trans (bitsAt_mod _ _ _), hload, hquality, hlast, hmsc, ?_, ?_⟩
    · rw [State.timeSetGo_accepted hq' hns]
      exact State.fire_pends _ _ _ (.inl ⟨rfl, by decide⟩)
    · exact ((s.stageTime_frame _ _).mono (by simp) (by simp [timeSetFields]) (by simp)).trans
        (hframe.mono (List.Subset.refl _) (by simp) (List.Subset.refl _))
  · have hq' : ((s.put Reg.TIME.SET.NS (bitsAt v.toNat 0 30)).put Reg.TIME.SET.SEC (bitsAt v.toNat 32 48)).quality
        = s.quality := (s.stageTime_frame _ _).get (by decide)
    refine ⟨_, exec_timeSet hup v, ?_⟩
    rw [if_pos hgo, State.timeSetGo_rejected (by rwa [hq'])]
    refine ⟨by simp; rfl, State.fire_pends _ _ _ (.inl ⟨rfl, by decide⟩), ?_⟩
    exact ((((s.stageTime_frame _ _).mono (by simp) (by simp [timeSetFields]) (by simp)).put (by simp) _).illegal _).fire
      (List.Subset.refl _) (List.Subset.refl _) 41
  · refine ⟨_, exec_timeSet hup v, ?_⟩
    rw [if_neg (by omega)]
    exact ⟨by simp [Reg.TIME.SET.NS, Reg.TIME.SET.SEC, bitsAt], by simp [Reg.TIME.SET.SEC, bitsAt],
      s.stageTime_frame _ _⟩
  · refine ⟨_, exec_meshOffsetWrite hup v, ?_⟩
    rw [State.meshOffsetWrite_rejected h]
    exact ⟨by simp; rfl, ((Frame.refl s).put (by simp) _).illegal _⟩
  · obtain ⟨hout, htime, hframe⟩ := s.latchRead { s.time with nowLatch := some (s.timeNow / 2 ^ 32) } func 0x30010
      (State.timeNow_low hns hq)
    exact ⟨_, exec_timeNowRead hup, hout, by rw [htime, State.timeNow_high hns hq], hframe⟩
  · obtain ⟨hout, htime, hframe⟩ := s.latchRead { s.time with mscLatch := some (s.mscReg / 2 ^ 32) } func 0x30060
      s.mscReg_low
    exact ⟨_, exec_mscRead hup, hout, by rw [htime, s.mscReg_high], hframe⟩

end Sys2Proof.Machine

/-! SUPPORT. Time events (R56, R58, R63): PPS edges, the beginning and the end of a switch, the rate of its slew. -/

namespace Sys2Proof.Machine

theorem exec_ppsEdge {s : State} (h : s.logicUp = true) : exec (.ppsEdge true) s = .next s.ppsRise :=
  congrArg Host.Outcome.next (by rw [h]; rfl)

theorem exec_ppsEdge_falling (s : State) : exec (.ppsEdge false) s = .next s :=
  congrArg Host.Outcome.next (by rw [Bool.and_false, State.when_false])

theorem exec_switchComplete {s : State} (h : s.logicUp = true) (hs : s.settled = true) :
    exec .switchComplete s = .next s.switchDone :=
  congrArg Host.Outcome.next (by rw [h, hs]; rfl)

theorem exec_forceSlew {s : State} (h : s.hostUp = true) : exec .forceSlew s = .next s.forceSlew :=
  congrArg Host.Outcome.next (State.hostWriteReg_plain h (dieOfOffset_low (by decide)) _ _)

theorem exec_calibrationFault {s : State} {f : Fin 6} (h : s.logicUp = true) (h3 : 3 ≤ Tbl.getD s.time.calFails f 0)
    (hm : f.val ∉ s.time.calMarked) : exec (.calibrationFault f) s = .next (s.calibrationFault f) :=
  congrArg Host.Outcome.next (by rw [h, decide_eq_true h3, decide_eq_true hm]; rfl)

/-! ### PPS edges (R56) -/

/-- An edge on time, its time of day fresh, measures the phase and is consumed with it. -/
theorem State.ppsRise_fresh {s : State} {tod w : Nat} (ht : s.time.ppsTod = some (tod, w))
    (hw : 100000000 ≤ s.nsSince w)
    (hl : ∀ l, s.time.lastPps = some l → within (s.unslewed - l - 1000000000) 1000 = true) :
    s.ppsRise = { s with time := { s.time with
      pps := { s.time.pps with phase := some (s.unslewed - (tod * 1000000000 : Nat)),
                               cycleOk := some (decide (s.time.pps.cycleOk ≠ some false)) }
      lastPps := some s.unslewed, ppsTod := none } } := by
  rcases hlast : s.time.lastPps with _ | l
  · simp [State.ppsRise, ht, hw, hlast]
  · simp [State.ppsRise, ht, hw, hlast, hl l hlast]

/-- An edge without a time of day is a bad one and raises source 40. -/
theorem State.ppsRise_stale {s : State} (ht : s.time.ppsTod = none) :
    s.ppsRise = ({ s with time := { s.time with
      pps := { s.time.pps with cycleOk := some false }, lastPps := some s.unslewed, ppsTod := none } }).fire 40 := by
  simp [State.ppsRise, ht]

/-! ### Switches (R57, R58) -/

/-- The goal of a slew reads the time unit alone. -/
theorem State.phaseGoal_of_time {s t : State} (h : t.time = s.time) (r : Nat) : t.phaseGoal r = s.phaseGoal r := by
  unfold State.phaseGoal
  rw [h]

theorem State.forcedEnds_frame (s : State) : Frame [] [Reg.TIME.CTL.FORCE_SLEW] [] s s.forcedEnds :=
  Frame.ite (fun _ => (Frame.refl s).put (by simp) _) fun _ => Frame.refl s

@[simp] theorem State.forcedEnds_time (s : State) : s.forcedEnds.time = s.time :=
  s.forcedEnds_frame.same (c := .time) (by simp)

/-- The end of a forced slew clears the bit that asked for it; any other leaves it. -/
theorem State.forcedEnds_get (s : State) : s.forcedEnds.get Reg.TIME.CTL.FORCE_SLEW
    = if s.time.forced = true then 0 else s.get Reg.TIME.CTL.FORCE_SLEW := by
  unfold State.forcedEnds
  split <;> simp

/-- The fields of TIME.REF_STATUS and TIME.CTL that the beginning of a switch writes. -/
def switchFields : List Fld := [Reg.TIME.REF_STATUS.TARGET, Reg.TIME.REF_STATUS.SWITCHING,
  Reg.TIME.REF_STATUS.SETTLE_LEFT, Reg.TIME.REF_STATUS.QUALITY, Reg.TIME.CTL.FORCE_SLEW]

theorem State.switchTo_frame (s : State) (r : Nat) (retarget : Bool) :
    Frame (.time :: .free :: signalled) switchFields alarmWords s (s.switchTo r retarget) := by
  refine Frame.fire ?_ (by simp) (List.Subset.refl _) _
  refine (((Frame.put ?_ ?_ _).put ?_ _).put ?_ _).put ?_ _
  · exact ((s.forcedEnds_frame.mono (by simp) (by simp [switchFields]) (by simp)).spend (by simp) 1).setTime (by simp) _
  all_goals simp [switchFields]

/-- A switch that begins: its target, SWITCHING, quality 0b01 and its source (R58). -/
theorem State.switchTo_begins (s : State) {r : Nat} (hr : r ≤ 4) (retarget : Bool) :
    (s.switchTo r retarget).get Reg.TIME.REF_STATUS.TARGET = r
      ∧ (s.switchTo r retarget).get Reg.TIME.REF_STATUS.SWITCHING = 1 ∧ (s.switchTo r retarget).quality = 1
      ∧ (s.switchTo r retarget).pends (if retarget then 36 else 34) := by
  have hr8 : r % 8 = r := by omega
  refine ⟨?_, ?_, ?_, State.fire_pends _ _ _ (.inl ⟨rfl, by split <;> decide⟩)⟩ <;>
    simp [State.switchTo, State.quality, Reg.TIME.REF_STATUS.TARGET, Reg.TIME.REF_STATUS.SWITCHING,
      Reg.TIME.REF_STATUS.SETTLE_LEFT, Reg.TIME.REF_STATUS.QUALITY, hr8]

/-- A forced slew is a switch that begins at 200 ppm toward its goal (R58). -/
theorem State.forceSlewTo_frame (s : State) (r : Nat) :
    Frame (.time :: .free :: signalled) switchFields alarmWords s (s.forceSlewTo r) :=
  ((s.switchTo_frame r false).setTime (by simp) _).put (by simp [switchFields]) 1

theorem State.forceSlewTo_get (s : State) (r : Nat) {g : Fld} (hg : Reg.TIME.CTL.FORCE_SLEW.key ≠ g.key) :
    (s.forceSlewTo r).get g = (s.switchTo r false).get g := State.get_put_other _ _ _ _ hg

/-- The rate of a forced slew: 200 ppm of the addend toward the goal. -/
theorem State.forceSlewTo_rate (s : State) (r : Nat) :
    (s.forceSlewTo r).time.slewGoal = s.phaseGoal r
      ∧ (s.forceSlewTo r).time.addend = (if 0 ≤ s.phaseGoal r then (s.forceSlewTo r).time.base + slew200ppm
          else (s.forceSlewTo r).time.base - slew200ppm) := ⟨rfl, rfl⟩

theorem State.forceSlewTo_pends (s : State) (r : Nat) : (s.forceSlewTo r).pends 34 :=
  State.fire_pends _ 34 34 (.inl ⟨rfl, by decide⟩)

theorem State.tryForce_begins {s : State} {r : Nat} {l : List Nat} (hs : s.on Reg.TIME.REF_STATUS.SWITCHING = false)
    (hc : s.time.candidates true = r :: l) : s.tryForce = some (s.forceSlewTo r) := by
  simp [State.tryForce, hs, hc]

theorem State.tryForce_waits {s : State}
    (h : s.on Reg.TIME.REF_STATUS.SWITCHING = true ∨ s.time.candidates true = []) : s.tryForce = none := by
  rcases h with h | h <;> simp [State.tryForce, h]

/-- FORCE_SLEW sets its bit, and begins the slew to the best FAR reference where no switch is in progress. -/
theorem State.forceSlew_begins {s : State} {r : Nat} {l : List Nat} (hs : s.on Reg.TIME.REF_STATUS.SWITCHING = false)
    (hc : s.time.candidates true = r :: l) :
    s.forceSlew = (s.put Reg.TIME.CTL.FORCE_SLEW 1).forceSlewTo r := by
  rw [State.forceSlew, State.tryForce_begins (r := r) (l := l), Option.getD_some]
  · simpa [Reg.TIME.CTL.FORCE_SLEW, Reg.TIME.REF_STATUS.SWITCHING] using hs
  · exact hc

theorem State.forceSlew_waits {s : State}
    (h : s.on Reg.TIME.REF_STATUS.SWITCHING = true ∨ s.time.candidates true = []) :
    s.forceSlew = s.put Reg.TIME.CTL.FORCE_SLEW 1 := by
  rw [State.forceSlew, State.tryForce_waits, Option.getD_none]
  exact h.imp_left fun hs => by simpa [Reg.TIME.CTL.FORCE_SLEW, Reg.TIME.REF_STATUS.SWITCHING] using hs

/-- What the end of a switch writes (R58): the target is selected, quality returns, the slew is taken out of the addend. -/
theorem State.switchDone_selects {s : State} (h : s.get Reg.TIME.REF_STATUS.TARGET ≤ 4) :
    s.switchDone.get Reg.TIME.REF_STATUS.SELECTED = s.get Reg.TIME.REF_STATUS.TARGET
      ∧ s.switchDone.quality = (if s.get Reg.TIME.REF_STATUS.TARGET = 4 then 2 else 0)
      ∧ s.switchDone.get Reg.TIME.REF_STATUS.SWITCHING = 0 ∧ s.switchDone.get Reg.TIME.REF_STATUS.TARGET = 0
      ∧ s.switchDone.get Reg.TIME.CTL.FORCE_SLEW
          = (if s.time.forced = true then 0 else s.get Reg.TIME.CTL.FORCE_SLEW)
      ∧ s.switchDone.time.addend = s.time.base := by
  have hr8 : s.get Reg.TIME.REF_STATUS.TARGET % 8 = s.get Reg.TIME.REF_STATUS.TARGET := by omega
  have hforce : s.switchDone.get Reg.TIME.CTL.FORCE_SLEW = s.forcedEnds.get Reg.TIME.CTL.FORCE_SLEW := by
    simp [State.switchDone, Reg.TIME.REF_STATUS.SELECTED, Reg.TIME.REF_STATUS.TARGET, Reg.TIME.REF_STATUS.SWITCHING,
      Reg.TIME.REF_STATUS.QUALITY, Reg.TIME.CTL.FORCE_SLEW]
    rfl
  refine ⟨?_, ?_, ?_, ?_, hforce.trans s.forcedEnds_get, by simp [State.switchDone]⟩
  · simpa [State.switchDone, Reg.TIME.REF_STATUS.SELECTED, Reg.TIME.REF_STATUS.TARGET, Reg.TIME.REF_STATUS.SWITCHING,
      Reg.TIME.REF_STATUS.QUALITY] using hr8
  · split <;> simp [State.switchDone, State.quality, Reg.TIME.REF_STATUS.QUALITY, *]
  · simp [State.switchDone, Reg.TIME.REF_STATUS.SWITCHING, Reg.TIME.REF_STATUS.QUALITY]
  · simp [State.switchDone, Reg.TIME.REF_STATUS.TARGET, Reg.TIME.REF_STATUS.SWITCHING, Reg.TIME.REF_STATUS.QUALITY]

theorem State.switchDone_frame (s : State) : Frame (.time :: signalled) [Reg.TIME.REF_STATUS.SELECTED,
    Reg.TIME.REF_STATUS.TARGET, Reg.TIME.REF_STATUS.SWITCHING, Reg.TIME.REF_STATUS.QUALITY, Reg.TIME.CTL.FORCE_SLEW]
    alarmWords s s.switchDone := by
  refine Frame.fire ?_ (by simp) (List.Subset.refl _) _
  refine (((Frame.put ?_ ?_ _).put ?_ _).put ?_ _).put ?_ _
  · exact (s.forcedEnds_frame.mono (by simp) (by simp) (by simp)).setTime (by simp) _
  all_goals simp

/-! ### The rate of a slew (R58) -/

/-- The rate of a slew whatever its sign, in units of the addend. -/
def State.slewUnits (s : State) (goal : Int) : Nat :=
  min slew200ppm (if goal.natAbs % settleCycles ≠ 0 ∧ Config.roundUp s.free then goal.natAbs / settleCycles + 1
    else goal.natAbs / settleCycles)

theorem State.slewRate_eq (s : State) (goal : Int) :
    s.slewRate goal = if 0 ≤ goal then (s.slewUnits goal : Int) else -(s.slewUnits goal : Int) := rfl

theorem State.slewRate_natAbs (s : State) (goal : Int) : (s.slewRate goal).natAbs = s.slewUnits goal := by
  rw [State.slewRate_eq]
  split <;> simp

theorem State.slewUnits_le (s : State) (goal : Int) : s.slewUnits goal ≤ slew200ppm := Nat.min_le_left _ _

/-- The rate has the sign of its goal. -/
theorem State.slewRate_sign (s : State) (goal : Int) :
    (0 ≤ goal → 0 ≤ s.slewRate goal) ∧ (goal ≤ 0 → s.slewRate goal ≤ 0) := by
  rw [State.slewRate_eq]
  refine ⟨fun h => by simp [h], fun h => ?_⟩
  split
  · have h0 : goal = 0 := by omega
    simp [h0, State.slewUnits]
  · omega

/-- A goal that 200 ppm can remove in the settle window is removed to one unit of the rate. -/
theorem State.slewUnits_close (s : State) {goal : Int} (hg : goal.natAbs ≤ slew200ppm * settleCycles) :
    goal.natAbs ≤ (s.slewUnits goal + 1) * settleCycles
      ∧ s.slewUnits goal * settleCycles < goal.natAbs + settleCycles := by
  unfold State.slewUnits
  by_cases h : goal.natAbs % settleCycles ≠ 0 ∧ Config.roundUp s.free = true
  · rw [if_pos h]
    obtain ⟨hrem, -⟩ := h
    simp only [settleCycles, slew200ppm] at *
    omega
  · rw [if_neg h]
    simp only [settleCycles, slew200ppm] at hg ⊢
    omega

end Sys2Proof.Machine

/-! CERTIFICATE. Time events (R56, R58, R63). -/

namespace Sys2Proof.Machine

/-- Settles O3: an edge, the beginning and the end of a switch each have their law; the rate of a slew is bounded by its
rounding. -/
theorem timeEvents : Obligations.TimeEvents := by
  unfold Obligations.TimeEvents
  refine ⟨fun s tod w hup ht hw hl => ?_, fun s hup ht => ?_, exec_ppsEdge_falling, fun s hup hset h4 => ?_,
    fun s r l hup hs hc h4 => ?_, fun s hup h => ?_, fun s goal => ?_, fun s f hup h3 hm => ?_⟩
  · refine ⟨_, exec_ppsEdge hup, ?_⟩
    rw [State.ppsRise_fresh ht hw hl]
    exact ⟨rfl, rfl, fun hok => congrArg some (decide_eq_true hok), (Frame.refl s).setTime (by simp) _⟩
  · refine ⟨_, exec_ppsEdge hup, ?_⟩
    rw [State.ppsRise_stale ht]
    exact ⟨by simp, State.fire_pends _ _ _ (.inl ⟨rfl, by decide⟩),
      ((Frame.refl s).setTime (by simp) _).fire (by simp) (List.Subset.refl _) 40⟩
  · obtain ⟨hsel, hq, hsw, htgt, hforce, hadd⟩ := State.switchDone_selects h4
    exact ⟨_, exec_switchComplete hup hset, hsel, hq, hsw, htgt, hforce, hadd,
      State.fire_pends _ _ _ (.inl ⟨rfl, by decide⟩), s.switchDone_frame⟩
  · refine ⟨_, exec_forceSlew hup, ?_⟩
    rw [State.forceSlew_begins hs hc]
    obtain ⟨htgt, hsw, hq, -⟩ := (s.put Reg.TIME.CTL.FORCE_SLEW 1).switchTo_begins h4 false
    obtain ⟨hgoal, hadd⟩ := (s.put Reg.TIME.CTL.FORCE_SLEW 1).forceSlewTo_rate r
    refine ⟨(State.forceSlewTo_get _ _ (by decide)).trans htgt, (State.forceSlewTo_get _ _ (by decide)).trans hsw,
      (State.forceSlewTo_get _ _ (by decide)).trans hq, State.get_put_same _ _ _,
      hgoal.trans (State.phaseGoal_of_time (by simp) r), fun h => ?_, fun h => ?_, State.forceSlewTo_pends _ _,
      ((Frame.refl s).put (by simp) 1).trans (State.forceSlewTo_frame _ _)⟩
    · rw [hadd, if_pos (hgoal ▸ h)]
    · rw [hadd, if_neg (hgoal ▸ Int.not_le.2 h)]
  · refine ⟨_, exec_forceSlew hup, ?_⟩
    rw [State.forceSlew_waits h]
    exact ⟨State.get_put_same _ _ _, (Frame.refl s).put (by simp) 1⟩
  · obtain ⟨hpos, hneg⟩ := s.slewRate_sign goal
    rw [State.slewRate_natAbs]
    exact ⟨s.slewUnits_le goal, hpos, hneg, s.slewUnits_close⟩
  · refine ⟨_, exec_calibrationFault hup h3 hm, ?_, ?_, State.fire_pends _ _ _ (.inl ⟨rfl, by decide⟩),
      ((Frame.refl s).setTime (by simp) _).fire (by simp) (List.Subset.refl _) 39⟩
    · simp [State.calibrationFault]
    · simp [State.calibrationFault, State.dieQuality]

end Sys2Proof.Machine

/-! SUPPORT. Timer channels (R64 to R68): what a capture, a match, an overflow and a read of COUNT write, and that an event
enable alone decides on its source. -/

namespace Sys2Proof.Machine

theorem exec_timersGo {s : State} (h : s.hostUp = true) (v : BitVec 32) :
    exec (.timersGo v) s = .next (s.timersGo v.toNat) :=
  congrArg Host.Outcome.next (State.hostWriteReg_plain h (dieOfOffset_low (by decide)) _ _)

theorem exec_timerMatch {s : State} {k : Fin 32} (h : s.logicUp = true) (hm : s.matchDue k = true) :
    exec (.timerMatch k) s = .next (s.timerMatch k) :=
  congrArg Host.Outcome.next (by rw [h, hm]; rfl)

theorem exec_timerOverflow {s : State} {k : Fin 32} (h : s.logicUp = true) (hw : 0 < (s.timer k).wraps) :
    exec (.timerOverflow k) s = .next (s.timerOverflow k) :=
  congrArg Host.Outcome.next (by rw [h, decide_eq_true hw]; rfl)

theorem exec_timerCapture {s : State} {k : Fin 32} {e : Fin 8} (h : s.logicUp = true) (hc : s.captures k e = true) :
    exec (.timerCapture k e) s = .next (s.timerCapture k) :=
  congrArg Host.Outcome.next (by rw [h, hc]; rfl)

theorem exec_timerCapture_other {s : State} {k : Fin 32} {e : Fin 8} (h : s.captures k e = false) :
    exec (.timerCapture k e) s = .next s :=
  congrArg Host.Outcome.next (by rw [h, Bool.and_false, State.when_false])

theorem exec_captureRead {s : State} {func : Fin 2} (h : s.functionUp func = true) (k : Fin 32) (edge : Bool) :
    exec (.captureRead func k edge) s = .next ((s.captureRead k edge).1.readDone func (0x40110 + k * 0x20)
      (s.get (Reg.TIMERS.CAPTURE k))) :=
  congrArg Host.Outcome.next (State.hostReadReg_plain h (dieOfOffset_low (by omega)) _)

theorem exec_cascadeCountRead {s : State} {func : Fin 2} (h : s.functionUp func = true) (k : Fin 32) :
    exec (.cascadeCountRead func k) s
      = .next ((s.countRead k).1.readDone func (0x40104 + k * 0x20) (s.countRead k).2) :=
  congrArg Host.Outcome.next (State.hostReadReg_plain h (dieOfOffset_low (by omega)) _)

/-! ### A source that an enable lets fire (R66, R67) -/

section
variable (s : State) (c : Prop) [Decidable c] (src : Nat)

theorem State.fireIf_get (g : Fld) : (if c then s.fire src else s).get g = s.get g := by
  split <;> simp

theorem State.fireIf_timers : (if c then s.fire src else s).timers = s.timers := by
  split <;> simp

theorem State.fireIf_frame : Frame signalled [] alarmWords s (if c then s.fire src else s) :=
  Frame.ite (fun _ => (Frame.refl s).fire (List.Subset.refl _) (List.Subset.refl _) src) fun _ => Frame.refl s

theorem State.fireIf_pends {c} [Decidable c] (h : c) (hsrc : src < 512) : (if c then s.fire src else s).pends src := by
  rw [if_pos h]
  exact State.fire_pends _ _ _ (.inl ⟨rfl, hsrc⟩)

end

/-! ### The counter that a channel heads (R65) -/

/-- The registers that the count of a channel reads. -/
def countFields (k : Nat) : List Fld := [Reg.TIMERS.CH_CTL.CASCADE k, Reg.TIMERS.COUNT k, Reg.TIMERS.COUNT (k + 1)]

/-- A channel's count reads its own registers and the wraps of its pair. -/
theorem State.count_congr {s t : State} {k : Nat} (ht : t.timers = s.timers)
    (hf : ∀ f ∈ countFields k, t.get f = s.get f) : t.cascadeEven k = s.cascadeEven k
      ∧ t.oddCount (k + 1) = s.oddCount (k + 1) ∧ t.timerCount k = s.timerCount k := by
  simp only [countFields, List.forall_mem_cons] at hf
  obtain ⟨hcas, hcount, hodd, -⟩ := hf
  have heven : t.cascadeEven k = s.cascadeEven k := by simp only [State.cascadeEven, State.on, hcas]
  have hoddCount : t.oddCount (k + 1) = s.oddCount (k + 1) := by simp only [State.oddCount, State.timer, hodd, ht]
  exact ⟨heven, hoddCount, by simp only [State.timerCount, heven, hoddCount, hcount]⟩

/-- The two halves of a pair's count. -/
theorem State.timerCount_pair {s : State} {k : Nat} (h : s.cascadeEven k = true)
    (hlt : s.get (Reg.TIMERS.COUNT k) < 2 ^ 32) :
    s.timerCount k % 2 ^ 32 = s.get (Reg.TIMERS.COUNT k) ∧ s.timerCount k / 2 ^ 32 = s.oddCount (k + 1) := by
  rw [State.timerCount, if_pos h]
  omega

theorem State.timerCount_single {s : State} {k : Nat} (h : s.cascadeEven k = false) :
    s.timerCount k = s.get (Reg.TIMERS.COUNT k) := if_neg (by simp [h])

/-! ### Captures (R67) -/

/-- The registers that a capture writes, the odd half of a pair among them. -/
def captureFields (k : Nat) : List Fld :=
  [Reg.TIMERS.CH_STATUS.CAP_VALID k, Reg.TIMERS.CAPTURE k, Reg.TIMERS.CAPTURE (k + 1)]

/-- CAPTURE and CAP_VALID as an edge leaves them, both halves of a pair. -/
def State.holdCapture (s : State) (k : Nat) : State :=
  (if s.cascadeEven k then
      (s.put (Reg.TIMERS.CAPTURE k) (s.timerCount k)).put (Reg.TIMERS.CAPTURE (k + 1)) (s.timerCount k / 2 ^ 32)
    else s.put (Reg.TIMERS.CAPTURE k) (s.timerCount k)).put (Reg.TIMERS.CH_STATUS.CAP_VALID k) 1

theorem State.holdCapture_frame {s : State} {k : Nat} {fields : List Fld}
    (hv : Reg.TIMERS.CH_STATUS.CAP_VALID k ∈ fields) (hc : Reg.TIMERS.CAPTURE k ∈ fields)
    (ho : s.cascadeEven k = true → Reg.TIMERS.CAPTURE (k + 1) ∈ fields) : Frame [] fields [] s (s.holdCapture k) :=
  Frame.put (Frame.ite (fun h => ((Frame.refl s).put hc _).put (ho h) _) fun _ => (Frame.refl s).put hc _) hv 1

theorem State.holdCapture_valid (s : State) (k : Nat) :
    (s.holdCapture k).get (Reg.TIMERS.CH_STATUS.CAP_VALID k) = 1 := State.get_put_same _ _ _

theorem State.holdCapture_value (s : State) (k : Nat) :
    (s.holdCapture k).get (Reg.TIMERS.CAPTURE k) = s.timerCount k % 2 ^ 32 := by
  have hv : (Reg.TIMERS.CH_STATUS.CAP_VALID k).key ≠ (Reg.TIMERS.CAPTURE k).key := by
    simp only [Reg.TIMERS.CAPTURE, Reg.TIMERS.CH_STATUS.CAP_VALID]
    omega
  rw [State.holdCapture, State.get_put_other _ _ _ _ hv]
  split
  · rw [State.get_put_other _ _ _ _ (by simp [Reg.TIMERS.CAPTURE]), State.get_put_same]
    rfl
  · exact State.get_put_same _ _ _

theorem State.holdCapture_odd {s : State} {k : Nat} (h : s.cascadeEven k = true) :
    (s.holdCapture k).get (Reg.TIMERS.CAPTURE (k + 1)) = s.timerCount k / 2 ^ 32 % 2 ^ 32 := by
  have hv : (Reg.TIMERS.CH_STATUS.CAP_VALID k).key ≠ (Reg.TIMERS.CAPTURE (k + 1)).key := by
    simp only [Reg.TIMERS.CAPTURE, Reg.TIMERS.CH_STATUS.CAP_VALID]
    omega
  rw [State.holdCapture, State.get_put_other _ _ _ _ hv, if_pos h, State.get_put_same]
  rfl

/-- A capture holds the count and fires where IE_CAP is set. -/
theorem State.storeCapture_eq (s : State) (k : Nat) : s.storeCapture k =
    if s.on (Reg.TIMERS.CH_CTL.IE_CAP k) = true then (s.holdCapture k).fire (64 + k) else s.holdCapture k := by
  have heven : (s.put (Reg.TIMERS.CAPTURE k) (s.timerCount k)).cascadeEven k = s.cascadeEven k := by
    have hkey : (Reg.TIMERS.CAPTURE k).key ≠ (Reg.TIMERS.CH_CTL.CASCADE k).key := by
      simp only [Reg.TIMERS.CAPTURE, Reg.TIMERS.CH_CTL.CASCADE]
      omega
    simp only [State.cascadeEven, State.on, State.get_put_other _ _ _ _ hkey]
  have hie : (s.holdCapture k).on (Reg.TIMERS.CH_CTL.IE_CAP k) = s.on (Reg.TIMERS.CH_CTL.IE_CAP k) := by
    rw [State.on, (State.holdCapture_frame (fields := captureFields k) (by simp [captureFields])
      (by simp [captureFields]) (by simp [captureFields])).get (by
        simp [captureFields, Reg.TIMERS.CAPTURE, Reg.TIMERS.CH_STATUS.CAP_VALID, Reg.TIMERS.CH_CTL.IE_CAP]
        omega), State.on]
  simp only [State.storeCapture, heven, ← hie]
  rfl

/-- A capture stays within a frame that names its registers and what a firing may write. -/
theorem State.storeCapture_frame {s : State} {k : Nat} {fields : List Fld}
    (hv : Reg.TIMERS.CH_STATUS.CAP_VALID k ∈ fields) (hc : Reg.TIMERS.CAPTURE k ∈ fields)
    (ho : s.cascadeEven k = true → Reg.TIMERS.CAPTURE (k + 1) ∈ fields) :
    Frame signalled fields alarmWords s (s.storeCapture k) := by
  rw [State.storeCapture_eq]
  exact ((State.holdCapture_frame hv hc ho).mono (by simp) (List.Subset.refl _) (by simp)).trans
    ((State.fireIf_frame _ _ _).mono (List.Subset.refl _) (by simp) (List.Subset.refl _))

theorem State.storeCapture_valid (s : State) (k : Nat) :
    (s.storeCapture k).get (Reg.TIMERS.CH_STATUS.CAP_VALID k) = 1 := by
  rw [State.storeCapture_eq, State.fireIf_get, State.holdCapture_valid]

/-- A capture stores COUNT. -/
theorem State.storeCapture_value {s : State} {k : Nat} (hlt : s.get (Reg.TIMERS.COUNT k) < 2 ^ 32) :
    (s.storeCapture k).get (Reg.TIMERS.CAPTURE k) = s.get (Reg.TIMERS.COUNT k) := by
  rw [State.storeCapture_eq, State.fireIf_get, State.holdCapture_value]
  cases h : s.cascadeEven k with
  | false => rw [State.timerCount_single h, Nat.mod_eq_of_lt hlt]
  | true => exact (State.timerCount_pair h hlt).1

/-- A capture of a pair stores the other half with it. -/
theorem State.storeCapture_odd {s : State} {k : Nat} (h : s.cascadeEven k = true)
    (hlt : s.get (Reg.TIMERS.COUNT k) < 2 ^ 32) :
    (s.storeCapture k).get (Reg.TIMERS.CAPTURE (k + 1)) = s.oddCount (k + 1) := by
  rw [State.storeCapture_eq, State.fireIf_get, State.holdCapture_odd h, (State.timerCount_pair h hlt).2]
  exact Nat.mod_mod _ _

theorem State.storeCapture_pends {s : State} {k : Nat} (hk : k < 32)
    (hie : s.on (Reg.TIMERS.CH_CTL.IE_CAP k) = true) : (s.storeCapture k).pends (64 + k) := by
  rw [State.storeCapture_eq]
  exact State.fireIf_pends _ _ hie (by omega)

theorem State.storeCapture_overrun (s : State) (k : Nat) :
    (s.storeCapture k).get (Reg.TIMERS.CH_STATUS.OVERRUN k) = s.get (Reg.TIMERS.CH_STATUS.OVERRUN k) := by
  refine (State.storeCapture_frame (fields := captureFields k) ?_ ?_ ?_).get ?_
  · simp [captureFields]
  · simp [captureFields]
  · simp [captureFields]
  · simp [captureFields, Reg.TIMERS.CAPTURE, Reg.TIMERS.CH_STATUS.CAP_VALID, Reg.TIMERS.CH_STATUS.OVERRUN]
    omega

/-- OVERRUN as an edge over an unread value leaves it. -/
def State.markOverrun (s : State) (k : Nat) : State :=
  if s.on (Reg.TIMERS.CH_STATUS.CAP_VALID k) then s.put (Reg.TIMERS.CH_STATUS.OVERRUN k) 1 else s

theorem State.timerCapture_eq (s : State) (k : Nat) : s.timerCapture k = (s.markOverrun k).storeCapture k := rfl

theorem State.markOverrun_frame (s : State) (k : Nat) :
    Frame [] [Reg.TIMERS.CH_STATUS.OVERRUN k] [] s (s.markOverrun k) :=
  Frame.ite (fun _ => (Frame.refl s).put (by simp) 1) fun _ => Frame.refl s

theorem State.markOverrun_get (s : State) (k : Nat) :
    (s.markOverrun k).get (Reg.TIMERS.CH_STATUS.OVERRUN k) = if s.on (Reg.TIMERS.CH_STATUS.CAP_VALID k) = true then 1
      else s.get (Reg.TIMERS.CH_STATUS.OVERRUN k) := by
  unfold State.markOverrun
  split
  · exact State.get_put_same _ _ _
  · rfl

/-- OVERRUN is no part of the count, nor of what decides on the source. -/
theorem State.markOverrun_keeps (s : State) (k : Nat) :
    ((s.markOverrun k).cascadeEven k = s.cascadeEven k ∧ (s.markOverrun k).oddCount (k + 1) = s.oddCount (k + 1)
        ∧ (s.markOverrun k).timerCount k = s.timerCount k)
      ∧ (s.markOverrun k).get (Reg.TIMERS.COUNT k) = s.get (Reg.TIMERS.COUNT k)
      ∧ (s.markOverrun k).get (Reg.TIMERS.CH_CTL.IE_CAP k) = s.get (Reg.TIMERS.CH_CTL.IE_CAP k) := by
  have hf := s.markOverrun_frame k
  refine ⟨State.count_congr (hf.same (c := .timers) (by simp)) fun f hm => hf.get ?_, hf.get ?_, hf.get ?_⟩
  · simp only [countFields, List.mem_cons, List.not_mem_nil, or_false] at hm
    rcases hm with rfl | rfl | rfl <;>
      simp [Reg.TIMERS.CH_CTL.CASCADE, Reg.TIMERS.COUNT, Reg.TIMERS.CH_STATUS.OVERRUN] <;> omega
  · simp [Reg.TIMERS.COUNT, Reg.TIMERS.CH_STATUS.OVERRUN]
    omega
  · simp [Reg.TIMERS.CH_CTL.IE_CAP, Reg.TIMERS.CH_STATUS.OVERRUN]
    omega

section
variable {s : State} {k : Nat}

theorem State.timerCapture_valid (s : State) (k : Nat) :
    (s.timerCapture k).get (Reg.TIMERS.CH_STATUS.CAP_VALID k) = 1 := State.storeCapture_valid _ _

theorem State.timerCapture_value (hlt : s.get (Reg.TIMERS.COUNT k) < 2 ^ 32) :
    (s.timerCapture k).get (Reg.TIMERS.CAPTURE k) = s.get (Reg.TIMERS.COUNT k) := by
  obtain ⟨-, hcount, -⟩ := s.markOverrun_keeps k
  rw [State.timerCapture_eq, State.storeCapture_value (by rwa [hcount]), hcount]

theorem State.timerCapture_odd (h : s.cascadeEven k = true) (hlt : s.get (Reg.TIMERS.COUNT k) < 2 ^ 32) :
    (s.timerCapture k).get (Reg.TIMERS.CAPTURE (k + 1)) = s.oddCount (k + 1) := by
  obtain ⟨⟨heven, hodd, -⟩, hcount, -⟩ := s.markOverrun_keeps k
  rw [State.timerCapture_eq, State.storeCapture_odd (by rwa [heven]) (by rwa [hcount]), hodd]

/-- An edge over an unread value sets OVERRUN; any other leaves it. -/
theorem State.timerCapture_overrun (s : State) (k : Nat) : (s.timerCapture k).get (Reg.TIMERS.CH_STATUS.OVERRUN k)
    = if s.on (Reg.TIMERS.CH_STATUS.CAP_VALID k) = true then 1 else s.get (Reg.TIMERS.CH_STATUS.OVERRUN k) := by
  rw [← State.markOverrun_get, State.timerCapture_eq, State.storeCapture_overrun]

theorem State.timerCapture_pends (hk : k < 32) (hie : s.on (Reg.TIMERS.CH_CTL.IE_CAP k) = true) :
    (s.timerCapture k).pends (64 + k) := by
  obtain ⟨-, -, hget⟩ := s.markOverrun_keeps k
  exact State.storeCapture_pends (s := s.markOverrun k) hk (by rw [State.on, hget]; exact hie)

/-- A capture writes its own registers, those of the odd half where the channel heads a pair. -/
theorem State.timerCapture_frame {fields : List Fld} (ho : Reg.TIMERS.CH_STATUS.OVERRUN k ∈ fields)
    (hv : Reg.TIMERS.CH_STATUS.CAP_VALID k ∈ fields) (hc : Reg.TIMERS.CAPTURE k ∈ fields)
    (hp : s.cascadeEven k = true → Reg.TIMERS.CAPTURE (k + 1) ∈ fields) :
    Frame signalled fields alarmWords s (s.timerCapture k) := by
  obtain ⟨⟨heven, -, -⟩, -, -⟩ := s.markOverrun_keeps k
  exact ((s.markOverrun_frame k).mono (by simp) (by simpa using ho) (by simp)).trans
    (State.storeCapture_frame hv hc fun h => hp (heven ▸ h))

end

theorem State.captures_iff (s : State) (k e : Nat) : s.captures k e = true ↔
    s.on (Reg.TIMERS.CH_CTL.CAP_EN k) = true ∧ s.get (Reg.TIMERS.CH_CTL.CAP_SEL k) = e ∧ e < 6
      ∧ s.cascadeOdd k = false := by
  simp [State.captures, and_assoc]

theorem State.cascadeOdd_of_even {s : State} {k : Nat} (h : s.cascadeEven k = true) : s.cascadeOdd k = false := by
  simp only [State.cascadeEven, Bool.and_eq_true, decide_eq_true_eq] at h
  simp [State.cascadeOdd, h.1]

/-- A read of CAPTURE without an edge in its cycle clears CAP_VALID alone. -/
theorem State.captureRead_plain (s : State) (k : Nat) :
    (s.captureRead k false).1 = s.put (Reg.TIMERS.CH_STATUS.CAP_VALID k) 0 := rfl

/-- An edge in the cycle of the read is stored after it. -/
theorem State.captureRead_edge {s : State} {k : Nat} (hen : s.on (Reg.TIMERS.CH_CTL.CAP_EN k) = true)
    (hodd : s.cascadeOdd k = false) :
    (s.captureRead k true).1 = (s.put (Reg.TIMERS.CH_STATUS.CAP_VALID k) 0).storeCapture k := by
  simp [State.captureRead, hen, hodd]

end Sys2Proof.Machine

/-! CERTIFICATE. The capture register (R67). -/

namespace Sys2Proof.Machine

/-- Settles O53: a capture and a read of CAPTURE each have their law, and an edge in the cycle of a read comes after it. -/
theorem captureRegister : Obligations.CaptureRegister := by
  unfold Obligations.CaptureRegister
  refine ⟨fun s k e hup hen hsel he hodd heven hlt => ?_, fun s k e hsel => ?_, fun s k e hup hen hsel he heven hlt => ?_,
    fun s func k hup => ?_, fun s func k hup hen hodd heven hlt => ?_⟩
  · exact ⟨_, exec_timerCapture hup ((s.captures_iff k e).2 ⟨hen, hsel, he, hodd⟩), State.timerCapture_value hlt,
      s.timerCapture_valid k, s.timerCapture_overrun k,
      State.timerCapture_frame (by simp) (by simp) (by simp) (by simp [heven])⟩
  · exact exec_timerCapture_other (Bool.eq_false_iff.2 fun h => hsel ((s.captures_iff k e).1 h).2.1)
  · exact ⟨_, exec_timerCapture hup ((s.captures_iff k e).2 ⟨hen, hsel, he, State.cascadeOdd_of_even heven⟩),
      State.timerCapture_value hlt, State.timerCapture_odd heven hlt⟩
  · exact ⟨_, exec_captureRead hup k false, State.get_put_same _ _ _, (Frame.refl s).put (by simp) 0⟩
  · refine ⟨_, exec_captureRead hup k true, ?_⟩
    rw [State.captureRead_edge hen hodd]
    have hcount : (s.put (Reg.TIMERS.CH_STATUS.CAP_VALID k) 0).get (Reg.TIMERS.COUNT k) = s.get (Reg.TIMERS.COUNT k) :=
      State.get_put_other _ _ _ _ (by
        simp only [Reg.TIMERS.COUNT, Reg.TIMERS.CH_STATUS.CAP_VALID]
        omega)
    refine ⟨?_, State.storeCapture_valid _ _, ?_⟩
    · rw [State.storeCapture_value (by rwa [hcount]), hcount]
    · rw [State.storeCapture_overrun]
      exact State.get_put_other _ _ _ _ (by
        simp only [Reg.TIMERS.CH_STATUS.OVERRUN, Reg.TIMERS.CH_STATUS.CAP_VALID]
        omega)

end Sys2Proof.Machine

/-! SUPPORT. Timer channels over a span: matches, overflows, TIMERS.GO, latching reads of COUNT (R65, R66, R68), and the
reference-cycle tick (R45, R47, R337). -/

namespace Sys2Proof.Machine

/-! ### Matches (R66) -/

section
variable {s : State} {k : Nat}

/-- COMPARE, MATCH and the counts judged as a match leaves them. -/
def State.judged (s : State) (k : Nat) : State :=
  ((s.setTimer k { s.timer k with fresh := s.pastCompare k }).putCompare k
    ((s.timerWide Reg.TIMERS.COMPARE k + s.timerWide Reg.TIMERS.INTERVAL k) % 2 ^ s.timerWidth k)).put
      (Reg.TIMERS.CH_STATUS.MATCH k) 1

theorem State.judged_frame {fields : List Fld} (hm : Reg.TIMERS.CH_STATUS.MATCH k ∈ fields)
    (hc : Reg.TIMERS.COMPARE k ∈ fields) (ho : s.cascadeEven k = true → Reg.TIMERS.COMPARE (k + 1) ∈ fields) :
    Frame [.timers] fields [] s (s.judged k) :=
  have hset := (Frame.refl (cs := [.timers]) (fields := fields) (words := []) s).setTimer (by simp) k
    { s.timer k with fresh := s.pastCompare k }
  ((Frame.ite (fun h => hset.put (ho h) _) fun _ => hset).put hc _).put hm 1

theorem State.judged_match (s : State) (k : Nat) : (s.judged k).get (Reg.TIMERS.CH_STATUS.MATCH k) = 1 :=
  State.get_put_same _ _ _

/-- COMPARE after a match is the low word of the sum. -/
theorem State.judged_compare (s : State) (k : Nat) : (s.judged k).get (Reg.TIMERS.COMPARE k)
    = (s.timerWide Reg.TIMERS.COMPARE k + s.timerWide Reg.TIMERS.INTERVAL k) % 2 ^ s.timerWidth k % 2 ^ 32 := by
  rw [State.judged, State.get_put_other _ _ _ _ (by
    simp only [Reg.TIMERS.COMPARE, Reg.TIMERS.CH_STATUS.MATCH]
    omega)]
  exact State.get_put_same _ _ _

/-- The odd half's COMPARE after a match of a pair is the high word of the sum. -/
theorem State.judged_compareOdd (h : s.cascadeEven k = true) : (s.judged k).get (Reg.TIMERS.COMPARE (k + 1))
    = (s.timerWide Reg.TIMERS.COMPARE k + s.timerWide Reg.TIMERS.INTERVAL k) % 2 ^ s.timerWidth k / 2 ^ 32 % 2 ^ 32 := by
  have hk (x : TimerRun) : (s.setTimer k x).cascadeEven k = true := h
  rw [State.judged, State.get_put_other _ _ _ _ (by
    simp only [Reg.TIMERS.COMPARE, Reg.TIMERS.CH_STATUS.MATCH]
    omega), State.putCompare, if_pos (hk _), State.get_put_other _ _ _ _ (by simp [Reg.TIMERS.COMPARE])]
  exact State.get_put_same _ _ _

/-- A match judges the channel and fires where IE_MATCH is set. -/
theorem State.timerMatch_eq (s : State) (k : Nat) : s.timerMatch k =
    if s.on (Reg.TIMERS.CH_CTL.IE_MATCH k) = true then (s.judged k).fire (64 + k) else s.judged k := by
  have hie : (s.judged k).on (Reg.TIMERS.CH_CTL.IE_MATCH k) = s.on (Reg.TIMERS.CH_CTL.IE_MATCH k) := by
    rw [State.on, (State.judged_frame (s := s) (k := k) (fields := [Reg.TIMERS.CH_STATUS.MATCH k, Reg.TIMERS.COMPARE k,
      Reg.TIMERS.COMPARE (k + 1)]) (by simp) (by simp) (by simp)).get (by
        simp [Reg.TIMERS.COMPARE, Reg.TIMERS.CH_STATUS.MATCH, Reg.TIMERS.CH_CTL.IE_MATCH]
        omega), State.on]
  rw [← hie]
  rfl

theorem State.timerMatch_frame {fields : List Fld} (hm : Reg.TIMERS.CH_STATUS.MATCH k ∈ fields)
    (hc : Reg.TIMERS.COMPARE k ∈ fields) (ho : s.cascadeEven k = true → Reg.TIMERS.COMPARE (k + 1) ∈ fields) :
    Frame (.timers :: signalled) fields alarmWords s (s.timerMatch k) := by
  rw [State.timerMatch_eq]
  exact ((State.judged_frame hm hc ho).mono (by simp) (List.Subset.refl _) (by simp)).trans
    ((State.fireIf_frame _ _ _).mono (by simp) (by simp) (List.Subset.refl _))

theorem State.timerMatch_match (s : State) (k : Nat) : (s.timerMatch k).get (Reg.TIMERS.CH_STATUS.MATCH k) = 1 := by
  rw [State.timerMatch_eq, State.fireIf_get, State.judged_match]

theorem State.timerMatch_pends (hk : k < 32) (hie : s.on (Reg.TIMERS.CH_CTL.IE_MATCH k) = true) :
    (s.timerMatch k).pends (64 + k) := by
  rw [State.timerMatch_eq]
  exact State.fireIf_pends _ _ hie (by omega)

/-- A match of a channel of its own adds INTERVAL to COMPARE on 32 bits. -/
theorem State.timerMatch_compare (h : s.cascadeEven k = false) : (s.timerMatch k).get (Reg.TIMERS.COMPARE k)
    = (s.get (Reg.TIMERS.COMPARE k) + s.get (Reg.TIMERS.INTERVAL k)) % 2 ^ 32 := by
  rw [State.timerMatch_eq, State.fireIf_get, State.judged_compare]
  simp [State.timerWide, State.timerWidth, h]

/-- A match of a pair adds INTERVAL to COMPARE on 64 bits. -/
theorem State.timerMatch_comparePair (h : s.cascadeEven k = true) :
    (s.timerMatch k).get (Reg.TIMERS.COMPARE k) + 2 ^ 32 * (s.timerMatch k).get (Reg.TIMERS.COMPARE (k + 1))
      = (s.get (Reg.TIMERS.COMPARE k) + s.get (Reg.TIMERS.COMPARE (k + 1)) * 2 ^ 32
        + (s.get (Reg.TIMERS.INTERVAL k) + s.get (Reg.TIMERS.INTERVAL (k + 1)) * 2 ^ 32)) % 2 ^ 64 := by
  rw [State.timerMatch_eq, State.fireIf_get, State.fireIf_get, State.judged_compare, State.judged_compareOdd h]
  simp only [State.timerWide, State.timerWidth, h, if_true]
  omega

/-! ### Overflows (R65) -/

theorem State.timerAdd_frame (s : State) (k n pre : Nat) :
    Frame [.timers] [Reg.TIMERS.COUNT k] [] s (s.timerAdd k n pre) :=
  ((Frame.refl s).put (by simp) _).setTimer (by simp) _ _

/-- The counts, the partner's count and OVF as a wrap leaves them. -/
def State.wrapped (s : State) (k : Nat) : State :=
  let t := s.setTimer k { s.timer k with wraps := (s.timer k).wraps - 1 }
  (if t.cascadeEven k then t.timerAdd (k + 1) 1 (t.timer (k + 1)).pre else t).put (Reg.TIMERS.CH_STATUS.OVF k) 1

theorem State.wrapped_frame (s : State) (k : Nat) :
    Frame [.timers] [Reg.TIMERS.CH_STATUS.OVF k, Reg.TIMERS.COUNT (k + 1)] [] s (s.wrapped k) := by
  have hset := (Frame.refl (cs := [.timers]) (fields := [Reg.TIMERS.CH_STATUS.OVF k, Reg.TIMERS.COUNT (k + 1)])
    (words := []) s).setTimer (by simp) k { s.timer k with wraps := (s.timer k).wraps - 1 }
  exact (Frame.ite (fun _ => hset.trans ((State.timerAdd_frame ..).mono (by simp) (by simp) (by simp)))
    fun _ => hset).put (by simp) 1

/-- The odd half of a pair counts the wrap; a channel of its own leaves its neighbour's count. -/
theorem State.wrapped_count (s : State) (k : Nat) : (s.wrapped k).get (Reg.TIMERS.COUNT (k + 1))
    = if s.cascadeEven k = true then (s.get (Reg.TIMERS.COUNT (k + 1)) + 1) % 2 ^ 32
      else s.get (Reg.TIMERS.COUNT (k + 1)) := by
  have hk (x : TimerRun) : (s.setTimer k x).cascadeEven k = s.cascadeEven k := rfl
  rw [State.wrapped, State.get_put_other _ _ _ _ (by
    simp only [Reg.TIMERS.COUNT, Reg.TIMERS.CH_STATUS.OVF]
    omega)]
  simp only [hk]
  split
  · exact State.get_put_same _ _ _
  · rfl

/-- An overflow wraps the channel and fires where IE_OVF is set. -/
theorem State.timerOverflow_eq (s : State) (k : Nat) : s.timerOverflow k =
    if s.on (Reg.TIMERS.CH_CTL.IE_OVF k) = true then (s.wrapped k).fire (64 + k) else s.wrapped k := by
  have hie : (s.wrapped k).on (Reg.TIMERS.CH_CTL.IE_OVF k) = s.on (Reg.TIMERS.CH_CTL.IE_OVF k) := by
    rw [State.on, (s.wrapped_frame k).get (by
      simp [Reg.TIMERS.COUNT, Reg.TIMERS.CH_STATUS.OVF, Reg.TIMERS.CH_CTL.IE_OVF]
      omega), State.on]
  rw [← hie]
  rfl

theorem State.timerOverflow_ovf (s : State) (k : Nat) : (s.timerOverflow k).get (Reg.TIMERS.CH_STATUS.OVF k) = 1 := by
  rw [State.timerOverflow_eq, State.fireIf_get]
  exact State.get_put_same _ _ _

theorem State.timerOverflow_frame (s : State) (k : Nat) : Frame (.timers :: signalled)
    [Reg.TIMERS.CH_STATUS.OVF k, Reg.TIMERS.COUNT (k + 1)] alarmWords s (s.timerOverflow k) := by
  rw [State.timerOverflow_eq]
  exact ((s.wrapped_frame k).mono (by simp) (List.Subset.refl _) (by simp)).trans
    ((State.fireIf_frame _ _ _).mono (by simp) (by simp) (List.Subset.refl _))

theorem State.timerOverflow_pends (hk : k < 32) (hie : s.on (Reg.TIMERS.CH_CTL.IE_OVF k) = true) :
    (s.timerOverflow k).pends (64 + k) := by
  rw [State.timerOverflow_eq]
  exact State.fireIf_pends _ _ hie (by omega)

/-! ### TIMERS.GO (R68) -/

/-- One channel's share of a TIMERS.GO write. -/
theorem State.goStep_get (s : State) (v j k : Nat) :
    (if bitsAt v j 1 = 1 then s.put (Reg.TIMERS.CH_CTL.RUN j) 1 else s).get (Reg.TIMERS.CH_CTL.RUN k)
      = if j = k ∧ bitsAt v k 1 = 1 then 1 else s.get (Reg.TIMERS.CH_CTL.RUN k) := by
  by_cases hjk : j = k
  · subst hjk
    by_cases hv : bitsAt v j 1 = 1
    · simp only [hv, if_true, and_self]
      exact State.get_put_same _ _ _
    · simp [hv]
  · have hkey : (Reg.TIMERS.CH_CTL.RUN j).key ≠ (Reg.TIMERS.CH_CTL.RUN k).key := by
      simp only [Reg.TIMERS.CH_CTL.RUN]
      omega
    split <;> simp [hjk, State.get_put_other _ _ _ _ hkey]

/-- A TIMERS.GO write over the channels of a list sets RUN on those whose bit is 1. -/
theorem State.goEach_get (l : List Nat) (s : State) (v k : Nat) :
    (s.each l fun s j => if bitsAt v j 1 = 1 then s.put (Reg.TIMERS.CH_CTL.RUN j) 1 else s).get
        (Reg.TIMERS.CH_CTL.RUN k)
      = if k ∈ l ∧ bitsAt v k 1 = 1 then 1 else s.get (Reg.TIMERS.CH_CTL.RUN k) := by
  induction l generalizing s with
  | nil => simp [State.each]
  | cons j l ih =>
    refine (ih _).trans ?_
    rw [State.goStep_get]
    by_cases hv : bitsAt v k 1 = 1 <;> by_cases hl : k ∈ l <;> simp [hv, hl, eq_comm]

theorem State.timersGo_frame (s : State) (v : Nat) :
    Frame [] ((List.range 32).map Reg.TIMERS.CH_CTL.RUN) [] s (s.timersGo v) :=
  Frame.each (fun _ hj x => Frame.ite (fun _ => (Frame.refl x).put (List.mem_map_of_mem hj) 1) fun _ => Frame.refl x)
    (Frame.refl s)

/-! ### Latching reads of COUNT (R65) -/

theorem State.countRead_even (h : s.cascadeEven k = true) : s.countRead k
    = (s.setTimer (k + 1) { s.timer (k + 1) with latch := some (s.oddCount (k + 1)) }, s.get (Reg.TIMERS.COUNT k)) :=
  if_pos h

theorem State.cascadeEven_of_odd (h : s.cascadeOdd k = true) : s.cascadeEven k = false := by
  simp only [State.cascadeOdd, Bool.and_eq_true, decide_eq_true_eq] at h
  simp [State.cascadeEven, h.1]

/-- A read of an odd half with a latch pending returns and releases it. -/
theorem State.countRead_latched {v : Nat} (h : s.cascadeOdd k = true) (hl : (s.timer k).latch = some v) :
    s.countRead k = (s.setTimer k { s.timer k with latch := none }, v) := by
  simp [State.countRead, State.cascadeEven_of_odd h, h, hl]

@[simp] theorem State.readDone_timer (s : State) (func off data j : Nat) :
    (s.readDone func off data).timer j = s.timer j := by simp [State.timer]

theorem State.timer_setTimer (s : State) (k : Nat) (r : TimerRun) : (s.setTimer k r).timer k = r := by
  simp [State.timer, State.setTimer, Tbl.getD]

end

/-! ### The reference-cycle tick (R45, R47, R337) -/

theorem exec_timeTick {s : State} (h : s.logicUp = true) (cycles : Nat) :
    exec (.timeTick cycles) s = .next ((s.timeSpan cycles).bootTick cycles) :=
  congrArg Host.Outcome.next (by rw [h, State.when_true])

/-- The counter counts 2^-32 ns, modulo 2^48 s. -/
theorem TimeUnit.advance_total (u : TimeUnit) (cycles : Nat) :
    ((u.advance cycles).sec * 1000000000 + (u.advance cycles).ns) * 2 ^ 32 + (u.advance cycles).frac
      = ((u.sec * 1000000000 + u.ns) * 2 ^ 32 + u.frac + cycles * u.addend) % (2 ^ 48 * 1000000000 * 2 ^ 32) := by
  simp only [TimeUnit.advance]
  generalize cycles * u.addend = d
  omega

theorem TimeUnit.advance_ns (u : TimeUnit) (cycles : Nat) : (u.advance cycles).ns < 1000000000 :=
  Nat.mod_lt _ (by decide)

theorem TimeUnit.advance_addend (u : TimeUnit) (cycles : Nat) : (u.advance cycles).addend = u.addend := rfl

/-- The registers that a tick may write: COUNT of every channel, MOVING of every output and LEFT_MS. -/
def tickFields : List Fld :=
  (List.range 32).map Reg.TIMERS.COUNT ++ (List.range 48).map (fun k => Reg.FDIE.CLKOUT_TIMING.MOVING (k / 8) (k % 8))
    ++ [Reg.BOOT.HEALTH.LEFT_MS]

theorem tickFields_ranges : ∀ f ∈ tickFields, ∃ r ∈ [(0x40100, 0x40500), (0x240004, 0x240008)]
    ++ (List.range 6).map (fun f => (dieOffset f 0x200, dieOffset f 0x280)), 8 * r.1 ≤ f.key ∧ f.key < 8 * r.2 := by
  decide

section
variable {cs : List Component} {fields : List Fld} {s t : State}

theorem State.timerSpan_frame (quarters ns : Nat) {k : Nat} (hc : .timers ∈ cs) (hf : Reg.TIMERS.COUNT k ∈ fields) :
    Frame cs fields [] s (s.timerSpan quarters ns k) := by
  have hadd (n pre : Nat) : Frame cs fields [] s (s.timerAdd k n pre) :=
    (s.timerAdd_frame k n pre).mono (by simpa using hc) (by simpa using hf) (by simp)
  refine Frame.ite (fun _ => ?_) fun _ => Frame.refl s
  split
  · exact hadd _ _
  · exact hadd _ _
  · exact Frame.refl s

theorem State.walkPhase_frame (cycles : Nat) {f n : Nat} (hc : .clk ∈ cs)
    (hf : Reg.FDIE.CLKOUT_TIMING.MOVING f n ∈ fields) : Frame cs fields [] s (s.walkPhase cycles f n) :=
  Frame.ite (fun _ => ((Frame.refl s).setClk hc _).put hf _) fun _ => Frame.refl s

theorem State.runPulses_frame (cycles k : Nat) (hc : .clk ∈ cs) (ho : .out ∈ cs) :
    Frame cs fields [] s (s.runPulses cycles k) := by
  unfold State.runPulses
  split
  · exact Frame.ite (fun _ => ((Frame.refl s).setClk hc _).emitNow ho _) fun _ => (Frame.refl s).setClk hc _
  · exact Frame.refl s

theorem State.bootTick_frame (cycles : Nat) (hc : .boot ∈ cs) (hf : Reg.BOOT.HEALTH.LEFT_MS ∈ fields) :
    Frame cs fields [] s (s.bootTick cycles) := by
  unfold State.bootTick
  split
  · exact ((Frame.refl s).setBoot hc _).put hf _
  · exact Frame.refl s

/-- All that follows the advance of the counter leaves the time unit. -/
theorem State.tick_frame (s : State) (cycles : Nat) : Frame [.clk, .timers, .boot, .out, .free] tickFields []
    { s with time := s.time.advance cycles } ((s.timeSpan cycles).bootTick cycles) := by
  refine Frame.trans ?_ (State.bootTick_frame cycles (by simp) (by simp [tickFields]))
  refine Frame.each (fun k _ x => State.runPulses_frame _ _ (by simp) (by simp)) ?_
  refine Frame.each (fun k hk x => State.walkPhase_frame cycles (by simp) ?_) ?_
  · exact List.mem_append_left _ (List.mem_append_right _ (List.mem_map_of_mem hk))
  refine Frame.each (fun k hk x => State.timerSpan_frame _ _ (by simp) ?_) ?_
  · exact List.mem_append_left _ (List.mem_append_left _ (List.mem_map_of_mem hk))
  exact Frame.ite (fun _ => Frame.refl _) fun _ => (Frame.refl _).spend (by simp) 1

end

end Sys2Proof.Machine

/-! CERTIFICATE. The timer channels and the reference-cycle tick (R47, R64 to R68). -/

namespace Sys2Proof.Machine

/-- Settles O4: the tick moves the counter alone before its frame, and each timer command has its law. -/
theorem timerCommands : Obligations.TimerCommands := by
  unfold Obligations.TimerCommands
  refine ⟨fun s cycles hup _ => ?_, fun s v hup => ⟨_, exec_timersGo hup v, fun k hk => ?_, s.timersGo_frame _⟩,
    fun s k hup hm heven => ?_, fun s k hup hm heven => ?_, fun s k hup hw => ?_, fun s k e hup hcap heven hlt => ?_,
    fun s k e hup hcap heven hlt => ?_, fun s func k hup => ?_, fun s func k hup heven => ?_,
    fun s func k v hup hodd hl => ?_⟩
  · have hf := s.tick_frame cycles
    have htime : ((s.timeSpan cycles).bootTick cycles).time = s.time.advance cycles := hf.same (c := .time) (by simp)
    refine ⟨_, exec_timeTick hup cycles, ?_, htime ▸ s.time.advance_ns cycles, by rw [htime, TimeUnit.advance_addend],
      (((Frame.refl s).setTime (by simp) _).trans (hf.mono (by simp) (List.Subset.refl _) (by simp))).toFrameIn
        tickFields_ranges⟩
    rw [State.counterNs, htime]
    exact s.time.advance_total cycles
  · exact (State.goEach_get _ _ _ _).trans (by simp [hk])
  · exact ⟨_, exec_timerMatch hup hm, s.timerMatch_match k, State.timerMatch_compare heven,
      State.timerMatch_pends k.isLt, State.timerMatch_frame (by simp) (by simp) (by simp [heven])⟩
  · exact ⟨_, exec_timerMatch hup hm, s.timerMatch_match k, State.timerMatch_comparePair heven,
      State.timerMatch_frame (by simp) (by simp) (by simp)⟩
  · refine ⟨_, exec_timerOverflow hup hw, s.timerOverflow_ovf k, ?_, State.timerOverflow_pends k.isLt,
      s.timerOverflow_frame k⟩
    rw [State.timerOverflow_eq, State.fireIf_get, State.wrapped_count]
  · exact ⟨_, exec_timerCapture hup hcap, s.timerCapture_valid k, State.timerCapture_value hlt,
      fun hv => (s.timerCapture_overrun k).trans (if_pos hv), State.timerCapture_pends k.isLt,
      State.timerCapture_frame (by simp) (by simp) (by simp) (by simp [heven])⟩
  · exact ⟨_, exec_timerCapture hup hcap, s.timerCapture_valid k, State.timerCapture_value hlt,
      State.timerCapture_odd heven hlt, State.timerCapture_frame (by simp) (by simp) (by simp) (by simp)⟩
  · exact ⟨_, exec_captureRead hup k false, (State.readDone_get ..).trans (State.get_put_same _ _ _),
      State.readDone_out ..,
      ((Frame.refl s).put (by simp) 0).emit (by simp) (by simp) _⟩
  · refine ⟨_, exec_cascadeCountRead hup k, ?_⟩
    rw [State.countRead_even heven]
    exact ⟨by simp [s.timer_setTimer], State.readDone_out ..,
      ((Frame.refl s).setTimer (by simp) _ _).emit (by simp) (by simp) _⟩
  · refine ⟨_, exec_cascadeCountRead hup k, ?_⟩
    rw [State.countRead_latched hodd hl]
    exact ⟨by simp [s.timer_setTimer], State.readDone_out ..,
      ((Frame.refl s).setTimer (by simp) _ _).emit (by simp) (by simp) _⟩

end Sys2Proof.Machine

/-! SUPPORT. The registers at reset: the two that the state of reset writes, all others at the reset value of their
definition. -/

namespace Sys2Proof.Machine

theorem State.reset_regs : State.reset.regs = [(Reg.BOOT.STATUS.STATE.key, 2), (Reg.SAFE.HEAD.CHECKED.key, 1)] := rfl

/-- A field that the state of reset writes nowhere holds the reset value of its definition. -/
theorem State.reset_get {f : Fld} (hb : Reg.BOOT.STATUS.STATE.key ≠ f.key) (hc : Reg.SAFE.HEAD.CHECKED.key ≠ f.key) :
    State.reset.get f = f.rst := by
  simp [State.get, State.reset_regs, Tbl.getD, Tbl.find?, hb, hc]

end Sys2Proof.Machine

/-! CERTIFICATE. The values at reset (R48, R52, R268, R343). -/

namespace Sys2Proof.Machine

/-- Settles O49: every field named is at the reset value of its definition, and every unit at its first state. -/
theorem resetValues : Obligations.ResetValues := by
  unfold Obligations.ResetValues
  have hreset {f : Fld} {v : Nat} (hb : Reg.BOOT.STATUS.STATE.key ≠ f.key) (hc : Reg.SAFE.HEAD.CHECKED.key ≠ f.key)
      (hv : f.rst = v) : State.reset.get f = v := (State.reset_get hb hc).trans hv
  refine ⟨rfl, rfl, hreset ?_ ?_ rfl, hreset ?_ ?_ rfl, rfl, hreset ?_ ?_ rfl, hreset ?_ ?_ rfl, hreset ?_ ?_ rfl,
    hreset ?_ ?_ rfl, hreset ?_ ?_ rfl, hreset ?_ ?_ rfl, hreset ?_ ?_ rfl, hreset ?_ ?_ rfl,
    fun f _ => ⟨hreset ?_ ?_ rfl, hreset ?_ ?_ rfl⟩, fun n => hreset ?_ ?_ rfl, fun k _ => ⟨rfl, rfl, rfl⟩, rfl, rfl⟩
  case refine_21 | refine_22 | refine_23 | refine_24 =>
    simp only [Reg.BOOT.STATUS.STATE, Reg.SAFE.HEAD.CHECKED, Reg.BCAST.TUNE.FREQ_KHZ, Reg.BCAST.CTL.INTERVAL]
    omega
  case refine_25 | refine_26 =>
    simp only [Reg.BOOT.STATUS.STATE, Reg.SAFE.HEAD.CHECKED, Reg.RING.CTL.EN]
    omega
  all_goals decide

end Sys2Proof.Machine

/-! SUPPORT. What the refill of a slot start leaves in every bucket (R227). -/

namespace Sys2Proof.Machine

theorem exec_slotTick {s : State} (hup : s.logicUp = true) (hdue : s.mscNow ≠ s.time.msc) (l : List (Fin 6))
    (trips : List (Fin 6 × Nat)) : exec (.slotTick l trips) s = .next (s.slotTick l trips) := by
  change execSlotTick l s trips = _
  simp only [execSlotTick, hup, hdue, ne_eq, not_false_eq_true, decide_true, Bool.and_true, State.when_true]

/-- One bucket's share of the refill. -/
def State.refillStep (s : State) (i : Nat) : State :=
  if s.on (Reg.SCHED.BUCKET.EN (i / 8) (i % 8)) then
    s.setTokens (i / 8) (i % 8)
      (min (s.tokens (i / 8) (i % 8) + s.get (Reg.SCHED.BUCKET.RATE (i / 8) (i % 8))) (s.get (Reg.SCHED.BUCKET.BURST (i / 8) (i % 8))))
  else s

/-- The tokens that the refill leaves in bucket i. -/
def State.refilled (s : State) (i : Nat) : Int :=
  if s.on (Reg.SCHED.BUCKET.EN (i / 8) (i % 8)) then
    max (-1279) (min (s.tokens (i / 8) (i % 8) + s.get (Reg.SCHED.BUCKET.RATE (i / 8) (i % 8)))
      (s.get (Reg.SCHED.BUCKET.BURST (i / 8) (i % 8))))
  else s.tokens (i / 8) (i % 8)

theorem State.refillStep_regs (s : State) (i : Nat) : (s.refillStep i).regs = s.regs := by
  unfold State.refillStep
  split <;> rfl

theorem State.refillStep_cask (s : State) (i : Nat) : (s.refillStep i).cask = s.cask := by
  unfold State.refillStep
  split <;> rfl

theorem State.refillStep_tokens_same (s : State) (i : Nat) :
    (s.refillStep i).tokens (i / 8) (i % 8) = s.refilled i := by
  unfold State.refillStep State.refilled
  split
  · simp [State.setTokens, State.tokens, Nat.div_add_mod]
  · rfl

theorem State.refillStep_tokens_other (s : State) {i j : Nat} (h : i ≠ j) :
    (s.refillStep i).tokens (j / 8) (j % 8) = s.tokens (j / 8) (j % 8) := by
  unfold State.refillStep
  split
  · simp only [State.setTokens, State.tokens, Nat.div_add_mod, Tbl.getD_put, if_neg h]
    rfl
  · rfl

/-- The share of a bucket does not go by the other buckets. -/
theorem State.refillStep_refilled_other (s : State) {i j : Nat} (h : i ≠ j) :
    (s.refillStep i).refilled j = s.refilled j := by
  simp only [State.refilled, State.refillStep_tokens_other s h, State.on_of_regs (s.refillStep_regs i),
    State.get_of_regs (s.refillStep_regs i)]

/-- Every bucket of a list is refilled once, whatever the others hold. -/
theorem State.refillEach_tokens {l : List Nat} (hl : l.Nodup) (s : State) (j : Nat) :
    (s.each l State.refillStep).tokens (j / 8) (j % 8)
      = if j ∈ l then s.refilled j else s.tokens (j / 8) (j % 8) := by
  induction l generalizing s with
  | nil => simp
  | cons i l ih =>
    obtain ⟨hi, hl⟩ := List.nodup_cons.1 hl
    rw [State.each_cons, ih hl]
    by_cases hij : i = j
    · subst hij
      simp [hi, State.refillStep_tokens_same]
    · simp [State.refillStep_tokens_other s hij, State.refillStep_refilled_other s hij, Ne.symm hij]

theorem State.refill_tokens (s : State) {j : Nat} (hj : j < 512) :
    s.refill.tokens (j / 8) (j % 8) = s.refilled j :=
  (State.refillEach_tokens List.nodup_range s j).trans (if_pos (List.mem_range.2 hj))

theorem State.refill_cask (s : State) : s.refill.cask = s.cask :=
  State.each_keeps State.cask _ _ State.refillStep_cask s

/-- Where no queue exists, none starves. -/
theorem State.starveScan_of_no_queues {s : State} (h : s.cask.queues = []) : s.starveScan = s := by
  rw [State.starveScan, h, State.each_nil]

end Sys2Proof.Machine

/-! CERTIFICATE. The slot tick on tokens below the least value that R227 gives them. -/

namespace Sys2Proof.Machine

/-- The state of reset with bucket (0, 0) enabled, its tokens 721 below their least value, and a slot to come. -/
def State.deepBucket : State :=
  { State.reset.put (Reg.SCHED.BUCKET.EN 0 0) 1 with
    time := { TimeUnit.init with msc := 1 }
    sched := { State.reset.sched with tokens := [(0, -2000)] } }

/-- The slot tick of that state up to its refill. -/
def State.deepBucketAtRefill : State :=
  let s := State.deepBucket
  let s := { s with time := { s.time with msc := s.mscNow }, air := { s.air with clampTold := [] } }
  ((s.calibrateDies [] []).timerSlot).slotCals.slotUnits

theorem State.deepBucket_due : State.deepBucket.logicUp = true ∧ State.deepBucket.mscNow ≠ State.deepBucket.time.msc := by
  decide +kernel

/-- With a RATE of 0 the sum of the statement is −2,000. -/
theorem State.deepBucket_sum : State.deepBucket.on (Reg.SCHED.BUCKET.EN 0 0) = true
    ∧ min (State.deepBucket.tokens 0 0 + State.deepBucket.get (Reg.SCHED.BUCKET.RATE 0 0))
        (State.deepBucket.get (Reg.SCHED.BUCKET.BURST 0 0)) = -2000 := by
  decide +kernel

theorem State.deepBucketAtRefill_facts :
    State.deepBucketAtRefill.refilled 0 = -1279 ∧ State.deepBucketAtRefill.cask.queues = [] := by
  decide +kernel

/-- The model leaves −1,279 in the bucket. -/
theorem State.deepBucket_tokens : (State.deepBucket.slotTick [] []).tokens 0 0 = -1279 := by
  obtain ⟨htokens, hqueues⟩ := State.deepBucketAtRefill_facts
  have htick : State.deepBucket.slotTick [] [] = State.deepBucketAtRefill.refill.starveScan := rfl
  rw [htick, State.starveScan_of_no_queues (by rw [State.refill_cask, hqueues])]
  exact (State.refill_tokens _ (j := 0) (by decide)).trans htokens

/-- Refutes O44: the first clause adds RATE to whatever tokens a bucket holds, and the model's write of tokens never goes
below −1,279 (R227, log entry 188), so a bucket that holds −2,000 is refilled to −1,279. -/
theorem not_boundaryTicks : ¬ Obligations.BoundaryTicks := by
  unfold Obligations.BoundaryTicks
  rintro ⟨hslot, -⟩
  obtain ⟨hup, hdue⟩ := State.deepBucket_due
  obtain ⟨hen, hsum⟩ := State.deepBucket_sum
  obtain ⟨t, hexec, -, htokens, -⟩ := hslot State.deepBucket [] [] hup hdue
  obtain rfl := Host.Outcome.next.inj ((exec_slotTick hup hdue [] []).symm.trans hexec)
  have hclaim := htokens 0 0 (by decide) (by decide)
  rw [if_pos hen, hsum, State.deepBucket_tokens] at hclaim
  exact absurd hclaim (by decide)

end Sys2Proof.Machine

/-! CERTIFICATE. A frame without a check value for an address whose entry has a parity error (R204). -/

namespace Sys2Proof.Machine

/-- The state of reset with a static entry for address 1 whose stored parity is wrong. -/
def State.badEntry : State :=
  { State.reset with node := ⟨[(staticBase, ⟨1, parityOf 1 + 1⟩)], none, none⟩ }

/-- An item for address 1 whose header asks for no check value. -/
def Downlink.unchecked : Downlink :=
  { first := 0, dst := 1, header := [], seq := 0, ctrs := [], attempts := 0, retries := 0, meets := 0, jobs := [],
    sent := false, awaiting := none, status := .internal, rate := 0, group := 0, cls := 0, flood := false, second := none,
    replayed := false }

/-- The item has a counter, and the lookup that gives it erases the entry. -/
theorem State.badEntry_sent : itemCvlen Downlink.unchecked.header = 0
    ∧ (State.badEntry.downCounter Downlink.unchecked).2 = some 1
    ∧ (State.badEntry.sendCopies .down 0 Downlink.unchecked [] [(0, 0, 0)] 0).node.tab = []
    ∧ State.badEntry.node.tab ≠ [] := by
  decide +kernel

/-- Refutes O29: the last clause asks no sound entry of the destination, and where that entry has a parity error the lookup
of the frame's counter invalidates and reports it (R204), outside the clause's frame. -/
theorem not_clearChannelChecks : ¬ Obligations.ClearChannelChecks := by
  unfold Obligations.ClearChannelChecks
  rintro ⟨-, -, -, -, -, -, -, -, -, -, -, -, -, -, -, -, -, -, -, -, -, -, -, hsend⟩
  obtain ⟨hcv, hcounter, herased, hheld⟩ := State.badEntry_sent
  obtain ⟨_, rfl, -, -, hframe⟩ := hsend State.badEntry _ .down 0 0 0 0 1 Downlink.unchecked [] 0 hcv
    (Prod.ext rfl hcounter)
  have hnode := hframe.same (c := .node) (by simp)
  exact hheld ((congrArg NodeUnit.tab hnode).symm.trans herased)

end Sys2Proof.Machine

/-! SUPPORT. Frames along what the field dies' units do: noise windows and gain markers, the end of trackers, demodulator
contexts and floors, the counts that registers show, automatic gain, SEQ, the HCB masters and the coexistence pairs. -/

namespace Sys2Proof.Machine

section
variable {cs : List Component} {fields words : List Fld} {s t u : State}

theorem State.when_of {c : Bool} (h : c = true) (op : State → State) : s.when c op = op s := if_pos h

theorem State.when_not {c : Bool} (h : c = false) (op : State → State) : s.when c op = s := by rw [h, State.when_false]

theorem dieSource_lt {f j : Nat} (hf : f < 6) (hj : j < 32) : dieSource f j < 512 := by
  unfold dieSource; omega

theorem Frame.setAir (h : Frame cs fields words s t) (hc : .air ∈ cs) (x : Air) :
    Frame cs fields words s { t with air := x } :=
  h.step (fun c hn => by cases c with | air => exact absurd hc hn | _ => rfl) rfl rfl

theorem Frame.bumpSatBy (h : Frame cs fields words s t) {f : Fld} (hf : f ∈ words) (n : Nat) :
    Frame cs fields words s (t.bumpSatBy f n) :=
  h.trans ⟨fun c _ => by cases c <;> rfl, fun _ _ => rfl,
    fun g hg => (Tbl.getD_put _ _ _ _ _).trans (if_neg (hg f hf))⟩

theorem Frame.incSat {f : Fld} (h : Frame cs fields words s t) (hf : f ∈ fields) :
    Frame cs fields words s (t.incSat f) := h.put hf _

theorem Frame.w1c {f : Fld} (h : Frame cs fields words s t) (hf : f ∈ fields) (v : Nat) :
    Frame cs fields words s (t.w1c f v) := Frame.ite (fun _ => h.put hf _) fun _ => h

theorem Frame.raise {f : Fld} (h : Frame cs fields words s t) (hc : signalled ⊆ cs) (hf : f ∈ fields)
    (hw : alarmWords ⊆ words) (d j : Nat) : Frame cs fields words s (t.raise f d j) := (h.put hf 1).fire hc hw _

/-- An event source of a field die that is raised is pending. -/
theorem State.fireDie_pends (s : State) {f j : Nat} (hf : f < 6) (hj : j < 32) :
    (s.fire (dieSource f j)).pends (dieSource f j) := State.fire_pends _ _ _ (.inl ⟨rfl, dieSource_lt hf hj⟩)

@[simp] theorem State.raise_get (s : State) (flag : Fld) (f j : Nat) (g : Fld) :
    (s.raise flag f j).get g = (s.put flag 1).get g := State.fire_get _ _ _

/-! ### Frames -/

theorem Frame.eachCtx {f src : Nat} {op : State → Nat → State}
    (hop : ∀ i, i < 512 → ∀ x : State, Frame cs fields words x (op x i)) (h : Frame cs fields words s t) :
    Frame cs fields words s (t.eachCtx f src op) :=
  h.each fun i hi => hop i (List.mem_range.1 (List.mem_of_mem_filter hi))

theorem Frame.spoil (h : Frame cs fields words s t) (hc : .air ∈ cs) (f i : Nat) (x : Spoil) :
    Frame cs fields words s (t.spoil f i x) := Frame.ite (fun _ => h) fun _ => h.setAir hc _

theorem Frame.mark (h : Frame cs fields words s t) (hc : .air ∈ cs) (f i sample : Nat) (db : Int) :
    Frame cs fields words s (t.mark f i sample db) := (h.setAir hc _).spoil hc f i _

theorem Frame.sendUp (h : Frame cs fields words s t) (hc : .air ∈ cs) (f : Nat) (m : UpMsg) :
    Frame cs fields words s (t.sendUp f m) := h.setAir hc _

theorem Frame.forgetPowers (h : Frame cs fields words s t) (hc : .air ∈ cs) (f i : Nat) :
    Frame cs fields words s (t.forgetPowers f i) := h.setAir hc _

theorem Frame.resetFloors (h : Frame cs fields words s t) (hc : .air ∈ cs) (f i : Nat) :
    Frame cs fields words s (t.resetFloors f i) := h.setAir hc _

/-- The fields of STEEP.TRACK and DEMOD.CTX. -/
def trackFields (f : Nat) : List Fld := [Reg.STEEP.TRACK.IN_USE f, Reg.STEEP.TRACK.PEAK f]

def ctxFields (f : Nat) : List Fld := [Reg.DEMOD.CTX.IN_USE f, Reg.DEMOD.CTX.PEAK f]

theorem Frame.showUse {use peak : Fld} (h : Frame cs fields words s t) (hu : use ∈ fields) (hp : peak ∈ fields) (n : Nat) :
    Frame cs fields words s (t.showUse use peak n) := (h.put hu _).put hp _

theorem Frame.showTrack (h : Frame cs fields words s t) {f : Nat} (hf : trackFields f ⊆ fields) :
    Frame cs fields words s (t.showTrack f) := h.showUse (hf (by simp [trackFields])) (hf (by simp [trackFields])) _

theorem Frame.showCtx (h : Frame cs fields words s t) {f : Nat} (hf : ctxFields f ⊆ fields) :
    Frame cs fields words s (t.showCtx f) := h.showUse (hf (by simp [ctxFields])) (hf (by simp [ctxFields])) _

theorem Frame.freeTrackers {f : Nat} {count : Fld} (h : Frame cs fields words s t) (hc : .air ∈ cs)
    (hf : trackFields f ⊆ fields) (hw : count ∈ words) (p : Tracker → Bool) :
    Frame cs fields words s (t.freeTrackers f p count) :=
  (((h.each fun _ _ x => (Frame.refl x).spoil hc f _ _).setAir hc _).bumpBy hw _).showTrack hf

theorem Frame.endCtxs {f : Nat} {count : Fld} (h : Frame cs fields words s t) (hc : .air ∈ cs)
    (hf : ctxFields f ⊆ fields) (hw : count ∈ words) (p : DemodCtx → Bool) (blanked : Bool) :
    Frame cs fields words s (t.endCtxs f p blanked count) :=
  ((Frame.each (fun _ _ x => ((Frame.refl x).sendUp hc f _).spoil hc f _ _) (h.setAir hc _)).bumpBy hw _).showCtx hf

/-- The fields and words that the loss of a context's source writes (R74, R143). -/
def lossFields (f : Nat) : List Fld := trackFields f ++ ctxFields f

def lossWords (f : Nat) : List Fld := [Reg.STEEP.SOURCE_LOST f, Reg.DEMOD.SOURCE_LOST f]

theorem Frame.loseStream {f : Nat} (h : Frame cs fields words s t) (hc : .air ∈ cs) (hf : lossFields f ⊆ fields)
    (hw : lossWords f ⊆ words) (i : Nat) : Frame cs fields words s (t.loseStream f i) :=
  (h.freeTrackers hc (fun _ hm => hf (List.mem_append_left _ hm)) (hw (by simp [lossWords])) _).endCtxs hc
    (fun _ hm => hf (List.mem_append_right _ hm)) (hw (by simp [lossWords])) _ _

theorem Frame.blankStream {f n : Nat} (h : Frame cs fields words s t) (hc : .air ∈ cs) (hf : lossFields f ⊆ fields)
    (hw : Reg.LINK.BLANK_CNT f n ∈ words) (i : Nat) : Frame cs fields words s (t.blankStream f n i) :=
  ((((Frame.each (fun _ _ x => (Frame.refl x).sendUp hc f _) (h.setAir hc _)).bumpSatBy hw _).showTrack
    fun _ hm => hf (List.mem_append_left _ hm)).showCtx fun _ hm => hf (List.mem_append_right _ hm)).spoil hc f i _

/-- The fields of SPARGE.STATUS. -/
def spargeFields (f : Nat) : List Fld := [Reg.SPARGE.STATUS.W_CONTEXTS f, Reg.SPARGE.STATUS.N_CHANNELS f]

theorem Frame.recount {f : Nat} (h : Frame cs fields words s t) (hc : .air :: signalled ⊆ cs)
    (hf : spargeFields f ⊆ fields) (hw : alarmWords ⊆ words) : Frame cs fields words s (t.recount f) := by
  have hshow : Frame cs fields words s (t.showSparge f) :=
    (h.put (hf (by simp [spargeFields])) _).put (hf (by simp [spargeFields])) _
  exact Frame.ite (fun _ => (hshow.setAir (hc (by simp)) _).fire (fun _ hm => hc (by simp [hm])) hw _) fun _ => hshow

theorem Frame.setSeq (h : Frame cs fields words s t) (hc : .air ∈ cs) (f : Nat) (q : SeqRun) :
    Frame cs fields words s (t.setSeq f q) := h.setAir hc _

theorem Frame.setHcb (h : Frame cs fields words s t) (hc : .air ∈ cs) (f m : Nat) (x : HcbMaster) :
    Frame cs fields words s (t.setHcb f m x) := h.setAir hc _

theorem Frame.setChain (h : Frame cs fields words s t) (hc : .air ∈ cs) (f c : Nat) (r : ChainRun) :
    Frame cs fields words s (t.setChain f c r) := h.setAir hc _

theorem Frame.setCx (h : Frame cs fields words s t) (hc : .air ∈ cs) (f n : Nat) (x : CxRun) :
    Frame cs fields words s (t.setCx f n x) := h.setAir hc _

theorem Frame.setGain {f src : Nat} (h : Frame cs fields words s t) (hc : .air ∈ cs)
    (hf : 40 ≤ src → Reg.FRF.RXCH.GAIN f (src - 40) ∈ fields) (g : GainRun) :
    Frame cs fields words s (t.setGain f src g) :=
  Frame.ite (fun hs => (h.setAir hc _).put (hf hs) _) fun _ => h.setAir hc _

end

/-! ### What stays of the field dies' units -/

/-- Nothing of the field dies' units changes but what the search and the demodulators hold of the streams, and what has been
told of floors. -/
def State.StreamsOnly (s t : State) : Prop :=
  t.air = { s.air with
    trackers := t.air.trackers, ctxs := t.air.ctxs, up := t.air.up, spoilt := t.air.spoilt, floors := t.air.floors
    powers := t.air.powers, markers := t.air.markers, dgain := t.air.dgain, floorsTold := t.air.floorsTold }

namespace State.StreamsOnly
variable {s t u : State}

theorem refl (s : State) : s.StreamsOnly s := rfl

theorem trans (h : s.StreamsOnly t) (k : t.StreamsOnly u) : s.StreamsOnly u := by
  simp only [State.StreamsOnly] at h k ⊢
  rw [k, h]

/-- What writes no field die's unit keeps the relation. -/
theorem other (h : s.StreamsOnly t) (ha : u.air = t.air) : s.StreamsOnly u := h.trans (by rw [State.StreamsOnly, ha])

theorem ite {c : Prop} [Decidable c] (ht : s.StreamsOnly t) (hu : s.StreamsOnly u) :
    s.StreamsOnly (if c then t else u) := by
  split
  · exact ht
  · exact hu

theorem each {α : Type} {l : List α} {op : State → α → State} (hop : ∀ x a, State.StreamsOnly x (op x a))
    (h : s.StreamsOnly t) : s.StreamsOnly (t.each l op) := by
  induction l generalizing t with
  | nil => exact h
  | cons a l ih => exact ih (h.trans (hop t a))

theorem eachCtx {f src : Nat} {op : State → Nat → State} (hop : ∀ x a, State.StreamsOnly x (op x a))
    (h : s.StreamsOnly t) : s.StreamsOnly (t.eachCtx f src op) := h.each hop

theorem put (h : s.StreamsOnly t) (f : Fld) (v : Nat) : s.StreamsOnly (t.put f v) := h.other rfl

theorem spoil (h : s.StreamsOnly t) (f i : Nat) (x : Spoil) : s.StreamsOnly (t.spoil f i x) :=
  ite h (h.trans (u := { t with air := { t.air with spoilt := _ } }) rfl)

theorem setMarkers (h : s.StreamsOnly t) (x : Tbl (List (Nat × Int))) :
    s.StreamsOnly { t with air := { t.air with markers := x } } := h.trans rfl

theorem mark (h : s.StreamsOnly t) (f i sample : Nat) (db : Int) : s.StreamsOnly (t.mark f i sample db) :=
  (h.setMarkers _).spoil f i .whole

theorem forgetPowers (h : s.StreamsOnly t) (f i : Nat) : s.StreamsOnly (t.forgetPowers f i) := h.trans rfl

theorem resetFloors (h : s.StreamsOnly t) (f i : Nat) : s.StreamsOnly (t.resetFloors f i) := h.trans rfl

theorem freeTrackers (h : s.StreamsOnly t) (f : Nat) (p : Tracker → Bool) (count : Fld) :
    s.StreamsOnly (t.freeTrackers f p count) := by
  have hspoil : s.StreamsOnly (t.each (t.air.trackers.filter fun e => e.1 / 2048 = f && p e.2)
      fun s e => s.spoil f e.2.ctx (.tracker e.2.w e.2.chan)) := h.each fun x _ => (refl x).spoil f _ _
  exact hspoil.trans rfl

theorem endCtxs (h : s.StreamsOnly t) (f : Nat) (p : DemodCtx → Bool) (blanked : Bool) (count : Fld) :
    s.StreamsOnly (t.endCtxs f p blanked count) := by
  have hgone : s.StreamsOnly { t with air := { t.air with
      ctxs := t.air.ctxs.filter fun e => !(e.1 / 4096 = f && p e.2) } } := h.trans rfl
  refine other (each (l := t.air.ctxs.filter fun e => e.1 / 4096 = f && p e.2)
    (op := fun s e => (s.sendUp f (.endNotice e.2.serial blanked)).spoil f e.2.ctx (.frame e.2.w e.2.chan))
    (fun x e => ?_) hgone) rfl
  exact (trans (t := x.sendUp f (.endNotice e.2.serial blanked)) rfl (refl _)).spoil f _ _

theorem loseStream (h : s.StreamsOnly t) (f i : Nat) : s.StreamsOnly (t.loseStream f i) :=
  (h.freeTrackers f _ _).endCtxs f _ _ _

theorem recount (h : s.StreamsOnly t) (f : Nat) : s.StreamsOnly (t.recount f) := by
  refine h.trans ?_
  show State.StreamsOnly t (if _ then _ else _)
  refine ite (other (t := { t.showSparge f with air := { t.air with floorsTold := f :: t.air.floorsTold } }) rfl ?_)
    (other (refl t) ?_)
  · exact (State.fire_frame _ _).2.2.2.2.2.2.2.1
  · rfl

end State.StreamsOnly

end Sys2Proof.Machine

/-! SUPPORT. JESD204C links (R70 to R78): the writes of LINK.CFG in their legal and illegal cases, and what enabling,
disabling and restarting a link leaves. -/

namespace Sys2Proof.Machine

theorem exec_linkCfgWrite {s : State} {f : Fin 6} (h : s.hostUp = true) (hd : s.dieUp f = true) (k : Fin 48)
    (v : BitVec 32) : exec (.linkCfgWrite f k v) s
      = .next ((s.recorded [(f.val, dieOffset f (0x40000 + k * 0x20), v.toNat)]).linkCfg f k v.toNat) :=
  congrArg Host.Outcome.next (State.hostWriteReg_die h (dieOfOffset_die f.isLt (by omega)) hd _ _)

theorem exec_linkDisable {s : State} {f : Fin 6} (h : s.hostUp = true) (hd : s.dieUp f = true) (k : Fin 48)
    (v : BitVec 32) : exec (.linkDisable f k v) s
      = .next ((s.recorded [(f.val, dieOffset f (0x40000 + k * 0x20), v.toNat / 2 * 2)]).linkCfg f k (v.toNat / 2 * 2)) :=
  congrArg Host.Outcome.next (State.hostWriteReg_die h (dieOfOffset_die f.isLt (by omega)) hd _ _)

/-! ### LINK.CFG (R70, R73) -/

theorem bitsAt_lt (n lo w : Nat) : bitsAt n lo w < 2 ^ w := Nat.mod_lt _ (Nat.two_pow_pos w)

/-- The fields of LINK.CFG, and those that follow a link's state. -/
def linkCfgFields (f k : Nat) : List Fld := [Reg.LINK.CFG.EN f k, Reg.LINK.CFG.L_LOG2 f k, Reg.LINK.CFG.FIRST_LANE f k,
  Reg.LINK.CFG.M f k, Reg.LINK.CFG.NP16 f k, Reg.LINK.CFG.WIDTH f k, Reg.LINK.CFG.E_M1 f k, Reg.LINK.CFG.SYSREF_SEL f k]

def linkStateFields (f k : Nat) : List Fld := [Reg.LINK.STATUS.STATE f k, Reg.LINK.STATUS.RESTARTS f k,
  Reg.LINK.STATUS.CRC_ERR f k, Reg.LINK.STATUS.HOTPLUG f k, Reg.LINK.RX_LAT.VALID f k]

theorem Frame.putLinkCfg {cs : List Component} {fields words : List Fld} {s t : State} {f k : Nat}
    (h : Frame cs fields words s t) (hf : linkCfgFields f k ⊆ fields) (v : Nat) :
    Frame cs fields words s (t.putLinkCfg f k v) := by
  refine ((((((((h.put (hf ?_) _).put (hf ?_) _).put (hf ?_) _).put (hf ?_) _).put (hf ?_) _).put (hf ?_) _).put
    (hf ?_) _).put (hf ?_) _) <;> simp [linkCfgFields]

theorem State.putLinkCfg_get (s : State) (f k v : Nat) :
    (s.putLinkCfg f k v).get (Reg.LINK.CFG.EN f k) = bitsAt v 0 1
      ∧ (s.putLinkCfg f k v).get (Reg.LINK.CFG.M f k) = bitsAt v 9 5
      ∧ (s.putLinkCfg f k v).get (Reg.LINK.CFG.WIDTH f k) = bitsAt v 15 3 := by
  refine ⟨?_, ?_, ?_⟩ <;>
    simp [State.putLinkCfg, Reg.LINK.CFG.EN, Reg.LINK.CFG.L_LOG2, Reg.LINK.CFG.FIRST_LANE, Reg.LINK.CFG.M,
      Reg.LINK.CFG.NP16, Reg.LINK.CFG.WIDTH, Reg.LINK.CFG.E_M1, Reg.LINK.CFG.SYSREF_SEL, bitsAt]

/-- A field outside SPARGE.STATUS stands through a recount. -/
theorem State.recount_get (s : State) {f : Nat} {g : Fld} (hg : ∀ x ∈ spargeFields f, x.key ≠ g.key) :
    (s.recount f).get g = s.get g :=
  ((Frame.refl s).recount (cs := .air :: signalled) (words := alarmWords) (List.Subset.refl _) (List.Subset.refl _)
    (List.Subset.refl _)).get hg

/-! ### Where the fields lie in BAR0 -/

theorem dieOffset_eq (f o : Nat) : dieOffset f o = o + (0x1000000 + f * 0x400000) := Nat.add_comm _ _

theorem linkCfgFields_range (f k : Nat) : ∀ x ∈ linkCfgFields f k,
    8 * dieOffset f (0x40000 + k * 0x20) ≤ x.key ∧ x.key < 8 * dieOffset f (0x40004 + k * 0x20) := by
  simp only [linkCfgFields, List.mem_cons, forall_eq_or_imp, forall_eq, List.not_mem_nil, or_false,
    Reg.LINK.CFG.EN, Reg.LINK.CFG.L_LOG2, Reg.LINK.CFG.FIRST_LANE,
    Reg.LINK.CFG.M, Reg.LINK.CFG.NP16, Reg.LINK.CFG.WIDTH, Reg.LINK.CFG.E_M1, Reg.LINK.CFG.SYSREF_SEL, dieOffset_eq]
  omega

theorem linkStateFields_range (f k : Nat) : ∀ x ∈ linkStateFields f k,
    8 * dieOffset f (0x40008 + k * 0x20) ≤ x.key ∧ x.key < 8 * dieOffset f (0x40010 + k * 0x20) := by
  simp only [linkStateFields, List.mem_cons, forall_eq_or_imp, forall_eq, List.not_mem_nil, or_false,
    Reg.LINK.STATUS.STATE, Reg.LINK.STATUS.RESTARTS,
    Reg.LINK.STATUS.CRC_ERR, Reg.LINK.STATUS.HOTPLUG, Reg.LINK.RX_LAT.VALID, dieOffset_eq]
  omega

theorem spargeFields_range (f : Nat) : ∀ x ∈ spargeFields f,
    8 * dieOffset f 0x100800 ≤ x.key ∧ x.key < 8 * dieOffset f 0x100804 := by
  simp only [spargeFields, List.mem_cons, forall_eq_or_imp, forall_eq, List.not_mem_nil, or_false,
    Reg.SPARGE.STATUS.W_CONTEXTS, Reg.SPARGE.STATUS.N_CHANNELS, dieOffset_eq]
  omega

theorem trackFields_range (f : Nat) : ∀ x ∈ trackFields f,
    8 * dieOffset f 0x140048 ≤ x.key ∧ x.key < 8 * dieOffset f 0x14004C := by
  simp only [trackFields, List.mem_cons, forall_eq_or_imp, forall_eq, List.not_mem_nil, or_false,
    Reg.STEEP.TRACK.IN_USE, Reg.STEEP.TRACK.PEAK, dieOffset_eq]
  omega

theorem ctxFields_range (f : Nat) : ∀ x ∈ ctxFields f,
    8 * dieOffset f 0x180004 ≤ x.key ∧ x.key < 8 * dieOffset f 0x180008 := by
  simp only [ctxFields, List.mem_cons, forall_eq_or_imp, forall_eq, List.not_mem_nil, or_false,
    Reg.DEMOD.CTX.IN_USE, Reg.DEMOD.CTX.PEAK, dieOffset_eq]
  omega

/-- The counts of SPARGE, STEEP and DEMOD show in registers of their own, past those of the links and streams. -/
theorem shownFields_high {f : Nat} {x : Fld} (hx : x ∈ spargeFields f ++ lossFields f) :
    8 * dieOffset f 0x100800 ≤ x.key := by
  simp only [lossFields, List.mem_append] at hx
  rcases hx with hx | hx | hx
  · exact (spargeFields_range f x hx).1
  · have := (trackFields_range f x hx).1
    rw [dieOffset_eq] at this ⊢; omega
  · have := (ctxFields_range f x hx).1
    rw [dieOffset_eq] at this ⊢; omega

theorem linkFields_apart {f k : Nat} (hk : k < 48) {x g : Fld} (hx : x ∈ spargeFields f ++ lossFields f)
    (hg : g ∈ linkCfgFields f k ++ linkStateFields f k) : x.key ≠ g.key := by
  have hhigh := shownFields_high hx
  have hlow : g.key < 8 * dieOffset f (0x40010 + k * 0x20) := by
    rcases List.mem_append.1 hg with hg | hg
    · have := (linkCfgFields_range f k g hg).2
      rw [dieOffset_eq] at this ⊢; omega
    · exact (linkStateFields_range f k g hg).2
  rw [dieOffset_eq] at hhigh hlow; omega

/-- A write is illegal by its value, by R70 when it sets EN, or when it changes another field while EN is 1. -/
theorem State.linkCfg_illegal {s : State} {f k v : Nat} (h : linkCfgRange v = false
      ∨ (bitsAt v 0 1 = 1 ∧ s.on (Reg.LINK.CFG.EN f k) = false ∧ s.linkCfgOk f k v = false)
      ∨ (bitsAt v 0 1 = 1 ∧ s.on (Reg.LINK.CFG.EN f k) = true ∧ bitsAt v 0 29 - 1 ≠ s.linkFields f k)) :
    s.linkCfg f k v = s.illegal (dieOffset f (0x40000 + k * 0x20)) := by
  by_cases hr : linkCfgRange v = false
  · simp [State.linkCfg, hr]
  · rcases h with h | ⟨h1, hoff, hno⟩ | ⟨h1, hon, hne⟩
    · exact absurd h hr
    · simp [State.linkCfg, h1, hoff, hno]
    · simp [State.linkCfg, h1, hon, hne]

theorem State.linkCfg_enables {s : State} {f k v : Nat} (hr : linkCfgRange v = true) (h1 : bitsAt v 0 1 = 1)
    (hoff : s.on (Reg.LINK.CFG.EN f k) = false) (hok : s.linkCfgOk f k v = true) :
    s.linkCfg f k v = ((s.putLinkCfg f k v).enableLink f k).recount f := by
  simp [State.linkCfg, hr, h1, hoff, hok]

theorem State.linkCfg_disables {s : State} {f k v : Nat} (hr : linkCfgRange v = true) (h0 : bitsAt v 0 1 = 0)
    (hon : s.on (Reg.LINK.CFG.EN f k) = true) :
    s.linkCfg f k v = ((s.disableLink f k).putLinkCfg f k v).recount f := by
  simp [State.linkCfg, hr, h0, hon]

/-! ### A link begins and leaves its states (R73, R74) -/

theorem Frame.unlock {cs : List Component} {fields words : List Fld} {s t : State} {f k : Nat}
    (h : Frame cs fields words s t) (hc : .air ∈ cs) (hf : Reg.LINK.RX_LAT.VALID f k ∈ fields) :
    Frame cs fields words s (t.unlock f k) := (h.setAir hc _).put hf _

theorem Frame.enableLink {cs : List Component} {fields words : List Fld} {s t : State} {f k : Nat}
    (h : Frame cs fields words s t) (hc : .air ∈ cs) (hf : linkStateFields f k ⊆ fields) :
    Frame cs fields words s (t.enableLink f k) := by
  have hcount : Frame cs fields words s ((t.put (Reg.LINK.STATUS.RESTARTS f k) 0).put
      (Reg.LINK.STATUS.CRC_ERR f k) 0) := by
    refine (h.put (hf ?_) _).put (hf ?_) _ <;> simp [linkStateFields]
  refine Frame.ite (fun hk => ?_) fun _ => (hcount.setAir hc _).put (hf (by simp [linkStateFields])) _
  exact (((hcount.setAir hc _).unlock hc (hf (by simp [linkStateFields]))).put
    (hf (by simp [linkStateFields])) _).setGain hc (fun h40 => absurd hk (by omega)) _

theorem State.setGain_get_link {s : State} {f src : Nat} (h : src < 40) (g : GainRun) (x : Fld) :
    (s.setGain f src g).get x = s.get x := by
  rw [State.setGain, if_neg (by omega)]; rfl

/-- A receive link searches, its counters clear, its lane latency not valid (R73, R77). -/
theorem State.enableLink_receive (s : State) {f k : Nat} (hk : k < 40) :
    (s.enableLink f k).get (Reg.LINK.STATUS.STATE f k) = 1 ∧ (s.enableLink f k).get (Reg.LINK.STATUS.RESTARTS f k) = 0
      ∧ (s.enableLink f k).get (Reg.LINK.STATUS.CRC_ERR f k) = 0
      ∧ (s.enableLink f k).get (Reg.LINK.RX_LAT.VALID f k) = 0 := by
  simp only [State.enableLink, if_pos hk, State.startGain, State.setGain_get_link hk, State.unlock]
  refine ⟨?_, ?_, ?_, ?_⟩ <;>
    simp [State.get, State.put, Reg.LINK.STATUS.STATE, Reg.LINK.STATUS.RESTARTS, Reg.LINK.STATUS.CRC_ERR,
      Reg.LINK.RX_LAT.VALID]
  omega

theorem State.enableLink_transmit (s : State) {f k : Nat} (hk : 40 ≤ k) :
    (s.enableLink f k).get (Reg.LINK.STATUS.STATE f k) = 3 := by
  simp [State.enableLink, Nat.not_lt.2 hk, Reg.LINK.STATUS.STATE]

/-! ### What ends with a source (R74, R371) -/

@[simp] theorem State.spoil_trackers (s : State) (f i : Nat) (x : Spoil) :
    (s.spoil f i x).air.trackers = s.air.trackers := by
  simp only [State.spoil]; split <;> rfl

@[simp] theorem State.spoil_ctxs (s : State) (f i : Nat) (x : Spoil) : (s.spoil f i x).air.ctxs = s.air.ctxs := by
  simp only [State.spoil]; split <;> rfl

@[simp] theorem State.freeTrackers_trackers (s : State) (f : Nat) (p : Tracker → Bool) (count : Fld) :
    (s.freeTrackers f p count).air.trackers = s.air.trackers.filter fun e => !(e.1 / 2048 = f && p e.2) :=
  congrArg (List.filter _) (State.each_keeps (fun x => x.air.trackers) _ _ (fun x _ => x.spoil_trackers _ _ _) s)

@[simp] theorem State.freeTrackers_ctxs (s : State) (f : Nat) (p : Tracker → Bool) (count : Fld) :
    (s.freeTrackers f p count).air.ctxs = s.air.ctxs :=
  State.each_keeps (fun x => x.air.ctxs) _ _ (fun x _ => x.spoil_ctxs _ _ _) s

@[simp] theorem State.endCtxs_trackers (s : State) (f : Nat) (p : DemodCtx → Bool) (blanked : Bool) (count : Fld) :
    (s.endCtxs f p blanked count).air.trackers = s.air.trackers :=
  State.each_keeps (fun x => x.air.trackers) _ _ (fun x _ => State.spoil_trackers (x.sendUp f _) _ _ _) _

@[simp] theorem State.endCtxs_ctxs (s : State) (f : Nat) (p : DemodCtx → Bool) (blanked : Bool) (count : Fld) :
    (s.endCtxs f p blanked count).air.ctxs = s.air.ctxs.filter fun e => !(e.1 / 4096 = f && p e.2) :=
  State.each_keeps (fun x => x.air.ctxs) _ _ (fun x _ => State.spoil_ctxs (x.sendUp f _) _ _ _) _

/-- A fold whose every step removes what its own element names leaves none of what the list names. -/
theorem State.each_removes {α β : Type} {held : State → List β} {names : β → α → Prop} {op : State → α → State}
    (hop : ∀ x a, ∀ e ∈ held (op x a), e ∈ held x ∧ ¬ names e a) (l : List α) (s : State) :
    ∀ e ∈ held (s.each l op), e ∈ held s ∧ ∀ a ∈ l, ¬ names e a := by
  induction l generalizing s with
  | nil => exact fun e he => ⟨he, fun _ h => absurd h (List.not_mem_nil)⟩
  | cons a l ih =>
    intro e he
    obtain ⟨hin, hnone⟩ := ih (op s a) e he
    obtain ⟨hs, ha⟩ := hop s a e hin
    exact ⟨hs, fun b hb => by
      rcases List.mem_cons.1 hb with rfl | hb
      · exact ha
      · exact hnone b hb⟩

theorem State.loseStream_trackers (s : State) (f i : Nat) : ∀ e ∈ (s.loseStream f i).air.trackers,
    e ∈ s.air.trackers ∧ ¬ (e.1 / 2048 = f ∧ e.2.ctx = i) := fun e he => by
  simpa [State.loseStream, List.mem_filter, imp_iff_not_or] using he

theorem State.loseStream_ctxs (s : State) (f i : Nat) : ∀ e ∈ (s.loseStream f i).air.ctxs,
    e ∈ s.air.ctxs ∧ ¬ (e.1 / 4096 = f ∧ e.2.ctx = i) := fun e he => by
  simpa [State.loseStream, List.mem_filter, imp_iff_not_or] using he

theorem mem_filter_range {p : Nat → Bool} {n i : Nat} (hi : i < n) (h : p i ≠ false) : i ∈ (List.range n).filter p :=
  List.mem_filter.2 ⟨List.mem_range.2 hi, Bool.eq_true_of_not_eq_false h⟩

/-- Once the streams of a source are lost, nothing detected on them is left. -/
theorem State.eachCtx_loses {op : State → Nat → State} {f : Nat}
    (ht : ∀ x i, (op x i).air.trackers = (x.loseStream f i).air.trackers)
    (hd : ∀ x i, (op x i).air.ctxs = (x.loseStream f i).air.ctxs) (s : State) (src : Nat) :
    (∀ e ∈ (s.eachCtx f src op).air.trackers,
        e ∈ s.air.trackers ∧ (e.1 / 2048 = f → e.2.ctx < 512 → s.ctxOfSource f src e.2.ctx = false))
      ∧ ∀ e ∈ (s.eachCtx f src op).air.ctxs,
        e ∈ s.air.ctxs ∧ (e.1 / 4096 = f → e.2.ctx < 512 → s.ctxOfSource f src e.2.ctx = false) := by
  have htrackers := State.each_removes (held := fun x => x.air.trackers) (op := op)
    (names := fun e i => e.1 / 2048 = f ∧ e.2.ctx = i) (fun x i => by simpa only [ht] using x.loseStream_trackers f i)
    ((List.range 512).filter (s.ctxOfSource f src)) s
  have hctxs := State.each_removes (held := fun x => x.air.ctxs) (op := op)
    (names := fun e i => e.1 / 4096 = f ∧ e.2.ctx = i) (fun x i => by simpa only [hd] using x.loseStream_ctxs f i)
    ((List.range 512).filter (s.ctxOfSource f src)) s
  unfold State.eachCtx
  refine ⟨fun e he => ⟨(htrackers e he).1, fun hf hi => ?_⟩, fun e he => ⟨(hctxs e he).1, fun hf hi => ?_⟩⟩
  · by_contra hof
    exact (htrackers e he).2 _ (mem_filter_range hi hof) ⟨hf, rfl⟩
  · by_contra hof
    exact (hctxs e he).2 _ (mem_filter_range hi hof) ⟨hf, rfl⟩

end Sys2Proof.Machine

/-! SUPPORT. Links in and out of lock (R73, R74): the contexts of a source, what a write of EN and a restart leave. -/

namespace Sys2Proof.Machine

theorem signalled_air : signalled ⊆ .air :: signalled := List.subset_cons_self ..

theorem linkFields_range {f k : Nat} {x : Fld} (hx : x ∈ linkCfgFields f k ++ linkStateFields f k) :
    8 * dieOffset f (0x40000 + k * 0x20) ≤ x.key ∧ x.key < 8 * dieOffset f (0x40010 + k * 0x20) := by
  simp only [dieOffset_eq]
  rcases List.mem_append.1 hx with hx | hx
  · have := linkCfgFields_range f k x hx
    simp only [dieOffset_eq] at this
    omega
  · have := linkStateFields_range f k x hx
    simp only [dieOffset_eq] at this
    omega

/-- What EN 1 on a disabled link leaves of LINK.CFG, and where the write stays (R70, R73). -/
theorem State.linkCfg_enabled {s : State} {f k v : Nat} (hk : k < 48) (hr : linkCfgRange v = true)
    (h1 : bitsAt v 0 1 = 1) (hoff : s.on (Reg.LINK.CFG.EN f k) = false) (hok : s.linkCfgOk f k v = true) :
    (∀ g ∈ linkStateFields f k, (s.linkCfg f k v).get g = ((s.putLinkCfg f k v).enableLink f k).get g)
      ∧ (∀ g ∈ linkCfgFields f k, (s.linkCfg f k v).get g = (s.putLinkCfg f k v).get g)
      ∧ Frame (.air :: signalled) (linkCfgFields f k ++ linkStateFields f k ++ spargeFields f) alarmWords
          s (s.linkCfg f k v) := by
  rw [State.linkCfg_enables hr h1 hoff hok]
  have hlow {g : Fld} (hg : g ∈ linkCfgFields f k ++ linkStateFields f k) (t : State) : (t.recount f).get g = t.get g :=
    t.recount_get fun x hx => linkFields_apart hk (List.mem_append_left _ hx) hg
  refine ⟨fun g hg => hlow (List.mem_append_right _ hg) _, fun g hg => ?_, ?_⟩
  · rw [hlow (List.mem_append_left _ hg)]
    refine ((Frame.refl _).enableLink (cs := [.air]) (words := []) (by simp) (List.Subset.refl _)).get fun x hx he => ?_
    have hx := (linkStateFields_range f k x hx).1
    have hg := (linkCfgFields_range f k g hg).2
    rw [dieOffset_eq] at hx hg
    omega
  · refine (((Frame.refl s).putLinkCfg ?_ v).enableLink (by simp) ?_).recount (List.Subset.refl _) ?_
      (List.Subset.refl _) <;> intro x hx <;> simp [hx]

/-! ### Contexts of a source -/

/-- The fields of STREAM. -/
def streamFields (f i : Nat) : List Fld := [Reg.LINK.STREAM.EN f i, Reg.LINK.STREAM.SRC f i, Reg.LINK.STREAM.SRC_RF f i,
  Reg.LINK.STREAM.SLOT f i, Reg.LINK.STREAM.PART f i, Reg.LINK.STREAM.BLANK_GRP f i]

theorem streamFields_range (f i : Nat) : ∀ x ∈ streamFields f i,
    8 * dieOffset f (0x41000 + i * 4) ≤ x.key ∧ x.key < 8 * dieOffset f (0x41004 + i * 4) := by
  simp only [streamFields, List.mem_cons, forall_eq_or_imp, forall_eq, List.not_mem_nil, or_false, Reg.LINK.STREAM.EN,
    Reg.LINK.STREAM.SRC, Reg.LINK.STREAM.SRC_RF, Reg.LINK.STREAM.SLOT, Reg.LINK.STREAM.PART, Reg.LINK.STREAM.BLANK_GRP,
    dieOffset_eq]
  omega

/-- The contexts of a source follow from the STREAM registers. -/
theorem State.ctxOfSource_congr {s t : State} {f i : Nat} (h : ∀ g ∈ streamFields f i, t.get g = s.get g) (src : Nat) :
    t.ctxOfSource f src i = s.ctxOfSource f src i := by
  simp only [streamFields, List.mem_cons, forall_eq_or_imp, List.not_mem_nil, or_false, forall_eq] at h
  obtain ⟨hen, hsrc, hrf, -⟩ := h
  simp only [State.ctxOfSource, State.ctxOnLink, State.ctxOnChain, State.on, hen, hsrc, hrf]

/-- The registers of the links lie below those of the stream contexts. -/
theorem linkState_stream {f k i : Nat} (hk : k < 48) {x g : Fld} (hx : x ∈ linkStateFields f k) (hg : g ∈ streamFields f i) :
    x.key ≠ g.key := by
  have hx := (linkStateFields_range f k x hx).2
  have hg := (streamFields_range f i g hg).1
  rw [dieOffset_eq] at hx hg
  omega

/-! ### What a source's loss leaves (R74) -/

/-- A register below those of SPARGE stands where only counts are shown. -/
theorem Frame.get_low {cs : List Component} {words : List Fld} {s t : State} {f : Nat} {g : Fld}
    (h : Frame cs (spargeFields f ++ lossFields f) words s t) (hg : g.key < 8 * dieOffset f 0x100800) :
    t.get g = s.get g :=
  h.get fun x hx he => by have := shownFields_high hx; omega

theorem State.loseEach_frame (s : State) (f src : Nat) :
    Frame [.air] (lossFields f) (lossWords f) s (s.eachCtx f src fun x i => x.loseStream f i) :=
  Frame.eachCtx (fun i _ x => (Frame.refl x).loseStream (by simp) (List.Subset.refl _) (List.Subset.refl _) i)
    (Frame.refl s)

theorem State.recount_air (s : State) (f : Nat) :
    (s.recount f).air = { s.air with floorsTold := (s.recount f).air.floorsTold } := by
  simp only [State.recount, State.tellFloors]
  split
  · simp [State.showSparge]
  · rfl

/-! ### A link leaves lock: DISABLED, or SEARCH again (R73, R74) -/

theorem linkFields_low {f k : Nat} (hk : k < 48) {g : Fld} (hg : g ∈ linkCfgFields f k ++ linkStateFields f k) :
    g.key < 8 * dieOffset f 0x100800 := by
  have := (linkFields_range hg).2
  rw [dieOffset_eq] at this ⊢
  omega

/-- The registers of SPARGE.STATUS, STEEP.TRACK and DEMOD.CTX lie in their words. -/
theorem shownFields_in {f : Nat} {x : Fld} (hx : x ∈ spargeFields f ++ lossFields f) :
    (8 * dieOffset f 0x100800 ≤ x.key ∧ x.key < 8 * dieOffset f 0x100804)
      ∨ (8 * dieOffset f 0x140048 ≤ x.key ∧ x.key < 8 * dieOffset f 0x14004C)
      ∨ (8 * dieOffset f 0x180004 ≤ x.key ∧ x.key < 8 * dieOffset f 0x180008) := by
  simp only [lossFields, List.mem_append] at hx
  exact hx.imp (spargeFields_range f x) (Or.imp (trackFields_range f x) (ctxFields_range f x))

theorem State.unlock_ctxOfSource (s : State) {f k : Nat} (hk : k < 48) (v src i : Nat) :
    ((s.put (Reg.LINK.STATUS.STATE f k) v).unlock f k).ctxOfSource f src i = s.ctxOfSource f src i :=
  State.ctxOfSource_congr (fun _ hg => (((Frame.refl s).put (cs := [.air]) (fields := linkStateFields f k) (words := [])
    (by simp [linkStateFields]) v).unlock (by simp) (by simp [linkStateFields])).get
      fun _ hx => linkState_stream hk hx hg) src

/-- A receive link that is disabled (R73, R371): DISABLED, its streams lost, nothing searched on it. -/
theorem State.disableLink_receive (s : State) {f k : Nat} (hk : k < 40) :
    (s.disableLink f k).get (Reg.LINK.STATUS.STATE f k) = 0 ∧ (s.disableLink f k).get (Reg.LINK.RX_LAT.VALID f k) = 0
      ∧ (48 * f + k) ∉ (s.disableLink f k).air.searching
      ∧ (∀ e ∈ (s.disableLink f k).air.trackers, e ∈ s.air.trackers
          ∧ (e.1 / 2048 = f → e.2.ctx < 512 → s.ctxOnLink f k e.2.ctx = false))
      ∧ (∀ e ∈ (s.disableLink f k).air.ctxs, e ∈ s.air.ctxs
          ∧ (e.1 / 4096 = f → e.2.ctx < 512 → s.ctxOnLink f k e.2.ctx = false)) := by
  have heq : s.disableLink f k = ((s.put (Reg.LINK.STATUS.STATE f k) 0).unlock f k).eachCtx f k
      fun s i => s.loseStream f i := if_pos hk
  have hframe := State.loseEach_frame ((s.put (Reg.LINK.STATUS.STATE f k) 0).unlock f k) f k
  have hair := State.StreamsOnly.eachCtx (f := f) (src := k) (fun x i => (State.StreamsOnly.refl x).loseStream f i)
    (State.StreamsOnly.refl ((s.put (Reg.LINK.STATUS.STATE f k) 0).unlock f k))
  have hlost := State.eachCtx_loses (op := fun x i => x.loseStream f i) (f := f) (fun _ _ => rfl) (fun _ _ => rfl)
    ((s.put (Reg.LINK.STATUS.STATE f k) 0).unlock f k) k
  simp only [State.unlock_ctxOfSource s (Nat.lt_trans hk (by omega : 40 < 48))] at hlost
  simp only [State.ctxOfSource, if_pos hk] at hlost
  rw [heq]
  have hget {g : Fld} (hg : g ∈ linkStateFields f k) := (hframe.mono (List.Subset.refl _)
    (List.subset_append_right (spargeFields f) _) (List.Subset.refl _)).get_low
      (linkFields_low (Nat.lt_trans hk (by omega)) (List.mem_append_right _ hg))
  refine ⟨?_, ?_, ?_, hlost⟩
  · rw [hget (by simp [linkStateFields])]
    simp [State.unlock, State.get, State.put, Reg.LINK.STATUS.STATE, Reg.LINK.RX_LAT.VALID]
  · rw [hget (by simp [linkStateFields])]
    exact State.get_put_same _ _ _
  · rw [hair]
    simp [State.unlock]

theorem Frame.disableLink {cs : List Component} {fields words : List Fld} {s t : State} {f k : Nat} (hk : k < 40)
    (h : Frame cs fields words s t) (hc : .air ∈ cs) (hf : linkStateFields f k ++ lossFields f ⊆ fields)
    (hw : lossWords f ⊆ words) : Frame cs fields words s (t.disableLink f k) :=
  Frame.ite (fun _ => Frame.eachCtx (fun i _ x => (Frame.refl x).loseStream hc (fun _ hx => hf (by simp [hx])) hw i)
    ((h.put (hf (by simp [linkStateFields])) _).unlock hc (hf (by simp [linkStateFields])))) fun h40 => absurd hk h40

/-- What EN 0 on an enabled link leaves, and where the write stays (R73). -/
theorem State.linkCfg_disabled {s : State} {f k v : Nat} (hk : k < 40) (hr : linkCfgRange v = true)
    (h0 : bitsAt v 0 1 = 0) (hon : s.on (Reg.LINK.CFG.EN f k) = true) :
    (∀ g ∈ linkStateFields f k, (s.linkCfg f k v).get g = (s.disableLink f k).get g)
      ∧ (s.linkCfg f k v).on (Reg.LINK.CFG.EN f k) = false
      ∧ (s.linkCfg f k v).air.searching = (s.disableLink f k).air.searching
      ∧ (s.linkCfg f k v).air.trackers = (s.disableLink f k).air.trackers
      ∧ (s.linkCfg f k v).air.ctxs = (s.disableLink f k).air.ctxs
      ∧ Frame (.air :: signalled) (linkCfgFields f k ++ linkStateFields f k ++ (spargeFields f ++ lossFields f))
          (lossWords f ++ alarmWords) s (s.linkCfg f k v) := by
  have hk48 : k < 48 := by omega
  rw [State.linkCfg_disables hr h0 hon]
  have hlow {g : Fld} (hg : g ∈ linkCfgFields f k ++ linkStateFields f k) (t : State) : (t.recount f).get g = t.get g :=
    t.recount_get fun x hx => linkFields_apart hk48 (List.mem_append_left _ hx) hg
  refine ⟨fun g hg => ?_, ?_, ?_, ?_, ?_, ?_⟩
  · rw [hlow (List.mem_append_right _ hg)]
    refine ((Frame.refl _).putLinkCfg (cs := []) (words := []) (List.Subset.refl _) v).get fun x hx he => ?_
    have hx := (linkCfgFields_range f k x hx).2
    have hg := (linkStateFields_range f k g hg).1
    rw [dieOffset_eq] at hx hg
    omega
  · rw [State.on, hlow (by simp [linkCfgFields]), (State.putLinkCfg_get _ f k v).1, h0]
    rfl
  · rw [State.recount_air]; rfl
  · rw [State.recount_air]; rfl
  · rw [State.recount_air]; rfl
  · refine (((Frame.refl s).disableLink hk (by simp) ?_ (List.subset_append_left _ _)).putLinkCfg ?_ v).recount
      (List.Subset.refl _) ?_ (List.subset_append_right _ _) <;> intro x hx <;> simp at hx ⊢ <;> tauto

/-- The counts of a restart (R74): RESTARTS, and HOTPLUG where the link had been in lock. -/
def State.countRestart (s : State) (f k : Nat) : State :=
  let t := s.incSat (Reg.LINK.STATUS.RESTARTS f k)
  if (48 * f + k) ∈ s.air.reached then t.put (Reg.LINK.STATUS.HOTPLUG f k) 1 else t

theorem State.restartLink_eq (s : State) (f k : Nat) :
    s.restartLink f k = (((((s.countRestart f k).fire (dieSource f 0)).eachCtx f k
      fun s i => (s.loseStream f i).resetFloors f i).unlock f k).put (Reg.LINK.STATUS.STATE f k) 1) := rfl

section
variable {cs : List Component} {fields words : List Fld} {s t : State} {f k : Nat}

theorem Frame.countRestart (h : Frame cs fields words s t) (hf : linkStateFields f k ⊆ fields) :
    Frame cs fields words s (t.countRestart f k) := by
  refine Frame.ite (fun _ => (h.incSat (hf ?_)).put (hf ?_) _) fun _ => h.incSat (hf ?_) <;> simp [linkStateFields]

theorem Frame.loseFloors (h : Frame cs fields words s t) (hc : .air ∈ cs) (hf : lossFields f ⊆ fields)
    (hw : lossWords f ⊆ words) (src : Nat) : Frame cs fields words s
      (t.eachCtx f src fun s i => (s.loseStream f i).resetFloors f i) :=
  h.eachCtx fun i _ x => ((Frame.refl x).loseStream hc hf hw i).resetFloors hc f i

theorem Frame.restartLink (h : Frame cs fields words s t) (hc : .air :: signalled ⊆ cs)
    (hf : linkStateFields f k ++ lossFields f ⊆ fields) (hw : lossWords f ++ alarmWords ⊆ words) :
    Frame cs fields words s (t.restartLink f k) := by
  have hair : .air ∈ cs := hc (by simp)
  refine ((((h.countRestart fun _ hx => hf (by simp [hx])).fire (fun _ hx => hc (by simp [hx]))
    (fun _ hx => hw (by simp [hx])) _).loseFloors hair (fun _ hx => hf (by simp [hx])) (fun _ hx => hw (by simp [hx]))
      k).unlock hair (hf ?_)).put (hf ?_) _ <;> simp [linkStateFields]

end

theorem State.unlock_get {s : State} {f k : Nat} {g : Fld} (h : (Reg.LINK.RX_LAT.VALID f k).key ≠ g.key) :
    (s.unlock f k).get g = s.get g := State.get_put_other _ _ _ _ h

theorem State.put_evt (s : State) (f : Fld) (v : Nat) : (s.put f v).evt = s.evt := rfl

theorem State.unlock_evt (s : State) (f k : Nat) : (s.unlock f k).evt = s.evt := rfl

theorem State.countRestart_get (s : State) (f k : Nat) :
    (s.countRestart f k).get (Reg.LINK.STATUS.RESTARTS f k) = min (s.get (Reg.LINK.STATUS.RESTARTS f k) + 1) 255
      ∧ ((48 * f + k) ∈ s.air.reached → (s.countRestart f k).get (Reg.LINK.STATUS.HOTPLUG f k) = 1) := by
  refine ⟨?_, fun hin => ?_⟩
  · simp only [State.countRestart]
    split <;> simp [State.get_incSat, Reg.LINK.STATUS.RESTARTS, Reg.LINK.STATUS.HOTPLUG]
  · rw [State.countRestart, if_pos hin, State.get_put_same]
    rfl

/-- A link that restarts (R74): it searches, RESTARTS counts to its width, source 320 + 32f. -/
theorem State.restartLink_leaves (s : State) {f k : Nat} (hf : f < 6) (hk : k < 40) :
    (s.restartLink f k).get (Reg.LINK.STATUS.STATE f k) = 1
      ∧ (s.restartLink f k).get (Reg.LINK.STATUS.RESTARTS f k) = min (s.get (Reg.LINK.STATUS.RESTARTS f k) + 1) 255
      ∧ ((48 * f + k) ∈ s.air.reached → (s.restartLink f k).get (Reg.LINK.STATUS.HOTPLUG f k) = 1)
      ∧ (s.restartLink f k).get (Reg.LINK.RX_LAT.VALID f k) = 0 ∧ (s.restartLink f k).pends (320 + 32 * f) := by
  have hlost := (Frame.refl ((s.countRestart f k).fire (dieSource f 0))).loseFloors (cs := [.air])
    (fields := spargeFields f ++ lossFields f) (by simp) (List.subset_append_right _ _) (List.Subset.refl _) k
  have hkeep {g : Fld} (hs : (Reg.LINK.STATUS.STATE f k).key ≠ g.key) (hv : (Reg.LINK.RX_LAT.VALID f k).key ≠ g.key)
      (hg : g ∈ linkStateFields f k) : (s.restartLink f k).get g = (s.countRestart f k).get g := by
    rw [State.restartLink_eq, State.get_put_other _ _ _ _ hs, State.unlock_get hv,
      hlost.get_low (linkFields_low (k := k) (by omega) (List.mem_append_right _ hg)), State.fire_get]
  obtain ⟨hcount, hhot⟩ := s.countRestart_get f k
  refine ⟨State.get_put_same _ _ _, ?_, fun hin => ?_, ?_, ?_⟩
  · refine (hkeep ?_ ?_ (by simp [linkStateFields])).trans hcount <;>
      simp only [Reg.LINK.STATUS.STATE, Reg.LINK.STATUS.RESTARTS, Reg.LINK.RX_LAT.VALID] <;> omega
  · refine (hkeep ?_ ?_ (by simp [linkStateFields])).trans (hhot hin) <;>
      simp only [Reg.LINK.STATUS.STATE, Reg.LINK.STATUS.HOTPLUG, Reg.LINK.RX_LAT.VALID] <;> omega
  · rw [State.restartLink_eq, State.get_put_other]
    · exact State.get_put_same _ _ _
    · simp only [Reg.LINK.STATUS.STATE, Reg.LINK.RX_LAT.VALID]
      omega
  · have hevt := hlost.same (c := .evt) (by simp)
    simp only [Component.Same] at hevt
    rw [State.pends, State.restartLink_eq, State.put_evt, State.unlock_evt, hevt]
    exact State.fireDie_pends _ hf (by omega)

end Sys2Proof.Machine

/-! CERTIFICATE. The link state machine: `LinkCommands` (R70 to R78). -/

namespace Sys2Proof.Machine

/-! ### The other events of a link (R73 to R78) -/

theorem State.laneLatency_bounds (s : State) (value : Nat → Nat) (f k : Nat) :
    150000 ≤ s.laneLatency value f k ∧ s.laneLatency value f k ≤ 900000 := by
  unfold State.laneLatency
  omega

/-- A lane latency fits the field that reports it. -/
theorem State.laneLatency_fits (s : State) (value : Nat → Nat) (f k : Nat) :
    s.laneLatency value f k % 2 ^ 20 = s.laneLatency value f k := by
  have := s.laneLatency_bounds value f k
  exact Nat.mod_eq_of_lt (by omega)

/-- What each step of a fold over an initial range sets stands at its end, where no later step undoes it. -/
theorem State.each_range_sets {P : Nat → State → Prop} {op : State → Nat → State} (hset : ∀ x j, P j (op x j))
    (hkeep : ∀ x i j, i < j → P i x → P i (op x j)) (s : State) (n : Nat) :
    ∀ j, j < n → P j (s.each (List.range n) op) := by
  induction n with
  | zero => exact fun j hj => absurd hj (Nat.not_lt_zero j)
  | succ n ih =>
    intro j hj
    rw [State.each, List.range_succ, List.foldl_append, ← State.each]
    rcases Nat.lt_succ_iff_lt_or_eq.1 hj with hj | rfl
    · exact hkeep _ _ _ hj (ih j hj)
    · exact hset _ _

/-- Output o of a field die has a valid transmit lane latency within 150 to 900 ns (R77). -/
def State.TxLatValid (s : State) (f o : Nat) : Prop :=
  s.get (Reg.TX.TX_LAT.VALID f o) = 1 ∧ 150000 ≤ s.get (Reg.TX.TX_LAT.PS f o) ∧ s.get (Reg.TX.TX_LAT.PS f o) ≤ 900000

theorem State.txLatValid_put (s : State) (f o n : Nat) (hn : 150000 ≤ n ∧ n ≤ 900000) :
    ((s.put (Reg.TX.TX_LAT.PS f o) n).put (Reg.TX.TX_LAT.VALID f o) 1).TxLatValid f o := by
  have hfits : n % 2 ^ 20 = n := Nat.mod_eq_of_lt (by omega)
  refine ⟨State.get_put_same _ _ _, ?_⟩
  rw [State.get_put_other _ _ _ _ (by simp only [Reg.TX.TX_LAT.VALID, Reg.TX.TX_LAT.PS]; omega), State.get_put_same]
  show 150000 ≤ n % 2 ^ 20 ∧ n % 2 ^ 20 ≤ 900000
  rwa [hfits]

theorem State.TxLatValid.put_other {s : State} {f o q : Nat} (h : s.TxLatValid f o) (hne : o ≠ q) (n : Nat) :
    ((s.put (Reg.TX.TX_LAT.PS f q) n).put (Reg.TX.TX_LAT.VALID f q) 1).TxLatValid f o := by
  have hkeep {g : Fld} (hp : (Reg.TX.TX_LAT.PS f q).key ≠ g.key) (hv : (Reg.TX.TX_LAT.VALID f q).key ≠ g.key) :
      ((s.put (Reg.TX.TX_LAT.PS f q) n).put (Reg.TX.TX_LAT.VALID f q) 1).get g = s.get g := by
    rw [State.get_put_other _ _ _ _ hv, State.get_put_other _ _ _ _ hp]
  unfold State.TxLatValid at h ⊢
  rwa [hkeep, hkeep] <;> simp only [Reg.TX.TX_LAT.VALID, Reg.TX.TX_LAT.PS] <;> omega

/-- The latency registers of a transmit link's twelve outputs. -/
def txLatFields (f k : Nat) : List Fld := (List.range 12).flatMap fun j =>
  [Reg.TX.TX_LAT.PS f (12 * (k - 40) + j), Reg.TX.TX_LAT.VALID f (12 * (k - 40) + j)]

theorem txLatFields_range (f k : Nat) : ∀ x ∈ txLatFields f k, 8 * dieOffset f (0x1C000C + 12 * (k - 40) * 0x10) ≤ x.key
    ∧ x.key < 8 * dieOffset f (0x1C000C + (12 * (k - 40) + 12) * 0x10) := by
  intro x hx
  obtain ⟨j, hj, hx⟩ := List.mem_flatMap.1 hx
  have hj : j < 12 := List.mem_range.1 hj
  rcases List.mem_pair.1 hx with rfl | rfl <;> simp only [Reg.TX.TX_LAT.VALID, Reg.TX.TX_LAT.PS, dieOffset_eq] <;> omega

/-! ### The clauses -/

/-- A write within LINK.CFG, LINK.STATUS and the counts of the die stays in their words. -/
theorem linkWrite_range {f k : Nat} {x : Fld} (hx : x ∈ linkCfgFields f k ++ linkStateFields f k ++ spargeFields f) :
    ∃ r ∈ [(dieOffset f (0x40000 + k * 0x20), dieOffset f (0x40010 + k * 0x20)),
      (dieOffset f 0x100800, dieOffset f 0x100804)], 8 * r.1 ≤ x.key ∧ x.key < 8 * r.2 := by
  rcases List.mem_append.1 hx with hx | hx
  · exact ⟨_, List.mem_cons_self .., linkFields_range hx⟩
  · exact ⟨_, List.mem_cons_of_mem _ (List.mem_cons_self ..), spargeFields_range f x hx⟩

/-- A write of a die's register that is recorded and then taken stays where the taking stays (R309). -/
theorem Frame.after_recorded {cs : List Component} {fields words : List Fld} {s t : State} {l : List (Nat × Nat × Nat)}
    (h : Frame cs fields words (s.recorded l) t) (hc : .safe ∈ cs) : Frame cs fields words s t :=
  ((Frame.refl s).recorded hc l).trans h

theorem linkCfg_cfg_get {s : State} {f k v : Nat} (hk : k < 48) (hr : linkCfgRange v = true)
    (h1 : bitsAt v 0 1 = 1) (hoff : s.on (Reg.LINK.CFG.EN f k) = false) (hok : s.linkCfgOk f k v = true) :
    (s.linkCfg f k v).on (Reg.LINK.CFG.EN f k) = true ∧ (s.linkCfg f k v).get (Reg.LINK.CFG.M f k) = bitsAt v 9 5
      ∧ (s.linkCfg f k v).get (Reg.LINK.CFG.WIDTH f k) = bitsAt v 15 3 := by
  obtain ⟨-, hcfg, -⟩ := State.linkCfg_enabled hk hr h1 hoff hok
  obtain ⟨hen, hm, hw⟩ := s.putLinkCfg_get f k v
  refine ⟨?_, (hcfg _ (by simp [linkCfgFields])).trans hm, (hcfg _ (by simp [linkCfgFields])).trans hw⟩
  rw [State.on, hcfg _ (by simp [linkCfgFields]), hen, h1]
  rfl

theorem linkDisable_range {f k : Nat} {x : Fld}
    (hx : x ∈ linkCfgFields f k ++ linkStateFields f k ++ (spargeFields f ++ lossFields f)) :
    ∃ r ∈ [(dieOffset f (0x40000 + k * 0x20), dieOffset f (0x40010 + k * 0x20)),
        (dieOffset f 0x100800, dieOffset f 0x100804), (dieOffset f 0x140048, dieOffset f 0x14004C),
        (dieOffset f 0x180004, dieOffset f 0x180008)], 8 * r.1 ≤ x.key ∧ x.key < 8 * r.2 := by
  simp only [List.mem_cons, exists_eq_or_imp, exists_eq_left, List.not_mem_nil, or_false]
  exact (List.mem_append.1 hx).imp linkFields_range shownFields_in

theorem linkRestart_range {f k : Nat} {x : Fld} (hx : x ∈ linkStateFields f k ++ lossFields f) :
    ∃ r ∈ [(dieOffset f (0x40008 + k * 0x20), dieOffset f (0x40010 + k * 0x20)),
        (dieOffset f 0x140048, dieOffset f 0x14004C), (dieOffset f 0x180004, dieOffset f 0x180008)],
      8 * r.1 ≤ x.key ∧ x.key < 8 * r.2 := by
  simp only [lossFields, List.mem_append] at hx
  simp only [List.mem_cons, exists_eq_or_imp, exists_eq_left, List.not_mem_nil, or_false]
  exact hx.imp (linkStateFields_range f k x) (Or.imp (trackFields_range f x) (ctxFields_range f x))

theorem exec_linkAlign {s : State} {f : Fin 6} {k : Fin 48} (hd : s.dieUp f = true) (hk : k.val < 40)
    (h3 : s.get (Reg.LINK.STATUS.STATE f k) = 3) (hsr : s.sysrefRuns f k = true) :
    ∃ t, exec (.linkAlign f k) s = .next t ∧ t.get (Reg.LINK.STATUS.STATE f k) = 4
      ∧ t.get (Reg.LINK.RX_LAT.VALID f k) = 1 ∧ 150000 ≤ t.get (Reg.LINK.RX_LAT.PS f k)
      ∧ t.get (Reg.LINK.RX_LAT.PS f k) ≤ 900000
      ∧ Frame [.air] [Reg.LINK.STATUS.STATE f k, Reg.LINK.RX_LAT.PS f k, Reg.LINK.RX_LAT.VALID f k] [] s t := by
  refine ⟨_, congrArg Host.Outcome.next (State.when_of (by simp [hd, hk, h3, hsr]) _), ?_⟩
  have hspoil (t : State) : Frame [.air] [] [] t (t.eachCtx f k fun s i => s.spoil f i .whole) :=
    (Frame.refl t).eachCtx fun i _ x => (Frame.refl x).spoil (by simp) f i _
  have hlat := State.laneLatency_bounds (s.put (Reg.LINK.STATUS.STATE f k) 4) Config.rxLatency f k
  have hfits := State.laneLatency_fits (s.put (Reg.LINK.STATUS.STATE f k) 4) Config.rxLatency f k
  have hps : (((s.put (Reg.LINK.STATUS.STATE f k) 4).put (Reg.LINK.RX_LAT.PS f k) (State.laneLatency
      (s.put (Reg.LINK.STATUS.STATE f k) 4) Config.rxLatency f k)).put (Reg.LINK.RX_LAT.VALID f k) 1).get
        (Reg.LINK.RX_LAT.PS f k) = State.laneLatency (s.put (Reg.LINK.STATUS.STATE f k) 4) Config.rxLatency f k := by
    rw [State.get_put_other _ _ _ _ (by simp only [Reg.LINK.RX_LAT.VALID, Reg.LINK.RX_LAT.PS]; omega),
      State.get_put_same]
    exact hfits
  refine ⟨?_, ?_, ?_, ?_, ?_⟩
  · rw [(hspoil _).get (by simp), State.get_put_other, State.get_put_other, State.get_put_same]
    · rfl
    · simp only [Reg.LINK.RX_LAT.PS, Reg.LINK.STATUS.STATE]; omega
    · simp only [Reg.LINK.RX_LAT.VALID, Reg.LINK.STATUS.STATE]; omega
  · rw [(hspoil _).get (by simp), State.get_put_same]
    rfl
  · rw [(hspoil _).get (by simp), hps]
    exact hlat.1
  · rw [(hspoil _).get (by simp), hps]
    exact hlat.2
  · refine Frame.eachCtx (fun i _ x => (Frame.refl x).spoil (by simp) f i _)
      ((((Frame.refl s).put ?_ _).put ?_ _).put ?_ _) <;> simp

theorem exec_crcMismatch {s : State} {f : Fin 6} {k : Fin 48} {lane : Fin 8} (hd : s.dieUp f = true) (hk : k.val < 40)
    (h4 : s.get (Reg.LINK.STATUS.STATE f k) = 4) (hl : lane.val < 2 ^ s.get (Reg.LINK.CFG.L_LOG2 f k)) :
    ∃ t, exec (.crcMismatch f k lane) s = .next t
      ∧ t.get (Reg.LINK.STATUS.CRC_ERR f k) = min (s.get (Reg.LINK.STATUS.CRC_ERR f k) + 1) 65535
      ∧ t.get (Reg.LINK.STATUS.STATE f k) = 4
      ∧ (Tbl.getD s.air.crcSince (48 * f.val + k.val) 0 = 1024 → t.pends (322 + 32 * f.val))
      ∧ Frame (.air :: signalled) [Reg.LINK.STATUS.CRC_ERR f k] [Reg.ETH.PRIV_SENT, Reg.ETH.FP_DROP] s t := by
  refine ⟨_, congrArg Host.Outcome.next (State.when_of (by simp [hd, hk, h4, hl]) _), ?_, ?_, fun hn => ?_, ?_⟩
  · have hput : (s.incSat (Reg.LINK.STATUS.CRC_ERR f k)).get (Reg.LINK.STATUS.CRC_ERR f k)
        = min (s.get (Reg.LINK.STATUS.CRC_ERR f k) + 1) 65535 := by simp [Reg.LINK.STATUS.CRC_ERR]
    refine Eq.trans ?_ hput
    dsimp only
    split
    · exact State.fire_get _ _ _
    · rfl
  · have hput : (s.incSat (Reg.LINK.STATUS.CRC_ERR f k)).get (Reg.LINK.STATUS.STATE f k) = 4 := by
      rw [State.get_incSat, if_neg, h4]
      simp only [Reg.LINK.STATUS.CRC_ERR, Reg.LINK.STATUS.STATE]; omega
    refine Eq.trans ?_ hput
    dsimp only
    split
    · exact State.fire_get _ _ _
    · rfl
  · dsimp only
    rw [if_pos (by omega), show 322 + 32 * f.val = dieSource f 2 by unfold dieSource; omega]
    exact State.fireDie_pends _ f.isLt (by omega)
  · have hcount := ((Frame.refl s).incSat (cs := .air :: signalled) (words := alarmWords)
      (List.mem_singleton.2 (rfl : Reg.LINK.STATUS.CRC_ERR f k = _))).setAir (List.mem_cons_self ..)
    exact Frame.ite (fun _ => (hcount _).fire signalled_air (List.Subset.refl _) _) fun _ => hcount _

/-- The outputs of a transmit link get their lane latency (R77, R78). -/
def State.alignOutput (s : State) (f o : Nat) (k : Nat) : State :=
  (s.put (Reg.TX.TX_LAT.PS f o) (s.laneLatency Config.txLatency f k)).put (Reg.TX.TX_LAT.VALID f o) 1

theorem State.alignOutput_valid (s : State) (f o k : Nat) : (s.alignOutput f o k).TxLatValid f o :=
  s.txLatValid_put f o _ (State.laneLatency_bounds ..)

theorem State.TxLatValid.alignOutput {s : State} {f o q k : Nat} (h : s.TxLatValid f o) (hne : o ≠ q) :
    (s.alignOutput f q k).TxLatValid f o := h.put_other hne _

theorem exec_txLinkAlign {s : State} {f : Fin 6} {k : Fin 48} (hd : s.dieUp f = true) (hk : 40 ≤ k.val)
    (h3 : s.get (Reg.LINK.STATUS.STATE f k) = 3) (hsr : s.sysrefRuns f k = true) :
    exec (.txLinkAlign f k) s = .next ((s.put (Reg.LINK.STATUS.STATE f k) 4).each (List.range (s.linkStreams f k))
      fun s j => s.alignOutput f (12 * (k - 40) + j) k) :=
  congrArg Host.Outcome.next (State.when_of (by simp [hd, hk, h3, hsr]) _)

theorem State.alignOutputs_valid (s : State) (f k n : Nat) : ∀ j, j < n →
    (s.each (List.range n) fun s j => s.alignOutput f (12 * (k - 40) + j) k).TxLatValid f (12 * (k - 40) + j) :=
  State.each_range_sets (P := fun j t => t.TxLatValid f (12 * (k - 40) + j))
    (op := fun s j => s.alignOutput f (12 * (k - 40) + j) k)
    (fun x j => x.alignOutput_valid f (12 * (k - 40) + j) k)
    (fun _ _ _ hij h => h.alignOutput (by omega)) s n

theorem State.alignOutputs_frame (s : State) (f k : Nat) {n : Nat} (hn : n ≤ 12) : Frame [] (txLatFields f k) [] s
    (s.each (List.range n) fun s j => s.alignOutput f (12 * (k - 40) + j) k) := by
  refine (Frame.refl s).each fun j hj x => ((Frame.refl x).put ?_ _).put ?_ _ <;>
    exact List.mem_flatMap.2 ⟨j, List.mem_range.2 (Nat.lt_of_lt_of_le (List.mem_range.1 hj) hn), by simp⟩

theorem txLinkAlign_range {f k : Nat} {x : Fld} (hx : x ∈ Reg.LINK.STATUS.STATE f k :: txLatFields f k) :
    ∃ r ∈ [(dieOffset f (0x40008 + k * 0x20), dieOffset f (0x4000C + k * 0x20)),
        (dieOffset f (0x1C000C + 12 * (k - 40) * 0x10), dieOffset f (0x1C000C + (12 * (k - 40) + 12) * 0x10))],
      8 * r.1 ≤ x.key ∧ x.key < 8 * r.2 := by
  simp only [List.mem_cons, exists_eq_or_imp, exists_eq_left, List.not_mem_nil, or_false]
  refine (List.mem_cons.1 hx).imp (fun hx => ?_) (txLatFields_range f k x)
  simp only [hx, Reg.LINK.STATUS.STATE, dieOffset_eq]
  omega

/-- Settles O9: one lemma per way that a link begins or leaves its states; the fields of each lie in the ranges named. -/
theorem linkCommands : Obligations.LinkCommands := by
  unfold Obligations.LinkCommands
  refine ⟨?_, ?_, ?_, ?_, ?_, ?_, ?_, ?_, ?_, ?_, ?_, ?_, ?_⟩
  · intro s f k v h hd hk hr h1 hoff hok
    let r := s.recorded [(f.val, dieOffset f (0x40000 + k * 0x20), v.toNat)]
    obtain ⟨hstate, -, hframe⟩ := State.linkCfg_enabled (s := r) k.isLt hr h1 hoff hok
    obtain ⟨hen, hm, hw⟩ := linkCfg_cfg_get (s := r) k.isLt hr h1 hoff hok
    obtain ⟨hsearch, hrestarts, hcrc, hlat⟩ := (r.putLinkCfg f k v.toNat).enableLink_receive hk (f := f)
    exact ⟨_, exec_linkCfgWrite h hd k v, (hstate _ (by simp [linkStateFields])).trans hsearch, hen, hm, hw,
      (hstate _ (by simp [linkStateFields])).trans hrestarts, (hstate _ (by simp [linkStateFields])).trans hcrc,
      (hstate _ (by simp [linkStateFields])).trans hlat,
      (hframe.after_recorded (by simp [signalled])).toFrameIn fun x hx => linkWrite_range hx⟩
  · intro s f k v h hd hk hr h1 hoff hok
    let r := s.recorded [(f.val, dieOffset f (0x40000 + k * 0x20), v.toNat)]
    obtain ⟨hstate, -, hframe⟩ := State.linkCfg_enabled (s := r) k.isLt hr h1 hoff hok
    exact ⟨_, exec_linkCfgWrite h hd k v,
      (hstate _ (by simp [linkStateFields])).trans ((r.putLinkCfg f k v.toNat).enableLink_transmit hk),
      (linkCfg_cfg_get (s := r) k.isLt hr h1 hoff hok).1,
      (hframe.after_recorded (by simp [signalled])).toFrameIn fun x hx => linkWrite_range hx⟩
  · intro s f k v h hd hbad
    refine ⟨_, exec_linkCfgWrite h hd k v, ?_⟩
    rw [State.linkCfg_illegal (s := s.recorded _) hbad]
    exact ⟨State.illegal_valid _ _, ((Frame.refl s).recorded (by simp [signalled]) _).illegal _⟩
  · intro s f k v h hd hk hr hon
    have h0 : bitsAt (v.toNat / 2 * 2) 0 1 = 0 := by unfold bitsAt; omega
    let r := s.recorded [(f.val, dieOffset f (0x40000 + k * 0x20), v.toNat / 2 * 2)]
    obtain ⟨hstate, hen, hsearch, htrack, hctx, hframe⟩ := State.linkCfg_disabled (s := r) hk hr h0 hon
    obtain ⟨hzero, hlat, hnot, htrackers, hctxs⟩ := r.disableLink_receive (f := f) hk
    exact ⟨_, exec_linkDisable h hd k v, (hstate _ (by simp [linkStateFields])).trans hzero, hen,
      (hstate _ (by simp [linkStateFields])).trans hlat, hsearch ▸ hnot, htrack ▸ htrackers, hctx ▸ hctxs,
      (hframe.after_recorded (by simp [signalled])).toFrameIn fun x hx => linkDisable_range hx⟩
  · intro s f k hd hk h1
    exact ⟨_, congrArg Host.Outcome.next (State.when_of (by simp [hd, hk, h1]) _), State.get_put_same _ _ _,
      ((Frame.refl s).setAir (by simp) _).put (by simp) _⟩
  · intro s f k hd hk h2
    exact ⟨_, congrArg Host.Outcome.next (State.when_of (by simp [hd, hk, h2]) _), State.get_put_same _ _ _,
      (Frame.refl s).put (by simp) _⟩
  · exact fun s f k hd hk h3 hsr => exec_linkAlign hd hk h3 hsr
  · intro s f g k j hkey
    rw [State.laneLatency, State.laneLatency, hkey]
  · intro s f k hd hk h2
    obtain ⟨hsearch, hrestarts, hhot, hlat, hpends⟩ := s.restartLink_leaves f.isLt hk
    exact ⟨_, congrArg Host.Outcome.next (State.when_of (by simp [hd, hk, h2]) _), hsearch, hrestarts, hhot, hlat, hpends,
      ((Frame.refl s).restartLink (List.Subset.refl _) (List.Subset.refl _) (List.Subset.refl _)).toFrameIn
        fun x hx => linkRestart_range hx⟩
  · intro s f k hd hk h4 hnot
    exact ⟨_, congrArg Host.Outcome.next (State.when_of (by simp [hd, hk, h4, hnot]) _), List.mem_cons_self ..,
      (Frame.refl s).setAir (by simp) _⟩
  · exact fun s f k lane hd hk h4 hl => exec_crcMismatch hd hk h4 hl
  · intro s f k hd h4 hsr
    refine ⟨_, congrArg Host.Outcome.next (State.when_of (by simp [hd, h4, hsr]) _), ?_, ?_, ?_,
      (Frame.refl s).raise (List.Subset.refl _) (by simp) (List.Subset.refl _) _ _⟩
    · rw [State.raise_get, State.get_put_same]
      rfl
    · rw [State.raise_get, State.get_put_other, h4]
      simp only [Reg.LINK.STATUS.SYSREF_ERR, Reg.LINK.STATUS.STATE]; omega
    · rw [show 321 + 32 * f.val = dieSource f 1 by unfold dieSource; omega]
      exact State.fireDie_pends _ f.isLt (by omega)
  · intro s f k hd hk h3 hsr hn
    have hframe := (s.put (Reg.LINK.STATUS.STATE f k) 4).alignOutputs_frame f k hn
    refine ⟨_, exec_txLinkAlign hd hk h3 hsr, ?_, State.alignOutputs_valid _ f k _, ?_⟩
    · refine (hframe.get fun x hx he => ?_).trans (State.get_put_same _ _ _)
      have := (txLatFields_range f k x hx).1
      simp only [he, Reg.LINK.STATUS.STATE, dieOffset_eq] at this
      omega
    · exact (((Frame.refl s).put (by simp) 4).trans (hframe.mono (List.Subset.refl _) (List.subset_cons_self ..)
        (List.Subset.refl _))).toFrameIn fun x hx => txLinkAlign_range hx

end Sys2Proof.Machine

/-! CERTIFICATE. Stream contexts and their sources: `StreamCommands` (R72, R139, R371). -/

namespace Sys2Proof.Machine

theorem exec_streamCfgWrite {s : State} {f : Fin 6} (h : s.hostUp = true) (hd : s.dieUp f = true) (i : Fin 512)
    (v : BitVec 32) : exec (.streamCfgWrite f i v) s
      = .next ((s.recorded [(f.val, dieOffset f (0x41000 + i * 4), v.toNat)]).streamCfg f i v.toNat) :=
  congrArg Host.Outcome.next (State.hostWriteReg_die h (dieOfOffset_die f.isLt (by omega)) hd _ _)

theorem exec_streamDisable {s : State} {f : Fin 6} (h : s.hostUp = true) (hd : s.dieUp f = true) (i : Fin 512)
    (v : BitVec 32) : exec (.streamDisable f i v) s = .next ((s.recorded
      [(f.val, dieOffset f (0x41000 + i * 4), v.toNat / 2 * 2)]).streamCfg f i (v.toNat / 2 * 2)) :=
  congrArg Host.Outcome.next (State.hostWriteReg_die h (dieOfOffset_die f.isLt (by omega)) hd _ _)

/-! ### STREAM (R72) -/

theorem Frame.putStream {cs : List Component} {fields words : List Fld} {s t : State} {f i : Nat}
    (h : Frame cs fields words s t) (hf : streamFields f i ⊆ fields) (v : Nat) :
    Frame cs fields words s (t.putStream f i v) := by
  refine ((((((h.put (hf ?_) _).put (hf ?_) _).put (hf ?_) _).put (hf ?_) _).put (hf ?_) _).put (hf ?_) _) <;>
    simp [streamFields]

theorem State.putStream_get (s : State) (f i v : Nat) :
    (s.putStream f i v).get (Reg.LINK.STREAM.EN f i) = bitsAt v 0 1
      ∧ (s.putStream f i v).get (Reg.LINK.STREAM.SRC f i) = bitsAt v 2 6
      ∧ (s.putStream f i v).get (Reg.LINK.STREAM.SRC_RF f i) = bitsAt v 1 1
      ∧ (s.putStream f i v).get (Reg.LINK.STREAM.SLOT f i) = bitsAt v 8 4
      ∧ (s.putStream f i v).get (Reg.LINK.STREAM.PART f i) = bitsAt v 12 2
      ∧ (s.putStream f i v).get (Reg.LINK.STREAM.BLANK_GRP f i) = bitsAt v 14 4 := by
  refine ⟨?_, ?_, ?_, ?_, ?_, ?_⟩ <;>
    simp [State.putStream, Reg.LINK.STREAM.EN, Reg.LINK.STREAM.SRC_RF, Reg.LINK.STREAM.SRC, Reg.LINK.STREAM.SLOT,
      Reg.LINK.STREAM.PART, Reg.LINK.STREAM.BLANK_GRP, bitsAt]

/-- The registers of a stream context stand where only SAT_WIN and the counts of the die are written. -/
theorem streamFields_apart {f i : Nat} (hi : i < 512) {x g : Fld}
    (hx : x ∈ Reg.SPARGE.STREAM.SAT_WIN f i :: (spargeFields f ++ lossFields f)) (hg : g ∈ streamFields f i) :
    x.key ≠ g.key := by
  have hg := (streamFields_range f i g hg).2
  rw [dieOffset_eq] at hg
  rcases List.mem_cons.1 hx with rfl | hx
  · simp only [Reg.SPARGE.STREAM.SAT_WIN]
    omega
  · have hx := shownFields_high hx
    rw [dieOffset_eq] at hx
    omega

theorem State.streamCfg_illegal {s : State} {f i v : Nat} (h : streamRange v = false
      ∨ (bitsAt v 0 1 = 1 ∧ s.streamOk f i v = false)) :
    s.streamCfg f i v = s.illegal (dieOffset f (0x41000 + i * 4)) := by
  rcases h with hr | ⟨h1, hno⟩
  · simp [State.streamCfg, hr]
  · simp [State.streamCfg, h1, hno]

/-- A context that starts (R72, R139): its floors and powers start afresh. -/
def State.startStream (s : State) (f i v : Nat) : State :=
  ((((s.putStream f i v).resetFloors f i).forgetPowers f i).put (Reg.SPARGE.STREAM.SAT_WIN f i) 0).spoil f i .whole

theorem State.startStream_get {s : State} {f i v : Nat} (hi : i < 512) {g : Fld} (hg : g ∈ streamFields f i) :
    (s.startStream f i v).get g = (s.putStream f i v).get g := by
  refine Frame.get (cs := [.air]) (fields := [Reg.SPARGE.STREAM.SAT_WIN f i]) (words := [])
    (((((Frame.refl _).resetFloors (by simp) f i).forgetPowers (by simp) f i).put (by simp) 0).spoil (by simp) f i _)
    fun x hx => streamFields_apart hi ?_ hg
  simpa using Or.inl (List.mem_singleton.1 hx)

theorem State.spoil_floors (s : State) (f i : Nat) (x : Spoil) : (s.spoil f i x).air.floors = s.air.floors := by
  simp only [State.spoil]
  split <;> rfl

theorem State.startStream_floors (s : State) (f i v : Nat) :
    ∀ e ∈ (s.startStream f i v).air.floors, e.1 / 512 ≠ 512 * f + i := by
  intro e he
  rw [State.startStream, State.spoil_floors] at he
  exact of_decide_eq_true (List.mem_filter.1 he).2

theorem State.startStream_blank (s : State) (f i v : Nat) : (s.startStream f i v).air.blank = s.air.blank := by
  have hkeep : s.StreamsOnly (s.startStream f i v) := State.StreamsOnly.spoil
    (State.StreamsOnly.put (((State.StreamsOnly.other (.refl s) rfl : s.StreamsOnly (s.putStream f i v)).resetFloors
      f i).forgetPowers f i) _ _) f i _
  rw [hkeep]

theorem Frame.startStream {cs : List Component} {fields words : List Fld} {s t : State} {f i : Nat}
    (h : Frame cs fields words s t) (hc : .air ∈ cs) (hf : Reg.SPARGE.STREAM.SAT_WIN f i :: streamFields f i ⊆ fields)
    (v : Nat) : Frame cs fields words s (t.startStream f i v) :=
  (((((h.putStream (fun _ hx => hf (List.mem_cons_of_mem _ hx)) v).resetFloors hc f i).forgetPowers hc f i).put
    (hf (List.mem_cons_self ..)) 0).spoil hc f i _)

/-- EN 1 on a context that is off, its BLANK input inactive: it starts. -/
theorem State.streamCfg_enables {s : State} {f i v : Nat} (hi : i < 512) (hr : streamRange v = true)
    (h1 : bitsAt v 0 1 = 1) (hok : s.streamOk f i v = true) (hoff : s.on (Reg.LINK.STREAM.EN f i) = false)
    (hb : bitsAt v 14 4 < 8 → (8 * f + bitsAt v 14 4) ∉ s.air.blank) :
    s.streamCfg f i v = (s.startStream f i v).recount f := by
  have hgrp : (s.startStream f i v).get (Reg.LINK.STREAM.BLANK_GRP f i) = bitsAt v 14 4 := by
    rw [State.startStream_get hi (by simp [streamFields])]
    exact (s.putStream_get f i v).2.2.2.2.2
  have hclear : (s.startStream f i v).ctxBlanked f i = false := by
    simpa [State.ctxBlanked, hgrp, State.startStream_blank] using hb
  rw [State.startStream] at hclear
  simp [State.streamCfg, hr, h1, hok, hoff, hclear, State.startStream]

/-- What EN 1 leaves of STREAM and of the floors, and where the write stays. -/
theorem State.streamCfg_enabled {s : State} {f i v : Nat} (hi : i < 512) (hr : streamRange v = true)
    (h1 : bitsAt v 0 1 = 1) (hok : s.streamOk f i v = true) (hoff : s.on (Reg.LINK.STREAM.EN f i) = false)
    (hb : bitsAt v 14 4 < 8 → (8 * f + bitsAt v 14 4) ∉ s.air.blank) :
    (∀ g ∈ streamFields f i, (s.streamCfg f i v).get g = (s.putStream f i v).get g)
      ∧ (∀ e ∈ (s.streamCfg f i v).air.floors, e.1 / 512 ≠ 512 * f + i)
      ∧ Frame (.air :: signalled) (streamFields f i ++ Reg.SPARGE.STREAM.SAT_WIN f i :: spargeFields f) alarmWords s
          (s.streamCfg f i v) := by
  rw [State.streamCfg_enables hi hr h1 hok hoff hb]
  refine ⟨fun g hg => ?_, ?_, ?_⟩
  · rw [State.recount_get _ fun x hx => streamFields_apart hi (List.mem_cons_of_mem _ (List.mem_append_left _ hx)) hg,
      State.startStream_get hi hg]
  · rw [State.recount_air]
    exact s.startStream_floors f i v
  · refine ((Frame.refl s).startStream (by simp) ?_ _).recount (List.Subset.refl _) ?_ (List.Subset.refl _) <;>
      intro x hx <;> simp at hx ⊢ <;> tauto

/-- EN 0 on an enabled context (R371): what was detected on it is lost. -/
theorem State.streamCfg_disables {s : State} {f i v : Nat} (hr : streamRange v = true) (h0 : bitsAt v 0 1 = 0)
    (hon : s.on (Reg.LINK.STREAM.EN f i) = true) : s.streamCfg f i v
      = (((((s.loseStream f i).resetFloors f i).forgetPowers f i).putStream f i v).recount f) := by
  simp [State.streamCfg, hr, h0, hon]

/-- The end of demodulator contexts counts each. -/
theorem State.endCtxs_stat (s : State) (f : Nat) (p : DemodCtx → Bool) (blanked : Bool) (count : Fld) :
    (s.endCtxs f p blanked count).stat count
      = (s.stat count + (s.air.ctxs.filter fun e => e.1 / 4096 = f && p e.2).length) % 2 ^ 32 := by
  have hkeep (x : State) (e : Nat × DemodCtx) : ((x.sendUp f (.endNotice e.2.serial blanked)).spoil f e.2.ctx
      (.frame e.2.w e.2.chan)).stat count = x.stat count :=
    (((Frame.refl x).sendUp (cs := [.air]) (fields := []) (words := []) (by simp) f _).spoil (by simp) f _ _).stat
      (by simp)
  simp only [State.endCtxs, State.showCtx, State.showUse_stat, State.stat_bumpBy, if_true]
  rw [State.each_keeps (fun x => x.stat count) _ _ hkeep]
  simp only [State.stat]

/-- The demodulator contexts of a source that is lost are counted (R143). -/
theorem State.loseStream_counts (s : State) (f i : Nat) :
    (s.loseStream f i).stat (Reg.DEMOD.SOURCE_LOST f) = (s.stat (Reg.DEMOD.SOURCE_LOST f)
      + (s.air.ctxs.filter fun e => e.1 / 4096 = f && e.2.ctx = i).length) % 2 ^ 32 := by
  have hother : (s.freeTrackers f (fun t => t.ctx = i) (Reg.STEEP.SOURCE_LOST f)).stat (Reg.DEMOD.SOURCE_LOST f)
      = s.stat (Reg.DEMOD.SOURCE_LOST f) :=
    ((Frame.refl s).freeTrackers (cs := [.air]) (fields := trackFields f) (words := [Reg.STEEP.SOURCE_LOST f]) (by simp)
      (List.Subset.refl _) (by simp) _).stat (by simp [Reg.STEEP.SOURCE_LOST, Reg.DEMOD.SOURCE_LOST])
  rw [State.loseStream, State.endCtxs_stat, hother, State.freeTrackers_ctxs]

/-- A write that disables a context stays in its register and the counts of the die. -/
theorem streamDisable_range {f i : Nat} {x : Fld} (hx : x ∈ streamFields f i ++ (spargeFields f ++ lossFields f)) :
    ∃ r ∈ [(dieOffset f (0x41000 + i * 4), dieOffset f (0x41004 + i * 4)),
        (dieOffset f 0x100800, dieOffset f 0x100804), (dieOffset f 0x140048, dieOffset f 0x14004C),
        (dieOffset f 0x180004, dieOffset f 0x180008)], 8 * r.1 ≤ x.key ∧ x.key < 8 * r.2 := by
  simp only [List.mem_cons, exists_eq_or_imp, exists_eq_left, List.not_mem_nil, or_false]
  exact (List.mem_append.1 hx).imp (streamFields_range f i x) shownFields_in

/-- Settles O10: the write's three outcomes, and what the loss of a stream ends and counts. -/
theorem streamCommands : Obligations.StreamCommands := by
  unfold Obligations.StreamCommands
  refine ⟨?_, ?_, ?_⟩
  · intro s f i v h hd hr h1 hok hoff hb
    obtain ⟨hget, hfloors, hframe⟩ := State.streamCfg_enabled (s := s.recorded
      [(f.val, dieOffset f (0x41000 + i * 4), v.toNat)]) i.isLt hr h1 hok hoff hb
    obtain ⟨hen, hsrc, hrf, hslot, hpart, hgrp⟩ := (s.recorded
      [(f.val, dieOffset f (0x41000 + i * 4), v.toNat)]).putStream_get f i v.toNat
    refine ⟨_, exec_streamCfgWrite h hd i v, ?_, (hget _ (by simp [streamFields])).trans hsrc,
      (hget _ (by simp [streamFields])).trans hrf, (hget _ (by simp [streamFields])).trans hslot,
      (hget _ (by simp [streamFields])).trans hpart, (hget _ (by simp [streamFields])).trans hgrp, hfloors,
      hframe.after_recorded (by simp [signalled])⟩
    rw [State.on, hget _ (by simp [streamFields]), hen, h1]
    rfl
  · intro s f i v h hd hbad
    refine ⟨_, exec_streamCfgWrite h hd i v, ?_⟩
    rw [State.streamCfg_illegal (s := s.recorded _) hbad]
    exact ⟨State.illegal_valid _ _, ((Frame.refl s).recorded (by simp [signalled]) _).illegal _⟩
  · intro s f i v h hd hr hon
    have h0 : bitsAt (v.toNat / 2 * 2) 0 1 = 0 := by unfold bitsAt; omega
    let r := s.recorded [(f.val, dieOffset f (0x41000 + i * 4), v.toNat / 2 * 2)]
    rw [exec_streamDisable h hd i v, State.streamCfg_disables (s := r) hr h0 hon]
    refine ⟨_, rfl, ?_, ?_, ?_, ?_, ?_⟩
    · rw [State.on, State.recount_get _ fun x hx => streamFields_apart i.isLt (List.mem_cons_of_mem _
        (List.mem_append_left _ hx)) (by simp [streamFields]), (State.putStream_get ..).1, h0]
      rfl
    · rw [State.recount_air]
      exact r.loseStream_trackers f i
    · rw [State.recount_air]
      exact r.loseStream_ctxs f i
    · have hcount : (r.loseStream f i).stat (Reg.DEMOD.SOURCE_LOST f) = (s.stat (Reg.DEMOD.SOURCE_LOST f)
          + (s.air.ctxs.filter fun e => e.1 / 4096 = f.val && e.2.ctx = i.val).length) % 2 ^ 32 := by
        rw [State.loseStream_counts, State.recorded_stat, show r.air = s.air from rfl]
      refine Eq.trans (Frame.stat (cs := .air :: signalled) (fields := streamFields f i ++ spargeFields f)
        (words := alarmWords) ?_ ?_) hcount
      · exact (((((Frame.refl _).resetFloors (by simp) f i).forgetPowers (by simp) f i).putStream
          (List.subset_append_left _ _) _).recount (List.Subset.refl _) (List.subset_append_right _ _)
            (List.Subset.refl _))
      · simp only [alarmWords, List.mem_cons, forall_eq_or_imp, List.not_mem_nil, or_false, forall_eq,
          Reg.DEMOD.SOURCE_LOST, Reg.ETH.PRIV_SENT, Reg.ETH.FP_DROP]
        omega
    · refine Frame.toFrameIn ((((((Frame.refl s).recorded (by simp [signalled]) _).loseStream (by simp)
        (fun x hx => ?_) (List.subset_append_left (lossWords f) _) i).resetFloors (by simp) f i).forgetPowers (by simp)
          f i).putStream (List.subset_append_left _ _) _ |>.recount (List.Subset.refl _) (fun x hx => ?_)
            (List.subset_append_right (lossWords f) alarmWords)) fun x hx => streamDisable_range hx <;> simp [hx]

end Sys2Proof.Machine

/-! SUPPORT. The units of a field die: what a chain, SEQ, an HCB master and an automatic gain read after a write of each,
and where the writes of RXCH and SEQ.HCB_HOST stay. -/

namespace Sys2Proof.Machine

/-! ### One rule per unit and write -/

@[simp] theorem State.chain_setChain (s : State) (f c : Nat) (r : ChainRun) : (s.setChain f c r).chain f c = r := by
  simp [State.chain, State.setChain]

@[simp] theorem State.seq_setSeq (s : State) (f : Nat) (q : SeqRun) : (s.setSeq f q).seq f = q := by
  simp [State.seq, State.setSeq]

@[simp] theorem State.hcb_setHcb (s : State) (f m : Nat) (h : HcbMaster) : (s.setHcb f m h).hcb f m = h := by
  simp [State.hcb, State.setHcb]

@[simp] theorem State.setChain_get (s : State) (f c : Nat) (r : ChainRun) (g : Fld) : (s.setChain f c r).get g = s.get g := rfl

@[simp] theorem State.setChain_on (s : State) (f c : Nat) (r : ChainRun) (g : Fld) : (s.setChain f c r).on g = s.on g := rfl

@[simp] theorem State.setSeq_get (s : State) (f : Nat) (q : SeqRun) (g : Fld) : (s.setSeq f q).get g = s.get g := rfl

@[simp] theorem State.setSeq_on (s : State) (f : Nat) (q : SeqRun) (g : Fld) : (s.setSeq f q).on g = s.on g := rfl

@[simp] theorem State.setHcb_get (s : State) (f m : Nat) (h : HcbMaster) (g : Fld) : (s.setHcb f m h).get g = s.get g := rfl

@[simp] theorem State.setHcb_on (s : State) (f m : Nat) (h : HcbMaster) (g : Fld) : (s.setHcb f m h).on g = s.on g := rfl

@[simp] theorem State.put_chain (s : State) (g : Fld) (v f c : Nat) : (s.put g v).chain f c = s.chain f c := rfl

@[simp] theorem State.put_seq (s : State) (g : Fld) (v f : Nat) : (s.put g v).seq f = s.seq f := rfl

@[simp] theorem State.put_hcb (s : State) (g : Fld) (v f m : Nat) : (s.put g v).hcb f m = s.hcb f m := rfl

@[simp] theorem State.setHcb_seq (s : State) (f m : Nat) (h : HcbMaster) (d : Nat) : (s.setHcb f m h).seq d = s.seq d := rfl

@[simp] theorem State.setSeq_hcb (s : State) (f : Nat) (q : SeqRun) (d m : Nat) : (s.setSeq f q).hcb d m = s.hcb d m := rfl

@[simp] theorem State.emitNow_hcb (s : State) (o : Output) (f m : Nat) : (s.emitNow o).hcb f m = s.hcb f m := rfl

@[simp] theorem State.fire_chain (s : State) (src f c : Nat) : (s.fire src).chain f c = s.chain f c := by
  simp [State.chain]

@[simp] theorem State.fire_seq (s : State) (src f : Nat) : (s.fire src).seq f = s.seq f := by
  simp [State.seq]

theorem State.raise_pends (s : State) (flag : Fld) {f j : Nat} (hf : f < 6) (hj : j < 32) :
    (s.raise flag f j).pends (dieSource f j) := (s.put flag 1).fireDie_pends hf hj

/-! ### Units that no change of the streams touches -/

namespace State.StreamsOnly
variable {s t : State}

theorem chain (h : s.StreamsOnly t) (f c : Nat) : t.chain f c = s.chain f c := by
  rw [State.chain, State.chain, h]

theorem seq (h : s.StreamsOnly t) (f : Nat) : t.seq f = s.seq f := by
  rw [State.seq, State.seq, h]

theorem hcb (h : s.StreamsOnly t) (f m : Nat) : t.hcb f m = s.hcb f m := by
  rw [State.hcb, State.hcb, h]

end State.StreamsOnly

/-! ### SEQ goes on (R94) -/

@[simp] theorem State.seqGoto_seq (s : State) (f pc : Nat) : (s.seqGoto f pc).seq f = { s.seq f with st := .running } := by
  simp [State.seqGoto]

@[simp] theorem State.seqGoto_pc (s : State) (f pc : Nat) : (s.seqGoto f pc).get (Reg.SEQ.STATUS.PC f) = pc % 1024 := by
  simp [State.seqGoto, Reg.SEQ.STATUS.PC]

@[simp] theorem State.seqGoto_hcb (s : State) (f pc d m : Nat) : (s.seqGoto f pc).hcb d m = s.hcb d m := rfl

@[simp] theorem State.seqNext_seq (s : State) (f : Nat) : (s.seqNext f).seq f = { s.seq f with st := .running } :=
  s.seqGoto_seq f _

@[simp] theorem State.seqNext_pc (s : State) (f : Nat) :
    (s.seqNext f).get (Reg.SEQ.STATUS.PC f) = (s.get (Reg.SEQ.STATUS.PC f) + 1) % 1024 := s.seqGoto_pc f _

@[simp] theorem State.seqNext_hcb (s : State) (f d m : Nat) : (s.seqNext f).hcb d m = s.hcb d m := rfl

section
variable {cs : List Component} {fields words : List Fld} {s t : State} {f : Nat}

theorem Frame.seqGoto (h : Frame cs fields words s t) (hc : .air ∈ cs) (hf : Reg.SEQ.STATUS.PC f ∈ fields) (pc : Nat) :
    Frame cs fields words s (t.seqGoto f pc) := (h.setSeq hc _ _).put hf _

theorem Frame.seqNext (h : Frame cs fields words s t) (hc : .air ∈ cs) (hf : Reg.SEQ.STATUS.PC f ∈ fields) :
    Frame cs fields words s (t.seqNext f) := h.seqGoto hc hf _

end

/-! ### HCB masters (R99) -/

/-- A master with nothing waiting stays as it is. -/
theorem State.hcbNext_idle {s : State} {f m : Nat} (hseq : (s.hcb f m).seqWait = []) (hhost : (s.hcb f m).hostWait = none) :
    s.hcbNext f m = s := by
  simp only [State.hcbNext, hseq, hhost, ite_self]

/-- A free, enabled master with host software alone waiting, or after one of SEQ's: the host's transaction goes out. -/
theorem State.hcbNext_host {s : State} {f m : Nat} {u : HcbTx} (hcur : (s.hcb f m).cur = none)
    (hen : s.on (Reg.SEQ.HCB_CFG.EN f m) = true) (hhost : (s.hcb f m).hostWait = some u)
    (hturn : (s.hcb f m).seqWait = [] ∨ (s.hcb f m).lastSeq = true) : s.hcbNext f m
      = (s.setHcb f m { s.hcb f m with cur := some u, hostWait := none, lastSeq := false }).emitNow
          (.hcb f m u.cs u.len u.data) := by
  have hfree : ((s.hcb f m).cur.isSome || !s.on (Reg.SEQ.HCB_CFG.EN f m)) = false := by rw [hcur, hen]; rfl
  cases hwait : (s.hcb f m).seqWait with
  | nil => simp [State.hcbNext, hfree, hhost, hwait]
  | cons w rest =>
    have hlast : (s.hcb f m).lastSeq = true := hturn.resolve_left (by simp [hwait])
    simp [State.hcbNext, hfree, hhost, hwait, hlast]

/-- A free, enabled master with SEQ alone waiting: SEQ's transaction goes out. -/
theorem State.hcbNext_seq {s : State} {f m : Nat} {u : HcbTx} {rest : List HcbTx} (hcur : (s.hcb f m).cur = none)
    (hen : s.on (Reg.SEQ.HCB_CFG.EN f m) = true) (hhost : (s.hcb f m).hostWait = none)
    (hwait : (s.hcb f m).seqWait = u :: rest) : s.hcbNext f m
      = (s.setHcb f m { s.hcb f m with cur := some u, seqWait := rest, lastSeq := true }).emitNow
          (.hcb f m u.cs u.len u.data) := by
  have hfree : ((s.hcb f m).cur.isSome || !s.on (Reg.SEQ.HCB_CFG.EN f m)) = false := by rw [hcur, hen]; rfl
  simp [State.hcbNext, hfree, hhost, hwait]

end Sys2Proof.Machine

/-! CERTIFICATE. Integrated receive chains and HCB masters: `ReceiveChains` (R79, R80, R81, R99, R100). -/

namespace Sys2Proof.Machine

/-- A write of both words of a register of a die that is up is recorded and takes effect (R309). -/
theorem State.hostWrite64_die {s : State} {off f : Nat} (h : s.hostUp = true) (hd : dieOfOffset off = some f)
    (hu : s.dieUp f = true) (v : Nat) (e : State → State) : s.hostWrite64 off v e
      = e (s.recorded [(f, off, v % 2 ^ 32), (f, off + 4, v / 2 ^ 32)]) := by
  simp only [State.dieUp, Bool.and_eq_true, Bool.not_eq_true'] at hu
  obtain ⟨hp, hfence⟩ := hu
  simp only [State.hostWrite64, h, hd, hp, Bool.not_true, Bool.false_eq_true, if_false]
  have hfree : (s.recorded [(f, off, v % 2 ^ 32), (f, off + 4, v / 2 ^ 32)]).dieFenced f = false := by rw [← hfence]; rfl
  exact if_neg (Bool.eq_false_iff.1 hfree)

theorem exec_rxChainEnable {s : State} {f : Fin 6} (h : s.hostUp = true) (hd : s.dieUp f = true) (c : Fin 4)
    (v : BitVec 32) : exec (.rxChainEnable f c v) s
      = .next ((s.recorded [(f.val, dieOffset f (0x80000 + c * 0x10), v.toNat)]).rxch f c v.toNat) :=
  congrArg Host.Outcome.next (State.hostWriteReg_die h (dieOfOffset_die f.isLt (by omega)) hd _ _)

theorem exec_calReq {s : State} {f : Fin 6} (h : s.hostUp = true) (hd : s.dieUp f = true) (c : Fin 4)
    (v : BitVec 32) : exec (.calReq f c v) s
      = .next ((s.recorded [(f.val, dieOffset f (0x80000 + c * 0x10), v.toNat ||| 2)]).rxch f c (v.toNat ||| 2)) :=
  congrArg Host.Outcome.next (State.hostWriteReg_die h (dieOfOffset_die f.isLt (by omega)) hd _ _)

theorem exec_hcbHostGo {s : State} {f : Fin 6} (h : s.hostUp = true) (hd : s.dieUp f = true) (v : BitVec 64) :
    exec (.hcbHostGo f v) s = .next ((s.recorded [(f.val, dieOffset f 0xC0040, v.toNat % 2 ^ 32),
      (f.val, dieOffset f 0xC0040 + 4, v.toNat / 2 ^ 32)]).hcbHost f v.toNat) :=
  congrArg Host.Outcome.next (State.hostWrite64_die h (dieOfOffset_die f.isLt (by omega)) hd _ _)

/-! ### RXCH (R79 to R81) -/

/-- The fields of RXCH. -/
def chainFields (f c : Nat) : List Fld := [Reg.FRF.RXCH.EN f c, Reg.FRF.RXCH.CAL_REQ f c, Reg.FRF.RXCH.GAIN f c,
  Reg.FRF.RXCH.AGC_HOLD f c, Reg.FRF.RXCH.CAL_FAIL f c, Reg.FRF.RXCH.CAL_VALID f c]

theorem chainFields_range (f c : Nat) : ∀ x ∈ chainFields f c,
    8 * dieOffset f (0x80000 + c * 0x10) ≤ x.key ∧ x.key < 8 * dieOffset f (0x80004 + c * 0x10) := by
  simp only [chainFields, List.mem_cons, forall_eq_or_imp, forall_eq, List.not_mem_nil, or_false, Reg.FRF.RXCH.EN,
    Reg.FRF.RXCH.CAL_REQ, Reg.FRF.RXCH.GAIN, Reg.FRF.RXCH.AGC_HOLD, Reg.FRF.RXCH.CAL_FAIL, Reg.FRF.RXCH.CAL_VALID,
    dieOffset_eq]
  omega

/-- The fields that a write of RXCH sets as it gives them, FC apart. -/
def State.putChain (s : State) (f c v : Nat) : State :=
  ((s.put (Reg.FRF.RXCH.EN f c) (bitsAt v 0 1)).put (Reg.FRF.RXCH.AGC_HOLD f c) (bitsAt v 21 1)).w1c
    (Reg.FRF.RXCH.CAL_FAIL f c) (bitsAt v 22 1)

theorem Frame.putChain {cs : List Component} {fields words : List Fld} {s t : State} {f c : Nat}
    (h : Frame cs fields words s t) (hf : chainFields f c ⊆ fields) (v : Nat) :
    Frame cs fields words s (t.putChain f c v) := by
  refine ((h.put (hf ?_) _).put (hf ?_) _).w1c (hf ?_) _ <;> simp [chainFields]

theorem State.putChain_on (s : State) (f c v : Nat) :
    (s.putChain f c v).on (Reg.FRF.RXCH.EN f c) = decide (bitsAt v 0 1 = 1) := by
  simp only [State.putChain, State.w1c]
  split <;> simp [State.on, Reg.FRF.RXCH.EN, Reg.FRF.RXCH.AGC_HOLD, Reg.FRF.RXCH.CAL_FAIL, bitsAt]

/-- An FC as it stands retunes nothing; a chain that was off and is enabled starts. -/
theorem State.rxch_starts {s : State} {f c v : Nat} (hfc : bitsAt v 2 15 = s.get (Reg.FRF.RXCH.FC f c))
    (hl : fcLegal (bitsAt v 2 15) = true) (h1 : bitsAt v 0 1 = 1) (hreq : bitsAt v 1 1 = 0)
    (hoff : s.on (Reg.FRF.RXCH.EN f c) = false) : s.rxch f c v = (s.putChain f c v).startChain f c := by
  simp [State.rxch, hl, State.retuneRx, ← hfc, h1, hreq, hoff, State.putChain]

/-- CAL_REQ on a chain that is on and stays on: every calibration falls due. -/
theorem State.rxch_requests {s : State} {f c v : Nat} (hfc : bitsAt v 2 15 = s.get (Reg.FRF.RXCH.FC f c))
    (hl : fcLegal (bitsAt v 2 15) = true) (h1 : bitsAt v 0 1 = 1) (hreq : bitsAt v 1 1 = 1)
    (hon : s.on (Reg.FRF.RXCH.EN f c) = true) : s.rxch f c v
      = ((s.putChain f c v).put (Reg.FRF.RXCH.CAL_REQ f c) 1).each [0, 1, 2] fun s cal => s.calDue f c cal := by
  simp [State.rxch, hl, State.retuneRx, ← hfc, h1, hreq, hon, State.putChain]

theorem State.rxch_illegal {s : State} {f c v : Nat} (h : fcLegal (bitsAt v 2 15) = false) :
    s.rxch f c v = s.illegal (dieOffset f (0x80000 + c * 0x10)) := by
  simp [State.rxch, h]

/-- A chain that starts (R80): its calibrations run, none has completed, its gain index is 6. -/
theorem State.startChain_leaves (s : State) (f c : Nat) :
    (s.startChain f c).on (Reg.FRF.RXCH.EN f c) = s.on (Reg.FRF.RXCH.EN f c)
      ∧ (s.startChain f c).get (Reg.FRF.RXCH.CAL_VALID f c) = 0 ∧ (s.startChain f c).get (Reg.FRF.RXCH.GAIN f c) = 6
      ∧ ((s.startChain f c).chain f c).running = [0, 1, 2] := by
  simp only [State.startChain, State.startGain, State.setGain, State.gainStart, Nat.le_add_right, if_true,
    Nat.add_sub_cancel_left, Nat.not_lt.2 (Nat.le_add_right 40 c), if_false]
  refine ⟨?_, ?_, ?_, ?_⟩
  · simp [State.on, State.get, State.put, Reg.FRF.RXCH.EN, Reg.FRF.RXCH.CAL_VALID, Reg.FRF.RXCH.CAL_REQ,
      Reg.FRF.RXCH.GAIN, State.setChain]
  · simp [State.get, State.put, Reg.FRF.RXCH.CAL_VALID, Reg.FRF.RXCH.CAL_REQ, Reg.FRF.RXCH.GAIN]
  · exact State.get_put_same _ _ _
  · exact congrArg ChainRun.running (s.chain_setChain f c _)

theorem Frame.startChain {cs : List Component} {fields words : List Fld} {s t : State} {f c : Nat}
    (h : Frame cs fields words s t) (hc : .air ∈ cs) (hf : chainFields f c ⊆ fields) :
    Frame cs fields words s (t.startChain f c) := by
  refine (((h.setChain hc f c _).put (hf ?_) _).put (hf ?_) _).setGain hc (fun _ => hf ?_) _ <;>
    simp [chainFields]

theorem Frame.calDue {cs : List Component} {fields words : List Fld} {s t : State} (h : Frame cs fields words s t)
    (hc : .air ∈ cs) (f c cal : Nat) : Frame cs fields words s (t.calDue f c cal) :=
  Frame.ite (fun _ => h) fun _ => h.setChain hc f c _

/-- A calibration made due is due, and so is what was (R81). -/
theorem State.calDue_due (s : State) (f c cal : Nat) :
    cal ∈ ((s.calDue f c cal).chain f c).due ∧ ∀ k ∈ (s.chain f c).due, k ∈ ((s.calDue f c cal).chain f c).due := by
  by_cases h : cal ∈ (s.chain f c).due
  · rw [State.calDue, if_pos h]
    exact ⟨h, fun _ hk => hk⟩
  · rw [State.calDue, if_neg h, State.chain_setChain]
    exact ⟨by simp, fun k hk => by simp [hk]⟩

theorem State.calDue_get (s : State) (f c cal : Nat) (g : Fld) : (s.calDue f c cal).get g = s.get g :=
  ((Frame.refl s).calDue (cs := [.air]) (fields := []) (words := []) (by simp) f c cal).get (by simp)

/-- The three calibrations made due are due. -/
theorem State.calDue_all (s : State) (f c : Nat) : ∀ cal, cal < 3 →
    cal ∈ ((s.each [0, 1, 2] fun s cal => s.calDue f c cal).chain f c).due := by
  intro cal hcal
  obtain ⟨h0, -⟩ := s.calDue_due f c 0
  obtain ⟨h1, k1⟩ := (s.calDue f c 0).calDue_due f c 1
  obtain ⟨h2, k2⟩ := ((s.calDue f c 0).calDue f c 1).calDue_due f c 2
  rcases (by omega : cal = 0 ∨ cal = 1 ∨ cal = 2) with rfl | rfl | rfl
  · exact k2 _ (k1 _ h0)
  · exact k2 _ h1
  · exact h2

/-- CAL_REQ reads 1 in a value that sets it. -/
theorem bitsAt_or_two (v : Nat) : bitsAt (v ||| 2) 1 1 = 1 := by
  have h : (v ||| 2).testBit 1 = true := by
    rw [Nat.testBit_or, show Nat.testBit 2 1 = true from rfl, Bool.or_true]
  simpa [Nat.testBit_eq_decide_div_mod_eq, bitsAt] using h

/-! ### The end of a calibration (R80, R81) -/

/-- A calibration that has ended: nothing runs of it, it counts as completed. -/
def State.endCal (s : State) (f c cal : Nat) : State :=
  (s.setChain f c { s.chain f c with
    running := (s.chain f c).running.filter (· ≠ cal), done := cal :: (s.chain f c).done.filter (· ≠ cal) }).eachCtx
      f (40 + c) fun s i => s.spoil f i .whole

theorem State.endCal_frame (s : State) (f c cal : Nat) : Frame [.air] [] [] s (s.endCal f c cal) :=
  ((Frame.refl s).setChain (by simp) f c _).eachCtx fun i _ x => (Frame.refl x).spoil (by simp) f i _

theorem State.endCal_chain (s : State) (f c cal : Nat) : (s.endCal f c cal).chain f c = { s.chain f c with
    running := (s.chain f c).running.filter (· ≠ cal), done := cal :: (s.chain f c).done.filter (· ≠ cal) } := by
  rw [State.endCal, (State.StreamsOnly.eachCtx (fun x i => (State.StreamsOnly.refl x).spoil f i .whole)
    (State.StreamsOnly.refl _)).chain, State.chain_setChain]

/-- CAL_VALID follows the calibrations completed since EN (R80). -/
def State.showCal (s : State) (f c : Nat) : State :=
  if [0, 1, 2].all (· ∈ (s.chain f c).done) then s.put (Reg.FRF.RXCH.CAL_VALID f c) 1 else s

theorem State.calDone_eq (s : State) (f c cal : Nat) (ok : Bool) (db : Nat) : s.calDone f c cal ok db
    = if ok then (if cal = 0 then ((s.endCal f c cal).showCal f c).put (Reg.FRF.RXCH.IMAGE_DB f c) db
        else (s.endCal f c cal).showCal f c)
      else ((s.endCal f c cal).showCal f c).raise (Reg.FRF.RXCH.CAL_FAIL f c) f 3 := by
  rw [State.showCal, State.endCal_chain]
  rfl

theorem Frame.showCal {cs : List Component} {fields words : List Fld} {s t : State} {f c : Nat}
    (h : Frame cs fields words s t) (hf : Reg.FRF.RXCH.CAL_VALID f c ∈ fields) :
    Frame cs fields words s (t.showCal f c) := Frame.ite (fun _ => h.put hf _) fun _ => h

theorem State.showCal_chain (s : State) (f c : Nat) : (s.showCal f c).chain f c = s.chain f c := by
  simp only [State.showCal]
  split <;> rfl

/-- Once all three have completed, CAL_VALID reads 1. -/
theorem State.endCal_valid {s : State} {f c cal : Nat} (h : ∀ k, k < 3 → k ≠ cal → k ∈ (s.chain f c).done) :
    ((s.endCal f c cal).showCal f c).get (Reg.FRF.RXCH.CAL_VALID f c) = 1 := by
  have hall : [0, 1, 2].all (· ∈ ((s.endCal f c cal).chain f c).done) = true := by
    rw [State.endCal_chain, List.all_eq_true]
    intro k hk
    have hk3 : k < 3 := by simp only [List.mem_cons, List.not_mem_nil, or_false] at hk; omega
    by_cases he : k = cal
    · simp [he]
    · simp [he, h k hk3 he]
  rw [State.showCal, if_pos hall]
  exact State.get_put_same _ _ _

theorem exec_calibrationDone {s : State} {f : Fin 6} {c : Fin 4} {cal : Fin 3} (hd : s.dieUp f = true)
    (hr : cal.val ∈ (s.chain f c).running) (ok : Bool) (db : BitVec 8) :
    exec (.calibrationDone f c cal ok db) s = .next (s.calDone f c cal ok db.toNat) :=
  congrArg Host.Outcome.next (State.when_of (by simp [hd, hr]) _)

/-! ### SEQ.HCB_HOST (R99) -/

/-- The fields of SEQ.HCB_HOST. -/
def hcbHostFields (f : Nat) : List Fld := [Reg.SEQ.HCB_HOST.MASTER f, Reg.SEQ.HCB_HOST.CS f, Reg.SEQ.HCB_HOST.LEN_M1 f,
  Reg.SEQ.HCB_HOST.DATA f, Reg.SEQ.HCB_HOST.READ f, Reg.SEQ.HCB_HOST.GO f]

/-- SEQ.HCB_HOST as a write with GO leaves it. -/
def State.putHcbHost (s : State) (f v : Nat) : State :=
  (((((s.put (Reg.SEQ.HCB_HOST.MASTER f) (bitsAt v 0 2)).put (Reg.SEQ.HCB_HOST.CS f) (bitsAt v 2 3)).put
    (Reg.SEQ.HCB_HOST.LEN_M1 f) (bitsAt v 5 5)).put (Reg.SEQ.HCB_HOST.DATA f) (bitsAt v 10 32)).put
      (Reg.SEQ.HCB_HOST.READ f) (bitsAt v 62 1)).put (Reg.SEQ.HCB_HOST.GO f) 1

theorem Frame.putHcbHost {cs : List Component} {fields words : List Fld} {s t : State} {f : Nat}
    (h : Frame cs fields words s t) (hf : hcbHostFields f ⊆ fields) (v : Nat) :
    Frame cs fields words s (t.putHcbHost f v) := by
  refine (((((h.put (hf ?_) _).put (hf ?_) _).put (hf ?_) _).put (hf ?_) _).put (hf ?_) _).put (hf ?_) _ <;>
    simp [hcbHostFields]

/-- The host's transaction that a value of SEQ.HCB_HOST asks for. -/
def hcbHostTx (v : Nat) : HcbTx := ⟨bitsAt v 2 3, bitsAt v 5 5 + 1, bitsAt v 10 32 % 2 ^ (bitsAt v 5 5 + 1),
  .host (decide (bitsAt v 62 1 = 1))⟩

/-- GO on a free, enabled master: the transaction goes out at once. -/
theorem State.hcbHost_goes {s : State} {f v : Nat} (hlen : (bitsAt v 5 5 + 1) % 8 = 0) (hgo : bitsAt v 63 1 = 1)
    (hfree : s.on (Reg.SEQ.HCB_HOST.GO f) = false) (hcur : (s.hcb f (bitsAt v 0 2)).cur = none)
    (hwait : (s.hcb f (bitsAt v 0 2)).seqWait = []) (hen : s.on (Reg.SEQ.HCB_CFG.EN f (bitsAt v 0 2)) = true) :
    s.hcbHost f v = ((((s.putHcbHost f v).setHcb f (bitsAt v 0 2) { s.hcb f (bitsAt v 0 2) with
      hostWait := some (hcbHostTx v) }).setHcb f (bitsAt v 0 2) { s.hcb f (bitsAt v 0 2) with
        cur := some (hcbHostTx v), hostWait := none, lastSeq := false }).emitNow (.hcb f (bitsAt v 0 2) (bitsAt v 2 3)
          (bitsAt v 5 5 + 1) (bitsAt v 10 32 % 2 ^ (bitsAt v 5 5 + 1)))) := by
  have hm := bitsAt_lt v 0 2
  have hstart : s.hcbHost f v = ((s.putHcbHost f v).setHcb f (bitsAt v 0 2) { s.hcb f (bitsAt v 0 2) with
      hostWait := some (hcbHostTx v) }).hcbNext f (bitsAt v 0 2) := by
    simp [State.hcbHost, hlen, hgo, hfree, State.putHcbHost, hcbHostTx]
  have hon : (s.putHcbHost f v).on (Reg.SEQ.HCB_CFG.EN f (bitsAt v 0 2)) = true := by
    rw [State.on, ((Frame.refl s).putHcbHost (cs := []) (words := []) (List.Subset.refl _) v).get, ← State.on, hen]
    simp only [hcbHostFields, List.mem_cons, forall_eq_or_imp, forall_eq, List.not_mem_nil, or_false,
      Reg.SEQ.HCB_HOST.MASTER, Reg.SEQ.HCB_HOST.CS, Reg.SEQ.HCB_HOST.LEN_M1, Reg.SEQ.HCB_HOST.DATA,
      Reg.SEQ.HCB_HOST.READ, Reg.SEQ.HCB_HOST.GO, Reg.SEQ.HCB_CFG.EN]
    omega
  rw [hstart, State.hcbNext_host (by rw [State.hcb_setHcb]; exact hcur) (by rwa [State.setHcb_on])
    (by rw [State.hcb_setHcb]) (by rw [State.hcb_setHcb]; exact .inl hwait), State.hcb_setHcb]
  rfl

theorem State.hcbHost_illegal {s : State} {f v : Nat} (h : (bitsAt v 5 5 + 1) % 8 ≠ 0) :
    s.hcbHost f v = s.illegal (dieOffset f 0xC0040) := if_pos h

theorem State.hcbHost_busy {s : State} {f v : Nat} (hlen : (bitsAt v 5 5 + 1) % 8 = 0) (hgo : bitsAt v 63 1 = 1)
    (hbusy : s.on (Reg.SEQ.HCB_HOST.GO f) = true) : s.hcbHost f v = s := by
  simp [State.hcbHost, hlen, hgo, hbusy]

/-! ### The end of a transaction (R99) -/

theorem exec_hcbDone {s : State} {f : Fin 6} {m : Fin 4} {tx : HcbTx} (hd : s.dieUp f = true)
    (hcur : (s.hcb f m).cur = some tx) (miso : BitVec 32) : exec (.hcbDone f m miso) s
      = .next (((s.setHcb f m { s.hcb f m with cur := none }).hcbEffect f tx miso.toNat).hcbNext f m) := by
  show execHcbDone f m miso s = _
  rw [execHcbDone, hcur]
  exact congrArg Host.Outcome.next (State.when_of hd _)

theorem State.hcbEffect_hostRead {s : State} {f miso : Nat} {tx : HcbTx} (h : tx.why = .host true) :
    s.hcbEffect f tx miso = (s.put (Reg.SEQ.HCB_HOST.GO f) 0).put (Reg.SEQ.HCB_HOST.DATA f) (miso % 2 ^ tx.len) := by
  simp [State.hcbEffect, h]

theorem State.hcbEffect_program {s : State} {f miso : Nat} {tx : HcbTx} (h : tx.why = .program)
    (hseq : (s.seq f).st = .hcb) : s.hcbEffect f tx miso = s.seqNext f := by
  simp [State.hcbEffect, h, hseq]

/-- A host read's data stands in DATA, and GO reads 0. -/
theorem hcbDone_hostRead {s : State} {f : Fin 6} {m : Fin 4} {miso : BitVec 32} {tx : HcbTx} (hd : s.dieUp f = true)
    (hcur : (s.hcb f m).cur = some tx) (hwhy : tx.why = .host true) (hlen : tx.len ≤ 32)
    (hseq : (s.hcb f m).seqWait = []) (hhost : (s.hcb f m).hostWait = none) :
    ∃ t, exec (.hcbDone f m miso) s = .next t ∧ t.get (Reg.SEQ.HCB_HOST.GO f) = 0
      ∧ t.get (Reg.SEQ.HCB_HOST.DATA f) = miso.toNat % 2 ^ tx.len ∧ (t.hcb f m).cur = none
      ∧ Frame [.air] [Reg.SEQ.HCB_HOST.GO f, Reg.SEQ.HCB_HOST.DATA f] [] s t := by
  rw [exec_hcbDone hd hcur, State.hcbEffect_hostRead hwhy, State.hcbNext_idle (by simpa using hseq) (by simpa using hhost)]
  refine ⟨_, rfl, ?_, ?_, ?_, (((Frame.refl s).setHcb (by simp) _ _ _).put (by simp) _).put (by simp) _⟩
  · rw [State.get_put_other _ _ _ _ (by simp [Reg.SEQ.HCB_HOST.GO, Reg.SEQ.HCB_HOST.DATA]), State.get_put_same]
    rfl
  · have hfit : 2 ^ tx.len ≤ 2 ^ 32 := Nat.pow_le_pow_right (by omega) hlen
    have hlt := Nat.mod_lt miso.toNat (Nat.two_pow_pos tx.len)
    rw [State.get_put_same]
    exact Nat.mod_eq_of_lt (Nat.lt_of_lt_of_le hlt hfit)
  · simp

/-- With both waiting after one of SEQ's, the host's transaction is next. -/
theorem hcbDone_alternates {s : State} {f : Fin 6} {m : Fin 4} {miso : BitVec 32} {tx u w : HcbTx} {rest : List HcbTx}
    (hd : s.dieUp f = true) (hcur : (s.hcb f m).cur = some tx) (hwhy : tx.why = .program) (hst : (s.seq f).st = .hcb)
    (hen : s.on (Reg.SEQ.HCB_CFG.EN f m) = true) (hlast : (s.hcb f m).lastSeq = true)
    (hseq : (s.hcb f m).seqWait = w :: rest) (hhost : (s.hcb f m).hostWait = some u) :
    ∃ t, exec (.hcbDone f m miso) s = .next t ∧ (t.hcb f m).cur = some u ∧ (t.hcb f m).seqWait = w :: rest
      ∧ Frame [.air, .out] [Reg.SEQ.STATUS.PC f] [] s t := by
  have hon : ((s.setHcb f m { s.hcb f m with cur := none }).seqNext f).on (Reg.SEQ.HCB_CFG.EN f m) = true := by
    rw [State.on, ((Frame.refl _).seqNext (cs := [.air]) (fields := [Reg.SEQ.STATUS.PC f]) (words := []) (by simp)
      (by simp)).get, ← State.on, State.setHcb_on, hen]
    simp only [List.mem_singleton, forall_eq, Reg.SEQ.STATUS.PC, Reg.SEQ.HCB_CFG.EN]
    omega
  rw [exec_hcbDone hd hcur, State.hcbEffect_program hwhy (by rwa [State.setHcb_seq]),
    State.hcbNext_host (u := u) (by simp) hon (by simpa using hhost) (.inr (by simpa using hlast))]
  refine ⟨_, rfl, by simp, by simpa using hseq, ?_⟩
  exact (((((Frame.refl s).setHcb (by simp) _ _ _).seqNext (by simp) (by simp)).setHcb (by simp) _ _ _).emitNow
    (by simp) _)

/-- Settles O11: the writes of RXCH and SEQ.HCB_HOST by their cases, the calibrations by their ends, HCB_DONE by what
waits. -/
theorem receiveChains : Obligations.ReceiveChains := by
  unfold Obligations.ReceiveChains
  refine ⟨?_, ?_, ?_, ?_, ?_, ?_, ?_, ?_, ?_, ?_, ?_, ?_⟩
  · intro s f c v h hd hfc hl h1 hreq hoff
    obtain ⟨hen, hvalid, hgain, hruns⟩ := ((s.recorded [(f.val, dieOffset f (0x80000 + c * 0x10), v.toNat)]).putChain f c
      v.toNat).startChain_leaves f c
    refine ⟨_, exec_rxChainEnable h hd c v, ?_⟩
    rw [State.rxch_starts (s := s.recorded _) hfc hl h1 hreq hoff]
    refine ⟨?_, hvalid, hgain, hruns, ?_, ?_⟩
    · rw [hen, State.putChain_on]
      exact decide_eq_true h1
    · simp [State.chainDelivers, hruns]
    · exact ((((Frame.refl s).recorded (by simp) _).putChain (List.Subset.refl _) _).startChain (by simp)
        (List.Subset.refl _)).toFrameIn fun x hx => ⟨_, List.mem_singleton.2 rfl, chainFields_range f c x hx⟩
  · intro s f c v h hd hbad
    refine ⟨_, exec_rxChainEnable h hd c v, ?_⟩
    have hfc : fcLegal (bitsAt v.toNat 2 15) = false := by
      simp only [fcLegal, Bool.or_eq_false_iff, Bool.and_eq_false_iff, decide_eq_false_iff_not]; omega
    rw [State.rxch_illegal hfc]
    exact ⟨State.illegal_valid _ _, ((Frame.refl s).recorded (by simp [signalled]) _).illegal _⟩
  · intro s f c v h hd hfc hl h1 hon
    refine ⟨_, exec_calReq h hd c v, ?_⟩
    rw [State.rxch_requests (s := s.recorded _) hfc hl h1 (bitsAt_or_two v.toNat) hon]
    refine ⟨?_, State.calDue_all _ f c, ?_⟩
    · rw [State.each_keeps (fun x => x.get (Reg.FRF.RXCH.CAL_REQ f c)) _ _ (fun x cal => x.calDue_get f c cal _),
        State.get_put_same]
      rfl
    · exact (Frame.each (fun cal _ x => (Frame.refl x).calDue (by simp) f c cal) ((((Frame.refl s).recorded (by simp)
        _).putChain (List.Subset.refl _) _).put (by simp [chainFields]) 1)).toFrameIn
          fun x hx => ⟨_, List.mem_singleton.2 rfl, chainFields_range f c x hx⟩
  · intro s f c cal hd hon
    exact ⟨_, congrArg Host.Outcome.next (State.when_of (by simp [hd, hon]) _), (s.calDue_due f c cal).1,
      (Frame.refl s).calDue (by simp) f c cal⟩
  · intro s f c cal hd hdue hforced
    refine ⟨_, congrArg Host.Outcome.next (State.when_of (by simp [hd, hdue, hforced]) _), ?_, ?_,
      ((Frame.refl s).setChain (by simp) f c _).fire signalled_air (List.Subset.refl _) _⟩
    · rw [State.fire_chain, State.chain_setChain]
      exact List.mem_cons_self ..
    · rw [show 323 + 32 * f.val = dieSource f 3 by unfold dieSource; omega]
      exact State.fireDie_pends _ f.isLt (by omega)
  · intro s f c cal db hd hr hall
    have hvalid := State.endCal_valid (cal := cal) hall
    refine ⟨_, exec_calibrationDone hd hr true db, ?_⟩
    rw [State.calDone_eq, if_pos rfl]
    have hframe : Frame [.air] [Reg.FRF.RXCH.CAL_VALID f c, Reg.FRF.RXCH.IMAGE_DB f c] [] s
        ((s.endCal f c cal).showCal f c) :=
      ((s.endCal_frame f c cal).mono (List.Subset.refl _) (List.nil_subset _) (List.Subset.refl _)).showCal (by simp)
    have hruns : cal.val ∉ (((s.endCal f c cal).showCal f c).chain f c).running := by
      rw [State.showCal_chain, State.endCal_chain]
      simp
    by_cases h0 : cal.val = 0
    · rw [if_pos h0]
      refine ⟨?_, fun _ => ?_, by rwa [State.put_chain], hframe.put (by simp) _⟩
      · rw [State.get_put_other, hvalid]
        simp only [Reg.FRF.RXCH.IMAGE_DB, Reg.FRF.RXCH.CAL_VALID]
        omega
      · rw [State.get_put_same]
        exact Nat.mod_eq_of_lt db.isLt
    · rw [if_neg h0]
      exact ⟨hvalid, fun he => absurd (congrArg Fin.val he) h0, hruns, hframe⟩
  · intro s f c cal db hd hr
    refine ⟨_, exec_calibrationDone hd hr false db, ?_⟩
    rw [State.calDone_eq, if_neg Bool.false_ne_true]
    refine ⟨?_, ?_, ?_⟩
    · rw [State.raise_get, State.get_put_same]
      rfl
    · rw [show 323 + 32 * f.val = dieSource f 3 by unfold dieSource; omega]
      exact State.raise_pends _ _ f.isLt (by omega)
    · exact (((s.endCal_frame f c cal).mono (by simp) (List.nil_subset _) (List.nil_subset _)).showCal (by simp)).raise
        signalled_air (by simp) (List.Subset.refl _) _ _
  · intro s f v h hd hlen hgo hfree hcur hwait hen
    refine ⟨_, exec_hcbHostGo h hd v, ?_⟩
    rw [State.hcbHost_goes (s := s.recorded _) hlen hgo hfree hcur hwait hen]
    refine ⟨?_, rfl, ((((((Frame.refl s).recorded (by simp) _).putHcbHost (List.Subset.refl _) _).setHcb (by simp) _ _
      _).setHcb (by simp) _ _ _).emitNow (by simp) _)⟩
    rw [State.emitNow_get, State.setHcb_get, State.setHcb_get]
    exact State.get_put_same _ _ _
  · intro s f v h hd hlen
    refine ⟨_, exec_hcbHostGo h hd v, ?_⟩
    rw [State.hcbHost_illegal hlen]
    exact ⟨State.illegal_valid _ _, ((Frame.refl s).recorded (by simp [signalled]) _).illegal _⟩
  · intro s f v h hd hlen hgo hbusy
    refine ⟨_, exec_hcbHostGo h hd v, ?_⟩
    rw [State.hcbHost_busy (s := s.recorded _) hlen hgo hbusy]
    exact (Frame.refl s).recorded (by simp) _
  · exact fun s f m miso tx hd hcur hwhy hlen hseq hhost => hcbDone_hostRead hd hcur hwhy hlen hseq hhost
  · exact fun s f m miso tx u w rest hd hcur hwhy hst hen hlast hseq hhost =>
      hcbDone_alternates hd hcur hwhy hst hen hlast hseq hhost

end Sys2Proof.Machine

/-! SUPPORT. Stepped gain, markers, blanking and coexistence pairs: what each operation leaves of its own unit and of the
streams (R87 to R93, R128). -/

namespace Sys2Proof.Machine

/-- The bits written at a place are the bits read there. -/
theorem bitsAt_putBits (n lo w v : Nat) : bitsAt (putBits n lo w v) lo w = v % 2 ^ w := by
  have hlt : n % 2 ^ lo < 2 ^ lo := Nat.mod_lt _ (Nat.two_pow_pos lo)
  have hsplit : putBits n lo w v = n % 2 ^ lo + 2 ^ lo * (n / 2 ^ (lo + w) * 2 ^ w + v % 2 ^ w) := by
    rw [putBits, Nat.pow_add]
    ring
  rw [bitsAt, hsplit, Nat.add_mul_div_left _ _ (Nat.two_pow_pos lo), Nat.div_eq_of_lt hlt, Nat.zero_add,
    Nat.mul_add_mod_self_right, Nat.mod_mod]

/-! ### Automatic gain (R87, R88) -/

/-- A source's gain after a write of it. -/
@[simp] theorem State.gain_setGain (s : State) (f src : Nat) (g : GainRun) : (s.setGain f src g).gain f src = g := by
  simp only [State.gain, State.setGain]
  split <;> simp [State.put]

/-- A chain's index shows in RXCH.GAIN. -/
theorem State.setGain_shows (s : State) (f c : Nat) (g : GainRun) :
    (s.setGain f (40 + c) g).get (Reg.FRF.RXCH.GAIN f c) = g.idx % 16 := by
  rw [State.setGain, if_pos (Nat.le_add_right 40 c), Nat.add_sub_cancel_left, State.get_put_same]
  rfl

theorem State.setGain_on (s : State) {f src : Nat} {g : GainRun} {x : Fld}
    (h : 40 ≤ src → (Reg.FRF.RXCH.GAIN f (src - 40)).key ≠ x.key) : (s.setGain f src g).on x = s.on x := by
  rw [State.on, State.setGain]
  split
  · rw [State.get_put_other _ _ _ _ (h ‹_›)]
    rfl
  · rfl

/-- Where only the streams change, a source's gain stands. -/
theorem State.StreamsOnly.gain {s t : State} (h : s.StreamsOnly t) (hf : Frame [.air] [] [] s t) (f src : Nat) :
    t.gain f src = s.gain f src := by
  have hmax : t.gainStart f src = s.gainStart f src := by
    rw [State.gainStart, State.gainStart, hf.get (by simp)]
  rw [State.gain, State.gain, hmax, h]

/-- What happens on a source's streams when a step takes effect: markers while something is active, spoilt windows
(R88, R137). -/
def State.markStep (s : State) (f src : Nat) (db : Int) (sample : Nat) : State :=
  if db = 0 then s
  else s.eachCtx f src fun x i => if s.sourceBusy f src then x.mark f i sample db else x.spoil f i .whole

theorem State.gainTakes_eq (s : State) (f src idx sample : Nat) : s.gainTakes f src idx sample
    = ((s.markStep f src (6 * ((idx : Int) - (s.gain f src).idx)) sample).setGain f src
        { s.gain f src with idx := idx }).scaleFloors f src (6 * ((idx : Int) - (s.gain f src).idx)) := rfl

theorem State.scaleFloors_streams (s : State) (f src : Nat) (db : Int) : s.StreamsOnly (s.scaleFloors f src db) := rfl

section
variable {cs : List Component} {fields words : List Fld} {s t : State} {f src : Nat}

theorem Frame.markStep (h : Frame cs fields words s t) (hc : .air ∈ cs) (db : Int) (sample : Nat) :
    Frame cs fields words s (t.markStep f src db sample) :=
  Frame.ite (fun _ => h) fun _ => h.eachCtx fun i _ x =>
    Frame.ite (fun _ => (Frame.refl x).mark hc f i sample db) fun _ => (Frame.refl x).spoil hc f i _

theorem Frame.scaleFloors (h : Frame cs fields words s t) (hc : .air ∈ cs) (db : Int) :
    Frame cs fields words s (t.scaleFloors f src db) := h.setAir hc _

theorem Frame.gainTakes (h : Frame cs fields words s t) (hc : .air ∈ cs)
    (hf : 40 ≤ src → Reg.FRF.RXCH.GAIN f (src - 40) ∈ fields) (idx sample : Nat) :
    Frame cs fields words s (t.gainTakes f src idx sample) := by
  rw [State.gainTakes_eq]
  exact ((h.markStep hc _ _).setGain hc hf _).scaleFloors hc _

end

/-- The index a step takes effect with, the rest of the gain as it stands. -/
theorem State.gainTakes_gain (s : State) (f src idx sample : Nat) :
    (s.gainTakes f src idx sample).gain f src = { s.gain f src with idx := idx } := by
  rw [State.gainTakes_eq, (State.scaleFloors_streams _ f src _).gain ((Frame.refl _).scaleFloors (by simp) _),
    State.gain_setGain]

theorem State.gainTakes_shows (s : State) (f c idx sample : Nat) :
    (s.gainTakes f (40 + c) idx sample).get (Reg.FRF.RXCH.GAIN f c) = idx % 16 := by
  rw [State.gainTakes_eq]
  exact State.setGain_shows ..

/-- A chain's step takes effect at once, and its window counts restart (R88, R89). -/
theorem State.gainStep_chain (s : State) (f c idx sample : Nat) : s.gainStep f (40 + c) idx sample
    = (s.setGain f (40 + c) { s.gain f (40 + c) with high := 0, low := 0, waitUp := none }).gainTakes f (40 + c) idx
        sample := if_neg (by omega)

theorem State.gainStep_chain_gain (s : State) (f c idx sample : Nat) : (s.gainStep f (40 + c) idx sample).gain f (40 + c)
    = { s.gain f (40 + c) with high := 0, low := 0, waitUp := none, idx := idx } := by
  rw [State.gainStep_chain, State.gainTakes_gain, State.gain_setGain]

theorem Frame.gainStep_chain {cs : List Component} {fields words : List Fld} {s t : State} {f c : Nat}
    (h : Frame cs fields words s t) (hc : .air ∈ cs) (hf : Reg.FRF.RXCH.GAIN f c ∈ fields) (idx sample : Nat) :
    Frame cs fields words s (t.gainStep f (40 + c) idx sample) := by
  rw [State.gainStep_chain]
  have hf40 : 40 ≤ 40 + c → Reg.FRF.RXCH.GAIN f (40 + c - 40) ∈ fields := fun _ => by rwa [Nat.add_sub_cancel_left]
  exact (h.setGain hc hf40 _).gainTakes hc hf40 _ _

/-! ### The end of a window (R87, R128) -/

theorem State.each_id {α : Type} (l : List α) (s : State) : (s.each l fun s _ => s) = s :=
  State.each_keeps (fun x => x) l _ (fun _ _ => rfl) s

/-- No context clamped: nothing is counted. -/
theorem State.countClamps_nil (s : State) (f src : Nat) : s.countClamps f src [] = s := by
  simp only [State.countClamps, List.any_nil, Bool.false_eq_true, if_false]
  exact State.each_id _ s

theorem State.StreamsOnly.setDgain {s t : State} (h : s.StreamsOnly t) (x : Tbl Nat) :
    s.StreamsOnly { t with air := { t.air with dgain := x } } := h.trans rfl

theorem State.applyDgain_streams (s : State) (f src sample : Nat) : s.StreamsOnly (s.applyDgain f src sample) :=
  State.StreamsOnly.eachCtx (fun x _ => .ite (.refl x) (.ite (((State.StreamsOnly.refl x).setDgain _).mark _ _ _ _)
    ((State.StreamsOnly.refl x).setDgain _))) (.refl s)

theorem Frame.applyDgain {cs : List Component} {fields words : List Fld} {s t : State} {f src : Nat}
    (h : Frame cs fields words s t) (hc : .air ∈ cs) (sample : Nat) :
    Frame cs fields words s (t.applyDgain f src sample) :=
  h.eachCtx fun _ _ x => Frame.ite (fun _ => Frame.refl x) fun _ => Frame.ite
    (fun _ => ((Frame.refl x).setAir hc _).mark hc _ _ _ _) fun _ => (Frame.refl x).setAir hc _

theorem State.applyDgain_gain (s : State) (f src sample d k : Nat) : (s.applyDgain f src sample).gain d k = s.gain d k :=
  (s.applyDgain_streams f src sample).gain ((Frame.refl s).applyDgain (by simp) sample) d k

/-- What a window adds to a source's counts (R87). -/
def GainRun.counted (g : GainRun) : PeakClass → GainRun
  | .high => { g with high := g.high + 1, low := 0, waitUp := g.waitUp.map (· + 1) }
  | .mid => { g with high := 0, low := 0, waitUp := g.waitUp.map (· + 1) }
  | .low => { g with high := 0, low := g.low + 1, waitUp := g.waitUp.map (· + 1) }

theorem GainRun.counted_keeps (g : GainRun) (p : PeakClass) :
    (g.counted p).idx = g.idx ∧ (g.counted p).held = g.held ∧ (g.counted p).steps = g.steps := by
  cases p <;> exact ⟨rfl, rfl, rfl⟩

/-- While steps are held back a window only counts. -/
theorem State.agcWindow_held {s : State} {f src : Nat} {p : PeakClass}
    (h : (s.setGain f src ((s.gain f src).counted p)).agcHeld f src = true) (sample : Nat) :
    s.agcWindow f src p sample = s.setGain f src ((s.gain f src).counted p) := by
  cases p <;> exact if_pos h

/-- The third window in a row above −6 dBFS steps down. -/
theorem State.agcWindow_down {s : State} {f src : Nat}
    (h : (s.setGain f src ((s.gain f src).counted .high)).agcHeld f src = false) (h2 : 2 ≤ (s.gain f src).high)
    (h0 : 0 < (s.gain f src).idx) (sample : Nat) : s.agcWindow f src .high sample
      = (s.setGain f src ((s.gain f src).counted .high)).gainStep f src ((s.gain f src).idx - 1) sample := by
  refine (if_neg (Bool.eq_false_iff.1 h)).trans (if_pos ⟨?_, h0⟩)
  show 3 ≤ (s.gain f src).high + 1
  omega

theorem State.agcHeld_chain (s : State) (f c : Nat) (p : PeakClass) :
    (s.setGain f (40 + c) ((s.gain f (40 + c)).counted p)).agcHeld f (40 + c)
      = ((s.gain f (40 + c)).held || !(s.gain f (40 + c)).steps.isEmpty || s.on (Reg.FRF.RXCH.AGC_HOLD f c)) := by
  obtain ⟨-, hheld, hsteps⟩ := (s.gain f (40 + c)).counted_keeps p
  rw [State.agcHeld, State.gain_setGain, hheld, hsteps, Nat.add_sub_cancel_left, State.setGain_on]
  · simp
  · intro _
    simp only [Reg.FRF.RXCH.GAIN, Reg.FRF.RXCH.AGC_HOLD]
    omega

/-! ### Markers (R88) -/

theorem State.streamBusy_congr {s t : State} (ht : t.air.trackers = s.air.trackers) (hd : t.air.ctxs = s.air.ctxs)
    (f i : Nat) : t.streamBusy f i = s.streamBusy f i := by rw [State.streamBusy, State.streamBusy, ht, hd]

theorem State.spoil_markers (s : State) (f i : Nat) (x : Spoil) : (s.spoil f i x).air.markers = s.air.markers := by
  simp only [State.spoil]
  split <;> rfl

theorem State.mark_busy (s : State) (f i sample : Nat) (db : Int) (j : Nat) :
    (s.mark f i sample db).streamBusy f j = s.streamBusy f j :=
  State.streamBusy_congr (State.spoil_trackers _ _ _ _) (State.spoil_ctxs _ _ _ _) f j

/-- A marker joins those of its own stream, those before it kept while something is active there. -/
theorem State.mark_markers (s : State) (f i sample : Nat) (db : Int) (j : Nat) :
    Tbl.getD (s.mark f i sample db).air.markers (512 * f + j) []
      = if i = j then (if s.streamBusy f i then Tbl.getD s.air.markers (512 * f + i) [] else []) ++ [(sample, db)]
        else Tbl.getD s.air.markers (512 * f + j) [] := by
  rw [State.mark, State.spoil_markers, Tbl.getD_put]
  simp only [Nat.add_left_cancel_iff]

/-- One marker each on a list of streams without repetition. -/
theorem State.marks_markers (f sample : Nat) (db : Int) {i : Nat} (l : List Nat) (hl : l.Nodup) (s : State) :
    Tbl.getD (s.each l fun x j => x.mark f j sample db).air.markers (512 * f + i) []
      = if i ∈ l then (if s.streamBusy f i then Tbl.getD s.air.markers (512 * f + i) [] else []) ++ [(sample, db)]
        else Tbl.getD s.air.markers (512 * f + i) [] := by
  induction l generalizing s with
  | nil => rfl
  | cons j l ih =>
    obtain ⟨hj, hl⟩ := List.nodup_cons.1 hl
    rw [State.each_cons, ih hl, State.mark_busy, State.mark_markers]
    by_cases he : j = i
    · subst he
      simp [hj]
    · simp [he, Ne.symm he]

/-- A step that takes effect while a stream is active marks it (R88). -/
theorem State.markStep_markers {s : State} {f src i : Nat} {db : Int} (hdb : db ≠ 0) (hi : i < 512)
    (hon : s.ctxOfSource f src i = true) (hbusy : s.streamBusy f i = true) (sample : Nat) :
    Tbl.getD (s.markStep f src db sample).air.markers (512 * f + i) []
      = Tbl.getD s.air.markers (512 * f + i) [] ++ [(sample, db)] := by
  have hsrc : s.sourceBusy f src = true :=
    List.any_eq_true.2 ⟨i, List.mem_range.2 hi, by rw [hon, hbusy]; rfl⟩
  simp only [State.markStep, if_neg hdb, hsrc, if_true, State.eachCtx]
  rw [State.marks_markers _ _ _ _ (List.nodup_range.filter _), if_pos (mem_filter_range hi (by simp [hon])),
    if_pos hbusy]

/-! ### Blanking (R90, R91) -/

/-- What a context held in progress taken away, and an END notice sent for each demodulator context (R91, R143). -/
def State.suppress (s : State) (f i : Nat) : State :=
  State.each { s with air := { s.air with
      trackers := s.air.trackers.filter fun e => !(e.1 / 2048 = f && e.2.ctx = i)
      ctxs := s.air.ctxs.filter fun e => !(e.1 / 4096 = f && e.2.ctx = i) } }
    (s.air.ctxs.filter fun e => e.1 / 4096 = f && e.2.ctx = i) fun s e => s.sendUp f (.endNotice e.2.serial true)

theorem State.blankStream_eq (s : State) (f n i : Nat) : ∃ m, s.blankStream f n i
    = ((((s.suppress f i).bumpSatBy (Reg.LINK.BLANK_CNT f n) m).showTrack f).showCtx f).spoil f i .whole := ⟨_, rfl⟩

theorem State.counted_air (s : State) (g : Fld) (m f : Nat) :
    (((s.bumpSatBy g m).showTrack f).showCtx f).air = s.air := rfl

theorem State.suppress_streams (s : State) (f i : Nat) : s.StreamsOnly (s.suppress f i) := by
  have hgone : s.StreamsOnly { s with air := { s.air with
      trackers := s.air.trackers.filter fun e => !(e.1 / 2048 = f && e.2.ctx = i)
      ctxs := s.air.ctxs.filter fun e => !(e.1 / 4096 = f && e.2.ctx = i) } } := rfl
  exact hgone.each fun _ _ => rfl

theorem State.suppress_trackers (s : State) (f i : Nat) : (s.suppress f i).air.trackers
    = s.air.trackers.filter fun e => !(e.1 / 2048 = f && e.2.ctx = i) :=
  State.each_keeps (fun x => x.air.trackers) _ (fun x (e : Nat × DemodCtx) => x.sendUp f (.endNotice e.2.serial true))
    (fun _ _ => rfl) _

theorem State.blankStream_trackers (s : State) (f n i : Nat) : ∀ e ∈ (s.blankStream f n i).air.trackers,
    e ∈ s.air.trackers ∧ ¬ (e.1 / 2048 = f ∧ e.2.ctx = i) := by
  intro e he
  obtain ⟨m, heq⟩ := s.blankStream_eq f n i
  rw [heq, State.spoil_trackers, State.counted_air, State.suppress_trackers] at he
  simpa [List.mem_filter, imp_iff_not_or] using he

theorem State.StreamsOnly.blankStream {s t : State} (h : s.StreamsOnly t) (f n i : Nat) :
    s.StreamsOnly (t.blankStream f n i) := by
  obtain ⟨m, heq⟩ := t.blankStream_eq f n i
  rw [heq]
  exact ((h.trans (t.suppress_streams f i)).other (State.counted_air _ _ _ _)).spoil f i _

/-- The enabled contexts that follow BLANK n. -/
def State.blankCtxs (s : State) (f n : Nat) : List Nat := (List.range 512).filter fun i =>
  s.on (Reg.LINK.STREAM.EN f i) && s.get (Reg.LINK.STREAM.BLANK_GRP f i) = n

/-- BLANK n noted as active, or no longer. -/
def State.noteBlank (s : State) (l : List Nat) : State := { s with air := { s.air with blank := l } }

theorem State.blankOn_eq (s : State) (f n : Nat) : s.blankOn f n = (s.noteBlank ((8 * f + n) :: s.air.blank)).each
    (s.blankCtxs f n) fun s i => s.blankStream f n i := rfl

theorem State.blankOff_eq (s : State) (f n : Nat) : s.blankOff f n
    = (s.noteBlank (s.air.blank.filter (· ≠ 8 * f + n))).each (s.blankCtxs f n) fun s i => s.spoil f i .whole := rfl

theorem State.blankOn_blank (s : State) (f n : Nat) : (s.blankOn f n).air.blank = (8 * f + n) :: s.air.blank := by
  rw [State.blankOn_eq, State.StreamsOnly.each (fun x i => (State.StreamsOnly.refl x).blankStream f n i)
    (State.StreamsOnly.refl _)]
  rfl

theorem State.blankOff_blank (s : State) (f n : Nat) :
    (s.blankOff f n).air.blank = s.air.blank.filter (· ≠ 8 * f + n) := by
  rw [State.blankOff_eq, State.StreamsOnly.each (fun x i => (State.StreamsOnly.refl x).spoil f i _)
    (State.StreamsOnly.refl _)]
  rfl

/-- No tracker is left on the contexts of a BLANK input that becomes active (R91). -/
theorem State.blankOn_trackers (s : State) (f n : Nat) : ∀ e ∈ (s.blankOn f n).air.trackers,
    e.1 / 2048 = f → e.2.ctx < 512 →
      ¬ (s.on (Reg.LINK.STREAM.EN f e.2.ctx) = true ∧ s.get (Reg.LINK.STREAM.BLANK_GRP f e.2.ctx) = n) := by
  intro e he hf hi ⟨hen, hgrp⟩
  rw [State.blankOn_eq] at he
  refine (State.each_removes (held := fun x => x.air.trackers) (op := fun s i => s.blankStream f n i)
    (names := fun e i => e.1 / 2048 = f ∧ e.2.ctx = i) (fun x i => x.blankStream_trackers f n i) _ _ e he).2 e.2.ctx
      (mem_filter_range hi ?_) ⟨hf, rfl⟩
  simp [hen, hgrp]

section
variable {cs : List Component} {fields words : List Fld} {s t : State} {f n : Nat}

theorem Frame.showBlank (h : Frame cs fields words s t) (hf : Reg.FRF.BLANK_CTL.LEVEL f ∈ fields) (active : Bool) :
    Frame cs fields words s (t.showBlank f n active) := h.put hf _

theorem Frame.blankOn (h : Frame cs fields words s t) (hc : .air ∈ cs) (hf : lossFields f ⊆ fields)
    (hw : Reg.LINK.BLANK_CNT f n ∈ words) : Frame cs fields words s (t.blankOn f n) := by
  rw [State.blankOn_eq]
  exact (h.setAir hc _).each fun i _ x => (Frame.refl x).blankStream hc hf hw i

theorem Frame.blankOff (h : Frame cs fields words s t) (hc : .air ∈ cs) : Frame cs fields words s (t.blankOff f n) := by
  rw [State.blankOff_eq]
  exact (h.setAir hc _).each fun i _ x => (Frame.refl x).spoil hc f i _

end

/-- BLANK_CTL.LEVEL shows the raw level of the input (R90). -/
theorem State.showBlank_level (s : State) {f n : Nat} (hn : n < 8) :
    bitsAt ((s.showBlank f n true).get (Reg.FRF.BLANK_CTL.LEVEL f)) n 1
      = (1 + bitsAt (s.get (Reg.FRF.BLANK_CTL.POL f)) n 1) % 2 := by
  have hmod (x : Nat) : bitsAt (x % 2 ^ 8) n 1 = bitsAt x n 1 := by
    rw [bitsAt, bitsAt, pow_one, ← Nat.toNat_testBit, ← Nat.toNat_testBit, Nat.testBit_mod_two_pow, decide_eq_true hn,
      Bool.true_and]
  rw [State.showBlank, State.get_put_same]
  exact (hmod _).trans ((bitsAt_putBits _ _ _ _).trans (by simp [bit]))

/-! ### Coexistence pairs (R92, R93) -/

@[simp] theorem State.cx_setCx (s : State) (f n : Nat) (c : CxRun) : (s.setCx f n c).cx f n = c := by
  simp [State.cx, State.setCx]

@[simp] theorem State.setCx_on (s : State) (f n : Nat) (c : CxRun) (g : Fld) : (s.setCx f n c).on g = s.on g := rfl

@[simp] theorem State.emitNow_cx (s : State) (o : Output) (f n : Nat) : (s.emitNow o).cx f n = s.cx f n := rfl

@[simp] theorem State.fire_cx (s : State) (src f n : Nat) : (s.fire src).cx f n = s.cx f n := by
  simp [State.cx]

@[simp] theorem State.setCx_sending (s : State) (f n : Nat) (c : CxRun) (d m : Nat) :
    (s.setCx f n c).cxSending d m = s.cxSending d m := rfl

theorem Frame.cxGrant {cs : List Component} {fields words : List Fld} {s t : State} (h : Frame cs fields words s t)
    (hc : .air ∈ cs) (ho : .out ∈ cs) (f n : Nat) : Frame cs fields words s (t.cxGrant f n) :=
  Frame.ite (fun _ => (h.setCx hc f n _).emitNow ho _) fun _ => h

/-- What the granting side's output should be (R93). -/
def State.cxWanted (s : State) (f n : Nat) : Bool :=
  (s.cx f n).pin && !(s.cx f n).ignore && (s.cx f n).lead.isEmpty && !s.cxSending f n

/-- On the granting side the pair's grant follows, the rest of the pair as it stands. -/
theorem State.cxGrant_cx {s : State} {f n : Nat} (hen : s.on (Reg.FRF.CX.EN f n) = true)
    (hrole : s.on (Reg.FRF.CX.ROLE f n) = true) :
    (s.cxGrant f n).cx f n = { s.cx f n with gnt := s.cxWanted f n } := by
  by_cases hg : s.cxWanted f n = (s.cx f n).gnt
  · have hstay : s.cxGrant f n = s := if_neg (by simpa [hen, hrole, State.cxWanted] using hg)
    rw [hstay, hg]
  · have hgoes : s.cxGrant f n = (s.setCx f n { s.cx f n with gnt := s.cxWanted f n }).emitNow
        (.coex f n (s.cxWanted f n)) := if_pos (by simpa [hen, hrole, State.cxWanted] using hg)
    rw [hgoes, State.emitNow_cx, State.cx_setCx]

end Sys2Proof.Machine

/-! CERTIFICATE. Stepped gain, blanking and coexistence: `GainBlankingCoexistence` (R87 to R93). -/

namespace Sys2Proof.Machine

/-! ### GAIN_WINDOW, GAIN_STEP_UP_APPLY, GAIN_SETTLE (R87 to R89) -/

theorem exec_gainWindow_chain {s : State} {f : Fin 6} {c : Fin 4} (hd : s.dieUp f = true)
    (hon : s.on (Reg.FRF.RXCH.EN f c) = true) (peak : PeakClass) (sample : Nat) :
    exec (.gainWindow f ⟨40 + c.val, by omega⟩ peak [] sample) s
      = .next ((s.agcWindow f (40 + c.val) peak sample).applyDgain f (40 + c.val) sample) := by
  have hagc : s.agcOn f (40 + c.val) = true := by
    rw [State.agcOn, if_neg (by omega), Nat.add_sub_cancel_left, hon]
  refine congrArg Host.Outcome.next ((State.when_of (by simp [hd, hon]) _).trans ?_)
  dsimp only
  rw [State.countClamps_nil, if_pos hagc]

theorem exec_gainSettle {s : State} {f : Fin 6} {k : Fin 40} {a idx : Nat} {rest : List GainStep} (hd : s.dieUp f = true)
    (hsteps : (s.gain f k).steps = ⟨a, idx, true⟩ :: rest) (sample : Nat) : exec (.gainSettle f k sample) s
      = .next ((s.setGain f k { s.gain f k with steps := rest }).gainTakes f k idx sample) := by
  show execGainSettle f k s sample = _
  rw [execGainSettle, hsteps]
  exact congrArg Host.Outcome.next (State.when_of hd _)

/-- Of a converter, the write of its gain changes no register. -/
theorem Frame.setGain_link {cs : List Component} {fields words : List Fld} {s t : State} {f : Nat} {k : Fin 40}
    (h : Frame cs fields words s t) (hc : .air ∈ cs) (g : GainRun) : Frame cs fields words s (t.setGain f k g) :=
  h.setGain hc (fun h40 => absurd k.isLt (by omega)) g

/-- A write of a converter's gain leaves the streams as they are. -/
theorem State.setGain_ctxOnLink (s : State) {f k : Nat} (hk : k < 40) (g : GainRun) (i : Nat) :
    (s.setGain f k g).ctxOfSource f k i = s.ctxOnLink f k i := by
  rw [State.ctxOfSource_congr (s := s) (fun x _ => State.setGain_get_link hk g x), State.ctxOfSource, if_pos hk]

theorem State.setGain_air (s : State) (f src : Nat) (g : GainRun) :
    (s.setGain f src g).air = { s.air with gains := Tbl.put s.air.gains (44 * f + src) g } := by
  rw [State.setGain]
  split <;> rfl

/-- A converter's step that takes effect marks its active streams (R88). -/
theorem gainSettle_markers {s : State} {f : Fin 6} {k : Fin 40} {i : Fin 512} {idx : Nat} (rest : List GainStep)
    (hne : idx ≠ (s.gain f k).idx) (hon : s.ctxOnLink f k i = true) (hbusy : s.streamBusy f i = true) (sample : Nat) :
    Tbl.getD ((s.setGain f k { s.gain f k with steps := rest }).gainTakes f k idx sample).air.markers
        (512 * f.val + i.val) []
      = Tbl.getD s.air.markers (512 * f.val + i.val) [] ++ [(sample, 6 * ((idx : Int) - (s.gain f k).idx))] := by
  rw [State.gainTakes_eq, State.gain_setGain]
  have hmarks := State.markStep_markers (s := s.setGain f k { s.gain f k with steps := rest }) (f := f) (src := k)
    (db := 6 * ((idx : Int) - (s.gain f k).idx)) (by omega) i.isLt ((s.setGain_ctxOnLink k.isLt _ i).trans hon)
    ((State.streamBusy_congr (by rw [State.setGain_air]) (by rw [State.setGain_air]) f i).trans hbusy) sample
  rw [State.setGain_air] at hmarks
  refine Eq.trans ?_ hmarks
  rw [State.scaleFloors, State.setGain_air]

/-! ### BLANK_ASSERT (R90, R91) -/

theorem State.showBlank_stream {s : State} {f n i : Nat} {active : Bool} {g : Fld} (hi : i < 512)
    (hg : g ∈ streamFields f i) :    (s.showBlank f n active).get g = s.get g := by
  refine State.get_put_other _ _ _ _ fun he => ?_
  have hrange := streamFields_range f i g hg
  rw [dieOffset_eq, dieOffset_eq, ← he] at hrange
  simp only [Reg.FRF.BLANK_CTL.LEVEL] at hrange
  omega

theorem blank_range {f : Nat} {x : Fld} (hx : x ∈ Reg.FRF.BLANK_CTL.LEVEL f :: lossFields f) :
    ∃ r ∈ [(dieOffset f 0x80080, dieOffset f 0x80084), (dieOffset f 0x140048, dieOffset f 0x14004C),
        (dieOffset f 0x180004, dieOffset f 0x180008)], 8 * r.1 ≤ x.key ∧ x.key < 8 * r.2 := by
  simp only [lossFields, List.mem_cons, List.mem_append] at hx
  simp only [List.mem_cons, exists_eq_or_imp, exists_eq_left, List.not_mem_nil, or_false]
  refine hx.imp (fun hx => ?_) (Or.imp (trackFields_range f x) (ctxFields_range f x))
  simp only [hx, Reg.FRF.BLANK_CTL.LEVEL, dieOffset_eq]
  omega

/-! ### Coexistence pairs (R92, R93) -/

/-- A grant that is wanted and not given is given, with its pin. -/
theorem State.cxGrant_gives {s : State} {f n : Nat} (hen : s.on (Reg.FRF.CX.EN f n) = true)
    (hrole : s.on (Reg.FRF.CX.ROLE f n) = true) (hwant : s.cxWanted f n = true) (hno : (s.cx f n).gnt = false) :
    s.cxGrant f n = (s.setCx f n { s.cx f n with gnt := true }).emitNow (.coex f n true) := by
  rw [State.cxWanted] at hwant
  simp only [State.cxGrant, hwant, hen, hrole, hno]
  rfl


theorem exec_cxreqChange {s : State} {f : Fin 6} (hd : s.dieUp f = true) (n : Fin 4) (active : Bool) :
    exec (.cxreqChange f n active) s = .next ((s.setCx f n { s.cx f n with
      pin := active, ignore := (s.cx f n).ignore && active }).cxGrant f n) :=
  congrArg Host.Outcome.next (State.when_of hd _)

theorem exec_cxListenLead {s : State} {f : Fin 6} {n : Fin 4} (hd : s.dieUp f = true)
    (hen : s.on (Reg.FRF.CX.EN f n) = true) (probe : Bool) (id : Nat) :
    exec (.cxListenLead f n probe id) s = .next (s.cxLead f n (probe, id)) :=
  congrArg Host.Outcome.next (State.when_of (by simp [hd, hen]) _)

/-- Settles O12: a window that steps a chain, one that is held, a step that takes effect; a BLANK input's two edges; a
pair in each of its roles. -/
theorem gainBlankingCoexistence : Obligations.GainBlankingCoexistence := by
  unfold Obligations.GainBlankingCoexistence
  refine ⟨?_, ?_, ?_, ?_, ?_, ?_, ?_, ?_, ?_, ?_, ?_, ?_⟩
  · intro s f c at' hd hon hhold hheld hsteps hhigh hidx hlt
    have hfree := s.agcHeld_chain f c .high
    rw [hheld, hsteps, hhold] at hfree
    rw [exec_gainWindow_chain hd hon, State.agcWindow_down hfree hhigh hidx]
    have hframe : Frame [.air] [Reg.FRF.RXCH.GAIN f c] [] s ((s.setGain f (40 + c.val) ((s.gain f (40 + c.val)).counted
        .high)).gainStep f (40 + c.val) ((s.gain f (40 + c.val)).idx - 1) at') :=
      ((Frame.refl s).setGain (by simp) (fun _ => by simp) _).gainStep_chain (by simp) (by simp) _ _
    have hstep := (s.setGain f (40 + c.val) ((s.gain f (40 + c.val)).counted .high)).gainStep_chain_gain f c
      ((s.gain f (40 + c.val)).idx - 1) at'
    refine ⟨_, rfl, ?_, ?_, ?_, ?_, hframe.applyDgain (by simp) _⟩
    · rw [State.applyDgain_gain, hstep]
    · rw [State.applyDgain_gain, hstep]
    · rw [State.applyDgain_gain, hstep]
    · rw [((Frame.refl _).applyDgain (cs := [.air]) (fields := []) (words := []) (by simp) _).get (by simp),
        State.gainStep_chain, State.gainTakes_shows]
      exact Nat.mod_eq_of_lt (by omega)
  · intro s f c peak at' hd hon hhold
    have hheld := s.agcHeld_chain f c peak
    rw [hhold, Bool.or_true] at hheld
    rw [exec_gainWindow_chain hd hon, State.agcWindow_held hheld]
    refine ⟨_, rfl, ?_, ((Frame.refl s).setGain (by simp) (fun _ => by simp) _).applyDgain (by simp) _⟩
    rw [State.applyDgain_gain, State.gain_setGain]
    exact ((s.gain f (40 + c.val)).counted_keeps peak).1
  · intro s f c n at' hd hheld hwait hfree _
    have hstep := s.gainStep_chain_gain f c ((s.gain f (40 + c.val)).idx + 1) at'
    have hgo : (!s.sourceBusy f (40 + c.val) || decide (16 ≤ n)) = true := by
      rcases hfree with h | h <;> simp [h]
    refine ⟨_, congrArg Host.Outcome.next (State.when_of (by simp only [hd, hheld, hwait, hgo]; rfl) _), ?_, ?_,
      (Frame.refl s).gainStep_chain (by simp) (by simp) _ _⟩
    · exact congrArg GainRun.idx hstep
    · exact congrArg GainRun.waitUp hstep
  · intro s f k a idx at' rest hd hsteps
    have hgain := (s.setGain f k { s.gain f k with steps := rest }).gainTakes_gain f k idx at'
    rw [State.gain_setGain] at hgain
    exact ⟨_, exec_gainSettle hd hsteps at', congrArg GainRun.idx hgain, congrArg GainRun.steps hgain,
      ((Frame.refl s).setGain_link (by simp) _).gainTakes (by simp) (fun h40 => absurd k.isLt (by omega)) _ _⟩
  · intro s f k i a idx at' rest hd hsteps hne hon hbusy
    exact ⟨_, exec_gainSettle hd hsteps at', gainSettle_markers rest hne hon hbusy at'⟩
  · intro s f n hd hnot
    refine ⟨_, congrArg Host.Outcome.next (State.when_of (by simp [hd, hnot]) _), ?_, ?_, ?_, ?_⟩
    · rw [State.blankOn_blank]
      exact List.mem_cons_self ..
    · have hkeep := (Frame.refl (s.showBlank f n true)).blankOn (cs := [.air]) (f := f) (n := n)
        (fields := spargeFields f ++ lossFields f) (by simp) (List.subset_append_right _ _) (List.mem_singleton.2 rfl)
      rw [hkeep.get_low (by simp only [Reg.FRF.BLANK_CTL.LEVEL, dieOffset_eq]; omega), s.showBlank_level n.isLt]
    · intro e he hf hi hfollows
      refine (s.showBlank f n true).blankOn_trackers f n e he hf hi ?_
      rwa [State.on, State.showBlank_stream hi (by simp [streamFields]), State.showBlank_stream hi
        (by simp [streamFields])]
    · exact (((Frame.refl s).showBlank (fields := Reg.FRF.BLANK_CTL.LEVEL f :: lossFields f) (List.mem_cons_self ..)
        true).blankOn (by simp) (List.subset_cons_self ..) (by simp)).toFrameIn fun x hx => blank_range hx
  · intro s f n hd hin
    refine ⟨_, congrArg Host.Outcome.next (State.when_of (by simp [hd, hin]) _), ?_,
      ((Frame.refl s).showBlank (by simp) _).blankOff (by simp)⟩
    rw [State.blankOff_blank]
    simp
  · intro s f n hd hen hrole hcx hsend
    have hgrant := State.cxGrant_gives (s := s.setCx f n ⟨false, true, false, false, []⟩) (f := f) (n := n) hen hrole
      (by simp [State.cxWanted, hsend]) (by simp)
    rw [State.cx_setCx] at hgrant
    refine ⟨_, exec_cxreqChange hd n true, ?_, ?_, ((Frame.refl s).setCx (by simp) _ _ _).cxGrant (by simp) (by simp) _ _⟩
    · rw [hcx]
      exact (congrArg (fun x => x.cx f n) hgrant).trans (State.cx_setCx _ _ _ _)
    · rw [hcx]
      exact congrArg State.out hgrant
  · intro s f n hd hen hrole
    have hgrant := State.cxGrant_cx (s := s.setCx f n { s.cx f n with pin := false, ignore := (s.cx f n).ignore && false })
      (f := f) (n := n) hen hrole
    rw [State.cxWanted, State.cx_setCx] at hgrant
    exact ⟨_, exec_cxreqChange hd n false, congrArg CxRun.gnt hgrant, (congrArg CxRun.ignore hgrant).trans
      (Bool.and_false _), ((Frame.refl s).setCx (by simp) _ _ _).cxGrant (by simp) (by simp) _ _⟩
  · intro s f n hd hen hrole hgnt
    refine ⟨_, congrArg Host.Outcome.next (State.when_of (by simp [hd, hen, hrole, hgnt]) _), ?_, ?_, ?_, ?_⟩
    · rw [State.fire_cx, State.emitNow_cx, State.cx_setCx]
    · rw [State.fire_cx, State.emitNow_cx, State.cx_setCx]
    · rw [show 325 + 32 * f.val = dieSource f 5 by unfold dieSource; omega]
      exact State.fireDie_pends _ f.isLt (by omega)
    · exact (((Frame.refl s).setCx (by simp) _ _ _).emitNow (by simp [signalled]) _).fire signalled_air
        (List.Subset.refl _) _
  · intro s f n probe id hd hen hrole hreq
    rw [exec_cxListenLead hd hen, State.cxLead, if_neg (by simp [hrole]), if_neg (by simp [hreq])]
    exact ⟨_, rfl, by simp, by simp, rfl, ((Frame.refl s).setCx (by simp) _ _ _).emitNow (by simp) _⟩
  · intro s f n probe id hd hen hrole hreq
    rw [exec_cxListenLead hd hen, State.cxLead, if_neg (by simp [hrole]), if_pos (by simp [hreq])]
    exact ⟨_, rfl, by simp [hreq], by simp, (Frame.refl s).setCx (by simp) _ _ _⟩

end Sys2Proof.Machine

/-! SUPPORT. SEQ (R94 to R97): what each of its steps leaves of SEQ, of SEQ.STATUS and of the units it drives. -/

namespace Sys2Proof.Machine

/-! ### Rules for SEQ's own writes -/

@[simp] theorem State.seqNext_chain (s : State) (f d c : Nat) : (s.seqNext f).chain d c = s.chain d c := rfl

@[simp] theorem State.seqNext_evt (s : State) (f : Nat) : (s.seqNext f).evt = s.evt := rfl

@[simp] theorem State.emitNow_seq (s : State) (o : Output) (f : Nat) : (s.emitNow o).seq f = s.seq f := rfl

theorem State.seqNext_get {s : State} {f : Nat} {g : Fld} (h : (Reg.SEQ.STATUS.PC f).key ≠ g.key) :
    (s.seqNext f).get g = s.get g := State.get_put_other _ _ _ _ h

/-- The gain of a source follows its own record, and MAX_IDX before the first one. -/
theorem State.gain_congr {s t : State} {f src : Nat} (h : t.air.gains = s.air.gains)
    (hm : t.get (Reg.LINK.GAIN_CTL.MAX_IDX f src) = s.get (Reg.LINK.GAIN_CTL.MAX_IDX f src)) :
    t.gain f src = s.gain f src := by
  rw [State.gain, State.gain, State.gainStart, State.gainStart, h, hm]

theorem State.seqNext_gain (s : State) (f src : Nat) : (s.seqNext f).gain f src = s.gain f src :=
  State.gain_congr rfl (State.seqNext_get (by simp only [Reg.SEQ.STATUS.PC, Reg.LINK.GAIN_CTL.MAX_IDX]; omega))

/-! ### IDLE and the bank swap (R94, R96) -/

/-- The fields that a swap of the banks writes. -/
def swapFields (f : Nat) : List Fld := [Reg.SEQ.STATUS.ACTIVE_BANK f, Reg.SEQ.STATUS.SWAP_PENDING f, Reg.SEQ.CTL.SWAP f]

theorem Frame.seqSwapNow {cs : List Component} {fields words : List Fld} {s t : State} {f : Nat}
    (h : Frame cs fields words s t) (hf : swapFields f ⊆ fields) : Frame cs fields words s (t.seqSwapNow f) := by
  refine Frame.ite (fun _ => ((h.put (hf ?_) _).put (hf ?_) _).put (hf ?_) _) fun _ => h <;> simp [swapFields]

theorem State.seqSwapNow_seq (s : State) (f : Nat) : (s.seqSwapNow f).seq f = s.seq f := by
  rw [State.seqSwapNow]
  split <;> rfl

/-- A pending swap is made and no longer pending; without one the banks stand. -/
theorem State.seqSwapNow_get (s : State) (f : Nat) :
    (s.seqSwapNow f).get (Reg.SEQ.STATUS.ACTIVE_BANK f) = (if s.on (Reg.SEQ.STATUS.SWAP_PENDING f) = true
        then 1 - s.get (Reg.SEQ.STATUS.ACTIVE_BANK f) else s.get (Reg.SEQ.STATUS.ACTIVE_BANK f))
      ∧ (s.seqSwapNow f).on (Reg.SEQ.STATUS.SWAP_PENDING f) = false
      ∧ (s.seqSwapNow f).get (Reg.SEQ.CTL.SWAP f)
        = (if s.on (Reg.SEQ.STATUS.SWAP_PENDING f) = true then 0 else s.get (Reg.SEQ.CTL.SWAP f)) := by
  by_cases hp : s.on (Reg.SEQ.STATUS.SWAP_PENDING f) = true
  · simp only [State.seqSwapNow, hp, if_true]
    refine ⟨?_, ?_, State.get_put_same _ _ _⟩
    · rw [State.get_put_other, State.get_put_other, State.get_put_same]
      · exact Nat.mod_eq_of_lt (by simp only [Reg.SEQ.STATUS.ACTIVE_BANK]; omega)
      · simp only [Reg.SEQ.STATUS.ACTIVE_BANK, Reg.SEQ.STATUS.SWAP_PENDING]; omega
      · simp only [Reg.SEQ.STATUS.ACTIVE_BANK, Reg.SEQ.CTL.SWAP]; omega
    · rw [State.on, State.get_put_other, State.get_put_same]
      · rfl
      · simp only [Reg.SEQ.STATUS.SWAP_PENDING, Reg.SEQ.CTL.SWAP]; omega
  · simp only [State.seqSwapNow, if_neg hp]
    exact ⟨trivial, Bool.eq_false_iff.2 hp, trivial⟩

/-- Once made, a swap reads as pending no longer. -/
theorem State.seqSwapNow_pending {s : State} {f : Nat} (h : s.on (Reg.SEQ.STATUS.SWAP_PENDING f) = true) :
    (s.seqSwapNow f).get (Reg.SEQ.STATUS.SWAP_PENDING f) = 0 := by
  rw [State.seqSwapNow, if_pos h, State.get_put_other, State.get_put_same, Nat.zero_mod]
  simp only [Reg.SEQ.STATUS.SWAP_PENDING, Reg.SEQ.CTL.SWAP]
  omega

theorem Frame.seqToIdle {cs : List Component} {fields words : List Fld} {s t : State} {f : Nat}
    (h : Frame cs fields words s t) (hc : .air ∈ cs) (hf : swapFields f ⊆ fields) :
    Frame cs fields words s (t.seqToIdle f) := (h.setSeq hc f _).seqSwapNow hf

theorem State.seqToIdle_st (s : State) (f : Nat) : ((s.seqToIdle f).seq f).st = .idle := by
  rw [State.seqToIdle, State.seqSwapNow_seq, State.seq_setSeq]

/-- FAULT is no field of a swap. -/
theorem State.seqToIdle_fault (s : State) (f : Nat) :
    (s.seqToIdle f).get (Reg.SEQ.STATUS.FAULT f) = s.get (Reg.SEQ.STATUS.FAULT f) := by
  refine ((Frame.refl s).seqToIdle (cs := [.air]) (words := []) (by simp) (List.Subset.refl _)).get ?_
  simp only [swapFields, List.mem_cons, forall_eq_or_imp, forall_eq, List.not_mem_nil, or_false,
    Reg.SEQ.STATUS.ACTIVE_BANK, Reg.SEQ.STATUS.SWAP_PENDING, Reg.SEQ.CTL.SWAP, Reg.SEQ.STATUS.FAULT]
  omega

/-! ### FAULT (R94) -/

theorem State.seqFault_get (s : State) (f : Nat) : (s.seqFault f).get (Reg.SEQ.STATUS.FAULT f) = 1 := by
  rw [State.seqFault, State.raise_get, State.get_put_same]
  rfl

theorem State.seqFault_other (s : State) {f : Nat} {g : Fld} (h : (Reg.SEQ.STATUS.FAULT f).key ≠ g.key) :
    (s.seqFault f).get g = s.get g := by
  rw [State.seqFault, State.raise_get, State.get_put_other _ _ _ _ h]

theorem State.seqFault_seq (s : State) (f : Nat) : (s.seqFault f).seq f = s.seq f := State.fire_seq _ _ _

theorem State.seqFault_pends (s : State) {f : Nat} (hf : f < 6) : (s.seqFault f).pends (326 + 32 * f) := by
  rw [show 326 + 32 * f = dieSource f 6 by unfold dieSource; omega]
  exact State.raise_pends _ _ hf (by omega)

/-! ### HOP (R94, R139, R143) -/

theorem exec_seqHop {s : State} {f : Fin 6} (h : s.seqAt f 2 = true) : exec (.seqHop f) s
    = .next (s.seqHopTo f (bitsAt (s.seqCur f) 57 3) (bitsAt (s.seqCur f) 0 15)) :=
  congrArg Host.Outcome.next (State.when_of h _)

theorem State.seqHopTo_transmit (s : State) {f chain fc : Nat} (h : 4 ≤ chain) : s.seqHopTo f chain fc
    = (((s.setSeq f { s.seq f with st := .hopping chain }).put (Reg.FRF.TXCH.FC f (chain - 4)) fc).emitNow
        (.retune f chain fc)) := if_neg (by omega)

theorem State.seqHopTo_receive (s : State) {f chain fc : Nat} (h : chain < 4) : s.seqHopTo f chain fc
    = ((s.setSeq f { s.seq f with st := .hopping chain }).retuneRx f chain fc).eachCtx f (40 + chain) fun s i =>
        s.endCtxs f (fun d => d.ctx = i) false (Reg.DEMOD.SOURCE_LOST f) := if_pos h

/-- A retuning of a receive chain, or none, with its tuning and the floors of its contexts (R139). -/
theorem State.retuneRx_cases (s : State) (f c fc : Nat) :
    (s.get (Reg.FRF.RXCH.FC f c) = fc ∧ s.retuneRx f c fc = s)
      ∨ s.retuneRx f c fc = ((s.put (Reg.FRF.RXCH.FC f c) fc).emitNow (.retune f c fc)).eachCtx f (40 + c) fun s i =>
          s.resetFloors f i := by
  by_cases h : fc = s.get (Reg.FRF.RXCH.FC f c)
  · exact .inl ⟨h.symm, if_pos h⟩
  · exact .inr (if_neg h)

section
variable {cs : List Component} {fields words : List Fld} {s t : State} {f c : Nat}

theorem Frame.retuneRx (h : Frame cs fields words s t) (hc : .air ∈ cs) (ho : .out ∈ cs)
    (hf : Reg.FRF.RXCH.FC f c ∈ fields) (fc : Nat) : Frame cs fields words s (t.retuneRx f c fc) :=
  Frame.ite (fun _ => h) fun _ => Frame.eachCtx (fun i _ x => (Frame.refl x).resetFloors hc f i)
    ((h.put hf _).emitNow ho _)

theorem Frame.endEach (h : Frame cs fields words s t) (hc : .air ∈ cs) (hf : ctxFields f ⊆ fields)
    (hw : Reg.DEMOD.SOURCE_LOST f ∈ words) (src : Nat) : Frame cs fields words s (t.eachCtx f src fun s i =>
      s.endCtxs f (fun d => d.ctx = i) false (Reg.DEMOD.SOURCE_LOST f)) :=
  h.eachCtx fun _ _ x => (Frame.refl x).endCtxs hc hf hw _ _

end

theorem State.retuneRx_fc (s : State) {f c fc : Nat} (hfc : fc < 2 ^ 15) :
    (s.retuneRx f c fc).get (Reg.FRF.RXCH.FC f c) = fc := by
  rcases s.retuneRx_cases f c fc with ⟨hget, heq⟩ | heq
  · rw [heq, hget]
  · rw [heq, (Frame.eachCtx (cs := [.air]) (fields := []) (words := []) (fun i _ x => (Frame.refl x).resetFloors
      (by simp) f i) (Frame.refl _)).get (by simp), State.emitNow_get, State.get_put_same]
    exact Nat.mod_eq_of_lt hfc

/-- A receive chain that retunes leaves SEQ and what its contexts detect. -/
theorem State.retuneRx_streams (s : State) (f c fc : Nat) : s.StreamsOnly (s.retuneRx f c fc) :=
  .ite (.refl s) (.eachCtx (fun x i => (State.StreamsOnly.refl x).resetFloors f i) (.other (.refl s) rfl))

theorem State.endCtxs_gone (s : State) (f i : Nat) (blanked : Bool) (count : Fld) :
    ∀ e ∈ (s.endCtxs f (fun d => d.ctx = i) blanked count).air.ctxs,
      e ∈ s.air.ctxs ∧ ¬ (e.1 / 4096 = f ∧ e.2.ctx = i) := fun e he => by
  simpa [List.mem_filter, imp_iff_not_or] using he

/-- What HOP of a receive chain leaves: SEQ stalls, the chain is tuned, its contexts have ended (R94, R143). -/
theorem State.seqHopTo_leaves (s : State) {f chain fc : Nat} (h : chain < 4) (hfc : fc < 2 ^ 15) :
    ((s.seqHopTo f chain fc).seq f).st = .hopping chain
      ∧ (s.seqHopTo f chain fc).get (Reg.FRF.RXCH.FC f chain) = fc
      ∧ ∀ e ∈ (s.seqHopTo f chain fc).air.ctxs, e.1 / 4096 = f → e.2.ctx < 512 → s.ctxOnChain f chain e.2.ctx = false := by
  have hstall := (s.setSeq f { s.seq f with st := .hopping chain }).retuneRx_streams f chain fc
  have hframe := (Frame.refl (s.setSeq f { s.seq f with st := .hopping chain })).retuneRx (cs := [.air, .out]) (f := f)
    (c := chain) (words := []) (by simp) (by simp) (List.mem_singleton.2 rfl) fc
  have hof (i : Nat) (hi : i < 512) : ((s.setSeq f { s.seq f with st := .hopping chain }).retuneRx f chain fc).ctxOfSource
      f (40 + chain) i = s.ctxOnChain f chain i := by
    rw [State.ctxOfSource_congr (s := s), State.ctxOfSource, if_neg (by omega), Nat.add_sub_cancel_left]
    intro g hg
    refine (hframe.get fun x hx he => ?_).trans (State.setSeq_get _ _ _ _)
    have hg := (streamFields_range f i g hg).2
    rw [List.mem_singleton.1 hx] at he
    rw [dieOffset_eq, ← he] at hg
    simp only [Reg.FRF.RXCH.FC] at hg
    omega
  rw [State.seqHopTo_receive s h]
  refine ⟨?_, ?_, fun e he hf hi => ?_⟩
  · rw [(State.StreamsOnly.eachCtx (fun x i => (State.StreamsOnly.refl x).endCtxs f _ false _) hstall).seq,
      State.seq_setSeq]
  · rw [((Frame.refl _).endEach (cs := [.air]) (by simp) (List.Subset.refl _) (List.mem_singleton.2 rfl) _).get,
      State.retuneRx_fc _ hfc]
    intro x hx he
    have hx := (ctxFields_range f x hx).1
    rw [dieOffset_eq, he] at hx
    simp only [Reg.FRF.RXCH.FC] at hx
    omega
  · by_contra hon
    unfold State.eachCtx at he
    refine (State.each_removes (held := fun x => x.air.ctxs) (op := fun s i => s.endCtxs f (fun d => d.ctx = i) false
      (Reg.DEMOD.SOURCE_LOST f)) (names := fun e i => e.1 / 4096 = f ∧ e.2.ctx = i)
        (fun x i => x.endCtxs_gone f i false _) _ _ e he).2 e.2.ctx (mem_filter_range hi ?_) ⟨hf, rfl⟩
    rwa [hof _ hi]

theorem Frame.seqHopTo_receive {cs : List Component} {fields words : List Fld} {s t : State} {f chain fc : Nat}
    (h : Frame cs fields words s t) (hchain : chain < 4) (hc : .air ∈ cs) (ho : .out ∈ cs)
    (hf : Reg.FRF.RXCH.FC f chain :: ctxFields f ⊆ fields) (hw : Reg.DEMOD.SOURCE_LOST f ∈ words) :
    Frame cs fields words s (t.seqHopTo f chain fc) := by
  rw [State.seqHopTo_receive t hchain]
  exact ((h.setSeq hc f _).retuneRx hc ho (hf (List.mem_cons_self ..)) fc).endEach hc
    (fun _ hx => hf (List.mem_cons_of_mem _ hx)) hw _

/-- A chain in which SEQ is stalled delivers nothing. -/
theorem State.chainDelivers_hopping {s : State} {f c : Nat} (h : (s.seq f).st = .hopping c) :
    s.chainDelivers f c = false := by
  simp [State.chainDelivers, State.hopping, h]

theorem State.chainDelivers_off {s : State} {f c : Nat} (h : s.on (Reg.FRF.RXCH.EN f c) = false) :
    s.chainDelivers f c = false := by
  simp [State.chainDelivers, h]

/-- The fields that a chain switched off by SEQ writes, EN among them. -/
theorem Frame.stopChain {cs : List Component} {fields words : List Fld} {s t : State} {f c : Nat}
    (h : Frame cs fields words s t) (hc : .air ∈ cs) (hf : Reg.FRF.RXCH.CAL_VALID f c :: lossFields f ⊆ fields)
    (hw : lossWords f ⊆ words) : Frame cs fields words s (t.stopChain f c) :=
  ((Frame.eachCtx (fun i _ x => (Frame.refl x).loseStream hc (fun _ hx => hf (List.mem_cons_of_mem _ hx)) hw i) h).setChain
    hc f c _).put (hf (List.mem_cons_self ..)) _

/-! ### Program writes (R96) -/

/-- A program word that lands in the bank that is not active. -/
def State.putShadow (s : State) (f p v : Nat) : State :=
  if s.on (Reg.SEQ.STATUS.ACTIVE_BANK f) then s.setSeq f { s.seq f with bank0 := Tbl.put (s.seq f).bank0 p v }
  else s.setSeq f { s.seq f with bank1 := Tbl.put (s.seq f).bank1 p v }

theorem State.seqProg_lands {s : State} {f : Nat} (h : s.on (Reg.SEQ.STATUS.SWAP_PENDING f) = false) (p v : Nat) :
    s.seqProg f p v = (s.putShadow f p v).put (Reg.SEQ.STATUS.LAST_WR f) Status.done.code :=
  if_neg (Bool.eq_false_iff.1 h)

theorem State.seqProg_busy {s : State} {f : Nat} (h : s.on (Reg.SEQ.STATUS.SWAP_PENDING f) = true) (p v : Nat) :
    s.seqProg f p v = s.put (Reg.SEQ.STATUS.LAST_WR f) Status.busy.code := if_pos h

theorem State.putShadow_on (s : State) (f p v : Nat) (g : Fld) : (s.putShadow f p v).on g = s.on g := by
  rw [State.putShadow]
  split <;> rfl

/-- The word stands in the bank not active, and the active bank is as it was. -/
theorem State.putShadow_banks (s : State) (f p v : Nat) :
    Tbl.getD (if s.on (Reg.SEQ.STATUS.ACTIVE_BANK f) = true then ((s.putShadow f p v).seq f).bank0
        else ((s.putShadow f p v).seq f).bank1) p 0 = v
      ∧ (if s.on (Reg.SEQ.STATUS.ACTIVE_BANK f) = true then ((s.putShadow f p v).seq f).bank1
        else ((s.putShadow f p v).seq f).bank0)
        = if s.on (Reg.SEQ.STATUS.ACTIVE_BANK f) = true then (s.seq f).bank1 else (s.seq f).bank0 := by
  by_cases h : s.on (Reg.SEQ.STATUS.ACTIVE_BANK f) = true <;> simp [State.putShadow, h]

theorem Frame.putShadow {cs : List Component} {fields words : List Fld} {s t : State}
    (h : Frame cs fields words s t) (hc : .air ∈ cs) (f p v : Nat) : Frame cs fields words s (t.putShadow f p v) :=
  Frame.ite (fun _ => h.setSeq hc f _) fun _ => h.setSeq hc f _

end Sys2Proof.Machine

/-! CERTIFICATE. SEQ: every instruction word, program writes and swaps: `SequencerCommands` (R94 to R97). -/

namespace Sys2Proof.Machine

theorem exec_seqWaitReached {s : State} {f : Fin 6} {ofs : Nat} (hd : s.dieUp f = true)
    (hst : (s.seq f).st = .waiting ofs) (hp : s.offsetPassed f ofs = true) :
    exec (.seqWaitReached f) s = .next (s.seqNext f) := by
  show execSeqWaitReached f s = _
  rw [execSeqWaitReached, hst]
  exact congrArg Host.Outcome.next (State.when_of (by simp [hd, hp]) _)

theorem exec_seqHopLock {s : State} {f : Fin 6} {c : Nat} (hd : s.dieUp f = true) (hst : (s.seq f).st = .hopping c) :
    exec (.seqHopLock f) s
      = .next ((if c < 4 then s.eachCtx f (40 + c) fun s i => s.spoil f i .whole else s).seqNext f) := by
  show execSeqHopLock f s = _
  rw [execSeqHopLock, hst]
  exact congrArg Host.Outcome.next (State.when_of hd _)

/-- The chain of a HOP that finds no lock is off. -/
def State.hopOff (s : State) (f c : Nat) : State :=
  if c < 4 then (s.put (Reg.FRF.RXCH.EN f c) 0).stopChain f c else s.put (Reg.FRF.TXCH.EN f (c - 4)) 0

theorem exec_seqHopLockTimeout {s : State} {f : Fin 6} {c : Nat} (hd : s.dieUp f = true)
    (hst : (s.seq f).st = .hopping c) : exec (.seqHopLockTimeout f) s = .next (((s.hopOff f c).seqNext f).seqFault f) := by
  show execSeqHopLockTimeout f s = _
  rw [execSeqHopLockTimeout, hst]
  exact congrArg Host.Outcome.next (State.when_of hd _)

/-- FAULT and PC are fields of SEQ.STATUS, a chain's EN is none. -/
theorem State.hopEnds_get (s : State) {f : Nat} {g : Fld} (hf : (Reg.SEQ.STATUS.FAULT f).key ≠ g.key)
    (hp : (Reg.SEQ.STATUS.PC f).key ≠ g.key) : ((s.seqNext f).seqFault f).get g = s.get g := by
  rw [State.seqFault_other _ hf, State.seqNext_get hp]

/-- PC after the next word is reached and FAULT raised. -/
theorem State.hopEnds_pc (s : State) (f : Nat) : ((s.seqNext f).seqFault f).get (Reg.SEQ.STATUS.PC f)
    = (s.get (Reg.SEQ.STATUS.PC f) + 1) % 1024 := by
  rw [State.seqFault_other, State.seqNext_pc]
  simp only [Reg.SEQ.STATUS.PC, Reg.SEQ.STATUS.FAULT]
  omega

theorem State.hopOff_receive (s : State) {f c : Nat} (hc : c < 4) :
    (s.hopOff f c).on (Reg.FRF.RXCH.EN f c) = false := by
  rw [State.hopOff, if_pos hc, State.on, ((Frame.refl _).stopChain (cs := [.air]) (by simp) (List.Subset.refl _)
    (List.Subset.refl _)).get, State.get_put_same]
  · rfl
  · intro x hx he
    rcases List.mem_cons.1 hx with rfl | hx
    · simp only [Reg.FRF.RXCH.CAL_VALID, Reg.FRF.RXCH.EN] at he
      omega
    · have hx := shownFields_high (List.mem_append_right _ hx)
      rw [dieOffset_eq, he] at hx
      simp only [Reg.FRF.RXCH.EN] at hx
      omega

theorem exec_seqGain {s : State} {f : Fin 6} (h : s.seqAt f 4 = true) (sample : Nat) : exec (.seqGain f sample) s
    = .next ((if bitsAt (s.seqCur f) 53 1 = 1
        then s.setGain f (bitsAt (s.seqCur f) 54 6) { s.gain f (bitsAt (s.seqCur f) 54 6) with held := false }
        else (s.setGain f (bitsAt (s.seqCur f) 54 6) { s.gain f (bitsAt (s.seqCur f) 54 6) with held := true }).gainStep f
          (bitsAt (s.seqCur f) 54 6) (bitsAt (s.seqCur f) 0 4) sample).seqNext f) :=
  congrArg Host.Outcome.next (State.when_of h _)

/-- SEQ's PC is no field of a chain's gain. -/
theorem Frame.seqPc_gain {cs : List Component} {words : List Fld} {s t : State} {f c : Nat}
    (h : Frame cs [Reg.FRF.RXCH.GAIN f c] words s t) : t.get (Reg.SEQ.STATUS.PC f) = s.get (Reg.SEQ.STATUS.PC f) := by
  refine h.get fun x hx => ?_
  rw [List.mem_singleton.1 hx]
  simp only [Reg.FRF.RXCH.GAIN, Reg.SEQ.STATUS.PC]
  omega

/-- GAIN of an integrated chain (R94): the index at once, held from R87. -/
theorem seqGain_sets {s : State} {f : Fin 6} {c : Nat} {sample : Nat} (h : s.seqAt f 4 = true)
    (hsrc : bitsAt (s.seqCur f) 54 6 = 40 + c) (hset : bitsAt (s.seqCur f) 53 1 = 0) :
    ∃ t, exec (.seqGain f sample) s = .next t ∧ (t.gain f (40 + c)).idx = bitsAt (s.seqCur f) 0 4
      ∧ (t.gain f (40 + c)).held = true
      ∧ t.get (Reg.SEQ.STATUS.PC f) = (s.get (Reg.SEQ.STATUS.PC f) + 1) % 1024
      ∧ Frame [.air] [Reg.SEQ.STATUS.PC f, Reg.FRF.RXCH.GAIN f c] [] s t := by
  have hframe : Frame [.air] [Reg.FRF.RXCH.GAIN f c] [] s ((s.setGain f (40 + c) { s.gain f (40 + c) with
      held := true }).gainStep f (40 + c) (bitsAt (s.seqCur f) 0 4) sample) :=
    ((Frame.refl s).setGain (by simp) (fun _ => by simp) _).gainStep_chain (by simp) (by simp) _ _
  have hgain := (s.setGain f (40 + c) { s.gain f (40 + c) with held := true }).gainStep_chain_gain f c
    (bitsAt (s.seqCur f) 0 4) sample
  rw [exec_seqGain h, hsrc, if_neg (by omega)]
  refine ⟨_, rfl, ?_, ?_, ?_, (hframe.mono (List.Subset.refl _) (by simp) (List.Subset.refl _)).seqNext (by simp) (by simp)⟩
  · rw [State.seqNext_gain, hgain]
  · rw [State.seqNext_gain, hgain, State.gain_setGain]
  · rw [State.seqNext_pc, hframe.seqPc_gain]

theorem seqGain_releases {s : State} {f : Fin 6} {sample : Nat} (h : s.seqAt f 4 = true)
    (hauto : bitsAt (s.seqCur f) 53 1 = 1) :
    ∃ t, exec (.seqGain f sample) s = .next t ∧ (t.gain f (bitsAt (s.seqCur f) 54 6)).held = false
      ∧ (t.gain f (bitsAt (s.seqCur f) 54 6)).idx = (s.gain f (bitsAt (s.seqCur f) 54 6)).idx
      ∧ t.get (Reg.SEQ.STATUS.PC f) = (s.get (Reg.SEQ.STATUS.PC f) + 1) % 1024
      ∧ Frame [.air] [Reg.SEQ.STATUS.PC f, Reg.FRF.RXCH.GAIN f (bitsAt (s.seqCur f) 54 6 - 40)] [] s t := by
  have hframe : Frame [.air] [Reg.FRF.RXCH.GAIN f (bitsAt (s.seqCur f) 54 6 - 40)] [] s (s.setGain f
      (bitsAt (s.seqCur f) 54 6) { s.gain f (bitsAt (s.seqCur f) 54 6) with held := false }) :=
    (Frame.refl s).setGain (by simp) (fun _ => by simp) _
  rw [exec_seqGain h, if_pos hauto]
  refine ⟨_, rfl, ?_, ?_, ?_, (hframe.mono (List.Subset.refl _) (by simp) (List.Subset.refl _)).seqNext (by simp) (by simp)⟩
  · rw [State.seqNext_gain, State.gain_setGain]
  · rw [State.seqNext_gain, State.gain_setGain]
  · rw [State.seqNext_pc, hframe.seqPc_gain]

/-! ### HCB (R94, R99) -/

theorem exec_seqHcb {s : State} {f : Fin 6} (h : s.seqAt f 3 = true) : exec (.seqHcb f) s
    = .next ((s.setSeq f { s.seq f with st := .hcb }).hcbSeq f (bitsAt (s.seqCur f) 58 2) ⟨bitsAt (s.seqCur f) 55 3,
        bitsAt (s.seqCur f) 50 5 + 1, bitsAt (s.seqCur f) 0 32 % 2 ^ (bitsAt (s.seqCur f) 50 5 + 1), .program⟩) :=
  congrArg Host.Outcome.next (State.when_of h _)

/-- On a master as after reset, once enabled, SEQ's transaction goes out at once. -/
theorem State.hcbSeq_goes {s : State} {f m : Nat} (q : SeqRun) (u : HcbTx) (hinit : s.hcb f m = .init)
    (hen : s.on (Reg.SEQ.HCB_CFG.EN f m) = true) : (s.setSeq f q).hcbSeq f m u
      = (((s.setSeq f q).setHcb f m ⟨none, [u], none, false⟩).setHcb f m ⟨some u, [], none, true⟩).emitNow
          (.hcb f m u.cs u.len u.data) := by
  rw [State.hcbSeq, State.setSeq_hcb, hinit]
  refine (State.hcbNext_seq (u := u) (rest := []) ?_ (by rwa [State.setHcb_on, State.setSeq_on]) ?_ ?_).trans ?_ <;>
    rw [State.hcb_setHcb] <;> rfl

/-! ### SEQ.PROG and SEQ.CTL (R96) -/

/-- A program write leaves the words of the program under way. -/
theorem State.putShadow_seqWord (s : State) (f p v q : Nat) :
    ((s.putShadow f p v).put (Reg.SEQ.STATUS.LAST_WR f) Status.done.code).seqWord f q = s.seqWord f q := by
  have hbank : ((s.putShadow f p v).put (Reg.SEQ.STATUS.LAST_WR f) Status.done.code).on (Reg.SEQ.STATUS.ACTIVE_BANK f)
      = s.on (Reg.SEQ.STATUS.ACTIVE_BANK f) := by
    rw [State.on, State.get_put_other, ← State.on, State.putShadow_on]
    simp only [Reg.SEQ.STATUS.LAST_WR, Reg.SEQ.STATUS.ACTIVE_BANK]
    omega
  rw [State.seqWord, State.seqWord, hbank, State.put_seq, (s.putShadow_banks f p v).2]

theorem exec_seqProgWrite {s : State} {f : Fin 6} (h : s.hostUp = true) (hd : s.dieUp f = true) (p : Fin 1024)
    (v : BitVec 64) : exec (.seqProgWrite f p v) s
      = .next ((s.recorded [(f.val, dieOffset f (0xC8000 + p * 8), v.toNat % 2 ^ 32),
          (f.val, dieOffset f (0xC8000 + p * 8) + 4, v.toNat / 2 ^ 32)]).seqProg f p v.toNat) :=
  congrArg Host.Outcome.next (State.hostWrite64_die h (dieOfOffset_die f.isLt (by omega)) hd _ _)

theorem exec_seqSwap {s : State} {f : Fin 6} (h : s.hostUp = true) (hd : s.dieUp f = true) (v : BitVec 32) :
    exec (.seqSwap f v) s = .next ((s.recorded [(f.val, dieOffset f 0xC0000, v.toNat)]).seqCtl f v.toNat) :=
  congrArg Host.Outcome.next (State.hostWriteReg_die h (dieOfOffset_die f.isLt (by omega)) hd _ _)

/-- SEQ.CTL as a write with SWAP leaves it: a swap pending (R96). -/
def State.askSwap (s : State) (f v : Nat) : State :=
  ((s.put (Reg.SEQ.CTL.RUN f) (bitsAt v 0 1)).put (Reg.SEQ.STATUS.SWAP_PENDING f) 1).put (Reg.SEQ.CTL.SWAP f) 1

theorem State.seqCtl_waits {s : State} {f v : Nat} (h1 : bitsAt v 1 1 = 1) (hst : (s.seq f).st ≠ .idle) :
    s.seqCtl f v = s.askSwap f v := (if_pos h1).trans (if_neg hst)

theorem State.seqCtl_swaps {s : State} {f v : Nat} (h1 : bitsAt v 1 1 = 1) (hst : (s.seq f).st = .idle) :
    s.seqCtl f v = (s.askSwap f v).seqSwapNow f := (if_pos h1).trans (if_pos hst)

theorem State.askSwap_get (s : State) (f v : Nat) :
    (s.askSwap f v).get (Reg.SEQ.STATUS.SWAP_PENDING f) = 1 ∧ (s.askSwap f v).get (Reg.SEQ.CTL.SWAP f) = 1
      ∧ (s.askSwap f v).get (Reg.SEQ.CTL.RUN f) = bitsAt v 0 1
      ∧ (s.askSwap f v).get (Reg.SEQ.STATUS.ACTIVE_BANK f) = s.get (Reg.SEQ.STATUS.ACTIVE_BANK f) := by
  refine ⟨?_, ?_, ?_, ?_⟩ <;>
    simp [State.askSwap, Reg.SEQ.CTL.RUN, Reg.SEQ.STATUS.SWAP_PENDING, Reg.SEQ.CTL.SWAP, Reg.SEQ.STATUS.ACTIVE_BANK, bitsAt]
      <;> omega

/-- Settles O13: SEQ's rules of reading applied to each instruction word and to the writes of its program. -/
theorem sequencerCommands : Obligations.SequencerCommands := by
  unfold Obligations.SequencerCommands
  refine ⟨?_, ?_, ?_, ?_, ?_, ?_, ?_, ?_, ?_, ?_, ?_, ?_, ?_, ?_, ?_, ?_, ?_, ?_, ?_, ?_⟩
  · intro s f h _
    obtain ⟨hbank, hpend, hswap⟩ := (s.setSeq f { s.seq f with st := .idle }).seqSwapNow_get f
    exact ⟨_, congrArg Host.Outcome.next (State.when_of h _), s.seqToIdle_st f, hbank, hpend, hswap,
      (Frame.refl s).seqToIdle (by simp) (List.Subset.refl _)⟩
  · intro s f h hp
    refine ⟨s.seqNext f, congrArg Host.Outcome.next ((State.when_of h _).trans (if_pos hp)), ?_, s.seqNext_pc f,
      (Frame.refl s).seqNext (by simp) (by simp)⟩
    rw [State.seqNext_seq]
  · intro s f h hp
    refine ⟨_, congrArg Host.Outcome.next ((State.when_of h _).trans (if_neg (Bool.eq_false_iff.1 hp))), ?_,
      (Frame.refl s).setSeq (by simp) _ _⟩
    rw [State.seq_setSeq]
  · intro s f ofs hd hst hp
    refine ⟨_, exec_seqWaitReached hd hst hp, ?_, s.seqNext_pc f, (Frame.refl s).seqNext (by simp) (by simp)⟩
    rw [State.seqNext_seq]
  · intro s f h hc
    rw [exec_seqHop h, s.seqHopTo_transmit hc]
    refine ⟨_, rfl, ?_, ?_, rfl, (((Frame.refl s).setSeq (by simp) _ _).put (by simp) _).emitNow (by simp) _⟩
    · rw [State.emitNow_seq, State.put_seq, State.seq_setSeq]
    · rw [State.emitNow_get, State.get_put_same]
      exact bitsAt_mod _ _ _
  · intro s f h hc
    obtain ⟨hst, hfc, hgone⟩ := s.seqHopTo_leaves (f := f) hc (bitsAt_lt (s.seqCur f) 0 15)
    refine ⟨_, exec_seqHop h, hst, hfc, State.chainDelivers_hopping hst, hgone,
      ((Frame.refl s).seqHopTo_receive hc (by simp) (by simp) (List.Subset.refl _) (by simp)).toFrameIn fun x hx => ?_⟩
    simp only [List.mem_cons, exists_eq_or_imp, exists_eq_left, List.not_mem_nil, or_false]
    refine (List.mem_cons.1 hx).imp (fun hx => ?_) (ctxFields_range f x)
    simp only [hx, Reg.FRF.RXCH.FC, dieOffset_eq]
    omega
  · intro s f c hd hst
    have hspoil : Frame [.air] [] [] s (if c < 4 then s.eachCtx f (40 + c) fun s i => s.spoil f i .whole else s) :=
      Frame.ite (fun _ => (Frame.refl s).eachCtx fun i _ x => (Frame.refl x).spoil (by simp) f i _) fun _ => Frame.refl s
    refine ⟨_, exec_seqHopLock hd hst, ?_, ?_, (hspoil.mono (List.Subset.refl _) (List.nil_subset _)
      (List.Subset.refl _)).seqNext (by simp) (by simp)⟩
    · rw [State.seqNext_seq]
    · rw [State.seqNext_pc, hspoil.get (by simp)]
  · intro s f c hd hst hc _
    have hoff : s.hopOff f c = s.put (Reg.FRF.TXCH.EN f (c - 4)) 0 := if_neg (by omega)
    rw [exec_seqHopLockTimeout hd hst, hoff]
    refine ⟨_, rfl, ?_, State.seqFault_get _ _, ?_, ?_, State.seqFault_pends _ f.isLt, ?_⟩
    · rw [State.seqFault_seq, State.seqNext_seq]
    · rw [State.on, State.hopEnds_get, State.get_put_same]
      · rfl
      · simp only [Reg.SEQ.STATUS.FAULT, Reg.FRF.TXCH.EN]; omega
      · simp only [Reg.SEQ.STATUS.PC, Reg.FRF.TXCH.EN]; omega
    · rw [State.hopEnds_pc, State.get_put_other]
      simp only [Reg.SEQ.STATUS.PC, Reg.FRF.TXCH.EN]; omega
    · exact (((Frame.refl s).put (by simp) _).seqNext (by simp) (by simp)).raise signalled_air (by simp)
        (List.Subset.refl _) _ _
  · intro s f c hd hst hc
    have hoff : (((s.hopOff f c).seqNext f).seqFault f).on (Reg.FRF.RXCH.EN f c) = false := by
      rw [State.on, State.hopEnds_get, ← State.on, s.hopOff_receive hc]
      · simp only [Reg.SEQ.STATUS.FAULT, Reg.FRF.RXCH.EN]; omega
      · simp only [Reg.SEQ.STATUS.PC, Reg.FRF.RXCH.EN]; omega
    exact ⟨_, exec_seqHopLockTimeout hd hst, State.seqFault_get _ _, hoff, State.chainDelivers_off hoff,
      State.seqFault_pends _ f.isLt⟩
  · intro s f h hinit hen
    rw [exec_seqHcb h, State.hcbSeq_goes _ _ hinit hen]
    exact ⟨_, rfl, by simp, rfl, (((Frame.refl s).setSeq (by simp) _ _).setHcb (by simp) _ _ _).setHcb (by simp) _ _ _
      |>.emitNow (by simp) _⟩
  · intro s f at' h hsrc hset
    obtain ⟨c, hc⟩ := Nat.exists_eq_add_of_le hsrc
    obtain ⟨t, hexec, hidx, hheld, hpc, hframe⟩ := seqGain_sets (sample := at') h hc hset
    rw [hc, Nat.add_sub_cancel_left]
    exact ⟨t, hexec, hidx, hheld, hpc, hframe⟩
  · exact fun s f at' h hauto => seqGain_releases h hauto
  · intro s f h
    refine ⟨_, congrArg Host.Outcome.next (State.when_of h _), ?_, ?_,
      ((Frame.refl s).calDue (by simp) _ _ _).seqNext (by simp) (by simp)⟩
    · rw [State.seqNext_chain]
      exact (s.calDue_due f _ _).1
    · rw [State.seqNext_pc, State.calDue_get]
  · intro s f h
    refine ⟨_, congrArg Host.Outcome.next (State.when_of h _), ?_, ?_, ?_,
      (((Frame.refl s).put (by simp) _).fire signalled_air (List.Subset.refl _) _).seqNext (by simp) (by simp)⟩
    · rw [State.seqNext_get, State.fire_get, State.get_put_same]
      · exact bitsAt_mod _ _ _
      · simp only [Reg.SEQ.STATUS.PC, Reg.SEQ.STATUS.EVT_CODE]; omega
    · rw [show 327 + 32 * f.val = dieSource f 7 by unfold dieSource; omega]
      rw [State.pends, State.seqNext_evt]
      exact State.fireDie_pends _ f.isLt (by omega)
    · rw [State.seqNext_pc, State.fire_get, State.get_put_other]
      simp only [Reg.SEQ.STATUS.PC, Reg.SEQ.STATUS.EVT_CODE]; omega
  · intro s f h
    by_cases hb : s.time.msc % bitsAt (s.seqCur f) 54 6 = bitsAt (s.seqCur f) 48 6
    · refine ⟨_, congrArg Host.Outcome.next ((State.when_of h _).trans (if_pos hb)), ?_, ?_,
        (Frame.refl s).seqGoto (by simp) (by simp) _⟩
      · rw [State.seqGoto_seq]
      · rw [State.seqGoto_pc, if_pos hb]
        exact bitsAt_mod _ 0 10
    · refine ⟨_, congrArg Host.Outcome.next ((State.when_of h _).trans (if_neg hb)), ?_, ?_,
        (Frame.refl s).seqNext (by simp) (by simp)⟩
      · rw [State.seqNext_seq]
      · rw [State.seqNext_pc, if_neg hb]
  · intro s f hd hst hbad
    refine ⟨_, congrArg Host.Outcome.next (State.when_of (by simp [hd, hst, hbad]) _), ?_, State.seqToIdle_st _ _, ?_, ?_⟩
    · rw [State.seqToIdle_fault, State.seqFault_get]
    · have hevt := ((Frame.refl (s.seqFault f)).seqToIdle (cs := [.air]) (words := []) (f := f) (by simp)
        (List.Subset.refl _)).same (c := .evt) (by simp)
      simp only [Component.Same] at hevt
      rw [State.pends, hevt]
      exact State.seqFault_pends s f.isLt
    · exact ((Frame.refl s).raise signalled_air (by simp) (List.Subset.refl _) _ _).seqToIdle (by simp)
        (List.subset_cons_self ..)
  · intro s f p v h hd hp
    rw [exec_seqProgWrite h hd p v, State.seqProg_lands (s := s.recorded _) hp]
    obtain ⟨hlands, hactive⟩ := (s.recorded [(f.val, dieOffset f (0xC8000 + p * 8), v.toNat % 2 ^ 32),
      (f.val, dieOffset f (0xC8000 + p * 8) + 4, v.toNat / 2 ^ 32)]).putShadow_banks f p v.toNat
    refine ⟨_, rfl, State.get_put_same _ _ _, hlands, fun q => ?_,
      (((Frame.refl s).recorded (by simp) _).putShadow (by simp) _ _ _).put (by simp) _⟩
    exact State.putShadow_seqWord _ f p v.toNat q
  · intro s f p v h hd hp
    rw [exec_seqProgWrite h hd p v, State.seqProg_busy (s := s.recorded _) hp]
    exact ⟨_, rfl, State.get_put_same _ _ _, ((Frame.refl s).recorded (by simp) _).put (by simp) _⟩
  · intro s f v h hd h1 hst
    rw [exec_seqSwap h hd v, State.seqCtl_waits (s := s.recorded _) h1 hst]
    obtain ⟨hpend, hswap, hrun, -⟩ := (s.recorded [(f.val, dieOffset f 0xC0000, v.toNat)]).askSwap_get f v.toNat
    exact ⟨_, rfl, hpend, hswap, hrun, ((((Frame.refl s).recorded (by simp) _).put (by simp) _).put (by simp) _).put
      (by simp) _⟩
  · intro s f v h hd h1 hst hbank
    rw [exec_seqSwap h hd v, State.seqCtl_swaps (s := s.recorded _) h1 hst]
    obtain ⟨hpend, -, -, hold⟩ := (s.recorded [(f.val, dieOffset f 0xC0000, v.toNat)]).askSwap_get f v.toNat
    obtain ⟨hnew, -, hswap⟩ := ((s.recorded [(f.val, dieOffset f 0xC0000, v.toNat)]).askSwap f v.toNat).seqSwapNow_get f
    have hon : ((s.recorded [(f.val, dieOffset f 0xC0000, v.toNat)]).askSwap f v.toNat).on
        (Reg.SEQ.STATUS.SWAP_PENDING f) = true := decide_eq_true hpend
    rw [if_pos hon] at hnew hswap
    rw [hold] at hnew
    exact ⟨_, rfl, State.seqSwapNow_pending hon, hswap, hnew, (((((Frame.refl s).recorded (by simp) _).put (by simp) _).put
      (by simp) _).put (by simp) _).seqSwapNow (by simp [swapFields])⟩

end Sys2Proof.Machine

/-! SUPPORT. Frames along records, completions, log entries and node lookups, and along the end and the rewinding of a
downlink item (R204, R216, R245). -/

namespace Sys2Proof.Machine

section
variable {cs : List Component} {fields words : List Fld} {s t : State}

/-! ### Events and records -/

theorem Frame.setEvt (h : Frame cs fields words s t) (hc : .evt ∈ cs) (x : Events) :
    Frame cs fields words s { t with evt := x } :=
  h.step (fun c hn => by cases c with | evt => exact absurd hc hn | _ => rfl) rfl rfl

theorem Frame.setSafe (h : Frame cs fields words s t) (hc : .safe ∈ cs) (x : Safe) :
    Frame cs fields words s { t with safe := x } :=
  h.step (fun c hn => by cases c with | safe => exact absurd hc hn | _ => rfl) rfl rfl

theorem Frame.setTun (h : Frame cs fields words s t) (hc : .tun ∈ cs) (x : TunUnit) :
    Frame cs fields words s { t with tun := x } :=
  h.step (fun c hn => by cases c with | tun => exact absurd hc hn | _ => rfl) rfl rfl

theorem Frame.setNode (h : Frame cs fields words s t) (hc : .node ∈ cs) (x : NodeUnit) :
    Frame cs fields words s { t with node := x } :=
  h.step (fun c hn => by cases c with | node => exact absurd hc hn | _ => rfl) rfl rfl

theorem Frame.setRing (h : Frame cs fields words s t) (hc : .rings ∈ cs) (n : Nat) (r : RingRun) :
    Frame cs fields words s (t.setRing n r) := h.setRings hc _

theorem Frame.fireOnce (h : Frame cs fields words s t) (hc : signalled ⊆ cs) (hw : alarmWords ⊆ words) (src : Nat) :
    Frame cs fields words s (t.fireOnce src) :=
  Frame.ite (fun _ => h) fun _ => (h.setEvt (hc (by simp [signalled])) _).fire hc hw _

theorem Frame.record (h : Frame cs fields words s t) (hc : signalled ⊆ cs) (hw : alarmWords ⊆ words) (n typ : Nat)
    (b : List Byte) : Frame cs fields words s (t.record n typ b) :=
  h.trans ⟨fun c hn => by
      have hs : c ∉ signalled := fun hm => hn (hc hm)
      cases c <;> simp [signalled, Component.Same] at hs ⊢,
    fun g _ => State.record_get t n typ b g,
    fun g hg => State.record_stat t n typ b g fun f hf => hg f (hw hf)⟩

theorem State.completeX_eq (s : State) (c : CmdRef) (st : Status) (attempts result seq : Nat) :
    s.completeX c st attempts result seq
      = let t := (s.setRing c.cpl { s.ring c.cpl with claimed := (s.ring c.cpl).claimed - 1 }).record c.cpl 1
          (cplRecord c st attempts result seq)
        if t.on (Reg.RING.CTL.EN c.cpl) && t.get (Reg.RING.CTL.TYPE c.cpl) = 1 && (s.ring c.cpl).halted then t.fire 101
        else t := rfl

theorem Frame.completeX (h : Frame cs fields words s t) (hc : signalled ⊆ cs) (hw : alarmWords ⊆ words) (c : CmdRef)
    (st : Status) (attempts result seq : Nat) : Frame cs fields words s (t.completeX c st attempts result seq) := by
  rw [State.completeX_eq]
  have hrec := (h.setRing (hc (by simp [signalled])) c.cpl
    { t.ring c.cpl with claimed := (t.ring c.cpl).claimed - 1 }).record hc hw c.cpl 1 (cplRecord c st attempts result seq)
  exact Frame.ite (fun _ => hrec.fire hc hw _) fun _ => hrec

/-! ### The error log and parity errors (R204, R249) -/

theorem Frame.storeLog (h : Frame cs fields words s t) (hc : signalled ⊆ cs) (hf : logFields ⊆ fields)
    (hw : alarmWords ⊆ words) (e : LogEntry) : Frame cs fields words s (t.storeLog e) := by
  rw [State.storeLog]
  split
  · exact (h.setSafe (hc (by simp [signalled])) _).put (hf (by simp [logFields])) _
  · exact (h.incSat (hf (by simp [logFields]))).fireOnce hc hw _

theorem Frame.logError (h : Frame cs fields words s t) (hc : signalled ⊆ cs) (hf : logFields ⊆ fields)
    (hw : alarmWords ⊆ words) (code unit : Nat) (u f : Bool) (addr d : Nat) :
    Frame cs fields words s (t.logError code unit u f addr d) := by
  have hstore (n : Nat) (e : LogEntry) :
      Frame cs fields words s (({ t with safe := { t.safe with nextSeq := n } }).storeLog e) :=
    (h.setSafe (hc (by simp [signalled])) _).storeLog hc hf hw e
  exact (Frame.ite (fun _ => (hstore _ _).record hc hw _ _ _) fun _ => hstore _ _).fire hc hw _

/-- The words that a parity error of a node entry counts in. -/
def parityWords : List Fld :=
  [Reg.NODE.PARITY_ERR, Reg.NODE.VALID_LEARNED, Reg.NODE.VALID_STATIC, Reg.ETH.PRIV_SENT, Reg.ETH.FP_DROP]

/-- A statistics word that the frame names may take any value. -/
theorem Frame.setStat (h : Frame cs fields words s t) {f : Fld} (hf : f ∈ words) (n : Nat) :
    Frame cs fields words s { t with stats := Tbl.put t.stats f.key n } :=
  h.trans ⟨fun c _ => by cases c <;> rfl, fun _ _ => rfl,
    fun g hg => (Tbl.getD_put _ _ _ _ _).trans (if_neg (hg f hf))⟩

theorem Frame.setNodeTab (h : Frame cs fields words s t) (hc : .node ∈ cs) (hw : parityWords ⊆ words)
    (x : Tbl NodeEntry) : Frame cs fields words s (t.setNodeTab x) :=
  ((h.setNode hc _).setStat (hw (by simp [parityWords])) _).setStat (hw (by simp [parityWords])) _

theorem Frame.parityError (h : Frame cs fields words s t) (hc : .node :: signalled ⊆ cs) (hf : parityFields ⊆ fields)
    (hw : parityWords ⊆ words) (i : Nat) : Frame cs fields words s (t.parityError i) := by
  obtain ⟨hnode, hsig⟩ := List.cons_subset.1 hc
  have halarm : alarmWords ⊆ words := fun _ hm => hw (List.mem_append_right [_, _, _] hm)
  exact ((((h.setNodeTab hnode hw _).put (hf (by simp [parityFields])) _).bump (hw (by simp [parityWords]))).fire hsig
    halarm _).logError hsig (fun _ hm => hf (List.mem_cons_of_mem _ hm)) halarm _ _ _ _ _ _

theorem Frame.nodeFind (h : Frame cs fields words s t) (hc : .node :: signalled ⊆ cs) (hf : parityFields ⊆ fields)
    (hw : parityWords ⊆ words) (a : Nat) : Frame cs fields words s (t.nodeFind a).1 := by
  rw [State.nodeFind]
  split
  · exact h
  · split
    · split
      · exact h
      · exact h.parityError hc hf hw _
    · exact h

theorem State.streamsFor_state (s : State) (a : Nat) (slot : Option Nat) :
    (s.streamsFor a slot).1 = if a = broadcast then s else (s.nodeFind a).1 := by
  rw [State.streamsFor]
  split
  · rfl
  · dsimp only
    split
    · split <;> rfl
    · rfl

theorem Frame.streamsFor (h : Frame cs fields words s t) (hc : .node :: signalled ⊆ cs) (hf : parityFields ⊆ fields)
    (hw : parityWords ⊆ words) (a : Nat) (slot : Option Nat) : Frame cs fields words s (t.streamsFor a slot).1 := by
  rw [State.streamsFor_state]
  exact Frame.ite (fun _ => h) fun _ => h.nodeFind hc hf hw a

/-! ### Queues and items (R216) -/

/-- The components that the end or the rewinding of an item may write. -/
def itemCs : List Component := [.cask, .tun, .node] ++ signalled

theorem Frame.setQueue (h : Frame cs fields words s t) (hc : .cask ∈ cs) (q : Nat) (x : Queue) :
    Frame cs fields words s (t.setQueue q x) := h.setCask hc _

theorem Frame.joinNow (h : Frame cs fields words s t) (hc : itemCs ⊆ cs) (hf : parityFields ⊆ fields)
    (hw : parityWords ⊆ words) (q : Nat) (urgent : Bool) (slot : Option Nat) :
    Frame cs fields words s (t.joinNow q urgent slot) := by
  have hcask : .cask ∈ cs := hc (by simp [itemCs])
  have hfind := h.streamsFor (fun _ hm => hc (List.mem_append_right [_, _] hm)) hf hw ((t.queue q).addr.getD broadcast) slot
  exact Frame.ite (fun _ => (hfind.setQueue hcask _ _).setCask hcask _) fun _ =>
    (hfind.setQueue hcask _ _).setCask hcask _

theorem Frame.join (h : Frame cs fields words s t) (hc : itemCs ⊆ cs) (hf : parityFields ⊆ fields)
    (hw : parityWords ⊆ words) (q : Nat) (urgent : Bool) : Frame cs fields words s (t.join q urgent) :=
  Frame.ite (fun _ => h.setTun (hc (by simp [itemCs])) _) fun _ => h.joinNow hc hf hw q urgent none

theorem Frame.completeItem (h : Frame cs fields words s t) (hc : signalled ⊆ cs) (hw : alarmWords ⊆ words) (b : Nat)
    (st : Status) (attempts result seq : Nat) : Frame cs fields words s (t.completeItem b st attempts result seq) := by
  rw [State.completeItem]
  split
  · exact h.completeX hc hw _ _ _ _ _
  · exact h

theorem Frame.freeItem (h : Frame cs fields words s t) (hc : .cask ∈ cs) (ht : .tx ∈ cs) (b : Nat) :
    Frame cs fields words s (t.freeItem b) := 
  h.step (fun c hn => by
    cases c with
    | cask => exact absurd hc hn
    | tx => exact absurd ht hn
    | _ => rfl) rfl rfl

theorem Frame.releaseItem (h : Frame cs fields words s t) (hc : .tx :: itemCs ⊆ cs) (hf : parityFields ⊆ fields)
    (hw : parityWords ⊆ words) (q : Nat) (st : Status) (attempts result seq : Nat) :
    Frame cs fields words s (t.releaseItem q st attempts result seq) := by
  obtain ⟨htx, hitem⟩ := List.cons_subset.1 hc
  have hcask : .cask ∈ cs := hitem (by simp [itemCs])
  have hfree := (h.completeItem (fun _ hm => hitem (List.mem_append_right [_, _, _] hm))
    (fun _ hm => hw (List.mem_append_right [_, _, _] hm)) (t.queue q).mark st attempts result seq).freeItem hcask htx
      (t.queue q).mark
  exact Frame.ite (fun _ => hfree.setQueue hcask _ _) fun _ => (hfree.setQueue hcask _ _).join hitem hf hw q false

theorem Frame.rewindItem (h : Frame cs fields words s t) (hc : itemCs ⊆ cs) (hf : parityFields ⊆ fields)
    (hw : downWords ⊆ words) (q : Nat) : Frame cs fields words s (t.rewindItem q) :=
  ((h.setQueue (hc (by simp [itemCs])) _ _).bump (hw (by simp [downWords]))).join hc hf
    (fun _ hm => hw (List.mem_cons_of_mem _ hm)) q false

end

end Sys2Proof.Machine

/-! SUPPORT. What has been sent stays sent: events, records, log entries and the end of an item only add to the outputs. -/

namespace Sys2Proof.Machine

/-- Every output sent in s has been sent in t. -/
def State.SentBy (s t : State) : Prop := s.out ⊆ t.out

namespace State.SentBy
variable {s t u : State}

theorem refl (s : State) : s.SentBy s := List.Subset.refl _

theorem trans (h : s.SentBy t) (k : t.SentBy u) : s.SentBy u := List.Subset.trans h k

/-- What sends nothing. -/
theorem same (h : s.SentBy t) (ho : u.out = t.out) : s.SentBy u := fun _ hm => ho ▸ h hm

theorem ite {c : Prop} [Decidable c] (ht : s.SentBy t) (hu : s.SentBy u) : s.SentBy (if c then t else u) := by
  split
  · exact ht
  · exact hu

theorem each {α : Type} {l : List α} {op : State → α → State} (hop : ∀ x a, State.SentBy x (op x a)) (h : s.SentBy t) :
    s.SentBy (t.each l op) := by
  induction l generalizing t with
  | nil => exact h
  | cons a l ih => exact ih (h.trans (hop t a))

/-! ### Sending -/

theorem emitNow (h : s.SentBy t) (o : Output) : s.SentBy (t.emitNow o) := h.trans (List.subset_append_left _ _)

theorem emit (h : s.SentBy t) (o : Output) : s.SentBy (t.emit o) :=
  h.trans (ite (refl t) (ite (List.subset_append_left _ _) (List.subset_append_left _ _)))

theorem dmaWrite (h : s.SentBy t) (a : Nat) (b : List Byte) : s.SentBy (t.dmaWrite a b) := h.emit _

theorem sendVector (h : s.SentBy t) (v : Nat) : s.SentBy (t.sendVector v) :=
  h.trans (ite (refl t) (ite ((refl t).emit _) (same ((refl t).emit _) rfl)))

theorem signal (h : s.SentBy t) (v : Nat) : s.SentBy (t.signal v) := ite h (h.sendVector v)

/-! ### Records -/

theorem postIndex (h : s.SentBy t) (n : Nat) : s.SentBy (t.postIndex n).1 := by
  simp only [State.postIndex]
  split
  · exact h
  · exact h.trans (dmaWrite (t := t.setRing n _) (refl t) _ _)

theorem post (h : s.SentBy t) (n typ : Nat) (b : List Byte) : s.SentBy (t.post n typ b).1 := by
  simp only [State.post]
  split
  · exact ite h h
  · split
    · exact h
    · split
      · exact h
      · exact (h.dmaWrite _ _).postIndex n

/-! ### Privileged frames (R255, R260) -/

theorem toLine (h : s.SentBy t) (p q : Nat) (bulk : Bool) (frame : List Byte) : s.SentBy (t.toLine p q bulk frame) :=
  h.trans (ite (emit (t := t.setTxPort p q _) (refl t) _) (emitNow (t := t.setTxPort p q _) (refl t) _))

theorem drainPort (h : s.SentBy t) (p q : Nat) : s.SentBy (t.drainPort p q) :=
  ite h (h.trans (each (t := t.setTxPort p q _) (fun x _ => (refl x).toLine p q _ _) (refl t)))

theorem queueFrame (h : s.SentBy t) (p q : Nat) (bulk : Bool) (frame : List Byte) :
    s.SentBy (t.queueFrame p q bulk frame).1 := by
  simp only [State.queueFrame]
  split
  · exact h
  · split
    · exact h
    · exact (h.drainPort p q).toLine p q bulk frame

theorem sendPriv (h : s.SentBy t) (frame : List Byte) : s.SentBy (t.sendPriv frame).1 := by
  simp only [State.sendPriv]
  split
  · exact (h.queueFrame 0 0 false _).queueFrame 1 0 false _
  · exact h

theorem alarm (h : s.SentBy t) (src d : Nat) : s.SentBy (t.alarm src d).1 := by
  simp only [State.alarm]
  split
  · exact h.sendPriv _
  · exact h

/-! ### Events -/

theorem deliverEvent (h : s.SentBy t) (src d : Nat) : s.SentBy (t.deliverEvent src d).1 := by
  have hpost : s.SentBy (if t.on (Reg.EVT.MAP.RING_EN src) then
      t.post (t.get (Reg.EVT.MAP.RING src)) 4 (evtRecord src d t.stampNow) else (t, .discarded)).1 := by
    split
    · exact h.post _ _ _
    · exact h
  exact ite (hpost.signal _) hpost

theorem fire1 (h : s.SentBy t) (src d : Nat) : s.SentBy (t.fire1 src d).state := by
  have halarm : s.SentBy (State.alarm { t with evt := t.evt.mark src } src d).1 :=
    h.trans (alarm (t := { t with evt := t.evt.mark src }) (refl t) src d)
  simp only [State.fire1]
  split
  · exact halarm.deliverEvent src d
  · exact halarm

theorem haltRing (h : s.SentBy t) (n : Nat) (st : Status) (a : Nat) : s.SentBy (t.haltRing n st a) :=
  h.trans (ite (refl t) (refl t))

theorem fireN (k : Nat) (h : s.SentBy t) (src d : Nat) : s.SentBy (State.fireN k t src d) := by
  induction k generalizing t src d with
  | zero => exact h.fire1 src d
  | succ k ih =>
    have hone := h.fire1 src d
    have hdropped : s.SentBy (if (t.fire1 src d).dropped && 196 ∉ (t.fire1 src d).state.evt.disarmed then
        State.fireN k ((t.fire1 src d).state.disarm 196) 196 0 else (t.fire1 src d).state) :=
      ite (ih (t := (t.fire1 src d).state.disarm 196) hone 196 0) hone
    simp only [State.fireN]
    split
    · exact ite hdropped (ih hdropped 99 0)
    · exact ih (hdropped.haltRing _ _ _) 96 0
    · exact hdropped

theorem fire (h : s.SentBy t) (src : Nat) : s.SentBy (t.fire src) := h.fireN 5 src 0

theorem fireOnce (h : s.SentBy t) (src : Nat) : s.SentBy (t.fireOnce src) :=
  ite h (h.trans (fire (t := t.disarm src) (refl t) src))

theorem afterPost (h : s.SentBy t) (typ : Nat) (p : Posted) : s.SentBy (t.afterPost typ p) := by
  cases p with
  | full =>
    simp only [State.afterPost]
    split
    · exact h.fire 98
    · exact h.fire 99
    · exact h.fire 102
    · exact h.fire 103
    · exact h
  | bad n a => exact (h.haltRing n _ a).fire 96
  | written => exact h
  | discarded => exact h

theorem record (h : s.SentBy t) (n typ : Nat) (b : List Byte) : s.SentBy (t.record n typ b) := (h.post n typ b).afterPost _ _

/-! ### Items and node lookups -/

theorem completeX (h : s.SentBy t) (c : CmdRef) (st : Status) (attempts result seq : Nat) :
    s.SentBy (t.completeX c st attempts result seq) := by
  rw [State.completeX_eq]
  have hrec : s.SentBy ((t.setRing c.cpl { t.ring c.cpl with claimed := (t.ring c.cpl).claimed - 1 }).record c.cpl 1
      (cplRecord c st attempts result seq)) := record (t := t.setRing c.cpl _) h _ _ _
  exact ite (hrec.fire _) hrec

theorem storeLog (h : s.SentBy t) (e : LogEntry) : s.SentBy (t.storeLog e) := by
  rw [State.storeLog]
  split
  · exact h
  · exact fireOnce (t := t.incSat Reg.SAFE.LOG_CTL.LOST) h 265

theorem logError (h : s.SentBy t) (code unit : Nat) (u f : Bool) (addr d : Nat) :
    s.SentBy (t.logError code unit u f addr d) := by
  have hstore (n : Nat) (e : LogEntry) : s.SentBy (({ t with safe := { t.safe with nextSeq := n } }).storeLog e) :=
    h.trans (storeLog (t := { t with safe := { t.safe with nextSeq := n } }) (refl t) e)
  exact (ite ((hstore _ _).record _ _ _) (hstore _ _)).fire 263

theorem parityError (h : s.SentBy t) (i : Nat) : s.SentBy (t.parityError i) :=
  (fire (t := ((t.nodeClear i).put Reg.NODE.PERR.INDEX i).bump Reg.NODE.PARITY_ERR) h 160).logError _ _ _ _ _ _

theorem nodeFind (h : s.SentBy t) (a : Nat) : s.SentBy (t.nodeFind a).1 := by
  rw [State.nodeFind]
  split
  · exact h
  · split
    · split
      · exact h
      · exact h.parityError _
    · exact h

theorem streamsFor (h : s.SentBy t) (a : Nat) (slot : Option Nat) : s.SentBy (t.streamsFor a slot).1 := by
  rw [State.streamsFor_state]
  exact ite h (h.nodeFind a)

theorem join (h : s.SentBy t) (q : Nat) (urgent : Bool) : s.SentBy (t.join q urgent) :=
  ite h (h.trans (ite ((refl t).streamsFor _ _) ((refl t).streamsFor _ _)))

theorem completeItem (h : s.SentBy t) (b : Nat) (st : Status) (attempts result seq : Nat) :
    s.SentBy (t.completeItem b st attempts result seq) := by
  rw [State.completeItem]
  split
  · exact h.completeX _ _ _ _ _
  · exact h

theorem releaseItem (h : s.SentBy t) (q : Nat) (st : Status) (attempts result seq : Nat) :
    s.SentBy (t.releaseItem q st attempts result seq) := by
  have hdone : s.SentBy ((t.completeItem (t.queue q).mark st attempts result seq).freeItem (t.queue q).mark) :=
    same (h.completeItem (t.queue q).mark st attempts result seq) rfl
  have hset (x : Queue) : s.SentBy (((t.completeItem (t.queue q).mark st attempts result seq).freeItem
      (t.queue q).mark).setQueue q x) := same hdone rfl
  exact ite (hset _) ((hset _).join q false)

end State.SentBy

end Sys2Proof.Machine

/-! SUPPORT. The end of transmissions: what the coexistence pairs, the channels, the jobs and the downlinks hold once a frame
has left the air or an attempt has ended (R92, R167, R179 to R181). -/

namespace Sys2Proof.Machine

/-! ### Coexistence pairs at the end of an attempt (R92) -/

/-- Of the field dies' units the coexistence pairs alone change, and what is sent besides is their pins. -/
structure State.PairsOnly (s t : State) : Prop where
  air : t.air = { s.air with cx := t.air.cx }
  sent : s.SentBy t
  coex : ∀ o ∈ t.out, o ∈ s.out ∨ ∃ f n g, o = .coex f n g

namespace State.PairsOnly
variable {s t u : State}

theorem refl (s : State) : s.PairsOnly s := ⟨rfl, State.SentBy.refl s, fun _ hm => .inl hm⟩

theorem trans (h : s.PairsOnly t) (k : t.PairsOnly u) : s.PairsOnly u :=
  ⟨by rw [k.air, h.air], h.sent.trans k.sent, fun o hm => (k.coex o hm).elim (h.coex o) .inr⟩

theorem ite {c : Prop} [Decidable c] (ht : s.PairsOnly t) (hu : s.PairsOnly u) : s.PairsOnly (if c then t else u) := by
  split
  · exact ht
  · exact hu

theorem each {α : Type} {l : List α} {op : State → α → State} (hop : ∀ x a, State.PairsOnly x (op x a))
    (h : s.PairsOnly t) : s.PairsOnly (t.each l op) := by
  induction l generalizing t with
  | nil => exact h
  | cons a l ih => exact ih (h.trans (hop t a))

theorem setCx (s : State) (f n : Nat) (c : CxRun) : s.PairsOnly (s.setCx f n c) :=
  ⟨rfl, List.Subset.refl _, fun _ hm => .inl hm⟩

theorem emitNow (h : s.PairsOnly t) (f n : Nat) (g : Bool) : s.PairsOnly (t.emitNow (.coex f n g)) :=
  ⟨h.air, h.sent.emitNow _, fun o hm => (List.mem_append.1 hm).elim (h.coex o) fun hm =>
    .inr ⟨f, n, g, List.mem_singleton.1 hm⟩⟩

theorem cxGrant (h : s.PairsOnly t) (f n : Nat) : s.PairsOnly (t.cxGrant f n) :=
  h.trans (ite ((setCx t f n _).emitNow f n _) (refl t))

theorem cxEnd (h : s.PairsOnly t) (f o : Nat) (who : Bool × Nat) : s.PairsOnly (t.cxEnd f o who) :=
  h.each fun x n => ite (refl x) (ite ((setCx x f n _).cxGrant f n) (ite ((setCx x f n _).emitNow f n false)
    (setCx x f n _)))

end State.PairsOnly

section
variable {cs : List Component} {fields words : List Fld} {s t : State}

theorem Frame.cxEnd (h : Frame cs fields words s t) (hc : .air ∈ cs) (ho : .out ∈ cs) (f o : Nat) (who : Bool × Nat) :
    Frame cs fields words s (t.cxEnd f o who) :=
  h.each fun n _ x => Frame.ite (fun _ => Frame.refl x) fun _ =>
    Frame.ite (fun _ => ((Frame.refl x).setCx hc f n _).cxGrant hc ho f n) fun _ =>
      Frame.ite (fun _ => ((Frame.refl x).setCx hc f n _).emitNow ho _) fun _ => (Frame.refl x).setCx hc f n _

@[simp] theorem State.cxEnd_tx (s : State) (f o : Nat) (who : Bool × Nat) : (s.cxEnd f o who).tx = s.tx :=
  ((Frame.refl s).cxEnd (cs := [.air, .out]) (fields := []) (words := []) (by simp) (by simp) f o who).same (c := .tx)
    (by simp)

/-! ### A transmission leaves the air -/

/-- The channel is no longer sent on, and the noise windows it fell in are spoilt (R137). -/
theorem State.spoilSent_streams (s : State) (f grid : Nat) (wide : Bool) : s.StreamsOnly (s.spoilSent f grid wide) :=
  (State.StreamsOnly.refl s).each fun x i => (State.StreamsOnly.refl x).spoil f i _

theorem Frame.spoilSent (h : Frame cs fields words s t) (hc : .air ∈ cs) (f grid : Nat) (wide : Bool) :
    Frame cs fields words s (t.spoilSent f grid wide) := h.each fun i _ x => (Frame.refl x).spoil hc f i _

/-- The channel of a job is sent on no more. -/
def State.stopSending (s : State) (j : TxJob) : State :=
  { s with air := { s.air with sending := s.air.sending.erase (j.f, j.o, j.grid, decide (j.rate = 0)) } }

theorem State.leaveAir_eq (s : State) (j : TxJob) :
    s.leaveAir j = (s.stopSending j).spoilSent j.f j.grid (decide (j.rate = 0)) := rfl

theorem Frame.leaveAir (h : Frame cs fields words s t) (hc : .air ∈ cs) (j : TxJob) :
    Frame cs fields words s (t.leaveAir j) := by
  rw [State.leaveAir_eq]
  exact (h.setAir hc _).spoilSent hc _ _ _

theorem State.leaveAir_streams (s : State) (j : TxJob) : (s.stopSending j).StreamsOnly (s.leaveAir j) := by
  rw [State.leaveAir_eq]
  exact State.spoilSent_streams _ _ _ _

theorem State.leaveAir_sending (s : State) (j : TxJob) :
    (s.leaveAir j).air.sending = s.air.sending.erase (j.f, j.o, j.grid, decide (j.rate = 0)) := by
  rw [s.leaveAir_streams j]
  rfl

theorem State.leaveAir_tuners (s : State) (j : TxJob) : (s.leaveAir j).air.tuners = s.air.tuners := by
  rw [s.leaveAir_streams j]
  rfl

theorem Frame.cutJob (h : Frame cs fields words s t) (hc : .air ∈ cs) (ho : .out ∈ cs) (j : TxJob) :
    Frame cs fields words s (t.cutJob j) := (h.leaveAir hc j).emitNow ho _

@[simp] theorem State.leaveAir_tx (s : State) (j : TxJob) : (s.leaveAir j).tx = s.tx :=
  ((Frame.refl s).leaveAir (cs := [.air]) (fields := []) (words := []) (by simp) j).same (c := .tx) (by simp)

theorem State.cutJob_eq (s : State) (j : TxJob) :
    s.cutJob j = (s.leaveAir j).emitNow (.airCut j.f j.o (s.jobFrame j)) := rfl

@[simp] theorem State.cutJob_tx (s : State) (j : TxJob) : (s.cutJob j).tx = s.tx := by
  simp [State.cutJob_eq]

theorem State.leaveAir_out (s : State) (j : TxJob) : (s.leaveAir j).out = s.out :=
  ((Frame.refl s).leaveAir (cs := [.air]) (fields := []) (words := []) (by simp) j).same (c := .out) (by simp)

theorem State.cutJob_out (s : State) (j : TxJob) : (s.cutJob j).out = s.out ++ [.airCut j.f j.o (s.jobFrame j)] := by
  rw [State.cutJob_eq, State.emitNow, s.leaveAir_out]

/-! ### Jobs and downlinks -/

theorem Frame.dropJob (h : Frame cs fields words s t) (hc : .tx ∈ cs) (id : Nat) :
    Frame cs fields words s (t.dropJob id) := h.setTx hc _

theorem Frame.setJob (h : Frame cs fields words s t) (hc : .tx ∈ cs) (id : Nat) (j : TxJob) :
    Frame cs fields words s (t.setJob id j) := h.setTx hc _

theorem Frame.setDown (h : Frame cs fields words s t) (hc : .tx ∈ cs) (q : Nat) (d : Downlink) :
    Frame cs fields words s (t.setDown q d) := h.setTx hc _

theorem State.job?_of_tx (h : t.tx = s.tx) (id : Nat) : t.job? id = s.job? id := by rw [State.job?, h, State.job?]

theorem State.down?_of_tx (h : t.tx = s.tx) (q : Nat) : t.down? q = s.down? q := by rw [State.down?, h, State.down?]

@[simp] theorem State.job?_dropJob (s : State) (id n : Nat) :
    (s.dropJob id).job? n = if n = id then none else s.job? n := by
  simp [State.job?, State.dropJob, eq_comm]

@[simp] theorem State.job?_setJob (s : State) (id : Nat) (j : TxJob) (n : Nat) :
    (s.setJob id j).job? n = if n = id then some j else s.job? n := by
  simp [State.job?, State.setJob, eq_comm]

@[simp] theorem State.down?_setDown (s : State) (q : Nat) (d : Downlink) : (s.setDown q d).down? q = some d := by
  simp [State.down?, State.setDown]

@[simp] theorem State.job?_setDown (s : State) (q : Nat) (d : Downlink) (n : Nat) : (s.setDown q d).job? n = s.job? n := rfl

@[simp] theorem State.job?_cxEnd (s : State) (f o : Nat) (who : Bool × Nat) (n : Nat) :
    (s.cxEnd f o who).job? n = s.job? n := State.job?_of_tx (s.cxEnd_tx f o who) n

end

end Sys2Proof.Machine

/-! SUPPORT. Items and downlinks as an attempt ends: what stays in a queue that joins its list, what the end or the rewinding
of a downlink leaves of the transmit side, and that no job on air ends but by its own number (R179 to R181, R216). -/

namespace Sys2Proof.Machine

/-! ### Tables in order -/

theorem Tbl.find?_of_mem {α : Type} {m : Tbl α} (h : Tbl.wf m = true) {p : Nat × α} (hp : p ∈ m) :
    Tbl.find? m p.1 = some p.2 := by
  induction m with
  | nil => cases hp
  | cons q m ih =>
    obtain ⟨hlt, hm⟩ := Tbl.wf_cons.1 h
    rw [Tbl.find?_cons]
    rcases List.mem_cons.1 hp with rfl | hp
    · exact if_pos rfl
    · rw [if_neg (hlt p hp).ne, ih hm hp]

theorem Tbl.mem_of_find? {α : Type} {m : Tbl α} {i : Nat} {a : α} (h : Tbl.find? m i = some a) : (i, a) ∈ m := by
  induction m with
  | nil => cases h
  | cons q m ih =>
    rw [Tbl.find?_cons] at h
    split at h
    · obtain rfl := Option.some.inj h
      subst_vars
      exact List.mem_cons_self ..
    · exact List.mem_cons_of_mem _ (ih h)

/-! ### Queues that join a list (R216, R221) -/

section
variable {cs : List Component} {fields words : List Fld} {s t : State}

/-- A lookup of a node's streams writes the node table and what a parity error raises. -/
theorem State.streamsFor_frame (s : State) (a : Nat) (slot : Option Nat) :
    Frame (.node :: signalled) parityFields parityWords s (s.streamsFor a slot).1 :=
  (Frame.refl s).streamsFor (List.Subset.refl _) (List.Subset.refl _) (List.Subset.refl _) a slot

theorem State.streamsFor_cask (s : State) (a : Nat) (slot : Option Nat) : (s.streamsFor a slot).1.cask = s.cask :=
  (s.streamsFor_frame a slot).same (c := .cask) (by simp [signalled])

@[simp] theorem State.queue_setQueue (s : State) (q : Nat) (x : Queue) : (s.setQueue q x).queue q = x := by
  simp [State.queue, State.setQueue]

theorem State.joinNow_queue (s : State) (q : Nat) (urgent : Bool) (slot : Option Nat) :
    (s.joinNow q urgent slot).queue q = { s.queue q with urgent := urgent, slot := slot } := by
  unfold State.joinNow
  dsimp only
  split
  · exact State.queue_setQueue _ q _
  · exact State.queue_setQueue _ q _

theorem State.joinNow_items (s : State) (q : Nat) (urgent : Bool) (slot : Option Nat) :
    (s.joinNow q urgent slot).cask.items = s.cask.items := by
  unfold State.joinNow
  dsimp only
  have hitems := congrArg Cask.items (s.streamsFor_cask ((s.queue q).addr.getD broadcast) slot)
  split
  · exact hitems
  · exact hitems

/-- A queue that joins a list keeps its items. -/
theorem State.join_queue (s : State) (q : Nat) (urgent : Bool) :
    ((s.join q urgent).queue q).head = (s.queue q).head ∧ ((s.join q urgent).queue q).count = (s.queue q).count
      ∧ ((s.join q urgent).queue q).sent = (s.queue q).sent := by
  rw [State.join]
  split
  · exact ⟨rfl, rfl, rfl⟩
  · rw [State.joinNow_queue]
    exact ⟨rfl, rfl, rfl⟩

theorem State.join_items (s : State) (q : Nat) (urgent : Bool) : (s.join q urgent).cask.items = s.cask.items := by
  rw [State.join]
  split
  · rfl
  · exact s.joinNow_items q urgent none

@[simp] theorem State.join_tx (s : State) (q : Nat) (urgent : Bool) : (s.join q urgent).tx = s.tx :=
  ((Frame.refl s).join (List.Subset.refl _) (List.Subset.refl _) (List.Subset.refl _) q urgent).same (c := .tx)
    (by simp [itemCs, signalled])

theorem State.completeItem_frame (s : State) (b : Nat) (st : Status) (attempts result seq : Nat) :
    Frame signalled [] alarmWords s (s.completeItem b st attempts result seq) :=
  (Frame.refl s).completeItem (List.Subset.refl _) (List.Subset.refl _) b st attempts result seq

@[simp] theorem State.completeItem_tx (s : State) (b : Nat) (st : Status) (attempts result seq : Nat) :
    (s.completeItem b st attempts result seq).tx = s.tx :=
  (s.completeItem_frame b st attempts result seq).same (c := .tx) (by simp [signalled])

/-- The item has been completed and freed; its queue has not been written. -/
def State.itemDone (s : State) (q : Nat) (st : Status) (attempts result seq : Nat) : State :=
  (s.completeItem (s.queue q).mark st attempts result seq).freeItem (s.queue q).mark

theorem State.releaseItem_eq (s : State) (q : Nat) (st : Status) (attempts result seq : Nat) :
    s.releaseItem q st attempts result seq
      = if (s.queue q).count = 0 then (s.itemDone q st attempts result seq).setQueue q
          { s.queue q with mark := (s.queue q).head, sent := false, deficit := 0 }
        else ((s.itemDone q st attempts result seq).setQueue q
          { s.queue q with mark := (s.queue q).head, sent := false }).join q false := rfl

/-- The end of an item takes what was kept of its attempts from the transmit side, and nothing else. -/
theorem State.itemDone_tx (s : State) (q : Nat) (st : Status) (attempts result seq : Nat) :
    (s.itemDone q st attempts result seq).tx = { s.tx with kept := Tbl.erase s.tx.kept (s.queue q).mark } := by
  simp only [State.itemDone, State.freeItem, State.dropItem, State.freeBufs, State.completeItem_tx]

theorem State.releaseItem_tx (s : State) (q : Nat) (st : Status) (attempts result seq : Nat) :
    (s.releaseItem q st attempts result seq).tx = { s.tx with kept := Tbl.erase s.tx.kept (s.queue q).mark } := by
  rw [State.releaseItem_eq, ← s.itemDone_tx q st attempts result seq]
  split
  · rfl
  · exact State.join_tx _ q false

/-- An item that has ended is forgotten, and its queue has none outstanding. -/
theorem State.releaseItem_item (s : State) (q : Nat) (st : Status) (attempts result seq : Nat) :
    Tbl.has (s.releaseItem q st attempts result seq).cask.items (s.queue q).mark = false
      ∧ ((s.releaseItem q st attempts result seq).queue q).sent = false := by
  have hitems (x : Queue) : Tbl.has ((s.itemDone q st attempts result seq).setQueue q x).cask.items (s.queue q).mark
      = false := by
    simp [Tbl.has, State.itemDone, State.setQueue, State.freeItem, State.dropItem, State.freeBufs]
  rw [State.releaseItem_eq]
  split
  · exact ⟨hitems _, congrArg Queue.sent (State.queue_setQueue _ q _)⟩
  · refine ⟨?_, ?_⟩
    · rw [State.join_items]
      exact hitems _
    · rw [(State.join_queue _ q false).2.2, State.queue_setQueue]

/-- A rewound item is the head of its queue again. -/
theorem State.rewindItem_queue (s : State) (q : Nat) :
    ((s.rewindItem q).queue q).head = (s.queue q).mark ∧ ((s.rewindItem q).queue q).count = (s.queue q).count + 1
      ∧ ((s.rewindItem q).queue q).sent = false := by
  obtain ⟨hhead, hcount, hsent⟩ := State.join_queue ((s.setQueue q { s.queue q with
    head := (s.queue q).mark, count := (s.queue q).count + 1, sent := false, age := s.ageNow }).bump Reg.SCHED.REWINDS) q
      false
  have hq : ((s.setQueue q { s.queue q with
      head := (s.queue q).mark, count := (s.queue q).count + 1, sent := false, age := s.ageNow }).bump
      Reg.SCHED.REWINDS).queue q = { s.queue q with
        head := (s.queue q).mark, count := (s.queue q).count + 1, sent := false, age := s.ageNow } :=
    State.queue_setQueue s q _
  rw [hq] at hhead hcount hsent
  exact ⟨hhead, hcount, hsent⟩

theorem State.rewindItem_tx (s : State) (q : Nat) : (s.rewindItem q).tx = s.tx := State.join_tx _ q false

theorem State.rewindItem_counts (s : State) (q : Nat) :
    (s.rewindItem q).stat Reg.SCHED.REWINDS = (s.stat Reg.SCHED.REWINDS + 1) % 2 ^ 32 := by
  have hjoin (x : State) : (x.join q false).stat Reg.SCHED.REWINDS = x.stat Reg.SCHED.REWINDS :=
    ((Frame.refl x).join (List.Subset.refl _) (List.Subset.refl _) (List.Subset.refl parityWords) q false).stat (by decide)
  exact (hjoin _).trans ((State.stat_bump _ _ _).trans (if_pos rfl))

/-! ### Downlinks -/

theorem Frame.dropWaiting (h : Frame cs fields words s t) (hc : [.air, .tx, .out] ⊆ cs) (d : Downlink) :
    Frame cs fields words s (t.dropWaiting d) :=
  h.each fun p _ x => ((Frame.refl x).dropJob (hc (by simp)) p.1).cxEnd (hc (by simp)) (hc (by simp)) _ _ _

/-- The components that the end of an attempt may write. -/
def endCs : List Component := .air :: .tx :: itemCs

theorem endCs_dropped : [.air, .tx, .out] ⊆ endCs := by decide

/-- The downlink outstanding on a queue is forgotten, with what was kept of its attempts. -/
def State.forgetDown (s : State) (q : Nat) (d : Downlink) : State :=
  { s with tx := { s.tx with downs := Tbl.erase s.tx.downs q, kept := Tbl.erase s.tx.kept d.first } }

theorem State.releaseDown_eq (s : State) (q : Nat) (d : Downlink) (st : Status) :
    s.releaseDown q d st = (s.forgetDown q d).releaseItem q st d.attempts (d.ctrs.headD 0) d.seq := rfl

theorem Frame.releaseDown (h : Frame cs fields words s t) (hc : .tx :: itemCs ⊆ cs) (hf : parityFields ⊆ fields)
    (hw : parityWords ⊆ words) (q : Nat) (d : Downlink) (st : Status) :
    Frame cs fields words s (t.releaseDown q d st) := by
  rw [State.releaseDown_eq]
  exact Frame.releaseItem (t := t.forgetDown q d) (h.setTx (hc (List.mem_cons_self ..)) _) hc hf hw q st _ _ _

theorem Frame.completeDown (h : Frame cs fields words s t) (hc : endCs ⊆ cs) (hf : parityFields ⊆ fields)
    (hw : parityWords ⊆ words) (q : Nat) (d : Downlink) (st : Status) :
    Frame cs fields words s (t.completeDown q d st) :=
  (h.dropWaiting (List.Subset.trans endCs_dropped hc) d).releaseDown (fun _ hm => hc (List.mem_cons_of_mem _ hm)) hf hw q d
    st

theorem Frame.attemptEnd (h : Frame cs fields words s t) (hc : endCs ⊆ cs) (hf : parityFields ⊆ fields)
    (hw : parityWords ⊆ words) (q : Nat) (d : Downlink) : Frame cs fields words s (t.attemptEnd q d) := by
  have htx : .tx ∈ cs := hc (by simp [endCs])
  exact Frame.ite (fun _ => h.releaseDown (fun _ hm => hc (List.mem_cons_of_mem _ hm)) hf hw q d _) fun _ =>
    Frame.ite (fun _ => h.setDown htx q d) fun _ => Frame.ite (fun _ => h.completeDown hc hf hw q d _) fun _ =>
      Frame.ite (fun _ => h.setDown htx q d) fun _ => h.completeDown hc hf hw q d _

theorem Frame.copyEnd (h : Frame cs fields words s t) (hc : endCs ⊆ cs) (hf : parityFields ⊆ fields)
    (hw : parityWords ⊆ words) (id : Nat) (j : TxJob) (st : Status) (tail : Option Int) :
    Frame cs fields words s (t.copyEnd id j st tail) := by
  rw [State.copyEnd]
  split
  · exact h
  · exact Frame.ite (fun _ => h.attemptEnd hc hf hw _ _) fun _ => h

theorem Frame.failJob (h : Frame cs fields words s t) (hc : endCs ⊆ cs) (hf : parityFields ⊆ fields)
    (hw : parityWords ⊆ words) (id : Nat) (j : TxJob) (st : Status) : Frame cs fields words s (t.failJob id j st) := by
  have hdrop : Frame cs fields words s ((t.dropJob id).cxEnd j.f j.o (false, id)) :=
    (h.dropJob (hc (by simp [endCs])) id).cxEnd (hc (by simp [endCs])) (hc (by simp [endCs, itemCs, signalled])) _ _ _
  rw [State.failJob]
  split
  · exact hdrop
  · exact hdrop.copyEnd hc hf hw id j st none

theorem State.dropWaiting_of_no_jobs {d : Downlink} (h : d.jobs = []) : s.dropWaiting d = s := by
  have hl : (s.tx.jobs.filter fun p => p.1 ∈ d.jobs && p.2.stage ≠ .onAir) = [] := by simp [h]
  rw [State.dropWaiting, hl, State.each_nil]

/-! ### Jobs on air end by their own number only -/

/-- Where the table of jobs is in order it stays so, no job begins, and those on air go on. -/
def State.WaitingEnd (s t : State) : Prop :=
  Tbl.wf s.tx.jobs = true → Tbl.wf t.tx.jobs = true ∧ (∀ n, s.job? n = none → t.job? n = none)
    ∧ ∀ n y, s.job? n = some y → y.stage = .onAir → t.job? n = some y

namespace State.WaitingEnd
variable {u : State}

theorem same (h : t.tx.jobs = s.tx.jobs) : s.WaitingEnd t := fun hwf =>
  ⟨h ▸ hwf, fun n hn => by rwa [State.job?, h], fun n y hy _ => by rwa [State.job?, h]⟩

theorem refl (s : State) : s.WaitingEnd s := same rfl

theorem trans (h : s.WaitingEnd t) (k : t.WaitingEnd u) : s.WaitingEnd u := fun hwf => by
  obtain ⟨twf, tnone, tair⟩ := h hwf
  obtain ⟨uwf, unone, uair⟩ := k twf
  exact ⟨uwf, fun n hn => unone n (tnone n hn), fun n y hy ha => uair n y (tair n y hy ha) ha⟩

theorem ite {c : Prop} [Decidable c] (ht : s.WaitingEnd t) (hu : s.WaitingEnd u) :
    s.WaitingEnd (if c then t else u) := by
  split
  · exact ht
  · exact hu

end State.WaitingEnd

/-- Jobs that are dropped, with the attempts of their pairs, are gone; the others stand. -/
theorem State.each_drops (l : List (Nat × TxJob)) (s : State) :
    (Tbl.wf s.tx.jobs = true →
      Tbl.wf (s.each l fun s p => (s.dropJob p.1).cxEnd p.2.f p.2.o (false, p.1)).tx.jobs = true)
    ∧ ∀ n, (s.each l fun s p => (s.dropJob p.1).cxEnd p.2.f p.2.o (false, p.1)).job? n
        = if n ∈ l.map Prod.fst then none else s.job? n := by
  induction l generalizing s with
  | nil => exact ⟨id, fun n => (if_neg (List.not_mem_nil)).symm⟩
  | cons p l ih =>
    obtain ⟨hwf, hjob⟩ := ih ((s.dropJob p.1).cxEnd p.2.f p.2.o (false, p.1))
    rw [State.each_cons]
    refine ⟨fun h => hwf ?_, fun n => (hjob n).trans ?_⟩
    · rw [State.cxEnd_tx]
      exact Tbl.wf_erase h p.1
    · rw [State.job?_cxEnd, State.job?_dropJob, List.map_cons]
      by_cases hn : n = p.1
      · simp [hn]
      · rw [if_neg hn]
        exact if_congr (by rw [List.mem_cons, or_iff_right hn]) rfl rfl

theorem State.dropWaiting_ends (s : State) (d : Downlink) : s.WaitingEnd (s.dropWaiting d) := fun hwf => by
  obtain ⟨twf, tjob⟩ := s.each_drops (s.tx.jobs.filter fun p => p.1 ∈ d.jobs && p.2.stage ≠ .onAir)
  refine ⟨twf hwf, fun n hn => ?_, fun n y hy ha => ?_⟩
  · rw [State.dropWaiting, tjob, hn]
    exact ite_self _
  · rw [State.dropWaiting, tjob, if_neg, hy]
    intro hm
    obtain ⟨p, hp, rfl⟩ := List.mem_map.1 hm
    obtain ⟨hmem, hwait⟩ := List.mem_filter.1 hp
    obtain rfl := Option.some.inj ((Tbl.find?_of_mem hwf hmem).symm.trans hy)
    simp [ha] at hwait

theorem State.releaseDown_ends (s : State) (q : Nat) (d : Downlink) (st : Status) :
    s.WaitingEnd (s.releaseDown q d st) := .same (by
    rw [State.releaseDown_eq, State.releaseItem_tx]
    rfl)

theorem State.completeDown_ends (s : State) (q : Nat) (d : Downlink) (st : Status) :
    s.WaitingEnd (s.completeDown q d st) := (s.dropWaiting_ends d).trans (State.releaseDown_ends _ q d st)

theorem State.attemptEnd_ends (s : State) (q : Nat) (d : Downlink) : s.WaitingEnd (s.attemptEnd q d) :=
  have hset : s.WaitingEnd (s.setDown q d) := .same rfl
  .ite (s.releaseDown_ends q d _) (.ite hset (.ite (s.completeDown_ends q d _) (.ite hset (s.completeDown_ends q d _))))

theorem State.copyEnd_ends (s : State) (id : Nat) (j : TxJob) (st : Status) (tail : Option Int) :
    s.WaitingEnd (s.copyEnd id j st tail) := by
  rw [State.copyEnd]
  split
  · exact .refl s
  · exact .ite (s.attemptEnd_ends _ _) (.refl s)

/-- A job that fails is gone; the others on air go on. -/
theorem State.failJob_ends (s : State) (id : Nat) (j : TxJob) (st : Status) :
    (s.dropJob id).WaitingEnd (s.failJob id j st) := by
  have hdrop : (s.dropJob id).WaitingEnd ((s.dropJob id).cxEnd j.f j.o (false, id)) :=
    .same (congrArg MacTx.jobs (State.cxEnd_tx _ _ _ _))
  rw [State.failJob]
  split
  · exact hdrop
  · exact hdrop.trans (State.copyEnd_ends _ id j st none)

/-! ### What was sent stays sent -/

namespace State.SentBy

theorem cxEnd (h : s.SentBy t) (f o : Nat) (who : Bool × Nat) : s.SentBy (t.cxEnd f o who) :=
  h.trans ((State.PairsOnly.refl t).cxEnd f o who).sent

theorem dropWaiting (h : s.SentBy t) (d : Downlink) : s.SentBy (t.dropWaiting d) :=
  h.each fun x p => cxEnd (t := x.dropJob p.1) (refl x) _ _ _

theorem releaseDown (h : s.SentBy t) (q : Nat) (d : Downlink) (st : Status) : s.SentBy (t.releaseDown q d st) := by
  rw [State.releaseDown_eq]
  exact (same (u := t.forgetDown q d) h rfl).releaseItem q st _ _ _

theorem completeDown (h : s.SentBy t) (q : Nat) (d : Downlink) (st : Status) : s.SentBy (t.completeDown q d st) :=
  (h.dropWaiting d).releaseDown q d st

theorem attemptEnd (h : s.SentBy t) (q : Nat) (d : Downlink) : s.SentBy (t.attemptEnd q d) :=
  have hset : s.SentBy (t.setDown q d) := h
  ite (h.releaseDown q d _) (ite hset (ite (h.completeDown q d _) (ite hset (h.completeDown q d _))))

theorem failJob (h : s.SentBy t) (id : Nat) (j : TxJob) (st : Status) : s.SentBy (t.failJob id j st) := by
  have hdrop : s.SentBy ((t.dropJob id).cxEnd j.f j.o (false, id)) := cxEnd (t := t.dropJob id) h _ _ _
  rw [State.failJob]
  split
  · exact hdrop
  · rw [State.copyEnd]
    split
    · exact hdrop
    · exact ite (hdrop.attemptEnd _ _) hdrop

end State.SentBy

end

end Sys2Proof.Machine

/-! SUPPORT. A frame whose last chip has gone (R84, R160, R163): what is left of it, and that what its downlink goes by reads
as before, for no register but TXCH.TUNER_LIMIT is written. -/

namespace Sys2Proof.Machine

/-! ### The aerial tuner (R84) -/

/-- The field that the tuner's adaptation writes. -/
def tunerFields (f o : Nat) : List Fld := if 96 ≤ o then [Reg.FRF.TXCH.TUNER_LIMIT f (o - 96)] else []

/-- The tuner's setting after its adaptation. -/
def State.tunerNext (s : State) (f c forward reflected : Nat) : Int :=
  max (-(Config.tunerReach : Int)) (min Config.tunerReach
    (Config.tunerMove (Tbl.getD s.air.tuners (2 * f + c) 0) forward reflected))

theorem State.adaptTuner_chain (s : State) {f o : Nat} (ho : 96 ≤ o) (fw rv : Nat) : s.adaptTuner f o fw rv
    = ({ s with air := { s.air with tuners := Tbl.put s.air.tuners (2 * f + (o - 96)) (s.tunerNext f (o - 96) fw rv) } }).put
        (Reg.FRF.TXCH.TUNER_LIMIT f (o - 96)) (bit ((s.tunerNext f (o - 96) fw rv).natAbs = Config.tunerReach)) :=
  if_neg (Nat.not_lt.2 ho)

theorem State.adaptTuner_lane (s : State) {f o : Nat} (ho : o < 96) (fw rv : Nat) : s.adaptTuner f o fw rv = s := if_pos ho

theorem State.adaptTuner_frame (s : State) (f o fw rv : Nat) : Frame [.air] (tunerFields f o) [] s (s.adaptTuner f o fw rv) := by
  by_cases ho : 96 ≤ o
  · rw [s.adaptTuner_chain ho]
    exact Frame.put (t := { s with air := _ }) ((Frame.refl s).setAir (by simp) _) (by simp [tunerFields, ho]) _
  · rw [s.adaptTuner_lane (Nat.not_le.1 ho)]
    exact Frame.refl s

theorem State.adaptTuner_tx (s : State) (f o fw rv : Nat) : (s.adaptTuner f o fw rv).tx = s.tx :=
  (s.adaptTuner_frame f o fw rv).same (c := .tx) (by simp)

theorem State.adaptTuner_sending (s : State) (f o fw rv : Nat) : (s.adaptTuner f o fw rv).air.sending = s.air.sending := by
  by_cases ho : 96 ≤ o
  · rw [s.adaptTuner_chain ho]
    rfl
  · rw [s.adaptTuner_lane (Nat.not_le.1 ho)]

/-- TUNER_LIMIT says whether the tuner stands at the end of its reach. -/
theorem State.adaptTuner_limit (s : State) {f o : Nat} (ho : 96 ≤ o) (fw rv : Nat) :
    (s.adaptTuner f o fw rv).get (Reg.FRF.TXCH.TUNER_LIMIT f (o - 96))
      = bit ((Tbl.getD (s.adaptTuner f o fw rv).air.tuners (2 * f + (o - 96)) 0).natAbs = Config.tunerReach) := by
  have hbit (b : Bool) : bit b % 2 ^ 1 = bit b := by cases b <;> rfl
  rw [s.adaptTuner_chain ho, State.get_put_same]
  refine (hbit _).trans ?_
  show _ = bit (decide ((Tbl.getD (Tbl.put s.air.tuners (2 * f + (o - 96)) (s.tunerNext f (o - 96) fw rv))
    (2 * f + (o - 96)) 0).natAbs = Config.tunerReach))
  rw [Tbl.getD_put, if_pos rfl]

/-! ### What is left of a frame that has gone -/

/-- The transmit context of a job is free, and the tuner of its chain has adapted. -/
def State.offAir (s : State) (id : Nat) (j : TxJob) (fw rv : Nat) : State :=
  (((s.leaveAir j).dropJob id).cxEnd j.f j.o (false, id)).adaptTuner j.f j.o fw rv

theorem State.offAir_frame (s : State) (id : Nat) (j : TxJob) (fw rv : Nat) :
    Frame [.air, .tx, .out] (tunerFields j.f j.o) [] s (s.offAir id j fw rv) :=
  ((((Frame.refl s).leaveAir (by simp) j).dropJob (by simp) id).cxEnd (by simp) (by simp) j.f j.o (false, id)).trans
    ((State.adaptTuner_frame _ j.f j.o fw rv).mono (by simp) (List.Subset.refl _) (by simp))

theorem State.dropJob_tx (s : State) (id : Nat) : (s.dropJob id).tx = { s.tx with jobs := Tbl.erase s.tx.jobs id } := rfl

theorem State.offAir_tx (s : State) (id : Nat) (j : TxJob) (fw rv : Nat) :
    (s.offAir id j fw rv).tx = (s.dropJob id).tx := by
  have hcx : (((s.leaveAir j).dropJob id).cxEnd j.f j.o (false, id)).tx = (s.dropJob id).tx :=
    (State.cxEnd_tx _ j.f j.o (false, id)).trans
      (congrArg (fun x : MacTx => { x with jobs := Tbl.erase x.jobs id }) (s.leaveAir_tx j))
  rw [State.offAir, State.adaptTuner_tx, hcx]

theorem State.offAir_job (s : State) (id : Nat) (j : TxJob) (fw rv n : Nat) :
    (s.offAir id j fw rv).job? n = if n = id then none else s.job? n :=
  (State.job?_of_tx (s.offAir_tx id j fw rv) n).trans (s.job?_dropJob id n)

theorem State.offAir_down (s : State) (id : Nat) (j : TxJob) (fw rv q : Nat) :
    (s.offAir id j fw rv).down? q = s.down? q := State.down?_of_tx (s.offAir_tx id j fw rv) q

/-- The end of an attempt leaves the channels and the tuners. -/
theorem State.dropped_air (s : State) (id : Nat) (j : TxJob) :
    ((s.dropJob id).cxEnd j.f j.o (false, id)).air.sending = s.air.sending
      ∧ ((s.dropJob id).cxEnd j.f j.o (false, id)).air.tuners = s.air.tuners := by
  have hair := ((State.PairsOnly.refl (s.dropJob id)).cxEnd j.f j.o (false, id)).air
  have hsame : (s.dropJob id).air = s.air := rfl
  rw [hair, hsame]
  exact ⟨rfl, rfl⟩

theorem State.offAir_sending (s : State) (id : Nat) (j : TxJob) (fw rv : Nat) :
    (s.offAir id j fw rv).air.sending = s.air.sending.erase (j.f, j.o, j.grid, decide (j.rate = 0)) :=
  ((State.adaptTuner_sending _ j.f j.o fw rv).trans ((s.leaveAir j).dropped_air id j).1).trans
    (s.leaveAir_sending j)

theorem State.offAir_lane (s : State) (id : Nat) {j : TxJob} (ho : j.o < 96) (fw rv : Nat) :
    (s.offAir id j fw rv).air.tuners = s.air.tuners := by
  rw [State.offAir, State.adaptTuner_lane _ ho, ((s.leaveAir j).dropped_air id j).2, s.leaveAir_tuners]

theorem State.endJob_eq (s : State) (id : Nat) (j : TxJob) (clamped : Bool) (fw rv : Nat) :
    s.endJob id j clamped fw rv = match j.kind with
      | .ack _ => State.offAir (if clamped then s.bump Reg.MAC.TX_CLAMP else s) id j fw rv
      | .wake => (State.offAir (if clamped then s.bump Reg.MAC.TX_CLAMP else s) id j fw rv).meetAfter id j
      | _ => (State.offAir (if clamped then s.bump Reg.MAC.TX_CLAMP else s) id j fw rv).copyEnd id j .done (some j.lastChip) :=
  rfl

/-! ### What reads as before -/

/-- A field that no TUNER_LIMIT shares a place with: another place in its word, or below the field dies' windows. -/
def Fld.offTuner (g : Fld) : Prop := g.key % 32 ≠ 22 ∨ g.key < 8 * 0x1080040

/-- The part, the node table and Cask are the same, and every register field but a TUNER_LIMIT. -/
structure State.ButTuner (s t : State) : Prop where
  get : ∀ g : Fld, g.offTuner → t.get g = s.get g
  part : t.part = s.part
  node : t.node = s.node
  cask : t.cask = s.cask

theorem tunerFields_apart {f o : Nat} {g : Fld} (hg : g.offTuner) : ∀ x ∈ tunerFields f o, x.key ≠ g.key := by
  intro x hx he
  unfold tunerFields at hx
  split at hx
  · obtain rfl := List.mem_singleton.1 hx
    unfold Fld.offTuner at hg
    simp only [Reg.FRF.TXCH.TUNER_LIMIT] at he
    omega
  · cases hx

theorem Frame.butTuner {f o : Nat} {words : List Fld} {s t : State} (h : Frame [.air, .tx, .out] (tunerFields f o) words s t) :
    s.ButTuner t :=
  ⟨fun _ hg => h.get (tunerFields_apart hg), h.same (c := .part) (by simp), h.same (c := .node) (by simp),
    h.same (c := .cask) (by simp)⟩

namespace State.ButTuner
variable {s t : State}

theorem on (h : s.ButTuner t) (g : Fld) (hg : g.offTuner) : t.on g = s.on g := by
  rw [State.on, State.on, h.get g hg]

theorem macForce (h : s.ButTuner t) (grid : Nat) : t.macForce grid = s.macForce grid := by
  simp (disch := simp only [Fld.offTuner, Reg.MAC.LBT_CFG.MAX_BE, Reg.MAC.LBT_CFG.MAX_ATTEMPTS, Reg.MAC.LBT_BAND.EN,
    Reg.MAC.LBT_BAND.GLO, Reg.MAC.LBT_BAND.GHI, Reg.MAC.LBT_BAND.LBT, Reg.MAC.LBT_BAND.THR, Reg.MAC.LBT_BAND.REL,
    Reg.MAC.ACK_CFG.NODE_TURN_US, Reg.MAC.ACK_CFG.ACK_TOL_US, Reg.MAC.ACK_CFG.MAX_RETRY, Reg.MAC.TWIN_CFG.GAP_US,
    Reg.MAC.WAKE_TX.MEET_US, Reg.MAC.WAKE_TX.LEVEL]; omega) only [State.macForce, State.band, h.get, h.on]

theorem forceOf (h : s.ButTuner t) (j : TxJob) : t.forceOf j = s.forceOf j := by
  rw [State.forceOf, State.forceOf, h.macForce]

theorem dieUp (h : s.ButTuner t) (f : Nat) : t.dieUp f = s.dieUp f := by
  simp (disch := simp only [Fld.offTuner, Reg.SAFE.FDIE.FENCED]; omega) only [State.dieUp, State.present,
    State.dieFenced, h.part, h.on]

theorem serveOf (h : s.ButTuner t) : t.serveOf = s.serveOf := by
  funext x
  simp (disch := simp only [Fld.offTuner, Reg.TX.SERVE.OUT, Reg.TX.SERVE.EN, Reg.TX.OUT.EN]; omega) only [State.serveOf,
    h.get, h.on, h.dieUp]

theorem outCovers (h : s.ButTuner t) (f o grid rate : Nat) : t.outCovers f o grid rate = s.outCovers f o grid rate := by
  simp (disch := simp only [Fld.offTuner, Reg.FRF.TXCH.EN, Reg.LINK.CFG.EN, Reg.LINK.CFG.M, Reg.LINK.CFG.WIDTH,
    Reg.TX.GRID]; omega) only [State.outCovers, State.outChannels, State.linkStreams, h.get, h.on]
  rfl

theorem copyError (h : s.ButTuner t) (f o grid rate : Nat) : t.copyError f o grid rate = s.copyError f o grid rate := by
  simp (disch := simp only [Fld.offTuner, Reg.FRF.TXCH.FAULT]; omega) only [State.copyError, State.portFaulted,
    h.outCovers, h.on]
  rfl

theorem twinFor (h : s.ButTuner t) (cls : Nat) (streams : List Nat) (f o grid rate : Nat) :
    t.twinFor cls streams f o grid rate = s.twinFor cls streams f o grid rate := by
  simp (disch := simp only [Fld.offTuner, Reg.MAC.TWIN_CFG.MODE, Reg.MAC.TWIN_CFG.CH_OFS, Reg.TX.OUT.TWIN_DIE,
    Reg.TX.OUT.TWIN_OUT, Reg.TX.OUT.TWIN_EN, Reg.TX.OUT.EN]; omega) only [State.twinFor, State.twinOf, State.twinGrid,
    h.get, h.on, h.dieUp, h.serveOf, h.outCovers]
  rfl

theorem floodStreams (h : s.ButTuner t) : t.floodStreams = s.floodStreams := by
  simp (disch := simp only [Fld.offTuner, Reg.NODE.FLOOD.EN, Reg.NODE.FLOOD.STREAM]; omega) only [State.floodStreams,
    h.get, h.on]

theorem nodeIndex (h : s.ButTuner t) (a : Nat) : t.nodeIndex a = s.nodeIndex a := by
  simp (disch := simp only [Fld.offTuner, Reg.NODE.CFG.SEED]; omega) only [State.nodeIndex, State.bucket, h.get, h.node]
  rfl

theorem nodeSound (h : s.ButTuner t) (a : Nat) : t.nodeSound a = s.nodeSound a := by
  rw [State.nodeSound, State.nodeSound, h.nodeIndex, h.node]

theorem setFenced (h : s.ButTuner t) (a : Nat) : t.setFenced a = s.setFenced a := by
  simp only [State.setFenced, h.nodeSound, h.dieUp]

/-- A lookup that meets no parity error gives the same, and leaves the state. -/
theorem nodeFind (h : s.ButTuner t) {a : Nat} (ha : (s.nodeFind a).2.2 = false) : t.nodeFind a = (t, (s.nodeFind a).2) := by
  rw [State.nodeFind] at ha ⊢
  rw [State.nodeFind, h.nodeIndex, h.node]
  split
  · rfl
  · split
    · split
      · rfl
      · simp_all
    · rfl

theorem streamsFor (h : s.ButTuner t) {a : Nat} (ha : (s.nodeFind a).2.2 = false) (slot : Option Nat) :
    t.streamsFor a slot = (t, (s.streamsFor a slot).2) := by
  have hs : (s.nodeFind a).1 = s :=
    congrArg Prod.fst (State.ButTuner.nodeFind (s := s) (t := s) ⟨fun _ _ => rfl, rfl, rfl, rfl⟩ ha)
  simp only [State.streamsFor, h.nodeFind ha, hs, h.floodStreams, h.setFenced]
  split
  · rfl
  · split
    · split <;> rfl
    · rfl

theorem itemPayload (h : s.ButTuner t) (b : Nat) : t.itemPayload b = s.itemPayload b := by
  simp only [State.itemPayload, State.itemData, State.itemBufs, h.cask]

theorem queue (h : s.ButTuner t) (q : Nat) : t.queue q = s.queue q := by
  rw [State.queue, State.queue, h.cask]

end State.ButTuner

end Sys2Proof.Machine

/-! SUPPORT. Mismatches, probes and grants that drop (R85, R86, R92): what each leaves of the frames on air, of the port and of
the attempts. -/

namespace Sys2Proof.Machine

section
variable {cs : List Component} {fields words : List Fld} {s t : State}

/-! ### Mismatches (R85) -/

/-- A frame on air is cut and ends with ABORT_MISMATCH. -/
def State.cutFail (s : State) (e : Nat × TxJob) : State := (s.cutJob e.2).failJob e.1 e.2 .abortMismatch

theorem State.cutFail_frame (s : State) (e : Nat × TxJob) : Frame endCs parityFields parityWords s (s.cutFail e) :=
  ((Frame.refl s).cutJob (by simp [endCs]) (by simp [endCs, itemCs, signalled]) e.2).failJob (List.Subset.refl _)
    (List.Subset.refl _) (List.Subset.refl _) e.1 e.2 _

/-- The bytes of a frame follow its job, the quality of time and the mesh offset. -/
theorem State.jobFrame_congr (hq : t.get Reg.TIME.REF_STATUS.QUALITY = s.get Reg.TIME.REF_STATUS.QUALITY)
    (hm : t.get Reg.TIME.MESH_OFFSET.OFFSET = s.get Reg.TIME.MESH_OFFSET.OFFSET) (j : TxJob) :
    t.jobFrame j = s.jobFrame j := by
  simp only [State.jobFrame, State.jobPayload, State.timePayload, State.counterOf, State.meshOffset, State.quality, hq, hm]

theorem State.cutFail_jobFrame (s : State) (e : Nat × TxJob) (j : TxJob) : (s.cutFail e).jobFrame j = s.jobFrame j :=
  State.jobFrame_congr ((s.cutFail_frame e).get (by decide)) ((s.cutFail_frame e).get (by decide)) j

theorem State.cutFail_sent (s : State) (e : Nat × TxJob) :
    s.SentBy (s.cutFail e) ∧ .airCut e.2.f e.2.o (s.jobFrame e.2) ∈ (s.cutFail e).out := by
  have hfail : (s.cutJob e.2).SentBy (s.cutFail e) := (State.SentBy.refl _).failJob e.1 e.2 _
  have hcut := s.cutJob_out e.2
  exact ⟨fun o hm => hfail (hcut ▸ List.mem_append_left _ hm), hfail (hcut ▸ List.mem_append_right _ (by simp))⟩

theorem State.cutFail_ends (s : State) (e : Nat × TxJob) : (s.dropJob e.1).WaitingEnd (s.cutFail e) := by
  have hjobs : ((s.cutJob e.2).dropJob e.1).tx.jobs = (s.dropJob e.1).tx.jobs := by
    simp only [State.dropJob_tx, State.cutJob_tx]
  rw [State.cutFail]
  exact (State.WaitingEnd.same hjobs).trans (State.failJob_ends _ e.1 e.2 _)

/-- Of frames cut one after the other each has been cut and its job is gone; the other jobs on air go on. -/
theorem State.cutAll_leaves (l : List (Nat × TxJob)) (hwf : Tbl.wf s.tx.jobs = true) :
    (∀ n, s.job? n = none → (s.each l State.cutFail).job? n = none) ∧ (∀ e ∈ l, (s.each l State.cutFail).job? e.1 = none)
      ∧ (∀ n y, s.job? n = some y → y.stage = .onAir → n ∉ l.map Prod.fst → (s.each l State.cutFail).job? n = some y)
      ∧ s.SentBy (s.each l State.cutFail)
      ∧ ∀ e ∈ l, .airCut e.2.f e.2.o (s.jobFrame e.2) ∈ (s.each l State.cutFail).out := by
  induction l generalizing s with
  | nil => exact ⟨fun _ h => h, by simp, fun _ _ h _ _ => h, State.SentBy.refl s, by simp⟩
  | cons e l ih =>
    obtain ⟨hwf', hnone, hair⟩ := s.cutFail_ends e (Tbl.wf_erase hwf e.1)
    obtain ⟨hsent, hcut⟩ := s.cutFail_sent e
    obtain ⟨inone, igone, iair, isent, icut⟩ := ih hwf'
    have hgone : (s.cutFail e).job? e.1 = none := hnone e.1 (by simp)
    refine ⟨fun n hn => inone n (hnone n (by simp [hn])), ?_, fun n y hy ha hn => ?_, hsent.trans isent, ?_⟩
    · exact List.forall_mem_cons.2 ⟨inone e.1 hgone, igone⟩
    · rw [List.map_cons, List.mem_cons, not_or] at hn
      exact iair n y (hair n y (by rw [State.job?_dropJob, if_neg hn.1, hy]) ha) ha hn.2
    · refine List.forall_mem_cons.2 ⟨isent hcut, fun x hx => ?_⟩
      rw [← s.cutFail_jobFrame e]
      exact icut x hx

theorem Frame.cutAll (h : Frame cs fields words s t) (hc : endCs ⊆ cs) (hf : parityFields ⊆ fields)
    (hw : parityWords ⊆ words) (l : List (Nat × TxJob)) : Frame cs fields words s (t.each l State.cutFail) :=
  h.each fun e _ x => (x.cutFail_frame e).mono hc hf hw

/-- The frames on air on a port. -/
def State.onPort (s : State) (f c : Nat) : List (Nat × TxJob) := s.onAirOf fun j => j.f = f && j.o = 96 + c

theorem State.mem_onPort {f c : Nat} {e : Nat × TxJob} :
    e ∈ s.onPort f c ↔ e ∈ s.tx.jobs ∧ e.2.stage = .onAir ∧ e.2.f = f ∧ e.2.o = 96 + c := by
  simp [State.onPort, State.onAirOf]

/-- The port's probe as it stands. -/
def State.probeRun (s : State) (f c : Nat) : ProbeRun := Tbl.getD s.air.probes (2 * f + c) ⟨1, false⟩

def State.setProbe (s : State) (f c : Nat) (r : ProbeRun) : State :=
  { s with air := { s.air with probes := Tbl.put s.air.probes (2 * f + c) r } }

def State.dropProbe (s : State) (f c : Nat) : State :=
  { s with air := { s.air with probes := Tbl.erase s.air.probes (2 * f + c) } }

/-- The count of the port's aborts, and its probes from the start. -/
def State.countAbort (s : State) (f c : Nat) : State := (s.incSat (Reg.FRF.TXCH.ABORTS f c)).setProbe f c ⟨1, false⟩

theorem State.mismatch_eq (s : State) (f c : Nat) : s.mismatch f c
    = ((s.each (s.onPort f c) State.cutFail).countAbort f c).raise (Reg.FRF.TXCH.FAULT f c) f 4 := rfl

theorem State.raise_tx (s : State) (flag : Fld) (f j : Nat) : (s.raise flag f j).tx = s.tx := by
  simp [State.raise]

theorem State.raise_sent (s : State) (flag : Fld) (f j : Nat) : s.SentBy (s.raise flag f j) :=
  State.SentBy.fire (t := s.put flag 1) (State.SentBy.refl s) _

/-! ### Probes (R86) -/

/-- The probe's turn is taken. -/
def State.probeTaken (s : State) (f c : Nat) : State := s.setProbe f c { s.probeRun f c with nextSlot := false }

/-- A probe goes out. -/
def State.probeSent (s : State) (f c : Nat) : State :=
  ((s.probeTaken f c).emitNow (.probe f c)).cxEnd f (96 + c) (true, c)

theorem State.probeTaken_may (s : State) (f c : Nat) : (s.probeTaken f c).mayRadiate = s.mayRadiate := rfl

theorem State.probeTaken_allows (s : State) (f c o : Nat) (granted : Bool) :
    (s.probeTaken f c).cxAllows f o granted = s.cxAllows f o granted := rfl

theorem State.probeTaken_busy (s : State) (f c : Nat) : (s.probeTaken f c).probeBusy f c = s.probeBusy f c := rfl

/-- What a probe that went out makes of the port: a match clears the fault, any other doubles the interval. -/
def State.probeDone (x : State) (f c interval : Nat) (within : Bool) : State :=
  if within then ((x.dropProbe f c).put (Reg.FRF.TXCH.FAULT f c) 0).fire (dieSource f 4)
  else x.setProbe f c ⟨min 64 (2 * interval), false⟩

theorem State.probeDone_matched (x : State) (f c interval : Nat) : x.probeDone f c interval true
    = ((x.dropProbe f c).put (Reg.FRF.TXCH.FAULT f c) 0).fire (dieSource f 4) := rfl

theorem State.probeDone_unmatched (x : State) (f c interval : Nat) : x.probeDone f c interval false
    = x.setProbe f c ⟨min 64 (2 * interval), false⟩ := rfl

/-- A probe that may be made goes out. -/
theorem State.probe_made {f c : Nat} {granted : Bool} (h : s.lookContacts = s) (hmay : s.mayRadiate = true)
    (hbusy : s.probeBusy f c = false) (hcx : s.cxAllows f (96 + c) granted = true) (within : Bool) :
    s.probe f c within granted = (s.probeSent f c).probeDone f c (s.probeRun f c).interval within := by
  have hgo : ¬ (!(s.probeTaken f c).mayRadiate || (s.probeTaken f c).probeBusy f c
      || !(s.probeTaken f c).cxAllows f (96 + c) granted) = true := by
    simp [State.probeTaken_may, State.probeTaken_allows, State.probeTaken_busy, hmay, hbusy, hcx]
  have hdone (x : State) (n : Nat) : (if within then (({ x with air := { x.air with
        probes := Tbl.erase x.air.probes (2 * f + c) } }).put (Reg.FRF.TXCH.FAULT f c) 0).fire (dieSource f 4)
      else { x with air := { x.air with probes := Tbl.put x.air.probes (2 * f + c) ⟨min 64 (2 * n), false⟩ } })
      = x.probeDone f c n within := rfl
  rw [State.probe, h]
  exact (if_neg hgo).trans (hdone _ _)

/-- One that may not be made is dropped. -/
theorem State.probe_dropped {f c : Nat} {granted : Bool} (h : s.lookContacts = s)
    (hno : s.mayRadiate = false ∨ s.probeBusy f c = true ∨ s.cxAllows f (96 + c) granted = false) (within : Bool) :
    s.probe f c within granted = (s.probeTaken f c).cxEnd f (96 + c) (true, c) := by
  have hstop : (!(s.probeTaken f c).mayRadiate || (s.probeTaken f c).probeBusy f c
      || !(s.probeTaken f c).cxAllows f (96 + c) granted) = true := by
    simpa [State.probeTaken_may, State.probeTaken_allows, State.probeTaken_busy, or_assoc] using hno
  rw [State.probe, h]
  exact if_pos hstop

theorem Frame.setProbe (h : Frame cs fields words s t) (hc : .air ∈ cs) (f c : Nat) (r : ProbeRun) :
    Frame cs fields words s (t.setProbe f c r) := h.setAir hc _

theorem Frame.dropProbe (h : Frame cs fields words s t) (hc : .air ∈ cs) (f c : Nat) :
    Frame cs fields words s (t.dropProbe f c) := h.setAir hc _

/-- A matched probe: what was sent stays sent, the fault is clear, the port has no probe due. -/
theorem State.probeMatched_leaves (x : State) (f c : Nat) (src : Nat) :
    x.SentBy (((x.dropProbe f c).put (Reg.FRF.TXCH.FAULT f c) 0).fire src)
      ∧ (((x.dropProbe f c).put (Reg.FRF.TXCH.FAULT f c) 0).fire src).get (Reg.FRF.TXCH.FAULT f c) = 0
      ∧ Tbl.find? (((x.dropProbe f c).put (Reg.FRF.TXCH.FAULT f c) 0).fire src).air.probes (2 * f + c) = none := by
  have hair (y : State) : (y.fire src).air = y.air := by simp
  refine ⟨?_, ?_, ?_⟩
  · exact State.SentBy.fire (t := (x.dropProbe f c).put (Reg.FRF.TXCH.FAULT f c) 0) (State.SentBy.refl x) src
  · rw [State.fire_get, State.get_put_same]
    rfl
  · rw [hair]
    exact (Tbl.find?_erase _ _ _).trans (if_pos rfl)

theorem State.setProbe_leaves (x : State) (f c : Nat) (r : ProbeRun) :
    x.SentBy (x.setProbe f c r) ∧ Tbl.find? (x.setProbe f c r).air.probes (2 * f + c) = some r :=
  ⟨State.SentBy.refl x, (Tbl.find?_put _ _ _ _).trans (if_pos rfl)⟩

theorem State.cxEnd_sending (s : State) (f o : Nat) (who : Bool × Nat) :
    (s.cxEnd f o who).air.sending = s.air.sending := by
  rw [((State.PairsOnly.refl s).cxEnd f o who).air]

theorem Frame.probeSent (h : Frame cs fields words s t) (hc : .air ∈ cs) (ho : .out ∈ cs) (f c : Nat) :
    Frame cs fields words s (t.probeSent f c) :=
  ((Frame.setProbe h hc f c _).emitNow ho _).cxEnd hc ho _ _ _

theorem State.probeSent_out (s : State) (f c : Nat) : .probe f c ∈ (s.probeSent f c).out :=
  State.SentBy.cxEnd (State.SentBy.refl ((s.probeTaken f c).emitNow (.probe f c))) _ _ _
    (List.mem_append_right _ (List.mem_singleton_self _))

/-! ### Grants that drop (R92, R167) -/

theorem Frame.drawNum (h : Frame cs fields words s t) (hk : .kiln ∈ cs) (hfree : .free ∈ cs) :
    Frame cs fields words s t.drawNum.1 :=
  h.step (fun c hn => by
    cases c with
    | kiln => exact absurd hk hn
    | free => exact absurd hfree hn
    | _ => simp [Component.Same]) (by simp) (by simp)

/-- A job whose attempt failed as busy, r backoff slots later. -/
def TxJob.backedOff (j : TxJob) (m : MacForce) (r : Nat) : TxJob :=
  { j with nb := j.nb + 1, t0 := j.t0 + (r * 320000 : Nat), be := min (j.be + 1) m.maxBe
           stage := if j.key.isNone && j.cv ≠ 0 then .building else .ready }

/-- With attempts left, T0 moves by a random backoff (R167). -/
theorem State.backOff_retries {id : Nat} {j : TxJob} (h : j.nb + 1 < (s.forceOf j).maxAttempts) :
    s.backOff id j = ((s.bump Reg.MAC.BUSY_CHECKS).drawNum.1.setJob id
      (j.backedOff (s.forceOf j) ((s.bump Reg.MAC.BUSY_CHECKS).drawNum.2 % 2 ^ j.be))).cxEnd j.f j.o (false, id) :=
  if_neg (Nat.not_le.2 h)

theorem State.forceOf_cutJob (s : State) (j : TxJob) : (s.cutJob j).forceOf j = s.forceOf j := by
  have hcut : Frame [.air, .tx, .out] (tunerFields 0 0) [] s (s.cutJob j) :=
    (Frame.refl s).cutJob (by simp) (by simp) j
  exact hcut.butTuner.forceOf j

/-- A job that is replaced as its attempt ends. -/
theorem State.setJob_leaves (s : State) (id : Nat) (y : TxJob) (f o : Nat) (who : Bool × Nat) :
    ((s.setJob id y).cxEnd f o who).job? id = some y ∧ ((s.setJob id y).cxEnd f o who).air.sending = s.air.sending
      ∧ s.SentBy ((s.setJob id y).cxEnd f o who) ∧ Frame [.air, .tx, .out] [] [] s ((s.setJob id y).cxEnd f o who) := by
  have hset : s.SentBy (s.setJob id y) := State.SentBy.refl s
  refine ⟨?_, State.cxEnd_sending (s.setJob id y) f o who, hset.cxEnd f o who,
    ((Frame.refl s).setJob (by simp) id y).cxEnd (by simp) (by simp) f o who⟩
  rw [State.job?_cxEnd, State.job?_setJob, if_pos rfl]

/-- A job that is dropped as its attempt ends. -/
theorem State.dropJob_leaves (s : State) (id f o : Nat) (who : Bool × Nat) :
    ((s.dropJob id).cxEnd f o who).job? id = none ∧ s.SentBy ((s.dropJob id).cxEnd f o who)
      ∧ Frame [.air, .tx, .out] [] [] s ((s.dropJob id).cxEnd f o who) := by
  have hdrop : s.SentBy (s.dropJob id) := State.SentBy.refl s
  refine ⟨?_, hdrop.cxEnd f o who, ((Frame.refl s).dropJob (by simp) id).cxEnd (by simp) (by simp) f o who⟩
  rw [State.job?_cxEnd, State.job?_dropJob, if_pos rfl]

/-- A busy check with attempts left: the job goes on, later; BUSY_CHECKS counts. -/
theorem State.backOff_leaves {id : Nat} {j : TxJob} (h : j.nb + 1 < (s.forceOf j).maxAttempts) :
    ∃ r, r < 2 ^ j.be ∧ (s.backOff id j).job? id = some (j.backedOff (s.forceOf j) r)
      ∧ (s.backOff id j).air.sending = s.air.sending
      ∧ (s.backOff id j).stat Reg.MAC.BUSY_CHECKS = (s.stat Reg.MAC.BUSY_CHECKS + 1) % 2 ^ 32
      ∧ s.SentBy (s.backOff id j) ∧ Frame [.air, .tx, .out, .free, .kiln] [] [Reg.MAC.BUSY_CHECKS] s (s.backOff id j) := by
  have hx : Frame [.air, .tx, .out, .free, .kiln] [] [Reg.MAC.BUSY_CHECKS] s (s.bump Reg.MAC.BUSY_CHECKS).drawNum.1 :=
    ((Frame.refl s).bump (by simp)).drawNum (by simp) (by simp)
  have hair : (s.bump Reg.MAC.BUSY_CHECKS).drawNum.1.air = s.air := by simp
  have hout : (s.bump Reg.MAC.BUSY_CHECKS).drawNum.1.out = s.out := by simp
  have hstat : (s.bump Reg.MAC.BUSY_CHECKS).drawNum.1.stat Reg.MAC.BUSY_CHECKS
      = (s.stat Reg.MAC.BUSY_CHECKS + 1) % 2 ^ 32 := by simp
  obtain ⟨hjob, hsending, hsent, hframe⟩ := (s.bump Reg.MAC.BUSY_CHECKS).drawNum.1.setJob_leaves id
    (j.backedOff (s.forceOf j) ((s.bump Reg.MAC.BUSY_CHECKS).drawNum.2 % 2 ^ j.be)) j.f j.o (false, id)
  rw [State.backOff_retries h]
  exact ⟨(s.bump Reg.MAC.BUSY_CHECKS).drawNum.2 % 2 ^ j.be, Nat.mod_lt _ (Nat.two_pow_pos _), hjob,
    hsending.trans (congrArg Air.sending hair), (hframe.stat (by simp)).trans hstat,
    (State.SentBy.same (State.SentBy.refl s) hout).trans hsent,
    hx.trans (hframe.mono (by simp) (List.Subset.refl _) (by simp))⟩

/-- A dropped ack counts in ACK_BUSY. -/
theorem State.ackDropped_leaves {id g : Nat} {j : TxJob} (hk : j.kind = .ack g) (st : Status) :
    ((s.bump Reg.MAC.ACK_BUSY).failJob id j st).job? id = none
      ∧ ((s.bump Reg.MAC.ACK_BUSY).failJob id j st).stat Reg.MAC.ACK_BUSY = (s.stat Reg.MAC.ACK_BUSY + 1) % 2 ^ 32
      ∧ s.SentBy ((s.bump Reg.MAC.ACK_BUSY).failJob id j st)
      ∧ Frame [.air, .tx, .out] [] [Reg.MAC.ACK_BUSY] s ((s.bump Reg.MAC.ACK_BUSY).failJob id j st) := by
  obtain ⟨hjob, hsent, hframe⟩ := (s.bump Reg.MAC.ACK_BUSY).dropJob_leaves id j.f j.o (false, id)
  rw [State.failJob, hk]
  exact ⟨hjob, (hframe.stat (by simp)).trans ((State.stat_bump _ _ _).trans (if_pos rfl)),
    (State.SentBy.same (State.SentBy.refl s) rfl).trans hsent,
    ((Frame.refl s).bump (by simp)).trans (hframe.mono (List.Subset.refl _) (List.Subset.refl _) (by simp))⟩

theorem State.cutJob_leaves (s : State) (j : TxJob) : .airCut j.f j.o (s.jobFrame j) ∈ (s.cutJob j).out
    ∧ (s.cutJob j).air.sending = s.air.sending.erase (j.f, j.o, j.grid, decide (j.rate = 0))
    ∧ Frame [.air, .out] [] [] s (s.cutJob j) := by
  refine ⟨?_, ?_, (Frame.refl s).cutJob (by simp) (by simp) j⟩
  · rw [State.cutJob_out]
    exact List.mem_append_right _ (List.mem_singleton_self _)
  · rw [State.cutJob_eq, State.emitNow, State.leaveAir_sending]

end

end Sys2Proof.Machine

/-! CERTIFICATE. Mismatches, probes and grants that drop, clause by clause (R85, R86, R92). -/

namespace Sys2Proof.Machine

/-! ### Mismatches (R85) -/

theorem exec_txMismatch {s : State} {f : Fin 6} {c : Fin 2} {i : Nat} {x : TxJob} (hd : s.dieUp f = true)
    (hx : (i, x) ∈ s.onPort f c) : exec (.txMismatch f c) s = .next (s.mismatch f c) := by
  have hsome : (s.onAirOf fun j => j.f = f.val && j.o = 96 + c.val).isEmpty = false :=
    List.isEmpty_eq_false_iff_exists_mem.2 ⟨_, hx⟩
  exact congrArg Host.Outcome.next (State.when_of (by simp [hd, hsome]) _)

theorem State.mismatch_frame (s : State) (f c : Nat) : Frame (.air :: .tx :: .cask :: .tun :: .node :: signalled)
    ([Reg.FRF.TXCH.FAULT f c, Reg.FRF.TXCH.ABORTS f c] ++ parityFields) downWords s (s.mismatch f c) := by
  have hcut := (Frame.refl s).cutAll (cs := endCs) (fields := [Reg.FRF.TXCH.FAULT f c, Reg.FRF.TXCH.ABORTS f c]
    ++ parityFields) (words := downWords) (List.Subset.refl _) (List.subset_append_right _ _) (List.subset_cons_self _ _)
    (s.onPort f c)
  rw [State.mismatch_eq]
  exact ((hcut.incSat (by simp)).setProbe (by simp [endCs]) f c _).raise (by decide) (by simp) (by decide) f 4

/-- ABORTS and FAULT after a mismatch. -/
theorem State.mismatch_flags (s : State) (f : Fin 6) (c : Fin 2) :
    (s.mismatch f c).get (Reg.FRF.TXCH.FAULT f c) = 1
      ∧ (s.mismatch f c).get (Reg.FRF.TXCH.ABORTS f c) = min (s.get (Reg.FRF.TXCH.ABORTS f c) + 1) 255 % 256 := by
  have hcut := (Frame.refl s).cutAll (cs := endCs) (fields := parityFields) (words := parityWords) (List.Subset.refl _)
    (List.Subset.refl _) (List.Subset.refl _) (s.onPort f c)
  have hstands : (s.each (s.onPort f c) State.cutFail).get (Reg.FRF.TXCH.ABORTS f c)
      = s.get (Reg.FRF.TXCH.ABORTS f c) := by
    refine hcut.get fun x hx => ?_
    simp only [parityFields, List.mem_cons, List.not_mem_nil, or_false] at hx
    rcases hx with rfl | rfl | rfl <;>
      simp only [Reg.NODE.PERR.INDEX, Reg.SAFE.LOG_CTL.IN_USE, Reg.SAFE.LOG_CTL.LOST, Reg.FRF.TXCH.ABORTS] <;> omega
  have hcount : ((s.each (s.onPort f c) State.cutFail).countAbort f c).get (Reg.FRF.TXCH.ABORTS f c)
      = min (s.get (Reg.FRF.TXCH.ABORTS f c) + 1) 255 := by
    rw [← hstands]
    exact (State.get_incSat _ _ _).trans (if_pos rfl)
  rw [State.mismatch_eq, State.raise_get, State.raise_get, State.get_put_same, State.get_put_other, hcount]
  · exact ⟨rfl, by omega⟩
  · simp only [Reg.FRF.TXCH.FAULT, Reg.FRF.TXCH.ABORTS]; omega

theorem exec_txMismatch_leaves {s : State} {f : Fin 6} {c : Fin 2} {i : Nat} {x : TxJob} (hd : s.dieUp f = true)
    (hwf : Tbl.wf s.tx.jobs = true) (hi : s.job? i = some x) (ha : x.stage = .onAir) (hf : x.f = f.val)
    (ho : x.o = 96 + c.val) : ∃ t, exec (.txMismatch f c) s = .next t ∧ t.get (Reg.FRF.TXCH.FAULT f c) = 1
      ∧ t.get (Reg.FRF.TXCH.ABORTS f c) = min (s.get (Reg.FRF.TXCH.ABORTS f c) + 1) 255 % 256
      ∧ t.pends (324 + 32 * f.val) ∧ Output.airCut f.val (96 + c.val) (s.jobFrame x) ∈ t.out ∧ t.job? i = none
      ∧ (∀ n y, s.job? n = some y → y.stage = .onAir → (y.f ≠ f.val ∨ y.o ≠ 96 + c.val) → t.job? n = some y)
      ∧ Frame (.air :: .tx :: .cask :: .tun :: .node :: signalled) ([Reg.FRF.TXCH.FAULT f c, Reg.FRF.TXCH.ABORTS f c]
          ++ parityFields) downWords s t := by
  have hmem : (i, x) ∈ s.onPort f c := State.mem_onPort.2 ⟨Tbl.mem_of_find? hi, ha, hf, ho⟩
  obtain ⟨hfault, haborts⟩ := s.mismatch_flags f c
  obtain ⟨-, hgone, hair, -, hcut⟩ := State.cutAll_leaves (s.onPort f c) hwf
  have hjob (n : Nat) : (s.mismatch f c).job? n = (s.each (s.onPort f c) State.cutFail).job? n := by
    rw [State.mismatch_eq]
    exact State.job?_of_tx (State.raise_tx _ _ _ _) n
  refine ⟨_, exec_txMismatch hd hmem, hfault, haborts, ?_, ?_, (hjob i).trans (hgone _ hmem), fun n y hy hya hyp => ?_,
    s.mismatch_frame f c⟩
  · rw [show 324 + 32 * f.val = dieSource f 4 by unfold dieSource; omega, State.mismatch_eq]
    exact State.fireDie_pends _ f.isLt (by omega)
  · rw [State.mismatch_eq]
    refine State.raise_sent _ _ _ _ ?_
    have := hcut _ hmem
    rwa [hf, ho] at this
  · refine (hjob n).trans (hair n y hy hya fun hn => ?_)
    obtain ⟨⟨m, z⟩, he, rfl⟩ := List.mem_map.1 hn
    obtain ⟨hz, -, hzf, hzo⟩ := State.mem_onPort.1 he
    obtain rfl := Option.some.inj ((Tbl.find?_of_mem hwf hz).symm.trans hy)
    exact hyp.elim (· hzf) (· hzo)

/-! ### Probes (R86) -/

theorem exec_txProbe {s : State} {f : Fin 6} {c : Fin 2} (hl : s.live = true) (hd : s.dieUp f = true)
    (hon : s.on (Reg.FRF.TXCH.FAULT f c) = true) (fw rv : Nat) (granted : Bool) :
    exec (.txProbe f c fw rv granted) s = .next (s.probe f c (withinThree fw rv) granted) :=
  congrArg Host.Outcome.next (State.when_of (by simp [hl, hd, hon]) _)

theorem exec_txProbe_matched {s : State} {f : Fin 6} {c : Fin 2} {fw rv : Nat} {granted : Bool} (hm : 4 * rv ≤ fw)
    (hl : s.live = true) (hd : s.dieUp f = true) (hon : s.on (Reg.FRF.TXCH.FAULT f c) = true)
    (hlook : s.lookContacts = s) (hmay : s.mayRadiate = true) (hbusy : s.probeBusy f c = false)
    (hcx : s.cxAllows f (96 + c) granted = true) :
    ∃ t, exec (.txProbe f c fw rv granted) s = .next t ∧ Output.probe f c ∈ t.out
      ∧ t.get (Reg.FRF.TXCH.FAULT f c) = 0 ∧ t.pends (324 + 32 * f.val)
      ∧ Tbl.find? t.air.probes (2 * f + c) = none
      ∧ Frame (.air :: signalled) [Reg.FRF.TXCH.FAULT f c] alarmWords s t := by
  have hprobe : s.probe f c (withinThree fw rv) granted
      = (((s.probeSent f c).dropProbe f c).put (Reg.FRF.TXCH.FAULT f c) 0).fire (dieSource f 4) := by
    rw [State.probe_made hlook hmay hbusy hcx, withinThree, decide_eq_true hm, State.probeDone_matched]
  obtain ⟨hsent, hfault, hprobes⟩ := (s.probeSent f c).probeMatched_leaves f c (dieSource f 4)
  refine ⟨_, (exec_txProbe hl hd hon fw rv granted).trans (congrArg _ hprobe), hsent (s.probeSent_out f c), hfault, ?_,
    hprobes, ?_⟩
  · rw [show 324 + 32 * f.val = dieSource f 4 by unfold dieSource; omega]
    exact State.fireDie_pends _ f.isLt (by omega)
  · exact ((((Frame.refl s).probeSent (by simp) (by simp [signalled]) f c).dropProbe (by simp) f c).put (by simp) 0).fire
      signalled_air (List.Subset.refl _) _

theorem exec_txProbe_unmatched {s : State} {f : Fin 6} {c : Fin 2} {fw rv : Nat} {granted : Bool} (hm : fw < 4 * rv)
    (hl : s.live = true) (hd : s.dieUp f = true) (hon : s.on (Reg.FRF.TXCH.FAULT f c) = true)
    (hlook : s.lookContacts = s) (hmay : s.mayRadiate = true) (hbusy : s.probeBusy f c = false)
    (hcx : s.cxAllows f (96 + c) granted = true) :
    ∃ t, exec (.txProbe f c fw rv granted) s = .next t ∧ Output.probe f c ∈ t.out
      ∧ Tbl.find? t.air.probes (2 * f + c)
          = some ⟨min 64 (2 * (Tbl.getD s.air.probes (2 * f + c) ⟨1, false⟩).interval), false⟩
      ∧ Frame [.air, .out] [] [] s t := by
  have hprobe : s.probe f c (withinThree fw rv) granted
      = (s.probeSent f c).setProbe f c ⟨min 64 (2 * (s.probeRun f c).interval), false⟩ := by
    rw [State.probe_made hlook hmay hbusy hcx, withinThree, decide_eq_false (Nat.not_le.2 hm), State.probeDone_unmatched]
  obtain ⟨hsent, hnext⟩ := (s.probeSent f c).setProbe_leaves f c ⟨min 64 (2 * (s.probeRun f c).interval), false⟩
  exact ⟨_, (exec_txProbe hl hd hon fw rv granted).trans (congrArg _ hprobe), hsent (s.probeSent_out f c), hnext,
    ((Frame.refl s).probeSent (by simp) (by simp) f c).setProbe (by simp) f c _⟩

theorem exec_txProbe_dropped {s : State} {f : Fin 6} {c : Fin 2} {granted : Bool} (fw rv : Nat) (hl : s.live = true)
    (hd : s.dieUp f = true) (hon : s.on (Reg.FRF.TXCH.FAULT f c) = true) (hlook : s.lookContacts = s)
    (hno : s.mayRadiate = false ∨ s.probeBusy f c = true ∨ s.cxAllows f (96 + c) granted = false) :
    ∃ t, exec (.txProbe f c fw rv granted) s = .next t ∧ t.air.sending = s.air.sending
      ∧ (∀ f' c', Output.probe f' c' ∈ t.out → Output.probe f' c' ∈ s.out) ∧ Frame [.air, .out] [] [] s t := by
  have hpairs := (State.PairsOnly.refl (s.probeTaken f c)).cxEnd f (96 + c) (true, c)
  refine ⟨_, (exec_txProbe hl hd hon fw rv granted).trans (congrArg _ (State.probe_dropped hlook hno _)),
    State.cxEnd_sending (s.probeTaken f c) _ _ _, fun f' c' hm => ?_,
    (Frame.setProbe (Frame.refl s) (by simp) f c _).cxEnd (by simp) (by simp) _ _ _⟩
  rcases hpairs.coex _ hm with hm | ⟨_, _, _, he⟩
  · exact hm
  · cases he

/-- A channel of the port in a contact's window, or a LISTEN context without a source, holds a probe back. -/
theorem State.probeBusy_of {s : State} {f c : Nat} (h : s.sourceUp f (s.get (Reg.TX.OUT.LISTEN f (96 + c))) = false
      ∨ s.contactBlocks f (96 + c) (s.get (Reg.TX.GRID f (96 + c)) + 15) 1 (s.meshNs + 20000) = true
      ∨ s.contactBlocks f (96 + c) (s.get (Reg.TX.GRID f (96 + c)) + 16) 1 (s.meshNs + 20000) = true) :
    s.probeBusy f c = true := by
  unfold State.probeBusy
  rcases h with h | h | h
  · simp [h]
  · simp [h]
  · simp [h]

theorem exec_txFaultWrite {s : State} {f : Fin 6} {c : Fin 2} (h : s.hostUp = true) (hd : s.dieUp f = true)
    (hon : s.on (Reg.FRF.TXCH.FAULT f c) = true) :
    ∃ t p, exec (.txFaultWrite f c) s = .next t ∧ Tbl.find? t.air.probes (2 * f + c) = some p ∧ p.nextSlot = true
      ∧ Frame [.air, .safe] [] [] s t := by
  have hoff : dieOfOffset (dieOffset f (0x80040 + c * 0x10)) = some f.val := dieOfOffset_die f.isLt (by omega)
  have hput (x : State) (hx : x.on (Reg.FRF.TXCH.FAULT f c) = true) :
      x.probeNext f c = x.setProbe f c { x.probeRun f c with nextSlot := true } := if_pos hx
  refine ⟨_, { s.probeRun f c with nextSlot := true },
    congrArg Host.Outcome.next ((State.hostWriteReg_die h hoff hd _ _).trans (hput _ ?_)),
    (Tbl.find?_put _ _ _ _).trans (if_pos rfl), rfl,
    ((Frame.refl s).recorded (by simp) _).setProbe (by simp) f c _⟩
  rwa [State.recorded_on]

/-! ### Grants that drop (R92) -/

theorem exec_cxgntDrop {s : State} {f : Fin 6} {n : Fin 4} {id : Nat} {j : TxJob} (hd : s.dieUp f = true)
    (hen : s.on (Reg.FRF.CX.EN f n) = true) (hrole : s.on (Reg.FRF.CX.ROLE f n) = false)
    (hl : (s.onAirOf fun j => j.f = f.val && s.guards f n j.o) = [(id, j)]) :
    exec (.cxgntDrop f n) s = .next (match j.kind with
      | .down => (s.cutJob j).backOff id j
      | .wake => (s.cutJob j).backOff id j
      | .ack _ => ((s.cutJob j).bump Reg.MAC.ACK_BUSY).failJob id j .channelBusyTimeout
      | _ => (s.cutJob j).backOff id { j with kind := .down }) := by
  refine congrArg Host.Outcome.next ((State.when_of (by simp [hd, hen, hrole]) _).trans ?_)
  rw [State.grantLost, hl]
  rfl

theorem State.guarded_die {s : State} {f n id : Nat} {j : TxJob}
    (hl : (s.onAirOf fun j => j.f = f && s.guards f n j.o) = [(id, j)]) : j.f = f := by
  have hm : (id, j) ∈ s.onAirOf fun j => j.f = f && s.guards f n j.o := hl ▸ List.mem_singleton_self _
  simpa using (Bool.and_eq_true_iff.1 (Bool.and_eq_true_iff.1 (List.mem_filter.1 hm).2).2).1

theorem exec_cxgntDrop_down {s : State} {f : Fin 6} {n : Fin 4} {id : Nat} {j : TxJob} (hd : s.dieUp f = true)
    (hen : s.on (Reg.FRF.CX.EN f n) = true) (hrole : s.on (Reg.FRF.CX.ROLE f n) = false)
    (hl : (s.onAirOf fun j => j.f = f.val && s.guards f n j.o) = [(id, j)]) (hk : j.kind = .down)
    (hnb : j.nb + 1 < (s.forceOf j).maxAttempts) :
    ∃ t r, exec (.cxgntDrop f n) s = .next t ∧ r < 2 ^ j.be ∧ Output.airCut f.val j.o (s.jobFrame j) ∈ t.out
      ∧ t.job? id = some (j.backedOff (s.forceOf j) r)
      ∧ t.air.sending = s.air.sending.erase (j.f, j.o, j.grid, decide (j.rate = 0))
      ∧ t.stat Reg.MAC.BUSY_CHECKS = (s.stat Reg.MAC.BUSY_CHECKS + 1) % 2 ^ 32
      ∧ Frame [.air, .tx, .out, .free, .kiln] [] [Reg.MAC.BUSY_CHECKS] s t := by
  obtain ⟨hcut, hsending, hframe⟩ := s.cutJob_leaves j
  obtain ⟨r, hr, hjob, hkept, hstat, hsent, hback⟩ :=
    State.backOff_leaves (s := s.cutJob j) (id := id) (by rwa [State.forceOf_cutJob])
  rw [State.forceOf_cutJob] at hjob
  rw [State.guarded_die hl] at hcut
  refine ⟨_, r, (exec_cxgntDrop hd hen hrole hl).trans (by rw [hk]), hr, hsent hcut, hjob, hkept.trans hsending, ?_,
    (hframe.mono (by simp) (List.Subset.refl _) (by simp)).trans hback⟩
  rw [hstat, hframe.stat (by simp)]

theorem exec_cxgntDrop_ack {s : State} {f : Fin 6} {n : Fin 4} {id g : Nat} {j : TxJob} (hd : s.dieUp f = true)
    (hen : s.on (Reg.FRF.CX.EN f n) = true) (hrole : s.on (Reg.FRF.CX.ROLE f n) = false)
    (hl : (s.onAirOf fun j => j.f = f.val && s.guards f n j.o) = [(id, j)]) (hk : j.kind = .ack g) :
    ∃ t, exec (.cxgntDrop f n) s = .next t ∧ Output.airCut f.val j.o (s.jobFrame j) ∈ t.out ∧ t.job? id = none
      ∧ t.stat Reg.MAC.ACK_BUSY = (s.stat Reg.MAC.ACK_BUSY + 1) % 2 ^ 32
      ∧ Frame [.air, .tx, .out] [] [Reg.MAC.ACK_BUSY] s t := by
  obtain ⟨hcut, -, hframe⟩ := s.cutJob_leaves j
  obtain ⟨hjob, hstat, hsent, hdrop⟩ :=
    State.ackDropped_leaves (s := s.cutJob j) (id := id) hk .channelBusyTimeout
  rw [State.guarded_die hl] at hcut
  refine ⟨_, (exec_cxgntDrop hd hen hrole hl).trans (by rw [hk]), hsent hcut, hjob, ?_,
    (hframe.mono (by simp) (List.Subset.refl _) (by simp)).trans hdrop⟩
  rw [hstat, hframe.stat (by simp)]

end Sys2Proof.Machine

/-! SUPPORT. Starts of frames, the end of the copies of a downlink and its acknowledgement (R78, R83, R160, R175, R179,
R180). -/

namespace Sys2Proof.Machine

section
variable {s t : State}

/-! ### Starts (R160) -/

/-- A cleared job is on air, its channel sent on. -/
def State.onAirNow (s : State) (id : Nat) (j : TxJob) : State :=
  { s.setJob id { j with stage := .onAir } with
    air := { s.air with sending := (j.f, j.o, j.grid, decide (j.rate = 0)) :: s.air.sending } }

/-- The samples of a job, as they go out. -/
def State.airOutput (s : State) (j : TxJob) : Output :=
  .air j.f j.o j.grid j.rate j.t0.toNat (s.txLevel j) (s.jobFrame j) (s.jobWave j)

/-- The count of a kind of transmission. -/
def State.countStart (s : State) (k : JobKind) : State :=
  match k with
  | .ack _ => s.bump Reg.MAC.ACK_SENT
  | .wake => s.bump Reg.MAC.WAKES
  | _ => s

theorem State.startJob_eq (s : State) (id : Nat) (j : TxJob) :
    s.startJob id j = ((s.onAirNow id j).emitNow ((s.onAirNow id j).airOutput j)).countStart j.kind := rfl

theorem State.countStart_frame (s : State) (k : JobKind) :
    Frame [] [] [Reg.MAC.WAKES, Reg.MAC.ACK_SENT] s (s.countStart k) := by
  unfold State.countStart
  split
  · exact (Frame.refl s).bump (by simp)
  · exact (Frame.refl s).bump (by simp)
  · exact Frame.refl s

theorem State.onAirNow_frame (s : State) (id : Nat) (j : TxJob) : Frame [.air, .tx] [] [] s (s.onAirNow id j) :=
  ((Frame.refl s).setJob (by simp) id { j with stage := .onAir }).setAir (by simp) _

/-- What a start leaves: the job on air and no other changed, one output, one channel more. -/
theorem State.startJob_leaves (s : State) (id : Nat) (j : TxJob) :
    (s.startJob id j).job? id = some { j with stage := .onAir } ∧ (∀ n, n ≠ id → (s.startJob id j).job? n = s.job? n)
      ∧ (s.startJob id j).out = s.out ++ [s.airOutput j]
      ∧ (s.startJob id j).air.sending = (j.f, j.o, j.grid, decide (j.rate = 0)) :: s.air.sending
      ∧ Frame [.air, .tx, .out] [] [Reg.MAC.WAKES, Reg.MAC.ACK_SENT] s (s.startJob id j) := by
  have hcount := ((s.onAirNow id j).emitNow ((s.onAirNow id j).airOutput j)).countStart_frame j.kind
  have htx : (s.startJob id j).tx = (s.onAirNow id j).tx := hcount.same (c := .tx) (by simp)
  have hair : (s.startJob id j).air = (s.onAirNow id j).air := hcount.same (c := .air) (by simp)
  have hout : (s.startJob id j).out = (s.onAirNow id j).out ++ [(s.onAirNow id j).airOutput j] :=
    hcount.same (c := .out) (by simp)
  have hjob (n : Nat) : (s.startJob id j).job? n = if n = id then some { j with stage := .onAir } else s.job? n :=
    (State.job?_of_tx htx n).trans (s.job?_setJob id _ n)
  refine ⟨by rw [hjob, if_pos rfl], fun n hn => by rw [hjob, if_neg hn], hout, by rw [hair]; rfl, ?_⟩
  rw [State.startJob_eq]
  exact ((((s.onAirNow_frame id j).mono (by simp) (List.Subset.refl _) (by simp)).emitNow (by simp) _)).trans
    (hcount.mono (by simp) (List.Subset.refl _) (List.Subset.refl _))

theorem State.startJob_wakes (s : State) (id : Nat) {j : TxJob} (hk : j.kind = .wake) :
    (s.startJob id j).stat Reg.MAC.WAKES = (s.stat Reg.MAC.WAKES + 1) % 2 ^ 32 := by
  rw [State.startJob_eq, hk]
  exact (State.stat_bump _ _ _).trans (if_pos rfl)

theorem State.startJob_acks (s : State) (id : Nat) {g : Nat} {j : TxJob} (hk : j.kind = .ack g) :
    (s.startJob id j).stat Reg.MAC.ACK_SENT = (s.stat Reg.MAC.ACK_SENT + 1) % 2 ^ 32 := by
  rw [State.startJob_eq, hk]
  exact (State.stat_bump _ _ _).trans (if_pos rfl)

/-! ### The end of a copy (R180, R181) -/

/-- A downlink one of whose copies has been sent, up to a tail end. -/
def Downlink.copySent (d : Downlink) (id : Nat) (tail : Int) (m : MacForce) : Downlink :=
  { d with jobs := d.jobs.filter (· ≠ id), sent := true, status := .done, awaiting := some (tail, m)
           attempts := min 255 (d.attempts + bit !d.sent) }

theorem State.copyEnd_sent {id : Nat} {j : TxJob} {d : Downlink} (hd : s.down? j.queue = some d) (hm : id ∈ d.jobs)
    (tail : Int) : s.copyEnd id j .done (some tail) = s.attemptEnd j.queue (d.copySent id tail (s.forceOf j)) := by
  rw [State.copyEnd, hd]
  simp [hm, Downlink.copySent]

/-- The only copy of a frame that asks for an ack has been sent: its ack is awaited. -/
theorem State.attemptEnd_awaits {q : Nat} {d : Downlink} (hj : d.jobs = []) (h2 : d.second = none) (hs : d.sent = true)
    (hb : d.dst ≠ broadcast) (hack : itemAckReq d.header = true) : s.attemptEnd q d = s.setDown q d := by
  simp [State.attemptEnd, hj, h2, hs, hb, hack]

/-- Of one that asks for none: the item completes. -/
theorem State.attemptEnd_done {q : Nat} {d : Downlink} (hj : d.jobs = []) (h2 : d.second = none) (hs : d.sent = true)
    (hb : d.dst ≠ broadcast) (hack : itemAckReq d.header = false) : s.attemptEnd q d = s.completeDown q d .done := by
  simp [State.attemptEnd, hj, h2, hs, hb, hack]

/-- The first copy sent of a flooded one releases the item. -/
theorem State.attemptEnd_flooded {q : Nat} {d : Downlink} (hs : d.sent = true) (hb : d.dst = broadcast) :
    s.attemptEnd q d = s.releaseDown q d .done := if_pos ⟨hs, hb⟩

/-! ### The completion of an item (R179, R245) -/

theorem State.ring_setRing (s : State) (n : Nat) (r : RingRun) : (s.setRing n r).ring n = r := by
  simp [State.ring, State.setRing]

/-- A record whose ring has room and whose accesses the windows allow is sent (R236). -/
theorem State.record_sent {n typ : Nat} (b : List Byte) (hh : s.safe.hold = false) (ht : s.ringTakes n typ = true)
    (hroom : s.ringFill n < s.ringSize n)
    (hrec : s.firstBad true (s.get (Reg.RING.BASE.ADDR n) + (s.ring n).part % s.ringSize n * recordSize typ)
      (recordSize typ) = none)
    (hdb : s.firstBad true (s.doorbell n + 4) 4 = none) :
    Output.hostWrite s.active (s.get (Reg.RING.BASE.ADDR n) + (s.ring n).part % s.ringSize n * recordSize typ)
      (withPhase b (s.ring n).part (s.ringSize n)) ∈ (s.record n typ b).out := by
  have hsent (x : State) (r : RingRun) (a : Nat) (l : List Byte) : x.SentBy ((x.setRing n r).dmaWrite a l) :=
    State.SentBy.dmaWrite (t := x.setRing n r) (State.SentBy.refl x) a l
  rw [State.record_written b ht hroom hrec hdb]
  refine hsent _ _ _ _ ?_
  rw [State.dmaWrite_out hh]
  exact List.mem_append_right _ (List.mem_singleton_self _)

/-- Giving back a claim leaves what a record goes by. -/
theorem State.setClaimed_reads (s : State) (n k typ : Nat) (write : Bool) (a len : Nat) :
    (s.setRing n { s.ring n with claimed := k }).ringTakes n typ = s.ringTakes n typ
      ∧ (s.setRing n { s.ring n with claimed := k }).ringFill n = s.ringFill n
      ∧ ((s.setRing n { s.ring n with claimed := k }).ring n).part = (s.ring n).part
      ∧ (s.setRing n { s.ring n with claimed := k }).firstBad write a len = s.firstBad write a len := by
  refine ⟨?_, ?_, ?_, State.firstBad_of_regs (s := s) (t := s.setRing n _) rfl rfl rfl write a len⟩
  · rw [State.ringTakes, State.ring_setRing]
    rfl
  · rw [State.ringFill, State.ring_setRing]
    rfl
  · rw [State.ring_setRing]

/-- A completion whose ring has room and whose accesses the windows allow is sent (R236, R245). -/
theorem State.completeX_sent {c : CmdRef} (hh : s.safe.hold = false) (ht : s.ringTakes c.cpl 1 = true)
    (hroom : s.ringFill c.cpl < s.ringSize c.cpl)
    (hrec : s.firstBad true (s.get (Reg.RING.BASE.ADDR c.cpl) + (s.ring c.cpl).part % s.ringSize c.cpl * 16) 16 = none)
    (hdb : s.firstBad true (s.doorbell c.cpl + 4) 4 = none) (st : Status) (attempts result seq : Nat) :
    Output.hostWrite s.active (s.get (Reg.RING.BASE.ADDR c.cpl) + (s.ring c.cpl).part % s.ringSize c.cpl * 16)
        (withPhase (cplRecord c st attempts result seq) (s.ring c.cpl).part (s.ringSize c.cpl))
      ∈ (s.completeX c st attempts result seq).out := by
  have hreads (write : Bool) (a len : Nat) :=
    s.setClaimed_reads c.cpl ((s.ring c.cpl).claimed - 1) 1 write a len
  obtain ⟨htakes, hfill, hpart, -⟩ := hreads true 0 0
  have hrecord := State.record_sent
    (s := s.setRing c.cpl { s.ring c.cpl with claimed := (s.ring c.cpl).claimed - 1 }) (n := c.cpl) (typ := 1)
    (cplRecord c st attempts result seq) hh (htakes.trans ht) (hfill ▸ hroom)
    (by rw [hpart]; exact (hreads true _ _).2.2.2.trans hrec) ((hreads true _ _).2.2.2.trans hdb)
  rw [hpart] at hrecord
  rw [State.completeX_eq]
  exact State.SentBy.ite (State.SentBy.fire (State.SentBy.refl _) 101) (State.SentBy.refl _) hrecord

/-- What a record goes by where nothing of the rings, the windows and the registers is written. -/
theorem Frame.ringReads (h : Frame [.air, .tx, .out] [] [] s t) (n typ : Nat) : t.ring n = s.ring n
    ∧ t.ringTakes n typ = s.ringTakes n typ ∧ t.ringFill n = s.ringFill n ∧ t.ringSize n = s.ringSize n
    ∧ t.doorbell n = s.doorbell n ∧ t.active = s.active ∧ ∀ write a len, t.firstBad write a len = s.firstBad write a len := by
  have hget (g : Fld) : t.get g = s.get g := h.get (by simp)
  have hrings : t.rings = s.rings := h.same (c := .rings) (by simp)
  have hring : t.ring n = s.ring n := by rw [State.ring, hrings, State.ring]
  refine ⟨hring, ?_, ?_, ?_, ?_, hget _, State.firstBad_congr (h.same (c := .part) (by simp)) (by rw [hrings])
    fun _ _ f _ => hget f⟩
  · simp only [State.ringTakes, State.on, hget, hrings, hring]
  · simp only [State.ringFill, hget, hring]
  · simp only [State.ringSize, hget]
  · simp only [State.doorbell, hget]

/-- The completion of an item is sent before its queue is written. -/
theorem State.releaseItem_sends (s : State) (q : Nat) (st : Status) (attempts result seq : Nat) :
    (s.completeItem (s.queue q).mark st attempts result seq).SentBy (s.releaseItem q st attempts result seq) := by
  have hset (x : Queue) : (s.completeItem (s.queue q).mark st attempts result seq).SentBy
      ((s.itemDone q st attempts result seq).setQueue q x) :=
    State.SentBy.same (State.SentBy.refl _) rfl
  rw [State.releaseItem_eq]
  exact State.SentBy.ite (hset _) ((hset _).join q false)

/-- A downlink that completes: it and its item are forgotten, and the item's completion is sent (R179, R245). -/
theorem State.completeDown_leaves {q i : Nat} {d : Downlink} {x : ItemInfo} {c : CmdRef} (hh : s.safe.hold = false)
    (hi : (s.queue q).mark = i) (hx : Tbl.find? s.cask.items i = some x) (hc : x.cmd = some c)
    (ht : s.ringTakes c.cpl 1 = true) (hroom : s.ringFill c.cpl < s.ringSize c.cpl)
    (hrec : s.firstBad true (s.get (Reg.RING.BASE.ADDR c.cpl) + (s.ring c.cpl).part % s.ringSize c.cpl * 16) 16 = none)
    (hdb : s.firstBad true (s.doorbell c.cpl + 4) 4 = none) (st : Status) :
    (s.completeDown q d st).down? q = none ∧ Tbl.find? (s.completeDown q d st).tx.kept d.first = none
      ∧ Tbl.has (s.completeDown q d st).cask.items i = false ∧ ((s.completeDown q d st).queue q).sent = false
      ∧ Output.hostWrite s.active (s.get (Reg.RING.BASE.ADDR c.cpl) + (s.ring c.cpl).part % s.ringSize c.cpl * 16)
          (withPhase (cplRecord c st d.attempts (d.ctrs.headD 0) d.seq) (s.ring c.cpl).part (s.ringSize c.cpl))
        ∈ (s.completeDown q d st).out := by
  have hframe : Frame [.air, .tx, .out] [] [] s ((s.dropWaiting d).forgetDown q d) :=
    ((Frame.refl s).dropWaiting (List.Subset.refl _) d).setTx (by simp) _
  obtain ⟨hring, htakes, hfill, hsize, hslot, hactive, hbad⟩ := hframe.ringReads c.cpl 1
  have hcask : ((s.dropWaiting d).forgetDown q d).cask = s.cask := hframe.same (c := .cask) (by simp)
  have hsafe : ((s.dropWaiting d).forgetDown q d).safe = s.safe := hframe.same (c := .safe) (by simp)
  have hbase : ((s.dropWaiting d).forgetDown q d).get (Reg.RING.BASE.ADDR c.cpl) = s.get (Reg.RING.BASE.ADDR c.cpl) :=
    hframe.get (by simp)
  have hmark : (((s.dropWaiting d).forgetDown q d).queue q).mark = i := by rw [State.queue, hcask, ← hi, State.queue]
  have hsent := State.completeX_sent (s := (s.dropWaiting d).forgetDown q d) (c := c) (by rw [hsafe, hh])
    (htakes.trans ht) (by rwa [hfill, hsize]) (by rwa [hbad, hbase, hring, hsize]) (by rwa [hbad, hslot]) st d.attempts
    (d.ctrs.headD 0) d.seq
  rw [hactive, hbase, hring, hsize] at hsent
  have hitem : ((s.dropWaiting d).forgetDown q d).completeItem i st d.attempts (d.ctrs.headD 0) d.seq
      = ((s.dropWaiting d).forgetDown q d).completeX c st d.attempts (d.ctrs.headD 0) d.seq := by
    rw [State.completeItem, hcask, hx, Option.bind_some, hc]
  obtain ⟨hgone, hidle⟩ := ((s.dropWaiting d).forgetDown q d).releaseItem_item q st d.attempts (d.ctrs.headD 0) d.seq
  have hsends := ((s.dropWaiting d).forgetDown q d).releaseItem_sends q st d.attempts (d.ctrs.headD 0) d.seq
  rw [hmark] at hgone hsends
  rw [hitem] at hsends
  rw [State.completeDown, State.releaseDown_eq]
  refine ⟨?_, ?_, hgone, hidle, hsends hsent⟩
  · rw [State.down?, State.releaseItem_tx]
    exact (Tbl.find?_erase _ _ _).trans (if_pos rfl)
  · rw [State.releaseItem_tx]
    refine (Tbl.find?_erase _ _ _).trans ?_
    split
    · rfl
    · exact (Tbl.find?_erase _ _ _).trans (if_pos rfl)

/-! ### Rewinding (R180) -/

/-- A downlink none of whose copies runs is rewound. -/
theorem State.rewindDown_leaves (s : State) (q : Nat) {d : Downlink} (hj : d.jobs = []) :
    (s.rewindDown q d).down? q = none
      ∧ Tbl.find? (s.rewindDown q d).tx.kept d.first
          = some { d with jobs := [], sent := false, awaiting := none, second := none }
      ∧ ((s.rewindDown q d).queue q).head = (s.queue q).mark
      ∧ ((s.rewindDown q d).queue q).count = (s.queue q).count + 1 ∧ ((s.rewindDown q d).queue q).sent = false
      ∧ (s.rewindDown q d).stat Reg.SCHED.REWINDS = (s.stat Reg.SCHED.REWINDS + 1) % 2 ^ 32
      ∧ Frame (.tx :: .cask :: .tun :: .node :: signalled) parityFields downWords s (s.rewindDown q d) := by
  let x : State := { s with tx := { s.tx with
    downs := Tbl.erase s.tx.downs q
    kept := Tbl.put s.tx.kept d.first { d with jobs := [], sent := false, awaiting := none, second := none } } }
  have heq : s.rewindDown q d = x.rewindItem q := by
    rw [State.rewindDown, State.dropWaiting_of_no_jobs hj]
  obtain ⟨hhead, hcount, hsent⟩ := x.rewindItem_queue q
  rw [heq]
  refine ⟨?_, ?_, hhead, hcount, hsent, x.rewindItem_counts q, ?_⟩
  · rw [State.down?, State.rewindItem_tx]
    exact (Tbl.find?_erase _ _ _).trans (if_pos rfl)
  · rw [State.rewindItem_tx]
    exact (Tbl.find?_put _ _ _ _).trans (if_pos rfl)
  · exact ((Frame.refl s).setTx (by simp) x.tx).rewindItem (by decide) (List.Subset.refl _) (List.Subset.refl _) q

end

end Sys2Proof.Machine

/-! CERTIFICATE. Transmission starts, ends, mismatches and probes (R85, R86, R92, R160, R163, R167, R175, R179, R180). -/

namespace Sys2Proof.Machine

/-! ### Starts (R160) -/

theorem exec_txStart {s : State} {id : Nat} {j : TxJob} (hl : s.live = true) (hd : s.dieUp j.f = true)
    (hj : s.job? id = some j) (hat : s.atStart j = true)
    (hstage : j.stage = .cleared ∨ (j.kind = .piggyback ∧ j.stage = .building ∧ j.header ≠ [])) :
    exec (.txStart id) s = .next (s.txStart id j) := by
  show execTxStart id s = _
  rw [execTxStart, hj]
  refine congrArg Host.Outcome.next (State.when_of ?_ _)
  rcases hstage with hc | ⟨hk, hb, hh⟩
  · simp [hl, hd, hat, hc]
  · simp [hl, hd, hat, hk, hb, hh]

/-- Before its start instant nothing of a frame goes out. -/
theorem exec_txStart_early {s : State} {id : Nat} {j : TxJob} (hj : s.job? id = some j) (hat : s.atStart j = false) :
    exec (.txStart id) s = .next s := by
  show execTxStart id s = _
  rw [execTxStart, hj]
  exact congrArg Host.Outcome.next (State.when_not (by simp [hat]) _)

theorem State.txStart_cleared {s : State} {id : Nat} {j : TxJob} (hc : j.stage = .cleared) :
    s.txStart id j = if s.portFaulted j.f j.o then s.failJob id j .abortMismatch else s.startJob id j := by
  rw [State.txStart, if_neg (by simp [hc])]

/-- A piggyback whose check value has not come goes back to its queue. -/
theorem State.txStart_building {s : State} {id : Nat} {j : TxJob} {d : Downlink} (hb : j.stage = .building)
    (hd : s.down? j.queue = some d) :
    s.txStart id j = ((s.dropJob id).cxEnd j.f j.o (false, id)).rewindDown j.queue d := by
  rw [State.txStart, if_pos hb, hd]

/-! ### Ends (R160, R180) -/

theorem exec_txEnd {s : State} {id : Nat} {j : TxJob} (hl : s.live = true) (hj : s.job? id = some j)
    (ha : j.stage = .onAir) (hend : j.lastChip + 20000 ≤ s.meshNs) (clamped : Bool) (fw rv : Nat) :
    exec (.txEnd id clamped fw rv) s = .next (s.endJob id j clamped fw rv) := by
  show execTxEnd id clamped s fw rv = _
  rw [execTxEnd, hj]
  exact congrArg Host.Outcome.next (State.when_of (by simp [hl, ha, hend]) _)

/-- The state in which a transmission ends: its clamped samples are counted. -/
def State.clampCounted (s : State) (clamped : Bool) : State := if clamped then s.bump Reg.MAC.TX_CLAMP else s

theorem State.clampCounted_frame (s : State) (clamped : Bool) : Frame [] [] [Reg.MAC.TX_CLAMP] s (s.clampCounted clamped) :=
  Frame.ite (fun _ => (Frame.refl s).bump (by simp)) fun _ => Frame.refl s

/-- A transmission has ended, and its tuner has adapted. -/
def State.txGone (s : State) (id : Nat) (j : TxJob) (clamped : Bool) (fw rv : Nat) : State :=
  (s.clampCounted clamped).offAir id j fw rv

theorem State.txGone_frame (s : State) (id : Nat) (j : TxJob) (clamped : Bool) (fw rv : Nat) :
    Frame [.air, .tx, .out] (tunerFields j.f j.o) [Reg.MAC.TX_CLAMP] s (s.txGone id j clamped fw rv) :=
  ((s.clampCounted_frame clamped).mono (by simp) (by simp) (List.Subset.refl _)).trans
    ((State.offAir_frame _ id j fw rv).mono (List.Subset.refl _) (List.Subset.refl _) (by simp))

theorem State.txGone_job (s : State) (id : Nat) (j : TxJob) (clamped : Bool) (fw rv n : Nat) :
    (s.txGone id j clamped fw rv).job? n = if n = id then none else s.job? n := by
  have htx : (s.clampCounted clamped).tx = s.tx := (s.clampCounted_frame clamped).same (c := .tx) (by simp)
  rw [State.txGone, State.offAir_job, State.job?_of_tx htx]

theorem State.txGone_down (s : State) (id : Nat) (j : TxJob) (clamped : Bool) (fw rv q : Nat) :
    (s.txGone id j clamped fw rv).down? q = s.down? q := by
  have htx : (s.clampCounted clamped).tx = s.tx := (s.clampCounted_frame clamped).same (c := .tx) (by simp)
  rw [State.txGone, State.offAir_down, State.down?_of_tx htx]

theorem State.txGone_clamps (s : State) (id : Nat) (j : TxJob) (clamped : Bool) (fw rv : Nat) :
    (s.txGone id j clamped fw rv).stat Reg.MAC.TX_CLAMP = (s.clampCounted clamped).stat Reg.MAC.TX_CLAMP :=
  (State.offAir_frame _ id j fw rv).stat (by simp)

theorem State.endJob_ack {s : State} {g : Nat} {j : TxJob} (hk : j.kind = .ack g) (id : Nat) (clamped : Bool) (fw rv : Nat) :
    s.endJob id j clamped fw rv = s.txGone id j clamped fw rv := by
  rw [State.endJob_eq, hk]
  rfl

theorem State.endJob_wake {s : State} {j : TxJob} (hk : j.kind = .wake) (id : Nat) (clamped : Bool) (fw rv : Nat) :
    s.endJob id j clamped fw rv = (s.txGone id j clamped fw rv).meetAfter id j := by
  rw [State.endJob_eq, hk]
  rfl

/-- A copy of a downlink that was sent ends its attempt or waits for the others. -/
theorem State.endJob_down {s : State} {id : Nat} {j : TxJob} {d : Downlink} (hk : j.kind = .down)
    (hd : s.down? j.queue = some d) (hm : id ∈ d.jobs) (clamped : Bool) (fw rv : Nat) :
    s.endJob id j clamped fw rv
      = (s.txGone id j clamped fw rv).attemptEnd j.queue (d.copySent id j.lastChip (s.forceOf j)) := by
  have hdown : (s.txGone id j clamped fw rv).down? j.queue = some d := (s.txGone_down id j clamped fw rv _).trans hd
  have hforce := (s.txGone_frame id j clamped fw rv).butTuner.forceOf j
  rw [State.endJob_eq, hk, ← hforce]
  exact State.copyEnd_sent hdown hm _

theorem exec_txEnd_ack {s : State} {id g fw rv : Nat} {j : TxJob} {clamped : Bool} (hl : s.live = true)
    (hj : s.job? id = some j) (ha : j.stage = .onAir) (hend : j.lastChip + 20000 ≤ s.meshNs) (hk : j.kind = .ack g) :
    ∃ t, exec (.txEnd id clamped fw rv) s = .next t ∧ t.job? id = none
      ∧ t.air.sending = s.air.sending.erase (j.f, j.o, j.grid, decide (j.rate = 0))
      ∧ (clamped = true → t.stat Reg.MAC.TX_CLAMP = (s.stat Reg.MAC.TX_CLAMP + 1) % 2 ^ 32)
      ∧ (clamped = false → t.stat Reg.MAC.TX_CLAMP = s.stat Reg.MAC.TX_CLAMP)
      ∧ (96 ≤ j.o → t.get (Reg.FRF.TXCH.TUNER_LIMIT j.f (j.o - 96))
          = bit ((Tbl.getD t.air.tuners (2 * j.f + (j.o - 96)) 0).natAbs = Config.tunerReach))
      ∧ (j.o < 96 → t.air.tuners = s.air.tuners)
      ∧ Frame [.air, .tx, .out] (tunerFields j.f j.o) [Reg.MAC.TX_CLAMP] s t := by
  have hair : (s.clampCounted clamped).air = s.air := (s.clampCounted_frame clamped).same (c := .air) (by simp)
  refine ⟨_, (exec_txEnd hl hj ha hend clamped fw rv).trans (congrArg _ (State.endJob_ack hk id clamped fw rv)), ?_, ?_,
    fun hc => ?_, fun hc => ?_, fun ho => State.adaptTuner_limit _ ho fw rv, fun ho => ?_, s.txGone_frame id j clamped fw rv⟩
  · rw [State.txGone_job, if_pos rfl]
  · rw [State.txGone, State.offAir_sending, hair]
  · rw [State.txGone_clamps, hc]
    exact (State.stat_bump _ _ _).trans (if_pos rfl)
  · rw [State.txGone_clamps, hc]
    rfl
  · rw [State.txGone, State.offAir_lane _ _ ho, hair]

theorem exec_txEnd_awaits {s : State} {id fw rv : Nat} {j : TxJob} {d : Downlink} {clamped : Bool} (hl : s.live = true)
    (hj : s.job? id = some j) (ha : j.stage = .onAir) (hend : j.lastChip + 20000 ≤ s.meshNs) (hk : j.kind = .down)
    (hd : s.down? j.queue = some d) (hjobs : d.jobs = [id]) (h2 : d.second = none) (hack : itemAckReq d.header = true)
    (hb : d.dst ≠ broadcast) :
    ∃ t, exec (.txEnd id clamped fw rv) s = .next t ∧ t.job? id = none
      ∧ t.down? j.queue = some (d.copySent id j.lastChip (s.forceOf j))
      ∧ Frame [.air, .tx, .out] (tunerFields j.f j.o) [Reg.MAC.TX_CLAMP] s t := by
  have hleft : (d.copySent id j.lastChip (s.forceOf j)).jobs = [] := by simp [Downlink.copySent, hjobs]
  have hset := State.attemptEnd_awaits (s := s.txGone id j clamped fw rv) (q := j.queue) hleft h2 rfl hb hack
  refine ⟨_, (exec_txEnd hl hj ha hend clamped fw rv).trans (congrArg _ ((State.endJob_down hk hd (by simp [hjobs]) clamped fw
    rv).trans hset)), ?_, State.down?_setDown _ _ _, (s.txGone_frame id j clamped fw rv).setDown (by simp) _ _⟩
  rw [State.job?_setDown, State.txGone_job, if_pos rfl]

/-- Where no samples were clamped the count stands. -/
theorem State.txGone_unclamped (s : State) (id : Nat) (j : TxJob) (fw rv : Nat) :
    Frame [.air, .tx, .out] (tunerFields j.f j.o) [] s (s.txGone id j false fw rv) := s.offAir_frame id j fw rv

/-- A wake burst has ended: the frame meets its node (R175). -/
theorem State.meetAfter_sends {s t : State} (h : s.ButTuner t) {id f o : Nat} {j : TxJob} {d : Downlink}
    (hd : t.down? j.queue = some d) (hfind : (s.nodeFind d.dst).2.2 = false)
    (hserve : (s.streamsFor d.dst (s.queue j.queue).slot).2.1.findSome? s.serveOf = some (f, o))
    (hcopy : s.copyError f o (itemGrid d.header) d.rate = none) :
    t.meetAfter id j = t.sendFrame .meeting j.queue { d with meets := j.nb } (s.itemPayload d.first)
      [(f, o, itemGrid d.header)]
      (s.twinFor d.cls (s.streamsFor d.dst (s.queue j.queue).slot).2.1 f o (itemGrid d.header) d.rate)
      (((j.lastChip - 1) / 2000000 + 1) * 2000000 + ((s.forceOf j).meetUs * 1000 : Nat)) := by
  have houts : ((s.streamsFor d.dst (s.queue j.queue).slot).2.1.findSome? s.serveOf).filter
      (fun p => (s.copyError p.1 p.2 (itemGrid d.header) d.rate).isNone) = some (f, o) := by
    rw [hserve, Option.filter_some, if_pos (by simp [hcopy])]
  simp only [State.meetAfter, hd, h.queue, h.streamsFor hfind, h.serveOf, h.copyError, houts, h.itemPayload, h.twinFor,
    h.forceOf]

/-! ### Acknowledgements that do not come (R180) -/

theorem exec_ackTimeout {s : State} {q : Nat} {d : Downlink} {tail : Int} {m : MacForce} (hl : s.live = true)
    (hd : s.down? q = some d) (haw : d.awaiting = some (tail, m)) (hj : d.jobs = [])
    (hend : ackWindowEnd tail m d.rate ≤ s.meshNs) : exec (.ackTimeout q) s = .next (s.ackTimeout q d m) := by
  show execAckTimeout q s = _
  simp only [execAckTimeout, hd, haw]
  exact congrArg Host.Outcome.next (State.when_of (by simp [hl, hj, hend]) _)

theorem exec_ackTimeout_early {s : State} {q : Nat} {d : Downlink} {tail : Int} {m : MacForce} (hd : s.down? q = some d)
    (haw : d.awaiting = some (tail, m)) (hend : s.meshNs < ackWindowEnd tail m d.rate) :
    exec (.ackTimeout q) s = .next s := by
  show execAckTimeout q s = _
  simp only [execAckTimeout, hd, haw]
  exact congrArg Host.Outcome.next (State.when_not (by simp [hend]) _)

/-- Settles O28: each way that a transmission starts, is cut or ends is one lemma; where the statement speaks of what follows
in the state the frame leaves behind, that state reads as the one before but for the tuner's limit. -/
theorem transmitCommands : Obligations.TransmitCommands := by
  unfold Obligations.TransmitCommands
  refine ⟨?_, ?_, ?_, ?_, ?_, ?_, ?_, ?_, ?_, ?_, ?_, ?_, ?_, ?_, ?_, ?_, ?_, ?_, ?_, ?_, ?_, ?_, ?_⟩
  · exact fun s f c i x hd hwf hi ha hf ho => exec_txMismatch_leaves hd hwf hi ha hf ho
  · exact fun s f c fw rv granted hm hl hd hon hlook hmay hbusy hcx => exec_txProbe_matched hm hl hd hon hlook hmay hbusy hcx
  · exact fun s f c fw rv granted hm hl hd hon hlook hmay hbusy hcx =>
      exec_txProbe_unmatched hm hl hd hon hlook hmay hbusy hcx
  · exact fun s f c fw rv granted hl hd hon hlook hno => exec_txProbe_dropped fw rv hl hd hon hlook hno
  · exact fun s f c h => State.probeBusy_of h
  · exact fun s f c h hd hon => exec_txFaultWrite h hd hon
  · exact fun s f n id j hd hen hrole hl hk hnb => exec_cxgntDrop_down hd hen hrole hl hk hnb
  · exact fun s f n id g j hd hen hrole hl hk => exec_cxgntDrop_ack hd hen hrole hl hk
  · intro s id j hl hd hj hc hport hat
    obtain ⟨hon, hothers, hout, hsending, hframe⟩ := s.startJob_leaves id j
    have hstart : s.txStart id j = s.startJob id j := by rw [State.txStart_cleared hc, hport]; rfl
    exact ⟨_, (exec_txStart hl hd hj hat (.inl hc)).trans (congrArg _ hstart), hon, hout, hsending,
      fun hk => s.startJob_wakes id hk, fun g hk => s.startJob_acks id hk, hothers, hframe⟩
  · exact fun s j hk => if_pos hk
  · intro s j l hk hlist
    subst hlist
    exact if_neg hk
  · intro s id j hl hd hj hc hport hat
    rw [exec_txStart hl hd hj hat (.inl hc), State.txStart_cleared hc, if_pos hport]
  · intro s id j d hl hd hj hk hb hh hat hq
    rw [exec_txStart hl hd hj hat (.inr ⟨hk, hb, hh⟩), State.txStart_building hb hq]
  · exact fun s id j hj hat => exec_txStart_early hj hat
  · exact fun s id g fw rv j clamped hl hj ha hend hk => exec_txEnd_ack hl hj ha hend hk
  · intro s id fw rv j d clamped hl hj ha hend hk hd hjobs h2 hack hb
    have hleft : d.copySent id j.lastChip (s.forceOf j) = { d with
        jobs := [], sent := true, status := .done, awaiting := (some (j.lastChip, s.forceOf j)),
        attempts := (min 255 (d.attempts + bit !d.sent)) } := by simp [Downlink.copySent, hjobs]
    rw [← hleft]
    exact exec_txEnd_awaits hl hj ha hend hk hd hjobs h2 hack hb
  · intro s id fw rv j d hl hj ha hend hk hd hjobs h2 hack hb hs
    have hleft : d.copySent id j.lastChip (s.forceOf j) = { d with
        jobs := [], sent := true, status := .done, awaiting := (some (j.lastChip, s.forceOf j)),
        attempts := (min 255 (d.attempts + 1)) } := by simp [Downlink.copySent, hjobs, hs, bit]
    have hdone := State.attemptEnd_done (s := s.txGone id j false fw rv) (q := j.queue)
      (d := d.copySent id j.lastChip (s.forceOf j)) (by rw [hleft]) h2 rfl hb hack
    rw [← hleft]
    exact ⟨_, (exec_txEnd hl hj ha hend false fw rv).trans (congrArg _ ((State.endJob_down hk hd (by simp [hjobs]) false fw
      rv).trans hdone)), by rw [State.txGone_job, if_pos rfl], s.txGone_unclamped id j fw rv⟩
  · intro s id fw rv j d hl hj ha hend hk hd hm hb hs
    have hleft : d.copySent id j.lastChip (s.forceOf j) = { d with
        jobs := (d.jobs.filter (· ≠ id)), sent := true, status := .done, awaiting := (some (j.lastChip, s.forceOf j)),
        attempts := (min 255 (d.attempts + 1)) } := by simp [Downlink.copySent, hs, bit]
    have hdone := State.attemptEnd_flooded (s := s.txGone id j false fw rv) (q := j.queue)
      (d := d.copySent id j.lastChip (s.forceOf j)) rfl hb
    rw [← hleft]
    exact ⟨_, (exec_txEnd hl hj ha hend false fw rv).trans (congrArg _ ((State.endJob_down hk hd hm false fw rv).trans
      hdone)), fun n hn => by rw [State.txGone_job, if_neg hn], by rw [State.txGone_job, if_pos rfl],
      s.txGone_unclamped id j fw rv⟩
  · intro s id fw rv j d f o hl hj ha hend hk hd hfind hserve hcopy
    have hmeets := State.meetAfter_sends (s.txGone_frame id j false fw rv).butTuner (id := id) (j := j)
      ((s.txGone_down id j false fw rv _).trans hd) hfind hserve hcopy
    exact ⟨_, (exec_txEnd hl hj ha hend false fw rv).trans (congrArg _ ((State.endJob_wake hk id false fw rv).trans hmeets)),
      by rw [State.txGone_job, if_pos rfl], s.txGone_unclamped id j fw rv⟩
  · exact fun s q i d st x c hh hi hx hc ht hroom hrec hdb =>
      ⟨_, rfl, State.completeDown_leaves hh hi hx hc ht hroom hrec hdb st⟩
  · intro s q d tail m hl hd haw hj hend hleft
    have hrewind : s.ackTimeout q d m = s.rewindDown q { d with retries := d.retries + 1, meets := 0 } := if_pos hleft
    exact ⟨_, (exec_ackTimeout hl hd haw hj hend).trans (congrArg _ hrewind),
      s.rewindDown_leaves q (d := { d with retries := d.retries + 1, meets := 0 }) hj⟩
  · intro s q d tail m hl hd haw hj hend hleft
    rw [exec_ackTimeout hl hd haw hj hend, State.ackTimeout, if_neg (Nat.not_lt.2 hleft)]
  · exact fun s q d tail m hd haw hend => exec_ackTimeout_early hd haw hend

end Sys2Proof.Machine

/-! SUPPORT. The verdict on a frame (R143, R148, R149): what sending its record and freeing its context may change, and what
its last segment leaves of the count of late tails (R147). -/

namespace Sys2Proof.Machine

section
variable {cs : List Component} {fields words : List Fld} {s t : State}

theorem Frame.setHear (h : Frame cs fields words s t) (hc : .hear ∈ cs) (x : Tbl HearEntry) :
    Frame cs fields words s { t with hear := x } :=
  h.step (fun c hn => by cases c with | hear => exact absurd hc hn | _ => rfl) rfl rfl

/-- A refresh of the hearing table writes nothing else (R210). -/
theorem Frame.hearUpdate (h : Frame cs fields words s t) (hc : .hear ∈ cs) (f src ctx rate lqi : Nat) :
    Frame cs fields words s (t.hearUpdate f src ctx rate lqi) := by
  dsimp only [State.hearUpdate]
  split
  · split
    · exact h.setHear hc _
    · exact h
  · exact h.setHear hc _

theorem Frame.freeCtx {f : Nat} (h : Frame cs fields words s t) (hc : .air ∈ cs) (hf : ctxFields f ⊆ fields) (d : Nat)
    (c : DemodCtx) : Frame cs fields words s (t.freeCtx f d c) :=
  ((h.spoil hc f c.ctx _).setAir hc _).showCtx hf

/-- The words that a verdict counts in (R148). -/
def verdictWords (f : Nat) : List Fld := [Reg.DEMOD.GOOD f, Reg.DEMOD.DECODE_FAIL f]

theorem Frame.sendRecord {f : Nat} (h : Frame cs fields words s t) (ha : .air ∈ cs) (hh : .hear ∈ cs)
    (hf : ctxFields f ⊆ fields) (hw : verdictWords f ⊆ words) (d : Nat) (c : DemodCtx) :
    Frame cs fields words s (t.sendRecord f d c) := by
  have hcounted (m : UpMsg) (ok : Bool) : Frame cs fields words s
      ((t.sendUp f m).bump (if ok then Reg.DEMOD.GOOD f else Reg.DEMOD.DECODE_FAIL f)) :=
    (h.sendUp ha f m).bump (hw (by cases ok <;> simp [verdictWords]))
  exact Frame.freeCtx (Frame.ite (fun _ => (hcounted _ _).hearUpdate hh ..) fun _ => hcounted _ _) ha hf d c

end

/-- TAIL_LATE is not a word that a verdict counts in. -/
theorem State.sendRecord_tailLate (s : State) (f d : Nat) (c : DemodCtx) :
    (s.sendRecord f d c).stat (Reg.DEMOD.TAIL_LATE f) = s.stat (Reg.DEMOD.TAIL_LATE f) :=
  ((Frame.refl s).sendRecord (cs := [.air, .hear]) (fields := ctxFields f) (words := verdictWords f) (by simp) (by simp)
    (List.Subset.refl _) (List.Subset.refl _) d c).stat
    (by simp [verdictWords, Reg.DEMOD.GOOD, Reg.DEMOD.DECODE_FAIL, Reg.DEMOD.TAIL_LATE])

/-- The last segment counts a late tail, modulo 2^32, and writes the count of late tails in no other case (R147). -/
theorem State.sendSegment_tailLate (s : State) (f d : Nat) (c : DemodCtx) (upTo : Nat) (late : Bool) (start : Nat × Nat) :
    (s.sendSegment f d c upTo true late start).stat (Reg.DEMOD.TAIL_LATE f)
      = if late then (s.stat (Reg.DEMOD.TAIL_LATE f) + 1) % 2 ^ 32 else s.stat (Reg.DEMOD.TAIL_LATE f) := by
  refine (State.sendRecord_tailLate _ f d _).trans ?_
  cases late with
  | false => rfl
  | true => exact (State.stat_bump _ _ _).trans (if_pos rfl)

/-- TRACEBACK of a context whose checks have passed decides the segment due (R148, R149). -/
theorem exec_traceback_segment {s : State} {f : Fin 6} {d : Fin 4096} {c : DemodCtx} {upTo : Nat} {last : Bool}
    {start : Nat × Nat} (hc : s.ctx? f d = some c) (hup : s.dieUp f = true) (hchecks : c.checks = 3)
    (hdue : c.segmentDue = some (upTo, last, start)) (late : Bool) :
    exec (.traceback f d late) s = .next (s.sendSegment f d c upTo last late start) := by
  change execTraceback f d late s = _
  simp [execTraceback, hc, hup, hchecks, hdue]

end Sys2Proof.Machine

/-! CERTIFICATE. The last segment of a frame where the count of late tails holds more than 32 bits. -/

namespace Sys2Proof.Machine

/-- A demodulator context whose three checks have passed, with the 238 information bits of a frame of 26 bytes advanced and
its one segment to come. -/
def DemodCtx.atTail : DemodCtx :=
  { serial := 1, rate := 1, net := 0, codeSet := 0, netId := 0, ctx := 0, w := false, chan := 0, phase := 0, ofs10Hz := 0,
    phaseRef := (1, 0), power := Frac.zero, noiseRef := 0, syncNs := 0, stamp := 0, grid := 0, marks := 0, last := 0,
    llrs := List.replicate 476 3, recent := [], reals := [], symbols := 476, energy := (0, 0, 0), snrSum := Frac.zero,
    metrics := List.replicate 64 0, decisions := List.replicate 70 0, best := [], steps := 238,
    bits := bitsOf 24 (phyHeader 26 0 false false) ++ List.replicate 144 false, checks := 3, sent := 0 }

/-- The state of reset with that context under number 0 of die 0, and 2^32 in the die's TAIL_LATE. -/
def State.wideTailLate : State :=
  { State.reset with
    air := { Air.init with ctxs := [(0, DemodCtx.atTail)] }
    stats := [((Reg.DEMOD.TAIL_LATE 0).key, 2 ^ 32)] }

/-- The context's last segment is due, at the tail. -/
theorem State.wideTailLate_due : State.wideTailLate.ctx? (0 : Fin 6) (0 : Fin 4096) = some DemodCtx.atTail
    ∧ State.wideTailLate.dieUp (0 : Fin 6) = true ∧ DemodCtx.atTail.checks = 3
    ∧ DemodCtx.atTail.segmentDue = some (238, true, (238, 0)) := by
  decide +kernel

theorem State.wideTailLate_stat : State.wideTailLate.stat (Reg.DEMOD.TAIL_LATE (0 : Fin 6)) = 2 ^ 32 := by
  decide +kernel

/-- Refutes O16: the clause on the last segment has TAIL_LATE modulo 2^32 whether the tail was late or not, and where it was
not the model leaves the word as it was, so a word that holds 2^32 (which no count gives it) still holds 2^32 and not 0. -/
theorem not_demodulatorCommands : ¬ Obligations.DemodulatorCommands := by
  unfold Obligations.DemodulatorCommands
  rintro ⟨-, -, -, -, -, -, -, -, hlast, -⟩
  obtain ⟨hctx, hup, hchecks, hdue⟩ := State.wideTailLate_due
  obtain ⟨t, _, _, hexec, -, -, -, -, -, -, -, hclaim, -⟩ :=
    hlast State.wideTailLate 0 0 false _ _ _ _ hctx hup hchecks hdue rfl
  obtain rfl := Host.Outcome.next.inj ((exec_traceback_segment hctx hup hchecks hdue false).symm.trans hexec)
  rw [State.sendSegment_tailLate, State.wideTailLate_stat] at hclaim
  exact absurd hclaim (by decide)

end Sys2Proof.Machine

/-! SUPPORT. Trackers in their tables (R132 to R135): the lowest free number of a die, a tracker taken, displaced or freed,
and what each leaves of the die's other units. -/

namespace Sys2Proof.Machine

/-! ### Free numbers of a die -/

/-- A free number that a table names is one it does not hold, of those tried. -/
theorem Tbl.lowestFree_free {α : Type} {m : Tbl α} {fuel i k : Nat} (h : Tbl.lowestFree m fuel i = some k) :
    Tbl.has m k = false ∧ i ≤ k ∧ k < i + fuel := by
  induction fuel generalizing i with
  | zero => cases h
  | succ fuel ih =>
    rw [Tbl.lowestFree] at h
    split at h
    · obtain ⟨hfree, hlo, hhi⟩ := ih h
      exact ⟨hfree, by omega, by omega⟩
    · next hno =>
      obtain rfl := Option.some.inj h
      exact ⟨Bool.eq_false_of_not_eq_true hno, by omega, by omega⟩

/-- A table that names no free number holds all that were tried. -/
theorem Tbl.has_of_lowestFree_none {α : Type} {m : Tbl α} {fuel i : Nat} (h : Tbl.lowestFree m fuel i = none) {k : Nat}
    (hlo : i ≤ k) (hhi : k < i + fuel) : Tbl.has m k = true := by
  induction fuel generalizing i with
  | zero => omega
  | succ fuel ih =>
    rw [Tbl.lowestFree] at h
    split at h
    · next hyes =>
      rcases Nat.eq_or_lt_of_le hlo with rfl | hlt
      · exact hyes
      · exact ih h (by omega) (by omega)
    · cases h

theorem Tbl.mem_keys_of_has {α : Type} {m : Tbl α} {k : Nat} (h : Tbl.has m k = true) : k ∈ m.map Prod.fst := by
  obtain ⟨v, hv⟩ := Option.isSome_iff_exists.1 h
  exact List.mem_map.2 ⟨(k, v), Tbl.mem_of_find? hv, rfl⟩

/-- A die that holds fewer than n of its n numbers has a free one. -/
theorem Tbl.lowestFree_of_room {α : Type} {m : Tbl α} {n f : Nat}
    (h : (List.filter (fun p : Nat × α => p.1 / n = f) m).length < n) :
    ∃ k, Tbl.lowestFree m n (n * f) = some k ∧ k / n = f ∧ Tbl.has m k = false := by
  have hdiv {k : Nat} (hlo : n * f ≤ k) (hhi : k < n * f + n) : k / n = f :=
    Nat.div_eq_of_lt_le (by rwa [Nat.mul_comm]) (by rwa [Nat.succ_mul, Nat.mul_comm])
  cases hfree : Tbl.lowestFree m n (n * f) with
  | some k =>
    obtain ⟨hk, hlo, hhi⟩ := Tbl.lowestFree_free hfree
    exact ⟨k, rfl, hdiv hlo hhi, hk⟩
  | none =>
    have hall : List.range' (n * f) n ⊆ (List.filter (fun p : Nat × α => p.1 / n = f) m).map Prod.fst := by
      intro k hk
      obtain ⟨hlo, hhi⟩ := List.mem_range'_1.1 hk
      obtain ⟨p, hp, rfl⟩ := List.mem_map.1 (Tbl.mem_keys_of_has (Tbl.has_of_lowestFree_none hfree hlo hhi))
      exact List.mem_map_of_mem (List.mem_filter.2 ⟨hp, decide_eq_true (hdiv hlo hhi)⟩)
    have hcount := (List.Nodup.subperm List.nodup_range' hall).length_le
    rw [List.length_range', List.length_map] at hcount
    omega

/-- A put at a number that the table does not hold adds one entry. -/
theorem Tbl.put_perm {α : Type} {m : Tbl α} {k : Nat} (h : Tbl.has m k = false) (x : α) :
    (Tbl.put m k x).Perm ((k, x) :: m) := by
  induction m with
  | nil => exact .refl _
  | cons q m ih =>
    obtain ⟨l, v⟩ := q
    have hne : l ≠ k := fun he => by simp [Tbl.has, Tbl.find?_cons, he] at h
    rw [Tbl.has, Tbl.find?_cons, if_neg hne] at h
    rw [Tbl.put, if_neg hne.symm]
    split
    · exact .refl _
    · exact ((ih h).cons _).trans (.swap ..)

theorem Tbl.length_filter_put {α : Type} {m : Tbl α} {k : Nat} (h : Tbl.has m k = false) (x : α) {p : Nat × α → Bool}
    (hp : p (k, x) = true) : (List.filter p (Tbl.put m k x)).length = (List.filter p m).length + 1 := by
  rw [((Tbl.put_perm h x).filter p).length_eq, List.filter_cons_of_pos hp, List.length_cons]

/-- An erasure keeps every entry but those of its number. -/
theorem Tbl.mem_erase {α : Type} {m : Tbl α} {i : Nat} {e : Nat × α} : e ∈ Tbl.erase m i ↔ e ∈ m ∧ e.1 ≠ i := by
  simp [Tbl.erase, List.mem_filter]

/-! ### Events that fire once (R253) -/

/-- A source that is not silent and fires is pending. -/
theorem State.fireOnce_pends {s : State} {src : Nat} (h : src ∉ s.evt.disarmed) (hlt : src < 512) :
    (s.fireOnce src).pends src := by
  rw [State.fireOnce, if_neg h]
  exact State.fire_pends _ _ _ (.inl ⟨rfl, hlt⟩)

/-! ### A tracker taken (R132) -/

/-- A tracker held under a number of the table. -/
def State.putTracker (s : State) (k : Nat) (x : Tracker) : State :=
  { s with air := { s.air with trackers := Tbl.put s.air.trackers k x } }

/-- What a candidate does where all trackers of the die are held: it displaces the weakest, if that is weaker. -/
def State.displace (s : State) (f : Nat) (x : Tracker) : State :=
  match s.weakest f with
  | some (k, old) =>
    if old.rho.lt x.rho then (s.spoil f old.ctx (.tracker old.w old.chan)).putTracker k x else s
  | none => s

section
variable {cs : List Component} {fields words : List Fld} {s t : State}

theorem Frame.putTracker (h : Frame cs fields words s t) (hc : .air ∈ cs) (k : Nat) (x : Tracker) :
    Frame cs fields words s (t.putTracker k x) := h.setAir hc _

theorem Frame.displace (h : Frame cs fields words s t) (hc : .air ∈ cs) (f : Nat) (x : Tracker) :
    Frame cs fields words s (t.displace f x) := by
  rw [State.displace]
  split
  · exact Frame.ite (fun _ => (h.spoil hc f _ _).putTracker hc _ _) fun _ => h
  · exact h

theorem Frame.trackFull {f : Nat} (h : Frame cs fields words s t) (hc : signalled ⊆ cs) (hw : alarmWords ⊆ words)
    (hfull : Reg.STEEP.TRACK_FULL f ∈ words) : Frame cs fields words s (t.trackFull f) :=
  (h.bump hfull).fireOnce hc hw _

theorem Frame.freeTracker {f : Nat} (h : Frame cs fields words s t) (hc : .air ∈ cs) (hf : trackFields f ⊆ fields)
    (k : Nat) (x : Tracker) : Frame cs fields words s (t.freeTracker f k x) :=
  ((h.spoil hc f x.ctx _).setAir hc _).showTrack hf

/-- A match that frees the other trackers of its channel counts each at its own rate. -/
theorem Frame.cancelOthers {f : Nat} (h : Frame cs fields words s t) (hc : .air ∈ cs)
    (hw : ∀ e ∈ t.air.trackers, Reg.STEEP.CANCELLED f e.2.rate ∈ words) (k : Nat) (x : Tracker) :
    Frame cs fields words s (t.cancelOthers f k x) :=
  ((h.each fun e he y => (Frame.refl y).bump (hw e (List.mem_filter.1 he).1)).each
    fun _ _ y => (Frame.refl y).spoil hc f _ _).setAir hc _

end

/-- With a tracker free the candidate takes it, and STEEP.TRACK counts it. -/
theorem State.takeTracker_free {s : State} {f : Nat} (h : (s.trackersOn f).length < 2048) (x : Tracker) :
    ∃ k, k / 2048 = f ∧ Tbl.has s.air.trackers k = false ∧ s.takeTracker f x = (s.putTracker k x).showTrack f := by
  obtain ⟨k, hk, hdie, hfree⟩ := Tbl.lowestFree_of_room h
  refine ⟨k, hdie, hfree, ?_⟩
  rw [State.takeTracker, if_pos h, hk]
  rfl

/-- With none free the candidate displaces the weakest or is dropped, and TRACK_FULL is raised either way. -/
theorem State.takeTracker_full {s : State} {f : Nat} (h : 2048 ≤ (s.trackersOn f).length) (x : Tracker) :
    s.takeTracker f x = (s.displace f x).trackFull f := by
  rw [State.takeTracker, if_neg (by omega), State.displace]
  cases s.weakest f with
  | none => rfl
  | some e => exact (apply_ite (fun y : State => y.trackFull f) _ _ _).symm

/-- STEEP.TRACK of a die that takes one more tracker shows one more. -/
theorem State.putTracker_shows {s : State} {f k : Nat} (hdie : k / 2048 = f) (hfree : Tbl.has s.air.trackers k = false)
    (hroom : (s.trackersOn f).length < 2048) (x : Tracker) :
    ((s.putTracker k x).showTrack f).get (Reg.STEEP.TRACK.IN_USE f) = (s.trackersOn f).length + 1 := by
  have hcount : ((s.putTracker k x).trackersOn f).length = (s.trackersOn f).length + 1 :=
    Tbl.length_filter_put hfree x (decide_eq_true hdie)
  rw [State.showTrack, State.showUse, State.get_put_other _ _ _ _
    (by simp [Reg.STEEP.TRACK.IN_USE, Reg.STEEP.TRACK.PEAK]), State.get_put_same, hcount]
  exact Nat.mod_eq_of_lt (by simp only [Reg.STEEP.TRACK.IN_USE]; omega)

@[simp] theorem State.showTrack_air (s : State) (f : Nat) : (s.showTrack f).air = s.air := by simp [State.showTrack]

@[simp] theorem State.trackFull_air (s : State) (f : Nat) : (s.trackFull f).air = s.air := by simp [State.trackFull]

theorem State.trackFull_pends {s : State} {f : Nat} (hf : f < 6) (h : dieSource f 8 ∉ s.evt.disarmed) :
    (s.trackFull f).pends (dieSource f 8) := State.fireOnce_pends (by simpa using h) (dieSource_lt hf (by omega))

/-- A word of a field die is none of those that alarm datagrams count in. -/
theorem alarmWords_apart {g : Fld} (hg : 0x8800000 ≤ g.key) : ∀ x ∈ alarmWords, x.key ≠ g.key := by
  simp only [alarmWords, List.mem_cons, forall_eq_or_imp, forall_eq, List.not_mem_nil, or_false, Reg.ETH.PRIV_SENT,
    Reg.ETH.FP_DROP]
  omega

theorem State.trackFull_counts (s : State) (f : Nat) : (s.trackFull f).stat (Reg.STEEP.TRACK_FULL f)
    = (s.stat (Reg.STEEP.TRACK_FULL f) + 1) % 2 ^ 32 := by
  rw [State.trackFull, State.fireOnce_stat _ _ _ (alarmWords_apart (by simp only [Reg.STEEP.TRACK_FULL]; omega)),
    State.stat_bump, if_pos rfl]

/-! ### The ρ that trackers compute (R132) -/

theorem State.takeRhos_cons (s : State) (f : Nat) (e : Fin 2048 × Frac) (l : List (Fin 2048 × Frac)) :
    s.takeRhos f (e :: l) = (s.takeRhos f [e]).takeRhos f l := rfl

/-- One ρ reported writes its tracker, where that is held and not frozen. -/
theorem State.takeRhos_single {s : State} {f : Nat} {k : Fin 2048} {x : Tracker}
    (h : Tbl.find? s.air.trackers (2048 * f + k) = some x) (rho : Frac) :
    s.takeRhos f [(k, rho)] = if x.frozen then s else s.putTracker (2048 * f + k) { x with rho := rho } := by
  simp only [State.takeRhos, State.each_cons, State.each_nil, h]
  rfl

theorem State.takeRhos_none {s : State} {f : Nat} {k : Fin 2048} (h : Tbl.find? s.air.trackers (2048 * f + k) = none)
    (rho : Frac) : s.takeRhos f [(k, rho)] = s := by
  simp only [State.takeRhos, State.each_cons, State.each_nil, h]

/-- The ρ reported write trackers alone. -/
theorem State.takeRhos_eq (s : State) (f : Nat) (l : List (Fin 2048 × Frac)) :
    s.takeRhos f l = { s with air := { s.air with trackers := (s.takeRhos f l).air.trackers } } := by
  induction l generalizing s with
  | nil => rfl
  | cons e l ih =>
    rw [State.takeRhos_cons, ih]
    cases h : Tbl.find? s.air.trackers (2048 * f + e.1) with
    | none => rw [State.takeRhos_none h]
    | some x => rw [State.takeRhos_single h]; split <;> rfl

/-- They read trackers alone: a count before them is a count after them. -/
theorem State.takeRhos_bump (s : State) (c : Fld) (f : Nat) (l : List (Fin 2048 × Frac)) :
    (s.bump c).takeRhos f l = (s.takeRhos f l).bump c := by
  induction l generalizing s with
  | nil => rfl
  | cons e l ih =>
    rw [State.takeRhos_cons, State.takeRhos_cons s, ← ih]
    cases h : Tbl.find? s.air.trackers (2048 * f + e.1) with
    | none => rw [State.takeRhos_none h, State.takeRhos_none (s := s.bump c) h]
    | some x => rw [State.takeRhos_single h, State.takeRhos_single (s := s.bump c) h]; split <;> rfl

/-! ### The weakest tracker (R132) -/

theorem Frac.le_refl (a : Frac) : a.le a = true := decide_eq_true (Nat.le_refl _)

theorem Frac.le_trans {a b c : Frac} (hb : 0 < b.den) (h : a.le b = true) (k : b.le c = true) : a.le c = true := by
  simp only [Frac.le, decide_eq_true_eq] at h k ⊢
  refine Nat.le_of_mul_le_mul_left (c := b.den) ?_ hb
  calc b.den * (a.num * c.den) = a.num * b.den * c.den := by ring
    _ ≤ b.num * a.den * c.den := Nat.mul_le_mul_right _ h
    _ = b.num * c.den * a.den := by ring
    _ ≤ c.num * b.den * a.den := Nat.mul_le_mul_right _ k
    _ = b.den * (c.num * a.den) := by ring

theorem Frac.le_of_lt {a b : Frac} (h : a.lt b = true) : a.le b = true := by
  simp only [Frac.lt, Frac.le, decide_eq_true_eq] at h ⊢
  omega

theorem Frac.lt_eq_not_le (a b : Frac) : a.lt b = !b.le a := by
  simp only [Frac.lt, Frac.le, ← decide_not, Nat.not_le]

/-- Whether a tracker gives way before another (R132). -/
def weaker (e b : Nat × Tracker) : Bool :=
  e.2.rho.lt b.2.rho || (e.2.rho.le b.2.rho && b.2.rho.le e.2.rho && decide (e.2.born < b.2.born))

/-- The search for the weakest tracker, one tracker further. -/
def weakerOf (best : Option (Nat × Tracker)) (e : Nat × Tracker) : Option (Nat × Tracker) :=
  match best with
  | none => some e
  | some b => if weaker e b then some e else some b

theorem State.weakest_eq (s : State) (f : Nat) :
    s.weakest f = ((s.trackersOn f).filter fun e => !e.2.frozen).foldl weakerOf none := rfl

theorem le_of_weaker {e b : Nat × Tracker} (h : weaker e b = true) : e.2.rho.le b.2.rho = true := by
  simp only [weaker, Bool.or_eq_true, Bool.and_eq_true] at h
  rcases h with h | ⟨⟨h, -⟩, -⟩
  · exact Frac.le_of_lt h
  · exact h

theorem le_of_not_weaker {e b : Nat × Tracker} (h : weaker e b = false) : b.2.rho.le e.2.rho = true := by
  simp only [weaker, Bool.or_eq_false_iff, Frac.lt_eq_not_le, Bool.not_eq_false'] at h
  exact h.1

/-- The search ends at one of the trackers, and none of them has a lower ρ. -/
theorem foldl_weakerOf {l : List (Nat × Tracker)} {b r : Nat × Tracker} (hb : 0 < b.2.rho.den)
    (hl : ∀ e ∈ l, 0 < e.2.rho.den) (h : l.foldl weakerOf (some b) = some r) :
    (r = b ∨ r ∈ l) ∧ r.2.rho.le b.2.rho = true ∧ ∀ e ∈ l, r.2.rho.le e.2.rho = true := by
  induction l generalizing b with
  | nil =>
    obtain rfl := Option.some.inj h
    exact ⟨.inl rfl, Frac.le_refl _, by simp⟩
  | cons e l ih =>
    obtain ⟨he, hrest⟩ := List.forall_mem_cons.1 hl
    rw [List.foldl_cons, weakerOf] at h
    split at h
    · next hw =>
      obtain ⟨hin, hre, hall⟩ := ih he hrest h
      exact ⟨.inr (List.mem_cons.2 hin), Frac.le_trans he hre (le_of_weaker hw), List.forall_mem_cons.2 ⟨hre, hall⟩⟩
    · next hw =>
      obtain ⟨hin, hrb, hall⟩ := ih hb hrest h
      exact ⟨hin.imp_right (List.mem_cons_of_mem _), hrb, List.forall_mem_cons.2
        ⟨Frac.le_trans hb hrb (le_of_not_weaker (Bool.eq_false_of_not_eq_true hw)), hall⟩⟩

/-- The tracker displaced is one of the die's, unfrozen, and none unfrozen has a lower ρ. -/
theorem State.weakest_least {s : State} {f : Nat} {r : Nat × Tracker} (hden : ∀ e ∈ s.trackersOn f, 0 < e.2.rho.den)
    (h : s.weakest f = some r) : r ∈ s.trackersOn f ∧ r.2.frozen = false
      ∧ ∀ e ∈ s.trackersOn f, e.2.frozen = false → r.2.rho.le e.2.rho = true := by
  rw [State.weakest_eq] at h
  have hmem {e : Nat × Tracker} : e ∈ (s.trackersOn f).filter (fun e => !e.2.frozen)
      ↔ e ∈ s.trackersOn f ∧ e.2.frozen = false := by
    rw [List.mem_filter, Bool.not_eq_true']
  suffices hleast : r ∈ (s.trackersOn f).filter (fun e => !e.2.frozen)
      ∧ ∀ e ∈ (s.trackersOn f).filter (fun e => !e.2.frozen), r.2.rho.le e.2.rho = true by
    obtain ⟨hin, hall⟩ := hleast
    exact ⟨(hmem.1 hin).1, (hmem.1 hin).2, fun e he hf => hall e (hmem.2 ⟨he, hf⟩)⟩
  have hden' : ∀ e ∈ (s.trackersOn f).filter (fun e => !e.2.frozen), 0 < e.2.rho.den :=
    fun e he => hden e (hmem.1 he).1
  generalize (s.trackersOn f).filter (fun e => !e.2.frozen) = l at h hden'
  cases l with
  | nil => cases h
  | cons b l =>
    obtain ⟨hb, hl⟩ := List.forall_mem_cons.1 hden'
    obtain ⟨hin, hrb, hall⟩ := foldl_weakerOf hb hl h
    exact ⟨List.mem_cons.2 hin, List.forall_mem_cons.2 ⟨hrb, hall⟩⟩

/-! ### Trackers freed (R134, R135) -/

/-- A fold of counts writes no unit of a field die. -/
theorem State.each_bump_air {α : Type} (c : α → Fld) (l : List α) (s : State) :
    (s.each l fun s e => s.bump (c e)).air = s.air := by
  induction l generalizing s with
  | nil => rfl
  | cons e l ih => exact ih (s.bump (c e))

/-- Spoiled windows are all that a fold of spoilings writes. -/
theorem State.each_spoil_air {α : Type} (f : Nat) (i : α → Nat) (x : α → Spoil) (l : List α) (s : State) :
    (s.each l fun s e => s.spoil f (i e) (x e)).air
      = { s.air with spoilt := (s.each l fun s e => s.spoil f (i e) (x e)).air.spoilt } := by
  induction l generalizing s with
  | nil => rfl
  | cons e l ih =>
    rw [State.each_cons, ih]
    have hone : (s.spoil f (i e) (x e)).air = { s.air with spoilt := (s.spoil f (i e) (x e)).air.spoilt } := by
      rw [State.spoil]; split <;> rfl
    rw [hone]

theorem State.freeTracker_air (s : State) (f t : Nat) (x : Tracker) : (s.freeTracker f t x).air
    = { s.air with
        trackers := Tbl.erase s.air.trackers (2048 * f + t), spoilt := (s.freeTracker f t x).air.spoilt } := by
  simp only [State.freeTracker, State.showTrack_air, State.spoil]
  split <;> rfl

/-- The trackers that a match on a channel frees beside its own (R135). -/
def othersHit (f t : Nat) (x : Tracker) (e : Nat × Tracker) : Bool :=
  e.1 / 2048 = f && e.1 ≠ 2048 * f + t && e.2.ctx = x.ctx && e.2.chan = x.chan

theorem State.cancelOthers_air (s : State) (f t : Nat) (x : Tracker) : (s.cancelOthers f t x).air
    = { s.air with
        trackers := s.air.trackers.filter fun e => !othersHit f t x e
        spoilt := (s.cancelOthers f t x).air.spoilt } := by
  have hspoil := State.each_spoil_air f (fun e : Nat × Tracker => e.2.ctx) (fun e => .tracker e.2.w e.2.chan)
    (s.air.trackers.filter (othersHit f t x))
    (s.each (s.air.trackers.filter (othersHit f t x)) fun s e => s.bump (Reg.STEEP.CANCELLED f e.2.rate))
  rw [State.each_bump_air] at hspoil
  exact congrArg (fun a : Air => { a with trackers := a.trackers.filter fun e => !othersHit f t x e }) hspoil

end Sys2Proof.Machine

/-! SUPPORT. Sync matches (R134, R135, R142): the trackers that a match frees, the context it takes, and which of two
matches on one channel is kept. -/

namespace Sys2Proof.Machine

/-! ### Tables without one of their numbers -/

theorem Tbl.find?_none_of_not_mem {α : Type} {m : Tbl α} {i : Nat} (h : ∀ a, (i, a) ∉ m) : Tbl.find? m i = none :=
  Option.eq_none_iff_forall_ne_some.2 fun a ha => h a (Tbl.mem_of_find? ha)

theorem Tbl.has_erase {α : Type} (m : Tbl α) (i : Nat) : Tbl.has (Tbl.erase m i) i = false := by
  simp [Tbl.has]

/-! ### The trackers that a match frees (R134, R135) -/

/-- The match on a tracker, before it asks for a context: it is counted, the others of its channel are cancelled and the
tracker itself is freed. -/
def State.matchFrees (s : State) (f t : Nat) (x : Tracker) : State :=
  ((s.bump (Reg.STEEP.SYNC_MATCH f x.rate)).cancelOthers f t x).freeTracker f t x

theorem State.syncMatched_eq (s : State) (f t : Nat) (x : Tracker) (n : Nat) (nf : NetForce) (fclk pos : Nat)
    (power : Frac) : s.syncMatched f t x n nf fclk pos power
      = (s.matchFrees f t x).allocate f x n nf (s.syncInstant f x fclk pos) power := rfl

/-- Of the field dies' units a match that frees trackers writes these and the spoiled windows. -/
theorem State.matchFrees_air (s : State) (f t : Nat) (x : Tracker) : (s.matchFrees f t x).air
    = { s.air with
        trackers := Tbl.erase (s.air.trackers.filter fun e => !othersHit f t x e) (2048 * f + t)
        spoilt := (s.matchFrees f t x).air.spoilt } := by
  rw [State.matchFrees, State.freeTracker_air, State.cancelOthers_air]
  rfl

theorem State.matchFrees_ctxs (s : State) (f t : Nat) (x : Tracker) :
    (s.matchFrees f t x).air.ctxs = s.air.ctxs := by
  rw [State.matchFrees_air]

theorem State.matchFrees_ctxsOn (s : State) (f t : Nat) (x : Tracker) :
    (s.matchFrees f t x).ctxsOn f = s.ctxsOn f := by
  rw [State.ctxsOn, State.matchFrees_ctxs, State.ctxsOn]

/-- What a match leaves of the trackers: all but its own and those that meet its channel. -/
theorem State.mem_matchFrees_trackers {s : State} {f t : Nat} {x : Tracker} {e : Nat × Tracker} :
    e ∈ (s.matchFrees f t x).air.trackers ↔ e ∈ s.air.trackers ∧ e.1 ≠ 2048 * f + t
      ∧ ¬ (e.1 / 2048 = f ∧ e.2.ctx = x.ctx ∧ e.2.chan = x.chan) := by
  rw [State.matchFrees_air, Tbl.mem_erase, List.mem_filter]
  simp only [othersHit, Bool.not_eq_true', Bool.and_eq_false_iff, decide_eq_false_iff_not]
  tauto

/-- The tracker of a match is free. -/
theorem State.matchFrees_freed (s : State) (f t : Nat) (x : Tracker) :
    Tbl.has (s.matchFrees f t x).air.trackers (2048 * f + t) = false := by
  rw [State.matchFrees_air, Tbl.has_erase]

/-- The statistics words that a match counts trackers in. -/
def matchWords (s : State) (f : Nat) (x : Tracker) : List Fld :=
  Reg.STEEP.SYNC_MATCH f x.rate :: s.air.trackers.map fun e => Reg.STEEP.CANCELLED f e.2.rate

theorem State.matchFrees_frame (s : State) (f t : Nat) (x : Tracker) :
    Frame [.air] (trackFields f) (matchWords s f x) s (s.matchFrees f t x) :=
  (((Frame.refl s).bump (List.mem_cons_self ..)).cancelOthers (by simp)
    (fun e he => List.mem_cons_of_mem _ (List.mem_map.2 ⟨e, he, rfl⟩)) t x).freeTracker (by simp) (List.Subset.refl _)
      t x

/-- No register of the head dies is one of STEEP.TRACK. -/
theorem trackFields_apart {f : Nat} {g : Fld} (hg : g.key < 0x8800000) : ∀ x ∈ trackFields f, x.key ≠ g.key := by
  intro x hx
  have := (trackFields_range f x hx).1
  rw [dieOffset_eq] at this
  omega

/-- What a new context is given reads neither STEEP.TRACK nor the trackers (R134, R142). -/
theorem State.matchFrees_reads (s : State) (f t : Nat) (x : Tracker) :
    (s.matchFrees f t x).dieQuality f = s.dieQuality f
      ∧ (s.matchFrees f t x).get (Reg.DEMOD.GRID.BASE f x.ctx) = s.get (Reg.DEMOD.GRID.BASE f x.ctx)
      ∧ (s.matchFrees f t x).reference f x.ctx x.w x.chan = s.reference f x.ctx x.w x.chan := by
  have hframe := s.matchFrees_frame f t x
  have htime : (s.matchFrees f t x).time = s.time := hframe.same (c := .time) (by simp)
  have hpower : (s.matchFrees f t x).power = s.power := hframe.same (c := .power) (by simp)
  have hfloor : (s.matchFrees f t x).air.floors = s.air.floors := by rw [State.matchFrees_air]
  have hlevel := hframe.get (trackFields_apart (f := f) (g := Reg.PWR.LEVEL_STATUS.NOW) (by decide))
  have hquality := hframe.get (trackFields_apart (f := f) (g := Reg.TIME.REF_STATUS.QUALITY) (by decide))
  refine ⟨?_, hframe.get fun y hy => ?_, ?_⟩
  · rw [State.dieQuality, State.gliding, State.fieldLevel, State.quality, htime, hpower, hlevel, hquality]
    rfl
  · have := (trackFields_range f y hy).2
    simp only [Reg.DEMOD.GRID.BASE, dieOffset_eq] at this ⊢
    omega
  · have hthr : (s.matchFrees f t x).startThr f = s.startThr f := congrArg (signedOf 16) (hframe.get fun y hy => by
      have := (trackFields_range f y hy).1
      simp only [Reg.STEEP.START_THR.THR, dieOffset_eq] at this ⊢
      omega)
    rw [State.reference, State.floorOf, hfloor, hthr]
    rfl

/-! ### The context that a match takes (R142) -/

/-- A demodulator context held under a number of the table, the next serial number behind it. -/
def State.putNewCtx (s : State) (d : Nat) (c : DemodCtx) : State :=
  { s with air := { s.air with ctxs := Tbl.put s.air.ctxs d c, nextSerial := s.air.nextSerial + 1 } }

/-- The context that a match hands its tracker to, on what it reads of the state. -/
def State.ctxFor (s : State) (f : Nat) (x : Tracker) (n : Nat) (nf : NetForce) (ns : Int) (power : Frac) : DemodCtx :=
  newCtx x s.air.nextSerial n nf ns (stamp64 (ns.toNat / 1000000000) (ns.toNat % 1000000000) (s.dieQuality f))
    (s.get (Reg.DEMOD.GRID.BASE f x.ctx) + x.chan) (Tbl.getD s.air.markers (512 * f + x.ctx) []).length power
    (s.reference f x.ctx x.w x.chan)

theorem State.ctxFor_matchFrees (s : State) (f t : Nat) (x : Tracker) (n : Nat) (nf : NetForce) (ns : Int)
    (power : Frac) : (s.matchFrees f t x).ctxFor f x n nf ns power = s.ctxFor f x n nf ns power := by
  obtain ⟨hquality, hgrid, href⟩ := s.matchFrees_reads f t x
  simp only [State.ctxFor, hquality, hgrid, href]
  rw [State.matchFrees_air]

/-- With a context free the lowest takes the tracker over. -/
theorem State.allocate_free {s : State} {f : Nat} (h : (s.ctxsOn f).length < 4096) (x : Tracker) (n : Nat)
    (nf : NetForce) (ns : Int) (power : Frac) : ∃ d, d / 4096 = f ∧ Tbl.has s.air.ctxs d = false
      ∧ s.allocate f x n nf ns power = (s.putNewCtx d (s.ctxFor f x n nf ns power)).showCtx f := by
  obtain ⟨d, hd, hdie, hfree⟩ := Tbl.lowestFree_of_room h
  refine ⟨d, hdie, hfree, ?_⟩
  rw [State.allocate, if_pos h, hd]
  rfl

/-- With none free the frame is dropped and counted. -/
theorem State.allocate_full {s : State} {f : Nat} (h : 4096 ≤ (s.ctxsOn f).length) (x : Tracker) (n : Nat)
    (nf : NetForce) (ns : Int) (power : Frac) :
    s.allocate f x n nf ns power = (s.bump (Reg.DEMOD.CTX_FULL f)).fireOnce (dieSource f 11) := by
  rw [State.allocate, if_neg (by omega)]

@[simp] theorem State.showCtx_air (s : State) (f : Nat) : (s.showCtx f).air = s.air := by simp [State.showCtx]

/-- DEMOD.CTX of a die that takes one more context shows one more. -/
theorem State.putNewCtx_shows {s : State} {f d : Nat} (hdie : d / 4096 = f) (hfree : Tbl.has s.air.ctxs d = false)
    (hroom : (s.ctxsOn f).length < 4096) (c : DemodCtx) :
    ((s.putNewCtx d c).showCtx f).get (Reg.DEMOD.CTX.IN_USE f) = (s.ctxsOn f).length + 1 := by
  have hcount : ((s.putNewCtx d c).ctxsOn f).length = (s.ctxsOn f).length + 1 :=
    Tbl.length_filter_put hfree c (decide_eq_true hdie)
  rw [State.showCtx, State.showUse, State.get_put_other _ _ _ _ (by simp [Reg.DEMOD.CTX.IN_USE, Reg.DEMOD.CTX.PEAK]),
    State.get_put_same, hcount]
  exact Nat.mod_eq_of_lt (by simp only [Reg.DEMOD.CTX.IN_USE]; omega)

/-- A match gives or refuses a context, and frees no tracker by that. -/
theorem State.allocate_trackers (s : State) (f : Nat) (x : Tracker) (n : Nat) (nf : NetForce) (ns : Int)
    (power : Frac) : (s.allocate f x n nf ns power).air.trackers = s.air.trackers := by
  rcases Nat.lt_or_ge (s.ctxsOn f).length 4096 with h | h
  · obtain ⟨d, -, -, heq⟩ := State.allocate_free h x n nf ns power
    rw [heq, State.showCtx_air]
    rfl
  · simp [State.allocate_full h]

theorem State.mem_syncMatched_trackers {s : State} {f t : Nat} {x : Tracker} {n : Nat} {nf : NetForce} {fclk pos : Nat}
    {power : Frac} {e : Nat × Tracker} : e ∈ (s.syncMatched f t x n nf fclk pos power).air.trackers
      ↔ e ∈ s.air.trackers ∧ e.1 ≠ 2048 * f + t ∧ ¬ (e.1 / 2048 = f ∧ e.2.ctx = x.ctx ∧ e.2.chan = x.chan) := by
  rw [State.syncMatched_eq, State.allocate_trackers, State.mem_matchFrees_trackers]

/-! ### Hits (R108, R134, R135) -/

/-- A hit stands for a tracker that is held, frozen and has decided a symbol, and for the network it matches. -/
theorem State.hitNet_some {s : State} {f : Nat} {h : SyncHit} {x : Tracker} {n : Nat × NetForce}
    (hit : s.hitNet f h = some (x, n)) : Tbl.find? s.air.trackers (2048 * f + h.t) = some x ∧ x.frozen = true
      ∧ 1 ≤ h.peak.since ∧ s.matchNet x (lastDecisions x.rate h.peak.since h.decided.toNat) = some n := by
  rw [State.hitNet] at hit
  split at hit
  · next y hy =>
    split at hit
    · next hc =>
      obtain ⟨m, hm, heq⟩ := Option.map_eq_some_iff.1 hit
      obtain ⟨rfl, rfl⟩ := Prod.mk.inj heq
      obtain ⟨hfrozen, hsince⟩ := (Bool.and_eq_true_iff ..).1 hc
      exact ⟨hy, hfrozen, of_decide_eq_true hsince, hm⟩
    · cases hit
  · cases hit

theorem State.hitNet_none {s : State} {f : Nat} {h : SyncHit} (hno : Tbl.find? s.air.trackers (2048 * f + h.t) = none) :
    s.hitNet f h = none := by
  rw [State.hitNet, hno]

/-- The network that a tracker's decisions match is enabled, of its code set and within its sync errors. -/
theorem State.matchNet_some {s : State} {x : Tracker} {w n : Nat} {nf : NetForce} (h : s.matchNet x w = some (n, nf)) :
    (n, nf) ∈ s.nets ∧ (2 ≤ x.rate → nf.codeSet = x.codeSet) ∧ hamming32 w nf.sync ≤ nf.syncErr := by
  have hin := List.mem_of_find?_eq_some h
  have hok := List.find?_some h
  simp only [Bool.and_eq_true, Bool.or_eq_true, decide_eq_true_eq] at hok
  obtain ⟨hset, hsync⟩ := hok
  exact ⟨hin, fun h2 => hset.resolve_left (by omega), hsync⟩

/-- What a hit does. -/
def State.takeHit (s : State) (f fclk : Nat) (h : SyncHit) : State :=
  match s.hitNet f h with
  | some (x, n, nf) => s.syncMatched f h.t x n nf fclk h.peak.pos h.peak.power
  | none => s

theorem State.takeHit_some {s : State} {f fclk : Nat} {h : SyncHit} {x : Tracker} {n : Nat} {nf : NetForce}
    (hit : s.hitNet f h = some (x, n, nf)) :
    s.takeHit f fclk h = s.syncMatched f h.t x n nf fclk h.peak.pos h.peak.power := by
  rw [State.takeHit, hit]

theorem State.takeHit_none {s : State} {f fclk : Nat} {h : SyncHit} (hit : s.hitNet f h = none) :
    s.takeHit f fclk h = s := by
  rw [State.takeHit, hit]

/-- SYNC_MATCH takes its hits one after the other, the first of R135 first. -/
theorem exec_syncMatch (s : State) (f : Fin 6) (fclk : Nat) (h : SyncHit) (l : List SyncHit) :
    exec (.syncMatch f h.t h.decided fclk h.peak l) s
      = .next (s.when (s.dieUp f) fun s => s.each (sortBy (s.hitFirst f) (h :: l)) fun s h => s.takeHit f fclk h) := rfl

/-- A single hit. -/
theorem exec_syncMatch_one (s : State) (f : Fin 6) (fclk : Nat) (h : SyncHit) :
    exec (.syncMatch f h.t h.decided fclk h.peak []) s = .next (s.when (s.dieUp f) fun s => s.takeHit f fclk h) := rfl

/-- A single hit of a die that is up is a match. -/
theorem exec_syncMatch_hit {s : State} {f : Fin 6} {h : SyncHit} {x : Tracker} {n : Nat} {nf : NetForce}
    (hit : s.hitNet f h = some (x, n, nf)) (hup : s.dieUp f = true) (fclk : Nat) :
    exec (.syncMatch f h.t h.decided fclk h.peak []) s
      = .next ((s.matchFrees f h.t x).allocate f x n nf (s.syncInstant f x fclk h.peak.pos) h.peak.power) := by
  rw [exec_syncMatch_one, State.when_of hup, State.takeHit_some hit, State.syncMatched_eq]

/-- Of two hits the one with the larger correlated power comes first. -/
theorem State.sort_hits {s : State} {f : Nat} {a b : SyncHit} {x y : Tracker} {n m : Nat × NetForce}
    (ha : s.hitNet f a = some (x, n)) (hb : s.hitNet f b = some (y, m)) (hlt : b.peak.power.lt a.peak.power = true) :
    sortBy (s.hitFirst f) [b, a] = [a, b] := by
  have hle : a.peak.power.le b.peak.power = false := by rwa [Frac.lt_eq_not_le, Bool.not_eq_true'] at hlt
  have hge : b.peak.power.le a.peak.power = true := Frac.le_of_lt hlt
  have hnot : s.hitFirst f b a = false := by
    simp [State.hitFirst, ha, hb, Frac.lt_eq_not_le, hle, hge]
  simp [sortBy, insertBy, hnot]

/-- A hit on a channel that a match has just taken stands no more. -/
theorem State.takeHit_second {s : State} {f fclk : Nat} {a b : SyncHit} {x y : Tracker} {n : Nat × NetForce}
    (ha : s.hitNet f a = some (x, n)) (hctx : y.ctx = x.ctx) (hchan : y.chan = x.chan)
    (honly : ∀ e ∈ s.air.trackers, e.1 = 2048 * f + b.t → e.2 = y) :
    (s.takeHit f fclk a).takeHit f fclk b = s.takeHit f fclk a := by
  refine State.takeHit_none (State.hitNet_none (Tbl.find?_none_of_not_mem fun z hz => ?_))
  rw [State.takeHit_some ha, State.mem_syncMatched_trackers] at hz
  obtain ⟨hin, -, hother⟩ := hz
  obtain rfl := honly _ hin rfl
  exact hother ⟨by have := b.t.isLt; simp only; omega, hctx, hchan⟩

end Sys2Proof.Machine

/-! SUPPORT. The registers of the search: reads of STEEP.TRACK and DEMOD.CTX (R141, R142), writes of SPARGE.STREAM
(R127, R128). -/

namespace Sys2Proof.Machine

/-! ### Reads that reload a peak (R141, R142) -/

/-- A read of a field die's register that is up takes effect. -/
theorem State.hostReadReg_die {s : State} {func off f : Nat} (h : s.functionUp func = true)
    (hd : dieOfOffset off = some f) (hup : s.dieUp f = true) (e : State → State) : s.hostReadReg func off e = e s := by
  simp only [State.dieUp, Bool.and_eq_true, Bool.not_eq_true'] at hup
  simp [State.hostReadReg, h, hd, hup]

/-- A read of a count and its peak reloads the peak, re-arms the event of a full count and returns its word. -/
theorem State.peakRead (s : State) (use peak : Fld) (src func off data : Nat) {t : State}
    (ht : t = ((s.reloadPeak use peak).rearm src).readDone func off data) :
    t.get peak = s.get use % 2 ^ peak.width ∧ src ∉ t.evt.disarmed ∧ t.out = s.out ++ [.readDone func .bar0 off data]
      ∧ Frame [.evt, .safe, .out] [peak] [] s t := by
  subst ht
  refine ⟨?_, ?_, ?_, (((Frame.refl s).put (by simp) _).setEvt (by simp) _).emit (by simp) (by simp) _⟩
  · rw [State.readDone, State.emit_get, State.rearm_get]
    exact State.get_put_same ..
  · rw [State.readDone, State.emit_evt']
    simp [State.rearm]
  · rw [State.readDone_out]
    rfl

/-! ### SPARGE.STREAM (R127, R128) -/

theorem exec_wEnWrite {s : State} {f : Fin 6} (h : s.hostUp = true) (hd : s.dieUp f = true) (i : Fin 512)
    (v : BitVec 32) : exec (.wEnWrite f i v) s
      = .next ((s.recorded [(f.val, dieOffset f (0x100000 + i * 4), v.toNat)]).spargeStream f i v.toNat) :=
  congrArg Host.Outcome.next (State.hostWriteReg_die h (dieOfOffset_die f.isLt (by omega)) hd _ _)

/-- What a write of SPARGE.STREAM may ask for: DGAIN from −12 to 24 dB, and no more W contexts than the level allows. -/
def State.spargeOk (s : State) (f i v : Nat) : Prop :=
  -12 ≤ signedOf 6 (bitsAt v 1 6) ∧ signedOf 6 (bitsAt v 1 6) ≤ 24
    ∧ (bitsAt v 0 1 = 1 → s.wEnabled f i = false → s.wCount f < wLimit (s.capLevel f))

/-- The register as a write leaves it. -/
def State.putSparge (s : State) (f i v : Nat) : State :=
  (s.put (Reg.SPARGE.STREAM.W_EN f i) (bitsAt v 0 1)).put (Reg.SPARGE.STREAM.DGAIN f i) (bitsAt v 1 6)

theorem State.spargeStream_legal {s : State} {f i v : Nat} (h : s.spargeOk f i v) :
    s.spargeStream f i v = (s.putSparge f i v).recount f := by
  obtain ⟨hlo, hhi, hroom⟩ := h
  refine if_neg ?_
  rintro (hlow | hhigh | ⟨hmore, hfull⟩)
  · omega
  · omega
  · simp only [Bool.and_eq_true, decide_eq_true_eq, Bool.not_eq_true'] at hmore
    have := hroom hmore.1 hmore.2
    omega

theorem State.spargeStream_illegal {s : State} {f i v : Nat} (h : signedOf 6 (bitsAt v 1 6) < -12
      ∨ 24 < signedOf 6 (bitsAt v 1 6)
      ∨ (bitsAt v 0 1 = 1 ∧ s.wEnabled f i = false ∧ wLimit (s.capLevel f) ≤ s.wCount f)) :
    s.spargeStream f i v = s.illegal (dieOffset f (0x100000 + i * 4)) := by
  refine if_pos (h.imp_right (Or.imp_right ?_))
  rintro ⟨hset, hoff, hfull⟩
  exact ⟨by simp [hset, hoff], hfull⟩

/-- The registers of a stream's search are not SPARGE.STATUS. -/
theorem spargeFields_apart {f i : Nat} (hi : i < 512) {g : Fld} (hg : g = Reg.SPARGE.STREAM.W_EN f i
      ∨ g = Reg.SPARGE.STREAM.DGAIN f i) : ∀ x ∈ spargeFields f, x.key ≠ g.key := by
  intro x hx
  have := (spargeFields_range f x hx).1
  rw [dieOffset_eq] at this
  rcases hg with rfl | rfl <;> simp only [Reg.SPARGE.STREAM.W_EN, Reg.SPARGE.STREAM.DGAIN] <;> omega

/-- The count of a die's W contexts stands through a recount, and SPARGE.STATUS shows it. -/
theorem State.recount_wCount (s : State) (f : Nat) : (s.recount f).wCount f = s.wCount f := by
  have hkeep : (List.range 512).filter ((s.recount f).wEnabled f) = (List.range 512).filter (s.wEnabled f) :=
    List.filter_congr fun i hi => by
      rw [State.wEnabled, State.wEnabled, State.on, State.on,
        State.recount_get _ (spargeFields_apart (List.mem_range.1 hi) (.inl rfl))]
  rw [State.wCount, hkeep, State.wCount]

theorem State.tellFloors_get (s : State) (f : Nat) (g : Fld) : (s.tellFloors f).get g = s.get g := by
  rw [State.tellFloors]
  split
  · exact State.fire_get _ _ _
  · rfl

theorem State.recount_shows (s : State) (f : Nat) :
    (s.recount f).get (Reg.SPARGE.STATUS.W_CONTEXTS f) = (s.recount f).wCount f % 512 := by
  rw [State.recount_wCount, State.recount, State.tellFloors_get]
  simp only [State.showSparge]
  rw [State.get_put_other _ _ _ _ (by simp [Reg.SPARGE.STATUS.W_CONTEXTS, Reg.SPARGE.STATUS.N_CHANNELS]),
    State.get_put_same]
  rfl

/-- A legal write of SPARGE.STREAM stores both fields, and the die's counts follow. -/
theorem State.spargeStream_stores {s : State} {f i v : Nat} (hi : i < 512) (h : s.spargeOk f i v) {t : State}
    (ht : t = s.spargeStream f i v) : t.get (Reg.SPARGE.STREAM.W_EN f i) = bitsAt v 0 1
      ∧ t.get (Reg.SPARGE.STREAM.DGAIN f i) = bitsAt v 1 6 ∧ t.get (Reg.SPARGE.STATUS.W_CONTEXTS f) = t.wCount f % 512
      ∧ Frame (.air :: signalled) (Reg.SPARGE.STREAM.W_EN f i :: Reg.SPARGE.STREAM.DGAIN f i :: spargeFields f)
          alarmWords s t := by
  subst ht
  rw [State.spargeStream_legal h]
  refine ⟨?_, ?_, State.recount_shows _ f, ?_⟩
  · rw [State.recount_get _ (spargeFields_apart hi (.inl rfl)), State.putSparge, State.get_put_other _ _ _ _
      (by simp [Reg.SPARGE.STREAM.W_EN, Reg.SPARGE.STREAM.DGAIN]), State.get_put_same]
    simp [Reg.SPARGE.STREAM.W_EN, bitsAt]
  · rw [State.recount_get _ (spargeFields_apart hi (.inr rfl)), State.putSparge, State.get_put_same]
    simp [Reg.SPARGE.STREAM.DGAIN, bitsAt]
  · exact (((Frame.refl s).put (by simp) _).put (by simp) _).recount (List.Subset.refl _)
      (fun x hx => by simp [hx]) (List.Subset.refl _)

end Sys2Proof.Machine

/-! CERTIFICATE. The Steep search: `SearchCommands` (R127, R130 to R135, R137 to R142). -/

namespace Sys2Proof.Machine

/-! ### STEEP_CANDIDATE (R130 to R132) -/

/-- The state in which a candidate looks for a tracker: counted, the ρ of the trackers held as last computed, its FCLK
cycle numbered. -/
def State.candidateRaised (s : State) (f : Nat) (c : Candidate) (rhos : List (Fin 2048 × Frac)) (n : Nat) : State :=
  { (s.takeRhos f rhos).bump (Reg.STEEP.CANDIDATES f c.rate) with
    air := { (s.takeRhos f rhos).air with born := n } }

theorem exec_steepCandidate {s : State} {f : Fin 6} {c : Candidate} (hmay : s.mayStart f c = true)
    (hcross : s.crosses f c = true) (rhos : List (Fin 2048 × Frac)) {n : Nat}
    (hn : n = if c.sameCycle then s.air.born else s.air.born + 1) : exec (.steepCandidate f c rhos) s
      = .next ((s.candidateRaised f c rhos n).takeTracker f (trackerOf c n)) := by
  have hborn : ((s.takeRhos f rhos).bump (Reg.STEEP.CANDIDATES f c.rate)).air.born = s.air.born := by
    rw [State.takeRhos_eq]
    rfl
  refine congrArg Host.Outcome.next ((State.when_of (by rw [hmay, hcross]; rfl) _).trans ?_)
  simp only [State.takeRhos_bump, hborn, ← hn]
  rfl

theorem exec_steepCandidate_none {s : State} {f : Fin 6} {c : Candidate} (rhos : List (Fin 2048 × Frac))
    (h : s.mayStart f c = false ∨ s.crosses f c = false) : exec (.steepCandidate f c rhos) s = .next s :=
  congrArg Host.Outcome.next (State.when_not (by rcases h with h | h <;> simp [h]) _)

/-- Before it has its tracker a candidate has changed trackers' ρ, its FCLK cycle's number and its own count. -/
theorem State.candidateRaised_frame (s : State) (f : Nat) (c : Candidate) (rhos : List (Fin 2048 × Frac)) (n : Nat) :
    Frame [.air] [] [Reg.STEEP.CANDIDATES f c.rate] s (s.candidateRaised f c rhos n) := by
  have hrhos : Frame [.air] [] [Reg.STEEP.CANDIDATES f c.rate] s (s.takeRhos f rhos) := by
    rw [State.takeRhos_eq]
    exact (Frame.refl s).setAir (by simp) _
  exact (hrhos.bump (by simp)).setAir (by simp) _

theorem State.candidateRaised_stat (s : State) (f : Nat) (c : Candidate) (rhos : List (Fin 2048 × Frac)) (n : Nat) :
    (s.candidateRaised f c rhos n).stat (Reg.STEEP.CANDIDATES f c.rate)
      = (s.stat (Reg.STEEP.CANDIDATES f c.rate) + 1) % 2 ^ 32 := by
  refine (State.stat_bump (s.takeRhos f rhos) _ _).trans ?_
  rw [if_pos rfl, State.takeRhos_eq]
  rfl

theorem steepCandidate_free {s : State} {f : Fin 6} {c : Candidate} {rhos : List (Fin 2048 × Frac)} {n : Nat}
    (hmay : s.mayStart f c = true) (hcross : s.crosses f c = true)
    (hroom : ((s.takeRhos f rhos).trackersOn f).length < 2048)
    (hn : n = if c.sameCycle then s.air.born else s.air.born + 1) :
    ∃ t k, exec (.steepCandidate f c rhos) s = .next t ∧ k / 2048 = f.val
      ∧ Tbl.has (s.takeRhos f rhos).air.trackers k = false
      ∧ t.air = { s.air with born := n, trackers := (Tbl.put (s.takeRhos f rhos).air.trackers k (trackerOf c n)) }
      ∧ t.stat (Reg.STEEP.CANDIDATES f c.rate) = (s.stat (Reg.STEEP.CANDIDATES f c.rate) + 1) % 2 ^ 32
      ∧ t.get (Reg.STEEP.TRACK.IN_USE f) = ((s.takeRhos f rhos).trackersOn f).length + 1
      ∧ Frame [.air] (trackFields f) [Reg.STEEP.CANDIDATES f c.rate] s t := by
  obtain ⟨k, hdie, hfree, htake⟩ := State.takeTracker_free (s := s.candidateRaised f c rhos n) hroom (trackerOf c n)
  have hraised := s.candidateRaised_frame f c rhos n
  refine ⟨_, k, exec_steepCandidate hmay hcross rhos hn, hdie, hfree, ?_, ?_, ?_, ?_⟩ <;> rw [htake]
  · rw [State.showTrack_air, State.putTracker, State.candidateRaised, State.takeRhos_eq]
  · exact (Frame.stat (((Frame.refl _).putTracker (cs := [.air]) (words := []) (by simp) _ _).showTrack
      (List.Subset.refl _)) (by simp)).trans (s.candidateRaised_stat f c rhos n)
  · exact State.putTracker_shows hdie hfree hroom _
  · exact ((hraised.mono (List.Subset.refl _) (List.nil_subset _) (List.Subset.refl _)).putTracker (by simp) k
      _).showTrack (List.Subset.refl _)

theorem State.displace_trackers (s : State) (f : Nat) (x : Tracker) : (s.displace f x).air.trackers
    = match s.weakest f with
      | some (k, old) => if old.rho.lt x.rho then Tbl.put s.air.trackers k x else s.air.trackers
      | none => s.air.trackers := by
  rw [State.displace]
  cases s.weakest f with
  | none => rfl
  | some e =>
    dsimp only
    split
    · exact congrArg (Tbl.put · _ _) (State.spoil_trackers ..)
    · rfl

theorem steepCandidate_full {s : State} {f : Fin 6} {c : Candidate} {rhos : List (Fin 2048 × Frac)} {n : Nat}
    (hmay : s.mayStart f c = true) (hcross : s.crosses f c = true)
    (hfull : 2048 ≤ ((s.takeRhos f rhos).trackersOn f).length) (harmed : 328 + 32 * f.val ∉ s.evt.disarmed)
    (hn : n = if c.sameCycle then s.air.born else s.air.born + 1) :
    ∃ t, exec (.steepCandidate f c rhos) s = .next t ∧ t.pends (328 + 32 * f.val)
      ∧ t.stat (Reg.STEEP.TRACK_FULL f) = (s.stat (Reg.STEEP.TRACK_FULL f) + 1) % 2 ^ 32
      ∧ t.air.trackers = (match (s.takeRhos f rhos).weakest f with
          | some (k, old) => if old.rho.lt c.rho then Tbl.put (s.takeRhos f rhos).air.trackers k (trackerOf c n)
              else (s.takeRhos f rhos).air.trackers
          | none => (s.takeRhos f rhos).air.trackers)
      ∧ Frame (.air :: signalled) [] (Reg.STEEP.CANDIDATES f c.rate :: Reg.STEEP.TRACK_FULL f :: alarmWords) s t := by
  have hsrc : 328 + 32 * f.val = dieSource f 8 := by unfold dieSource; omega
  have hraised := (s.candidateRaised_frame f c rhos n).displace (by simp) f (trackerOf c n)
  have hevt : ((s.candidateRaised f c rhos n).displace f (trackerOf c n)).evt = s.evt :=
    hraised.same (c := .evt) (by simp)
  refine ⟨_, exec_steepCandidate hmay hcross rhos hn, ?_, ?_, ?_, ?_⟩ <;>
    rw [State.takeTracker_full (s := s.candidateRaised f c rhos n) hfull]
  · rw [hsrc]
    exact State.trackFull_pends f.isLt (by rwa [hevt, ← hsrc])
  · rw [State.trackFull_counts, hraised.stat]
    simp only [List.mem_singleton, forall_eq, Reg.STEEP.CANDIDATES, Reg.STEEP.TRACK_FULL]
    omega
  · rw [State.trackFull_air, State.displace_trackers]
    rfl
  · exact (hraised.mono (by simp) (List.Subset.refl _) (by simp)).trackFull signalled_air (by simp [alarmWords])
      (by simp)

/-! ### TRACKER_FREEZE, SYNC_TIMEOUT (R133, R134) -/

theorem exec_trackerFreeze {s : State} {f : Fin 6} {k : Fin 2048} {x : Tracker}
    (hx : Tbl.find? s.air.trackers (2048 * f.val + k) = some x) (hup : s.dieUp f = true) (hfree : x.frozen = false)
    (o : Int) (rho : Frac) (phase : Fin 8) (before : List (Int × Int)) : exec (.trackerFreeze f k o rho phase before) s
      = .next (s.putTracker (2048 * f.val + k) { x with
          frozen := true, frozen10Hz := o, rho := rho, phase := phase, phaseRef := sumVec (before.take 8) }) := by
  change execTrackerFreeze f k o rho s phase before = _
  simp only [execTrackerFreeze, hx]
  exact congrArg Host.Outcome.next (State.when_of (by rw [hup, hfree]; rfl) _)

theorem exec_syncTimeout {s : State} {f : Fin 6} {k : Fin 2048} {x : Tracker}
    (hx : Tbl.find? s.air.trackers (2048 * f.val + k) = some x) (hup : s.dieUp f = true) : exec (.syncTimeout f k) s
      = .next ((s.bump (Reg.STEEP.SYNC_TIMEOUT f x.rate)).freeTracker f k x) := by
  change execSyncTimeout f k s = _
  simp only [execSyncTimeout, hx]
  exact congrArg Host.Outcome.next (State.when_of hup _)

/-! ### SYNC_MATCH (R134, R135, R142) -/

theorem syncMatch_free {s : State} {f : Fin 6} {fclk : Nat} {h : SyncHit} {x : Tracker} {n : Nat} {nf : NetForce}
    (hit : s.hitNet f h = some (x, n, nf)) (hup : s.dieUp f = true) (hroom : (s.ctxsOn f).length < 4096) :
    ∃ t d, exec (.syncMatch f h.t h.decided fclk h.peak []) s = .next t
      ∧ (∀ e, e ∈ t.air.trackers ↔ e ∈ s.air.trackers ∧ e.1 ≠ 2048 * f.val + h.t
          ∧ ¬ (e.1 / 2048 = f.val ∧ e.2.ctx = x.ctx ∧ e.2.chan = x.chan))
      ∧ d / 4096 = f.val ∧ Tbl.has s.air.ctxs d = false
      ∧ t.air.ctxs = Tbl.put s.air.ctxs d (s.ctxFor f x n nf (s.syncInstant f x fclk h.peak.pos) h.peak.power)
      ∧ t.get (Reg.DEMOD.CTX.IN_USE f) = (s.ctxsOn f).length + 1
      ∧ Frame [.air] (trackFields f ++ ctxFields f) (matchWords s f x) s t := by
  have hctxs := s.matchFrees_ctxs f h.t x
  have hon := s.matchFrees_ctxsOn f h.t x
  obtain ⟨d, hdie, hfree, hgive⟩ := State.allocate_free (s := s.matchFrees f h.t x) (f := f) (by rwa [hon]) x n nf
    (s.syncInstant f x fclk h.peak.pos) h.peak.power
  refine ⟨_, d, exec_syncMatch_hit hit hup fclk, fun e => State.mem_syncMatched_trackers, hdie, by rwa [← hctxs],
    ?_, ?_, ?_⟩ <;> rw [hgive]
  · rw [State.showCtx_air, State.ctxFor_matchFrees, State.putNewCtx, hctxs]
  · rw [State.putNewCtx_shows hdie hfree (by rwa [hon]), hon]
  · exact (((s.matchFrees_frame f h.t x).mono (List.Subset.refl _) (List.subset_append_left _ _)
      (List.Subset.refl _)).setAir (by simp) _).showCtx (List.subset_append_right _ _)

theorem syncMatch_full {s : State} {f : Fin 6} {fclk : Nat} {h : SyncHit} {x : Tracker} {n : Nat} {nf : NetForce}
    (hit : s.hitNet f h = some (x, n, nf)) (hup : s.dieUp f = true) (hfull : 4096 ≤ (s.ctxsOn f).length)
    (harmed : 331 + 32 * f.val ∉ s.evt.disarmed) (hrates : ∀ e ∈ s.air.trackers, e.2.rate < 5) :
    ∃ t, exec (.syncMatch f h.t h.decided fclk h.peak []) s = .next t ∧ t.pends (331 + 32 * f.val)
      ∧ t.air.ctxs = s.air.ctxs ∧ Tbl.has t.air.trackers (2048 * f.val + h.t) = false
      ∧ t.stat (Reg.DEMOD.CTX_FULL f) = (s.stat (Reg.DEMOD.CTX_FULL f) + 1) % 2 ^ 32 := by
  have hsrc : 331 + 32 * f.val = dieSource f 11 := by unfold dieSource; omega
  have hframe := s.matchFrees_frame f h.t x
  have hevt : (s.matchFrees f h.t x).evt = s.evt := hframe.same (c := .evt) (by simp)
  have hrate : x.rate < 5 := hrates _ (Tbl.mem_of_find? (State.hitNet_some hit).1)
  have hword : (s.matchFrees f h.t x).stat (Reg.DEMOD.CTX_FULL f) = s.stat (Reg.DEMOD.CTX_FULL f) := hframe.stat (by
    simp only [matchWords, List.forall_mem_cons, List.forall_mem_map, Reg.STEEP.SYNC_MATCH, Reg.STEEP.CANCELLED,
      Reg.DEMOD.CTX_FULL]
    exact ⟨by omega, fun e he => by have := hrates e he; omega⟩)
  refine ⟨_, exec_syncMatch_hit hit hup fclk, ?_, ?_, ?_, ?_⟩ <;>
    rw [State.allocate_full (by rwa [State.matchFrees_ctxsOn])]
  · rw [hsrc]
    exact State.fireOnce_pends (by simpa [hevt, ← hsrc] using harmed) (dieSource_lt f.isLt (by omega))
  · simpa using s.matchFrees_ctxs f h.t x
  · simpa using s.matchFrees_freed f h.t x
  · rw [State.fireOnce_stat _ _ _ (alarmWords_apart (by simp only [Reg.DEMOD.CTX_FULL]; omega)), State.stat_bump,
      if_pos rfl, hword]

/-- Of two matches on one channel the one with the larger correlated power is kept, and the other never was. -/
theorem syncMatch_pair {s : State} {f : Fin 6} {fclk : Nat} {a b : SyncHit} {x y : Tracker} {n m : Nat × NetForce}
    (ha : s.hitNet f a = some (x, n)) (hb : s.hitNet f b = some (y, m)) (hctx : y.ctx = x.ctx) (hchan : y.chan = x.chan)
    (honly : ∀ e ∈ s.air.trackers, e.1 = 2048 * f.val + b.t → e.2 = y) (hlt : b.peak.power.lt a.peak.power = true) :
    exec (.syncMatch f b.t b.decided fclk b.peak [a]) s = exec (.syncMatch f a.t a.decided fclk a.peak []) s := by
  rw [exec_syncMatch, exec_syncMatch_one]
  cases hup : s.dieUp f with
  | false => rfl
  | true =>
    rw [State.when_true, State.when_true, State.sort_hits ha hb hlt]
    exact congrArg Host.Outcome.next (State.takeHit_second ha hctx hchan honly)

/-- Settles O14: each clause from what taking, freeing and handing over a tracker leaves, and which trackers a match
frees. -/
theorem searchCommands : Obligations.SearchCommands := by
  unfold Obligations.SearchCommands
  refine ⟨?_, ?_, ?_, ?_, ?_, ?_, ?_, ?_, ?_, ?_, ?_, ?_, ?_, ?_, ?_, ?_, ?_, ?_⟩
  · exact fun s f c rhos n hmay hcross hroom hn => steepCandidate_free hmay hcross hroom hn
  · exact fun s f c rhos n hmay hcross hfull harmed hn => steepCandidate_full hmay hcross hfull harmed hn
  · intro s f k rho x hx
    refine ⟨_, rfl, ?_⟩
    rw [State.takeRhos_single hx]
    split
    · exact hx
    · simp [State.putTracker]
  · exact fun s f c rhos hno => exec_steepCandidate_none rhos hno
  · exact fun s f k x hden hw => State.weakest_least hden hw
  · exact fun s f k o rho phase before x hx hup hfree =>
      ⟨_, exec_trackerFreeze hx hup hfree o rho phase before, rfl, (Frame.refl s).putTracker (by simp) _ _⟩
  · exact fun s f fclk h x n nf hit hup hroom => syncMatch_free hit hup hroom
  · exact fun s f fclk h x n nf hit hup hfull harmed hrates => syncMatch_full hit hup hfull harmed hrates
  · exact fun s f fclk a b x y n m ha hb hctx hchan honly hlt => syncMatch_pair ha hb hctx hchan honly hlt
  · intro s f fclk h hno
    rw [exec_syncMatch_one, State.when, State.takeHit_none hno, ite_self]
  · exact fun s f h x n nf hit => State.hitNet_some hit
  · intro rate since d hrate hsince
    simp [lastDecisions, hrate, Nat.not_le_of_lt hsince]
  · exact fun s x w n nf h => State.matchNet_some h
  · intro s f k x hx hup
    refine ⟨_, exec_syncTimeout hx hup, State.freeTracker_air _ _ _ _, ?_,
      ((Frame.refl s).bump (by simp)).freeTracker (by simp) (List.Subset.refl _) _ _⟩
    rw [((Frame.refl _).freeTracker (cs := [.air]) (words := []) (by simp) (List.Subset.refl _) _ _).stat (by simp),
      State.stat_bump, if_pos rfl]
  · intro s func f hfunc hup
    rw [show 328 + 32 * f.val = dieSource f 8 by unfold dieSource; omega]
    exact ⟨_, congrArg Host.Outcome.next (State.hostReadReg_die hfunc (dieOfOffset_die f.isLt (by omega)) hup _),
      s.peakRead _ _ _ _ _ _ rfl⟩
  · intro s func f hfunc hup
    rw [show 331 + 32 * f.val = dieSource f 11 by unfold dieSource; omega]
    exact ⟨_, congrArg Host.Outcome.next (State.hostReadReg_die hfunc (dieOfOffset_die f.isLt (by omega)) hup _),
      s.peakRead _ _ _ _ _ _ rfl⟩
  · intro s f i v h hup hlo hhi hroom
    obtain ⟨hen, hgain, hshown, hframe⟩ := State.spargeStream_stores
      (s := s.recorded [(f.val, dieOffset f (0x100000 + i * 4), v.toNat)]) i.isLt ⟨hlo, hhi, hroom⟩ rfl
    exact ⟨_, exec_wEnWrite h hup i v, hen, hgain, hshown, hframe.after_recorded (by simp [signalled])⟩
  · intro s f i v h hup hbad
    refine ⟨_, exec_wEnWrite h hup i v, ?_⟩
    rw [State.spargeStream_illegal (s := s.recorded _) hbad]
    exact ⟨State.illegal_valid _ _, ((Frame.refl s).recorded (by simp [signalled]) _).illegal _⟩

end Sys2Proof.Machine

/-! SUPPORT. Noise floors and channel powers (R137 to R140): what a window, a reset and a list of powers leave of a
channel's floor and power, and the event of the first valid floors of a die. -/

namespace Sys2Proof.Machine

/-! ### A window of one channel (R137, R138) -/

/-- A floor held for a channel. -/
def State.putFloor (s : State) (f i : Nat) (w : Bool) (k : Nat) (fl : Floor) : State :=
  { s with air := { s.air with floors := Tbl.put s.air.floors (chanKey f i w k) fl } }

@[simp] theorem State.floorOf_putFloor (s : State) (f i : Nat) (w : Bool) (k : Nat) (fl : Floor) :
    (s.putFloor f i w k fl).floorOf f i w k = fl := by
  simp [State.floorOf, State.putFloor]

/-- A floor reads by the floors held alone. -/
theorem State.floorOf_of_floors {s t : State} (h : t.air.floors = s.air.floors) (f i : Nat) (w : Bool) (k : Nat) :
    t.floorOf f i w k = s.floorOf f i w k := by
  rw [State.floorOf, h, State.floorOf]

/-- A window that is not idle leaves everything. -/
theorem State.floorWindow_busy {s : State} {f i : Nat} {c : ChanPower} (h : s.windowIdle f i c = false) :
    s.floorWindow f i c = s := by
  simp [State.floorWindow, h]

/-- An idle window leaves its floor; where that becomes valid, the die's floors may be told. -/
theorem State.floorWindow_idle {s : State} {f i : Nat} {c : ChanPower} (h : s.windowIdle f i c = true) {fl : Floor}
    (hfl : (s.floorOf f i c.w c.chan).idleWindow c.w c.power = fl) : s.floorWindow f i c
      = if fl.valid && !(s.floorOf f i c.w c.chan).valid then (s.putFloor f i c.w c.chan fl).tellFloors f
        else s.putFloor f i c.w c.chan fl := by
  subst hfl
  exact if_pos h

/-- A valid floor moves by 1/256 of what the window's power differs from it. -/
theorem Floor.idleWindow_valid {fl : Floor} (h : fl.valid = true) (w : Bool) (p : Frac) :
    fl.idleWindow w p = { fl with power := (fl.power.scale 255 256).add (p.scale 1 256), idle := 256 } := if_pos h

/-- Idle windows before the 256th are held. -/
theorem Floor.idleWindow_held {fl : Floor} (h : fl.valid = false) (hroom : fl.held.length < 255) (w : Bool) (p : Frac) :
    fl.idleWindow w p = { fl with held := fl.held ++ [p], idle := fl.held.length + 1 } := by
  have hlen : (fl.held ++ [p]).length = fl.held.length + 1 := List.length_append
  rw [Floor.idleWindow, if_neg (by simp [h])]
  simp only [hlen, if_pos (show fl.held.length + 1 < 256 by omega)]

/-- The 256th makes the floor. -/
theorem Floor.idleWindow_full {fl : Floor} (h : fl.valid = false) (hfull : fl.held.length = 255) (w : Bool) (p : Frac) :
    fl.idleWindow w p
      = ⟨true, (meanLowest (fl.held ++ [p])).mul (if w then decade 1000 17 else decade 40 1), 256, []⟩ := by
  have hlen : (fl.held ++ [p]).length = 256 := by simp [hfull]
  rw [Floor.idleWindow, if_neg (by simp [h])]
  simp only [hlen, Nat.lt_irrefl, if_false]

/-- P := P + (p − P) / 256, by cross products. -/
theorem Frac.add_scaled (P p : Frac) : ((P.scale 255 256).add (p.scale 1 256)).num * (256 * P.den * p.den)
    = (255 * P.num * p.den + p.num * P.den) * ((P.scale 255 256).add (p.scale 1 256)).den := by
  simp only [Frac.add, Frac.scale]
  ring

/-! ### The event of the first valid floors (R140) -/

/-- Whether the floors of a die are valid reads registers and floors alone. -/
theorem State.floorsValid_of {s t : State} (hr : t.regs = s.regs) (hf : t.air.floors = s.air.floors) (f : Nat) :
    t.floorsValid f = s.floorsValid f := by
  rw [State.floorsValid, State.floorsValid]
  simp only [State.ctxChannels, State.channelExists, State.wEnabled, State.floorOf_of_floors hf, State.on_of_regs hr,
    State.get_of_regs hr]

theorem State.tellFloors_regs (s : State) (f : Nat) : (s.tellFloors f).regs = s.regs := by
  rw [State.tellFloors]
  split <;> simp

theorem State.tellFloors_floors (s : State) (f : Nat) : (s.tellFloors f).air.floors = s.air.floors := by
  rw [State.tellFloors]
  split <;> simp

theorem State.floorsValid_tellFloors (s : State) (f g : Nat) : (s.tellFloors f).floorsValid g = s.floorsValid g :=
  State.floorsValid_of (s.tellFloors_regs f) (s.tellFloors_floors f) g

theorem State.tellFloors_pends {s : State} {f : Nat} (hf : f < 6) (hnew : f ∉ s.air.floorsTold)
    (hvalid : s.floorsValid f = true) : (s.tellFloors f).pends (dieSource f 9) := by
  rw [State.tellFloors, if_pos ⟨hnew, hvalid⟩]
  exact State.fireDie_pends _ hf (by omega)

section
variable {cs : List Component} {fields words : List Fld} {s t : State}

theorem Frame.putFloor (h : Frame cs fields words s t) (hc : .air ∈ cs) (f i : Nat) (w : Bool) (k : Nat) (fl : Floor) :
    Frame cs fields words s (t.putFloor f i w k fl) := h.setAir hc _

theorem Frame.tellFloors (h : Frame cs fields words s t) (hc : .air :: signalled ⊆ cs) (hw : alarmWords ⊆ words)
    (f : Nat) : Frame cs fields words s (t.tellFloors f) :=
  Frame.ite (fun _ => (h.setAir (hc (by simp)) _).fire (fun _ hm => hc (by simp [hm])) hw _) fun _ => h

end

/-! ### The end of a context's windows -/

/-- The next window of a context begins with nothing that spoils it. -/
def State.nextWindow (s : State) (f i : Nat) : State :=
  { s with air := { s.air with spoilt := Tbl.erase s.air.spoilt (512 * f + i) } }

@[simp] theorem State.floorOf_nextWindow (s : State) (f j i : Nat) (w : Bool) (k : Nat) :
    (s.nextWindow f j).floorOf f i w k = s.floorOf f i w k := rfl

theorem State.floorsValid_nextWindow (s : State) (f i g : Nat) :
    (s.nextWindow f i).floorsValid g = s.floorsValid g := State.floorsValid_of rfl rfl g

theorem Frame.nextWindow {cs : List Component} {fields words : List Fld} {s t : State} (h : Frame cs fields words s t)
    (hc : .air ∈ cs) (f i : Nat) : Frame cs fields words s (t.nextWindow f i) := h.setAir hc _

theorem exec_floorWindow {s : State} {f : Fin 6} {i : Fin 512} (hup : s.dieUp f = true)
    (hen : s.on (Reg.LINK.STREAM.EN f i) = true) (l : List ChanPower) : exec (.floorWindow f i l) s
      = .next ((s.each l fun s c => s.floorWindow f i c).nextWindow f i) :=
  congrArg Host.Outcome.next (State.when_of (by simp [hup, hen]) _)

/-- A window of one channel whose floor it moves without making it valid. -/
theorem exec_floorWindow_moves {s : State} {f : Fin 6} {i : Fin 512} {c : ChanPower} {fl : Floor}
    (hup : s.dieUp f = true) (hen : s.on (Reg.LINK.STREAM.EN f i) = true) (hidle : s.windowIdle f i c = true)
    (hfl : (s.floorOf f i c.w c.chan).idleWindow c.w c.power = fl)
    (hsame : fl.valid = (s.floorOf f i c.w c.chan).valid) :
    exec (.floorWindow f i [c]) s = .next ((s.putFloor f i c.w c.chan fl).nextWindow f i) := by
  rw [exec_floorWindow hup hen, State.each_cons, State.each_nil, State.floorWindow_idle hidle hfl, hsame,
    if_neg (by simp)]

/-- A window of one channel that makes its floor valid. -/
theorem exec_floorWindow_validates {s : State} {f : Fin 6} {i : Fin 512} {c : ChanPower} {fl : Floor}
    (hup : s.dieUp f = true) (hen : s.on (Reg.LINK.STREAM.EN f i) = true) (hidle : s.windowIdle f i c = true)
    (hfl : (s.floorOf f i c.w c.chan).idleWindow c.w c.power = fl) (hnew : fl.valid = true)
    (hold : (s.floorOf f i c.w c.chan).valid = false) :
    exec (.floorWindow f i [c]) s = .next (((s.putFloor f i c.w c.chan fl).tellFloors f).nextWindow f i) := by
  rw [exec_floorWindow hup hen, State.each_cons, State.each_nil, State.floorWindow_idle hidle hfl,
    if_pos (by simp [hnew, hold])]

/-- A window writes no register and leaves the die as it is. -/
theorem State.floorWindow_keeps (s : State) (f i : Nat) (c : ChanPower) :
    (s.floorWindow f i c).regs = s.regs ∧ (s.floorWindow f i c).part = s.part := by
  refine ⟨?_, (s.floorWindow_kept f i c).1⟩
  cases h : s.windowIdle f i c with
  | false => rw [State.floorWindow_busy h]
  | true =>
    rw [State.floorWindow_idle h rfl]
    split
    · exact State.tellFloors_regs _ _
    · rfl

/-- Whether a die is up reads the part and its fence alone. -/
theorem State.dieUp_of {s t : State} (hr : t.regs = s.regs) (hp : t.part = s.part) (f : Nat) :
    t.dieUp f = s.dieUp f := by
  rw [State.dieUp, State.present, State.dieFenced, hp, State.on_of_regs hr]
  rfl

/-! ### STEEP.CTL (R139, R141) -/

theorem exec_rstFloors {s : State} {f : Fin 6} (h : s.hostUp = true) (hup : s.dieUp f = true) (v : BitVec 32) :
    exec (.rstFloors f v) s = .next ((s.recorded [(f.val, dieOffset f 0x140000, v.toNat)]).steepCtl f v.toNat) :=
  congrArg Host.Outcome.next (State.hostWriteReg_die h (dieOfOffset_die f.isLt (by omega)) hup _ _)

/-- Every floor of a die forgotten, its event to come again. -/
def State.forgetFloors (s : State) (f : Nat) : State :=
  { s with air := { s.air with floors := s.air.floors.filter (fun p => p.1 / 262144 ≠ f),
                               floorsTold := s.air.floorsTold.filter (· ≠ f) } }

theorem State.steepCtl_reset {s : State} {f v : Nat} (h : bitsAt v 1 1 = 1) :
    s.steepCtl f v = (s.put (Reg.STEEP.CTL.EN f) (bitsAt v 0 1)).forgetFloors f := if_pos h

theorem State.steepCtl_plain {s : State} {f v : Nat} (h : bitsAt v 1 1 = 0) :
    s.steepCtl f v = s.put (Reg.STEEP.CTL.EN f) (bitsAt v 0 1) := if_neg (by omega)

theorem State.put_steepEn (s : State) (f v : Nat) :
    (s.put (Reg.STEEP.CTL.EN f) (bitsAt v 0 1)).get (Reg.STEEP.CTL.EN f) = bitsAt v 0 1 := by
  rw [State.get_put_same]
  simp [Reg.STEEP.CTL.EN, bitsAt]

/-- A filter on the keys leaves what it lets through, and nothing else. -/
theorem Tbl.find?_filter_key {α : Type} (m : Tbl α) (p : Nat → Bool) (i : Nat) :
    Tbl.find? (List.filter (fun e : Nat × α => p e.1) m) i = if p i then Tbl.find? m i else none := by
  induction m with
  | nil => simp
  | cons e m ih =>
    obtain ⟨k, v⟩ := e
    rw [List.filter_cons, Tbl.find?_cons]
    by_cases hk : k = i
    · subst hk
      rw [if_pos rfl]
      split
      · rw [Tbl.find?_cons, if_pos rfl]
      · next hp => rw [ih, if_neg hp]
    · rw [if_neg hk, ← ih]
      split
      · rw [Tbl.find?_cons, if_neg hk]
      · rfl

/-- The table key of a channel names its die. -/
theorem chanKey_die {g i : Nat} (w : Bool) {k : Nat} (hi : i < 512) (hk : k < 256) : chanKey g i w k / 262144 = g := by
  have : bit w < 2 := by cases w <;> decide
  unfold chanKey
  omega

theorem State.forgetFloors_floorOf (s : State) (f g : Nat) {i k : Nat} (w : Bool) (hi : i < 512) (hk : k < 256) :
    (s.forgetFloors f).floorOf g i w k = if g = f then .init else s.floorOf g i w k := by
  have hfind := Tbl.find?_filter_key s.air.floors (fun k => k / 262144 ≠ f) (chanKey g i w k)
  rw [chanKey_die w hi hk] at hfind
  refine (congrArg (Option.getD · Floor.init) hfind).trans ?_
  by_cases hg : g = f
  · simp [hg]
  · simp only [ne_eq, hg, not_false_eq_true, decide_true, if_true, if_false]
    rfl

/-! ### Channel powers (R140) -/

/-- A mean power kept for a channel. -/
def State.putPower (s : State) (f i : Nat) (c : ChanPower) : State :=
  { s with air := { s.air with powers := Tbl.put s.air.powers (chanKey f i c.w c.chan) c.power } }

theorem exec_channelPowerUpdate {s : State} {f : Fin 6} {i : Fin 512} (hup : s.dieUp f = true)
    (hen : s.on (Reg.LINK.STREAM.EN f i) = true) (l : List ChanPower) : exec (.channelPowerUpdate f i l) s
      = .next (s.each (l.filter fun c => s.channelExists f i c.w c.chan) fun s c => s.putPower f i c) :=
  congrArg Host.Outcome.next (State.when_of (by simp [hup, hen]) _)

/-- Of the field dies' units a list of powers writes the powers alone. -/
theorem State.eachPower_air (f i : Nat) (l : List ChanPower) (s : State) : (s.each l fun s c => s.putPower f i c).air
    = { s.air with powers := (s.each l fun s c => s.putPower f i c).air.powers } := by
  induction l generalizing s with
  | nil => rfl
  | cons c l ih =>
    rw [State.each_cons, ih]
    rfl

/-- A channel that a list does not name keeps its power. -/
theorem State.eachPower_other {f i key : Nat} {l : List ChanPower} (h : ∀ c ∈ l, chanKey f i c.w c.chan ≠ key)
    (s : State) : Tbl.find? (s.each l fun s c => s.putPower f i c).air.powers key = Tbl.find? s.air.powers key := by
  induction l generalizing s with
  | nil => rfl
  | cons c l ih =>
    obtain ⟨hc, hl⟩ := List.forall_mem_cons.1 h
    rw [State.each_cons, ih hl, State.putPower, Tbl.find?_put, if_neg hc]

/-- The last channel of a list has the power it names. -/
theorem State.eachPower_last (f i : Nat) (l : List ChanPower) (c : ChanPower) (s : State) :
    Tbl.find? (s.each (l ++ [c]) fun s c => s.putPower f i c).air.powers (chanKey f i c.w c.chan) = some c.power := by
  rw [State.each, List.foldl_append, List.foldl_cons, List.foldl_nil, State.putPower, Tbl.find?_put, if_pos rfl]

/-- The last of a list that a filter lets through is the last of what it leaves. -/
theorem filter_of_getLast? {α : Type} {l : List α} {c : α} {p : α → Bool} (h : l.getLast? = some c)
    (hp : p c = true) : ∃ l', l.filter p = l' ++ [c] := by
  obtain ⟨l', rfl⟩ := List.getLast?_eq_some_iff.1 h
  exact ⟨l'.filter p, by simp [hp]⟩

end Sys2Proof.Machine

/-! CERTIFICATE. Noise floors and channel powers: `NoiseFloors` (R137 to R140). -/

namespace Sys2Proof.Machine

theorem floorWindow_valid {s : State} {f : Fin 6} {i : Fin 512} {c : ChanPower} (hup : s.dieUp f = true)
    (hen : s.on (Reg.LINK.STREAM.EN f i) = true) (hidle : s.windowIdle f i c = true)
    (hvalid : (s.floorOf f i c.w c.chan).valid = true) :
    ∃ t, exec (.floorWindow f i [c]) s = .next t ∧ (t.floorOf f i c.w c.chan).valid = true
      ∧ (t.floorOf f i c.w c.chan).power.num * (256 * (s.floorOf f i c.w c.chan).power.den * c.power.den)
          = (255 * (s.floorOf f i c.w c.chan).power.num * c.power.den
              + c.power.num * (s.floorOf f i c.w c.chan).power.den) * (t.floorOf f i c.w c.chan).power.den
      ∧ t.air = { s.air with floors := Tbl.put s.air.floors (chanKey f i c.w c.chan) (t.floorOf f i c.w c.chan),
                             spoilt := Tbl.erase s.air.spoilt (512 * f.val + i) }
      ∧ Frame [.air] [] [] s t := by
  refine ⟨_, exec_floorWindow_moves hup hen hidle (Floor.idleWindow_valid hvalid _ _) rfl, ?_⟩
  rw [State.floorOf_nextWindow, State.floorOf_putFloor]
  exact ⟨hvalid, Frac.add_scaled _ _, rfl, ((Frame.refl s).putFloor (by simp) ..).nextWindow (by simp) _ _⟩

theorem floorWindow_held {s : State} {f : Fin 6} {i : Fin 512} {c : ChanPower} (hup : s.dieUp f = true)
    (hen : s.on (Reg.LINK.STREAM.EN f i) = true) (hidle : s.windowIdle f i c = true)
    (hnot : (s.floorOf f i c.w c.chan).valid = false) (hroom : (s.floorOf f i c.w c.chan).held.length < 255) :
    ∃ t, exec (.floorWindow f i [c]) s = .next t ∧ (t.floorOf f i c.w c.chan).valid = false
      ∧ (t.floorOf f i c.w c.chan).idle = (s.floorOf f i c.w c.chan).held.length + 1
      ∧ (t.floorOf f i c.w c.chan).held = (s.floorOf f i c.w c.chan).held ++ [c.power]
      ∧ t.air = { s.air with floors := Tbl.put s.air.floors (chanKey f i c.w c.chan) (t.floorOf f i c.w c.chan),
                             spoilt := Tbl.erase s.air.spoilt (512 * f.val + i) }
      ∧ Frame [.air] [] [] s t := by
  refine ⟨_, exec_floorWindow_moves hup hen hidle (Floor.idleWindow_held hnot hroom _ _) rfl, ?_⟩
  rw [State.floorOf_nextWindow, State.floorOf_putFloor]
  exact ⟨hnot, rfl, rfl, rfl, ((Frame.refl s).putFloor (by simp) ..).nextWindow (by simp) _ _⟩

theorem floorWindow_full {s : State} {f : Fin 6} {i : Fin 512} {c : ChanPower} (hup : s.dieUp f = true)
    (hen : s.on (Reg.LINK.STREAM.EN f i) = true) (hidle : s.windowIdle f i c = true)
    (hnot : (s.floorOf f i c.w c.chan).valid = false) (hfull : (s.floorOf f i c.w c.chan).held.length = 255) :
    ∃ t, exec (.floorWindow f i [c]) s = .next t
      ∧ t.floorOf f i c.w c.chan = ⟨true, (meanLowest ((s.floorOf f i c.w c.chan).held ++ [c.power])).mul
          (if c.w then decade 1000 17 else decade 40 1), 256, []⟩
      ∧ (f.val ∉ s.air.floorsTold → t.floorsValid f = true → t.pends (329 + 32 * f.val))
      ∧ Frame (.air :: signalled) [] alarmWords s t := by
  have hmade := Floor.idleWindow_full hnot hfull c.w c.power
  refine ⟨_, exec_floorWindow_validates hup hen hidle hmade rfl hnot, ?_, fun hnew hvalid => ?_, ?_⟩
  · rw [State.floorOf_nextWindow, State.floorOf_of_floors (State.tellFloors_floors _ _), State.floorOf_putFloor]
  · rw [show 329 + 32 * f.val = dieSource f 9 by unfold dieSource; omega]
    refine State.tellFloors_pends f.isLt hnew ?_
    rwa [State.floorsValid_nextWindow, State.floorsValid_tellFloors] at hvalid
  · exact (((Frame.refl s).putFloor (by simp) ..).tellFloors (List.Subset.refl _) (List.Subset.refl _) f).nextWindow
      (by simp) _ _

theorem rstFloors_resets {s : State} {f : Fin 6} {v : BitVec 32} (h : s.hostUp = true) (hup : s.dieUp f = true)
    (hreset : bitsAt v.toNat 1 1 = 1) :
    ∃ t, exec (.rstFloors f v) s = .next t ∧ t.get (Reg.STEEP.CTL.EN f) = bitsAt v.toNat 0 1
      ∧ (∀ i w k, i < 512 → k < 256 →
          t.floorOf f i w k = .init ∧ ∀ g, g ≠ f.val → t.floorOf g i w k = s.floorOf g i w k)
      ∧ f.val ∉ t.air.floorsTold ∧ t.air = { s.air with floors := t.air.floors, floorsTold := t.air.floorsTold }
      ∧ Frame [.air, .safe] [Reg.STEEP.CTL.EN f] [] s t := by
  refine ⟨_, exec_rstFloors h hup v, ?_⟩
  rw [State.steepCtl_reset hreset]
  refine ⟨State.put_steepEn _ _ _, fun i w k hi hk => ?_, by simp [State.forgetFloors], rfl,
    (((Frame.refl s).recorded (by simp) _).put (by simp) _).setAir (by simp) _⟩
  exact ⟨(State.forgetFloors_floorOf _ _ _ w hi hk).trans (if_pos rfl),
    fun g hg => (State.forgetFloors_floorOf _ _ _ w hi hk).trans (if_neg hg)⟩

theorem channelPowerUpdate_keeps {s : State} {f : Fin 6} {i : Fin 512} (l : List ChanPower) (hup : s.dieUp f = true)
    (hen : s.on (Reg.LINK.STREAM.EN f i) = true) :
    ∃ t, exec (.channelPowerUpdate f i l) s = .next t ∧ t.air = { s.air with powers := t.air.powers }
      ∧ (∀ c, l.getLast? = some c → s.channelExists f i c.w c.chan = true →
          Tbl.find? t.air.powers (chanKey f i c.w c.chan) = some c.power)
      ∧ (∀ key, (∀ c ∈ l, chanKey f i c.w c.chan ≠ key) → Tbl.find? t.air.powers key = Tbl.find? s.air.powers key)
      ∧ Frame [.air] [] [] s t := by
  refine ⟨_, exec_channelPowerUpdate hup hen l, State.eachPower_air _ _ _ _, fun c hlast hexists => ?_,
    fun key hother => State.eachPower_other (fun c hc => hother c (List.mem_filter.1 hc).1) s,
    (Frame.refl s).each fun _ _ x => (Frame.refl x).setAir (by simp) _⟩
  obtain ⟨l', hl⟩ := filter_of_getLast? (p := fun c => s.channelExists f i c.w c.chan) hlast hexists
  rw [hl]
  exact State.eachPower_last ..

/-- Settles O15: each clause from what a window, a reset or a list of powers leaves of a channel's floor or power. -/
theorem noiseFloors : Obligations.NoiseFloors := by
  unfold Obligations.NoiseFloors
  refine ⟨?_, ?_, ?_, ?_, ?_, ?_, ?_, ?_, ?_, ?_⟩
  · intro s f i c hup hen hbusy
    rw [exec_floorWindow hup hen, State.each_cons, State.each_nil, State.floorWindow_busy hbusy]
    rfl
  · exact fun s f i c hup hen hidle hvalid => floorWindow_valid hup hen hidle hvalid
  · exact fun s f i c hup hen hidle hnot hroom => floorWindow_held hup hen hidle hnot hroom
  · exact fun s f i c hup hen hidle hnot hfull => floorWindow_full hup hen hidle hnot hfull
  · intro s f i c l hup hen
    obtain ⟨hregs, hpart⟩ := s.floorWindow_keeps f i c
    rw [exec_floorWindow hup hen, exec_floorWindow (by rwa [State.dieUp_of hregs hpart])
      (by rwa [State.on_of_regs hregs]), State.each_cons]
  · exact fun s f v h hup hreset => rstFloors_resets h hup hreset
  · intro s f v h hup hplain
    refine ⟨_, exec_rstFloors h hup v, ?_⟩
    rw [State.steepCtl_plain hplain]
    exact ⟨State.put_steepEn _ _ _, ((Frame.refl s).recorded (by simp) _).put (by simp) _⟩
  · exact fun s f i l hup hen => channelPowerUpdate_keeps l hup hen
  · exact fun s f i k w => ⟨fun hnot => if_neg (by simp [hnot]), fun hvalid => if_pos hvalid⟩
  · exact fun s f i k w thr above p => ⟨fun hvalid => if_pos hvalid, fun hnot => if_neg (by simp [hnot])⟩

end Sys2Proof.Machine

/-! SUPPORT. The sorts of Blend (R152, R154): a sort keeps the entries of its list, and puts them in its order. -/

namespace Sys2Proof.Machine

section
variable {α : Type} {le : α → α → Bool}

theorem insertBy_perm (x : α) (l : List α) : (insertBy le x l).Perm (x :: l) := by
  induction l with
  | nil => exact .refl _
  | cons y l ih =>
    simp only [insertBy]
    split
    · exact (ih.cons y).trans (.swap x y l)
    · exact .refl _

theorem sortBy_perm (l : List α) : (sortBy le l).Perm l := by
  have hfold (l acc : List α) : (l.foldl (fun acc x => insertBy le x acc) acc).Perm (acc ++ l) := by
    induction l generalizing acc with
    | nil => simp
    | cons x l ih => exact (ih _).trans (((insertBy_perm x acc).append_right l).trans List.perm_middle.symm)
  exact hfold l []

variable {R : α → α → Prop} (htrans : ∀ a b c, R a b → R b c → R a c) (hle : ∀ a b, le a b = true → R a b)
  (hnle : ∀ a b, le a b = false → R b a)
include htrans hle hnle

theorem insertBy_pairwise (x : α) {l : List α} (h : l.Pairwise R) : (insertBy le x l).Pairwise R := by
  induction l with
  | nil => exact List.pairwise_singleton R x
  | cons y l ih =>
    obtain ⟨hy, hl⟩ := List.pairwise_cons.1 h
    simp only [insertBy]
    split
    · next hyx =>
      refine List.pairwise_cons.2 ⟨fun z hz => ?_, ih hl⟩
      rcases List.mem_cons.1 ((insertBy_perm x l).mem_iff.1 hz) with rfl | hz
      · exact hle _ _ hyx
      · exact hy z hz
    · next hyx =>
      have hxy : R x y := hnle _ _ (Bool.eq_false_iff.2 hyx)
      refine List.pairwise_cons.2 ⟨fun z hz => ?_, h⟩
      rcases List.mem_cons.1 hz with rfl | hz
      · exact hxy
      · exact htrans _ _ _ hxy (hy z hz)

/-- A sort puts a list in any transitive order that its test decides one way or the other. -/
theorem sortBy_pairwise (l : List α) : (sortBy le l).Pairwise R := by
  have hfold (l : List α) {acc : List α} (h : acc.Pairwise R) :
      (l.foldl (fun acc x => insertBy le x acc) acc).Pairwise R := by
    induction l generalizing acc with
    | nil => exact h
    | cons x l ih => exact ih (insertBy_pairwise htrans hle hnle x h)
  exact hfold l .nil

end

theorem rankCopies_pairwise (l : List Copy) : (rankCopies l).Pairwise fun a b => b.lqi ≤ a.lqi :=
  sortBy_pairwise (fun _ _ _ hab hbc => hbc.trans hab)
    (fun _ _ h => by
      rcases Bool.or_eq_true_iff.1 h with h | h
      · exact (of_decide_eq_true h).le
      · exact (of_decide_eq_true (Bool.and_eq_true_iff.1 h).1).le)
    (fun _ _ h => not_lt.1 (of_decide_eq_false (Bool.or_eq_false_iff.1 h).1)) l

theorem rankCopies_eq_nil {l : List Copy} : rankCopies l = [] ↔ l = [] := by
  rw [← List.length_eq_zero_iff, ← List.length_eq_zero_iff, rankCopies, (sortBy_perm l).length_eq]

/-! ### The running sums and the list of results (R153, R154) -/

theorem sat255_range (x : Int) : -255 ≤ sat255 x ∧ sat255 x ≤ 255 ∧ (-255 ≤ x → x ≤ 255 → sat255 x = x) := by
  simp only [sat255]
  split
  · omega
  · split <;> omega

theorem Group.results_wants (g : Group) : g.results.1 = true ↔ 2 ≤ g.kept.length ∧ (g.cfg.always = true
    ∨ ∃ c ∈ g.kept, ∃ q, c.record = some (q, false)) := by
  simp [Group.results, Option.any_eq_true]

theorem Group.results_list (g : Group) : g.results.2 = (if g.results.1 then [ResultSrc.combined] else [])
    ++ g.doneCopies.map (fun c => ResultSrc.copy c.info.serial) := rfl

end Sys2Proof.Machine

/-! SUPPORT. Groups of copies (R151 to R153): messages taken from a die, and what the first segment of a copy does. -/

namespace Sys2Proof.Machine

/-- A second put at a key replaces the first. -/
theorem Tbl.put_put {α : Type} (m : Tbl α) (i : Nat) (a b : α) : Tbl.put (Tbl.put m i a) i b = Tbl.put m i b := by
  induction m with
  | nil => simp [Tbl.put]
  | cons p m ih =>
    obtain ⟨k, v⟩ := p
    rcases lt_trichotomy i k with h | rfl | h
    · simp [Tbl.put, h]
    · simp [Tbl.put]
    · simp [Tbl.put, h.not_gt, h.ne', ih]

theorem State.setGroup_setGroup (s : State) (id : Nat) (g h : Group) :
    (s.setGroup id g).setGroup id h = s.setGroup id h := by
  simp [State.setGroup, Tbl.put_put]

theorem State.group?_setGroup_same (s : State) (id : Nat) (g : Group) : (s.setGroup id g).group? id = some g :=
  (State.group?_setGroup ..).trans (if_pos rfl)

theorem Frame.setGroup {cs : List Component} {fields words : List Fld} {s t : State} (h : Frame cs fields words s t)
    (hc : .rx ∈ cs) (id : Nat) (g : Group) : Frame cs fields words s (t.setGroup id g) := h.setRx hc _

@[simp] theorem State.group?_bump (s : State) (w : Fld) (id : Nat) : (s.bump w).group? id = s.group? id := rfl

@[simp] theorem State.group?_fire (s : State) (src id : Nat) : (s.fire src).group? id = s.group? id :=
  State.group?_of_rx (by simp) id

@[simp] theorem State.group?_eraseGroup (s : State) (id j : Nat) :
    (s.eraseGroup id).group? j = if id = j then none else s.group? j := Tbl.find?_erase ..

/-! ### Messages from a die -/

section
variable {cs : List Component} {fields words : List Fld} {s t : State} {f : Nat}

theorem State.upMsgs_popUp (s : State) (f g : Nat) :
    (s.popUp f).upMsgs g = if f = g then (s.upMsgs f).tail else s.upMsgs g := Tbl.getD_put ..

/-- What is done with a message leaves the later messages of its die. -/
theorem Frame.upMsgs_rest (h : Frame cs fields words (s.popUp f) t) (hc : .air ∉ cs) {m : UpMsg} {l : List UpMsg}
    (hup : s.upMsgs f = m :: l) : t.upMsgs f = l := by
  have hair : t.air = (s.popUp f).air := h.same hc
  rw [State.upMsgs, hair, ← State.upMsgs, State.upMsgs_popUp, if_pos rfl, hup, List.tail_cons]

theorem Frame.of_popUp (h : Frame cs fields words (s.popUp f) t) : Frame (.air :: cs) fields words s t :=
  ((Frame.refl s).setAir (by simp) _).trans (h.mono (List.subset_cons_self ..) (List.Subset.refl _) (List.Subset.refl _))

end

theorem exec_segmentArrival {s : State} {f : Fin 6} {i : CopyInfo} {ix phy : Nat} {head : List Byte} {bits : List Bool}
    {llrs : List Int} {l : List UpMsg} (hlive : s.live = true) (hup : s.upMsgs f = .segment i ix head phy bits llrs :: l) :
    exec (.segmentArrival f) s = .next ((s.popUp f).segmentIn i ix head phy bits llrs) := by
  change Host.Outcome.next _ = _
  simp [hup, hlive]

theorem exec_endNoticeArrival {s : State} {f : Fin 6} {serial : Nat} {b : Bool} {l : List UpMsg} (hlive : s.live = true)
    (hup : s.upMsgs f = .endNotice serial b :: l) :
    exec (.endNoticeArrival f) s = .next ((s.popUp f).noticeIn serial) := by
  change Host.Outcome.next _ = _
  simp [hup, hlive]

theorem exec_frameRecordArrival {s : State} {f : Fin 6} {r : FrameRecord} {l : List UpMsg} {id : Nat} {g : Group}
    {c : Copy} (hlive : s.live = true) (hup : s.upMsgs f = .record r :: l)
    (hof : s.groupOfCopy r.info.serial = some (id, g)) (hc : g.copy? r.info.serial = some c) :
    exec (.frameRecordArrival f) s = .next ((s.popUp f).recordIn id g c r) := by
  have hof' : (s.popUp f).groupOfCopy r.info.serial = some (id, g) := hof
  change Host.Outcome.next _ = _
  simp [hup, hlive, hof', hc]

theorem exec_frameRecordArrival_released {s : State} {f : Fin 6} {r : FrameRecord} {l : List UpMsg} (hlive : s.live = true)
    (hup : s.upMsgs f = .record r :: l) (hof : s.groupOfCopy r.info.serial = none) :
    exec (.frameRecordArrival f) s = .next ((s.popUp f).bump Reg.BLEND.LATE_COPIES) := by
  have hof' : (s.popUp f).groupOfCopy r.info.serial = none := hof
  change Host.Outcome.next _ = _
  simp [hup, hlive, hof']

/-! ### Segments (R151, R153) -/

/-- A frame that is not under key class 0, has no check value or comes while Kiln is not READY has no key looked up. -/
theorem State.prefetchKey_none {s : State} {head : List Byte}
    (h : macClass head ≠ 0 ∨ macCvlen head = 0 ∨ s.kilnReady = false) (id net : Nat) :
    s.prefetchKey id net head = s := by
  have hskip : (macClass head ≠ 0 || macCvlen head = 0 || !s.kilnReady || !s.on (Reg.KILN.KEYMAP.EN net 0 (macIndex head)))
      = true := by
    rcases h with h | h | h <;> simp [h]
  simp only [State.prefetchKey, hskip, if_true]

/-- A copy as its first segment finds it. -/
def CopyInfo.opened (i : CopyInfo) (phy : Nat) (head : List Byte) : Copy := ⟨i, phy, head, [], none, 0, false⟩

/-- A group with one more copy. -/
def Group.withCopy (g : Group) (c : Copy) : Group := { g with copies := g.copies ++ [c] }

/-- The copy that joined last is replaced where no other has its serial. -/
theorem Group.setCopy_withCopy {g : Group} {c d : Copy} (h : ∀ x ∈ g.copies, x.info.serial ≠ c.info.serial)
    (hs : d.info.serial = c.info.serial) : (g.withCopy c).setCopy d = g.withCopy d := by
  have hold : (g.copies.map fun x => if x.info.serial = c.info.serial then d else x) = g.copies :=
    (List.map_congr_left fun x hx => if_neg (h x hx)).trans (List.map_id' _)
  simp [Group.setCopy, Group.withCopy, hs, hold]

theorem State.addSegment_taken {s : State} {g : Group} {c : Copy} {x : SegIn} (hl : c.late = false)
    (h : g.profile = 0 ∨ (g.closed = false ∧ x.ix ∉ g.closedSegs)) (id : Nat) :
    s.addSegment id g c x = s.arrival.1.setGroup id
      (g.setCopy { c with segs := c.segs ++ [{ x with order := s.rx.nextOrder }] }) := by
  have hopen : (decide (g.profile ≠ 0) && (g.closed || decide (x.ix ∈ g.closedSegs))) = false := by
    rcases h with h | ⟨hc, hx⟩
    · simp [h]
    · simp [hc, hx]
  simp only [State.addSegment, hl, hopen, Bool.false_eq_true, if_false]
  rfl

theorem State.addSegment_late {s : State} {g : Group} {c : Copy} {x : SegIn} (hl : c.late = false) (hp : g.profile ≠ 0)
    (h : g.closed = true ∨ x.ix ∈ g.closedSegs) (id : Nat) : s.addSegment id g c x = s.lateCopy id c := by
  have hclosed : (decide (g.profile ≠ 0) && (g.closed || decide (x.ix ∈ g.closedSegs))) = true := by
    rcases h with h | h <;> simp [hp, h]
  simp only [State.addSegment, hl, hclosed, if_true, Bool.false_eq_true, if_false]

theorem State.lateCopy_eq {s : State} {id : Nat} {g : Group} (hg : s.group? id = some g) (c : Copy) :
    s.lateCopy id c = (s.setGroup id (g.setCopy { c with late := true, segs := [] })).bump Reg.BLEND.LATE_COPIES := by
  simp only [State.lateCopy, State.onGroup, hg]

section
variable {s : State} {id : Nat} {g : Group} {c : Copy} {x : SegIn}

/-- The first segment of a copy just placed in a group that is open for it. -/
theorem State.addSegment_placed (hnew : ∀ y ∈ g.copies, y.info.serial ≠ c.info.serial) (hl : c.late = false)
    (h : g.profile = 0 ∨ (g.closed = false ∧ x.ix ∉ g.closedSegs)) :
    (s.setGroup id (g.withCopy c)).addSegment id (g.withCopy c) c x = s.arrival.1.setGroup id
      (g.withCopy { c with segs := c.segs ++ [{ x with order := s.rx.nextOrder }] }) := by
  rw [State.addSegment_taken (g := g.withCopy c) hl h, Group.setCopy_withCopy hnew]
  · exact State.setGroup_setGroup s.arrival.1 id (g.withCopy c) _
  · rfl

/-- The first segment of a copy just placed in a group that has closed it. -/
theorem State.addSegment_placedLate (hnew : ∀ y ∈ g.copies, y.info.serial ≠ c.info.serial) (hl : c.late = false)
    (hp : g.profile ≠ 0) (h : g.closed = true ∨ x.ix ∈ g.closedSegs) :
    (s.setGroup id (g.withCopy c)).addSegment id (g.withCopy c) c x
      = (s.setGroup id (g.withCopy { c with late := true, segs := [] })).bump Reg.BLEND.LATE_COPIES := by
  rw [State.addSegment_late (g := g.withCopy c) hl hp h, State.lateCopy_eq (State.group?_setGroup_same ..),
    Group.setCopy_withCopy hnew, State.setGroup_setGroup]
  rfl

end

section
variable {s : State} {i : CopyInfo}

/-- A number for a group that opens. -/
def State.numberGroup (s : State) : State := { s with rx := { s.rx with nextGroup := s.rx.nextGroup + 1 } }

theorem State.placeCopy_new (hfor : s.groupFor i = none) (c : Copy) (x : SegIn) :
    s.placeCopy i c x = ((s.numberGroup.setGroup s.rx.nextGroup ((s.freshGroup i).withCopy c)).addSegment s.rx.nextGroup
      ((s.freshGroup i).withCopy c) c x).prefetchKey s.rx.nextGroup i.net c.head := by
  simp only [State.placeCopy, hfor]
  rfl

theorem State.placeCopy_taken {id : Nat} {g : Group} (hfor : s.groupFor i = some (id, g)) (c : Copy) (x : SegIn) :
    s.placeCopy i c x = ((s.setGroup id (g.withCopy c)).addSegment id (g.withCopy c) c x).prefetchKey id i.net c.head := by
  simp only [State.placeCopy, hfor]
  rfl

variable {head : List Byte} (phy : Nat) (bits : List Bool) (llrs : List Int)

theorem State.segmentIn_first (hno : s.groupOfCopy i.serial = none) :
    s.segmentIn i 0 head phy bits llrs = s.placeCopy i (i.opened phy head) ⟨0, bits, llrs, 0⟩ := by
  simp only [State.segmentIn, hno, if_true]
  rfl

theorem State.segmentIn_discarded (hno : s.groupOfCopy i.serial = none) (ix : Nat) :
    s.segmentIn i (ix + 1) head phy bits llrs = s := by
  simp [State.segmentIn, hno]

/-- A copy's first segment in a copy that has it. -/
def CopyInfo.withFirst (i : CopyInfo) (phy : Nat) (head : List Byte) (bits : List Bool) (llrs : List Int) (order : Nat) :
    Copy := { i.opened phy head with segs := [⟨0, bits, llrs, order⟩] }

section
variable (hno : s.groupOfCopy i.serial = none) (hkey : macClass head ≠ 0 ∨ macCvlen head = 0 ∨ s.kilnReady = false)
include hno hkey

/-- The first segment of a copy that no group takes opens a group with that copy alone. -/
theorem State.segmentIn_opens (hfor : s.groupFor i = none) :
    s.segmentIn i 0 head phy bits llrs = s.numberGroup.arrival.1.setGroup s.rx.nextGroup
      ((s.freshGroup i).withCopy (i.withFirst phy head bits llrs s.rx.nextOrder)) := by
  rw [State.segmentIn_first phy bits llrs hno, State.placeCopy_new hfor,
    State.addSegment_placed (by simp [State.freshGroup]) rfl (.inr ⟨rfl, List.not_mem_nil⟩)]
  refine State.prefetchKey_none ?_ _ _
  exact hkey

variable {id : Nat} {g : Group} (hfor : s.groupFor i = some (id, g)) (hnew : ∀ c ∈ g.copies, c.info.serial ≠ i.serial)
include hfor hnew

/-- The first segment of a copy that a group takes joins it to the group, with the segment where the group is open. -/
theorem State.segmentIn_joins (hopen : g.profile = 0 ∨ (g.closed = false ∧ 0 ∉ g.closedSegs)) :
    s.segmentIn i 0 head phy bits llrs = s.arrival.1.setGroup id
      (g.withCopy (i.withFirst phy head bits llrs s.rx.nextOrder)) := by
  rw [State.segmentIn_first phy bits llrs hno, State.placeCopy_taken hfor, State.addSegment_placed hnew rfl hopen]
  refine State.prefetchKey_none ?_ _ _
  exact hkey

/-- One whose group has closed the segment is a late copy. -/
theorem State.segmentIn_joinsLate (hp : g.profile ≠ 0) (hclosed : g.closed = true ∨ 0 ∈ g.closedSegs) :
    s.segmentIn i 0 head phy bits llrs = (s.setGroup id (g.withCopy { i.opened phy head with late := true })).bump
      Reg.BLEND.LATE_COPIES := by
  rw [State.segmentIn_first phy bits llrs hno, State.placeCopy_taken hfor, State.addSegment_placedLate hnew rfl hp hclosed]
  refine State.prefetchKey_none ?_ _ _
  exact hkey

end

end

end Sys2Proof.Machine

/-! SUPPORT. Frame records in a group (R17, R152, R156, R157): what makes the group provisional, the copies that it then
holds, the lowest of nine, late copies, and what the group counts. -/

namespace Sys2Proof.Machine

/-! ### Whose copies a group holds once it is provisional (R157) -/

/-- A group not yet provisional that holds the frame of group id. -/
def State.holdsFrameOf (s : State) (id : Nat) (g : Group) (p : Nat × Group) : Bool :=
  p.1 ≠ id && !p.2.prov && (p.2.copies.head?.any fun c => ({ g with die := none } : Group).takes s.blendForce c.info)

theorem State.regroup_thrift {s : State} (h : s.profile = 2) (id f : Nat) (g : Group) :
    (s.regroup id g f).2 = { g with die := some f, copies := g.copies.filter fun c => c.info.f = f } := by
  simp [State.regroup, h]

theorem State.regroup_everyDie {s : State} (h : s.profile ≠ 2) (id f : Nat) (g : Group) :
    s.regroup id g f = ({ s with rx := { s.rx with groups := s.rx.groups.filter fun p => !s.holdsFrameOf id g p } },
      { g with die := none, copies := g.copies ++ (s.rx.groups.filter (s.holdsFrameOf id g)).flatMap (·.2.copies) }) := by
  simp only [State.regroup, h, if_false]
  rfl

theorem State.holdsFrameOf_iff {s : State} {id : Nat} {g : Group} {p : Nat × Group} :
    s.holdsFrameOf id g p = true ↔ p.1 ≠ id ∧ p.2.prov = false
      ∧ ∃ c, p.2.copies.head? = some c ∧ ({ g with die := none } : Group).takes s.blendForce c.info = true := by
  simp [State.holdsFrameOf, Option.any_eq_true, and_assoc]

/-- Whose copies a group holds is told by the profile, BLEND.CFG and the groups alone. -/
theorem State.regroup_congr {s t : State} (hp : t.profile = s.profile) (hb : t.blendForce = s.blendForce)
    (hr : t.rx.groups = s.rx.groups) (id f : Nat) (g : Group) : (t.regroup id g f).2 = (s.regroup id g f).2 := by
  have hsame : t.holdsFrameOf id g = s.holdsFrameOf id g := by
    funext p
    simp only [State.holdsFrameOf, hb]
  by_cases h : s.profile = 2
  · rw [State.regroup_thrift (hp.trans h), State.regroup_thrift h]
  · rw [State.regroup_everyDie (hp ▸ h), State.regroup_everyDie h, hsame, hr]

theorem Frame.regroup {cs : List Component} {fields words : List Fld} {s t : State} (h : Frame cs fields words s t)
    (hc : .rx ∈ cs) (id : Nat) (g : Group) (f : Nat) : Frame cs fields words s (t.regroup id g f).1 := by
  by_cases hp : t.profile = 2
  · simp only [State.regroup, hp, if_true]
    refine h.each fun d _ x => ?_
    split
    · exact ((Frame.refl x).setRx hc _).setRx hc _
    · exact Frame.refl x
  · rw [State.regroup_everyDie hp]
    exact h.setRx hc _

/-! ### A record in its group -/

/-- A copy with its frame record, which came at a place in the order of arrival. -/
def Copy.withRecord (c : Copy) (r : FrameRecord) (order : Nat) : Copy :=
  { c with record := some (r.lqi, r.done), recordAt := order, phy := r.phy, head := r.head }

/-- A group that has become provisional outside Swift, under the profile and BLEND.CFG in force. -/
def State.madeProv (s : State) (g : Group) : Group :=
  { g with prov := true, profile := s.profile, cfg := s.blendForce, closed := false }

theorem Group.kept_length_le (g : Group) : g.kept.length ≤ g.copies.length := List.length_filter_le ..

theorem State.keepEight_few {s : State} {id : Nat} {g : Group} (hg : s.group? id = some g) (h : g.kept.length ≤ 8) :
    s.keepEight id = s := by
  simp only [State.keepEight, hg, h.not_gt, if_false]

/-- The ninth of the copies, by rank, leaves a group that has not been counted. -/
theorem State.keepEight_drops {s : State} {id : Nat} {g : Group} {b : Copy} (hg : s.group? id = some g)
    (h : 8 < g.kept.length) (hb : (rankCopies g.kept).getLast? = some b) (hc : g.counted = false) :
    s.keepEight id = s.setGroup id { (g.setCopy { b with late := true }).dropResult b.info.serial with
      surplus := g.surplus + 1 } := by
  simp only [State.keepEight, hg, h, if_true, hb, hc, Bool.false_eq_true, if_false]

theorem rankCopies_getLast? {l : List Copy} (h : l ≠ []) : ∃ b, (rankCopies l).getLast? = some b :=
  ⟨_, List.getLast?_eq_some_getLast (mt rankCopies_eq_nil.1 h)⟩

section
variable {s : State} {id : Nat} {g : Group} {c : Copy} {r : FrameRecord}

theorem State.recordIn_dropped (hl : c.late = false) (hp : g.profile ≠ 0) (hprov : g.prov = true) (hcl : g.closed = true) :
    s.recordIn id g c r = (s.setGroup id (g.dropCopy r.info.serial)).bump Reg.BLEND.LATE_COPIES := by
  simp [State.recordIn, hl, hp, hprov, hcl]

theorem State.provisional_first (hp : s.profile ≠ 0) (hprov : g.prov = false) :
    s.provisional id g r = ((s.regroup id g r.info.f).1.setGroup id (s.madeProv (s.regroup id g r.info.f).2)).bump
      Reg.BLEND.PROV_SEEN := by
  simp only [State.provisional, hprov, Bool.false_eq_true, if_false, hp, decide_false]
  rfl

theorem State.provisional_again (hprov : g.prov = true) : s.provisional id g r = s.setGroup id g := by
  simp only [State.provisional, hprov, if_true]

/-- A record that is not late, of a group outside Swift that has not been counted: the copy takes part. -/
theorem State.recordIn_taken {x : Group} (hl : c.late = false) (hopen : g.prov = false ∨ g.closed = false)
    (hcount : g.counted = false)
    (hx : (s.arrival.1.provisional id (g.setCopy (c.withRecord r s.rx.nextOrder)) r).group? id = some x)
    (hp : x.profile ≠ 0) :
    s.recordIn id g c r = (s.arrival.1.provisional id (g.setCopy (c.withRecord r s.rx.nextOrder)) r).keepEight id := by
  have hin : (decide (g.profile ≠ 0) && g.prov && g.closed) = false := by
    rcases hopen with h | h <;> simp [h]
  have hcount' (y : Copy) : (g.setCopy y).counted = false := hcount
  have hplace : s.arrival.2 = s.rx.nextOrder := rfl
  simp only [Copy.withRecord, hl] at hx ⊢
  simp only [State.recordIn, hl, hin, hcount', hplace, Bool.false_eq_true, if_false, State.when_false, hx, ne_eq, hp,
    not_false_eq_true, if_true]

/-- The first record of a group outside Swift makes it provisional; it holds at most eight copies. -/
theorem State.recordIn_first {x : Group} (hl : c.late = false) (hp : s.profile ≠ 0) (hprov : g.prov = false)
    (hcount : g.counted = false)
    (hx : x = (s.regroup id (g.setCopy (c.withRecord r s.rx.nextOrder)) r.info.f).2) (hfew : x.copies.length ≤ 8) :
    s.recordIn id g c r = ((s.arrival.1.regroup id (g.setCopy (c.withRecord r s.rx.nextOrder)) r.info.f).1.setGroup id
      (s.madeProv x)).bump Reg.BLEND.PROV_SEEN := by
  have hmade := State.provisional_first (s := s.arrival.1) (id := id) (r := r)
    (g := g.setCopy (c.withRecord r s.rx.nextOrder)) hp hprov
  rw [State.regroup_congr (s := s) (t := s.arrival.1) rfl rfl rfl, ← hx] at hmade
  have hgroup : (s.arrival.1.provisional id (g.setCopy (c.withRecord r s.rx.nextOrder)) r).group? id
      = some (s.madeProv x) := by
    rw [hmade, State.group?_bump, State.group?_setGroup_same]
    rfl
  rw [State.recordIn_taken hl (.inl hprov) hcount hgroup hp,
    State.keepEight_few hgroup ((Group.kept_length_le _).trans hfew), hmade]
  rfl

/-- A later record of a provisional group that is open and has not been counted. -/
theorem State.recordIn_later (hl : c.late = false) (hp : g.profile ≠ 0) (hprov : g.prov = true) (hcl : g.closed = false)
    (hcount : g.counted = false) :
    s.recordIn id g c r = (s.arrival.1.setGroup id (g.setCopy (c.withRecord r s.rx.nextOrder))).keepEight id := by
  have hagain := State.provisional_again (s := s.arrival.1) (id := id) (r := r)
    (g := g.setCopy (c.withRecord r s.rx.nextOrder)) hprov
  have hgroup : (s.arrival.1.provisional id (g.setCopy (c.withRecord r s.rx.nextOrder)) r).group? id
      = some (g.setCopy (c.withRecord r s.rx.nextOrder)) := by
    rw [hagain, State.group?_setGroup_same]
  rw [State.recordIn_taken hl (.inr hcl) hcount hgroup hp, hagain]

/-! ### What a group counts, once (R17, R156) -/

theorem State.countGroup_once (hg : s.group? id = some g) (hprov : g.prov = true) (hc : g.counted = false) :
    s.countGroup id = (((s.setGroup id { g with counted := true }).bump Reg.BLEND.GROUPS).bumpBy Reg.BLEND.COPIES
      ((g.copies.filter fun c => c.record.isSome && !c.late).length + g.surplus)).bumpBy Reg.BLEND.OVER_EIGHT
        g.surplus := by
  simp [State.countGroup, hg, hprov, hc]

theorem State.countGroup_not (hg : s.group? id = some g) (h : g.prov = false ∨ g.counted = true) :
    s.countGroup id = s := by
  rcases h with h | h <;> simp [State.countGroup, hg, h]

end

end Sys2Proof.Machine

/-! SUPPORT. What stops the list of a group's results (R154), END notices (R152), segments and windows that close (R153), and
the combined decode with its overload (R153, R155). -/

namespace Sys2Proof.Machine

section
variable {s : State} {id : Nat} {g : Group}

/-! ### A list of results that goes no further (R154) -/

/-- A group with a result at Kiln, or with one that has passed, goes no further down its list. -/
theorem State.verify_waits (hg : s.group? id = some g) (h : (g.checking.isSome || g.passed.isSome) = true) (n : Nat) :
    s.verify id (n + 1) = s := by
  simp only [State.verify, hg, h, if_true]

theorem State.verifyOn_waits (hg : s.group? id = some g) (h : (g.checking.isSome || g.passed.isSome) = true) :
    s.verifyOn id = s := by
  simpa only [State.verifyOn, hg] using State.verify_waits hg h _

theorem State.verifyOn_checking (hg : s.group? id = some g) (hc : g.checking.isSome = true) : s.verifyOn id = s :=
  State.verifyOn_waits hg (by simp [hc])

/-- A group whose next result is the combined one waits until it stands. -/
theorem State.verifyOn_awaitsCombined {l : List ResultSrc} (hg : s.group? id = some g) (hc : g.checking = none)
    (hp : g.passed = none) (ht : g.todo = .combined :: l) (hcomb : g.combined = none) : s.verifyOn id = s := by
  simp [State.verifyOn, State.verify, hg, hc, hp, ht, hcomb]

theorem State.groupEnds_unspent (hg : s.group? id = some g) (h : g.spent = false) :
    s.groupEnds id = s.releaseGroup id := by
  simp only [State.groupEnds, hg, h, Bool.false_eq_true, if_false]

theorem State.releaseGroup_stays (hg : s.group? id = some g) (h : g.heldOut = false ∨ g.checking.isSome = true) :
    s.releaseGroup id = s := by
  rcases h with h | h
  · simp [State.releaseGroup, hg, h]
  · simp [State.releaseGroup, hg, Option.isNone_eq_false_iff.2 h]

theorem State.releaseGroup_gone (hg : s.group? id = none) : s.releaseGroup id = s := by
  simp only [State.releaseGroup, hg]

/-- A group whose hold has ended is forgotten where nothing is left to do in it. -/
theorem State.releaseGroup_forgets (hg : s.group? id = some g) (hh : g.heldOut = true) (ht : g.todo = [])
    (hc : g.checking = none) (hp : g.passed = none) (hd : g.deliver = false) (he : g.elkOpen = false)
    (hcall : s.callOut id = false) : s.releaseGroup id = s.eraseGroup id := by
  simp [State.releaseGroup, hg, hh, ht, hc, hp, hd, he, hcall]

/-! ### END notices (R152) -/

/-- The last copy of a group that never had a record takes the group with it. -/
theorem State.noticeIn_last {serial : Nat} (hof : s.groupOfCopy serial = some (id, g))
    (hlast : ∀ c ∈ g.copies, c.info.serial = serial) (hprov : g.prov = false) :
    s.noticeIn serial = (s.eraseGroup id).cacheEnd id none := by
  have hempty : (g.dropCopy serial).copies = [] := List.filter_eq_nil_iff.2 fun c hc => by simp [hlast c hc]
  have hprov' : (g.dropCopy serial).prov = false := hprov
  simp only [State.noticeIn, hof, hempty, hprov', List.isEmpty_nil, Bool.not_false, Bool.and_self, if_true]

/-- A copy leaves a group that has others and nothing to verify. -/
theorem State.noticeIn_leaves {serial : Nat} (hof : s.groupOfCopy serial = some (id, g))
    (hother : ∃ c ∈ g.copies, c.info.serial ≠ serial) (hprov : g.prov = false) (ht : g.todo = [])
    (hh : g.heldOut = false) : s.noticeIn serial = s.setGroup id (g.dropCopy serial) := by
  obtain ⟨c, hc, hne⟩ := hother
  have hleft : (g.dropCopy serial).copies ≠ [] := List.ne_nil_of_mem (List.mem_filter.2 ⟨hc, by simpa using hne⟩)
  have hgroup : (s.setGroup id (g.dropCopy serial)).group? id = some (g.dropCopy serial) := by simp
  have hspent : (g.dropCopy serial).spent = false := by simp [Group.spent, Group.dropCopy, hprov]
  have hnotice : s.noticeIn serial = (s.setGroup id (g.dropCopy serial)).verifyOn id := by
    simp [State.noticeIn, hof, hleft]
  by_cases hidle : g.checking = none ∧ g.passed = none
  · rw [hnotice, State.verifyOn_nothingLeft hgroup ht hidle.1 hidle.2, State.groupEnds_unspent hgroup hspent,
      State.releaseGroup_stays hgroup (.inl hh)]
  · have hwaits : (g.checking.isSome || g.passed.isSome) = true := by
      simpa [Option.isSome_iff_ne_none, imp_iff_not_or] using hidle
    exact hnotice.trans (State.verifyOn_waits hgroup hwaits)

/-! ### Segments and windows that close (R153, R154) -/

theorem exec_segmentClose {seg : Nat} (hlive : s.live = true) (hg : s.group? id = some g) (hp : g.profile ≠ 0)
    (hc : g.closed = false) (hlast : seg + 1 < segCount (codedBits g.len)) (hnew : seg ∉ g.closedSegs)
    (hcame : ∃ c ∈ g.copies, ∃ x ∈ c.segs, x.ix = seg) :
    exec (.segmentClose id seg) s = .next (s.setGroup id { g with closedSegs := g.closedSegs ++ [seg] }) := by
  have hany : (g.copies.any fun c => c.segs.any fun y => y.ix = seg) = true := by simpa using hcame
  change Host.Outcome.next _ = _
  simp only [hg]
  rw [State.when_of]
  simp [hlive, hp, hc, hlast, hnew, hany]

/-- A group whose window has closed. -/
def Group.windowClosed (g : Group) : Group :=
  { g with closed := true, closedSegs := List.range (segCount (codedBits g.len)), wantsCombined := g.results.1,
           todo := g.results.2 }

/-- Outside Swift and with early-look off, a window that closes sets the list and starts on it. -/
theorem exec_windowClose (hlive : s.live = true) (hg : s.group? id = some g) (hprov : g.prov = true)
    (hc : g.closed = false) (hp : g.profile ≠ 0) (helk : s.on Reg.BLEND.ELK.EN = false) :
    exec (.windowClose id) s = .next ((s.setGroup id g.windowClosed).verifyOn id) := by
  have hquiet (i : CopyInfo) (head : List Byte) :
      (s.setGroup id g.windowClosed).elkOpens id g i head = s.setGroup id g.windowClosed := by
    have helk' : (s.setGroup id g.windowClosed).on Reg.BLEND.ELK.EN = false := helk
    simp [State.elkOpens, hp, helk']
  have hclose : s.windowClose id g = (s.setGroup id g.windowClosed).verifyOn id := by
    unfold State.windowClose
    cases hkept : g.kept.head? with
    | none => rfl
    | some c => exact congrArg (·.verifyOn id) (hquiet c.info c.head)
  change Host.Outcome.next _ = _
  simp [hg, hlive, hprov, hc, hclose]

/-- The request that verifies a result under a key class other than 0 (R117, R275). -/
def State.slotReq (s : State) (id : Nat) (g : Group) (r : ResultSrc) : CheckReq :=
  let h := g.frame r
  let n := g.len - cvBytes (macCvlen h)
  { why := .receive id, kc := some (macClass h), verify := true, trunc := cvBytes (macCvlen h),
    key := .slot (s.get (Reg.KILN.KEYMAP.VSLOT g.net (macClass h) (macIndex h))), msg := h.take n, tag := h.drop n,
    admitted := none }

/-- A group whose result is at Kiln under a slot's key. -/
def State.atKiln (s : State) (g : Group) (r : ResultSrc) : Group :=
  { g with checking := some (r, s.kiln.nextReq)
           key := some (.slot (s.get (Reg.KILN.KEYMAP.VSLOT g.net (macClass (g.frame r)) (macIndex (g.frame r)))))
           keyFor := (macSrc (g.frame r), macIndex (g.frame r)) }

/-- A copy's result with a check value under a map entry that stands goes to Kiln. -/
theorem State.tryResult_slot {n : Nat} (hg : s.group? id = some g) (hcv : cvBytes (macCvlen (g.frame (.copy n))) ≠ 0)
    (hclass : macClass (g.frame (.copy n)) ≠ 0) (hready : s.kilnReady = true) (happ : s.approved = false)
    (hen : s.on (Reg.KILN.KEYMAP.EN g.net (macClass (g.frame (.copy n))) (macIndex (g.frame (.copy n)))) = true) :
    s.tryResult id g (.copy n)
      = (s.newReq (s.slotReq id g (.copy n))).setGroup id (s.atKiln g (.copy n)) := by
  have hgroup (r : CheckReq) : (s.newReq r).group? id = some g := hg
  simp only [State.tryResult, reduceCtorEq, false_and, if_false, hcv, hready, hen, happ, Bool.not_true, Bool.or_self,
    Bool.false_and, Bool.false_eq_true, State.verifyKey, ne_eq, hclass, not_false_eq_true, if_true, State.onGroup, hgroup]
  rfl

/-- The only result of a list, sent to Kiln. -/
theorem State.verifyOn_slot {n : Nat} (hg : s.group? id = some g) (hc : g.checking = none) (hp : g.passed = none)
    (ht : g.todo = [.copy n]) (hcv : cvBytes (macCvlen (g.frame (.copy n))) ≠ 0)
    (hclass : macClass (g.frame (.copy n)) ≠ 0) (hready : s.kilnReady = true) (happ : s.approved = false)
    (hen : s.on (Reg.KILN.KEYMAP.EN g.net (macClass (g.frame (.copy n))) (macIndex (g.frame (.copy n)))) = true) :
    s.verifyOn id = (s.newReq (s.slotReq id g (.copy n))).setGroup id (s.atKiln { g with todo := [] } (.copy n)) := by
  have hset : (s.setGroup id { g with todo := [] }).group? id = some { g with todo := [] } :=
    State.group?_setGroup_same ..
  have hfirst : s.verifyOn id = ((s.setGroup id { g with todo := [] }).tryResult id { g with todo := [] } (.copy n)).verify
      id 1 := by
    simp [State.verifyOn, State.verify, hg, hc, hp, ht]
  rw [hfirst, State.tryResult_slot hset hcv hclass hready happ hen,
    State.verify_waits (State.group?_setGroup_same ..) (by simp [State.atKiln])]
  exact State.setGroup_setGroup (s.newReq (s.slotReq id g (.copy n))) id { g with todo := [] } _

/-! ### The combined decode (R153, R155) -/

theorem exec_blendDecodeDone {seg : Nat} (hlive : s.live = true) (hg : s.group? id = some g) (hseg : seg ∈ g.closedSegs)
    (hnew : seg ∉ g.decodedSegs) (hw : g.closed = false ∨ g.wantsCombined = true) :
    exec (.blendDecodeDone id seg) s = .next (s.blendDone id seg g) := by
  have hdue : (!g.closed || g.wantsCombined) = true := by simpa using hw
  change Host.Outcome.next _ = _
  simp [hg, hlive, hseg, hnew, hdue]

theorem State.blendDone_notLast {seg : Nat} (h : seg + 1 ≠ segCount (codedBits g.len)) :
    s.blendDone id seg g = s.setGroup id { g with decodedSegs := g.decodedSegs ++ [seg] } := by
  simp [State.blendDone, h]

/-- With the last segment the combined result stands, and waits behind the one at Kiln. -/
theorem State.blendDone_last {seg : Nat} (h : seg + 1 = segCount (codedBits g.len)) (hc : g.checking.isSome = true) :
    ∃ r n, s.blendDone id seg g
      = (s.setGroup id { g with decodedSegs := g.decodedSegs ++ [seg], combined := some r }).spend n := by
  refine ⟨_, _, (if_pos h).trans (State.verifyOn_checking (g := { g with
    decodedSegs := g.decodedSegs ++ [seg], combined := some _ }) (State.group?_setGroup_same ..) hc)⟩

theorem exec_blendOverload (hlive : s.live = true) (hg : s.group? id = some g) (hc : g.closed = true)
    (hw : g.wantsCombined = true) (hcomb : g.combined = none) (ho : g.overload = false) :
    exec (.blendOverload id) s = .next (s.blendOverload id g) := by
  change Host.Outcome.next _ = _
  simp [hg, hlive, hc, hw, hcomb, ho]

/-- An overload, counted and reported. -/
def State.overloaded (s : State) : State := (s.bump Reg.BLEND.OVERLOAD).fire 184

theorem State.overloaded_frame (s : State) :
    Frame signalled [] (Reg.BLEND.OVERLOAD :: alarmWords) s s.overloaded :=
  ((Frame.refl s).bump (by simp)).fire (List.Subset.refl _) (by simp) 184

theorem State.overloaded_pends (s : State) : s.overloaded.pends 184 := State.fire_pends _ _ _ (.inl (by decide))

theorem State.overloaded_stat (s : State) :
    s.overloaded.stat Reg.BLEND.OVERLOAD = (s.stat Reg.BLEND.OVERLOAD + 1) % 2 ^ 32 :=
  (State.fire_stat _ _ _ (by decide)).trans ((State.stat_bump ..).trans (if_pos rfl))

theorem State.blendOverload_noDone (h : g.doneCopies = []) :
    s.blendOverload id g = s.overloaded.setGroup id { g with overload := true } := by
  simp only [State.blendOverload, h, List.isEmpty_nil, if_true]
  rfl

theorem State.blendOverload_done (h : g.doneCopies ≠ []) (hc : g.checking.isSome = true) :
    s.blendOverload id g = s.overloaded.setGroup id
      { g with overload := true, wantsCombined := false, todo := g.todo.filter (· ≠ .combined) } :=
  (if_neg (by simpa using h)).trans (State.verifyOn_checking (g := { g with
    overload := true, wantsCombined := false, todo := g.todo.filter (· ≠ .combined) })
    (State.group?_setGroup_same ..) hc)

end

end Sys2Proof.Machine

/-! SUPPORT. Deadlines of early-look records (R158) and the end of a group's hold (R151, R200). -/

namespace Sys2Proof.Machine

section
variable {s : State} {id : Nat} {g : Group}

/-- The WITHDRAW of a provisional record: a record in its ring and a count, and the follow-up is no longer due. -/
theorem State.elkFollow_withdrawn (hg : s.group? id = some g) (he : g.elkOpen = true) (reason : Status) (late : Bool) :
    ∃ u, s.elkFollow id .withdrawn reason late = u.setGroup id { g with elkOpen := false }
      ∧ u.stat Reg.BLEND.ELK_WITHDRAW = (s.stat Reg.BLEND.ELK_WITHDRAW + 1) % 2 ^ 32
      ∧ Frame signalled [] (Reg.BLEND.ELK_WITHDRAW :: alarmWords) s u := by
  simp only [State.elkFollow, hg, he, Bool.not_true, Bool.false_eq_true, if_false, if_true]
  refine ⟨_, rfl, ?_, ?_⟩
  · rw [State.stat_bump, if_pos rfl, State.record_stat _ _ _ _ _ (by decide)]
    rfl
  · exact (((Frame.refl s).setRing (by simp [signalled]) _ _).record (List.Subset.refl _) (by simp) _ _ _).bump (by simp)

/-- The part that an early-look deadline leaves: the WITHDRAW, its counts and its source. -/
theorem exec_elkDeadline (hlive : s.live = true) (hg : s.group? id = some g) (he : g.elkOpen = true) :
    exec (.elkDeadline id) s = .next ((((s.elkFollow id .withdrawn .internal true).bump Reg.BLEND.ELK_DEADLINE).fire
      185).releaseGroup id) := by
  change Host.Outcome.next _ = _
  simp [hg, hlive, he]

/-- The words that an early-look deadline counts in. -/
def deadlineWords : List Fld := [Reg.BLEND.ELK_DEADLINE, Reg.BLEND.ELK_WITHDRAW] ++ alarmWords

theorem elkDeadline_withdraws (hlive : s.live = true) (hg : s.group? id = some g) (he : g.elkOpen = true) :
    ∃ t, exec (.elkDeadline id) s = .next t ∧ t.pends 185
      ∧ (∀ x, t.group? id = some x → x = { g with elkOpen := false })
      ∧ t.stat Reg.BLEND.ELK_DEADLINE = (s.stat Reg.BLEND.ELK_DEADLINE + 1) % 2 ^ 32
      ∧ t.stat Reg.BLEND.ELK_WITHDRAW = (s.stat Reg.BLEND.ELK_WITHDRAW + 1) % 2 ^ 32
      ∧ Frame (.rx :: signalled) [] deadlineWords s t := by
  obtain ⟨u, hu, hwithdraw, hframe⟩ := State.elkFollow_withdrawn hg he .internal true
  have hdue := exec_elkDeadline hlive hg he
  rw [hu] at hdue
  have hrelease (x : State) : Frame [.rx] [] [] x (x.releaseGroup id) := (Frame.refl x).releaseGroup (by simp) id
  refine ⟨_, hdue, ?_, fun x hx => ?_, ?_, ?_, ?_⟩
  · rw [State.pends, show State.evt _ = _ from (hrelease _).same (c := .evt) (by simp)]
    exact State.fire_pends _ _ _ (.inl (by decide))
  · have hx' := State.group?_of_releaseGroup hx
    rw [State.group?_fire, State.group?_bump, State.group?_setGroup_same, Option.some.injEq] at hx'
    exact hx'.symm
  · rw [(hrelease _).stat (by simp), State.fire_stat _ _ _ (by decide), State.stat_bump, if_pos rfl]
    exact congrArg (fun n => (n + 1) % 2 ^ 32) (hframe.stat (by decide))
  · rw [(hrelease _).stat (by simp), State.fire_stat _ _ _ (by decide), State.stat_bump, if_neg (by decide)]
    exact hwithdraw
  · exact ((((hframe.mono (by simp) (by simp) (by simp [deadlineWords])).setRx (by simp) _).bump
      (by simp [deadlineWords])).fire (by simp) (by simp [deadlineWords]) 185).releaseGroup (by simp) id

/-! ### The end of the hold -/

/-- Nothing is learned before a frame is confirmed. -/
theorem State.learnPoint_unconfirmed (hg : s.group? id = some g) (hc : g.confirmed = none) : s.learnPoint id = s := by
  simp only [State.learnPoint, hg, hc]

/-- The hold of a group without a confirmed frame ends. -/
theorem exec_groupHoldEnd (hlive : s.live = true) (hg : s.group? id = some g) (hc : g.closed = true)
    (hh : g.heldOut = false) (hconf : g.confirmed = none) :
    exec (.groupHoldEnd id) s
      = .next (((s.setGroup id { g with heldOut := true }).verifyOn id).releaseGroup id) := by
  have hlearn : (s.setGroup id { g with heldOut := true }).learnPoint id = s.setGroup id { g with heldOut := true } :=
    State.learnPoint_unconfirmed (State.group?_setGroup_same ..) hconf
  change Host.Outcome.next _ = _
  simp only [hg]
  rw [State.when_of (by simp [hlive, hc, hh]), hlearn]

/-- A group that has ended and in which nothing is left is forgotten as its hold ends. -/
theorem groupHoldEnd_forgets (hlive : s.live = true) (hg : s.group? id = some g) (hc : g.closed = true)
    (hh : g.heldOut = false) (hend : g.ended = true) (hconf : g.confirmed = none) (ht : g.todo = [])
    (hk : g.checking = none) (hp : g.passed = none) (hd : g.deliver = false) (he : g.elkOpen = false)
    (hcall : s.callOut id = false) :
    exec (.groupHoldEnd id) s = .next ((s.setGroup id { g with heldOut := true }).eraseGroup id) := by
  have hset : (s.setGroup id { g with heldOut := true }).group? id = some { g with heldOut := true } :=
    State.group?_setGroup_same ..
  have hspent : ({ g with heldOut := true } : Group).spent = false := by simp [Group.spent, hend]
  rw [exec_groupHoldEnd hlive hg hc hh hconf, State.verifyOn_nothingLeft hset ht hk hp,
    State.groupEnds_unspent hset hspent, State.releaseGroup_forgets hset rfl ht hk hp hd he hcall,
    State.releaseGroup_gone ((State.group?_eraseGroup ..).trans (if_pos rfl))]

/-- One whose result is at Kiln stays. -/
theorem groupHoldEnd_stays (hlive : s.live = true) (hg : s.group? id = some g) (hc : g.closed = true)
    (hh : g.heldOut = false) (hconf : g.confirmed = none) (hk : g.checking.isSome = true) :
    exec (.groupHoldEnd id) s = .next (s.setGroup id { g with heldOut := true }) := by
  have hset : (s.setGroup id { g with heldOut := true }).group? id = some { g with heldOut := true } :=
    State.group?_setGroup_same ..
  rw [exec_groupHoldEnd hlive hg hc hh hconf, State.verifyOn_checking hset hk, State.releaseGroup_stays hset (.inr hk)]

end

end Sys2Proof.Machine

/-! CERTIFICATE. Reception groups and Blend (R151 to R155, R158). -/

namespace Sys2Proof.Machine

/-! ### What a group takes, and segments -/

theorem Group.takes_spec {g : Group} {b : BlendForce} {i : CopyInfo} (h : g.takes b i = true) :
    g.net = i.net ∧ g.rate = i.rate ∧ g.grid = i.grid ∧ g.len = i.len ∧ g.heldOut = false
      ∧ (∀ f, g.die = some f → f = i.f)
      ∧ i.syncNs - g.firstNs ≤ ((if g.prov then g.cfg.tsTol else b.tsTol) * 250 : Nat)
      ∧ g.firstNs - i.syncNs ≤ ((if g.prov then g.cfg.tsTol else b.tsTol) * 250 : Nat) := by
  simp only [Group.takes, Bool.and_eq_true, Bool.not_eq_true', decide_eq_true_eq] at h
  obtain ⟨⟨⟨⟨⟨⟨⟨hheld, hnet⟩, hrate⟩, hgrid⟩, hlen⟩, hdie⟩, hafter⟩, hbefore⟩ := h
  have htol : (if g.prov then g.cfg.tsTol else b.tsTol) = (if g.prov then g.cfg else b).tsTol := by split <;> rfl
  rw [htol]
  exact ⟨hnet, hrate, hgrid, hlen, hheld, fun f hf => by simpa [hf] using hdie, mod_cast hafter, mod_cast hbefore⟩

section
variable {s : State} {f : Fin 6} {i : CopyInfo} {head : List Byte} {phy : Nat} {bits : List Bool} {llrs : List Int}
  {l : List UpMsg} (hlive : s.live = true) (hno : s.groupOfCopy i.serial = none)
include hlive hno

theorem segmentArrival_discards {ix : Nat} (hup : s.upMsgs f = .segment i (ix + 1) head phy bits llrs :: l) :
    ∃ t, exec (.segmentArrival f) s = .next t ∧ t.upMsgs f = l ∧ Frame [.air] [] [] s t := by
  have hsame := State.segmentIn_discarded (s := s.popUp f) (head := head) phy bits llrs hno ix
  have hframe : Frame [] [] [] (s.popUp f) (s.popUp f) := Frame.refl _
  exact ⟨_, hsame ▸ exec_segmentArrival hlive hup, hframe.upMsgs_rest List.not_mem_nil hup, hframe.of_popUp⟩

variable (hup : s.upMsgs f = .segment i 0 head phy bits llrs :: l)
  (hkey : macClass head ≠ 0 ∨ macCvlen head = 0 ∨ s.kilnReady = false)
include hup hkey

theorem segmentArrival_opens (hfor : s.groupFor i = none) :
    ∃ t, exec (.segmentArrival f) s = .next t ∧ t.upMsgs f = l
      ∧ t.rx = { s.rx with nextGroup := s.rx.nextGroup + 1, nextOrder := s.rx.nextOrder + 1, groups := (Tbl.put s.rx.groups
          s.rx.nextGroup { s.freshGroup i with
            copies := [⟨i, phy, head, [⟨0, bits, llrs, s.rx.nextOrder⟩], none, 0, false⟩] }) }
      ∧ (∀ g, g ≠ f.val → t.upMsgs g = s.upMsgs g) ∧ Frame [.air, .rx] [] [] s t := by
  have hopens := State.segmentIn_opens (s := s.popUp f) phy bits llrs hno hkey hfor
  have hframe : Frame [.rx] [] [] (s.popUp f) ((s.popUp f).segmentIn i 0 head phy bits llrs) :=
    hopens ▸ (Frame.refl _).setRx (by simp) _
  refine ⟨_, exec_segmentArrival hlive hup, hframe.upMsgs_rest (by simp) hup, ?_, fun g hg => ?_, hframe.of_popUp⟩
  · rw [hopens]
    rfl
  · rw [hopens]
    exact (State.upMsgs_popUp ..).trans (if_neg hg.symm)

/-- The copy joins with its segment where the group is open, and late where it has closed the segment. -/
theorem segmentArrival_joins {id : Nat} {g : Group} (hfor : s.groupFor i = some (id, g))
    (hnew : ∀ c ∈ g.copies, c.info.serial ≠ i.serial) :
    ∃ t g' c, exec (.segmentArrival f) s = .next t ∧ t.upMsgs f = l ∧ t.group? id = some g'
      ∧ g'.copies = g.copies ++ [c] ∧ c.info = i ∧ c.record = none
      ∧ (g.profile ≠ 0 → g.closed = true → c.late = true ∧ c.segs = []
          ∧ t.stat Reg.BLEND.LATE_COPIES = (s.stat Reg.BLEND.LATE_COPIES + 1) % 2 ^ 32)
      ∧ (g.profile = 0 ∨ (g.closed = false ∧ g.closedSegs = []) →
          c.late = false ∧ c.segs = [⟨0, bits, llrs, s.rx.nextOrder⟩])
      ∧ (∀ j, j ≠ id → t.group? j = s.group? j) ∧ Frame [.air, .rx] [] [Reg.BLEND.LATE_COPIES] s t := by
  rw [exec_segmentArrival hlive hup]
  by_cases hopen : g.profile = 0 ∨ (g.closed = false ∧ 0 ∉ g.closedSegs)
  · rw [State.segmentIn_joins (s := s.popUp f) phy bits llrs hno hkey hfor hnew hopen]
    have hframe : Frame [.rx] [] [] (s.popUp f) ((s.popUp f).arrival.1.setGroup id
        (g.withCopy (i.withFirst phy head bits llrs (s.popUp f).rx.nextOrder))) :=
      ((Frame.refl _).setRx (by simp) _).setGroup (by simp) _ _
    refine ⟨_, _, _, rfl, hframe.upMsgs_rest (by simp) hup,
      State.group?_setGroup_same .., rfl, rfl, rfl, fun hp hc => ?_, fun _ => ⟨rfl, rfl⟩,
      fun j hj => (State.group?_setGroup ..).trans (if_neg hj.symm),
      hframe.of_popUp.mono (List.Subset.refl _) (List.Subset.refl _) (by simp)⟩
    simp [hp, hc] at hopen
  · obtain ⟨hp, hclosed⟩ := not_or.1 hopen
    have hclosed' : g.closed = true ∨ 0 ∈ g.closedSegs :=
      (Bool.eq_false_or_eq_true g.closed).imp_right fun hc => by_contra fun hseg => hclosed ⟨hc, hseg⟩
    rw [State.segmentIn_joinsLate (s := s.popUp f) phy bits llrs hno hkey hfor hnew hp hclosed']
    have hframe : Frame [.rx] [] [Reg.BLEND.LATE_COPIES] (s.popUp f) (((s.popUp f).setGroup id
        (g.withCopy { i.opened phy head with late := true })).bump Reg.BLEND.LATE_COPIES) :=
      ((Frame.refl _).setRx (by simp) _).bump (by simp)
    refine ⟨_, _, _, rfl, hframe.upMsgs_rest (by simp) hup, State.group?_setGroup_same .., rfl, rfl, rfl,
      fun _ _ => ⟨rfl, rfl, (State.stat_bump ..).trans (if_pos rfl)⟩, fun h => ?_,
      fun j hj => (State.group?_setGroup ..).trans (if_neg hj.symm), hframe.of_popUp⟩
    rcases h with h | ⟨hc, hs⟩
    · exact absurd h hp
    · simp [hc, hs] at hclosed'

end

/-! ### Frame records -/

section
variable {s : State} {f : Fin 6} {r : FrameRecord} {l : List UpMsg} {id : Nat} {g : Group} {c : Copy}
  (hlive : s.live = true) (hup : s.upMsgs f = .record r :: l) (hof : s.groupOfCopy r.info.serial = some (id, g))
  (hc : g.copy? r.info.serial = some c) (hl : c.late = false)
include hlive hup hof hc hl

theorem frameRecordArrival_first {x : Group} (hp : s.profile ≠ 0) (hprov : g.prov = false) (hcount : g.counted = false)
    (hx : x = (s.regroup id (g.setCopy (c.withRecord r s.rx.nextOrder)) r.info.f).2) (hfew : x.copies.length ≤ 8) :
    ∃ t, exec (.frameRecordArrival f) s = .next t ∧ t.upMsgs f = l ∧ t.group? id = some (s.madeProv x)
      ∧ t.stat Reg.BLEND.PROV_SEEN = (s.stat Reg.BLEND.PROV_SEEN + 1) % 2 ^ 32
      ∧ Frame [.air, .rx] [] [Reg.BLEND.PROV_SEEN] s t := by
  have hregroup : Frame [.rx] [] [] (s.popUp f)
      ((s.popUp f).arrival.1.regroup id (g.setCopy (c.withRecord r s.rx.nextOrder)) r.info.f).1 :=
    ((Frame.refl _).setRx (by simp) _).regroup (by simp) _ _ _
  have hframe := ((hregroup.mono (words' := [Reg.BLEND.PROV_SEEN]) (List.Subset.refl _) (List.Subset.refl _)
    (by simp)).setGroup (by simp) id (s.madeProv x)).bump (List.mem_singleton_self _)
  have hx' := hx.trans (State.regroup_congr (s := s) (t := s.popUp f) rfl rfl rfl id r.info.f _).symm
  refine ⟨_, (exec_frameRecordArrival hlive hup hof hc).trans (congrArg _ (State.recordIn_first (s := s.popUp f)
    hl hp hprov hcount hx' hfew)), hframe.upMsgs_rest (by simp) hup, ?_, ?_, hframe.of_popUp⟩
  · rw [State.group?_bump, State.group?_setGroup_same]
    rfl
  · rw [State.stat_bump, if_pos rfl]
    exact congrArg (fun n => (n + 1) % 2 ^ 32) (hregroup.stat (by simp))

theorem frameRecordArrival_later {x : Group} (hp : g.profile ≠ 0) (hprov : g.prov = true) (hcl : g.closed = false)
    (hcount : g.counted = false) (hx : x = g.setCopy (c.withRecord r s.rx.nextOrder)) :
    ∃ t g', exec (.frameRecordArrival f) s = .next t ∧ t.group? id = some g'
      ∧ (x.kept.length ≤ 8 → g' = x)
      ∧ (8 < x.kept.length → g'.surplus = g.surplus + 1 ∧ ∃ b, (rankCopies x.kept).getLast? = some b
          ∧ g'.copies = x.copies.map fun y => if y.info.serial = b.info.serial then { b with late := true } else y)
      ∧ Frame [.air, .rx] [] [] s t := by
  have hcount' : x.counted = false := hx ▸ hcount
  have hlater : (s.popUp f).recordIn id g c r = ((s.popUp f).arrival.1.setGroup id x).keepEight id :=
    hx ▸ State.recordIn_later (s := s.popUp f) hl hp hprov hcl hcount
  have hset : ((s.popUp f).arrival.1.setGroup id x).group? id = some x := State.group?_setGroup_same ..
  have hframe : Frame [.rx] [] [] (s.popUp f) ((s.popUp f).arrival.1.setGroup id x) :=
    ((Frame.refl _).setRx (by simp) _).setRx (by simp) _
  rw [exec_frameRecordArrival hlive hup hof hc, hlater]
  rcases Nat.lt_or_ge 8 x.kept.length with hmany | hfew
  · obtain ⟨b, hb⟩ := rankCopies_getLast? (l := x.kept) (List.length_pos_iff.1 (Nat.zero_lt_of_lt hmany))
    rw [State.keepEight_drops hset hmany hb hcount']
    refine ⟨_, _, rfl, State.group?_setGroup_same .., fun h => absurd h (by omega), fun _ => ⟨?_, b, hb, rfl⟩,
      (hframe.setRx (by simp) _).of_popUp⟩
    rw [hx]
    rfl
  · rw [State.keepEight_few hset hfew]
    exact ⟨_, x, rfl, hset, fun _ => rfl, fun h => absurd h (by omega), hframe.of_popUp⟩

theorem frameRecordArrival_late (hp : g.profile ≠ 0) (hprov : g.prov = true) (hcl : g.closed = true) :
    ∃ t, exec (.frameRecordArrival f) s = .next t ∧ t.group? id = some (g.dropCopy r.info.serial)
      ∧ t.stat Reg.BLEND.LATE_COPIES = (s.stat Reg.BLEND.LATE_COPIES + 1) % 2 ^ 32
      ∧ Frame [.air, .rx] [] [Reg.BLEND.LATE_COPIES] s t :=
  ⟨_, (exec_frameRecordArrival hlive hup hof hc).trans (congrArg _ (State.recordIn_dropped hl hp hprov hcl)),
    State.group?_setGroup_same .., (State.stat_bump ..).trans (if_pos rfl),
    (((Frame.refl (s.popUp f)).setRx (by simp) _).bump (by simp)).of_popUp⟩

end

theorem State.countGroup_counts {s : State} {id : Nat} {g : Group} (hg : s.group? id = some g) (hprov : g.prov = true)
    (hc : g.counted = false) :
    (s.countGroup id).group? id = some { g with counted := true }
      ∧ (s.countGroup id).stat Reg.BLEND.GROUPS = (s.stat Reg.BLEND.GROUPS + 1) % 2 ^ 32
      ∧ (s.countGroup id).stat Reg.BLEND.COPIES = (s.stat Reg.BLEND.COPIES
          + ((g.copies.filter fun c => c.record.isSome && !c.late).length + g.surplus)) % 2 ^ 32
      ∧ (s.countGroup id).stat Reg.BLEND.OVER_EIGHT = (s.stat Reg.BLEND.OVER_EIGHT + g.surplus) % 2 ^ 32 := by
  have hgc : Reg.BLEND.GROUPS.key ≠ Reg.BLEND.COPIES.key := by decide
  have hgo : Reg.BLEND.GROUPS.key ≠ Reg.BLEND.OVER_EIGHT.key := by decide
  have hco : Reg.BLEND.COPIES.key ≠ Reg.BLEND.OVER_EIGHT.key := by decide
  have hkept (w : Fld) : (s.setGroup id { g with counted := true }).stat w = s.stat w := rfl
  rw [State.countGroup_once hg hprov hc]
  refine ⟨State.group?_setGroup_same .., ?_, ?_, ?_⟩
  · simp [hgc.symm, hgo.symm, hkept]
  · simp [hgc, hco.symm, hkept]
  · simp [hgo, hco, hkept]

/-! ### Windows that close -/

section
variable {s : State} {id : Nat} {g : Group} (hlive : s.live = true) (hg : s.group? id = some g) (hprov : g.prov = true)
  (hc : g.closed = false) (hp : g.profile ≠ 0) (helk : s.on Reg.BLEND.ELK.EN = false) (hk : g.checking = none)
  (hpass : g.passed = none)
include hlive hg hprov hc hp helk hk hpass

theorem windowClose_combined (hres : g.results.1 = true) (hcomb : g.combined = none) :
    ∃ t, exec (.windowClose id) s = .next t
      ∧ t.group? id = some { g with
            closed := true, closedSegs := List.range (segCount (codedBits g.len)), wantsCombined := true,
            todo := .combined :: g.doneCopies.map fun c => .copy c.info.serial }
      ∧ Frame [.rx] [] [] s t := by
  have hlist : g.results.2 = .combined :: g.doneCopies.map fun c => .copy c.info.serial := by
    rw [Group.results_list, hres]
    rfl
  have hclosed : g.windowClosed = { g with
      closed := true, closedSegs := List.range (segCount (codedBits g.len)), wantsCombined := true,
      todo := .combined :: g.doneCopies.map fun c => .copy c.info.serial } := by
    simp only [Group.windowClosed, hres, hlist]
  have hset := State.group?_setGroup_same s id g.windowClosed
  rw [exec_windowClose hlive hg hprov hc hp helk, State.verifyOn_awaitsCombined hset hk hpass hlist hcomb]
  exact ⟨_, rfl, hclosed ▸ hset, (Frame.refl s).setGroup (by simp) _ _⟩

theorem windowClose_slot {n : Nat} (hres : g.results = (false, [.copy n]))
    (hcv : cvBytes (macCvlen (g.frame (.copy n))) ≠ 0) (hclass : macClass (g.frame (.copy n)) ≠ 0)
    (hready : s.kilnReady = true) (happ : s.approved = false)
    (hen : s.on (Reg.KILN.KEYMAP.EN g.net (macClass (g.frame (.copy n))) (macIndex (g.frame (.copy n)))) = true) :
    ∃ t, exec (.windowClose id) s = .next t
      ∧ Tbl.find? t.kiln.reqs s.kiln.nextReq = some { s.slotReq id g (.copy n) with since := s.counterNs }
      ∧ (∃ x, t.group? id = some x ∧ x.checking = some (.copy n, s.kiln.nextReq) ∧ x.closed = true ∧ x.todo = [])
      ∧ Frame [.rx, .kiln] [] [] s t := by
  have hset := State.group?_setGroup_same s id g.windowClosed
  have htodo : g.windowClosed.todo = [.copy n] := congrArg Prod.snd hres
  rw [exec_windowClose hlive hg hprov hc hp helk, State.verifyOn_slot hset hk hpass htodo hcv hclass hready happ hen]
  exact ⟨_, rfl, (Tbl.find?_put ..).trans (if_pos rfl), ⟨_, State.group?_setGroup_same .., rfl, rfl, rfl⟩,
    (((Frame.refl s).setGroup (by simp) _ _).setKiln (by simp) _).setGroup (by simp) _ _⟩

end

/-- Settles O26, clause by clause: each command runs its operation on the group, whose laws stand above. -/
theorem groupCommands : Obligations.GroupCommands := by
  unfold Obligations.GroupCommands
  refine ⟨?_, ?_, ?_, fun _ _ _ h => Group.takes_spec h, ?_, fun _ id f g h => State.regroup_thrift h id f g, ?_, ?_, ?_,
    fun _ _ _ hg h => State.countGroup_not hg h, ?_, ?_, ?_, ?_, ?_, ?_, ?_,
    fun g => ⟨g.results_wants, g.results_list, rankCopies_pairwise _⟩, ?_, ?_, sat255_range, ?_, ?_,
    fun _ _ _ hlive hg he => elkDeadline_withdraws hlive hg he, ?_, ?_⟩
  · exact fun s f i head phy bits llrs l hlive hup hno hfor hkey => segmentArrival_opens hlive hno hup hkey hfor
  · exact fun s f i head phy bits llrs l id g hlive hup hno hfor hnew hkey =>
      segmentArrival_joins hlive hno hup hkey hfor hnew
  · exact fun s f i ix head phy bits llrs l hlive hup hno => segmentArrival_discards hlive hno hup
  · exact fun s f r l id g x c hlive hup hof hc hl hp hprov hcount hx hfew =>
      frameRecordArrival_first hlive hup hof hc hl hp hprov hcount hx hfew
  · intro s id f g hp
    rw [State.regroup_everyDie hp]
    refine ⟨_, rfl, fun p => ?_, fun p hin hleft => ?_⟩
    · rw [List.mem_filter, State.holdsFrameOf_iff]
    · simp [(List.mem_filter.1 hin).2] at hleft
  · exact fun s f r l id g x c hlive hup hof hc hl hp hprov hcl hcount hx =>
      frameRecordArrival_later hlive hup hof hc hl hp hprov hcl hcount hx
  · intro s id g hg hprov hc
    obtain ⟨hgroup, hgroups, hcopies, hover⟩ := State.countGroup_counts hg hprov hc
    exact ⟨_, rfl, hgroup, hgroups, hcopies, hover, (Frame.refl s).countGroup (by simp) (List.Subset.refl _) id⟩
  · exact fun s f r l id g c hlive hup hof hc hl hp hprov hcl =>
      frameRecordArrival_late hlive hup hof hc hl hp hprov hcl
  · intro s f r l hlive hup hof
    exact ⟨_, exec_frameRecordArrival_released hlive hup hof, (State.stat_bump ..).trans (if_pos rfl),
      ((Frame.refl (s.popUp f)).bump (by simp)).of_popUp⟩
  · intro s f serial b l id g hlive hup hof hlast hprov
    have hgone := State.noticeIn_last (s := s.popUp f) hof hlast hprov
    have hframe : Frame [.rx, .kiln] [] [] (s.popUp f) (((s.popUp f).eraseGroup id).cacheEnd id none) :=
      ((Frame.refl _).setRx (by simp) _).setKiln (by simp) _
    refine ⟨_, hgone ▸ exec_endNoticeArrival hlive hup, hframe.upMsgs_rest (by simp) hup, ?_, fun j hj => ?_,
      hframe.of_popUp⟩
    · rw [State.group?_cacheEnd, State.group?_eraseGroup, if_pos rfl]
    · rw [State.group?_cacheEnd, State.group?_eraseGroup, if_neg hj.symm]
      rfl
  · intro s f serial b l id g hlive hup hof hother hprov ht hh
    have hleaves := State.noticeIn_leaves (s := s.popUp f) hof hother hprov ht hh
    exact ⟨_, hleaves ▸ exec_endNoticeArrival hlive hup, State.group?_setGroup_same ..,
      ((Frame.refl (s.popUp f)).setRx (by simp) _).of_popUp⟩
  · intro s id seg g hlive hg hp hc hlast hnew hcame
    exact ⟨_, exec_segmentClose hlive hg hp hc hlast hnew hcame, rfl, (Frame.refl s).setRx (by simp) _⟩
  · exact fun s id g hlive hg hprov hc hp helk hres hcomb hk hpass =>
      windowClose_combined hlive hg hprov hc hp helk hk hpass hres hcomb
  · intro s id g n h hlive hg hprov hc hp helk hres hk hpass hh hcv hclass hready happ hen
    subst hh
    exact windowClose_slot hlive hg hprov hc hp helk hk hpass hres hcv hclass hready happ hen
  · intro s id seg g hlive hg hseg hnew hw hlast
    rw [exec_blendDecodeDone hlive hg hseg hnew hw, State.blendDone_notLast hlast]
    exact ⟨_, rfl, rfl, (Frame.refl s).setRx (by simp) _⟩
  · intro s id seg g hlive hg hseg hnew hw hlast hk
    obtain ⟨r, n, hdone⟩ := State.blendDone_last (s := s) (id := id) hlast hk
    rw [exec_blendDecodeDone hlive hg hseg hnew hw, hdone]
    exact ⟨_, r, rfl, State.group?_setGroup_same .., ((Frame.refl s).setRx (by simp) _).spend (by simp) n⟩
  · intro s id g hlive hg hc hw hcomb ho hnone
    rw [exec_blendOverload hlive hg hc hw hcomb ho, State.blendOverload_noDone hnone]
    exact ⟨_, rfl, s.overloaded_pends, State.group?_setGroup_same .., s.overloaded_stat,
      (s.overloaded_frame.mono (by simp) (by simp) (by simp [alarmWords])).setRx (by simp) _⟩
  · intro s id g hlive hg hc hw hcomb ho hdone hk
    rw [exec_blendOverload hlive hg hc hw hcomb ho, State.blendOverload_done hdone hk]
    exact ⟨_, rfl, s.overloaded_pends, State.group?_setGroup_same .., s.overloaded_stat⟩
  · intro s id g hlive hg hc hh hend hconf ht hk hp hd he hcall
    refine ⟨_, groupHoldEnd_forgets hlive hg hc hh hend hconf ht hk hp hd he hcall,
      (State.group?_eraseGroup ..).trans (if_pos rfl), fun j hj => ?_,
      ((Frame.refl s).setGroup (by simp) _ _).setRx (by simp) _⟩
    rw [State.group?_eraseGroup, if_neg hj.symm, State.group?_setGroup, if_neg hj.symm]
  · intro s id g hlive hg hc hh hconf hk
    exact ⟨_, groupHoldEnd_stays hlive hg hc hh hconf hk, State.group?_setGroup_same ..,
      (Frame.refl s).setRx (by simp) _⟩

end Sys2Proof.Machine
